-- ==== Sys2Proof/Word.lean ====
section
/-! DEFINITION. The words the block moves: a byte, a 32-bit register word (R42), a 64-bit data word, and the
kinds of a register field (R14). -/

namespace Sys2Proof

/-- A byte of a memory, a packet or a buffer. -/
abbrev Byte := BitVec 8

/-- A register of the management aperture is an aligned 32-bit word (R42). -/
abbrev Word := BitVec 32

/-- A 64-bit data word: an accumulator, a memory word's data part, a span channel entry. -/
abbrev DWord := BitVec 64

end Sys2Proof
end

