-- ==== Sys2Proof/Syntax.lean ====
section
/-! DEFINITION. The commands of the block: one constructor of `Instr` for each row of spec/opcode_table.json, with the
operands the row's rules speak of. A command comes from outside: a register access of an origin, an operation of the fabric,
of a link or of a bus, or an event whose time the manual leaves to the hardware (a timeout, a lock, an edge). -/

namespace Sys2Proof

/-- The origins of an aperture access, as `ERR_CAPTURE.ORIGIN` numbers them (R56, R596). A debug session's level is
`DBG_SESSION.LEVEL`; `config` is the configuration controller. -/
inductive Origin
  | pcie | i2c | monitor | debug | skein | ply | config
  deriving DecidableEq, Repr

/-- One word of a write request: its data and its four byte enables (R42). -/
structure WriteWord where
  data : Word
  be : BitVec 4 := 0xF
  deriving DecidableEq, Repr

/-- A Skein flit: the 48-bit header and the 64-byte payload (R296). -/
structure Flit where
  hdr : BitVec 48
  data : BitVec 512
  deriving DecidableEq, Repr

/-- A wire map of one module direction as a message carries it: the usable wires and the position each spare serves
(R122, R138). -/
structure WireMap where
  mask : BitVec 68
  assign : BitVec 28
  deriving DecidableEq, Repr

/-- What a controller learns of a DIMM in bring-up (R356, R358, R360, R378): from the SPD, the kind (1 RDIMM, 2 MRDIMM), ranks,
device width, density and highest rate; from the mode registers, RFM and DRFM. -/
structure Dimm where
  kind : Nat := 1
  ranks : Nat := 1
  x8 : Bool := false
  density : Nat := 0
  spdMax : Nat := 0
  rfm : Bool := false
  drfm : Bool := false
  raaimt : Nat := 0
  raammt : Nat := 0
  deriving DecidableEq, Repr

/-- What reaches a lane in a span cycle (R322, R330): `lane` is its place in its die, W lanes 0 to 31 and L lanes 32 to 63; the symbols at its
receiver, `OS` samples for each bit, PAM4 levels 0 to 3; or, with FEC, the 66-bit blocks of the codewords that its decoder has completed. -/
structure LaneLine where
  lane : Nat
  symbols : List (BitVec 2) := []
  blocks : List (BitVec 66) := []
  deriving DecidableEq, Repr

/-- An engine record of an `ENGINES` body (R431). -/
structure EngineImage where
  engine : Nat
  autorun : Bool
  bootPc : Word
  imem : List Byte
  spad : List Byte
  deriving DecidableEq, Repr


/-- A Ply frame as it arrives on a port (0 N, 1 P): its header, its tag with byte 0 lowest, and its payload as encrypted (R542). -/
structure PlyRx where
  port : Nat
  fctr : Nat
  ack : Nat
  tag : BitVec 128
  flags : Nat := 0
  dst : Nat
  src : Nat
  payload : List Byte := []
  deriving DecidableEq, Repr

/-- The commands of the block, in the order of the table. -/
inductive Instr
  /-- REGISTER_WRITE (R43): a write request of one or more words from an origin. -/
  | registerWrite (o : Origin) (addr : Nat) (words : List WriteWord)
  /-- EXPERT_KEY_WRITE (R51): a write of `EXPERT_KEY` of a page. -/
  | expertKeyWrite (o : Origin) (page : Nat) (value : Word)
  /-- INT_STATUS_CLEAR (R56): a W1C write of `INT_STATUS`; `events` are the bits whose events occur in the same cycle,
  `err` the error that arrives in it, if one does: its code and word. -/
  | intStatusClear (o : Origin) (page : Nat) (value : Word) (events : BitVec 16) (err : Option (Nat × Nat))
  /-- INT_FORCE_WRITE (R52): a write of `INT_FORCE`; `clear` is a W1C write of `INT_STATUS` in the same cycle. -/
  | intForceWrite (o : Origin) (page : Nat) (value : Word) (clear : Word)
  /-- ERR_COUNT_READ (R56): a read of `ERR_COUNT`; `increment` when an error arrives in the cycle of the read. -/
  | errCountRead (o : Origin) (page : Nat) (peek : Bool) (increment : Option Nat)
  /-- HUB_ACCESS_FAULT_CLEAR (R41): a write of `HUB_ACCESS_FAULT`. -/
  | hubAccessFaultClear (o : Origin) (value : Word)
  /-- IA_CMD_READ (R63, R64): single bytes are written to indices 0x00 to 0x07 of the target, in order, then `IA_CMD`. -/
  | iaCmdRead (bytes : List (BitVec 3 × Byte)) (cmd : Byte)
  /-- IA_CMD_WRITE (R63, R64): single bytes are written to indices 0x00 to 0x07 of the target, in order, then `IA_CMD`. -/
  | iaCmdWrite (bytes : List (BitVec 3 × Byte)) (cmd : Byte)
  /-- IA_ACCESS_DONE (R64): the indirect access in progress completes. -/
  | iaAccessDone
  /-- IA_STAT_WRITE (R63): a write of `IA_STAT`. -/
  | iaStatWrite (value : Byte)

  /-- GSR_FORCE_WRITE (R100): a write of `CTL` of sector `s` of fabric die `d`; `release` when start-up releases the sector in
  the same cycle. -/
  | gsrForceWrite (o : Origin) (d s : Nat) (value : Word) (release : Bool)
  /-- GSR_RELEASE (R99): the third rising edge of track `n` after the last GSR cause ended, in the span cycle counted `span`. -/
  | gsrRelease (d s n : Nat) (span : DWord)
  /-- SCTL_TRACK_WRITE (R96): a write of `SCTL_TRACK[n]`. -/
  | sctlTrackWrite (o : Origin) (d s n : Nat) (value : Word)
  /-- TRACK_SWITCH_DONE (R96): track `n` starts at a rising edge of its new source. -/
  | trackSwitchDone (d s n : Nat)
  /-- TRACK_STOP (R97): track `n` has shown no rising edge for 2 µs. -/
  | trackStop (d s n : Nat)
  /-- TILE_FRAME_WRITE (R84): the configuration controller writes frame `f` of tile `t`. -/
  | tileFrameWrite (d s t f : Nat) (bits : BitVec 1024)

  /-- LOMUM_TRAIN (R121): a write of 1 to `CTL.TRAIN` of port `d`. -/
  | lomumTrain (o : Origin) (d : Nat)
  /-- LSB_HELLO (R119): HELLO received and acknowledged on port `d`. -/
  | lsbHello (d : Nat)
  /-- CLK_LOCK_DONE (R119): every forwarded clock has locked or failed; `fails` are the (module, direction) that failed. -/
  | clkLockDone (d : Nat) (fails : List (Nat × Nat))
  /-- WIRE_TEST_DONE (R120): the test ends; `bad` are the (module, direction, wire) that the hub finds not good. -/
  | wireTestDone (d : Nat) (bad : List (Nat × Nat × Nat))
  /-- MASK_REPORT (R122): the die reports the good-wire mask it measured for a module and direction. -/
  | maskReport (d p dir : Nat) (mask : BitVec 68)
  /-- MAP_ASSIGN (R122): the die receives the map and applies it. -/
  | mapAssign (d p dir : Nat) (map : WireMap)
  /-- TRAIN_DONE (R122): the hub receives the map that the die applied. -/
  | trainDone (d p dir : Nat) (map : WireMap)
  /-- FRAME_LOCK_DONE (R119): every module of port `d` has shown 64 consecutive good frames. -/
  | frameLockDone (d : Nat)
  /-- TRAINING_TIMEOUT (R119): the training state of port `d` overruns its timeout. -/
  | trainingTimeout (d : Nat)
  /-- SIDEBAND_MESSAGE_FAIL (R124): a sideband message on port `d` as it was received first and when it was requested once again. -/
  | sidebandMessageFail (d : Nat) (first second : List Byte)
  /-- WIRE_AUDIT_STEP (R125): the free spares of a module direction move to their next positions. -/
  | wireAuditStep (d p dir : Nat)
  /-- WIRE_SUSPECT (R126, R598): a physical wire of a module direction becomes suspect, by the audit's compare or by its margin monitor. -/
  | wireSuspect (d p dir wire : Nat) (compare : Bool)
  /-- WIRE_RETRY (R126): the retry of a suspect wire ends, clean or not. -/
  | wireRetry (d p dir wire : Nat) (clean : Bool)
  /-- SWAP_NEXT (R127): the swap running on a module switches to the spare. -/
  | swapNext (d p : Nat)
  /-- MOVE_NEXT (R128): the planned move of port `d` switches to the reserve. -/
  | moveNext (d : Nat)
  /-- SUDDEN_MOVE (R128): a forwarded-clock failure or a multi-wire loss on a crossing module direction. -/
  | suddenMove (d p dir : Nat)
  /-- CROSS_SERVICE_LOST (R130): a crossing module fails with no usable reserve. -/
  | crossServiceLost (d p dir : Nat)
  /-- SKEIN_SLOT_RECEIVE (R132): the next flit slot of logical module `m`, direction `dir` (0 hub to die), arrives; `err` are the bits in which the
  wires' unit intervals differ from what was sent, wire w at [25w+24:25w], where it is the first slot of its frame (R115). -/
  | skeinSlotReceive (d m dir : Nat) (err : BitVec 1700)
  /-- REPLAY (R132): the transmitter of logical module `m`, direction `dir`, acts on a `NAK_SEQ` it has received. -/
  | replay (d m dir : Nat)
  /-- MODULE_RETRAIN (R133): a second failure of one `LSEQ` on a Skein module. -/
  | moduleRetrain (d m : Nat)
  /-- MODULE_RETRAIN_DONE (R133): the retrain ends, with the masks measured by die and hub for each direction, the maps that TRAIN_DONE carried
  for each direction, and whether the frames locked. -/
  | moduleRetrainDone (d m : Nat) (die0 hub0 die1 hub1 : BitVec 68) (done0 done1 : WireMap) (locked : Bool)
  /-- CROSSING_FRAME_RECEIVE (R117): a receiver takes the next frame of logical module `m`; `err` are the bits in which the wires' unit
  intervals differ from what was sent, wire w at [25w+24:25w] (R115). -/
  | crossingFrameReceive (d m dir : Nat) (err : BitVec 1700)
  /-- XBAR_ENTRY_WRITE (R137): a write of `XBAR_ENTRY[g]` of destination port `d`, module `m`. -/
  | xbarEntryWrite (o : Origin) (d m g : Nat) (value : Word)
  /-- SPLIT_WRITE (R139): a write of port `CTL` that names a `SPLIT`. -/
  | splitWrite (o : Origin) (d : Nat) (value : Word)

  /-- HUB_FRAME_POISON (R155): the hub switches the groups of the span cycle whose count is given. -/
  | hubFramePoison (cycle : DWord)
  /-- CROSS_FRAME_DELIVER (R156): a SPAN_CLK edge, with the span cycle count at it, of logical module `m` of die `d`: its launch registers sample and
  its arrival registers present; on a lane die with what has reached the balls of the lanes since the last one. -/
  | crossFrameDeliver (d m : Nat) (span : DWord) (line : List LaneLine)
  /-- CROSS_AUDIT_LAP (R157): the audit lap of a lasting crossing failure ends; `bad` are the wires it classes lasting. -/
  | crossAuditLap (d m dir : Nat) (bad : List Nat)
  /-- SFIFO_WRITE (R150): the write that an edge of `WCLK` has taken at span channel port `f` of die `d` enters the transmit FIFO. -/
  | sfifoWrite (d f : Nat)
  /-- SFIFO_SEND (R151): port `f` sends one entry in a span cycle. -/
  | sfifoSend (d f : Nat)
  /-- SFIFO_READ (R151): the read that an edge of `RCLK` has taken leaves the receive FIFO of port `f`. -/
  | sfifoRead (d f : Nat)
  /-- SPAN_CHANNEL_ERR (R152): a failed frame carries groups of the channel of port `f`. -/
  | spanChannelErr (d f : Nat)
  /-- RESYNC (R164): a write of `SFIFO_CTL[f].RESYNC`. -/
  | resync (o : Origin) (d f : Nat)
  /-- CHANNEL_RESTART (R164): the first span cycle at which both sides of the channel of port `f` show READY. -/
  | channelRestart (d f : Nat)

  /-- DPB_READ (R171): port `b` (0 A, 1 B) of DPB `i` of sector `s` of die `d` performs the read it took at the last edge of its
  track. `far` says that an edge of the other port, on another track, lies within t_COL of it (R175); `flip` are bits of the
  stored word that an upset has inverted. -/
  | dpbRead (d s i b : Nat) (far : Bool) (flip : BitVec 72)
  /-- DPB_WRITE (R173): the port performs the write it took. -/
  | dpbWrite (d s i b : Nat) (far : Bool) (flip : BitVec 72)
  /-- MERGE_WRITE_STORE (R173): the store of a merge write, at the edge after the one that took it. -/
  | mergeWriteStore (d s i b : Nat) (far : Bool)
  /-- BKB_READ (R180): port `b` of BKB `k` performs the READ it took at the last edge of its track. -/
  | bkbRead (d s k b : Nat) (flip : BitVec 72)
  /-- BKB_WRITE (R181): the port performs the WRITE with byte enables that it took. -/
  | bkbWrite (d s k b : Nat) (flip : BitVec 72)
  /-- BKB_ADD (R183): the port performs the ADD it took. -/
  | bkbAdd (d s k b : Nat) (flip : BitVec 72)
  /-- BKB_SWAP (R183): the port performs the SWAP it took. -/
  | bkbSwap (d s k b : Nat) (flip : BitVec 72)
  /-- BANK_STORE (R184): the second cycle of bank `n`. -/
  | bankStore (d s k n : Nat)
  /-- QUEUE_WRITE (R191): the queue controller of block `b` (0 to 9 DPB, 10 to 14 BKB) answers the `WEN` of the last edge of the
  write side. -/
  | queueWrite (d s b : Nat) (flip : BitVec 72)
  /-- QUEUE_READ (R191): it answers the `REN` of the last edge of the read side. -/
  | queueRead (d s b : Nat) (flip : BitVec 72)
  /-- QUEUE_LEVEL_SYNC (R190): a write counts on the read side, or a read on the write side. -/
  | queueLevelSync (d s b : Nat) (readSide : Bool)
  /-- QRST (R192): the controller follows its `QRST` input as it stands. -/
  | qrst (d s b : Nat)

  /-- SCRUB_RETRY (R210): the scrubber serves the oldest entry of the repair queue of bank `q` of an integrity page, or of MRAM sector `q`
  where `page` is the safety page (R563); `again` are the bits of the word found inverted at the re-read after a write-back. -/
  | scrubRetry (page q : Nat) (again : BitVec 72)
  /-- SCRUB_PAGE_STEP (R215): the lap walk of bank `q` steps over the page it stands at. `upsets` are the stored bits it meets inverted,
  by position in the page, 64 and 65 being the parity words; `written` is a port write of the page
  during the step, `second` whether the second reading of an unexplained page gives syndromes of 0. -/
  | scrubPageStep (page q : Nat) (upsets : List (Nat × BitVec 72)) (written second : Bool) (again : BitVec 72)
  /-- SCRUB_LAP_DONE (R216): bank `q` completes a lap that took `us` microseconds. -/
  | scrubLapDone (page q us : Nat)
  /-- MEM_SLOW_LAP (R216): the running lap of bank `q`, `us` microseconds old, passes `MI_LAP_LIMIT`. -/
  | memSlowLap (page q us : Nat)
  /-- TMR_FIX (R222): a triplicated copy of block `b` is rewritten. -/
  | tmrFix (page b : Nat)
  /-- MI_TEST_READ (R223): a write of `MI_TEST_CMD` = READ. -/
  | miTestRead (o : Origin) (page : Nat)
  /-- MI_TEST_WRITE (R223): a write of `MI_TEST_CMD` = WRITE. -/
  | miTestWrite (o : Origin) (page : Nat)
  /-- MI_TEST_DONE (R223): the test access completes, or has not within 10 µs. -/
  | miTestDone (page : Nat) (timedOut : Bool)

  /-- HOLD (R235): slice `j` of sector `s` of die `d` takes an operation that keeps the accumulator. -/
  | dspHold (d s j : Nat)
  /-- LOAD (R235): slice `j` of sector `s` of die `d` takes an operation that loads the product. -/
  | dspLoad (d s j : Nat)
  /-- MAC (R235): slice `j` of sector `s` of die `d` takes an operation that adds the product. -/
  | dspMac (d s j : Nat)
  /-- MSU (R235): slice `j` of sector `s` of die `d` takes an operation that subtracts the product. -/
  | dspMsu (d s j : Nat)
  /-- CASC (R235): slice `j` of sector `s` of die `d` takes an operation that adds `CIN` and the product. -/
  | dspCasc (d s j : Nat)
  /-- NORM (R235): slice `j` of sector `s` of die `d` takes an operation that performs one normalization step. -/
  | dspNorm (d s j : Nat)
  /-- CLEAR (R235): slice `j` of sector `s` of die `d` takes an operation that zeroes the accumulator. -/
  | dspClear (d s j : Nat)
  /-- CLOAD (R235): slice `j` of sector `s` of die `d` takes an operation that loads `CIN`. -/
  | dspCload (d s j : Nat)
  /-- CWE (R244): `CWDATA` is written to coefficient entry `CWADDR`, both as the slice sampled them at the last edge. -/
  | dspCwe (d s j : Nat)
  /-- CRST (R242): the coefficient pointer is set to `CPTR0`. -/
  | dspCrst (d s j : Nat)
  /-- CNEXT (R243): the coefficient pointer advances, when `CADV` = 0. -/
  | dspCnext (d s j : Nat)


  /-- INTEGER_INSTRUCTION (R257): engine `e` executes the instruction at its program counter, which is none of those below. -/
  | integerInstruction (e : Nat)
  /-- ENGINE_LOAD (R258): a load from a local range. -/
  | engineLoad (e : Nat)
  /-- ENGINE_STORE (R258): a store to a local range. -/
  | engineStore (e : Nat)
  /-- LR_W (R259). -/
  | lrW (e : Nat)
  /-- SC_W (R259). -/
  | scW (e : Nat)
  /-- AMOADD_W (R260). -/
  | amoaddW (e : Nat)
  /-- AMO (R260). -/
  | amo (e : Nat)
  /-- FENCE (R265). -/
  | fence (e : Nat)
  /-- FENCE_I (R263). -/
  | fenceI (e : Nat)
  /-- EBREAK (R283). -/
  | ebreak (e : Nat)
  /-- CSR_ACCESS (R257): a CSR instruction on any CSR but `ICLAIM` and `ICOMPLETE`. -/
  | csrAccess (e : Nat)
  /-- ICLAIM (R272): a CSR instruction on `ICLAIM`. -/
  | iclaim (e : Nat)
  /-- ICOMPLETE (R272): a CSR instruction on `ICOMPLETE`. -/
  | icomplete (e : Nat)
  /-- INTERRUPT_TAKE (R273). -/
  | interruptTake (e : Nat)
  /-- DOORBELL_SET (R272): a write of `ICTL_DOORBELL_SET`. -/
  | doorbellSet (o : Origin) (e : Nat) (value : Word)
  /-- DMUL (R269). -/
  | dmul (e : Nat)
  /-- DMAC (R269). -/
  | dmac (e : Nat)
  /-- DMSU (R269). -/
  | dmsu (e : Nat)
  /-- DMULI (R269). -/
  | dmuli (e : Nat)
  /-- DMACI (R269). -/
  | dmaci (e : Nat)
  /-- DMSUI (R269). -/
  | dmsui (e : Nat)
  /-- DCLR (R269). -/
  | dclr (e : Nat)
  /-- DNORM (R269). -/
  | dnorm (e : Nat)
  /-- DMOV (R267). -/
  | dmov (e : Nat)
  /-- DEXPC (R269). -/
  | dexpc (e : Nat)
  /-- DRDLO (R269). -/
  | drdlo (e : Nat)
  /-- DRDHI (R269). -/
  | drdhi (e : Nat)
  /-- DWRACC (R269). -/
  | dwracc (e : Nat)
  /-- DADDA (R269). -/
  | dadda (e : Nat)
  /-- DLDP (R270). -/
  | dldp (e : Nat)
  /-- DSTP (R270). -/
  | dstp (e : Nat)
  /-- DMACL (R269). -/
  | dmacl (e : Nat)
  /-- DMSUL (R269). -/
  | dmsul (e : Nat)
  /-- DMULL (R269). -/
  | dmull (e : Nat)
  /-- REMOTE_LOAD (R265): a load through a remote window. -/
  | remoteLoad (e : Nat)
  /-- REMOTE_STORE (R265): a store through a remote window. -/
  | remoteStore (e : Nat)
  /-- REMOTE_RESPONSE (R266): the oldest response at the engine's endpoint answers a window access. -/
  | remoteResponse (e : Nat)
  /-- RF_ERROR (R264): a read of register `reg` (or of an accumulator half, 32 and above) meets a code error; `correctable`, and
  `clean` for the retry. -/
  | rfError (e reg : Nat) (correctable clean : Bool)
  /-- TIMER_HIT (R274). -/
  | timerHit (e t : Nat)
  /-- WDT_EXPIRY (R275). -/
  | wdtExpiry (e : Nat)
  /-- WDT_KICK (R275): a write of `WDT_KICK`. -/
  | wdtKick (o : Origin) (e : Nat) (value : Word)
  /-- DMA_HEAD_WRITE (R277): a write of `DMA_HEAD`. -/
  | dmaHeadWrite (o : Origin) (e : Nat) (value : Word)
  /-- DMA_DESCRIPTOR_START (R277): the DMA starts the descriptor at `DMA_TAIL`. -/
  | dmaDescriptorStart (e : Nat)
  /-- DMA_DESCRIPTOR_DONE (R279): the oldest descriptor has completed and its status is written back. -/
  | dmaDescriptorDone (e : Nat)
  /-- DMA_RESUME (R279): a write of `DMA_CTL`. -/
  | dmaResume (o : Origin) (e : Nat) (value : Word)
  /-- VT_TX (R281): the engine writes `VT_TX`. -/
  | vtTx (e : Nat) (b : Byte)
  /-- VT_RX (R281): the engine reads `VT_RX`. -/
  | vtRx (e : Nat)
  /-- VT_OUT_ACK (R281). -/
  | vtOutAck (o : Origin) (e : Nat) (value : Word)
  /-- VT_IN_DATA (R281). -/
  | vtInData (o : Origin) (e : Nat) (value : Word)
  /-- ENG_HALT (R283): a write of `CTL` that names `HALT`. -/
  | engHalt (o : Origin) (e : Nat) (value : Word)
  /-- HALT_DONE (R283). -/
  | haltDone (e : Nat)
  /-- ENG_RUN (R283): a write of `CTL` that names `RUN`. -/
  | engRun (o : Origin) (e : Nat) (value : Word)
  /-- ENG_RESET (R289): a write of `CTL` that names `RESET`. -/
  | engReset (o : Origin) (e : Nat) (value : Word)
  /-- LOCKSTEP (R284): a write of `CTL` that changes `LOCKSTEP`. -/
  | lockstep (o : Origin) (e : Nat) (value : Word)
  /-- LOCKSTEP_COPY_DONE (R284). -/
  | lockstepCopyDone (e : Nat)
  /-- LOCKSTEP_MISMATCH (R286): a commit of the pair of even engine `e` differs; `again` for the retry, and which engines' codes
  reported an error. -/
  | lockstepMismatch (e : Nat) (again bad0 bad1 : Bool)
  /-- SUBST (R288): a write of `CTL` that names `SUBST`, or a request of the start-up self-test. -/
  | subst (e : Nat) (write : Option (Origin × Word))
  /-- SUBST_COPY_START (R287): the responses have arrived, or 10 µs have passed. -/
  | substCopyStart (e : Nat) (timedOut : Bool)
  /-- SUBST_COPY_DONE (R287). -/
  | substCopyDone (e : Nat)


  /-- ROUTER_HOP (R301): one cycle of router (x,y) of die `d`; `bad` are the inputs whose packet fails its check. -/
  | routerHop (d x y : Nat) (bad : List Nat)
  /-- PACKET_INJECT (R306): a local port of a router injects. -/
  | packetInject (d x y : Nat)
  /-- SATURATION_TOKEN_GRANT (R305). -/
  | saturationTokenGrant (d : Nat)
  /-- SKEIN_RD (R299): endpoint `e` takes the RD at the head of its queue; `upsets` are the levels of a crypto engine's walk at which
  a first read fails its check and a second passes. -/
  | skeinRd (e : Nat) (upsets : List Nat)
  /-- SKEIN_WRS (R299). -/
  | skeinWrs (e : Nat) (upsets : List Nat)
  /-- SKEIN_WRA (R299). -/
  | skeinWra (e : Nat) (upsets : List Nat)
  /-- SKEIN_WRD (R299). -/
  | skeinWrd (e : Nat) (upsets : List Nat)
  /-- WRITE_PAIR_TIMEOUT (R299). -/
  | writePairTimeout (e src tag : Nat)
  /-- SKEIN_MSG (R298). -/
  | skeinMsg (e : Nat)
  /-- SKEIN_MSG_RETRY (R309). -/
  | skeinMsgRetry (e : Nat)
  /-- SKEIN_RDATA (R300): endpoint `e` takes the RDATA at the head of its queue. -/
  | skeinRdata (e : Nat)
  /-- SKEIN_STATUS (R300). -/
  | skeinStatus (e : Nat)
  /-- REQUEST_TIMEOUT (R309). -/
  | requestTimeout (e tag : Nat)
  /-- TAG_QUARANTINE_END (R310). -/
  | tagQuarantineEnd (e tag : Nat)
  /-- ATTACH_TRANSMIT (R311): the attach port of router (x,y) takes the flit that the fabric presented at the last edge of its track. -/
  | attachTransmit (d x y : Nat)
  /-- ATTACH_DELIVER (R312). -/
  | attachDeliver (d x y : Nat)
  /-- APPLY (R316): a write of `CTL` of a router page. -/
  | apply (o : Origin) (d x y : Nat) (value : Word)
  /-- RECONF_DONE (R316). -/
  | reconfDone (d x y : Nat)
  /-- DRAIN_COMPLETE (R317): endpoint `e` has finished draining. -/
  | drainComplete (e : Nat)
  /-- DRAIN_TIMEOUT (R317). -/
  | drainTimeout (e : Nat)

  /-- LANE_EN (R335): a write of `CTL` of lane `n` (`l` an L lane) that names `EN`. -/
  | laneEn (o : Origin) (l : Bool) (n : Nat) (value : Word)
  /-- LANE_PLL_READY (R326): the selected octet PLL is locked. -/
  | lanePllReady (l : Bool) (n : Nat)
  /-- SIGNAL_PRESENT (R326): signal detect has been present for 1 ms. -/
  | signalPresent (l : Bool) (n : Nat)
  /-- LINK_TRAINING_DONE (R329): training completes; `fields` are the control fields of the partner's training frames, in their order. -/
  | linkTrainingDone (l : Bool) (n : Nat) (fields : List (BitVec 16))
  /-- LT_TIMEOUT (R326). -/
  | ltTimeout (l : Bool) (n : Nat)
  /-- ADAPT_DONE (R326): CDR lock and adaptation, with the eye height and the boost found. -/
  | adaptDone (l : Bool) (n : Nat) (eye : BitVec 16) (ctle : BitVec 6)
  /-- ADAPT_TIMEOUT (R326). -/
  | adaptTimeout (l : Bool) (n : Nat)
  /-- ALIGN_DONE (R326, R328): PCS and FEC locks are gained. -/
  | alignDone (l : Bool) (n : Nat)
  /-- ALIGN_TIMEOUT (R326). -/
  | alignTimeout (l : Bool) (n : Nat)
  /-- LOSS_OF_SIGNAL (R327). -/
  | lossOfSignal (l : Bool) (n : Nat)
  /-- LOCK_LOSS (R328): the lane loses PCS lock, or FEC codeword lock. -/
  | lockLoss (l : Bool) (n : Nat) (fec : Bool)
  /-- LANE_RETRAIN (R328): a write of `CTL` that names `RETRAIN`. -/
  | laneRetrain (o : Origin) (l : Bool) (n : Nat) (value : Word)
  /-- DOWN_SIGNAL_RETURN (R328): signal returns after at least 10 ms of absence. -/
  | downSignalReturn (l : Bool) (n : Nat)
  /-- OPLL_ENABLE (R324): a write of `CTL` of octet PLL page `q` of lane die `d`. -/
  | opllEnable (o : Origin) (d q : Nat) (value : Word)
  /-- OPLL_LOCK (R324): PLL A (`b` false) or B of the octet locks. -/
  | opllLock (d q : Nat) (b : Bool)
  /-- OPLL_LOCK_FAIL (R324): 300 µs after it was enabled. -/
  | opllLockFail (d q : Nat) (b : Bool)
  /-- LANE_PLL_UNLOCK (R325): a PLL loses lock in service. -/
  | lanePllUnlock (d q : Nat) (b : Bool)
  /-- PRBS_ERR_READ (R337): a read of `PRBS_ERR_LO`. -/
  | prbsErrRead (o : Origin) (l : Bool) (n : Nat) (peek : Bool)
  /-- PRBS_ONE (R337): a write of `PRBS_INJ` that names `ONE`. -/
  | prbsOne (o : Origin) (l : Bool) (n : Nat) (value : Word)
  /-- SLIP (R338): a write of `BITSLIP`. -/
  | slip (o : Origin) (l : Bool) (n : Nat) (value : Word)
  /-- TS_INFO_READ (R340): a read of `TS_INFO`. -/
  | tsInfoRead (o : Origin) (l : Bool) (n : Nat) (peek : Bool)
  /-- RX_FRAME_END (R343): the oldest frame that has left the decoder meets its match decision; `time` is the instant of its first bit in the
  units of R340; `held` are the entries whose hold-off still runs (R344). -/
  | rxFrameEnd (l : Bool) (n : Nat) (time : DWord) (held : BitVec 16)
  /-- RELEASE_SEND (R344): the adapter of octet `q` of lane die `d` sends its next firing. -/
  | releaseSend (d q : Nat)
  /-- RELEASE (R345): the egress adapter takes the RELEASE that waits at its endpoint. -/
  | release (d q : Nat)
  /-- RESPONSE_INSERT (R346): at a block boundary the oldest response of the adapter goes in. -/
  | responseInsert (d q : Nat)
  /-- RELEASE_RESPONSE (R347): the ingress adapter takes the answer to its release. -/
  | releaseResponse (d q : Nat)
  /-- RFX_COMMIT (R348): a write of `RFX_COMMIT`. -/
  | rfxCommit (o : Origin) (d q : Nat) (value : Word)

  /-- DDR_ENABLE (R360): a write of `CTL` of channel `c` with `EN` = 1. -/
  | ddrEnable (o : Origin) (c : Nat) (value : Word)
  /-- DDR_DISABLE (R360): a write of `CTL` with `EN` = 0. -/
  | ddrDisable (o : Origin) (c : Nat) (value : Word)
  /-- DDR_TRAIN_STEP_DONE (R360): the step in progress completes; `dimm` is what steps 1 and 8 read. -/
  | ddrTrainStepDone (c : Nat) (dimm : Dimm)
  /-- DDR_TRAIN_TIMEOUT (R361): the step in progress fails; in step 1 `crc` tells a bad SPD CRC from no answer. -/
  | ddrTrainTimeout (c : Nat) (crc : Bool)
  /-- ZERO_FILL_DONE (R362). -/
  | zeroFillDone (c : Nat)
  /-- DDR_RETRAIN (R361): a write of `CTL` that names `RETRAIN`. -/
  | ddrRetrain (o : Origin) (c : Nat) (value : Word)
  /-- DDR_LINE_READ (R355): the crypto engine presents a read, which it knows by `id`. -/
  | ddrLineRead (c id line prio : Nat)
  /-- DDR_LINE_WRITE (R355): the crypto engine presents a whole-line write. -/
  | ddrLineWrite (c id line prio : Nat) (data : BitVec 512)
  /-- DDR_COMMAND_ISSUE (R373): `aged` requests, the oldest, are older than `AGE_LIMIT`; DRAM timing does not yet allow the next
  command of the requests `wait`. -/
  | ddrCommandIssue (c aged : Nat) (wait : List Nat)
  /-- DDR_READ_DATA (R367): the burst of the oldest issued read returns, with these bits of it inverted. -/
  | ddrReadData (c : Nat) (err : BitVec 640)
  /-- DDR_READ_RETRY (R368): the retry's burst returns, with these bits of it inverted. -/
  | ddrReadRetry (c : Nat) (err : BitVec 640)
  /-- ROW_OPEN_TIMEOUT (R375): `TIMEOUT` ns have passed over an open row of bank `b`. -/
  | rowOpenTimeout (c b : Nat)
  /-- REFRESH_DEBT_TICK (R376): tREFI2 passes for a rank. -/
  | refreshDebtTick (c rank : Nat)
  /-- REFSB_ISSUE (R376): REFsb to bank index `b` of a rank, or REFab. -/
  | refsbIssue (c rank b : Nat) (all : Bool)
  /-- TEMP_RATE_POLL (R377): the ranks' refresh rates from mode register 4: 0 normal, 1 double, 2 beyond double. -/
  | tempRatePoll (c : Nat) (rates : List Nat)
  /-- RFM_ISSUE (R378): RFMsb for bank `b`. -/
  | rfmIssue (c b : Nat)
  /-- DRFM_ISSUE (R379): DRFMsb for bank `b`. -/
  | drfmIssue (c b : Nat)
  /-- DDR_ALERT (R381): `recent` of the commands issued lie in the 64 command clocks before; `again` that an ALERT occurs during
  their reissue. -/
  | ddrAlert (c recent : Nat) (again : Bool)
  /-- SELF_REFRESH_ENTRY (R382): the power controller's request is carried out. -/
  | selfRefreshEntry (c : Nat)
  /-- SELF_REFRESH_EXIT (R383). -/
  | selfRefreshExit (c : Nat)

  /-- CRYPTO_READ (R387): the engine of channel `c` takes the read that waits first. `upsets` are the units whose first check fails
  although they read right again: 0 the data line, k the level-k counter block (R404). -/
  | cryptoRead (c : Nat) (upsets : List Nat)
  /-- CRYPTO_PARTIAL_WRITE (R387): the engine takes the partial write that waits first. -/
  | cryptoPartialWrite (c : Nat) (upsets : List Nat)
  /-- CRYPTO_FULL_WRITE (R403): the engine takes the full write that waits first. -/
  | cryptoFullWrite (c : Nat) (upsets : List Nat)
  /-- REGION_ENABLE (R393): a write of `REG_CTL[r]` with `EN` = 1. -/
  | regionEnable (o : Origin) (c r : Nat) (value : Word)
  /-- REGION_CLOSE (R394): a write of `REG_CTL[r]` with `EN` = 0. -/
  | regionClose (o : Origin) (c r : Nat) (value : Word)
  /-- REGION_CLOSE_DONE (R394). -/
  | regionCloseDone (c r : Nat)
  /-- CRY_INIT (R408): a write of `CRY_INIT`. -/
  | cryInit (o : Origin) (c : Nat) (value : Word)
  /-- INIT_DONE (R408). -/
  | initDone (c : Nat)
  /-- GENERATE (R409): a write of `CRY_KEY_CMD` with `OP` = 1 for a slot. -/
  | generate (o : Origin) (c slot : Nat)
  /-- DERIVE (R434): a write of `CRY_KEY_CMD` with `OP` = 2. -/
  | derive (o : Origin) (c slot : Nat)
  /-- RETIRE (R410): a write of `CRY_KEY_CMD` with `OP` = 3. -/
  | retire (o : Origin) (c slot : Nat)
  /-- KEY_CMD_DONE (R409). -/
  | keyCmdDone (c : Nat)
  /-- ANNEAL_START (R411): a write of `CRY_ANNEAL_CTL`. -/
  | annealStart (o : Origin) (c : Nat) (value : Word)
  /-- ANNEAL_LINE (R412): the boundary line changes key. -/
  | annealLine (c : Nat) (upsets : List Nat)
  /-- CRY_ANNEAL_DONE (R414): the boundary has reached the end. -/
  | cryAnnealDone (c : Nat)
  /-- CTR_PRESET (R417): a write of `CRY_CTR_CMD`. -/
  | ctrPreset (o : Origin) (c : Nat) (value : Word)


  /-- BOOT_ATTEMPT (R436): the controller starts an attempt of its own. -/
  | bootAttempt
  /-- IMAGE_HEADER (R421): the bytes of the image before its section bodies have arrived: header, section table, key table and signature
  (R419). A body that the commands after it carry is given as decrypted (R424). -/
  | imageHeader (image : List Byte)
  /-- STAGE1 (R423): a STAGE1 body has arrived. -/
  | stage1 (body : List Byte)
  /-- FRAMES (R427): the body of a FRAMES section begins, or ends. -/
  | frames (ends : Bool)
  /-- LITERAL (R426): a record's address, its second word, the 32 frame words and the check value. -/
  | literal (addr second : Word) (data : BitVec 1024) (check : Word)
  /-- ZERO (R426). -/
  | zero (addr second check : Word)
  /-- REPEAT (R426). -/
  | repeatFrames (addr second check : Word)
  /-- ENGINES (R431): the records of an ENGINES body. -/
  | engines (records : List EngineImage)
  /-- XMAP (R162): the bytes of an XMAP body. -/
  | xmap (body : List Byte)
  /-- REGWRITE (R432): the pairs of a REGWRITE body. -/
  | regwrite (pairs : List (Word × Word))
  /-- SECTOR_CRC (R433): the values of a SECTOR_CRC body. -/
  | sectorCrc (values : List Word)
  /-- CFG_BOOT_FAIL (R437): the attempt or the reload fails for a reason that no other command brings: a stream that ends before
  its length (R424), a self-test fault no spare covers (R441). -/
  | cfgBootFail (reason : Byte) (die : BitVec 3) (at_ : Word)
  /-- LOAD_STALL_TIMEOUT (R435). -/
  | loadStallTimeout
  /-- STARTUP_PHASE_DONE (R441): a phase of start-up completes; at the end of phase RESET, whether REFCLK_A and REFCLK_B are good. -/
  | startupPhaseDone (refA refB : Bool)
  /-- STARTUP_PHASE_TIMEOUT (R441). -/
  | startupPhaseTimeout
  /-- DIE_RELEASE (R443): the next die is released. -/
  | dieRelease
  /-- HOST_LOAD (R439): a write of `CTL` of the configuration page that names `HOST_LOAD`. -/
  | hostLoad (o : Origin) (value : Word)
  /-- RELOAD (R448): a write of `CTL` that names `RELOAD`. -/
  | reload (o : Origin) (value : Word)
  /-- HUB_BOOT_CONFIRM (R436): a write of `HUB_BOOT_CONFIRM`. -/
  | hubBootConfirm (o : Origin) (value : Word)
  /-- AUDIT_LAP_DONE (R445): the audit lap of a sector ends after `us` microseconds. -/
  | auditLapDone (d s us : Nat)
  /-- AUDIT_MISMATCH (R447): the CRC of `tile` (128 for the block frames) differs from its reference; `clean` that the retry
  matches. -/
  | auditMismatch (d s tile : Nat) (clean : Bool)


  /-- REFCLK_BAD (R459): REFCLK_A (`b` false) or REFCLK_B goes bad. -/
  | refclkBad (b : Bool)
  /-- REF_REVERT (R459): the primary reference has been good for 10 s. -/
  | refRevert
  /-- REF_HOLDOVER_END (R460): both references have been bad for 10 ms. -/
  | refHoldoverEnd
  /-- REF_RECOVER (R460): a reference has been good for 10 s. -/
  | refRecover (b : Bool)
  /-- PLL_FAIL (R461): hub PLL `p` (3 HPS) fails. -/
  | pllFail (p : Nat)
  /-- PLL_RELOCK_DONE (R462): the relock holds for 10 ms, or fails. -/
  | pllRelockDone (p : Nat) (holds : Bool)
  /-- POR (R464). -/
  | por
  /-- RESET_N_ASSERT (R600): the filter accepts the low level. -/
  | resetNAssert
  /-- RESET_N_RELEASE (R600): the pin has risen, and 10 µs have passed. -/
  | resetNRelease
  /-- DEVICE (R466): a write of `RST_CTL` that names `DEVICE`. -/
  | deviceReset (o : Origin) (value : Word)
  /-- WARM (R467): a write of `RST_CTL` that names `WARM`. -/
  | warmReset (o : Origin) (value : Word)
  /-- DIE (R468): a write of `RST_CTL` that names `DIE`. -/
  | dieReset (o : Origin) (value : Word)
  /-- DOMAIN (R469): a write of `RST_CTL` that names `DOMAIN`. -/
  | domainReset (o : Origin) (value : Word)
  /-- REGISTER_RESET_END (R465): the 10 µs of a register-initiated reset end. -/
  | registerResetEnd
  /-- DIE_RESET_RELEASE (R468): port `d` has been ACTIVE for 1 µs. -/
  | dieResetRelease (d : Nat)
  /-- CLK_SPAN_COUNT_READ (R456): a read of `CLK_SPAN_COUNT_LO`. -/
  | clkSpanCountRead (o : Origin) (peek : Bool)


  /-- VOTE_CAST (R476): a write of `PWR_VOTE` with `SET` = 1. -/
  | voteCast (o : Origin) (value : Word)
  /-- VOTE_WITHDRAW (R476): a write of `PWR_VOTE` with `SET` = 0. -/
  | voteWithdraw (o : Origin) (value : Word)
  /-- DROP (R480): a write of `PWR_DOM_CMD`. -/
  | drop (o : Origin) (value : Word)
  /-- DOMAIN_DROP (R478): domain `d` enters DRAINING. -/
  | domainDrop (d : Nat)
  /-- DOMAIN_ISOLATE (R478): every part of domain `d` has drained. -/
  | domainIsolate (d : Nat)
  /-- DOMAIN_OFF (R478): the rail of domain `d` is off. -/
  | domainOff (d : Nat)
  /-- PWR_ABORTED (R480): the drain bound of domain `d` expires. -/
  | pwrAborted (d : Nat)
  /-- FORCED_DROP (R482): the drain bound of a forced drop expires. -/
  | forcedDrop (d : Nat)
  /-- DOMAIN_RAISE (R483): the rail of domain `d` switches on. -/
  | domainRaise (d : Nat)
  /-- DOMAIN_UP (R483): the ramp of domain `d` completes. -/
  | domainUp (d : Nat)
  /-- WAKE_HOLD_EXPIRE (R484). -/
  | wakeHoldExpire (d : Nat)
  /-- HIBERNATE (R486): a write of `PWR_STATE_CTL`. -/
  | hibernate (o : Origin) (value : Word)
  /-- HIBERNATE_ENTRY_DONE (R486). -/
  | hibernateEntryDone
  /-- ALARM (R488). -/
  | alarm
  /-- WAKE_PIN (R487): WAKE_N has been low for 10 µs. -/
  | wakePin
  /-- I2C_WAKE (R487): a START condition with the strap address. -/
  | i2cWake
  /-- PLY_WAKE (R487): the wake pattern on a Ply receive pair. -/
  | plyWake
  /-- WAKE (R489): a wake source acts. -/
  | wake
  /-- BROWN_OUT (R492): VAON or a main rail has been below its reset level for 2 µs. -/
  | brownOut
  /-- PWR_WARN (R493): VAON, or the main rails of a mask, have been below their warning level for 1 µs. -/
  | pwrWarn (vaon : Bool) (rails : BitVec 16)
  /-- PWR_WARN_CLEAR (R493): every supply has stayed above its warning level for 100 µs. -/
  | pwrWarnClear


  /-- OPEN (R502): the monitor serves an `OPEN` in the request buffer. -/
  | openSession
  /-- AUTH_KEY (R505): it serves an `AUTH_KEY`. -/
  | authKey
  /-- AUTH_PW (R507): it serves an `AUTH_PW`. -/
  | authPw
  /-- CLOSE (R509). -/
  | closeSession
  /-- RD (R502). -/
  | mbRd
  /-- WR (R503). -/
  | mbWr
  /-- MEMRD (R516). -/
  | memrd
  /-- MEMWR (R516). -/
  | memwr
  /-- MB_REQ_DATA (R500): an I²C write of `MB_REQ_DATA`. -/
  | mbReqData (b : Byte)
  /-- MB_RSP_DATA (R500): an I²C read of `MB_RSP_DATA`. -/
  | mbRspData
  /-- PTR_RESET (R500): an I²C write of `MB_CMD`. -/
  | ptrReset (cmd : Byte)
  /-- SESSION_IDLE_TIMEOUT (R509). -/
  | sessionIdleTimeout
  /-- STEP (R512): a write of `ENG_DBG_CTL` of engine `e` that names `STEP`. -/
  | step (o : Origin) (e : Nat) (value : Word)
  /-- DBG_HALT (R510): a write of `ENG_DBG_CTL` that names `HALT`. -/
  | dbgHalt (o : Origin) (e : Nat) (value : Word)
  /-- DBG_RUN (R511): a write of `ENG_DBG_CTL` that names `RUN`. -/
  | dbgRun (o : Origin) (e : Nat) (value : Word)
  /-- BREAKPOINT (R511): engine `e` reaches an enabled breakpoint. -/
  | breakpoint (e : Nat)
  /-- WATCHPOINT (R511): engine `e` executes the load or store at its program counter, which touches a watched block. -/
  | watchpoint (e : Nat)
  /-- CROSS_TRIGGER (R515): the halt request of engine `e` arrives. -/
  | crossTrigger (e : Nat)
  /-- ENG_DBG_REGDATA (R513): a write of `ENG_DBG_REGDATA` with a value, or a read. -/
  | engDbgRegdata (o : Origin) (e : Nat) (value : Option Word)
  /-- ARM (R517): a write of `SCTL_CAP_CTL` of a sector that names `ARM`. -/
  | armCapture (o : Origin) (d s : Nat) (value : Word)
  /-- CAPTURE (R517): the capture edge of a sector, at a span cycle count. -/
  | capture (d s : Nat) (span : DWord)
  /-- RESUME (R518): a write of `SCTL_CAP_CTL` that names `RESUME`. -/
  | resume (o : Origin) (d s : Nat) (value : Word)


  /-- EVENT_STAGE (R531): a happening on a page asks for a record with this code, severity and detail word (R530). -/
  | eventStage (code : BitVec 16) (severity : BitVec 3) (page : Nat) (detail : Word)
  /-- RECORD_TO_RING (R531): the oldest staged record is written into the MRAM ring. -/
  | recordToRing
  /-- TOKEN_REFILL (R533): the bucket of a class gains a token. -/
  | tokenRefill (cls : Byte)
  /-- EVT_SW_CMD (R535): a write of `EVT_SW_CMD`. -/
  | evtSwCmd (o : Origin) (value : Word)
  /-- OPERATING_SECOND (R524, R585): an operating second passes; what the temperature sensors read, sensor 3d + s for sensor s of die d, in
  1/16 °C. -/
  | operatingSecond (readings : List (BitVec 16))
  /-- CHECKPOINT (R526). -/
  | checkpoint
  /-- TIME_OPS_READ (R524): a read of `TIME_OPS_LO`. -/
  | timeOpsRead (o : Origin) (peek : Bool)


  /-- PLY_LINK_TRAINED (R537): the link of port `p` (0 N, 1 P) has trained. -/
  | plyLinkTrained (p : Nat)
  /-- HELLO (R540): a HELLO frame arrives on port `p`. -/
  | hello (p : Nat) (payload : List Byte)
  /-- HELLO_SIG (R540): a HELLO_SIG frame arrives with its signature. -/
  | helloSig (p : Nat) (sig : List Byte)
  /-- PLY_AUTH_RETRY (R540): 1 s after a failure the exchange of port `p` is retried. -/
  | plyAuthRetry (p : Nat)
  /-- IDLE (R543): an IDLE frame. -/
  | plyIdle (f : PlyRx)
  /-- NAK (R543): a NAK frame; its payload is the expected `FCTR`. -/
  | plyNak (f : PlyRx)
  /-- PLY_LINK_SILENCE (R543): no frame has been accepted on port `p` for 10 µs. -/
  | plyLinkSilence (p : Nat)
  /-- DISCOVER (R545, R546): a DISCOVER frame; on a manager, whether it is its own, and the numbers that the workers it reached hold, in the
  order reached. -/
  | discover (f : PlyRx) (own : Bool) (reached : List Nat)
  /-- RING_CLOSE_TIMEOUT (R546): 2 s after the first DISCOVER; the numbers that the workers the two chains reached hold. -/
  | ringCloseTimeout (reached : List Nat)
  /-- PLY_ISOLATE (R548). -/
  | plyIsolate
  /-- MGMT_REQ (R550). -/
  | mgmtReq (f : PlyRx)
  /-- MGMT_RSP (R550). -/
  | mgmtRsp (f : PlyRx)
  /-- MGMT_TIMEOUT (R550): `PLY_MGMT_TMO` expires. -/
  | mgmtTimeout
  /-- PLY_MGMT_GO (R550): a write of `PLY_MGMT_CTL`. -/
  | plyMgmtGo (o : Origin) (value : Word)
  /-- CFG_START (R552). -/
  | cfgStart (f : PlyRx)
  /-- CFG_DATA (R552). -/
  | cfgData (f : PlyRx)
  /-- CFG_END (R552). -/
  | cfgEnd (f : PlyRx)
  /-- CFG_REQ (R552). -/
  | cfgReq (f : PlyRx)
  /-- EVENT (R553). -/
  | plyEvent (f : PlyRx)
  /-- EPOCH (R554). -/
  | epoch (f : PlyRx)
  /-- EPOCH_BROADCAST (R554). -/
  | epochBroadcast
  /-- DEBUG_REQ (R555). -/
  | debugReq (f : PlyRx)
  /-- DEBUG_RSP (R555). -/
  | debugRsp (f : PlyRx)
  /-- CTRL_DEVICE_RESET (R551): a CTRL frame with byte 0 = 1. -/
  | ctrlDeviceReset (f : PlyRx)
  /-- CTRL_WARM_RESET (R551): a CTRL frame with byte 0 = 2. -/
  | ctrlWarmReset (f : PlyRx)
  /-- CTRL_WAKE (R549): a CTRL frame with byte 0 = 3. -/
  | ctrlWake (f : PlyRx)
  /-- HIBERNATING (R549): a CTRL frame with byte 0 = 4. -/
  | hibernating (f : PlyRx)
  /-- BOOT_REPORT (R552). -/
  | bootReport (f : PlyRx)
  /-- PLY_RESTART (R540): a write of `CTL` of the Ply page. -/
  | plyRestart (o : Origin) (value : Word)


  /-- SENSOR_SUSPECT (R569): sensor `s` of die `d` has differed from the median for 1 s. -/
  | sensorSuspect (d s : Nat)
  /-- SENSOR_RETRY (R569): the re-read of a suspect sensor, with what all sensors read; `failed` that the last sensor of a die has failed. -/
  | sensorRetry (d s : Nat) (failed : Bool) (readings : List (BitVec 16))
  /-- THERMAL_WARNING (R587): the sensors have read what is given, so that the junction temperature reaches `WARN_C`. -/
  | thermalWarning (readings : List (BitVec 16))
  /-- THERMAL_WARNING_END (R587): the junction temperature has stayed 5 °C below for 1 s. -/
  | thermalWarningEnd (readings : List (BitVec 16))
  /-- SAF_THERMAL_TRIP (R588): 125 °C for 10 ms. -/
  | safThermalTrip (readings : List (BitVec 16))

  /-- REGISTER_READ (R42, R58): a read request of `count` words; `peek` is the I²C command's PEEK, or false for a FULL session's request
  without it; `be` the byte enables of the first words of a PCIe request, whole where none is given. -/
  | registerRead (o : Origin) (addr count : Nat) (peek : Bool) (be : List (BitVec 4))
  /-- TRACK_RISING_EDGE (R71): the tracks (die, sector, track) that rise together do so in the span cycle counted `span`; `late`
  names the clusters (die, sector, tile, cluster) whose asynchronous SR fell inside the release setup time of the edge (R72). -/
  | trackRisingEdge (tracks : List (Nat × Nat × Nat)) (span : DWord) (late : List (Nat × Nat × Nat × Nat))
  /-- SR_ASYNC_ASSERT (R72): the SR of a cluster with `SR_ASYNC` = 1 has risen. -/
  | srAsyncAssert (d s t c : Nat)

  /-- PRBS_LOCK_GAIN (R337): 256 consecutive correct bits. -/
  | prbsLockGain (l : Bool) (n : Nat)
  /-- PRBS_LOCK_LOSS (R337): 64 or more errors in 1,024 bits. -/
  | prbsLockLoss (l : Bool) (n : Nat)
  /-- UNCORRECTABLE_CODEWORD (R330): an FEC codeword of a lane cannot be corrected; the 66-bit blocks it carried. -/
  | uncorrectableCodeword (l : Bool) (n : Nat) (blocks : List (BitVec 66))
  /-- TX_UNDERRUN (R334): the transmit FIFO runs short. -/
  | txUnderrun (l : Bool) (n : Nat)
  /-- RESERVE_MODULE_FAILS (R129): the reserve module of port `d` fails while unused. -/
  | reserveModuleFails (d : Nat)
  /-- SPARE_PLL_LOCK (R461): the spare, retargeted to the role of a failed HP1 or HP2, locks. -/
  | sparePllLock (p : Nat)
  /-- DIE_PLL_HOLDOVER_END (R463): die-local holdover runs out with no spare locked. -/
  | diePllHoldoverEnd
  /-- DIE_RESET_HOLD_END (R468): the 10 µs hold of a reset die's hard blocks ends. -/
  | dieResetHoldEnd (d : Nat)
  /-- BAD_CMD (R502): the monitor serves a request of no listed command, or whose body breaks its layout. -/
  | badCmd
  /-- VCCO_BAD (R595): whether VCCO of bank `g` of fabric die `d` differs from `VIO` by more than 10%. -/
  | vccoBad (d g : Nat) (bad : Bool)
  deriving DecidableEq, Repr

end Sys2Proof
end

