-- ==== Sys2Proof/Machine/Bits.lean ====
section
/-! DEFINITION. Bit-field, sign-extension, byte-order and code helpers, the arithmetic of R11, R12 and R18, and the
CRCs that R118 and the chapters use. -/

namespace Sys2Proof.Machine

/-- Bits `hi` to `lo` of a number (R11). -/
def bits (x hi lo : Nat) : Nat := (x >>> lo) % 2 ^ (hi + 1 - lo)

/-- Bit `i` of a number (R11). -/
def bit (x i : Nat) : Bool := x.testBit i

/-- 1 for a condition that holds, 0 for one that does not. -/
def b2n (b : Bool) : Nat := if b then 1 else 0

/-- A counter that saturates at the top of its width. -/
def satAdd (width x n : Nat) : Nat := min (x + n) (2 ^ width - 1)

/-- The signed value of the low `w` bits of a number. -/
def signed (w x : Nat) : Int :=
  if x % 2 ^ w < 2 ^ (w - 1) then (x % 2 ^ w : Nat) else (x % 2 ^ w : Nat) - (2 ^ w : Nat)

/-- An integer wrapped to `w` bits. -/
def wrap (w : Nat) (z : Int) : Nat := (z % (2 ^ w : Nat)).toNat

/-- The `n` bytes of a number, least significant first (R11). -/
def leBytes : Nat → Nat → List Byte
  | 0, _ => []
  | n + 1, x => BitVec.ofNat 8 x :: leBytes n (x / 256)

/-- The number that bytes spell, least significant first (R11). -/
def leNat : List Byte → Nat
  | [] => 0
  | b :: bs => b.toNat + 256 * leNat bs

/-- The number that bytes spell, most significant first, and its `n` bytes. -/
def beNat (bs : List Byte) : Nat := bs.foldl (fun n b => n * 256 + b.toNat) 0
def beBytes (n x : Nat) : List Byte := (leBytes n x).reverse

/-- How many of the low `n` bits of a number are 1. -/
def popcount : Nat → Nat → Nat
  | 0, _ => 0
  | n + 1, x => x % 2 + popcount n (x / 2)

/-- The positions of the 1 bits among the low `n` bits, ascending. -/
def bitList (n x : Nat) : List Nat := (List.range n).filter (bit x)

/-- A number with bit `i` set or cleared. -/
def withBit (x i : Nat) (b : Bool) : Nat :=
  if b then x ||| (1 <<< i) else if bit x i then x - (1 <<< i) else x

/-- One step of a reflected CRC: shift one bit out and fold the polynomial in. -/
def crcShift (poly crc : Nat) : Nat :=
  if crc % 2 = 1 then (crc / 2) ^^^ poly else crc / 2

/-- `n` steps of a reflected CRC. -/
def crcShifts (poly : Nat) : Nat → Nat → Nat
  | 0, crc => crc
  | n + 1, crc => crcShifts poly n (crcShift poly crc)

/-- One byte of a reflected CRC. -/
def crcByte (poly crc : Nat) (b : Byte) : Nat := crcShifts poly 8 (crc ^^^ b.toNat)

/-- CRC-32 as R118 gives it: polynomial 0x04C1_1DB7 reflected, initial value and final XOR of ones. -/
def crc32 (bs : List Byte) : Nat :=
  (bs.foldl (crcByte 0xEDB88320) 0xFFFFFFFF) ^^^ 0xFFFFFFFF

/-- A conditional update. -/
def applyIf {α : Type} (c : Bool) (f : α → α) (x : α) : α := if c then f x else x

/-- Apply an update for each element of a list, first to last. -/
def forEach {α σ : Type} (xs : List α) (f : α → σ → σ) (s : σ) : σ :=
  xs.foldl (fun t x => f x t) s

end Sys2Proof.Machine
end

