-- ==== Sys2Proof/Machine/EngDecode.lean ====
section
/-! DEFINITION. The instructions of a Spindle engine (spec/09_spindle_engines.md R257, R269): RV32I, M, A and C of the RISC-V
unprivileged specification, which the manual names and does not restate (PRESUMED, log entry 24), and the DSP extension. -/

namespace Sys2Proof.Machine

/-- The DSP instructions of R269. -/
inductive DspInstr
  | dmul | dmac | dmsu | dmuli | dmaci | dmsui | dclr | dnorm | dmov | dexpc | drdlo | drdhi | dwracc | dadda
  | dldp | dstp | dmacl | dmsul | dmull
  deriving DecidableEq, Repr

/-- An engine instruction after decoding. Register numbers are 0 to 31; offsets and immediates are sign-extended words. -/
inductive EngInstr
  | lui (rd : Nat) (imm : Word)
  | auipc (rd : Nat) (imm : Word)
  | jal (rd : Nat) (off : Word)
  | jalr (rd rs1 : Nat) (off : Word)
  | branch (funct3 rs1 rs2 : Nat) (off : Word)
  | load (funct3 rd rs1 : Nat) (off : Word)
  | store (funct3 rs1 rs2 : Nat) (off : Word)
  | alu (funct3 : Nat) (alt : Bool) (rd rs1 rs2 : Nat)
  | aluImm (funct3 : Nat) (alt : Bool) (rd rs1 : Nat) (imm : Word)
  | mul (funct3 rd rs1 rs2 : Nat)
  | lr (rd rs1 : Nat)
  | sc (rd rs1 rs2 : Nat)
  | amo (funct5 rd rs1 rs2 : Nat)
  | fence
  | fenceI
  | ecall
  | ebreak
  | mret
  | wfi
  | csr (funct3 rd src num : Nat)
  | dsp (op : DspInstr) (a rd rs1 rs2 n : Nat)
  | illegal
  deriving DecidableEq, Repr

/-- A number of `w` bits as a sign-extended word. -/
def sext (w x : Nat) : Word := BitVec.ofInt 32 (signed w x)

/-- The DSP instruction of funct3 and funct7 [31:26] (R269). -/
def dspOf (f3 f6 : Nat) : Option DspInstr :=
  if f3 = 0 then
    [DspInstr.dmul, .dmac, .dmsu, .dmuli, .dmaci, .dmsui, .dclr, .dnorm, .dmov, .dexpc, .drdlo, .drdhi, .dwracc, .dadda][f6]?
  else if f3 = 1 then [DspInstr.dldp, .dstp][f6]?
  else if f3 = 2 then [DspInstr.dmacl, .dmsul, .dmull][f6]?
  else none

/-- Whether the fields that R269 marks 0 are 0. -/
def dspFieldsOk (op : DspInstr) (a rd rs1 rs2 : Nat) : Bool :=
  match op with
  | .dmul | .dmac | .dmsu | .dmuli | .dmaci | .dmsui | .dwracc | .dmacl | .dmsul | .dmull => rd = 0
  | .dclr | .dnorm | .dadda => rd = 0 && rs1 = 0 && rs2 = 0
  | .dmov | .dexpc | .drdlo | .drdhi => rs1 = 0 && rs2 = 0
  | .dldp => rs2 / 4 = 0 && rs1 = 0 && a = 0
  | .dstp => rs2 / 4 = 0 && rd = 0 && a = 0

/-- Decode a DSP instruction. -/
def decodeDsp (w : Nat) : EngInstr :=
  let a := bits w 25 25
  let rd := bits w 11 7
  let rs1 := bits w 19 15
  let rs2 := bits w 24 20
  match dspOf (bits w 14 12) (bits w 31 26) with
  | some op => if dspFieldsOk op a rd rs1 rs2 then .dsp op a rd rs1 rs2 (rs2 % 4) else .illegal
  | none => .illegal

/-- Decode an atomic (R259, R260). -/
def decodeAmo (w : Nat) : EngInstr :=
  let f5 := bits w 31 27
  let rd := bits w 11 7
  let rs1 := bits w 19 15
  let rs2 := bits w 24 20
  if bits w 14 12 ≠ 2 then .illegal
  else if f5 = 2 then (if rs2 = 0 then .lr rd rs1 else .illegal)
  else if f5 = 3 then .sc rd rs1 rs2
  else if [0, 1, 4, 8, 12, 16, 20, 24, 28].elem f5 then .amo f5 rd rs1 rs2
  else .illegal

/-- Decode a SYSTEM instruction. -/
def decodeSystem (w : Nat) : EngInstr :=
  let f3 := bits w 14 12
  if f3 = 0 then
    (if w = 0x00000073 then .ecall else if w = 0x00100073 then .ebreak else if w = 0x30200073 then .mret
     else if w = 0x10500073 then .wfi else .illegal)
  else if f3 = 4 then .illegal
  else .csr f3 (bits w 11 7) (bits w 19 15) (bits w 31 20)

/-- Decode a 32-bit instruction. -/
def decode32 (w : Nat) : EngInstr :=
  let rd := bits w 11 7
  let f3 := bits w 14 12
  let rs1 := bits w 19 15
  let rs2 := bits w 24 20
  let f7 := bits w 31 25
  let immI := sext 12 (bits w 31 20)
  match bits w 6 0 with
  | 0x37 => .lui rd (BitVec.ofNat 32 (bits w 31 12 * 4096))
  | 0x17 => .auipc rd (BitVec.ofNat 32 (bits w 31 12 * 4096))
  | 0x6F => .jal rd (sext 21 (bits w 31 31 * 2 ^ 20 + bits w 19 12 * 2 ^ 12 + bits w 20 20 * 2 ^ 11 + bits w 30 21 * 2))
  | 0x67 => if f3 = 0 then .jalr rd rs1 immI else .illegal
  | 0x63 =>
    if f3 = 2 ∨ f3 = 3 then .illegal
    else .branch f3 rs1 rs2 (sext 13 (bits w 31 31 * 2 ^ 12 + bits w 7 7 * 2 ^ 11 + bits w 30 25 * 2 ^ 5 + bits w 11 8 * 2))
  | 0x03 => if f3 = 3 ∨ 5 < f3 then .illegal else .load f3 rd rs1 immI
  | 0x23 => if 2 < f3 then .illegal else .store f3 rs1 rs2 (sext 12 (bits w 31 25 * 32 + bits w 11 7))
  | 0x13 =>
    if f3 = 1 then (if f7 = 0 then .aluImm 1 false rd rs1 (BitVec.ofNat 32 rs2) else .illegal)
    else if f3 = 5 then
      (if f7 = 0 then .aluImm 5 false rd rs1 (BitVec.ofNat 32 rs2)
       else if f7 = 0x20 then .aluImm 5 true rd rs1 (BitVec.ofNat 32 rs2) else .illegal)
    else .aluImm f3 false rd rs1 immI
  | 0x33 =>
    if f7 = 0 then .alu f3 false rd rs1 rs2
    else if f7 = 1 then .mul f3 rd rs1 rs2
    else if f7 = 0x20 ∧ (f3 = 0 ∨ f3 = 5) then .alu f3 true rd rs1 rs2
    else .illegal
  | 0x2F => decodeAmo w
  | 0x0F => if f3 = 0 then .fence else if f3 = 1 then .fenceI else .illegal
  | 0x73 => decodeSystem w
  | 0x0B => decodeDsp w
  | _ => .illegal

/-- The jump offset of C.J and C.JAL. -/
def cjOff (w : Nat) : Word :=
  sext 12 (bits w 12 12 * 2 ^ 11 + bits w 8 8 * 2 ^ 10 + bits w 10 9 * 2 ^ 8 + bits w 6 6 * 2 ^ 7 + bits w 7 7 * 2 ^ 6 +
    bits w 2 2 * 2 ^ 5 + bits w 11 11 * 2 ^ 4 + bits w 5 3 * 2)

/-- The branch offset of C.BEQZ and C.BNEZ. -/
def cbOff (w : Nat) : Word :=
  sext 9 (bits w 12 12 * 2 ^ 8 + bits w 6 5 * 2 ^ 6 + bits w 2 2 * 2 ^ 5 + bits w 11 10 * 2 ^ 3 + bits w 4 3 * 2)

/-- Quadrant 0 of the compressed instructions. -/
def decodeC0 (w : Nat) : EngInstr :=
  let rdp := 8 + bits w 4 2
  let rs1p := 8 + bits w 9 7
  let off := bits w 5 5 * 64 + bits w 12 10 * 8 + bits w 6 6 * 4
  match bits w 15 13 with
  | 0 =>
    let imm := bits w 10 7 * 64 + bits w 12 11 * 16 + bits w 5 5 * 8 + bits w 6 6 * 4
    if imm = 0 then .illegal else .aluImm 0 false rdp 2 (BitVec.ofNat 32 imm)
  | 2 => .load 2 rdp rs1p (BitVec.ofNat 32 off)
  | 6 => .store 2 rs1p rdp (BitVec.ofNat 32 off)
  | _ => .illegal

/-- Quadrant 1. -/
def decodeC1 (w : Nat) : EngInstr :=
  let rd := bits w 11 7
  let rdp := 8 + bits w 9 7
  let rs2p := 8 + bits w 4 2
  let imm := sext 6 (bits w 12 12 * 32 + bits w 6 2)
  match bits w 15 13 with
  | 0 => .aluImm 0 false rd rd imm
  | 1 => .jal 1 (cjOff w)
  | 2 => .aluImm 0 false rd 0 imm
  | 3 =>
    if rd = 2 then
      let x := bits w 12 12 * 512 + bits w 4 3 * 128 + bits w 5 5 * 64 + bits w 2 2 * 32 + bits w 6 6 * 16
      if x = 0 then .illegal else .aluImm 0 false 2 2 (sext 10 x)
    else if bits w 12 12 * 32 + bits w 6 2 = 0 then .illegal
    else .lui rd (sext 18 ((bits w 12 12 * 32 + bits w 6 2) * 4096))
  | 4 =>
    match bits w 11 10 with
    | 0 => if bits w 12 12 = 0 then .aluImm 5 false rdp rdp (BitVec.ofNat 32 (bits w 6 2)) else .illegal
    | 1 => if bits w 12 12 = 0 then .aluImm 5 true rdp rdp (BitVec.ofNat 32 (bits w 6 2)) else .illegal
    | 2 => .aluImm 7 false rdp rdp imm
    | _ =>
      if bits w 12 12 = 1 then .illegal
      else match bits w 6 5 with
        | 0 => .alu 0 true rdp rdp rs2p
        | 1 => .alu 4 false rdp rdp rs2p
        | 2 => .alu 6 false rdp rdp rs2p
        | _ => .alu 7 false rdp rdp rs2p
  | 5 => .jal 0 (cjOff w)
  | 6 => .branch 0 rdp 0 (cbOff w)
  | _ => .branch 1 rdp 0 (cbOff w)

/-- Quadrant 2. -/
def decodeC2 (w : Nat) : EngInstr :=
  let rd := bits w 11 7
  let rs2 := bits w 6 2
  match bits w 15 13 with
  | 0 => if bits w 12 12 = 0 then .aluImm 1 false rd rd (BitVec.ofNat 32 (bits w 6 2)) else .illegal
  | 2 =>
    if rd = 0 then .illegal
    else .load 2 rd 2 (BitVec.ofNat 32 (bits w 3 2 * 64 + bits w 12 12 * 32 + bits w 6 4 * 4))
  | 4 =>
    if bits w 12 12 = 0 then
      (if rs2 = 0 then (if rd = 0 then .illegal else .jalr 0 rd 0) else .alu 0 false rd 0 rs2)
    else if rs2 = 0 then (if rd = 0 then .ebreak else .jalr 1 rd 0)
    else .alu 0 false rd rd rs2
  | 6 => .store 2 2 rs2 (BitVec.ofNat 32 (bits w 8 7 * 64 + bits w 12 9 * 4))
  | _ => .illegal

/-- Decode what lies at the program counter: the instruction and its length in bytes. -/
def decodeEng (w : Nat) : EngInstr × Nat :=
  if w % 4 = 3 then (decode32 (w % 2 ^ 32), 4)
  else if w % 4 = 0 then (decodeC0 (w % 65536), 2)
  else if w % 4 = 1 then (decodeC1 (w % 65536), 2)
  else (decodeC2 (w % 65536), 2)

end Sys2Proof.Machine
end

