-- ==== Sys2Proof/Machine/Codes.lean ====
section
/-! DEFINITION. The word code and the page code of stored data (spec/07_memory_integrity.md R202 to R207), as functions of
numbers. A stored word is data + 2^64 × check bits. -/

namespace Sys2Proof.Machine

/-- The columns of data bits 0 to 55: the 8-bit values of weight 3, ascending; then eight values of weight 5 (R202). -/
def wordColumns : List Nat :=
  [0x07, 0x0B, 0x0D, 0x0E, 0x13, 0x15, 0x16, 0x19, 0x1A, 0x1C, 0x23, 0x25, 0x26, 0x29, 0x2A, 0x2C] ++
  [0x31, 0x32, 0x34, 0x38, 0x43, 0x45, 0x46, 0x49, 0x4A, 0x4C, 0x51, 0x52, 0x54, 0x58, 0x61, 0x62] ++
  [0x64, 0x68, 0x70, 0x83, 0x85, 0x86, 0x89, 0x8A, 0x8C, 0x91, 0x92, 0x94, 0x98, 0xA1, 0xA2, 0xA4] ++
  [0xA8, 0xB0, 0xC1, 0xC2, 0xC4, 0xC8, 0xD0, 0xE0, 0x1F, 0x2F, 0x37, 0x3B, 0x3D, 0x3E, 0x4F, 0x57]

/-- The XOR of the columns of the data bits that are 1. -/
def foldColumns : List Nat → Nat → Nat
  | [], _ => 0
  | c :: cs, x => (if x % 2 = 1 then c else 0) ^^^ foldColumns cs (x / 2)

/-- The check bits of 64 data bits (R202). -/
def checkBits (data : Nat) : Nat := foldColumns wordColumns data

/-- The four classes of a read, as `CSTAT` numbers them (R203, R204). -/
inductive WordClass
  | clean | corrected | uncorrectable | poison
  deriving DecidableEq, Repr

def WordClass.code : WordClass → Nat
  | .clean => 0 | .corrected => 1 | .uncorrectable => 2 | .poison => 3

/-- What a read of a word shows: the data presented, its class and the syndrome (R203). -/
structure WordRead where
  data : Nat
  cls : WordClass
  syn : Nat
  deriving DecidableEq, Repr

/-- A word with correct check bits. -/
def codeWord (data : Nat) : BitVec 72 := BitVec.ofNat 72 (data % 2 ^ 64 + 2 ^ 64 * checkBits (data % 2 ^ 64))

/-- A lost word: its data as read, its check bits XOR 0x03 (R213). -/
def poisonWord (data : Nat) : BitVec 72 := BitVec.ofNat 72 (data % 2 ^ 64 + 2 ^ 64 * (checkBits (data % 2 ^ 64) ^^^ 0x03))

/-- Read a stored word under the word code (R203). -/
def readWord (x : BitVec 72) : WordRead :=
  let d := x.toNat % 2 ^ 64
  let syn := checkBits d ^^^ (x.toNat / 2 ^ 64)
  if syn = 0 then { data := d, cls := .clean, syn := 0 }
  else if syn = 3 then { data := d, cls := .poison, syn := 3 }
  else if (List.range 8).any (fun j => 1 <<< j = syn) then { data := d, cls := .corrected, syn := syn }
  else
    match wordColumns.findIdx? (fun c => c = syn) with
    | some i => { data := d ^^^ (1 <<< i), cls := .corrected, syn := syn }
    | none => { data := d, cls := .uncorrectable, syn := syn }

/-! ## The page code (R206, R207): eight byte lanes at once in a 64-bit number -/

/-- Multiply every lane by α = 0x02 in GF(2^8) with polynomial 0x11D. -/
def gfDouble (x : Nat) : Nat :=
  ((x &&& 0x7F7F7F7F7F7F7F7F) <<< 1) ^^^ (((x >>> 7) &&& 0x0101010101010101) * 0x1D)

/-- Multiply every lane by α^k. -/
def gfAlpha : Nat → Nat → Nat
  | 0, x => x
  | k + 1, x => gfAlpha k (gfDouble x)

/-- Multiply every lane by a constant, from its low `n` bits. -/
def gfScale : Nat → Nat → Nat → Nat
  | 0, _, _ => 0
  | n + 1, c, x => (if c % 2 = 1 then x else 0) ^^^ gfScale n (c / 2) (gfDouble x)

/-- The inverse of a nonzero constant of GF(2^8). -/
def gfInv (c : Nat) : Nat := ((List.range 256).find? (fun v => gfScale 8 c v = 1)).getD 0

/-- A(x) = Σ d_w and B = Σ d_w α^(w+2) over the data words of a page, all lanes. -/
def pageSumA (ws : List Nat) : Nat := ws.foldl (· ^^^ ·) 0
def pageSumB (ws : List Nat) : Nat := gfAlpha 2 (ws.foldr (fun w acc => w ^^^ gfDouble acc) 0)

/-- The parity data of a page, (p0, p1) (R206). -/
def pageParity (ws : List Nat) : Nat × Nat :=
  let p1 := gfScale 8 (gfInv 3) (pageSumA ws ^^^ pageSumB ws)
  (pageSumA ws ^^^ p1, p1)

/-- The parity data after data word `w` changes by `delta` (R208). -/
def parityUpdate (p : Nat × Nat) (w delta : Nat) : Nat × Nat :=
  let d1 := gfScale 8 (gfInv 3) (delta ^^^ gfAlpha (w + 2) delta)
  (p.1 ^^^ delta ^^^ d1, p.2 ^^^ d1)

/-- The page syndromes S0 = c(1) and S1 = c(α), all lanes (R207). -/
def pageSyndromes (ws : List Nat) (p : Nat × Nat) : Nat × Nat :=
  (pageSumA ws ^^^ p.1 ^^^ p.2, pageSumB ws ^^^ p.1 ^^^ gfDouble p.2)

/-- Byte lane `j` of a word. -/
def lane (j x : Nat) : Nat := (x >>> (8 * j)) % 256

/-- What the page code makes of a page: no error, a correction at each position (0 and 1 are the parity words, w + 2 data
word w), or no repair possible. -/
inductive PageRepair
  | none
  | fix (at_ : List (Nat × Nat))
  | impossible
  deriving DecidableEq, Repr

/-- One lane with both syndromes nonzero and no word marked: its error's position and value (R207). -/
def laneLocate (s0 s1 : Nat) : Option (Option (Nat × Nat)) :=
  if s0 = 0 ∧ s1 = 0 then some none
  else if s0 = 0 ∨ s1 = 0 then none
  else
    match (List.range 66).find? (fun i => gfAlpha i s0 = s1) with
    | some i => some (some (i, s0))
    | none => none

/-- Merge lane corrections into words. -/
def addFix (i v : Nat) : List (Nat × Nat) → List (Nat × Nat)
  | [] => [(i, v)]
  | (k, w) :: r => if k = i then (k, w ^^^ v) :: r else (k, w) :: addFix i v r

/-- Repair with no word marked: a single symbol error per lane (R207). -/
def pageLocate (s0 s1 : Nat) : PageRepair :=
  if s0 = 0 ∧ s1 = 0 then .none
  else
    (List.range 8).foldl (fun acc j =>
      match acc, laneLocate (lane j s0) (lane j s1) with
      | .impossible, _ => .impossible
      | _, none => .impossible
      | acc, some none => acc
      | .none, some (some (i, e)) => .fix [(i, e <<< (8 * j))]
      | .fix l, some (some (i, e)) => .fix (addFix i (e <<< (8 * j)) l)) PageRepair.none

/-- Repair of the marked positions as erasures: one is checked by S1, two use both syndromes, more cannot be repaired
(R207). -/
def pageErasures (s0 s1 : Nat) : List Nat → PageRepair
  | [] => pageLocate s0 s1
  | [i] => if gfAlpha i s0 = s1 then .fix [(i, s0)] else .impossible
  | [i, k] =>
    let ei := gfScale 8 (gfInv (gfAlpha i 1 ^^^ gfAlpha k 1)) (s1 ^^^ gfAlpha k s0)
    .fix [(i, ei), (k, s0 ^^^ ei)]
  | _ => .impossible

end Sys2Proof.Machine
end

