-- ==== Sys2Proof/Machine/P384.lean ====
section
/-! DEFINITION. The curve P-384, ECDSA with SHA-384 (FIPS 186-5) and ECDH (SP 800-56A), as R421, R422, R505 and R540 name them. The manual names
the standards and does not restate them (PRESUMED; log entry 40). -/

namespace Sys2Proof.Machine

namespace P384

/-- The field's prime, the coefficient b (a is -3), and the group's order. -/
def p : Nat := 2 ^ 384 - 2 ^ 128 - 2 ^ 96 + 2 ^ 32 - 1
def b : Nat := 0xb3312fa7e23ee7e4988e056be3f82d19181d9c6efe8141120314088f5013875ac656398d8a2ed19d2a85c8edd3ec2aef
def n : Nat := 0xffffffffffffffffffffffffffffffffffffffffffffffffc7634d81f4372ddf581a0db248b0a77aecec196accc52973

/-- `x` to the power of the low `k` bits of `e`, modulo `m`. -/
def powMod (m : Nat) : Nat → Nat → Nat → Nat
  | 0, _, _ => 1 % m
  | k + 1, x, e => (if e % 2 = 1 then x else 1) * powMod m k (x * x % m) (e / 2) % m

/-- The inverse modulo a prime of 384 bits; 0 for 0. -/
def invMod (m x : Nat) : Nat := powMod m 384 (x % m) (m - 2)

/-- A point of the curve: none is the point at infinity. -/
abbrev Point := Option (Nat × Nat)

def base : Point :=
  some (0xaa87ca22be8b05378eb1c71ef320ad746e1d3b628ba79b9859f741e082542a385502f25dbf55296c3a545e3872760ab7,
    0x3617de4a96262c6f5d9e98bf9292dc29f8f41dbd289a147ce9da3113b5f0b8c00a60b1ce1d7e819d7a431d7c90ea0e5f)

def onCurve (x y : Nat) : Bool := x < p && y < p && y * y % p = (x * x * x + (p - 3) * x + b) % p

/-- The sum of two points. -/
def add (P Q : Point) : Point :=
  match P, Q with
  | none, _ => Q
  | _, none => P
  | some (x1, y1), some (x2, y2) =>
    if x1 = x2 ∧ (y1 + y2) % p = 0 then none
    else
      let l := if x1 = x2 then (3 * x1 * x1 + p - 3) * invMod p (2 * y1) % p else (y2 + p - y1) * invMod p (x2 + p - x1) % p
      let x := (l * l + 2 * p - x1 - x2) % p
      some (x, (l * (x1 + p - x) + p - y1) % p)

/-- The low `k` bits of `e` times a point. -/
def mul : Nat → Nat → Point → Point
  | 0, _, _ => none
  | k + 1, e, P => if e % 2 = 1 then add P (mul k (e / 2) (add P P)) else mul k (e / 2) (add P P)

/-- A public key of 96 bytes, X then Y, big-endian; none where it is no point of the curve. -/
def publicKey (bs : List Byte) : Point :=
  let x := beNat (bs.take 48)
  let y := beNat ((bs.drop 48).take 48)
  if bs.length = 96 && onCurve x y then some (x, y) else none

def pointBytes (P : Point) : List Byte :=
  match P with
  | some (x, y) => beBytes 48 x ++ beBytes 48 y
  | none => List.replicate 96 0

/-- The shared secret Z of a private key and a public key: the x coordinate, 48 bytes big-endian. -/
def ecdh (key : Nat) (pub : List Byte) : Option (List Byte) :=
  (mul 384 key (publicKey pub)).map (fun q => beBytes 48 q.1)

/-- A key that two sides agree: the first 32 bytes of SHA-384(counter ‖ Z ‖ info), the first byte lowest (R422, R505, R541). -/
def agreedKey (counter : Byte) (key : Nat) (pub info : List Byte) : Option (BitVec 256) :=
  (ecdh key pub).map (fun z => BitVec.ofNat 256 (leNat ((Sha.sha384 ([0#8, 0#8, 0#8, counter] ++ z ++ info)).take 32)))

/-- The signature of a message by a private key, with `k` as its random number: r then s. -/
def sign (key k : Nat) (m : List Byte) : List Byte :=
  match mul 384 k base with
  | none => List.replicate 96 0
  | some q =>
    let r := q.1 % n
    beBytes 48 r ++ beBytes 48 (invMod n k * (beNat (Sha.sha384 m) + r * key) % n)

/-- Whether a signature, r then s of 48 bytes big-endian, verifies over a message. -/
def verify (pub sig m : List Byte) : Bool :=
  let r := beNat (sig.take 48)
  let s := beNat ((sig.drop 48).take 48)
  match publicKey pub with
  | none => false
  | some q =>
    if sig.length ≠ 96 ∨ r = 0 ∨ n ≤ r ∨ s = 0 ∨ n ≤ s then false
    else
      let w := invMod n s
      let e := beNat (Sha.sha384 m)
      match add (mul 384 (e * w % n) base) (mul 384 (r * w % n) (some q)) with
      | none => false
      | some v => v.1 % n = r

end P384

end Sys2Proof.Machine
end

