-- ==== Sys2Proof/Config.lean ====
section
/-! DEFINITION. What one part fixes (fuses, straps, fixed identity fields the manual does not number) and the
free values: constants with no body, so that no proof can see what they are. -/

namespace Sys2Proof.Config

/-- The free values of the manual's undefined results, of running counters between events and of allowed
choices: the value number `k` of a run. `State.fresh` counts how many have been taken (log entry 1). -/
opaque freeValue : Nat → Nat

/-- `VERSION` of the page whose number is given: "fixed" in R45, and no chapter gives the numbers (log entry 2). -/
opaque version : Nat → BitVec 16

/-- `CAPS.FEATURES` of a page for which no chapter gives the bits (log entry 2). -/
opaque features : Nat → BitVec 16

/-- `ID.TYPE` of the pages whose type code no chapter gives: hub global and die control (log entry 2). -/
opaque idType : Nat → BitVec 16

/-- Which of the six grades of R4 the part is: grade X rather than grade E, and one less than its speed grade. -/
opaque gradeX : Bool
opaque speedGrade : Fin 3

/-- The fuse fields of `HUB_DEVICE_ID` (R3, R4): temperature grade 1 E or 2 X, and speed grade 1 to 3. -/
def fuseTemp : BitVec 4 := if gradeX then 2 else 1
def fuseSpeed : BitVec 4 := BitVec.ofNat 4 (speedGrade.val + 1)

/-- The Hallmark identity of the part: `HM_ID`, the private key, whether the owner key hash is programmed, and it as a number, most significant
byte first (R421, R422, R505); the hash of the lab password likewise (R507). The Kortider provisioning public key, X then Y, and Kortider's
signature over this part's HELLO, r then s, each with its first byte lowest (R540). -/
opaque hallmarkId : BitVec 64
opaque hallmarkKey : BitVec 384
opaque hallmarkOkh : Bool
opaque ownerKeyHash : BitVec 384
opaque passwordHash : BitVec 384
opaque provisioningKey : BitVec 768
opaque kortiderSignature : BitVec 768

/-- The Kortider provisioning key hash (R421): of the provisioning public key. -/
def provisioningKeyHash : BitVec 384 := BitVec.ofNat 384 (Machine.beNat (Machine.Sha.sha384 (Machine.leBytes 96 provisioningKey.toNat)))

/-- Byte `o` of the image that the manager reads again for stream `n` from the source it loaded it from: flash, or host memory, outside the
block (R552). -/
opaque imageByte (n o : Nat) : Byte

/-- `HM_PUB`, the public key that belongs to the private key: X then Y, big-endian, the first byte lowest. -/
def hallmarkPub : BitVec 768 :=
  BitVec.ofNat 768 (Machine.leNat (Machine.P384.pointBytes (Machine.P384.mul 384 hallmarkKey.toNat Machine.P384.base)))

/-- The LAB fuse of `DBG_STATUS` (R507). -/
opaque fuseLab : Bool

/-- Entries of an endpoint's request queue (R307), which the manual does not number. -/
opaque requestQueue : Nat → Nat

/-- `mtval` of an illegal-instruction and of a breakpoint exception of an engine, which the RISC-V privileged specification
leaves to the implementation (R257). -/
opaque illegalTval : Nat → Nat
opaque ebreakTval : Nat → Nat

/-- By how much a REF lowers a bank's rolling activate count: JESD79-5 gives it by mode register (R378). -/
opaque refLowersRaa : Nat → Nat

/-- The key-derivation key that Hallmark derives from the part's device secret; the manual gives neither (R434). -/
opaque derivationKey : List Byte

/-- K1 ‖ K2 ‖ KT that DERIVE forms for a channel and a context: the counter-mode KDF of SP 800-108 with HMAC-SHA-384, i = 1 and 2, in output
order, the first byte lowest (R434). -/
def deviceKeys (channel ctx : Nat) : BitVec 768 :=
  let k := fun (i : Nat) => Machine.Sha.hmac derivationKey
    (Machine.beBytes 4 i ++ [0x4B#8, 0x53#8, 0x44#8, 0x52#8, 0x41#8, 0x4D#8] ++ [0#8] ++ (Machine.leBytes 1 channel ++ Machine.leBytes 4 ctx) ++
      Machine.beBytes 4 768)
  BitVec.ofNat 768 (Machine.leNat (k 1 ++ k 2))

/-- The MGR_SEL strap of the board, high meaning manager (R539). -/
opaque managerStrap : Bool

end Sys2Proof.Config
end

