-- ==== Sys2Proof/Machine/RegTypes.lean ====
section
/-! DEFINITION. What a register field is: where it lies, its type code (R14), its value after POR (R15, R45), its reserved
encodings (R16), the common header of every page (R44 to R51), and the kinds of page. -/

namespace Sys2Proof.Machine

/-- The type codes of R14. -/
inductive FieldType
  | ro | rw | w1c | wo | rwx | pk
  deriving DecidableEq, Repr

/-- Where a field is held, which decides what the resets of R470 do to it: the page itself, MRAM, the AON island, the
spare ledger in MRAM, a fuse, or a constant of the page. -/
inductive Home
  | main | mram | aon | ledger | fuse | fixed
  deriving DecidableEq, Repr

/-- A field's value after POR: a number, the index of the array element (`CLK_PLL.ROLE`), that index but 0xF for the
reserve module (`LMH_MOD.LOGICAL`), 1 where the router's local port has an endpoint (`SKR_PORT.EN`), or what the temperature
grade of the part gives (`THM_CTL.WARN_C`). -/
inductive FieldInit
  | val (n : Nat) | index | logical | present | warnC
  deriving DecidableEq, Repr

/-- One field of a register table. -/
structure RegField where
  off : Nat
  hi : Nat
  lo : Nat
  ty : FieldType
  init : FieldInit := .val 0
  stride : Nat := 4
  count : Nat := 1
  bad : List (Nat × Nat) := []
  home : Home := .main
  deriving DecidableEq, Repr

/-- The width of a field in bits. -/
def RegField.width (f : RegField) : Nat := f.hi + 1 - f.lo

/-- Whether a value is a reserved encoding of the field (R16). -/
def RegField.reserved (f : RegField) (v : Nat) : Bool :=
  f.bad.any (fun b => decide (b.1 ≤ v) && decide (v ≤ b.2))

/-- Whether the word at an offset of the page holds the field, and which element of the array it is. -/
def RegField.indexAt (f : RegField) (off : Nat) : Option Nat :=
  if f.off ≤ off ∧ (off - f.off) % f.stride = 0 ∧ (off - f.off) / f.stride < f.count then
    some ((off - f.off) / f.stride)
  else none

/-- The kinds of register page. `rtrPage` is a Skein router, `dieSide` the die-side Lomum port page. -/
inductive PageKind
  | hubGlobal | safety | powerCtl | powerDom | supply | thermal | clock | reset | recorder | time | config
  | hallmark | monitor | ply | router | port | dieSide | xbar | dieCtl | xport | sctl | mi
  | eng0 | eng1 | eng2 | eng3 | lane | opll | adapter | ddr | crypto
  deriving DecidableEq, Repr

namespace Reg

/-- `ID.TYPE` (R45). -/
def Hdr.ID_TYPE : RegField := { off := 0x000, hi := 31, lo := 16, ty := .ro, home := .fixed }
/-- `ID.INSTANCE` (R45). -/
def Hdr.ID_INSTANCE : RegField := { off := 0x000, hi := 15, lo := 0, ty := .ro, home := .fixed }
/-- `VERSION.MAJOR` (R45, R46). -/
def Hdr.VERSION_MAJOR : RegField := { off := 0x004, hi := 15, lo := 8, ty := .ro, home := .fixed }
/-- `VERSION.MINOR` (R45, R46). -/
def Hdr.VERSION_MINOR : RegField := { off := 0x004, hi := 7, lo := 0, ty := .ro, home := .fixed }
/-- `CAPS.EXPERT_DIFF` (R46). -/
def Hdr.CAPS_EXPERT_DIFF : RegField := { off := 0x008, hi := 31, lo := 16, ty := .ro, home := .fixed }
/-- `CAPS.FEATURES` (R46). -/
def Hdr.CAPS_FEATURES : RegField := { off := 0x008, hi := 15, lo := 0, ty := .ro, home := .fixed }
/-- `INT_STATUS.BLOCK` (R51). -/
def Hdr.INT_STATUS_BLOCK : RegField := { off := 0x020, hi := 31, lo := 16, ty := .w1c }
/-- `INT_STATUS.ERR_LOST` (R51, R56). -/
def Hdr.INT_STATUS_ERR_LOST : RegField := { off := 0x020, hi := 1, lo := 1, ty := .w1c }
/-- `INT_STATUS.ERR_CAPTURED` (R51, R56). -/
def Hdr.INT_STATUS_ERR_CAPTURED : RegField := { off := 0x020, hi := 0, lo := 0, ty := .w1c }
/-- `INT_ENABLE.BLOCK` (R51). -/
def Hdr.INT_ENABLE_BLOCK : RegField := { off := 0x024, hi := 31, lo := 16, ty := .rw }
/-- `INT_ENABLE.ERR_LOST` (R51). -/
def Hdr.INT_ENABLE_ERR_LOST : RegField := { off := 0x024, hi := 1, lo := 1, ty := .rw }
/-- `INT_ENABLE.ERR_CAPTURED` (R51). -/
def Hdr.INT_ENABLE_ERR_CAPTURED : RegField := { off := 0x024, hi := 0, lo := 0, ty := .rw }
/-- `INT_FORCE.BLOCK` (R51). -/
def Hdr.INT_FORCE_BLOCK : RegField := { off := 0x028, hi := 31, lo := 16, ty := .wo }
/-- `INT_FORCE.ERR_LOST` (R51). -/
def Hdr.INT_FORCE_ERR_LOST : RegField := { off := 0x028, hi := 1, lo := 1, ty := .wo }
/-- `INT_FORCE.ERR_CAPTURED` (R51). -/
def Hdr.INT_FORCE_ERR_CAPTURED : RegField := { off := 0x028, hi := 0, lo := 0, ty := .wo }
/-- `ERR_CAPTURE.VALID` (R56). -/
def Hdr.ERR_CAPTURE_VALID : RegField := { off := 0x030, hi := 31, lo := 31, ty := .ro }
/-- `ERR_CAPTURE.CODE` (R56). -/
def Hdr.ERR_CAPTURE_CODE : RegField := { off := 0x030, hi := 30, lo := 27, ty := .ro }
/-- `ERR_CAPTURE.ORIGIN` (R56, R596). -/
def Hdr.ERR_CAPTURE_ORIGIN : RegField := { off := 0x030, hi := 26, lo := 24, ty := .ro }
/-- `ERR_CAPTURE.DETAIL` (R56). -/
def Hdr.ERR_CAPTURE_DETAIL : RegField := { off := 0x030, hi := 23, lo := 12, ty := .ro }
/-- `ERR_CAPTURE.WORD` (R56). -/
def Hdr.ERR_CAPTURE_WORD : RegField := { off := 0x030, hi := 11, lo := 2, ty := .ro }
/-- `ERR_COUNT.COUNT` (R56). -/
def Hdr.ERR_COUNT_COUNT : RegField := { off := 0x034, hi := 15, lo := 0, ty := .pk }
/-- `EXPERT_KEY.STATE`: what a read of `EXPERT_KEY` returns (R47 to R51). -/
def Hdr.EXPERT_KEY_STATE : RegField := { off := 0x0F0, hi := 1, lo := 0, ty := .ro }

/-- The common header of every register page (R44). -/
def Hdr.fields : List RegField :=
  [Hdr.ID_TYPE, Hdr.ID_INSTANCE, Hdr.VERSION_MAJOR, Hdr.VERSION_MINOR, Hdr.CAPS_EXPERT_DIFF, Hdr.CAPS_FEATURES,
   Hdr.INT_STATUS_BLOCK, Hdr.INT_STATUS_ERR_LOST, Hdr.INT_STATUS_ERR_CAPTURED,
   Hdr.INT_ENABLE_BLOCK, Hdr.INT_ENABLE_ERR_LOST, Hdr.INT_ENABLE_ERR_CAPTURED,
   Hdr.INT_FORCE_BLOCK, Hdr.INT_FORCE_ERR_LOST, Hdr.INT_FORCE_ERR_CAPTURED,
   Hdr.ERR_CAPTURE_VALID, Hdr.ERR_CAPTURE_CODE, Hdr.ERR_CAPTURE_ORIGIN, Hdr.ERR_CAPTURE_DETAIL, Hdr.ERR_CAPTURE_WORD,
   Hdr.ERR_COUNT_COUNT, Hdr.EXPERT_KEY_STATE]

end Reg

end Sys2Proof.Machine
end

