-- ==== Sys2Proof/Machine/RegsHub.lean ====
section
/-! DEFINITION. The register fields of the hub pages, one definition a field: offset, bits, type, reset value, stride and count of
an array, reserved encodings and home (R14 to R16; the retention of each home is R470). Transcribed from the register tables of the chapters. -/

namespace Sys2Proof.Machine.Reg

/-- `INT_STATUS.ACCESS_FAULT` of the hub global page (02_register_conventions.md R53). -/
def HubGlobal.INT_ACCESS_FAULT : Nat := 16

/-- `HUB_DEVICE_ID.PART`, bits [31:16], of the hub global page (02_register_conventions.md R53). -/
def HubGlobal.HUB_DEVICE_ID_PART : RegField :=
  { off := 0x100, hi := 31, lo := 16, ty := .ro, init := .val 0xE909 }

/-- `HUB_DEVICE_ID.TEMP`, bits [11:8], of the hub global page (02_register_conventions.md R53). -/
def HubGlobal.HUB_DEVICE_ID_TEMP : RegField :=
  { off := 0x100, hi := 11, lo := 8, ty := .ro, init := .val 0x1, home := .fuse }

/-- `HUB_DEVICE_ID.SPEED`, bits [7:4], of the hub global page (02_register_conventions.md R53). -/
def HubGlobal.HUB_DEVICE_ID_SPEED : RegField :=
  { off := 0x100, hi := 7, lo := 4, ty := .ro, init := .val 0x1, home := .fuse }

/-- `HUB_DEVICE_ID.STEPPING`, bits [3:0], of the hub global page (02_register_conventions.md R53). -/
def HubGlobal.HUB_DEVICE_ID_STEPPING : RegField :=
  { off := 0x100, hi := 3, lo := 0, ty := .ro, init := .val 0x2, home := .fuse }

/-- `HUB_ACCESS_CTL.HOST_PEEK`, bits [1], of the hub global page (02_register_conventions.md R53). -/
def HubGlobal.HUB_ACCESS_CTL_HOST_PEEK : RegField :=
  { off := 0x104, hi := 1, lo := 1, ty := .rw }

/-- `HUB_ACCESS_CTL.STRICT`, bits [0], of the hub global page (02_register_conventions.md R53). -/
def HubGlobal.HUB_ACCESS_CTL_STRICT : RegField :=
  { off := 0x104, hi := 0, lo := 0, ty := .rw }

/-- `HUB_ACCESS_FAULT.VALID`, bits [31], of the hub global page (02_register_conventions.md R41). -/
def HubGlobal.HUB_ACCESS_FAULT_VALID : RegField :=
  { off := 0x108, hi := 31, lo := 31, ty := .w1c }

/-- `HUB_ACCESS_FAULT.OVERFLOW`, bits [30], of the hub global page (02_register_conventions.md R41). -/
def HubGlobal.HUB_ACCESS_FAULT_OVERFLOW : RegField :=
  { off := 0x108, hi := 30, lo := 30, ty := .ro }

/-- `HUB_ACCESS_FAULT.ORIGIN`, bits [18:16], of the hub global page (02_register_conventions.md R41). -/
def HubGlobal.HUB_ACCESS_FAULT_ORIGIN : RegField :=
  { off := 0x108, hi := 18, lo := 16, ty := .ro }

/-- `HUB_ACCESS_FAULT.UNPOPULATED`, bits [15], of the hub global page (02_register_conventions.md R41). -/
def HubGlobal.HUB_ACCESS_FAULT_UNPOPULATED : RegField :=
  { off := 0x108, hi := 15, lo := 15, ty := .ro }

/-- `HUB_ACCESS_FAULT.WRITE`, bits [14], of the hub global page (02_register_conventions.md R41). -/
def HubGlobal.HUB_ACCESS_FAULT_WRITE : RegField :=
  { off := 0x108, hi := 14, lo := 14, ty := .ro }

/-- `HUB_ACCESS_FAULT.PAGE`, bits [13:0], of the hub global page (02_register_conventions.md R41). -/
def HubGlobal.HUB_ACCESS_FAULT_PAGE : RegField :=
  { off := 0x108, hi := 13, lo := 0, ty := .ro }

/-- `HUB_BOOT_STATUS.LAST_REASON`, bits [31:24], of the hub global page (14_configuration_boot.md R441). -/
def HubGlobal.HUB_BOOT_STATUS_LAST_REASON : RegField :=
  { off := 0x110, hi := 31, lo := 24, ty := .ro }

/-- `HUB_BOOT_STATUS.BOOT_COUNT`, bits [23:16], of the hub global page (14_configuration_boot.md R441). -/
def HubGlobal.HUB_BOOT_STATUS_BOOT_COUNT : RegField :=
  { off := 0x110, hi := 23, lo := 16, ty := .ro, home := .mram }

/-- `HUB_BOOT_STATUS.SOURCE`, bits [10:8], of the hub global page (14_configuration_boot.md R441). -/
def HubGlobal.HUB_BOOT_STATUS_SOURCE : RegField :=
  { off := 0x110, hi := 10, lo := 8, ty := .ro }

/-- `HUB_BOOT_STATUS.DEGRADED`, bits [5], of the hub global page (14_configuration_boot.md R441). -/
def HubGlobal.HUB_BOOT_STATUS_DEGRADED : RegField :=
  { off := 0x110, hi := 5, lo := 5, ty := .ro }

/-- `HUB_BOOT_STATUS.MINIMAL`, bits [4], of the hub global page (14_configuration_boot.md R441). -/
def HubGlobal.HUB_BOOT_STATUS_MINIMAL : RegField :=
  { off := 0x110, hi := 4, lo := 4, ty := .ro }

/-- `HUB_BOOT_STATUS.PHASE`, bits [2:0], of the hub global page (14_configuration_boot.md R441). -/
def HubGlobal.HUB_BOOT_STATUS_PHASE : RegField :=
  { off := 0x110, hi := 2, lo := 0, ty := .ro }

/-- `HUB_BOOT_FAIL.REASON`, bits [31:24], of the hub global page (14_configuration_boot.md R437). -/
def HubGlobal.HUB_BOOT_FAIL_REASON : RegField :=
  { off := 0x114, hi := 31, lo := 24, ty := .ro }

/-- `HUB_BOOT_FAIL.DIE`, bits [22:20], of the hub global page (14_configuration_boot.md R437). -/
def HubGlobal.HUB_BOOT_FAIL_DIE : RegField :=
  { off := 0x114, hi := 22, lo := 20, ty := .ro }

/-- `HUB_BOOT_FAIL.SOURCE`, bits [18:16], of the hub global page (14_configuration_boot.md R437). -/
def HubGlobal.HUB_BOOT_FAIL_SOURCE : RegField :=
  { off := 0x114, hi := 18, lo := 16, ty := .ro }

/-- `HUB_BOOT_FAIL.ATTEMPT`, bits [7:0], of the hub global page (14_configuration_boot.md R437). -/
def HubGlobal.HUB_BOOT_FAIL_ATTEMPT : RegField :=
  { off := 0x114, hi := 7, lo := 0, ty := .ro }

/-- `HUB_BOOT_WHERE.WHERE`, bits [31:0], of the hub global page (14_configuration_boot.md R437). -/
def HubGlobal.HUB_BOOT_WHERE_WHERE : RegField :=
  { off := 0x118, hi := 31, lo := 0, ty := .ro }

/-- `HUB_BOOT_CONFIRM.KEY`, bits [31:0], of the hub global page (14_configuration_boot.md R436). -/
def HubGlobal.HUB_BOOT_CONFIRM_KEY : RegField :=
  { off := 0x11C, hi := 31, lo := 0, ty := .wo }

/-- `INT_PENDING.PEND`, bits [31:0], of the hub global page (02_register_conventions.md R54). -/
def HubGlobal.INT_PENDING_PEND : RegField :=
  { off := 0x400, hi := 31, lo := 0, ty := .ro, stride := 0x4, count := 128 }

/-- Fields of the hub global page, part 0. -/
def HubGlobal.fields0 : List RegField :=
  [HubGlobal.HUB_DEVICE_ID_PART, HubGlobal.HUB_DEVICE_ID_TEMP, HubGlobal.HUB_DEVICE_ID_SPEED, HubGlobal.HUB_DEVICE_ID_STEPPING,
   HubGlobal.HUB_ACCESS_CTL_HOST_PEEK, HubGlobal.HUB_ACCESS_CTL_STRICT, HubGlobal.HUB_ACCESS_FAULT_VALID, HubGlobal.HUB_ACCESS_FAULT_OVERFLOW,
   HubGlobal.HUB_ACCESS_FAULT_ORIGIN, HubGlobal.HUB_ACCESS_FAULT_UNPOPULATED, HubGlobal.HUB_ACCESS_FAULT_WRITE, HubGlobal.HUB_ACCESS_FAULT_PAGE,
   HubGlobal.HUB_BOOT_STATUS_LAST_REASON, HubGlobal.HUB_BOOT_STATUS_BOOT_COUNT, HubGlobal.HUB_BOOT_STATUS_SOURCE, HubGlobal.HUB_BOOT_STATUS_DEGRADED,
   HubGlobal.HUB_BOOT_STATUS_MINIMAL, HubGlobal.HUB_BOOT_STATUS_PHASE, HubGlobal.HUB_BOOT_FAIL_REASON, HubGlobal.HUB_BOOT_FAIL_DIE]

/-- Fields of the hub global page, part 1. -/
def HubGlobal.fields1 : List RegField :=
  [HubGlobal.HUB_BOOT_FAIL_SOURCE, HubGlobal.HUB_BOOT_FAIL_ATTEMPT, HubGlobal.HUB_BOOT_WHERE_WHERE, HubGlobal.HUB_BOOT_CONFIRM_KEY,
   HubGlobal.INT_PENDING_PEND]

/-- Every field of the hub global page beyond the common header. -/
def HubGlobal.fields : List RegField :=
  HubGlobal.fields0 ++ HubGlobal.fields1

/-- `INT_STATUS.FATAL` of the safety page (20_safety_latency_limits.md R560). -/
def Safety.INT_FATAL : Nat := 16

/-- `INT_STATUS.WARN` of the safety page (20_safety_latency_limits.md R560). -/
def Safety.INT_WARN : Nat := 17

/-- `INT_STATUS.LEDGER_FULL` of the safety page (20_safety_latency_limits.md R560). -/
def Safety.INT_LEDGER_FULL : Nat := 18

/-- `SAF_FATAL.THERMAL`, bits [7], of the safety page (20_safety_latency_limits.md R560). -/
def Safety.SAF_FATAL_THERMAL : RegField :=
  { off := 0x100, hi := 7, lo := 7, ty := .ro }

/-- `SAF_FATAL.TEMP`, bits [6], of the safety page (20_safety_latency_limits.md R560). -/
def Safety.SAF_FATAL_TEMP : RegField :=
  { off := 0x100, hi := 6, lo := 6, ty := .ro }

/-- `SAF_FATAL.MRAM`, bits [5], of the safety page (20_safety_latency_limits.md R560). -/
def Safety.SAF_FATAL_MRAM : RegField :=
  { off := 0x100, hi := 5, lo := 5, ty := .ro }

/-- `SAF_FATAL.CLOCK`, bits [4], of the safety page (20_safety_latency_limits.md R560). -/
def Safety.SAF_FATAL_CLOCK : RegField :=
  { off := 0x100, hi := 4, lo := 4, ty := .ro }

/-- `SAF_FATAL.AUDIT`, bits [3], of the safety page (20_safety_latency_limits.md R560). -/
def Safety.SAF_FATAL_AUDIT : RegField :=
  { off := 0x100, hi := 3, lo := 3, ty := .ro }

/-- `SAF_FATAL.SPINDLE`, bits [2], of the safety page (20_safety_latency_limits.md R560). -/
def Safety.SAF_FATAL_SPINDLE : RegField :=
  { off := 0x100, hi := 2, lo := 2, ty := .ro }

/-- `SAF_FATAL.MEMORY`, bits [1], of the safety page (20_safety_latency_limits.md R560). -/
def Safety.SAF_FATAL_MEMORY : RegField :=
  { off := 0x100, hi := 1, lo := 1, ty := .ro }

/-- `SAF_FATAL.CROSS_LOST`, bits [0], of the safety page (20_safety_latency_limits.md R560). -/
def Safety.SAF_FATAL_CROSS_LOST : RegField :=
  { off := 0x100, hi := 0, lo := 0, ty := .ro }

/-- `SAF_FIRST.CODE`, bits [31:16], of the safety page (20_safety_latency_limits.md R560). -/
def Safety.SAF_FIRST_CODE : RegField :=
  { off := 0x104, hi := 31, lo := 16, ty := .ro }

/-- `SAF_FIRST.PAGE`, bits [13:0], of the safety page (20_safety_latency_limits.md R560). -/
def Safety.SAF_FIRST_PAGE : RegField :=
  { off := 0x104, hi := 13, lo := 0, ty := .ro }

/-- `SAF_WARN.FORCED`, bits [10], of the safety page (20_safety_latency_limits.md R561). -/
def Safety.SAF_WARN_FORCED : RegField :=
  { off := 0x108, hi := 10, lo := 10, ty := .ro }

/-- `SAF_WARN.SPARE`, bits [9], of the safety page (20_safety_latency_limits.md R561). -/
def Safety.SAF_WARN_SPARE : RegField :=
  { off := 0x108, hi := 9, lo := 9, ty := .w1c }

/-- `SAF_WARN.PLY`, bits [8], of the safety page (20_safety_latency_limits.md R561). -/
def Safety.SAF_WARN_PLY : RegField :=
  { off := 0x108, hi := 8, lo := 8, ty := .w1c }

/-- `SAF_WARN.CLOCK`, bits [7], of the safety page (20_safety_latency_limits.md R561). -/
def Safety.SAF_WARN_CLOCK : RegField :=
  { off := 0x108, hi := 7, lo := 7, ty := .w1c }

/-- `SAF_WARN.CRYPTO`, bits [6], of the safety page (20_safety_latency_limits.md R561). -/
def Safety.SAF_WARN_CRYPTO : RegField :=
  { off := 0x108, hi := 6, lo := 6, ty := .w1c }

/-- `SAF_WARN.DDR`, bits [5], of the safety page (20_safety_latency_limits.md R561). -/
def Safety.SAF_WARN_DDR : RegField :=
  { off := 0x108, hi := 5, lo := 5, ty := .w1c }

/-- `SAF_WARN.MEM`, bits [4], of the safety page (20_safety_latency_limits.md R561). -/
def Safety.SAF_WARN_MEM : RegField :=
  { off := 0x108, hi := 4, lo := 4, ty := .w1c }

/-- `SAF_WARN.LOMUM`, bits [3], of the safety page (20_safety_latency_limits.md R561). -/
def Safety.SAF_WARN_LOMUM : RegField :=
  { off := 0x108, hi := 3, lo := 3, ty := .w1c }

/-- `SAF_WARN.TEMP_HIGH`, bits [2], of the safety page (20_safety_latency_limits.md R561). -/
def Safety.SAF_WARN_TEMP_HIGH : RegField :=
  { off := 0x108, hi := 2, lo := 2, ty := .ro }

/-- `SAF_WARN.FREE_RUN`, bits [1], of the safety page (20_safety_latency_limits.md R561). -/
def Safety.SAF_WARN_FREE_RUN : RegField :=
  { off := 0x108, hi := 1, lo := 1, ty := .ro }

/-- `SAF_WARN.SUPPLY`, bits [0], of the safety page (20_safety_latency_limits.md R561). -/
def Safety.SAF_WARN_SUPPLY : RegField :=
  { off := 0x108, hi := 0, lo := 0, ty := .ro }

/-- `SAF_PINS.WARN_N`, bits [1], of the safety page (20_safety_latency_limits.md R560). -/
def Safety.SAF_PINS_WARN_N : RegField :=
  { off := 0x10C, hi := 1, lo := 1, ty := .ro, init := .val 0x1 }

/-- `SAF_PINS.ERR_N`, bits [0], of the safety page (20_safety_latency_limits.md R560). -/
def Safety.SAF_PINS_ERR_N : RegField :=
  { off := 0x10C, hi := 0, lo := 0, ty := .ro, init := .val 0x1 }

/-- `SAF_LEDGER.HIST_DROPPED`, bits [31:16], of the safety page (20_safety_latency_limits.md R567). -/
def Safety.SAF_LEDGER_HIST_DROPPED : RegField :=
  { off := 0x110, hi := 31, lo := 16, ty := .ro, home := .mram }

/-- `SAF_LEDGER.HIST_FULL`, bits [15], of the safety page (20_safety_latency_limits.md R567). -/
def Safety.SAF_LEDGER_HIST_FULL : RegField :=
  { off := 0x110, hi := 15, lo := 15, ty := .ro, home := .mram }

/-- `SAF_LEDGER.HIST_COUNT`, bits [10:0], of the safety page (20_safety_latency_limits.md R567). -/
def Safety.SAF_LEDGER_HIST_COUNT : RegField :=
  { off := 0x110, hi := 10, lo := 0, ty := .ro, home := .mram }

/-- `SAF_MRAM.TRANSIENT`, bits [31:16], of the safety page (20_safety_latency_limits.md R563). -/
def Safety.SAF_MRAM_TRANSIENT : RegField :=
  { off := 0x114, hi := 31, lo := 16, ty := .pk }

/-- `SAF_MRAM.LASTING`, bits [15:8], of the safety page (20_safety_latency_limits.md R563). -/
def Safety.SAF_MRAM_LASTING : RegField :=
  { off := 0x114, hi := 15, lo := 8, ty := .ro }

/-- `SAF_MRAM.SPARES_FREE`, bits [5:0], of the safety page (20_safety_latency_limits.md R563). -/
def Safety.SAF_MRAM_SPARES_FREE : RegField :=
  { off := 0x114, hi := 5, lo := 0, ty := .ro, init := .val 0x20, home := .ledger }

/-- `SAF_TEMP_SENS.RETIRED`, bits [20:0], of the safety page (20_safety_latency_limits.md R569). -/
def Safety.SAF_TEMP_SENS_RETIRED : RegField :=
  { off := 0x118, hi := 20, lo := 0, ty := .ro, home := .ledger }

/-- `SAF_TEST.FORCE_WARN`, bits [1], of the safety page (20_safety_latency_limits.md R560). -/
def Safety.SAF_TEST_FORCE_WARN : RegField :=
  { off := 0x800, hi := 1, lo := 1, ty := .rwx }

/-- `SAF_TEST.FORCE_ERR`, bits [0], of the safety page (20_safety_latency_limits.md R560). -/
def Safety.SAF_TEST_FORCE_ERR : RegField :=
  { off := 0x800, hi := 0, lo := 0, ty := .rwx }

/-- Fields of the safety page, part 0. -/
def Safety.fields0 : List RegField :=
  [Safety.SAF_FATAL_THERMAL, Safety.SAF_FATAL_TEMP, Safety.SAF_FATAL_MRAM, Safety.SAF_FATAL_CLOCK,
   Safety.SAF_FATAL_AUDIT, Safety.SAF_FATAL_SPINDLE, Safety.SAF_FATAL_MEMORY, Safety.SAF_FATAL_CROSS_LOST,
   Safety.SAF_FIRST_CODE, Safety.SAF_FIRST_PAGE, Safety.SAF_WARN_FORCED, Safety.SAF_WARN_SPARE,
   Safety.SAF_WARN_PLY, Safety.SAF_WARN_CLOCK, Safety.SAF_WARN_CRYPTO, Safety.SAF_WARN_DDR,
   Safety.SAF_WARN_MEM, Safety.SAF_WARN_LOMUM, Safety.SAF_WARN_TEMP_HIGH, Safety.SAF_WARN_FREE_RUN]

/-- Fields of the safety page, part 1. -/
def Safety.fields1 : List RegField :=
  [Safety.SAF_WARN_SUPPLY, Safety.SAF_PINS_WARN_N, Safety.SAF_PINS_ERR_N, Safety.SAF_LEDGER_HIST_DROPPED,
   Safety.SAF_LEDGER_HIST_FULL, Safety.SAF_LEDGER_HIST_COUNT, Safety.SAF_MRAM_TRANSIENT, Safety.SAF_MRAM_LASTING,
   Safety.SAF_MRAM_SPARES_FREE, Safety.SAF_TEMP_SENS_RETIRED, Safety.SAF_TEST_FORCE_WARN, Safety.SAF_TEST_FORCE_ERR]

/-- Every field of the safety page beyond the common header. -/
def Safety.fields : List RegField :=
  Safety.fields0 ++ Safety.fields1

/-- `INT_STATUS.REFUSED` of the power control page (16_power_supplies.md R494). -/
def PowerCtl.INT_REFUSED : Nat := 16

/-- `INT_STATUS.ABORTED` of the power control page (16_power_supplies.md R494). -/
def PowerCtl.INT_ABORTED : Nat := 17

/-- `INT_STATUS.FORCED` of the power control page (16_power_supplies.md R494). -/
def PowerCtl.INT_FORCED : Nat := 18

/-- `INT_STATUS.WARN` of the power control page (16_power_supplies.md R494). -/
def PowerCtl.INT_WARN : Nat := 19

/-- `INT_STATUS.WARN_CLEAR` of the power control page (16_power_supplies.md R494). -/
def PowerCtl.INT_WARN_CLEAR : Nat := 20

/-- `INT_STATUS.ALARM` of the power control page (16_power_supplies.md R494). -/
def PowerCtl.INT_ALARM : Nat := 21

/-- `INT_STATUS.WAKE_PIN` of the power control page (16_power_supplies.md R494). -/
def PowerCtl.INT_WAKE_PIN : Nat := 22

/-- `INT_STATUS.PKT_WAKE` of the power control page (16_power_supplies.md R494). -/
def PowerCtl.INT_PKT_WAKE : Nat := 23

/-- `PWR_VOTE.SET`, bits [31], of the power control page (16_power_supplies.md R476). -/
def PowerCtl.PWR_VOTE_SET : RegField :=
  { off := 0x100, hi := 31, lo := 31, ty := .wo }

/-- `PWR_VOTE.CLIENT`, bits [20:16], of the power control page (16_power_supplies.md R476). -/
def PowerCtl.PWR_VOTE_CLIENT : RegField :=
  { off := 0x100, hi := 20, lo := 16, ty := .wo, bad := [(0x6, 0xF)] }

/-- `PWR_VOTE.DOMAIN`, bits [6:0], of the power control page (16_power_supplies.md R476). -/
def PowerCtl.PWR_VOTE_DOMAIN : RegField :=
  { off := 0x100, hi := 6, lo := 0, ty := .wo }

/-- `PWR_DOM_CMD.DROP`, bits [8], of the power control page (16_power_supplies.md R480). -/
def PowerCtl.PWR_DOM_CMD_DROP : RegField :=
  { off := 0x104, hi := 8, lo := 8, ty := .wo }

/-- `PWR_DOM_CMD.DOMAIN`, bits [6:0], of the power control page (16_power_supplies.md R480). -/
def PowerCtl.PWR_DOM_CMD_DOMAIN : RegField :=
  { off := 0x104, hi := 6, lo := 0, ty := .wo }

/-- `PWR_STATE_CTL.KEY`, bits [31:16], of the power control page (16_power_supplies.md R486). -/
def PowerCtl.PWR_STATE_CTL_KEY : RegField :=
  { off := 0x108, hi := 31, lo := 16, ty := .wo }

/-- `PWR_STATE_CTL.HIBERNATE`, bits [0], of the power control page (16_power_supplies.md R486). -/
def PowerCtl.PWR_STATE_CTL_HIBERNATE : RegField :=
  { off := 0x108, hi := 0, lo := 0, ty := .wo }

/-- `PWR_WAKE_EN.EN`, bits [3:0], of the power control page (16_power_supplies.md R487). -/
def PowerCtl.PWR_WAKE_EN_EN : RegField :=
  { off := 0x10C, hi := 3, lo := 0, ty := .rw, init := .val 0x2, home := .aon }

/-- `PWR_WAKE_CAUSE.CAUSE`, bits [3:0], of the power control page (16_power_supplies.md R487). -/
def PowerCtl.PWR_WAKE_CAUSE_CAUSE : RegField :=
  { off := 0x110, hi := 3, lo := 0, ty := .w1c, home := .aon }

/-- `PWR_HIB_STAT.SR_HELD`, bits [7:0], of the power control page (16_power_supplies.md R486). -/
def PowerCtl.PWR_HIB_STAT_SR_HELD : RegField :=
  { off := 0x114, hi := 7, lo := 0, ty := .ro, home := .aon }

/-- `PWR_ALARM_LO.ALARM`, bits [31:0], of the power control page (16_power_supplies.md R488). -/
def PowerCtl.PWR_ALARM_LO_ALARM : RegField :=
  { off := 0x118, hi := 31, lo := 0, ty := .rw, home := .aon }

/-- `PWR_ALARM_HI.ALARM`, bits [15:0], of the power control page (16_power_supplies.md R488). -/
def PowerCtl.PWR_ALARM_HI_ALARM : RegField :=
  { off := 0x11C, hi := 15, lo := 0, ty := .rw, home := .aon }

/-- `PWR_ALARM_CTL.FIRED`, bits [1], of the power control page (16_power_supplies.md R488). -/
def PowerCtl.PWR_ALARM_CTL_FIRED : RegField :=
  { off := 0x120, hi := 1, lo := 1, ty := .w1c, home := .aon }

/-- `PWR_ALARM_CTL.EN`, bits [0], of the power control page (16_power_supplies.md R488). -/
def PowerCtl.PWR_ALARM_CTL_EN : RegField :=
  { off := 0x120, hi := 0, lo := 0, ty := .rw, home := .aon }

/-- `PWR_WAKE_HOLD.WAKE_HOLD`, bits [15:0], of the power control page (16_power_supplies.md R484). -/
def PowerCtl.PWR_WAKE_HOLD_WAKE_HOLD : RegField :=
  { off := 0x124, hi := 15, lo := 0, ty := .rw, init := .val 0x64, bad := [(0x0, 0x0)] }

/-- Every field of the power control page beyond the common header. -/
def PowerCtl.fields : List RegField :=
  [PowerCtl.PWR_VOTE_SET, PowerCtl.PWR_VOTE_CLIENT, PowerCtl.PWR_VOTE_DOMAIN, PowerCtl.PWR_DOM_CMD_DROP,
   PowerCtl.PWR_DOM_CMD_DOMAIN, PowerCtl.PWR_STATE_CTL_KEY, PowerCtl.PWR_STATE_CTL_HIBERNATE, PowerCtl.PWR_WAKE_EN_EN,
   PowerCtl.PWR_WAKE_CAUSE_CAUSE, PowerCtl.PWR_HIB_STAT_SR_HELD, PowerCtl.PWR_ALARM_LO_ALARM, PowerCtl.PWR_ALARM_HI_ALARM,
   PowerCtl.PWR_ALARM_CTL_FIRED, PowerCtl.PWR_ALARM_CTL_EN, PowerCtl.PWR_WAKE_HOLD_WAKE_HOLD]

/-- `DOM_VOTES.VOTES`, bits [31:0], of the domain page (16_power_supplies.md R477). -/
def PowerDom.DOM_VOTES_VOTES : RegField :=
  { off := 0x100, hi := 31, lo := 0, ty := .ro, init := .val 0x10, stride := 0x10, count := 105 }

/-- `DOM_STATE.STATE`, bits [31:28], of the domain page (16_power_supplies.md R475). -/
def PowerDom.DOM_STATE_STATE : RegField :=
  { off := 0x104, hi := 31, lo := 28, ty := .ro, init := .val 0x2, stride := 0x10, count := 105 }

/-- `DOM_STATE.WANTED`, bits [24], of the domain page (16_power_supplies.md R475). -/
def PowerDom.DOM_STATE_WANTED : RegField :=
  { off := 0x104, hi := 24, lo := 24, ty := .ro, init := .val 0x1, stride := 0x10, count := 105 }

/-- `DOM_STATE.FORCED`, bits [23:16], of the domain page (16_power_supplies.md R475). -/
def PowerDom.DOM_STATE_FORCED : RegField :=
  { off := 0x104, hi := 23, lo := 16, ty := .ro, stride := 0x10, count := 105 }

/-- `DOM_STATE.PKT_WAKE`, bits [8], of the domain page (16_power_supplies.md R475). -/
def PowerDom.DOM_STATE_PKT_WAKE : RegField :=
  { off := 0x104, hi := 8, lo := 8, ty := .rw, stride := 0x10, count := 105 }

/-- `DOM_STATE.SHED`, bits [4], of the domain page (16_power_supplies.md R475). -/
def PowerDom.DOM_STATE_SHED : RegField :=
  { off := 0x104, hi := 4, lo := 4, ty := .rw, stride := 0x10, count := 105 }

/-- `DOM_STATE.KEEP_DRAM`, bits [1], of the domain page (16_power_supplies.md R475). -/
def PowerDom.DOM_STATE_KEEP_DRAM : RegField :=
  { off := 0x104, hi := 1, lo := 1, ty := .rw, stride := 0x10, count := 105 }

/-- `DOM_CNT.REFUSED`, bits [31:16], of the domain page (16_power_supplies.md R479). -/
def PowerDom.DOM_CNT_REFUSED : RegField :=
  { off := 0x108, hi := 31, lo := 16, ty := .pk, stride := 0x10, count := 105 }

/-- `DOM_CNT.ABORTED`, bits [15:0], of the domain page (16_power_supplies.md R479). -/
def PowerDom.DOM_CNT_ABORTED : RegField :=
  { off := 0x108, hi := 15, lo := 0, ty := .pk, stride := 0x10, count := 105 }

/-- `DOM_REF.VALID`, bits [31], of the domain page (16_power_supplies.md R481). -/
def PowerDom.DOM_REF_VALID : RegField :=
  { off := 0x10C, hi := 31, lo := 31, ty := .ro, stride := 0x10, count := 105 }

/-- `DOM_REF.KIND`, bits [30:28], of the domain page (16_power_supplies.md R481). -/
def PowerDom.DOM_REF_KIND : RegField :=
  { off := 0x10C, hi := 30, lo := 28, ty := .ro, stride := 0x10, count := 105 }

/-- `DOM_REF.ID`, bits [13:0], of the domain page (16_power_supplies.md R481). -/
def PowerDom.DOM_REF_ID : RegField :=
  { off := 0x10C, hi := 13, lo := 0, ty := .ro, stride := 0x10, count := 105 }

/-- Every field of the domain page beyond the common header. -/
def PowerDom.fields : List RegField :=
  [PowerDom.DOM_VOTES_VOTES, PowerDom.DOM_STATE_STATE, PowerDom.DOM_STATE_WANTED, PowerDom.DOM_STATE_FORCED,
   PowerDom.DOM_STATE_PKT_WAKE, PowerDom.DOM_STATE_SHED, PowerDom.DOM_STATE_KEEP_DRAM, PowerDom.DOM_CNT_REFUSED,
   PowerDom.DOM_CNT_ABORTED, PowerDom.DOM_REF_VALID, PowerDom.DOM_REF_KIND, PowerDom.DOM_REF_ID]

/-- `PWR_VAON_WARN.LEVEL`, bits [11:0], of the supply page (16_power_supplies.md R493). -/
def Supply.PWR_VAON_WARN_LEVEL : RegField :=
  { off := 0x100, hi := 11, lo := 0, ty := .rw, init := .val 0x668, bad := [(0x0, 0x667), (0xD49, 0xFFF)], home := .aon }

/-- `PWR_VAON.WARN`, bits [31], of the supply page (16_power_supplies.md R492). -/
def Supply.PWR_VAON_WARN : RegField :=
  { off := 0x104, hi := 31, lo := 31, ty := .ro }

/-- `PWR_VAON.MV`, bits [11:0], of the supply page (16_power_supplies.md R492). -/
def Supply.PWR_VAON_MV : RegField :=
  { off := 0x104, hi := 11, lo := 0, ty := .ro }

/-- `PWR_REG_STAT.LOW_POWER`, bits [8], of the supply page (16_power_supplies.md R490). -/
def Supply.PWR_REG_STAT_LOW_POWER : RegField :=
  { off := 0x108, hi := 8, lo := 8, ty := .ro }

/-- `PWR_REG_STAT.LOAD_MA`, bits [7:0], of the supply page (16_power_supplies.md R490). -/
def Supply.PWR_REG_STAT_LOAD_MA : RegField :=
  { off := 0x108, hi := 7, lo := 0, ty := .ro }

/-- `PWR_WARN_CNT.COUNT`, bits [15:0], of the supply page (16_power_supplies.md R493). -/
def Supply.PWR_WARN_CNT_COUNT : RegField :=
  { off := 0x10C, hi := 15, lo := 0, ty := .pk }

/-- `PWR_RAIL_WARN.WARN`, bits [15:0], of the supply page (16_power_supplies.md R493). -/
def Supply.PWR_RAIL_WARN_WARN : RegField :=
  { off := 0x110, hi := 15, lo := 0, ty := .ro }

/-- `PWR_SUPPLY_TEST.FORCE_WARN`, bits [0], of the supply page (16_power_supplies.md R493). -/
def Supply.PWR_SUPPLY_TEST_FORCE_WARN : RegField :=
  { off := 0x800, hi := 0, lo := 0, ty := .rwx }

/-- Every field of the supply page beyond the common header. -/
def Supply.fields : List RegField :=
  [Supply.PWR_VAON_WARN_LEVEL, Supply.PWR_VAON_WARN, Supply.PWR_VAON_MV, Supply.PWR_REG_STAT_LOW_POWER,
   Supply.PWR_REG_STAT_LOAD_MA, Supply.PWR_WARN_CNT_COUNT, Supply.PWR_RAIL_WARN_WARN, Supply.PWR_SUPPLY_TEST_FORCE_WARN]

/-- `INT_STATUS.THERM_WARN` of the thermal page (21_electrical_package.md R587). -/
def Thermal.INT_THERM_WARN : Nat := 16

/-- `INT_STATUS.THERM_CLEAR` of the thermal page (21_electrical_package.md R587). -/
def Thermal.INT_THERM_CLEAR : Nat := 17

/-- `INT_STATUS.LIFE_OVER` of the thermal page (21_electrical_package.md R587). -/
def Thermal.INT_LIFE_OVER : Nat := 18

/-- `THM_DIE.TEMP`, bits [15:0], of the thermal page (21_electrical_package.md R584). -/
def Thermal.THM_DIE_TEMP : RegField :=
  { off := 0x100, hi := 15, lo := 0, ty := .ro, stride := 0x4, count := 7 }

/-- `THM_CTL.SHED_EN`, bits [16], of the thermal page (21_electrical_package.md R587). -/
def Thermal.THM_CTL_SHED_EN : RegField :=
  { off := 0x120, hi := 16, lo := 16, ty := .rw }

/-- `THM_CTL.WARN_C`, bits [7:0], of the thermal page (21_electrical_package.md R587). -/
def Thermal.THM_CTL_WARN_C : RegField :=
  { off := 0x120, hi := 7, lo := 0, ty := .rw, init := .warnC, bad := [(0x79, 0xFF)] }

/-- `THM_STAT.TRIPPED`, bits [2], of the thermal page (21_electrical_package.md R587). -/
def Thermal.THM_STAT_TRIPPED : RegField :=
  { off := 0x124, hi := 2, lo := 2, ty := .w1c, home := .aon }

/-- `THM_STAT.LIFE_OVER`, bits [1], of the thermal page (21_electrical_package.md R587). -/
def Thermal.THM_STAT_LIFE_OVER : RegField :=
  { off := 0x124, hi := 1, lo := 1, ty := .ro, home := .mram }

/-- `THM_STAT.WARN`, bits [0], of the thermal page (21_electrical_package.md R587). -/
def Thermal.THM_STAT_WARN : RegField :=
  { off := 0x124, hi := 0, lo := 0, ty := .ro }

/-- `THM_LIFE_LO.LIFE`, bits [31:0], of the thermal page (21_electrical_package.md R585). -/
def Thermal.THM_LIFE_LO_LIFE : RegField :=
  { off := 0x128, hi := 31, lo := 0, ty := .ro, home := .mram }

/-- `THM_LIFE_HI.LIFE`, bits [15:0], of the thermal page (21_electrical_package.md R585). -/
def Thermal.THM_LIFE_HI_LIFE : RegField :=
  { off := 0x12C, hi := 15, lo := 0, ty := .ro, home := .mram }

/-- Every field of the thermal page beyond the common header. -/
def Thermal.fields : List RegField :=
  [Thermal.THM_DIE_TEMP, Thermal.THM_CTL_SHED_EN, Thermal.THM_CTL_WARN_C, Thermal.THM_STAT_TRIPPED,
   Thermal.THM_STAT_LIFE_OVER, Thermal.THM_STAT_WARN, Thermal.THM_LIFE_LO_LIFE, Thermal.THM_LIFE_HI_LIFE]

/-- `INT_STATUS.REF_SWITCH` of the clock page (15_clocks_resets.md R472). -/
def Clock.INT_REF_SWITCH : Nat := 16

/-- `INT_STATUS.REF_LOST` of the clock page (15_clocks_resets.md R472). -/
def Clock.INT_REF_LOST : Nat := 17

/-- `INT_STATUS.PLL_FAIL` of the clock page (15_clocks_resets.md R472). -/
def Clock.INT_PLL_FAIL : Nat := 18

/-- `INT_STATUS.SPARE_IN` of the clock page (15_clocks_resets.md R472). -/
def Clock.INT_SPARE_IN : Nat := 19

/-- `INT_STATUS.SPAN_STOP` of the clock page (15_clocks_resets.md R472). -/
def Clock.INT_SPAN_STOP : Nat := 20

/-- `STATUS.HOLDOVER`, bits [5], of the clock page (15_clocks_resets.md R472). -/
def Clock.STATUS_HOLDOVER : RegField :=
  { off := 0x014, hi := 5, lo := 5, ty := .ro }

/-- `STATUS.FREE_RUN`, bits [4], of the clock page (15_clocks_resets.md R472). -/
def Clock.STATUS_FREE_RUN : RegField :=
  { off := 0x014, hi := 4, lo := 4, ty := .ro }

/-- `STATUS.REF_ACTIVE`, bits [1:0], of the clock page (15_clocks_resets.md R472). -/
def Clock.STATUS_REF_ACTIVE : RegField :=
  { off := 0x014, hi := 1, lo := 0, ty := .ro }

/-- `CLK_REF.REVERTIVE`, bits [1], of the clock page (15_clocks_resets.md R459). -/
def Clock.CLK_REF_REVERTIVE : RegField :=
  { off := 0x100, hi := 1, lo := 1, ty := .rw, home := .mram }

/-- `CLK_REF.PRIMARY`, bits [0], of the clock page (15_clocks_resets.md R459). -/
def Clock.CLK_REF_PRIMARY : RegField :=
  { off := 0x100, hi := 0, lo := 0, ty := .rw, home := .mram }

/-- `CLK_REF_MON.B_BAD`, bits [31:24], of the clock page (15_clocks_resets.md R459). -/
def Clock.CLK_REF_MON_B_BAD : RegField :=
  { off := 0x104, hi := 31, lo := 24, ty := .pk }

/-- `CLK_REF_MON.A_BAD`, bits [23:16], of the clock page (15_clocks_resets.md R459). -/
def Clock.CLK_REF_MON_A_BAD : RegField :=
  { off := 0x104, hi := 23, lo := 16, ty := .pk }

/-- `CLK_REF_MON.B_OK`, bits [1], of the clock page (15_clocks_resets.md R459). -/
def Clock.CLK_REF_MON_B_OK : RegField :=
  { off := 0x104, hi := 1, lo := 1, ty := .ro }

/-- `CLK_REF_MON.A_OK`, bits [0], of the clock page (15_clocks_resets.md R459). -/
def Clock.CLK_REF_MON_A_OK : RegField :=
  { off := 0x104, hi := 0, lo := 0, ty := .ro }

/-- `CLK_SPAN.ACTIVE`, bits [5:4], of the clock page (15_clocks_resets.md R454). -/
def Clock.CLK_SPAN_ACTIVE : RegField :=
  { off := 0x108, hi := 5, lo := 4, ty := .ro, home := .mram }

/-- `CLK_SPAN.RATE`, bits [1:0], of the clock page (15_clocks_resets.md R454). -/
def Clock.CLK_SPAN_RATE : RegField :=
  { off := 0x108, hi := 1, lo := 0, ty := .rw, bad := [(0x3, 0x3)], home := .mram }

/-- `CLK_SPAN_COUNT_LO.COUNT`, bits [31:0], of the clock page (15_clocks_resets.md R456). -/
def Clock.CLK_SPAN_COUNT_LO_COUNT : RegField :=
  { off := 0x110, hi := 31, lo := 0, ty := .ro }

/-- `CLK_SPAN_COUNT_HI.COUNT`, bits [31:0], of the clock page (15_clocks_resets.md R456). -/
def Clock.CLK_SPAN_COUNT_HI_COUNT : RegField :=
  { off := 0x114, hi := 31, lo := 0, ty := .ro }

/-- `CLK_PLL.UNLOCKS`, bits [23:16], of the clock page (15_clocks_resets.md R462). -/
def Clock.CLK_PLL_UNLOCKS : RegField :=
  { off := 0x120, hi := 23, lo := 16, ty := .ro, stride := 0x4, count := 4 }

/-- `CLK_PLL.RETIRED`, bits [8], of the clock page (15_clocks_resets.md R462). -/
def Clock.CLK_PLL_RETIRED : RegField :=
  { off := 0x120, hi := 8, lo := 8, ty := .ro, stride := 0x4, count := 4, home := .ledger }

/-- `CLK_PLL.ROLE`, bits [5:4], of the clock page (15_clocks_resets.md R462). -/
def Clock.CLK_PLL_ROLE : RegField :=
  { off := 0x120, hi := 5, lo := 4, ty := .ro, init := .index, stride := 0x4, count := 4, home := .ledger }

/-- `CLK_PLL.LOCK`, bits [0], of the clock page (15_clocks_resets.md R462). -/
def Clock.CLK_PLL_LOCK : RegField :=
  { off := 0x120, hi := 0, lo := 0, ty := .ro, stride := 0x4, count := 4 }

/-- `CLK_LREF.FREQ1`, bits [6:4], of the clock page (15_clocks_resets.md R457). -/
def Clock.CLK_LREF_FREQ1 : RegField :=
  { off := 0x140, hi := 6, lo := 4, ty := .rw, init := .val 0x3, stride := 0x4, count := 2, bad := [(0x5, 0x7)] }

/-- `CLK_LREF.FREQ0`, bits [2:0], of the clock page (15_clocks_resets.md R457). -/
def Clock.CLK_LREF_FREQ0 : RegField :=
  { off := 0x140, hi := 2, lo := 0, ty := .rw, init := .val 0x3, stride := 0x4, count := 2, bad := [(0x5, 0x7)] }

/-- `CLK_SYNCE.EN`, bits [31], of the clock page (15_clocks_resets.md R458). -/
def Clock.CLK_SYNCE_EN : RegField :=
  { off := 0x150, hi := 31, lo := 31, ty := .rw, stride := 0x4, count := 2 }

/-- `CLK_SYNCE.SQUELCHED`, bits [16], of the clock page (15_clocks_resets.md R458). -/
def Clock.CLK_SYNCE_SQUELCHED : RegField :=
  { off := 0x150, hi := 16, lo := 16, ty := .ro, init := .val 0x1, stride := 0x4, count := 2 }

/-- `CLK_SYNCE.DIE`, bits [8], of the clock page (15_clocks_resets.md R458). -/
def Clock.CLK_SYNCE_DIE : RegField :=
  { off := 0x150, hi := 8, lo := 8, ty := .rw, stride := 0x4, count := 2 }

/-- `CLK_SYNCE.OCTET`, bits [2:0], of the clock page (15_clocks_resets.md R458). -/
def Clock.CLK_SYNCE_OCTET : RegField :=
  { off := 0x150, hi := 2, lo := 0, ty := .rw, stride := 0x4, count := 2 }

/-- `CLK_SPAN_STOPPED_F0.STOPPED`, bits [31:0], of the clock page (15_clocks_resets.md R455). -/
def Clock.CLK_SPAN_STOPPED_F0_STOPPED : RegField :=
  { off := 0x180, hi := 31, lo := 0, ty := .ro, stride := 0x4, count := 3 }

/-- `CLK_SPAN_STOPPED_F1.STOPPED`, bits [31:0], of the clock page (15_clocks_resets.md R455). -/
def Clock.CLK_SPAN_STOPPED_F1_STOPPED : RegField :=
  { off := 0x190, hi := 31, lo := 0, ty := .ro, stride := 0x4, count := 3 }

/-- `CLK_SPAN_STOPPED_F2.STOPPED`, bits [31:0], of the clock page (15_clocks_resets.md R455). -/
def Clock.CLK_SPAN_STOPPED_F2_STOPPED : RegField :=
  { off := 0x1A0, hi := 31, lo := 0, ty := .ro, stride := 0x4, count := 3 }

/-- `CLK_SPAN_STOPPED_F3.STOPPED`, bits [31:0], of the clock page (15_clocks_resets.md R455). -/
def Clock.CLK_SPAN_STOPPED_F3_STOPPED : RegField :=
  { off := 0x1B0, hi := 31, lo := 0, ty := .ro, stride := 0x4, count := 3 }

/-- `CLK_SPAN_STOPPED_LANE.STOPPED`, bits [15:0], of the clock page (15_clocks_resets.md R455). -/
def Clock.CLK_SPAN_STOPPED_LANE_STOPPED : RegField :=
  { off := 0x1C0, hi := 15, lo := 0, ty := .ro }

/-- Fields of the clock page, part 0. -/
def Clock.fields0 : List RegField :=
  [Clock.STATUS_HOLDOVER, Clock.STATUS_FREE_RUN, Clock.STATUS_REF_ACTIVE, Clock.CLK_REF_REVERTIVE,
   Clock.CLK_REF_PRIMARY, Clock.CLK_REF_MON_B_BAD, Clock.CLK_REF_MON_A_BAD, Clock.CLK_REF_MON_B_OK,
   Clock.CLK_REF_MON_A_OK, Clock.CLK_SPAN_ACTIVE, Clock.CLK_SPAN_RATE, Clock.CLK_SPAN_COUNT_LO_COUNT,
   Clock.CLK_SPAN_COUNT_HI_COUNT, Clock.CLK_PLL_UNLOCKS, Clock.CLK_PLL_RETIRED, Clock.CLK_PLL_ROLE,
   Clock.CLK_PLL_LOCK, Clock.CLK_LREF_FREQ1, Clock.CLK_LREF_FREQ0, Clock.CLK_SYNCE_EN]

/-- Fields of the clock page, part 1. -/
def Clock.fields1 : List RegField :=
  [Clock.CLK_SYNCE_SQUELCHED, Clock.CLK_SYNCE_DIE, Clock.CLK_SYNCE_OCTET, Clock.CLK_SPAN_STOPPED_F0_STOPPED,
   Clock.CLK_SPAN_STOPPED_F1_STOPPED, Clock.CLK_SPAN_STOPPED_F2_STOPPED, Clock.CLK_SPAN_STOPPED_F3_STOPPED, Clock.CLK_SPAN_STOPPED_LANE_STOPPED]

/-- Every field of the clock page beyond the common header. -/
def Clock.fields : List RegField :=
  Clock.fields0 ++ Clock.fields1

/-- `INT_STATUS.DIE_HELD` of the reset page (15_clocks_resets.md R465). -/
def Reset.INT_DIE_HELD : Nat := 16

/-- `RST_CTL.KEY`, bits [31:16], of the reset page (15_clocks_resets.md R465). -/
def Reset.RST_CTL_KEY : RegField :=
  { off := 0x100, hi := 31, lo := 16, ty := .wo }

/-- `RST_CTL.DOMAIN_SEL`, bits [15:12], of the reset page (15_clocks_resets.md R465). -/
def Reset.RST_CTL_DOMAIN_SEL : RegField :=
  { off := 0x100, hi := 15, lo := 12, ty := .wo }

/-- `RST_CTL.DIE_SEL`, bits [10:8], of the reset page (15_clocks_resets.md R465). -/
def Reset.RST_CTL_DIE_SEL : RegField :=
  { off := 0x100, hi := 10, lo := 8, ty := .wo }

/-- `RST_CTL.DOMAIN`, bits [3], of the reset page (15_clocks_resets.md R465). -/
def Reset.RST_CTL_DOMAIN : RegField :=
  { off := 0x100, hi := 3, lo := 3, ty := .wo }

/-- `RST_CTL.DIE`, bits [2], of the reset page (15_clocks_resets.md R465). -/
def Reset.RST_CTL_DIE : RegField :=
  { off := 0x100, hi := 2, lo := 2, ty := .wo }

/-- `RST_CTL.WARM`, bits [1], of the reset page (15_clocks_resets.md R465). -/
def Reset.RST_CTL_WARM : RegField :=
  { off := 0x100, hi := 1, lo := 1, ty := .wo }

/-- `RST_CTL.DEVICE`, bits [0], of the reset page (15_clocks_resets.md R465). -/
def Reset.RST_CTL_DEVICE : RegField :=
  { off := 0x100, hi := 0, lo := 0, ty := .wo }

/-- `RST_CAUSE.CAUSE`, bits [3:0], of the reset page (15_clocks_resets.md R472). -/
def Reset.RST_CAUSE_CAUSE : RegField :=
  { off := 0x104, hi := 3, lo := 0, ty := .ro, init := .val 0x1, home := .aon }

/-- `RST_DIE_STAT.HELD`, bits [14:8], of the reset page (15_clocks_resets.md R468). -/
def Reset.RST_DIE_STAT_HELD : RegField :=
  { off := 0x108, hi := 14, lo := 8, ty := .ro }

/-- `RST_DIE_STAT.IN_RESET`, bits [6:0], of the reset page (15_clocks_resets.md R468). -/
def Reset.RST_DIE_STAT_IN_RESET : RegField :=
  { off := 0x108, hi := 6, lo := 0, ty := .ro }

/-- `RST_COUNT.WARM`, bits [31:16], of the reset page (15_clocks_resets.md R472). -/
def Reset.RST_COUNT_WARM : RegField :=
  { off := 0x10C, hi := 31, lo := 16, ty := .ro, home := .aon }

/-- `RST_COUNT.DEVICE`, bits [15:0], of the reset page (15_clocks_resets.md R472). -/
def Reset.RST_COUNT_DEVICE : RegField :=
  { off := 0x10C, hi := 15, lo := 0, ty := .ro, home := .aon }

/-- Every field of the reset page beyond the common header. -/
def Reset.fields : List RegField :=
  [Reset.RST_CTL_KEY, Reset.RST_CTL_DOMAIN_SEL, Reset.RST_CTL_DIE_SEL, Reset.RST_CTL_DOMAIN,
   Reset.RST_CTL_DIE, Reset.RST_CTL_WARM, Reset.RST_CTL_DEVICE, Reset.RST_CAUSE_CAUSE,
   Reset.RST_DIE_STAT_HELD, Reset.RST_DIE_STAT_IN_RESET, Reset.RST_COUNT_WARM, Reset.RST_COUNT_DEVICE]

/-- `INT_STATUS.NOTIFY` of the recorder page (18_event_recorder_time.md R535). -/
def Recorder.INT_NOTIFY : Nat := 16

/-- `INT_STATUS.LOST` of the recorder page (18_event_recorder_time.md R535). -/
def Recorder.INT_LOST : Nat := 17

/-- `INT_STATUS.WRAP` of the recorder page (18_event_recorder_time.md R535). -/
def Recorder.INT_WRAP : Nat := 18

/-- `INT_STATUS.SUPPRESSED` of the recorder page (18_event_recorder_time.md R535). -/
def Recorder.INT_SUPPRESSED : Nat := 19

/-- `EVT_HEAD.HEAD`, bits [17:0], of the recorder page (18_event_recorder_time.md R531). -/
def Recorder.EVT_HEAD_HEAD : RegField :=
  { off := 0x100, hi := 17, lo := 0, ty := .ro, home := .mram }

/-- `EVT_OLDEST.OLDEST`, bits [17:0], of the recorder page (18_event_recorder_time.md R531). -/
def Recorder.EVT_OLDEST_OLDEST : RegField :=
  { off := 0x104, hi := 17, lo := 0, ty := .ro, home := .mram }

/-- `EVT_NEXT_SEQ.SEQ`, bits [31:0], of the recorder page (18_event_recorder_time.md R534). -/
def Recorder.EVT_NEXT_SEQ_SEQ : RegField :=
  { off := 0x108, hi := 31, lo := 0, ty := .ro, home := .mram }

/-- `EVT_RATE.REFILL_MS`, bits [23:8], of the recorder page (18_event_recorder_time.md R533). -/
def Recorder.EVT_RATE_REFILL_MS : RegField :=
  { off := 0x10C, hi := 23, lo := 8, ty := .rw, init := .val 0x3E8, bad := [(0x0, 0x0)] }

/-- `EVT_RATE.BURST`, bits [7:0], of the recorder page (18_event_recorder_time.md R533). -/
def Recorder.EVT_RATE_BURST : RegField :=
  { off := 0x10C, hi := 7, lo := 0, ty := .rw, init := .val 0x10, bad := [(0x0, 0x0)] }

/-- `EVT_NOTIFY.SEV`, bits [2:0], of the recorder page (18_event_recorder_time.md R531). -/
def Recorder.EVT_NOTIFY_SEV : RegField :=
  { off := 0x110, hi := 2, lo := 0, ty := .rw, init := .val 0x3 }

/-- `EVT_STAGE.LOST`, bits [31:16], of the recorder page (18_event_recorder_time.md R532). -/
def Recorder.EVT_STAGE_LOST : RegField :=
  { off := 0x114, hi := 31, lo := 16, ty := .pk }

/-- `EVT_STAGE.LEVEL`, bits [13:0], of the recorder page (18_event_recorder_time.md R532). -/
def Recorder.EVT_STAGE_LEVEL : RegField :=
  { off := 0x114, hi := 13, lo := 0, ty := .ro }

/-- `EVT_CLASS_SEL.CLASS`, bits [7:0], of the recorder page (18_event_recorder_time.md R533). -/
def Recorder.EVT_CLASS_SEL_CLASS : RegField :=
  { off := 0x118, hi := 7, lo := 0, ty := .rw }

/-- `EVT_CLASS_STAT.TOTAL`, bits [31:16], of the recorder page (18_event_recorder_time.md R533). -/
def Recorder.EVT_CLASS_STAT_TOTAL : RegField :=
  { off := 0x11C, hi := 31, lo := 16, ty := .pk }

/-- `EVT_CLASS_STAT.TOKENS`, bits [15:8], of the recorder page (18_event_recorder_time.md R533). -/
def Recorder.EVT_CLASS_STAT_TOKENS : RegField :=
  { off := 0x11C, hi := 15, lo := 8, ty := .ro, init := .val 0x10 }

/-- `EVT_CLASS_STAT.PENDING`, bits [7:0], of the recorder page (18_event_recorder_time.md R533). -/
def Recorder.EVT_CLASS_STAT_PENDING : RegField :=
  { off := 0x11C, hi := 7, lo := 0, ty := .ro }

/-- `EVT_SW_CMD.CODE`, bits [31:16], of the recorder page (18_event_recorder_time.md R535). -/
def Recorder.EVT_SW_CMD_CODE : RegField :=
  { off := 0x120, hi := 31, lo := 16, ty := .wo }

/-- `EVT_SW_CMD.LENGTH`, bits [15:8], of the recorder page (18_event_recorder_time.md R535). -/
def Recorder.EVT_SW_CMD_LENGTH : RegField :=
  { off := 0x120, hi := 15, lo := 8, ty := .wo }

/-- `EVT_SW_CMD.SEVERITY`, bits [2:0], of the recorder page (18_event_recorder_time.md R535). -/
def Recorder.EVT_SW_CMD_SEVERITY : RegField :=
  { off := 0x120, hi := 2, lo := 0, ty := .wo }

/-- `EVT_SW_STAT.BUSY`, bits [0], of the recorder page (18_event_recorder_time.md R535). -/
def Recorder.EVT_SW_STAT_BUSY : RegField :=
  { off := 0x124, hi := 0, lo := 0, ty := .ro }

/-- `EVT_SW_PAYLOAD.DATA`, bits [31:0], of the recorder page (18_event_recorder_time.md R535). -/
def Recorder.EVT_SW_PAYLOAD_DATA : RegField :=
  { off := 0x140, hi := 31, lo := 0, ty := .rw, stride := 0x4, count := 14 }

/-- `EVT_SEQ_PRESET.SEQ`, bits [31:0], of the recorder page (18_event_recorder_time.md R535). -/
def Recorder.EVT_SEQ_PRESET_SEQ : RegField :=
  { off := 0x800, hi := 31, lo := 0, ty := .rwx }

/-- Every field of the recorder page beyond the common header. -/
def Recorder.fields : List RegField :=
  [Recorder.EVT_HEAD_HEAD, Recorder.EVT_OLDEST_OLDEST, Recorder.EVT_NEXT_SEQ_SEQ, Recorder.EVT_RATE_REFILL_MS,
   Recorder.EVT_RATE_BURST, Recorder.EVT_NOTIFY_SEV, Recorder.EVT_STAGE_LOST, Recorder.EVT_STAGE_LEVEL,
   Recorder.EVT_CLASS_SEL_CLASS, Recorder.EVT_CLASS_STAT_TOTAL, Recorder.EVT_CLASS_STAT_TOKENS, Recorder.EVT_CLASS_STAT_PENDING,
   Recorder.EVT_SW_CMD_CODE, Recorder.EVT_SW_CMD_LENGTH, Recorder.EVT_SW_CMD_SEVERITY, Recorder.EVT_SW_STAT_BUSY,
   Recorder.EVT_SW_PAYLOAD_DATA, Recorder.EVT_SEQ_PRESET_SEQ]

/-- `TIME_OPS_LO.OPS`, bits [31:0], of the time page (18_event_recorder_time.md R524). -/
def Time.TIME_OPS_LO_OPS : RegField :=
  { off := 0x100, hi := 31, lo := 0, ty := .ro, home := .aon }

/-- `TIME_OPS_HI.OPS`, bits [15:0], of the time page (18_event_recorder_time.md R524). -/
def Time.TIME_OPS_HI_OPS : RegField :=
  { off := 0x104, hi := 15, lo := 0, ty := .ro, home := .aon }

/-- `TIME_PCC.PCC`, bits [31:0], of the time page (18_event_recorder_time.md R526). -/
def Time.TIME_PCC_PCC : RegField :=
  { off := 0x108, hi := 31, lo := 0, ty := .ro, init := .val 0x1, home := .aon }

/-- `TIME_STAT.RESUMED`, bits [4], of the time page (18_event_recorder_time.md R525). -/
def Time.TIME_STAT_RESUMED : RegField :=
  { off := 0x10C, hi := 4, lo := 4, ty := .ro, init := .val 0x1, home := .aon }

/-- `TIME_STAT.PCC_SAT`, bits [2], of the time page (18_event_recorder_time.md R525). -/
def Time.TIME_STAT_PCC_SAT : RegField :=
  { off := 0x10C, hi := 2, lo := 2, ty := .ro, home := .aon }

/-- `TIME_STAT.SOURCE`, bits [1:0], of the time page (18_event_recorder_time.md R525). -/
def Time.TIME_STAT_SOURCE : RegField :=
  { off := 0x10C, hi := 1, lo := 0, ty := .ro, home := .aon }

/-- `TIME_CKPT_LO.CKPT`, bits [31:0], of the time page (18_event_recorder_time.md R526). -/
def Time.TIME_CKPT_LO_CKPT : RegField :=
  { off := 0x110, hi := 31, lo := 0, ty := .ro, home := .mram }

/-- `TIME_CKPT_HI.CKPT`, bits [15:0], of the time page (18_event_recorder_time.md R526). -/
def Time.TIME_CKPT_HI_CKPT : RegField :=
  { off := 0x114, hi := 15, lo := 0, ty := .ro, home := .mram }

/-- `TIME_SUBSEC.US`, bits [19:0], of the time page (18_event_recorder_time.md R524). -/
def Time.TIME_SUBSEC_US : RegField :=
  { off := 0x118, hi := 19, lo := 0, ty := .ro, home := .aon }

/-- Every field of the time page beyond the common header. -/
def Time.fields : List RegField :=
  [Time.TIME_OPS_LO_OPS, Time.TIME_OPS_HI_OPS, Time.TIME_PCC_PCC, Time.TIME_STAT_RESUMED,
   Time.TIME_STAT_PCC_SAT, Time.TIME_STAT_SOURCE, Time.TIME_CKPT_LO_CKPT, Time.TIME_CKPT_HI_CKPT,
   Time.TIME_SUBSEC_US]

/-- `INT_STATUS.LOAD_DONE` of the configuration controller page (14_configuration_boot.md R435). -/
def Cfg.INT_LOAD_DONE : Nat := 16

/-- `INT_STATUS.LOAD_FAIL` of the configuration controller page (14_configuration_boot.md R435). -/
def Cfg.INT_LOAD_FAIL : Nat := 17

/-- `INT_STATUS.RELOAD_DONE` of the configuration controller page (14_configuration_boot.md R435). -/
def Cfg.INT_RELOAD_DONE : Nat := 18

/-- `CTL.HOST_LOAD`, bits [2], of the configuration controller page (14_configuration_boot.md R435). -/
def Cfg.CTL_HOST_LOAD : RegField :=
  { off := 0x010, hi := 2, lo := 2, ty := .wo }

/-- `CTL.RELOAD`, bits [1], of the configuration controller page (14_configuration_boot.md R435). -/
def Cfg.CTL_RELOAD : RegField :=
  { off := 0x010, hi := 1, lo := 1, ty := .wo }

/-- `STATUS.BUSY`, bits [8], of the configuration controller page (14_configuration_boot.md R435). -/
def Cfg.STATUS_BUSY : RegField :=
  { off := 0x014, hi := 8, lo := 8, ty := .ro }

/-- `STATUS.PHASE`, bits [2:0], of the configuration controller page (14_configuration_boot.md R435). -/
def Cfg.STATUS_PHASE : RegField :=
  { off := 0x014, hi := 2, lo := 0, ty := .ro }

/-- `CFG_POLICY.ADDR4`, bits [18], of the configuration controller page (14_configuration_boot.md R435). -/
def Cfg.CFG_POLICY_ADDR4 : RegField :=
  { off := 0x100, hi := 18, lo := 18, ty := .rw, home := .mram }

/-- `CFG_POLICY.FLASH_MODE`, bits [17:16], of the configuration controller page (14_configuration_boot.md R435). -/
def Cfg.CFG_POLICY_FLASH_MODE : RegField :=
  { off := 0x100, hi := 17, lo := 16, ty := .rw, bad := [(0x2, 0x3)], home := .mram }

/-- `CFG_POLICY.B_OFFSET`, bits [15:8], of the configuration controller page (14_configuration_boot.md R435). -/
def Cfg.CFG_POLICY_B_OFFSET : RegField :=
  { off := 0x100, hi := 15, lo := 8, ty := .rw, init := .val 0x1, bad := [(0x0, 0x0)], home := .mram }

/-- `CFG_POLICY.PREFER_B`, bits [4], of the configuration controller page (14_configuration_boot.md R435). -/
def Cfg.CFG_POLICY_PREFER_B : RegField :=
  { off := 0x100, hi := 4, lo := 4, ty := .rw, home := .mram }

/-- `CFG_POLICY.SOURCE`, bits [1:0], of the configuration controller page (14_configuration_boot.md R435). -/
def Cfg.CFG_POLICY_SOURCE : RegField :=
  { off := 0x100, hi := 1, lo := 0, ty := .rw, home := .mram }

/-- `CFG_PRECFG.HIGHZ`, bits [15:0], of the configuration controller page (14_configuration_boot.md R442). -/
def Cfg.CFG_PRECFG_HIGHZ : RegField :=
  { off := 0x104, hi := 15, lo := 0, ty := .rw, home := .mram }

/-- `CFG_WARM.EN`, bits [31], of the configuration controller page (14_configuration_boot.md R449). -/
def Cfg.CFG_WARM_EN : RegField :=
  { off := 0x108, hi := 31, lo := 31, ty := .rw, home := .mram }

/-- `CFG_WARM.CHANNEL`, bits [26:24], of the configuration controller page (14_configuration_boot.md R449). -/
def Cfg.CFG_WARM_CHANNEL : RegField :=
  { off := 0x108, hi := 26, lo := 24, ty := .rw, home := .mram }

/-- `CFG_WARM.REGION`, bits [19:16], of the configuration controller page (14_configuration_boot.md R449). -/
def Cfg.CFG_WARM_REGION : RegField :=
  { off := 0x108, hi := 19, lo := 16, ty := .rw, home := .mram }

/-- `CFG_HOST_ADDR_LO.ADDR`, bits [31:0], of the configuration controller page (14_configuration_boot.md R435). -/
def Cfg.CFG_HOST_ADDR_LO_ADDR : RegField :=
  { off := 0x110, hi := 31, lo := 0, ty := .rw }

/-- `CFG_HOST_ADDR_HI.ADDR`, bits [31:0], of the configuration controller page (14_configuration_boot.md R435). -/
def Cfg.CFG_HOST_ADDR_HI_ADDR : RegField :=
  { off := 0x114, hi := 31, lo := 0, ty := .rw }

/-- `CFG_HOST_LEN_LO.LEN`, bits [31:0], of the configuration controller page (14_configuration_boot.md R435). -/
def Cfg.CFG_HOST_LEN_LO_LEN : RegField :=
  { off := 0x118, hi := 31, lo := 0, ty := .rw }

/-- `CFG_HOST_LEN_HI.LEN`, bits [31:0], of the configuration controller page (14_configuration_boot.md R435). -/
def Cfg.CFG_HOST_LEN_HI_LEN : RegField :=
  { off := 0x11C, hi := 31, lo := 0, ty := .rw }

/-- `CFG_RELOAD.DIE`, bits [18:16], of the configuration controller page (14_configuration_boot.md R448). -/
def Cfg.CFG_RELOAD_DIE : RegField :=
  { off := 0x120, hi := 18, lo := 16, ty := .rw, bad := [(0x0, 0x0), (0x5, 0x7)] }

/-- `CFG_RELOAD.FROM_WARM`, bits [8], of the configuration controller page (14_configuration_boot.md R448). -/
def Cfg.CFG_RELOAD_FROM_WARM : RegField :=
  { off := 0x120, hi := 8, lo := 8, ty := .rw }

/-- `CFG_RELOAD_STAT.DONE`, bits [31], of the configuration controller page (14_configuration_boot.md R448). -/
def Cfg.CFG_RELOAD_STAT_DONE : RegField :=
  { off := 0x124, hi := 31, lo := 31, ty := .w1c }

/-- `CFG_RELOAD_STAT.FAILED`, bits [30], of the configuration controller page (14_configuration_boot.md R448). -/
def Cfg.CFG_RELOAD_STAT_FAILED : RegField :=
  { off := 0x124, hi := 30, lo := 30, ty := .ro }

/-- `CFG_RELOAD_STAT.REASON`, bits [7:0], of the configuration controller page (14_configuration_boot.md R448). -/
def Cfg.CFG_RELOAD_STAT_REASON : RegField :=
  { off := 0x124, hi := 7, lo := 0, ty := .ro }

/-- `CFG_WARM_STAT.VALID`, bits [3:0], of the configuration controller page (14_configuration_boot.md R449). -/
def Cfg.CFG_WARM_STAT_VALID : RegField :=
  { off := 0x128, hi := 3, lo := 0, ty := .ro }

/-- Fields of the configuration controller page, part 0. -/
def Cfg.fields0 : List RegField :=
  [Cfg.CTL_HOST_LOAD, Cfg.CTL_RELOAD, Cfg.STATUS_BUSY, Cfg.STATUS_PHASE,
   Cfg.CFG_POLICY_ADDR4, Cfg.CFG_POLICY_FLASH_MODE, Cfg.CFG_POLICY_B_OFFSET, Cfg.CFG_POLICY_PREFER_B,
   Cfg.CFG_POLICY_SOURCE, Cfg.CFG_PRECFG_HIGHZ, Cfg.CFG_WARM_EN, Cfg.CFG_WARM_CHANNEL,
   Cfg.CFG_WARM_REGION, Cfg.CFG_HOST_ADDR_LO_ADDR, Cfg.CFG_HOST_ADDR_HI_ADDR, Cfg.CFG_HOST_LEN_LO_LEN,
   Cfg.CFG_HOST_LEN_HI_LEN, Cfg.CFG_RELOAD_DIE, Cfg.CFG_RELOAD_FROM_WARM, Cfg.CFG_RELOAD_STAT_DONE]

/-- Fields of the configuration controller page, part 1. -/
def Cfg.fields1 : List RegField :=
  [Cfg.CFG_RELOAD_STAT_FAILED, Cfg.CFG_RELOAD_STAT_REASON, Cfg.CFG_WARM_STAT_VALID]

/-- Every field of the configuration controller page beyond the common header. -/
def Cfg.fields : List RegField :=
  Cfg.fields0 ++ Cfg.fields1

/-- `HM_ID_LO.ID`, bits [31:0], of the Hallmark page (14_configuration_boot.md R434). -/
def Hallmark.HM_ID_LO_ID : RegField :=
  { off := 0x100, hi := 31, lo := 0, ty := .ro, home := .fuse }

/-- `HM_ID_HI.ID`, bits [31:0], of the Hallmark page (14_configuration_boot.md R434). -/
def Hallmark.HM_ID_HI_ID : RegField :=
  { off := 0x104, hi := 31, lo := 0, ty := .ro, home := .fuse }

/-- `HM_OKH.PROGRAMMED`, bits [0], of the Hallmark page (14_configuration_boot.md R434). -/
def Hallmark.HM_OKH_PROGRAMMED : RegField :=
  { off := 0x108, hi := 0, lo := 0, ty := .ro, home := .fuse }

/-- `HM_PUB.PUB`, bits [31:0], of the Hallmark page (14_configuration_boot.md R434). -/
def Hallmark.HM_PUB_PUB : RegField :=
  { off := 0x200, hi := 31, lo := 0, ty := .ro, stride := 0x4, count := 24, home := .fuse }

/-- Every field of the Hallmark page beyond the common header. -/
def Hallmark.fields : List RegField :=
  [Hallmark.HM_ID_LO_ID, Hallmark.HM_ID_HI_ID, Hallmark.HM_OKH_PROGRAMMED, Hallmark.HM_PUB_PUB]

/-- `INT_STATUS.MB_RESP` of the monitor page (17_debug_run_control.md R522). -/
def Monitor.INT_MB_RESP : Nat := 16

/-- `INT_STATUS.SESSION_END` of the monitor page (17_debug_run_control.md R522). -/
def Monitor.INT_SESSION_END : Nat := 17

/-- `INT_STATUS.AUTH_FAIL` of the monitor page (17_debug_run_control.md R522). -/
def Monitor.INT_AUTH_FAIL : Nat := 18

/-- `DBG_MB_CTL.GO`, bits [0], of the monitor page (17_debug_run_control.md R501). -/
def Monitor.DBG_MB_CTL_GO : RegField :=
  { off := 0x100, hi := 0, lo := 0, ty := .wo }

/-- `DBG_MB_STAT.BUSY`, bits [31], of the monitor page (17_debug_run_control.md R501). -/
def Monitor.DBG_MB_STAT_BUSY : RegField :=
  { off := 0x104, hi := 31, lo := 31, ty := .ro }

/-- `DBG_MB_STAT.RESP`, bits [30], of the monitor page (17_debug_run_control.md R501). -/
def Monitor.DBG_MB_STAT_RESP : RegField :=
  { off := 0x104, hi := 30, lo := 30, ty := .ro }

/-- `DBG_MB_STAT.RLEN`, bits [25:16], of the monitor page (17_debug_run_control.md R501). -/
def Monitor.DBG_MB_STAT_RLEN : RegField :=
  { off := 0x104, hi := 25, lo := 16, ty := .ro }

/-- `DBG_SESSION.OPEN`, bits [31], of the monitor page (17_debug_run_control.md R497). -/
def Monitor.DBG_SESSION_OPEN : RegField :=
  { off := 0x108, hi := 31, lo := 31, ty := .ro }

/-- `DBG_SESSION.LEVEL`, bits [29:28], of the monitor page (17_debug_run_control.md R497). -/
def Monitor.DBG_SESSION_LEVEL : RegField :=
  { off := 0x108, hi := 29, lo := 28, ty := .ro }

/-- `DBG_SESSION.ORIGIN`, bits [26:24], of the monitor page (17_debug_run_control.md R497). -/
def Monitor.DBG_SESSION_ORIGIN : RegField :=
  { off := 0x108, hi := 26, lo := 24, ty := .ro }

/-- `DBG_SESSION.PASSWORD`, bits [20], of the monitor page (17_debug_run_control.md R497). -/
def Monitor.DBG_SESSION_PASSWORD : RegField :=
  { off := 0x108, hi := 20, lo := 20, ty := .ro }

/-- `DBG_SESSION.IDLE_S`, bits [15:0], of the monitor page (17_debug_run_control.md R497). -/
def Monitor.DBG_SESSION_IDLE_S : RegField :=
  { off := 0x108, hi := 15, lo := 0, ty := .ro }

/-- `DBG_STATUS.LAB`, bits [8], of the monitor page (17_debug_run_control.md R507). -/
def Monitor.DBG_STATUS_LAB : RegField :=
  { off := 0x10C, hi := 8, lo := 8, ty := .ro, home := .fuse }

/-- `DBG_STATUS.AUTH_FAILS`, bits [7:0], of the monitor page (17_debug_run_control.md R507). -/
def Monitor.DBG_STATUS_AUTH_FAILS : RegField :=
  { off := 0x10C, hi := 7, lo := 0, ty := .ro, home := .mram }

/-- `DBG_LOCKOUT.SECONDS`, bits [15:0], of the monitor page (17_debug_run_control.md R508). -/
def Monitor.DBG_LOCKOUT_SECONDS : RegField :=
  { off := 0x110, hi := 15, lo := 0, ty := .ro }

/-- `DBG_CERT_FLOOR.FLOOR`, bits [31:0], of the monitor page (17_debug_run_control.md R505). -/
def Monitor.DBG_CERT_FLOOR_FLOOR : RegField :=
  { off := 0x114, hi := 31, lo := 0, ty := .rw, home := .mram }

/-- `DBG_IDLE_LIMIT.LIMIT`, bits [15:0], of the monitor page (17_debug_run_control.md R509). -/
def Monitor.DBG_IDLE_LIMIT_LIMIT : RegField :=
  { off := 0x118, hi := 15, lo := 0, ty := .rw, init := .val 0x3C, bad := [(0x0, 0x0)] }

/-- `DBG_XTRIG.MASK`, bits [31:0], of the monitor page (17_debug_run_control.md R515). -/
def Monitor.DBG_XTRIG_MASK : RegField :=
  { off := 0x120, hi := 31, lo := 0, ty := .rw, stride := 0x4, count := 2 }

/-- `DBG_XTRIG_CAP.EN`, bits [0], of the monitor page (17_debug_run_control.md R515). -/
def Monitor.DBG_XTRIG_CAP_EN : RegField :=
  { off := 0x128, hi := 0, lo := 0, ty := .rw }

/-- `DBG_DM_STAT.TAGS`, bits [26:16], of the monitor page (17_debug_run_control.md R516). -/
def Monitor.DBG_DM_STAT_TAGS : RegField :=
  { off := 0x130, hi := 26, lo := 16, ty := .ro }

/-- `DBG_DM_STAT.LAST_RESP`, bits [2:0], of the monitor page (17_debug_run_control.md R516). -/
def Monitor.DBG_DM_STAT_LAST_RESP : RegField :=
  { off := 0x130, hi := 2, lo := 0, ty := .ro }

/-- `DBG_MB_REQ.DATA`, bits [31:0], of the monitor page (17_debug_run_control.md R500). -/
def Monitor.DBG_MB_REQ_DATA : RegField :=
  { off := 0x200, hi := 31, lo := 0, ty := .rw, stride := 0x4, count := 256 }

/-- `DBG_MB_RSP.DATA`, bits [31:0], of the monitor page (17_debug_run_control.md R500). -/
def Monitor.DBG_MB_RSP_DATA : RegField :=
  { off := 0x600, hi := 31, lo := 0, ty := .ro, stride := 0x4, count := 128 }

/-- Every field of the monitor page beyond the common header. -/
def Monitor.fields : List RegField :=
  [Monitor.DBG_MB_CTL_GO, Monitor.DBG_MB_STAT_BUSY, Monitor.DBG_MB_STAT_RESP, Monitor.DBG_MB_STAT_RLEN,
   Monitor.DBG_SESSION_OPEN, Monitor.DBG_SESSION_LEVEL, Monitor.DBG_SESSION_ORIGIN, Monitor.DBG_SESSION_PASSWORD,
   Monitor.DBG_SESSION_IDLE_S, Monitor.DBG_STATUS_LAB, Monitor.DBG_STATUS_AUTH_FAILS, Monitor.DBG_LOCKOUT_SECONDS,
   Monitor.DBG_CERT_FLOOR_FLOOR, Monitor.DBG_IDLE_LIMIT_LIMIT, Monitor.DBG_XTRIG_MASK, Monitor.DBG_XTRIG_CAP_EN,
   Monitor.DBG_DM_STAT_TAGS, Monitor.DBG_DM_STAT_LAST_RESP, Monitor.DBG_MB_REQ_DATA, Monitor.DBG_MB_RSP_DATA]

/-- `INT_STATUS.RING_UP` of the Ply page (19_ply_cascade.md R555). -/
def Ply.INT_RING_UP : Nat := 16

/-- `INT_STATUS.WRAP` of the Ply page (19_ply_cascade.md R555). -/
def Ply.INT_WRAP : Nat := 17

/-- `INT_STATUS.MEMBER_LOST` of the Ply page (19_ply_cascade.md R555). -/
def Ply.INT_MEMBER_LOST : Nat := 18

/-- `INT_STATUS.LINK_FAIL` of the Ply page (19_ply_cascade.md R555). -/
def Ply.INT_LINK_FAIL : Nat := 19

/-- `INT_STATUS.BOOT_REPORT` of the Ply page (19_ply_cascade.md R555). -/
def Ply.INT_BOOT_REPORT : Nat := 20

/-- `INT_STATUS.CONFLICT` of the Ply page (19_ply_cascade.md R555). -/
def Ply.INT_CONFLICT : Nat := 21

/-- `CTL.RESTART`, bits [0], of the Ply page (19_ply_cascade.md R540). -/
def Ply.CTL_RESTART : RegField :=
  { off := 0x010, hi := 0, lo := 0, ty := .wo }

/-- `STATUS.ROLE`, bits [9:8], of the Ply page (19_ply_cascade.md R545). -/
def Ply.STATUS_ROLE : RegField :=
  { off := 0x014, hi := 9, lo := 8, ty := .ro }

/-- `STATUS.RING`, bits [2:0], of the Ply page (19_ply_cascade.md R545). -/
def Ply.STATUS_RING : RegField :=
  { off := 0x014, hi := 2, lo := 0, ty := .ro }

/-- `PLY_CFG.BCAST`, bits [16], of the Ply page (19_ply_cascade.md R539). -/
def Ply.PLY_CFG_BCAST : RegField :=
  { off := 0x100, hi := 16, lo := 16, ty := .rw, home := .mram }

/-- `PLY_CFG.EVT_SEV`, bits [10:8], of the Ply page (19_ply_cascade.md R539). -/
def Ply.PLY_CFG_EVT_SEV : RegField :=
  { off := 0x100, hi := 10, lo := 8, ty := .rw, init := .val 0x3 }

/-- `PLY_CFG.ROLE_SRC`, bits [1:0], of the Ply page (19_ply_cascade.md R539). -/
def Ply.PLY_CFG_ROLE_SRC : RegField :=
  { off := 0x100, hi := 1, lo := 0, ty := .rw, bad := [(0x3, 0x3)], home := .mram }

/-- `PLY_NUMBER.NUM`, bits [5:0], of the Ply page (19_ply_cascade.md R545). -/
def Ply.PLY_NUMBER_NUM : RegField :=
  { off := 0x104, hi := 5, lo := 0, ty := .ro, init := .val 0x3F, home := .mram }

/-- `PLY_LINK.TRANSIENT`, bits [31:16], of the Ply page (19_ply_cascade.md R543). -/
def Ply.PLY_LINK_TRANSIENT : RegField :=
  { off := 0x110, hi := 31, lo := 16, ty := .pk, stride := 0x4, count := 2 }

/-- `PLY_LINK.LASTING`, bits [15:8], of the Ply page (19_ply_cascade.md R543). -/
def Ply.PLY_LINK_LASTING : RegField :=
  { off := 0x110, hi := 15, lo := 8, ty := .ro, stride := 0x4, count := 2 }

/-- `PLY_LINK.STATE`, bits [2:0], of the Ply page (19_ply_cascade.md R543). -/
def Ply.PLY_LINK_STATE : RegField :=
  { off := 0x110, hi := 2, lo := 0, ty := .ro, stride := 0x4, count := 2 }

/-- `PLY_MEMBERS.MEMBERS`, bits [31:0], of the Ply page (19_ply_cascade.md R546). -/
def Ply.PLY_MEMBERS_MEMBERS : RegField :=
  { off := 0x140, hi := 31, lo := 0, ty := .ro, stride := 0x4, count := 2 }

/-- `PLY_ASLEEP.ASLEEP`, bits [31:0], of the Ply page (19_ply_cascade.md R549). -/
def Ply.PLY_ASLEEP_ASLEEP : RegField :=
  { off := 0x148, hi := 31, lo := 0, ty := .ro, stride := 0x4, count := 2 }

/-- `PLY_EPOCH_MGR_LO.OPS`, bits [31:0], of the Ply page (19_ply_cascade.md R554). -/
def Ply.PLY_EPOCH_MGR_LO_OPS : RegField :=
  { off := 0x150, hi := 31, lo := 0, ty := .ro }

/-- `PLY_EPOCH_MGR_HI.OPS`, bits [15:0], of the Ply page (19_ply_cascade.md R554). -/
def Ply.PLY_EPOCH_MGR_HI_OPS : RegField :=
  { off := 0x154, hi := 15, lo := 0, ty := .ro }

/-- `PLY_EPOCH_PCC.PCC`, bits [31:0], of the Ply page (19_ply_cascade.md R554). -/
def Ply.PLY_EPOCH_PCC_PCC : RegField :=
  { off := 0x158, hi := 31, lo := 0, ty := .ro }

/-- `PLY_EPOCH_LOCAL_LO.OPS`, bits [31:0], of the Ply page (19_ply_cascade.md R554). -/
def Ply.PLY_EPOCH_LOCAL_LO_OPS : RegField :=
  { off := 0x15C, hi := 31, lo := 0, ty := .ro }

/-- `PLY_EPOCH_LOCAL_HI.OPS`, bits [15:0], of the Ply page (19_ply_cascade.md R554). -/
def Ply.PLY_EPOCH_LOCAL_HI_OPS : RegField :=
  { off := 0x160, hi := 15, lo := 0, ty := .ro }

/-- `PLY_MGMT_CTL.GO`, bits [31], of the Ply page (19_ply_cascade.md R550). -/
def Ply.PLY_MGMT_CTL_GO : RegField :=
  { off := 0x170, hi := 31, lo := 31, ty := .wo }

/-- `PLY_MGMT_CTL.NOPS`, bits [13:8], of the Ply page (19_ply_cascade.md R550). -/
def Ply.PLY_MGMT_CTL_NOPS : RegField :=
  { off := 0x170, hi := 13, lo := 8, ty := .rw }

/-- `PLY_MGMT_CTL.DST`, bits [5:0], of the Ply page (19_ply_cascade.md R550). -/
def Ply.PLY_MGMT_CTL_DST : RegField :=
  { off := 0x170, hi := 5, lo := 0, ty := .rw }

/-- `PLY_MGMT_STAT.BUSY`, bits [31], of the Ply page (19_ply_cascade.md R550). -/
def Ply.PLY_MGMT_STAT_BUSY : RegField :=
  { off := 0x174, hi := 31, lo := 31, ty := .ro }

/-- `PLY_MGMT_STAT.RESULT`, bits [1:0], of the Ply page (19_ply_cascade.md R550). -/
def Ply.PLY_MGMT_STAT_RESULT : RegField :=
  { off := 0x174, hi := 1, lo := 0, ty := .ro }

/-- `PLY_MGMT_TMO.MS`, bits [15:0], of the Ply page (19_ply_cascade.md R550). -/
def Ply.PLY_MGMT_TMO_MS : RegField :=
  { off := 0x178, hi := 15, lo := 0, ty := .rw, init := .val 0xA, bad := [(0x0, 0x0)] }

/-- `PLY_DBG_FWD.EN`, bits [6], of the Ply page (19_ply_cascade.md R555). -/
def Ply.PLY_DBG_FWD_EN : RegField :=
  { off := 0x17C, hi := 6, lo := 6, ty := .rw }

/-- `PLY_DBG_FWD.DST`, bits [5:0], of the Ply page (19_ply_cascade.md R555). -/
def Ply.PLY_DBG_FWD_DST : RegField :=
  { off := 0x17C, hi := 5, lo := 0, ty := .rw }

/-- `PLY_CTRL.DST`, bits [21:16], of the Ply page (19_ply_cascade.md R551). -/
def Ply.PLY_CTRL_DST : RegField :=
  { off := 0x180, hi := 21, lo := 16, ty := .wo }

/-- `PLY_CTRL.ARG`, bits [15:8], of the Ply page (19_ply_cascade.md R551). -/
def Ply.PLY_CTRL_ARG : RegField :=
  { off := 0x180, hi := 15, lo := 8, ty := .wo }

/-- `PLY_CTRL.OP`, bits [7:0], of the Ply page (19_ply_cascade.md R551). -/
def Ply.PLY_CTRL_OP : RegField :=
  { off := 0x180, hi := 7, lo := 0, ty := .wo, bad := [(0x0, 0x0), (0x4, 0xFF)] }

/-- `PLY_BOOT_STATUS.STATUS`, bits [31:0], of the Ply page (19_ply_cascade.md R552). -/
def Ply.PLY_BOOT_STATUS_STATUS : RegField :=
  { off := 0x200, hi := 31, lo := 0, ty := .ro, stride := 0x8, count := 63 }

/-- `PLY_BOOT_FAIL.FAIL`, bits [31:0], of the Ply page (19_ply_cascade.md R552). -/
def Ply.PLY_BOOT_FAIL_FAIL : RegField :=
  { off := 0x204, hi := 31, lo := 0, ty := .ro, stride := 0x8, count := 63 }

/-- `PLY_MGMT_BUF.DATA`, bits [31:0], of the Ply page (19_ply_cascade.md R550). -/
def Ply.PLY_MGMT_BUF_DATA : RegField :=
  { off := 0x400, hi := 31, lo := 0, ty := .rw, stride := 0x4, count := 128 }

/-- `PLY_TEST.PORT`, bits [1], of the Ply page (19_ply_cascade.md R555). -/
def Ply.PLY_TEST_PORT : RegField :=
  { off := 0x800, hi := 1, lo := 1, ty := .rwx }

/-- `PLY_TEST.TAG_FLIP`, bits [0], of the Ply page (19_ply_cascade.md R555). -/
def Ply.PLY_TEST_TAG_FLIP : RegField :=
  { off := 0x800, hi := 0, lo := 0, ty := .rwx }

/-- Fields of the Ply page, part 0. -/
def Ply.fields0 : List RegField :=
  [Ply.CTL_RESTART, Ply.STATUS_ROLE, Ply.STATUS_RING, Ply.PLY_CFG_BCAST,
   Ply.PLY_CFG_EVT_SEV, Ply.PLY_CFG_ROLE_SRC, Ply.PLY_NUMBER_NUM, Ply.PLY_LINK_TRANSIENT,
   Ply.PLY_LINK_LASTING, Ply.PLY_LINK_STATE, Ply.PLY_MEMBERS_MEMBERS, Ply.PLY_ASLEEP_ASLEEP,
   Ply.PLY_EPOCH_MGR_LO_OPS, Ply.PLY_EPOCH_MGR_HI_OPS, Ply.PLY_EPOCH_PCC_PCC, Ply.PLY_EPOCH_LOCAL_LO_OPS,
   Ply.PLY_EPOCH_LOCAL_HI_OPS, Ply.PLY_MGMT_CTL_GO, Ply.PLY_MGMT_CTL_NOPS, Ply.PLY_MGMT_CTL_DST]

/-- Fields of the Ply page, part 1. -/
def Ply.fields1 : List RegField :=
  [Ply.PLY_MGMT_STAT_BUSY, Ply.PLY_MGMT_STAT_RESULT, Ply.PLY_MGMT_TMO_MS, Ply.PLY_DBG_FWD_EN,
   Ply.PLY_DBG_FWD_DST, Ply.PLY_CTRL_DST, Ply.PLY_CTRL_ARG, Ply.PLY_CTRL_OP,
   Ply.PLY_BOOT_STATUS_STATUS, Ply.PLY_BOOT_FAIL_FAIL, Ply.PLY_MGMT_BUF_DATA, Ply.PLY_TEST_PORT,
   Ply.PLY_TEST_TAG_FLIP]

/-- Every field of the Ply page beyond the common header. -/
def Ply.fields : List RegField :=
  Ply.fields0 ++ Ply.fields1

end Sys2Proof.Machine.Reg
end

