-- ==== Sys2Proof/Machine/RegsLane.lean ====
section
/-! DEFINITION. The register fields of the lane, octet PLL, lane adapter, DDR controller and crypto engine pages, one definition a field: offset, bits, type, reset value, stride and count of
an array, reserved encodings and home (R14 to R16; the retention of each home is R470). Transcribed from the register tables of the chapters. -/

namespace Sys2Proof.Machine.Reg

/-- `INT_STATUS.UP` of the lane page (11_serial_lanes.md R352). -/
def Lane.INT_UP : Nat := 16

/-- `INT_STATUS.DOWN` of the lane page (11_serial_lanes.md R352). -/
def Lane.INT_DOWN : Nat := 17

/-- `INT_STATUS.RETRAIN` of the lane page (11_serial_lanes.md R352). -/
def Lane.INT_RETRAIN : Nat := 18

/-- `INT_STATUS.LOS` of the lane page (11_serial_lanes.md R352). -/
def Lane.INT_LOS : Nat := 19

/-- `INT_STATUS.FEC_UNCORR` of the lane page (11_serial_lanes.md R352). -/
def Lane.INT_FEC_UNCORR : Nat := 20

/-- `INT_STATUS.PRBS_UNLOCK` of the lane page (11_serial_lanes.md R352). -/
def Lane.INT_PRBS_UNLOCK : Nat := 21

/-- `INT_STATUS.TS_READY` of the lane page (11_serial_lanes.md R352). -/
def Lane.INT_TS_READY : Nat := 22

/-- `INT_STATUS.TX_FIFO` of the lane page (11_serial_lanes.md R352). -/
def Lane.INT_TX_FIFO : Nat := 23

/-- `CTL.TX_SQUELCH`, bits [8], of the lane page (11_serial_lanes.md R335). -/
def Lane.CTL_TX_SQUELCH : RegField :=
  { off := 0x010, hi := 8, lo := 8, ty := .rw }

/-- `CTL.LOOP`, bits [5:4], of the lane page (11_serial_lanes.md R335). -/
def Lane.CTL_LOOP : RegField :=
  { off := 0x010, hi := 5, lo := 4, ty := .rw }

/-- `CTL.RETRAIN`, bits [1], of the lane page (11_serial_lanes.md R335). -/
def Lane.CTL_RETRAIN : RegField :=
  { off := 0x010, hi := 1, lo := 1, ty := .wo }

/-- `CTL.EN`, bits [0], of the lane page (11_serial_lanes.md R335). -/
def Lane.CTL_EN : RegField :=
  { off := 0x010, hi := 0, lo := 0, ty := .rw }

/-- `STATUS.FEC_LOCK`, bits [11], of the lane page (11_serial_lanes.md R326). -/
def Lane.STATUS_FEC_LOCK : RegField :=
  { off := 0x014, hi := 11, lo := 11, ty := .ro }

/-- `STATUS.PCS_LOCK`, bits [10], of the lane page (11_serial_lanes.md R326). -/
def Lane.STATUS_PCS_LOCK : RegField :=
  { off := 0x014, hi := 10, lo := 10, ty := .ro }

/-- `STATUS.CDR_LOCK`, bits [9], of the lane page (11_serial_lanes.md R326). -/
def Lane.STATUS_CDR_LOCK : RegField :=
  { off := 0x014, hi := 9, lo := 9, ty := .ro }

/-- `STATUS.SIGNAL`, bits [8], of the lane page (11_serial_lanes.md R326). -/
def Lane.STATUS_SIGNAL : RegField :=
  { off := 0x014, hi := 8, lo := 8, ty := .ro }

/-- `STATUS.STATE`, bits [3:0], of the lane page (11_serial_lanes.md R326). -/
def Lane.STATUS_STATE : RegField :=
  { off := 0x014, hi := 3, lo := 0, ty := .ro }

/-- `LANE_RATE.PRECODE`, bits [20], of the lane page (11_serial_lanes.md R322). -/
def Lane.LANE_RATE_PRECODE : RegField :=
  { off := 0x100, hi := 20, lo := 20, ty := .rw }

/-- `LANE_RATE.TX_INV`, bits [18], of the lane page (11_serial_lanes.md R322). -/
def Lane.LANE_RATE_TX_INV : RegField :=
  { off := 0x100, hi := 18, lo := 18, ty := .rw }

/-- `LANE_RATE.RX_INV`, bits [17], of the lane page (11_serial_lanes.md R322). -/
def Lane.LANE_RATE_RX_INV : RegField :=
  { off := 0x100, hi := 17, lo := 17, ty := .rw }

/-- `LANE_RATE.FEC`, bits [13:12], of the lane page (11_serial_lanes.md R322). -/
def Lane.LANE_RATE_FEC : RegField :=
  { off := 0x100, hi := 13, lo := 12, ty := .rw, bad := [(0x3, 0x3)] }

/-- `LANE_RATE.PCS`, bits [10:8], of the lane page (11_serial_lanes.md R322). -/
def Lane.LANE_RATE_PCS : RegField :=
  { off := 0x100, hi := 10, lo := 8, ty := .rw, bad := [(0x5, 0x7)] }

/-- `LANE_RATE.OS`, bits [5:4], of the lane page (11_serial_lanes.md R322). -/
def Lane.LANE_RATE_OS : RegField :=
  { off := 0x100, hi := 5, lo := 4, ty := .rw }

/-- `LANE_RATE.DIV`, bits [3:2], of the lane page (11_serial_lanes.md R322). -/
def Lane.LANE_RATE_DIV : RegField :=
  { off := 0x100, hi := 3, lo := 2, ty := .rw, bad := [(0x3, 0x3)] }

/-- `LANE_RATE.PLL`, bits [1], of the lane page (11_serial_lanes.md R322). -/
def Lane.LANE_RATE_PLL : RegField :=
  { off := 0x100, hi := 1, lo := 1, ty := .rw }

/-- `LANE_RATE.MOD`, bits [0], of the lane page (11_serial_lanes.md R322). -/
def Lane.LANE_RATE_MOD : RegField :=
  { off := 0x100, hi := 0, lo := 0, ty := .rw }

/-- `LANE_XMAP.EN`, bits [31], of the lane page (11_serial_lanes.md R332). -/
def Lane.LANE_XMAP_EN : RegField :=
  { off := 0x104, hi := 31, lo := 31, ty := .rw, stride := 0x4, count := 2 }

/-- `LANE_XMAP.MOD`, bits [18:16], of the lane page (11_serial_lanes.md R332). -/
def Lane.LANE_XMAP_MOD : RegField :=
  { off := 0x104, hi := 18, lo := 16, ty := .rw, stride := 0x4, count := 2, bad := [(0x7, 0x7)] }

/-- `LANE_XMAP.NG`, bits [13:8], of the lane page (11_serial_lanes.md R332). -/
def Lane.LANE_XMAP_NG : RegField :=
  { off := 0x104, hi := 13, lo := 8, ty := .rw, stride := 0x4, count := 2 }

/-- `LANE_XMAP.GROUP`, bits [7:0], of the lane page (11_serial_lanes.md R332). -/
def Lane.LANE_XMAP_GROUP : RegField :=
  { off := 0x104, hi := 7, lo := 0, ty := .rw, stride := 0x4, count := 2 }

/-- `LANE_LT.LT_TIMEOUT`, bits [31:16], of the lane page (11_serial_lanes.md R329). -/
def Lane.LANE_LT_LT_TIMEOUT : RegField :=
  { off := 0x110, hi := 31, lo := 16, ty := .rw, init := .val 0x1F4, bad := [(0x0, 0x0)] }

/-- `LANE_LT.MODE`, bits [2:1], of the lane page (11_serial_lanes.md R329). -/
def Lane.LANE_LT_MODE : RegField :=
  { off := 0x110, hi := 2, lo := 1, ty := .rw, bad := [(0x3, 0x3)] }

/-- `LANE_LT.LT_EN`, bits [0], of the lane page (11_serial_lanes.md R329). -/
def Lane.LANE_LT_LT_EN : RegField :=
  { off := 0x110, hi := 0, lo := 0, ty := .rw }

/-- `LANE_TXEQ.TAPS`, bits [29:0], of the lane page (11_serial_lanes.md R350). -/
def Lane.LANE_TXEQ_TAPS : RegField :=
  { off := 0x114, hi := 29, lo := 0, ty := .rw, init := .val 0x7C0000 }

/-- `LANE_RXEQ.EYE`, bits [23:8], of the lane page (11_serial_lanes.md R350). -/
def Lane.LANE_RXEQ_EYE : RegField :=
  { off := 0x118, hi := 23, lo := 8, ty := .ro }

/-- `LANE_RXEQ.CTLE`, bits [5:0], of the lane page (11_serial_lanes.md R350). -/
def Lane.LANE_RXEQ_CTLE : RegField :=
  { off := 0x118, hi := 5, lo := 0, ty := .ro }

/-- `PRBS_CTL.CHK_INV`, bits [10], of the lane page (11_serial_lanes.md R336). -/
def Lane.PRBS_CTL_CHK_INV : RegField :=
  { off := 0x120, hi := 10, lo := 10, ty := .rw }

/-- `PRBS_CTL.CHK_EN`, bits [9], of the lane page (11_serial_lanes.md R336). -/
def Lane.PRBS_CTL_CHK_EN : RegField :=
  { off := 0x120, hi := 9, lo := 9, ty := .rw }

/-- `PRBS_CTL.GEN_EN`, bits [8], of the lane page (11_serial_lanes.md R336). -/
def Lane.PRBS_CTL_GEN_EN : RegField :=
  { off := 0x120, hi := 8, lo := 8, ty := .rw }

/-- `PRBS_CTL.CHK_PAT`, bits [7:4], of the lane page (11_serial_lanes.md R336). -/
def Lane.PRBS_CTL_CHK_PAT : RegField :=
  { off := 0x120, hi := 7, lo := 4, ty := .rw, bad := [(0xB, 0xF)] }

/-- `PRBS_CTL.GEN_PAT`, bits [3:0], of the lane page (11_serial_lanes.md R336). -/
def Lane.PRBS_CTL_GEN_PAT : RegField :=
  { off := 0x120, hi := 3, lo := 0, ty := .rw, bad := [(0xB, 0xF)] }

/-- `PRBS_INJ.PERIOD`, bits [31:16], of the lane page (11_serial_lanes.md R337). -/
def Lane.PRBS_INJ_PERIOD : RegField :=
  { off := 0x124, hi := 31, lo := 16, ty := .rw }

/-- `PRBS_INJ.ONE`, bits [0], of the lane page (11_serial_lanes.md R337). -/
def Lane.PRBS_INJ_ONE : RegField :=
  { off := 0x124, hi := 0, lo := 0, ty := .wo }

/-- `PRBS_STAT.RELOCKS`, bits [15:8], of the lane page (11_serial_lanes.md R337). -/
def Lane.PRBS_STAT_RELOCKS : RegField :=
  { off := 0x128, hi := 15, lo := 8, ty := .ro }

/-- `PRBS_STAT.LOCK`, bits [0], of the lane page (11_serial_lanes.md R337). -/
def Lane.PRBS_STAT_LOCK : RegField :=
  { off := 0x128, hi := 0, lo := 0, ty := .ro }

/-- `PRBS_ERR_LO.ERR`, bits [31:0], of the lane page (11_serial_lanes.md R337). -/
def Lane.PRBS_ERR_LO_ERR : RegField :=
  { off := 0x12C, hi := 31, lo := 0, ty := .pk }

/-- `PRBS_ERR_HI.ERR`, bits [15:0], of the lane page (11_serial_lanes.md R337). -/
def Lane.PRBS_ERR_HI_ERR : RegField :=
  { off := 0x130, hi := 15, lo := 0, ty := .ro }

/-- `PRBS_BITS_LO.BITS`, bits [31:0], of the lane page (11_serial_lanes.md R337). -/
def Lane.PRBS_BITS_LO_BITS : RegField :=
  { off := 0x134, hi := 31, lo := 0, ty := .ro }

/-- `PRBS_BITS_HI.BITS`, bits [15:0], of the lane page (11_serial_lanes.md R337). -/
def Lane.PRBS_BITS_HI_BITS : RegField :=
  { off := 0x138, hi := 15, lo := 0, ty := .ro }

/-- `PRBS_USER.PAT`, bits [31:0], of the lane page (11_serial_lanes.md R336). -/
def Lane.PRBS_USER_PAT : RegField :=
  { off := 0x140, hi := 31, lo := 0, ty := .rw, stride := 0x4, count := 2 }

/-- `BITSLIP.POS`, bits [22:16], of the lane page (11_serial_lanes.md R338). -/
def Lane.BITSLIP_POS : RegField :=
  { off := 0x148, hi := 22, lo := 16, ty := .ro }

/-- `BITSLIP.SLIP`, bits [0], of the lane page (11_serial_lanes.md R338). -/
def Lane.BITSLIP_SLIP : RegField :=
  { off := 0x148, hi := 0, lo := 0, ty := .wo }

/-- `FEC_CORR.COUNT`, bits [31:0], of the lane page (11_serial_lanes.md R330). -/
def Lane.FEC_CORR_COUNT : RegField :=
  { off := 0x150, hi := 31, lo := 0, ty := .pk }

/-- `FEC_UNCORR.COUNT`, bits [31:0], of the lane page (11_serial_lanes.md R330). -/
def Lane.FEC_UNCORR_COUNT : RegField :=
  { off := 0x154, hi := 31, lo := 0, ty := .pk }

/-- `FEC_SYM.COUNT`, bits [31:0], of the lane page (11_serial_lanes.md R330). -/
def Lane.FEC_SYM_COUNT : RegField :=
  { off := 0x158, hi := 31, lo := 0, ty := .pk }

/-- `PCS_ERR.LOCK_LOSS`, bits [31:16], of the lane page (11_serial_lanes.md R328). -/
def Lane.PCS_ERR_LOCK_LOSS : RegField :=
  { off := 0x15C, hi := 31, lo := 16, ty := .ro }

/-- `PCS_ERR.BAD`, bits [15:0], of the lane page (11_serial_lanes.md R328). -/
def Lane.PCS_ERR_BAD : RegField :=
  { off := 0x15C, hi := 15, lo := 0, ty := .pk }

/-- `LANE_RETRY.LOS`, bits [31:24], of the lane page (11_serial_lanes.md R328). -/
def Lane.LANE_RETRY_LOS : RegField :=
  { off := 0x160, hi := 31, lo := 24, ty := .ro }

/-- `LANE_RETRY.LASTING`, bits [23:16], of the lane page (11_serial_lanes.md R328). -/
def Lane.LANE_RETRY_LASTING : RegField :=
  { off := 0x160, hi := 23, lo := 16, ty := .ro }

/-- `LANE_RETRY.TRANSIENT`, bits [15:0], of the lane page (11_serial_lanes.md R328). -/
def Lane.LANE_RETRY_TRANSIENT : RegField :=
  { off := 0x160, hi := 15, lo := 0, ty := .pk }

/-- `LANE_FIFO.TX_DROP`, bits [31:16], of the lane page (11_serial_lanes.md R334). -/
def Lane.LANE_FIFO_TX_DROP : RegField :=
  { off := 0x164, hi := 31, lo := 16, ty := .pk }

/-- `LANE_FIFO.TX_UNDERRUN`, bits [15:0], of the lane page (11_serial_lanes.md R334). -/
def Lane.LANE_FIFO_TX_UNDERRUN : RegField :=
  { off := 0x164, hi := 15, lo := 0, ty := .pk }

/-- `TS_CTL.ETYPE`, bits [31:16], of the lane page (11_serial_lanes.md R340). -/
def Lane.TS_CTL_ETYPE : RegField :=
  { off := 0x170, hi := 31, lo := 16, ty := .rw }

/-- `TS_CTL.TX_EN`, bits [1], of the lane page (11_serial_lanes.md R340). -/
def Lane.TS_CTL_TX_EN : RegField :=
  { off := 0x170, hi := 1, lo := 1, ty := .rw }

/-- `TS_CTL.RX_EN`, bits [0], of the lane page (11_serial_lanes.md R340). -/
def Lane.TS_CTL_RX_EN : RegField :=
  { off := 0x170, hi := 0, lo := 0, ty := .rw }

/-- `TS_INFO.VALID`, bits [31], of the lane page (11_serial_lanes.md R340). -/
def Lane.TS_INFO_VALID : RegField :=
  { off := 0x174, hi := 31, lo := 31, ty := .pk }

/-- `TS_INFO.TX`, bits [30], of the lane page (11_serial_lanes.md R340). -/
def Lane.TS_INFO_TX : RegField :=
  { off := 0x174, hi := 30, lo := 30, ty := .pk }

/-- `TS_INFO.DROPS`, bits [15:8], of the lane page (11_serial_lanes.md R340). -/
def Lane.TS_INFO_DROPS : RegField :=
  { off := 0x174, hi := 15, lo := 8, ty := .ro }

/-- `TS_INFO.LEVEL`, bits [4:0], of the lane page (11_serial_lanes.md R340). -/
def Lane.TS_INFO_LEVEL : RegField :=
  { off := 0x174, hi := 4, lo := 0, ty := .ro }

/-- `TS_LO.TS`, bits [31:0], of the lane page (11_serial_lanes.md R340). -/
def Lane.TS_LO_TS : RegField :=
  { off := 0x178, hi := 31, lo := 0, ty := .ro }

/-- `TS_HI.TS`, bits [31:0], of the lane page (11_serial_lanes.md R340). -/
def Lane.TS_HI_TS : RegField :=
  { off := 0x17C, hi := 31, lo := 0, ty := .ro }

/-- `LANE_EQ_OVR.DFE_FREEZE`, bits [9], of the lane page (11_serial_lanes.md R350). -/
def Lane.LANE_EQ_OVR_DFE_FREEZE : RegField :=
  { off := 0x800, hi := 9, lo := 9, ty := .rwx }

/-- `LANE_EQ_OVR.CTLE_MAN`, bits [8], of the lane page (11_serial_lanes.md R350). -/
def Lane.LANE_EQ_OVR_CTLE_MAN : RegField :=
  { off := 0x800, hi := 8, lo := 8, ty := .rwx }

/-- `LANE_EQ_OVR.BOOST`, bits [5:0], of the lane page (11_serial_lanes.md R350). -/
def Lane.LANE_EQ_OVR_BOOST : RegField :=
  { off := 0x800, hi := 5, lo := 0, ty := .rwx }

/-- Fields of the lane page, part 0. -/
def Lane.fields0 : List RegField :=
  [Lane.CTL_TX_SQUELCH, Lane.CTL_LOOP, Lane.CTL_RETRAIN, Lane.CTL_EN,
   Lane.STATUS_FEC_LOCK, Lane.STATUS_PCS_LOCK, Lane.STATUS_CDR_LOCK, Lane.STATUS_SIGNAL,
   Lane.STATUS_STATE, Lane.LANE_RATE_PRECODE, Lane.LANE_RATE_TX_INV, Lane.LANE_RATE_RX_INV,
   Lane.LANE_RATE_FEC, Lane.LANE_RATE_PCS, Lane.LANE_RATE_OS, Lane.LANE_RATE_DIV,
   Lane.LANE_RATE_PLL, Lane.LANE_RATE_MOD, Lane.LANE_XMAP_EN, Lane.LANE_XMAP_MOD]

/-- Fields of the lane page, part 1. -/
def Lane.fields1 : List RegField :=
  [Lane.LANE_XMAP_NG, Lane.LANE_XMAP_GROUP, Lane.LANE_LT_LT_TIMEOUT, Lane.LANE_LT_MODE,
   Lane.LANE_LT_LT_EN, Lane.LANE_TXEQ_TAPS, Lane.LANE_RXEQ_EYE, Lane.LANE_RXEQ_CTLE,
   Lane.PRBS_CTL_CHK_INV, Lane.PRBS_CTL_CHK_EN, Lane.PRBS_CTL_GEN_EN, Lane.PRBS_CTL_CHK_PAT,
   Lane.PRBS_CTL_GEN_PAT, Lane.PRBS_INJ_PERIOD, Lane.PRBS_INJ_ONE, Lane.PRBS_STAT_RELOCKS,
   Lane.PRBS_STAT_LOCK, Lane.PRBS_ERR_LO_ERR, Lane.PRBS_ERR_HI_ERR, Lane.PRBS_BITS_LO_BITS]

/-- Fields of the lane page, part 2. -/
def Lane.fields2 : List RegField :=
  [Lane.PRBS_BITS_HI_BITS, Lane.PRBS_USER_PAT, Lane.BITSLIP_POS, Lane.BITSLIP_SLIP,
   Lane.FEC_CORR_COUNT, Lane.FEC_UNCORR_COUNT, Lane.FEC_SYM_COUNT, Lane.PCS_ERR_LOCK_LOSS,
   Lane.PCS_ERR_BAD, Lane.LANE_RETRY_LOS, Lane.LANE_RETRY_LASTING, Lane.LANE_RETRY_TRANSIENT,
   Lane.LANE_FIFO_TX_DROP, Lane.LANE_FIFO_TX_UNDERRUN, Lane.TS_CTL_ETYPE, Lane.TS_CTL_TX_EN,
   Lane.TS_CTL_RX_EN, Lane.TS_INFO_VALID, Lane.TS_INFO_TX, Lane.TS_INFO_DROPS]

/-- Fields of the lane page, part 3. -/
def Lane.fields3 : List RegField :=
  [Lane.TS_INFO_LEVEL, Lane.TS_LO_TS, Lane.TS_HI_TS, Lane.LANE_EQ_OVR_DFE_FREEZE,
   Lane.LANE_EQ_OVR_CTLE_MAN, Lane.LANE_EQ_OVR_BOOST]

/-- Every field of the lane page beyond the common header. -/
def Lane.fields : List RegField :=
  Lane.fields0 ++ Lane.fields1 ++ Lane.fields2 ++ Lane.fields3

/-- `INT_STATUS.UNLOCK` of the octet PLL page (11_serial_lanes.md R324). -/
def Opll.INT_UNLOCK : Nat := 16

/-- `INT_STATUS.RCLK_LOST` of the octet PLL page (11_serial_lanes.md R324). -/
def Opll.INT_RCLK_LOST : Nat := 17

/-- `CTL.EN_B`, bits [1], of the octet PLL page (11_serial_lanes.md R324). -/
def Opll.CTL_EN_B : RegField :=
  { off := 0x010, hi := 1, lo := 1, ty := .rw }

/-- `CTL.EN_A`, bits [0], of the octet PLL page (11_serial_lanes.md R324). -/
def Opll.CTL_EN_A : RegField :=
  { off := 0x010, hi := 0, lo := 0, ty := .rw }

/-- `OPLL_STATUS.LOCK_FAIL_B`, bits [5], of the octet PLL page (11_serial_lanes.md R324). -/
def Opll.OPLL_STATUS_LOCK_FAIL_B : RegField :=
  { off := 0x014, hi := 5, lo := 5, ty := .ro }

/-- `OPLL_STATUS.LOCK_FAIL_A`, bits [4], of the octet PLL page (11_serial_lanes.md R324). -/
def Opll.OPLL_STATUS_LOCK_FAIL_A : RegField :=
  { off := 0x014, hi := 4, lo := 4, ty := .ro }

/-- `OPLL_STATUS.RCLK_LOST`, bits [2], of the octet PLL page (11_serial_lanes.md R324). -/
def Opll.OPLL_STATUS_RCLK_LOST : RegField :=
  { off := 0x014, hi := 2, lo := 2, ty := .ro }

/-- `OPLL_STATUS.LOCK_B`, bits [1], of the octet PLL page (11_serial_lanes.md R324). -/
def Opll.OPLL_STATUS_LOCK_B : RegField :=
  { off := 0x014, hi := 1, lo := 1, ty := .ro }

/-- `OPLL_STATUS.LOCK_A`, bits [0], of the octet PLL page (11_serial_lanes.md R324). -/
def Opll.OPLL_STATUS_LOCK_A : RegField :=
  { off := 0x014, hi := 0, lo := 0, ty := .ro }

/-- `OPLL_CFG.REF`, bits [16], of the octet PLL page (11_serial_lanes.md R324). -/
def Opll.OPLL_CFG_REF : RegField :=
  { off := 0x100, hi := 16, lo := 16, ty := .rw, stride := 0x8, count := 2 }

/-- `OPLL_CFG.NINT`, bits [9:0], of the octet PLL page (11_serial_lanes.md R324). -/
def Opll.OPLL_CFG_NINT : RegField :=
  { off := 0x100, hi := 9, lo := 0, ty := .rw, stride := 0x8, count := 2 }

/-- `OPLL_FRAC.NFRAC`, bits [23:0], of the octet PLL page (11_serial_lanes.md R324). -/
def Opll.OPLL_FRAC_NFRAC : RegField :=
  { off := 0x104, hi := 23, lo := 0, ty := .rw, stride := 0x8, count := 2 }

/-- `OPLL_RCLK.EN`, bits [31], of the octet PLL page (11_serial_lanes.md R341). -/
def Opll.OPLL_RCLK_EN : RegField :=
  { off := 0x110, hi := 31, lo := 31, ty := .rw }

/-- `OPLL_RCLK.DIV`, bits [15:8], of the octet PLL page (11_serial_lanes.md R341). -/
def Opll.OPLL_RCLK_DIV : RegField :=
  { off := 0x110, hi := 15, lo := 8, ty := .rw }

/-- `OPLL_RCLK.LANE`, bits [2:0], of the octet PLL page (11_serial_lanes.md R341). -/
def Opll.OPLL_RCLK_LANE : RegField :=
  { off := 0x110, hi := 2, lo := 0, ty := .rw }

/-- Every field of the octet PLL page beyond the common header. -/
def Opll.fields : List RegField :=
  [Opll.CTL_EN_B, Opll.CTL_EN_A, Opll.OPLL_STATUS_LOCK_FAIL_B, Opll.OPLL_STATUS_LOCK_FAIL_A,
   Opll.OPLL_STATUS_RCLK_LOST, Opll.OPLL_STATUS_LOCK_B, Opll.OPLL_STATUS_LOCK_A, Opll.OPLL_CFG_REF,
   Opll.OPLL_CFG_NINT, Opll.OPLL_FRAC_NFRAC, Opll.OPLL_RCLK_EN, Opll.OPLL_RCLK_DIV,
   Opll.OPLL_RCLK_LANE]

/-- `INT_STATUS.FIRED` of the lane adapter page (11_serial_lanes.md R342). -/
def Adapter.INT_FIRED : Nat := 16

/-- `INT_STATUS.DROP` of the lane adapter page (11_serial_lanes.md R342). -/
def Adapter.INT_DROP : Nat := 17

/-- `INT_STATUS.RELEASE_FAIL` of the lane adapter page (11_serial_lanes.md R342). -/
def Adapter.INT_RELEASE_FAIL : Nat := 18

/-- `INT_STATUS.INSERTED` of the lane adapter page (11_serial_lanes.md R342). -/
def Adapter.INT_INSERTED : Nat := 19

/-- `AD_CTL.SW_RELEASE`, bits [1], of the lane adapter page (11_serial_lanes.md R345). -/
def Adapter.AD_CTL_SW_RELEASE : RegField :=
  { off := 0x010, hi := 1, lo := 1, ty := .rw }

/-- `STATUS.IN_FLIGHT`, bits [8], of the lane adapter page (11_serial_lanes.md R344). -/
def Adapter.STATUS_IN_FLIGHT : RegField :=
  { off := 0x014, hi := 8, lo := 8, ty := .ro }

/-- `STATUS.PENDING`, bits [4:0], of the lane adapter page (11_serial_lanes.md R344). -/
def Adapter.STATUS_PENDING : RegField :=
  { off := 0x014, hi := 4, lo := 0, ty := .ro }

/-- `AD_CTLMAP.EN`, bits [31], of the lane adapter page (11_serial_lanes.md R333). -/
def Adapter.AD_CTLMAP_EN : RegField :=
  { off := 0x100, hi := 31, lo := 31, ty := .rw, stride := 0x4, count := 2 }

/-- `AD_CTLMAP.MOD`, bits [18:16], of the lane adapter page (11_serial_lanes.md R333). -/
def Adapter.AD_CTLMAP_MOD : RegField :=
  { off := 0x100, hi := 18, lo := 16, ty := .rw, stride := 0x4, count := 2 }

/-- `AD_CTLMAP.GROUP`, bits [7:0], of the lane adapter page (11_serial_lanes.md R333). -/
def Adapter.AD_CTLMAP_GROUP : RegField :=
  { off := 0x100, hi := 7, lo := 0, ty := .rw, stride := 0x4, count := 2, bad := [(0xBF, 0xFF)] }

/-- `RFX_COMMIT.COMMIT`, bits [15:0], of the lane adapter page (11_serial_lanes.md R348). -/
def Adapter.RFX_COMMIT_COMMIT : RegField :=
  { off := 0x108, hi := 15, lo := 0, ty := .wo }

/-- `RFX_DROPS.BAD_FCS`, bits [31:16], of the lane adapter page (11_serial_lanes.md R344). -/
def Adapter.RFX_DROPS_BAD_FCS : RegField :=
  { off := 0x10C, hi := 31, lo := 16, ty := .pk }

/-- `RFX_DROPS.FULL`, bits [15:0], of the lane adapter page (11_serial_lanes.md R344). -/
def Adapter.RFX_DROPS_FULL : RegField :=
  { off := 0x10C, hi := 15, lo := 0, ty := .pk }

/-- `RFX_LAST_FAIL.VALID`, bits [31], of the lane adapter page (11_serial_lanes.md R347). -/
def Adapter.RFX_LAST_FAIL_VALID : RegField :=
  { off := 0x110, hi := 31, lo := 31, ty := .w1c }

/-- `RFX_LAST_FAIL.ENTRY`, bits [19:16], of the lane adapter page (11_serial_lanes.md R347). -/
def Adapter.RFX_LAST_FAIL_ENTRY : RegField :=
  { off := 0x110, hi := 19, lo := 16, ty := .ro }

/-- `RFX_LAST_FAIL.RESP`, bits [10:8], of the lane adapter page (11_serial_lanes.md R347). -/
def Adapter.RFX_LAST_FAIL_RESP : RegField :=
  { off := 0x110, hi := 10, lo := 8, ty := .ro }

/-- `RFX_LAST_FAIL.REASON`, bits [3:0], of the lane adapter page (11_serial_lanes.md R347). -/
def Adapter.RFX_LAST_FAIL_REASON : RegField :=
  { off := 0x110, hi := 3, lo := 0, ty := .ro }

/-- `RFX_INSERTED.COUNT`, bits [15:0], of the lane adapter page (11_serial_lanes.md R346). -/
def Adapter.RFX_INSERTED_COUNT : RegField :=
  { off := 0x114, hi := 15, lo := 0, ty := .pk }

/-- `RESP_LEN.FCS_GEN`, bits [8], of the lane adapter page (11_serial_lanes.md R346). -/
def Adapter.RESP_LEN_FCS_GEN : RegField :=
  { off := 0x180, hi := 8, lo := 8, ty := .rw, stride := 0x4, count := 16 }

/-- `RESP_LEN.LEN`, bits [6:0], of the lane adapter page (11_serial_lanes.md R346). -/
def Adapter.RESP_LEN_LEN : RegField :=
  { off := 0x180, hi := 6, lo := 0, ty := .rw, stride := 0x4, count := 16 }

/-- `PAT_LO.PAT`, bits [31:0], of the lane adapter page (11_serial_lanes.md R343). -/
def Adapter.PAT_LO_PAT : RegField :=
  { off := 0x200, hi := 31, lo := 0, ty := .rw, stride := 0x20, count := 16 }

/-- `PAT_HI.PAT`, bits [31:0], of the lane adapter page (11_serial_lanes.md R343). -/
def Adapter.PAT_HI_PAT : RegField :=
  { off := 0x204, hi := 31, lo := 0, ty := .rw, stride := 0x20, count := 16 }

/-- `MSK_LO.MSK`, bits [31:0], of the lane adapter page (11_serial_lanes.md R343). -/
def Adapter.MSK_LO_MSK : RegField :=
  { off := 0x208, hi := 31, lo := 0, ty := .rw, stride := 0x20, count := 16 }

/-- `MSK_HI.MSK`, bits [31:0], of the lane adapter page (11_serial_lanes.md R343). -/
def Adapter.MSK_HI_MSK : RegField :=
  { off := 0x20C, hi := 31, lo := 0, ty := .rw, stride := 0x20, count := 16 }

/-- `RFX_CTL.EN`, bits [31], of the lane adapter page (11_serial_lanes.md R343). -/
def Adapter.RFX_CTL_EN : RegField :=
  { off := 0x210, hi := 31, lo := 31, ty := .rw, stride := 0x20, count := 16 }

/-- `RFX_CTL.CHECK_FCS`, bits [30], of the lane adapter page (11_serial_lanes.md R343). -/
def Adapter.RFX_CTL_CHECK_FCS : RegField :=
  { off := 0x210, hi := 30, lo := 30, ty := .rw, stride := 0x20, count := 16 }

/-- `RFX_CTL.ONCE`, bits [29], of the lane adapter page (11_serial_lanes.md R343). -/
def Adapter.RFX_CTL_ONCE : RegField :=
  { off := 0x210, hi := 29, lo := 29, ty := .rw, stride := 0x20, count := 16 }

/-- `RFX_CTL.LANES`, bits [23:16], of the lane adapter page (11_serial_lanes.md R343). -/
def Adapter.RFX_CTL_LANES : RegField :=
  { off := 0x210, hi := 23, lo := 16, ty := .rw, stride := 0x20, count := 16 }

/-- `RFX_CTL.OFFSET`, bits [5:0], of the lane adapter page (11_serial_lanes.md R343). -/
def Adapter.RFX_CTL_OFFSET : RegField :=
  { off := 0x210, hi := 5, lo := 0, ty := .rw, stride := 0x20, count := 16, bad := [(0x39, 0x3F)] }

/-- `RFX_ACT.EGR_L`, bits [30], of the lane adapter page (11_serial_lanes.md R345). -/
def Adapter.RFX_ACT_EGR_L : RegField :=
  { off := 0x214, hi := 30, lo := 30, ty := .rw, stride := 0x20, count := 16 }

/-- `RFX_ACT.EGR_LANE`, bits [29:24], of the lane adapter page (11_serial_lanes.md R345). -/
def Adapter.RFX_ACT_EGR_LANE : RegField :=
  { off := 0x214, hi := 29, lo := 24, ty := .rw, stride := 0x20, count := 16 }

/-- `RFX_ACT.SLOT`, bits [19:16], of the lane adapter page (11_serial_lanes.md R345). -/
def Adapter.RFX_ACT_SLOT : RegField :=
  { off := 0x214, hi := 19, lo := 16, ty := .rw, stride := 0x20, count := 16 }

/-- `RFX_ACT.COPY_LEN`, bits [15:12], of the lane adapter page (11_serial_lanes.md R345). -/
def Adapter.RFX_ACT_COPY_LEN : RegField :=
  { off := 0x214, hi := 15, lo := 12, ty := .rw, stride := 0x20, count := 16, bad := [(0x9, 0xF)] }

/-- `RFX_ACT.COPY_DST`, bits [11:6], of the lane adapter page (11_serial_lanes.md R345). -/
def Adapter.RFX_ACT_COPY_DST : RegField :=
  { off := 0x214, hi := 11, lo := 6, ty := .rw, stride := 0x20, count := 16, bad := [(0x39, 0x3F)] }

/-- `RFX_ACT.COPY_SRC`, bits [5:0], of the lane adapter page (11_serial_lanes.md R345). -/
def Adapter.RFX_ACT_COPY_SRC : RegField :=
  { off := 0x214, hi := 5, lo := 0, ty := .rw, stride := 0x20, count := 16, bad := [(0x39, 0x3F)] }

/-- `RFX_HOLD.HOLDOFF`, bits [15:0], of the lane adapter page (11_serial_lanes.md R344). -/
def Adapter.RFX_HOLD_HOLDOFF : RegField :=
  { off := 0x218, hi := 15, lo := 0, ty := .rw, stride := 0x20, count := 16 }

/-- `RFX_HITS.HITS`, bits [31:0], of the lane adapter page (11_serial_lanes.md R344). -/
def Adapter.RFX_HITS_HITS : RegField :=
  { off := 0x21C, hi := 31, lo := 0, ty := .pk, stride := 0x20, count := 16 }

/-- `RESP_DATA.DATA`, bits [31:0], of the lane adapter page (11_serial_lanes.md R346). -/
def Adapter.RESP_DATA_DATA : RegField :=
  { off := 0x400, hi := 31, lo := 0, ty := .rw, stride := 0x4, count := 256 }

/-- `AD_TEST.FIRE`, bits [4], of the lane adapter page (11_serial_lanes.md R344). -/
def Adapter.AD_TEST_FIRE : RegField :=
  { off := 0x800, hi := 4, lo := 4, ty := .rwx }

/-- `AD_TEST.ENTRY`, bits [3:0], of the lane adapter page (11_serial_lanes.md R344). -/
def Adapter.AD_TEST_ENTRY : RegField :=
  { off := 0x800, hi := 3, lo := 0, ty := .rwx }

/-- Fields of the lane adapter page, part 0. -/
def Adapter.fields0 : List RegField :=
  [Adapter.AD_CTL_SW_RELEASE, Adapter.STATUS_IN_FLIGHT, Adapter.STATUS_PENDING, Adapter.AD_CTLMAP_EN,
   Adapter.AD_CTLMAP_MOD, Adapter.AD_CTLMAP_GROUP, Adapter.RFX_COMMIT_COMMIT, Adapter.RFX_DROPS_BAD_FCS,
   Adapter.RFX_DROPS_FULL, Adapter.RFX_LAST_FAIL_VALID, Adapter.RFX_LAST_FAIL_ENTRY, Adapter.RFX_LAST_FAIL_RESP,
   Adapter.RFX_LAST_FAIL_REASON, Adapter.RFX_INSERTED_COUNT, Adapter.RESP_LEN_FCS_GEN, Adapter.RESP_LEN_LEN,
   Adapter.PAT_LO_PAT, Adapter.PAT_HI_PAT, Adapter.MSK_LO_MSK, Adapter.MSK_HI_MSK]

/-- Fields of the lane adapter page, part 1. -/
def Adapter.fields1 : List RegField :=
  [Adapter.RFX_CTL_EN, Adapter.RFX_CTL_CHECK_FCS, Adapter.RFX_CTL_ONCE, Adapter.RFX_CTL_LANES,
   Adapter.RFX_CTL_OFFSET, Adapter.RFX_ACT_EGR_L, Adapter.RFX_ACT_EGR_LANE, Adapter.RFX_ACT_SLOT,
   Adapter.RFX_ACT_COPY_LEN, Adapter.RFX_ACT_COPY_DST, Adapter.RFX_ACT_COPY_SRC, Adapter.RFX_HOLD_HOLDOFF,
   Adapter.RFX_HITS_HITS, Adapter.RESP_DATA_DATA, Adapter.AD_TEST_FIRE, Adapter.AD_TEST_ENTRY]

/-- Every field of the lane adapter page beyond the common header. -/
def Adapter.fields : List RegField :=
  Adapter.fields0 ++ Adapter.fields1

/-- `INT_STATUS.READY` of the DDR controller page (12_ddr5_controllers.md R384). -/
def Ddr.INT_READY : Nat := 16

/-- `INT_STATUS.DOWN` of the DDR controller page (12_ddr5_controllers.md R384). -/
def Ddr.INT_DOWN : Nat := 17

/-- `INT_STATUS.ECC_CORR` of the DDR controller page (12_ddr5_controllers.md R384). -/
def Ddr.INT_ECC_CORR : Nat := 18

/-- `INT_STATUS.ECC_UNCORR` of the DDR controller page (12_ddr5_controllers.md R384). -/
def Ddr.INT_ECC_UNCORR : Nat := 19

/-- `INT_STATUS.ECC_LASTING` of the DDR controller page (12_ddr5_controllers.md R384). -/
def Ddr.INT_ECC_LASTING : Nat := 20

/-- `INT_STATUS.ALERT` of the DDR controller page (12_ddr5_controllers.md R384). -/
def Ddr.INT_ALERT : Nat := 21

/-- `INT_STATUS.REF_FORCED` of the DDR controller page (12_ddr5_controllers.md R384). -/
def Ddr.INT_REF_FORCED : Nat := 22

/-- `INT_STATUS.SR_DONE` of the DDR controller page (12_ddr5_controllers.md R384). -/
def Ddr.INT_SR_DONE : Nat := 23

/-- `CTL.NO_ZERO`, bits [3], of the DDR controller page (12_ddr5_controllers.md R360). -/
def Ddr.CTL_NO_ZERO : RegField :=
  { off := 0x010, hi := 3, lo := 3, ty := .rw }

/-- `CTL.RETRAIN`, bits [1], of the DDR controller page (12_ddr5_controllers.md R360). -/
def Ddr.CTL_RETRAIN : RegField :=
  { off := 0x010, hi := 1, lo := 1, ty := .wo }

/-- `CTL.EN`, bits [0], of the DDR controller page (12_ddr5_controllers.md R360). -/
def Ddr.CTL_EN : RegField :=
  { off := 0x010, hi := 0, lo := 0, ty := .rw }

/-- `STATUS.REASON`, bits [31:28], of the DDR controller page (12_ddr5_controllers.md R360). -/
def Ddr.STATUS_REASON : RegField :=
  { off := 0x014, hi := 31, lo := 28, ty := .ro }

/-- `STATUS.TEMP_HIGH`, bits [8], of the DDR controller page (12_ddr5_controllers.md R360). -/
def Ddr.STATUS_TEMP_HIGH : RegField :=
  { off := 0x014, hi := 8, lo := 8, ty := .ro }

/-- `STATUS.TEMP_2X`, bits [4], of the DDR controller page (12_ddr5_controllers.md R360). -/
def Ddr.STATUS_TEMP_2X : RegField :=
  { off := 0x014, hi := 4, lo := 4, ty := .ro }

/-- `STATUS.STATE`, bits [3:0], of the DDR controller page (12_ddr5_controllers.md R360). -/
def Ddr.STATUS_STATE : RegField :=
  { off := 0x014, hi := 3, lo := 0, ty := .ro }

/-- `DDR_CFG.KIND`, bits [29:28], of the DDR controller page (12_ddr5_controllers.md R356). -/
def Ddr.DDR_CFG_KIND : RegField :=
  { off := 0x100, hi := 29, lo := 28, ty := .ro }

/-- `DDR_CFG.RANKS`, bits [26:24], of the DDR controller page (12_ddr5_controllers.md R356). -/
def Ddr.DDR_CFG_RANKS : RegField :=
  { off := 0x100, hi := 26, lo := 24, ty := .ro }

/-- `DDR_CFG.X8`, bits [20], of the DDR controller page (12_ddr5_controllers.md R356). -/
def Ddr.DDR_CFG_X8 : RegField :=
  { off := 0x100, hi := 20, lo := 20, ty := .ro }

/-- `DDR_CFG.DENSITY`, bits [17:16], of the DDR controller page (12_ddr5_controllers.md R356). -/
def Ddr.DDR_CFG_DENSITY : RegField :=
  { off := 0x100, hi := 17, lo := 16, ty := .ro }

/-- `DDR_CFG.SPD_MAX`, bits [15:0], of the DDR controller page (12_ddr5_controllers.md R356). -/
def Ddr.DDR_CFG_SPD_MAX : RegField :=
  { off := 0x100, hi := 15, lo := 0, ty := .ro }

/-- `DDR_SPEED.ACTUAL`, bits [31:16], of the DDR controller page (12_ddr5_controllers.md R358). -/
def Ddr.DDR_SPEED_ACTUAL : RegField :=
  { off := 0x104, hi := 31, lo := 16, ty := .ro }

/-- `DDR_SPEED.REQ`, bits [15:0], of the DDR controller page (12_ddr5_controllers.md R358). -/
def Ddr.DDR_SPEED_REQ : RegField :=
  { off := 0x104, hi := 15, lo := 0, ty := .rw, init := .val 0x2260 }

/-- `DDR_MAP.HASH`, bits [1], of the DDR controller page (12_ddr5_controllers.md R364). -/
def Ddr.DDR_MAP_HASH : RegField :=
  { off := 0x108, hi := 1, lo := 1, ty := .rw, init := .val 0x1 }

/-- `DDR_MAP.MODE`, bits [0], of the DDR controller page (12_ddr5_controllers.md R364). -/
def Ddr.DDR_MAP_MODE : RegField :=
  { off := 0x108, hi := 0, lo := 0, ty := .rw }

/-- `DDR_PAGE.TIMEOUT`, bits [23:8], of the DDR controller page (12_ddr5_controllers.md R375). -/
def Ddr.DDR_PAGE_TIMEOUT : RegField :=
  { off := 0x10C, hi := 23, lo := 8, ty := .rw, init := .val 0xC8 }

/-- `DDR_PAGE.POLICY`, bits [1:0], of the DDR controller page (12_ddr5_controllers.md R375). -/
def Ddr.DDR_PAGE_POLICY : RegField :=
  { off := 0x10C, hi := 1, lo := 0, ty := .rw, init := .val 0x2, bad := [(0x3, 0x3)] }

/-- `DDR_SCHED.AGE_LIMIT`, bits [31:16], of the DDR controller page (12_ddr5_controllers.md R374). -/
def Ddr.DDR_SCHED_AGE_LIMIT : RegField :=
  { off := 0x110, hi := 31, lo := 16, ty := .rw, init := .val 0x7D0, bad := [(0x0, 0x0)] }

/-- `DDR_SCHED.WR_LOW`, bits [14:8], of the DDR controller page (12_ddr5_controllers.md R374). -/
def Ddr.DDR_SCHED_WR_LOW : RegField :=
  { off := 0x110, hi := 14, lo := 8, ty := .rw, init := .val 0x10 }

/-- `DDR_SCHED.WR_HIGH`, bits [6:0], of the DDR controller page (12_ddr5_controllers.md R374). -/
def Ddr.DDR_SCHED_WR_HIGH : RegField :=
  { off := 0x110, hi := 6, lo := 0, ty := .rw, init := .val 0x30 }

/-- `DDR_NRF.WINDOW`, bits [15:8], of the DDR controller page (12_ddr5_controllers.md R379). -/
def Ddr.DDR_NRF_WINDOW : RegField :=
  { off := 0x114, hi := 15, lo := 8, ty := .rw, init := .val 0x4, bad := [(0x0, 0x0)] }

/-- `DDR_NRF.LOG2`, bits [7:4], of the DDR controller page (12_ddr5_controllers.md R379). -/
def Ddr.DDR_NRF_LOG2 : RegField :=
  { off := 0x114, hi := 7, lo := 4, ty := .rw, init := .val 0x8, bad := [(0x0, 0x3)] }

/-- `DDR_NRF.EN`, bits [0], of the DDR controller page (12_ddr5_controllers.md R379). -/
def Ddr.DDR_NRF_EN : RegField :=
  { off := 0x114, hi := 0, lo := 0, ty := .rw, init := .val 0x1 }

/-- `DDR_RH.RFM_REQ`, bits [31], of the DDR controller page (12_ddr5_controllers.md R378). -/
def Ddr.DDR_RH_RFM_REQ : RegField :=
  { off := 0x118, hi := 31, lo := 31, ty := .ro }

/-- `DDR_RH.DRFM_OK`, bits [30], of the DDR controller page (12_ddr5_controllers.md R378). -/
def Ddr.DDR_RH_DRFM_OK : RegField :=
  { off := 0x118, hi := 30, lo := 30, ty := .ro }

/-- `DDR_RH.RAAIMT`, bits [23:16], of the DDR controller page (12_ddr5_controllers.md R378). -/
def Ddr.DDR_RH_RAAIMT : RegField :=
  { off := 0x118, hi := 23, lo := 16, ty := .ro }

/-- `DDR_RH.RAAMMT`, bits [15:0], of the DDR controller page (12_ddr5_controllers.md R378). -/
def Ddr.DDR_RH_RAAMMT : RegField :=
  { off := 0x118, hi := 15, lo := 0, ty := .ro }

/-- `DDR_INFLIGHT.WR`, bits [22:16], of the DDR controller page (12_ddr5_controllers.md R371). -/
def Ddr.DDR_INFLIGHT_WR : RegField :=
  { off := 0x11C, hi := 22, lo := 16, ty := .ro }

/-- `DDR_INFLIGHT.RD`, bits [7:0], of the DDR controller page (12_ddr5_controllers.md R371). -/
def Ddr.DDR_INFLIGHT_RD : RegField :=
  { off := 0x11C, hi := 7, lo := 0, ty := .ro }

/-- `DDR_ECC_CNT.TRANSIENT`, bits [31:16], of the DDR controller page (12_ddr5_controllers.md R368). -/
def Ddr.DDR_ECC_CNT_TRANSIENT : RegField :=
  { off := 0x120, hi := 31, lo := 16, ty := .pk }

/-- `DDR_ECC_CNT.LASTING`, bits [15:8], of the DDR controller page (12_ddr5_controllers.md R368). -/
def Ddr.DDR_ECC_CNT_LASTING : RegField :=
  { off := 0x120, hi := 15, lo := 8, ty := .ro }

/-- `DDR_ECC_CNT.UNCORR`, bits [7:0], of the DDR controller page (12_ddr5_controllers.md R368). -/
def Ddr.DDR_ECC_CNT_UNCORR : RegField :=
  { off := 0x120, hi := 7, lo := 0, ty := .ro }

/-- `DDR_ECC_ADDR.LINE`, bits [31:0], of the DDR controller page (12_ddr5_controllers.md R370). -/
def Ddr.DDR_ECC_ADDR_LINE : RegField :=
  { off := 0x124, hi := 31, lo := 0, ty := .ro }

/-- `DDR_ECC_INFO.VALID`, bits [31], of the DDR controller page (12_ddr5_controllers.md R370). -/
def Ddr.DDR_ECC_INFO_VALID : RegField :=
  { off := 0x128, hi := 31, lo := 31, ty := .w1c }

/-- `DDR_ECC_INFO.KIND`, bits [29:28], of the DDR controller page (12_ddr5_controllers.md R370). -/
def Ddr.DDR_ECC_INFO_KIND : RegField :=
  { off := 0x128, hi := 29, lo := 28, ty := .ro }

/-- `DDR_ECC_INFO.SUBCH`, bits [24], of the DDR controller page (12_ddr5_controllers.md R370). -/
def Ddr.DDR_ECC_INFO_SUBCH : RegField :=
  { off := 0x128, hi := 24, lo := 24, ty := .ro }

/-- `DDR_ECC_INFO.POS`, bits [19:16], of the DDR controller page (12_ddr5_controllers.md R370). -/
def Ddr.DDR_ECC_INFO_POS : RegField :=
  { off := 0x128, hi := 19, lo := 16, ty := .ro }

/-- `DDR_ECC_INFO.CW`, bits [7:0], of the DDR controller page (12_ddr5_controllers.md R370). -/
def Ddr.DDR_ECC_INFO_CW : RegField :=
  { off := 0x128, hi := 7, lo := 0, ty := .ro }

/-- `DDR_TRAIN.ATTEMPTS`, bits [15:8], of the DDR controller page (12_ddr5_controllers.md R361). -/
def Ddr.DDR_TRAIN_ATTEMPTS : RegField :=
  { off := 0x12C, hi := 15, lo := 8, ty := .ro }

/-- `DDR_TRAIN.TRANSIENT`, bits [7:0], of the DDR controller page (12_ddr5_controllers.md R361). -/
def Ddr.DDR_TRAIN_TRANSIENT : RegField :=
  { off := 0x12C, hi := 7, lo := 0, ty := .ro }

/-- `DDR_REF_CNT.FORCED`, bits [31:16], of the DDR controller page (12_ddr5_controllers.md R376). -/
def Ddr.DDR_REF_CNT_FORCED : RegField :=
  { off := 0x130, hi := 31, lo := 16, ty := .pk }

/-- `DDR_REF_CNT.REFAB`, bits [15:0], of the DDR controller page (12_ddr5_controllers.md R376). -/
def Ddr.DDR_REF_CNT_REFAB : RegField :=
  { off := 0x130, hi := 15, lo := 0, ty := .pk }

/-- `DDR_PAGE_CNT.HIT`, bits [31:16], of the DDR controller page (12_ddr5_controllers.md R375). -/
def Ddr.DDR_PAGE_CNT_HIT : RegField :=
  { off := 0x134, hi := 31, lo := 16, ty := .pk }

/-- `DDR_PAGE_CNT.MISS`, bits [15:0], of the DDR controller page (12_ddr5_controllers.md R375). -/
def Ddr.DDR_PAGE_CNT_MISS : RegField :=
  { off := 0x134, hi := 15, lo := 0, ty := .pk }

/-- `DDR_RH_CNT.RFM`, bits [31:16], of the DDR controller page (12_ddr5_controllers.md R378). -/
def Ddr.DDR_RH_CNT_RFM : RegField :=
  { off := 0x138, hi := 31, lo := 16, ty := .pk }

/-- `DDR_RH_CNT.DRFM`, bits [15:0], of the DDR controller page (12_ddr5_controllers.md R378). -/
def Ddr.DDR_RH_CNT_DRFM : RegField :=
  { off := 0x138, hi := 15, lo := 0, ty := .pk }

/-- `DDR_ALERT.LASTING`, bits [15:8], of the DDR controller page (12_ddr5_controllers.md R381). -/
def Ddr.DDR_ALERT_LASTING : RegField :=
  { off := 0x13C, hi := 15, lo := 8, ty := .ro }

/-- `DDR_ALERT.TRANSIENT`, bits [7:0], of the DDR controller page (12_ddr5_controllers.md R381). -/
def Ddr.DDR_ALERT_TRANSIENT : RegField :=
  { off := 0x13C, hi := 7, lo := 0, ty := .pk }

/-- `DDR_SB.MODE`, bits [1:0], of the DDR controller page (12_ddr5_controllers.md R359). -/
def Ddr.DDR_SB_MODE : RegField :=
  { off := 0x140, hi := 1, lo := 0, ty := .rw, bad := [(0x3, 0x3)] }

/-- `DDR_CAP.SIZE`, bits [23:0], of the DDR controller page (12_ddr5_controllers.md R365). -/
def Ddr.DDR_CAP_SIZE : RegField :=
  { off := 0x144, hi := 23, lo := 0, ty := .ro }

/-- `DDR_ECC_INJ.ARM`, bits [31], of the DDR controller page (12_ddr5_controllers.md R385). -/
def Ddr.DDR_ECC_INJ_ARM : RegField :=
  { off := 0x800, hi := 31, lo := 31, ty := .rwx }

/-- `DDR_ECC_INJ.POS`, bits [19:16], of the DDR controller page (12_ddr5_controllers.md R385). -/
def Ddr.DDR_ECC_INJ_POS : RegField :=
  { off := 0x800, hi := 19, lo := 16, ty := .rwx, bad := [(0xA, 0xF)] }

/-- `DDR_ECC_INJ.CW`, bits [15:8], of the DDR controller page (12_ddr5_controllers.md R385). -/
def Ddr.DDR_ECC_INJ_CW : RegField :=
  { off := 0x800, hi := 15, lo := 8, ty := .rwx }

/-- `DDR_ECC_INJ.MASK`, bits [7:0], of the DDR controller page (12_ddr5_controllers.md R385). -/
def Ddr.DDR_ECC_INJ_MASK : RegField :=
  { off := 0x800, hi := 7, lo := 0, ty := .rwx }

/-- `DDR_TREFI_SCALE.SCALE`, bits [1:0], of the DDR controller page (12_ddr5_controllers.md R377). -/
def Ddr.DDR_TREFI_SCALE_SCALE : RegField :=
  { off := 0x804, hi := 1, lo := 0, ty := .rwx, bad := [(0x3, 0x3)] }

/-- Fields of the DDR controller page, part 0. -/
def Ddr.fields0 : List RegField :=
  [Ddr.CTL_NO_ZERO, Ddr.CTL_RETRAIN, Ddr.CTL_EN, Ddr.STATUS_REASON,
   Ddr.STATUS_TEMP_HIGH, Ddr.STATUS_TEMP_2X, Ddr.STATUS_STATE, Ddr.DDR_CFG_KIND,
   Ddr.DDR_CFG_RANKS, Ddr.DDR_CFG_X8, Ddr.DDR_CFG_DENSITY, Ddr.DDR_CFG_SPD_MAX,
   Ddr.DDR_SPEED_ACTUAL, Ddr.DDR_SPEED_REQ, Ddr.DDR_MAP_HASH, Ddr.DDR_MAP_MODE,
   Ddr.DDR_PAGE_TIMEOUT, Ddr.DDR_PAGE_POLICY, Ddr.DDR_SCHED_AGE_LIMIT, Ddr.DDR_SCHED_WR_LOW]

/-- Fields of the DDR controller page, part 1. -/
def Ddr.fields1 : List RegField :=
  [Ddr.DDR_SCHED_WR_HIGH, Ddr.DDR_NRF_WINDOW, Ddr.DDR_NRF_LOG2, Ddr.DDR_NRF_EN,
   Ddr.DDR_RH_RFM_REQ, Ddr.DDR_RH_DRFM_OK, Ddr.DDR_RH_RAAIMT, Ddr.DDR_RH_RAAMMT,
   Ddr.DDR_INFLIGHT_WR, Ddr.DDR_INFLIGHT_RD, Ddr.DDR_ECC_CNT_TRANSIENT, Ddr.DDR_ECC_CNT_LASTING,
   Ddr.DDR_ECC_CNT_UNCORR, Ddr.DDR_ECC_ADDR_LINE, Ddr.DDR_ECC_INFO_VALID, Ddr.DDR_ECC_INFO_KIND,
   Ddr.DDR_ECC_INFO_SUBCH, Ddr.DDR_ECC_INFO_POS, Ddr.DDR_ECC_INFO_CW, Ddr.DDR_TRAIN_ATTEMPTS]

/-- Fields of the DDR controller page, part 2. -/
def Ddr.fields2 : List RegField :=
  [Ddr.DDR_TRAIN_TRANSIENT, Ddr.DDR_REF_CNT_FORCED, Ddr.DDR_REF_CNT_REFAB, Ddr.DDR_PAGE_CNT_HIT,
   Ddr.DDR_PAGE_CNT_MISS, Ddr.DDR_RH_CNT_RFM, Ddr.DDR_RH_CNT_DRFM, Ddr.DDR_ALERT_LASTING,
   Ddr.DDR_ALERT_TRANSIENT, Ddr.DDR_SB_MODE, Ddr.DDR_CAP_SIZE, Ddr.DDR_ECC_INJ_ARM,
   Ddr.DDR_ECC_INJ_POS, Ddr.DDR_ECC_INJ_CW, Ddr.DDR_ECC_INJ_MASK, Ddr.DDR_TREFI_SCALE_SCALE]

/-- Every field of the DDR controller page beyond the common header. -/
def Ddr.fields : List RegField :=
  Ddr.fields0 ++ Ddr.fields1 ++ Ddr.fields2

/-- `INT_STATUS.TAG_FAIL` of the crypto engine page (13_memory_encryption.md R416). -/
def Crypto.INT_TAG_FAIL : Nat := 16

/-- `INT_STATUS.POISONED` of the crypto engine page (13_memory_encryption.md R416). -/
def Crypto.INT_POISONED : Nat := 17

/-- `INT_STATUS.RIGHTS` of the crypto engine page (13_memory_encryption.md R416). -/
def Crypto.INT_RIGHTS : Nat := 18

/-- `INT_STATUS.ANNEAL_DONE` of the crypto engine page (13_memory_encryption.md R416). -/
def Crypto.INT_ANNEAL_DONE : Nat := 19

/-- `INT_STATUS.INIT_DONE` of the crypto engine page (13_memory_encryption.md R416). -/
def Crypto.INT_INIT_DONE : Nat := 20

/-- `INT_STATUS.KEY_DONE` of the crypto engine page (13_memory_encryption.md R416). -/
def Crypto.INT_KEY_DONE : Nat := 21

/-- `INT_STATUS.META_FAIL` of the crypto engine page (13_memory_encryption.md R416). -/
def Crypto.INT_META_FAIL : Nat := 22

/-- `CTL.KEEP_KEYS`, bits [8], of the crypto engine page (13_memory_encryption.md R415). -/
def Crypto.CTL_KEEP_KEYS : RegField :=
  { off := 0x010, hi := 8, lo := 8, ty := .rw }

/-- `STATUS.INIT_BUSY`, bits [24], of the crypto engine page (13_memory_encryption.md R416). -/
def Crypto.STATUS_INIT_BUSY : RegField :=
  { off := 0x014, hi := 24, lo := 24, ty := .ro }

/-- `STATUS.ANNEAL_BUSY`, bits [20], of the crypto engine page (13_memory_encryption.md R416). -/
def Crypto.STATUS_ANNEAL_BUSY : RegField :=
  { off := 0x014, hi := 20, lo := 20, ty := .ro }

/-- `STATUS.ANNEAL_REGION`, bits [19:16], of the crypto engine page (13_memory_encryption.md R416). -/
def Crypto.STATUS_ANNEAL_REGION : RegField :=
  { off := 0x014, hi := 19, lo := 16, ty := .ro }

/-- `STATUS.INFLIGHT`, bits [7:0], of the crypto engine page (13_memory_encryption.md R416). -/
def Crypto.STATUS_INFLIGHT : RegField :=
  { off := 0x014, hi := 7, lo := 0, ty := .ro }

/-- `CRY_KEY_CMD.OP`, bits [31:28], of the crypto engine page (13_memory_encryption.md R409). -/
def Crypto.CRY_KEY_CMD_OP : RegField :=
  { off := 0x100, hi := 31, lo := 28, ty := .wo, bad := [(0x0, 0x0), (0x4, 0xF)] }

/-- `CRY_KEY_CMD.SLOT`, bits [4:0], of the crypto engine page (13_memory_encryption.md R409). -/
def Crypto.CRY_KEY_CMD_SLOT : RegField :=
  { off := 0x100, hi := 4, lo := 0, ty := .wo }

/-- `CRY_KEY_CTX.CTX`, bits [31:0], of the crypto engine page (13_memory_encryption.md R434). -/
def Crypto.CRY_KEY_CTX_CTX : RegField :=
  { off := 0x104, hi := 31, lo := 0, ty := .rw }

/-- `CRY_KEY_STAT.BUSY`, bits [31], of the crypto engine page (13_memory_encryption.md R409). -/
def Crypto.CRY_KEY_STAT_BUSY : RegField :=
  { off := 0x108, hi := 31, lo := 31, ty := .ro }

/-- `CRY_KEY_LOADED.LOADED`, bits [31:0], of the crypto engine page (13_memory_encryption.md R409). -/
def Crypto.CRY_KEY_LOADED_LOADED : RegField :=
  { off := 0x10C, hi := 31, lo := 0, ty := .ro }

/-- `REG_CTL.EN`, bits [31], of the crypto engine page (13_memory_encryption.md R393). -/
def Crypto.REG_CTL_EN : RegField :=
  { off := 0x200, hi := 31, lo := 31, ty := .rw, stride := 0x20, count := 16 }

/-- `REG_CTL.ROOT_VALID`, bits [30], of the crypto engine page (13_memory_encryption.md R393). -/
def Crypto.REG_CTL_ROOT_VALID : RegField :=
  { off := 0x200, hi := 30, lo := 30, ty := .ro, stride := 0x20, count := 16 }

/-- `REG_CTL.STATE`, bits [29:28], of the crypto engine page (13_memory_encryption.md R393). -/
def Crypto.REG_CTL_STATE : RegField :=
  { off := 0x200, hi := 29, lo := 28, ty := .ro, stride := 0x20, count := 16 }

/-- `REG_CTL.KEY`, bits [12:8], of the crypto engine page (13_memory_encryption.md R393). -/
def Crypto.REG_CTL_KEY : RegField :=
  { off := 0x200, hi := 12, lo := 8, ty := .rw, stride := 0x20, count := 16 }

/-- `REG_CTL.MODE`, bits [1:0], of the crypto engine page (13_memory_encryption.md R393). -/
def Crypto.REG_CTL_MODE : RegField :=
  { off := 0x200, hi := 1, lo := 0, ty := .rw, stride := 0x20, count := 16, bad := [(0x3, 0x3)] }

/-- `REG_BASE.BASE`, bits [31:0], of the crypto engine page (13_memory_encryption.md R391). -/
def Crypto.REG_BASE_BASE : RegField :=
  { off := 0x204, hi := 31, lo := 0, ty := .rw, stride := 0x20, count := 16 }

/-- `REG_N.N`, bits [31:0], of the crypto engine page (13_memory_encryption.md R391). -/
def Crypto.REG_N_N : RegField :=
  { off := 0x208, hi := 31, lo := 0, ty := .rw, stride := 0x20, count := 16 }

/-- `REG_META.META_BASE`, bits [31:0], of the crypto engine page (13_memory_encryption.md R399). -/
def Crypto.REG_META_META_BASE : RegField :=
  { off := 0x20C, hi := 31, lo := 0, ty := .rw, stride := 0x20, count := 16 }

/-- `REG_META_LINES.LINES`, bits [31:0], of the crypto engine page (13_memory_encryption.md R399). -/
def Crypto.REG_META_LINES_LINES : RegField :=
  { off := 0x210, hi := 31, lo := 0, ty := .ro, stride := 0x20, count := 16 }

/-- `REG_RIGHTS.RIGHTS`, bits [11:0], of the crypto engine page (13_memory_encryption.md R392). -/
def Crypto.REG_RIGHTS_RIGHTS : RegField :=
  { off := 0x214, hi := 11, lo := 0, ty := .rw, stride := 0x20, count := 16 }

/-- `REG_HW_LO.HW`, bits [31:0], of the crypto engine page (13_memory_encryption.md R401). -/
def Crypto.REG_HW_LO_HW : RegField :=
  { off := 0x218, hi := 31, lo := 0, ty := .ro, stride := 0x20, count := 16 }

/-- `REG_HW_HI.HW`, bits [31:0], of the crypto engine page (13_memory_encryption.md R401). -/
def Crypto.REG_HW_HI_HW : RegField :=
  { off := 0x21C, hi := 31, lo := 0, ty := .ro, stride := 0x20, count := 16 }

/-- `CRY_ANNEAL_CTL.START`, bits [31], of the crypto engine page (13_memory_encryption.md R411). -/
def Crypto.CRY_ANNEAL_CTL_START : RegField :=
  { off := 0x300, hi := 31, lo := 31, ty := .wo }

/-- `CRY_ANNEAL_CTL.NEW_KEY`, bits [12:8], of the crypto engine page (13_memory_encryption.md R411). -/
def Crypto.CRY_ANNEAL_CTL_NEW_KEY : RegField :=
  { off := 0x300, hi := 12, lo := 8, ty := .rw }

/-- `CRY_ANNEAL_CTL.REGION`, bits [3:0], of the crypto engine page (13_memory_encryption.md R411). -/
def Crypto.CRY_ANNEAL_CTL_REGION : RegField :=
  { off := 0x300, hi := 3, lo := 0, ty := .rw }

/-- `CRY_ANNEAL_POS.BOUNDARY`, bits [31:0], of the crypto engine page (13_memory_encryption.md R411). -/
def Crypto.CRY_ANNEAL_POS_BOUNDARY : RegField :=
  { off := 0x304, hi := 31, lo := 0, ty := .ro }

/-- `CRY_ANNEAL_GAP.GAP`, bits [15:0], of the crypto engine page (13_memory_encryption.md R413). -/
def Crypto.CRY_ANNEAL_GAP_GAP : RegField :=
  { off := 0x308, hi := 15, lo := 0, ty := .rw }

/-- `CRY_INIT.START`, bits [31], of the crypto engine page (13_memory_encryption.md R408). -/
def Crypto.CRY_INIT_START : RegField :=
  { off := 0x30C, hi := 31, lo := 31, ty := .wo }

/-- `CRY_INIT.REGION`, bits [3:0], of the crypto engine page (13_memory_encryption.md R408). -/
def Crypto.CRY_INIT_REGION : RegField :=
  { off := 0x30C, hi := 3, lo := 0, ty := .rw }

/-- `CRY_ERR_CNT.TAG_TRANSIENT`, bits [31:16], of the crypto engine page (13_memory_encryption.md R404). -/
def Crypto.CRY_ERR_CNT_TAG_TRANSIENT : RegField :=
  { off := 0x310, hi := 31, lo := 16, ty := .pk }

/-- `CRY_ERR_CNT.TAG_FAIL`, bits [15:8], of the crypto engine page (13_memory_encryption.md R404). -/
def Crypto.CRY_ERR_CNT_TAG_FAIL : RegField :=
  { off := 0x310, hi := 15, lo := 8, ty := .ro }

/-- `CRY_ERR_CNT.POISONED`, bits [7:0], of the crypto engine page (13_memory_encryption.md R404). -/
def Crypto.CRY_ERR_CNT_POISONED : RegField :=
  { off := 0x310, hi := 7, lo := 0, ty := .ro }

/-- `CRY_ERR_LINE.LINE`, bits [31:0], of the crypto engine page (13_memory_encryption.md R404). -/
def Crypto.CRY_ERR_LINE_LINE : RegField :=
  { off := 0x314, hi := 31, lo := 0, ty := .ro }

/-- `CRY_ERR_INFO.VALID`, bits [31], of the crypto engine page (13_memory_encryption.md R404). -/
def Crypto.CRY_ERR_INFO_VALID : RegField :=
  { off := 0x318, hi := 31, lo := 31, ty := .w1c }

/-- `CRY_ERR_INFO.KIND`, bits [29:28], of the crypto engine page (13_memory_encryption.md R404). -/
def Crypto.CRY_ERR_INFO_KIND : RegField :=
  { off := 0x318, hi := 29, lo := 28, ty := .ro }

/-- `CRY_ERR_INFO.LEVEL`, bits [23:20], of the crypto engine page (13_memory_encryption.md R404). -/
def Crypto.CRY_ERR_INFO_LEVEL : RegField :=
  { off := 0x318, hi := 23, lo := 20, ty := .ro }

/-- `CRY_ERR_INFO.REGION`, bits [19:16], of the crypto engine page (13_memory_encryption.md R404). -/
def Crypto.CRY_ERR_INFO_REGION : RegField :=
  { off := 0x318, hi := 19, lo := 16, ty := .ro }

/-- `CRY_ERR_INFO.CLASS`, bits [10:8], of the crypto engine page (13_memory_encryption.md R404). -/
def Crypto.CRY_ERR_INFO_CLASS : RegField :=
  { off := 0x318, hi := 10, lo := 8, ty := .ro }

/-- `CRY_ERR_INFO.RESP`, bits [2:0], of the crypto engine page (13_memory_encryption.md R404). -/
def Crypto.CRY_ERR_INFO_RESP : RegField :=
  { off := 0x318, hi := 2, lo := 0, ty := .ro }

/-- `CRY_REFUSED.COUNT`, bits [15:0], of the crypto engine page (13_memory_encryption.md R392). -/
def Crypto.CRY_REFUSED_COUNT : RegField :=
  { off := 0x31C, hi := 15, lo := 0, ty := .pk }

/-- `CRY_META_CNT.HIT`, bits [31:16], of the crypto engine page (13_memory_encryption.md R402). -/
def Crypto.CRY_META_CNT_HIT : RegField :=
  { off := 0x320, hi := 31, lo := 16, ty := .pk }

/-- `CRY_META_CNT.MISS`, bits [15:0], of the crypto engine page (13_memory_encryption.md R402). -/
def Crypto.CRY_META_CNT_MISS : RegField :=
  { off := 0x320, hi := 15, lo := 0, ty := .pk }

/-- `CRY_TAG_INJ.ARM`, bits [0], of the crypto engine page (13_memory_encryption.md R417). -/
def Crypto.CRY_TAG_INJ_ARM : RegField :=
  { off := 0x800, hi := 0, lo := 0, ty := .rwx }

/-- `CRY_CTR_LINE.LINE`, bits [31:0], of the crypto engine page (13_memory_encryption.md R417). -/
def Crypto.CRY_CTR_LINE_LINE : RegField :=
  { off := 0x804, hi := 31, lo := 0, ty := .rwx }

/-- `CRY_CTR_VAL_LO.VAL`, bits [31:0], of the crypto engine page (13_memory_encryption.md R417). -/
def Crypto.CRY_CTR_VAL_LO_VAL : RegField :=
  { off := 0x808, hi := 31, lo := 0, ty := .rwx }

/-- `CRY_CTR_VAL_HI.VAL`, bits [31:0], of the crypto engine page (13_memory_encryption.md R417). -/
def Crypto.CRY_CTR_VAL_HI_VAL : RegField :=
  { off := 0x80C, hi := 31, lo := 0, ty := .rwx }

/-- `CRY_CTR_CMD.GO`, bits [0], of the crypto engine page (13_memory_encryption.md R417). -/
def Crypto.CRY_CTR_CMD_GO : RegField :=
  { off := 0x810, hi := 0, lo := 0, ty := .wo }

/-- Fields of the crypto engine page, part 0. -/
def Crypto.fields0 : List RegField :=
  [Crypto.CTL_KEEP_KEYS, Crypto.STATUS_INIT_BUSY, Crypto.STATUS_ANNEAL_BUSY, Crypto.STATUS_ANNEAL_REGION,
   Crypto.STATUS_INFLIGHT, Crypto.CRY_KEY_CMD_OP, Crypto.CRY_KEY_CMD_SLOT, Crypto.CRY_KEY_CTX_CTX,
   Crypto.CRY_KEY_STAT_BUSY, Crypto.CRY_KEY_LOADED_LOADED, Crypto.REG_CTL_EN, Crypto.REG_CTL_ROOT_VALID,
   Crypto.REG_CTL_STATE, Crypto.REG_CTL_KEY, Crypto.REG_CTL_MODE, Crypto.REG_BASE_BASE,
   Crypto.REG_N_N, Crypto.REG_META_META_BASE, Crypto.REG_META_LINES_LINES, Crypto.REG_RIGHTS_RIGHTS]

/-- Fields of the crypto engine page, part 1. -/
def Crypto.fields1 : List RegField :=
  [Crypto.REG_HW_LO_HW, Crypto.REG_HW_HI_HW, Crypto.CRY_ANNEAL_CTL_START, Crypto.CRY_ANNEAL_CTL_NEW_KEY,
   Crypto.CRY_ANNEAL_CTL_REGION, Crypto.CRY_ANNEAL_POS_BOUNDARY, Crypto.CRY_ANNEAL_GAP_GAP, Crypto.CRY_INIT_START,
   Crypto.CRY_INIT_REGION, Crypto.CRY_ERR_CNT_TAG_TRANSIENT, Crypto.CRY_ERR_CNT_TAG_FAIL, Crypto.CRY_ERR_CNT_POISONED,
   Crypto.CRY_ERR_LINE_LINE, Crypto.CRY_ERR_INFO_VALID, Crypto.CRY_ERR_INFO_KIND, Crypto.CRY_ERR_INFO_LEVEL,
   Crypto.CRY_ERR_INFO_REGION, Crypto.CRY_ERR_INFO_CLASS, Crypto.CRY_ERR_INFO_RESP, Crypto.CRY_REFUSED_COUNT]

/-- Fields of the crypto engine page, part 2. -/
def Crypto.fields2 : List RegField :=
  [Crypto.CRY_META_CNT_HIT, Crypto.CRY_META_CNT_MISS, Crypto.CRY_TAG_INJ_ARM, Crypto.CRY_CTR_LINE_LINE,
   Crypto.CRY_CTR_VAL_LO_VAL, Crypto.CRY_CTR_VAL_HI_VAL, Crypto.CRY_CTR_CMD_GO]

/-- Every field of the crypto engine page beyond the common header. -/
def Crypto.fields : List RegField :=
  Crypto.fields0 ++ Crypto.fields1 ++ Crypto.fields2

end Sys2Proof.Machine.Reg
end

