-- ==== Sys2Proof/Machine/RegsLink.lean ====
section
/-! DEFINITION. The register fields of the Skein router, Lomum port, crossbar, die control and crossing port pages, one definition a field: offset, bits, type, reset value, stride and count of
an array, reserved encodings and home (R14 to R16; the retention of each home is R470). Transcribed from the register tables of the chapters. -/

namespace Sys2Proof.Machine.Reg

/-- `INT_STATUS.DISCARD` of the Skein router page (10_skein_network.md R319). -/
def Router.INT_DISCARD : Nat := 16

/-- `INT_STATUS.NOROUTE` of the Skein router page (10_skein_network.md R319). -/
def Router.INT_NOROUTE : Nat := 17

/-- `INT_STATUS.ASLEEP` of the Skein router page (10_skein_network.md R319). -/
def Router.INT_ASLEEP : Nat := 18

/-- `INT_STATUS.SATURATED` of the Skein router page (10_skein_network.md R319). -/
def Router.INT_SATURATED : Nat := 19

/-- `INT_STATUS.RECONF_DONE` of the Skein router page (10_skein_network.md R319). -/
def Router.INT_RECONF_DONE : Nat := 20

/-- `INT_STATUS.TIMEOUT_LASTING` of the Skein router page (10_skein_network.md R319). -/
def Router.INT_TIMEOUT_LASTING : Nat := 21

/-- `CTL.APPLY`, bits [0], of the Skein router page (10_skein_network.md R316). -/
def Router.CTL_APPLY : RegField :=
  { off := 0x010, hi := 0, lo := 0, ty := .wo }

/-- `STATUS.BYPASS`, bits [4], of the Skein router page (10_skein_network.md R316). -/
def Router.STATUS_BYPASS : RegField :=
  { off := 0x014, hi := 4, lo := 4, ty := .ro }

/-- `STATUS.PRESENT`, bits [3:0], of the Skein router page (10_skein_network.md R316). -/
def Router.STATUS_PRESENT : RegField :=
  { off := 0x014, hi := 3, lo := 0, ty := .ro, home := .fixed }

/-- `SKR_NET.SAT_HELD`, bits [8], of the Skein router page (10_skein_network.md R305). -/
def Router.SKR_NET_SAT_HELD : RegField :=
  { off := 0x100, hi := 8, lo := 8, ty := .ro }

/-- `SKR_NET.GW_OPEN`, bits [7:0], of the Skein router page (10_skein_network.md R305). -/
def Router.SKR_NET_GW_OPEN : RegField :=
  { off := 0x100, hi := 7, lo := 0, ty := .ro }

/-- `SKR_PORT.ETYPE`, bits [27:24], of the Skein router page (10_skein_network.md R316). -/
def Router.SKR_PORT_ETYPE : RegField :=
  { off := 0x110, hi := 27, lo := 24, ty := .ro, stride := 0x4, count := 4, home := .fixed }

/-- `SKR_PORT.PSTATE`, bits [17:16], of the Skein router page (10_skein_network.md R316). -/
def Router.SKR_PORT_PSTATE : RegField :=
  { off := 0x110, hi := 17, lo := 16, ty := .ro, stride := 0x4, count := 4 }

/-- `SKR_PORT.WAKE_ON_PKT`, bits [9], of the Skein router page (10_skein_network.md R316). -/
def Router.SKR_PORT_WAKE_ON_PKT : RegField :=
  { off := 0x110, hi := 9, lo := 9, ty := .rw, stride := 0x4, count := 4 }

/-- `SKR_PORT.EN`, bits [8], of the Skein router page (10_skein_network.md R316). -/
def Router.SKR_PORT_EN : RegField :=
  { off := 0x110, hi := 8, lo := 8, ty := .rw, init := .present, stride := 0x4, count := 4 }

/-- `SKR_PORT_TMO.TIMEOUT`, bits [15:0], of the Skein router page (10_skein_network.md R309). -/
def Router.SKR_PORT_TMO_TIMEOUT : RegField :=
  { off := 0x120, hi := 15, lo := 0, ty := .rw, init := .val 0x32, stride := 0x4, count := 4, bad := [(0x0, 0x0)] }

/-- `SKR_EP_STAT.TAGS`, bits [26:16], of the Skein router page (10_skein_network.md R308). -/
def Router.SKR_EP_STAT_TAGS : RegField :=
  { off := 0x130, hi := 26, lo := 16, ty := .ro, stride := 0x4, count := 4 }

/-- `SKR_EP_STAT.P3_BUSY`, bits [12], of the Skein router page (10_skein_network.md R308). -/
def Router.SKR_EP_STAT_P3_BUSY : RegField :=
  { off := 0x130, hi := 12, lo := 12, ty := .ro, stride := 0x4, count := 4 }

/-- `SKR_EP_STAT.SWAP_FULL`, bits [8], of the Skein router page (10_skein_network.md R308). -/
def Router.SKR_EP_STAT_SWAP_FULL : RegField :=
  { off := 0x130, hi := 8, lo := 8, ty := .ro, stride := 0x4, count := 4 }

/-- `SKR_EP_STAT.URG_LEVEL`, bits [4:0], of the Skein router page (10_skein_network.md R308). -/
def Router.SKR_EP_STAT_URG_LEVEL : RegField :=
  { off := 0x130, hi := 4, lo := 0, ty := .ro, stride := 0x4, count := 4 }

/-- `SKR_EP_ERR.TRANSIENT`, bits [31:16], of the Skein router page (10_skein_network.md R309). -/
def Router.SKR_EP_ERR_TRANSIENT : RegField :=
  { off := 0x140, hi := 31, lo := 16, ty := .pk, stride := 0x4, count := 4 }

/-- `SKR_EP_ERR.LASTING`, bits [15:8], of the Skein router page (10_skein_network.md R309). -/
def Router.SKR_EP_ERR_LASTING : RegField :=
  { off := 0x140, hi := 15, lo := 8, ty := .ro, stride := 0x4, count := 4 }

/-- `SKR_EP_ERR.LATE`, bits [7:0], of the Skein router page (10_skein_network.md R309). -/
def Router.SKR_EP_ERR_LATE : RegField :=
  { off := 0x140, hi := 7, lo := 0, ty := .ro, stride := 0x4, count := 4 }

/-- `SKR_CNT.DEFLECT`, bits [31:16], of the Skein router page (10_skein_network.md R306). -/
def Router.SKR_CNT_DEFLECT : RegField :=
  { off := 0x180, hi := 31, lo := 16, ty := .pk }

/-- `SKR_CNT.DISPLACE`, bits [15:0], of the Skein router page (10_skein_network.md R306). -/
def Router.SKR_CNT_DISPLACE : RegField :=
  { off := 0x180, hi := 15, lo := 0, ty := .pk }

/-- `SKR_NAK_CNT.ASLEEP`, bits [31:16], of the Skein router page (10_skein_network.md R304). -/
def Router.SKR_NAK_CNT_ASLEEP : RegField :=
  { off := 0x184, hi := 31, lo := 16, ty := .pk }

/-- `SKR_NAK_CNT.NOROUTE`, bits [15:0], of the Skein router page (10_skein_network.md R304). -/
def Router.SKR_NAK_CNT_NOROUTE : RegField :=
  { off := 0x184, hi := 15, lo := 0, ty := .pk }

/-- `SKR_DISCARD.HDR`, bits [31:16], of the Skein router page (10_skein_network.md R297). -/
def Router.SKR_DISCARD_HDR : RegField :=
  { off := 0x188, hi := 31, lo := 16, ty := .pk }

/-- `SKR_DISCARD.RSP`, bits [15:0], of the Skein router page (10_skein_network.md R297). -/
def Router.SKR_DISCARD_RSP : RegField :=
  { off := 0x188, hi := 15, lo := 0, ty := .pk }

/-- `SKR_GW.OPEN`, bits [31], of the Skein router page (10_skein_network.md R295). -/
def Router.SKR_GW_OPEN : RegField :=
  { off := 0x190, hi := 31, lo := 31, ty := .ro }

/-- `SKR_GW.HALF`, bits [30], of the Skein router page (10_skein_network.md R295). -/
def Router.SKR_GW_HALF : RegField :=
  { off := 0x190, hi := 30, lo := 30, ty := .ro }

/-- `SKR_GW.REPLAY`, bits [9:0], of the Skein router page (10_skein_network.md R295). -/
def Router.SKR_GW_REPLAY : RegField :=
  { off := 0x190, hi := 9, lo := 0, ty := .ro }

/-- `SKR_TEST.PORT`, bits [5:4], of the Skein router page (10_skein_network.md R319). -/
def Router.SKR_TEST_PORT : RegField :=
  { off := 0x800, hi := 5, lo := 4, ty := .rwx }

/-- `SKR_TEST.HCHK_FLIP`, bits [0], of the Skein router page (10_skein_network.md R319). -/
def Router.SKR_TEST_HCHK_FLIP : RegField :=
  { off := 0x800, hi := 0, lo := 0, ty := .rwx }

/-- Fields of the Skein router page, part 0. -/
def Router.fields0 : List RegField :=
  [Router.CTL_APPLY, Router.STATUS_BYPASS, Router.STATUS_PRESENT, Router.SKR_NET_SAT_HELD,
   Router.SKR_NET_GW_OPEN, Router.SKR_PORT_ETYPE, Router.SKR_PORT_PSTATE, Router.SKR_PORT_WAKE_ON_PKT,
   Router.SKR_PORT_EN, Router.SKR_PORT_TMO_TIMEOUT, Router.SKR_EP_STAT_TAGS, Router.SKR_EP_STAT_P3_BUSY,
   Router.SKR_EP_STAT_SWAP_FULL, Router.SKR_EP_STAT_URG_LEVEL, Router.SKR_EP_ERR_TRANSIENT, Router.SKR_EP_ERR_LASTING,
   Router.SKR_EP_ERR_LATE, Router.SKR_CNT_DEFLECT, Router.SKR_CNT_DISPLACE, Router.SKR_NAK_CNT_ASLEEP]

/-- Fields of the Skein router page, part 1. -/
def Router.fields1 : List RegField :=
  [Router.SKR_NAK_CNT_NOROUTE, Router.SKR_DISCARD_HDR, Router.SKR_DISCARD_RSP, Router.SKR_GW_OPEN,
   Router.SKR_GW_HALF, Router.SKR_GW_REPLAY, Router.SKR_TEST_PORT, Router.SKR_TEST_HCHK_FLIP]

/-- Every field of the Skein router page beyond the common header. -/
def Router.fields : List RegField :=
  Router.fields0 ++ Router.fields1

/-- `INT_STATUS.ACTIVE` of the Lomum port page (04_lomum_links.md R138). -/
def Port.INT_ACTIVE : Nat := 16

/-- `INT_STATUS.ATTEMPT_FAIL` of the Lomum port page (04_lomum_links.md R138). -/
def Port.INT_ATTEMPT_FAIL : Nat := 17

/-- `INT_STATUS.SPARE_USED` of the Lomum port page (04_lomum_links.md R138). -/
def Port.INT_SPARE_USED : Nat := 18

/-- `INT_STATUS.RESERVE_USED` of the Lomum port page (04_lomum_links.md R138). -/
def Port.INT_RESERVE_USED : Nat := 19

/-- `INT_STATUS.HALF_WIDTH` of the Lomum port page (04_lomum_links.md R138). -/
def Port.INT_HALF_WIDTH : Nat := 20

/-- `INT_STATUS.MODULE_DOWN` of the Lomum port page (04_lomum_links.md R138). -/
def Port.INT_MODULE_DOWN : Nat := 21

/-- `INT_STATUS.CROSS_LOST` of the Lomum port page (04_lomum_links.md R138). -/
def Port.INT_CROSS_LOST : Nat := 22

/-- `CTL.SPLIT`, bits [5:4], of the Lomum port page (04_lomum_links.md R139). -/
def Port.CTL_SPLIT : RegField :=
  { off := 0x010, hi := 5, lo := 4, ty := .rw }

/-- `CTL.TRAIN`, bits [0], of the Lomum port page (04_lomum_links.md R139). -/
def Port.CTL_TRAIN : RegField :=
  { off := 0x010, hi := 0, lo := 0, ty := .wo }

/-- `STATUS.STATE`, bits [11:8], of the Lomum port page (04_lomum_links.md R119). -/
def Port.STATUS_STATE : RegField :=
  { off := 0x014, hi := 11, lo := 8, ty := .ro }

/-- `STATUS.ATTEMPTS`, bits [6:4], of the Lomum port page (04_lomum_links.md R119). -/
def Port.STATUS_ATTEMPTS : RegField :=
  { off := 0x014, hi := 6, lo := 4, ty := .ro }

/-- `STATUS.XBAR_BAD`, bits [3], of the Lomum port page (04_lomum_links.md R119). -/
def Port.STATUS_XBAR_BAD : RegField :=
  { off := 0x014, hi := 3, lo := 3, ty := .ro }

/-- `STATUS.SB_FAULT`, bits [2], of the Lomum port page (04_lomum_links.md R119). -/
def Port.STATUS_SB_FAULT : RegField :=
  { off := 0x014, hi := 2, lo := 2, ty := .ro }

/-- `STATUS.DEGRADED`, bits [1], of the Lomum port page (04_lomum_links.md R119). -/
def Port.STATUS_DEGRADED : RegField :=
  { off := 0x014, hi := 1, lo := 1, ty := .ro }

/-- `STATUS.RESERVE_IN_USE`, bits [0], of the Lomum port page (04_lomum_links.md R119). -/
def Port.STATUS_RESERVE_IN_USE : RegField :=
  { off := 0x014, hi := 0, lo := 0, ty := .ro }

/-- `LMH_MOD.LOGICAL`, bits [19:16], of the Lomum port page (04_lomum_links.md R128). -/
def Port.LMH_MOD_LOGICAL : RegField :=
  { off := 0x100, hi := 19, lo := 16, ty := .ro, init := .logical, stride := 0x4, count := 17, home := .ledger }

/-- `LMH_MOD.ROLE`, bits [13:12], of the Lomum port page (04_lomum_links.md R128). -/
def Port.LMH_MOD_ROLE : RegField :=
  { off := 0x100, hi := 13, lo := 12, ty := .ro, stride := 0x4, count := 17, home := .ledger }

/-- `LMH_MOD.MSTATE`, bits [10:8], of the Lomum port page (04_lomum_links.md R128). -/
def Port.LMH_MOD_MSTATE : RegField :=
  { off := 0x100, hi := 10, lo := 8, ty := .ro, stride := 0x4, count := 17 }

/-- `LMH_MOD.SPARES_FREE_OUT`, bits [6:4], of the Lomum port page (04_lomum_links.md R128). -/
def Port.LMH_MOD_SPARES_FREE_OUT : RegField :=
  { off := 0x100, hi := 6, lo := 4, ty := .ro, init := .val 0x4, stride := 0x4, count := 17 }

/-- `LMH_MOD.SPARES_FREE_IN`, bits [2:0], of the Lomum port page (04_lomum_links.md R128). -/
def Port.LMH_MOD_SPARES_FREE_IN : RegField :=
  { off := 0x100, hi := 2, lo := 0, ty := .ro, init := .val 0x4, stride := 0x4, count := 17 }

/-- `LMH_MAP_MASK_LO.MASK_LO`, bits [31:0], of the Lomum port page (04_lomum_links.md R122). -/
def Port.LMH_MAP_MASK_LO_MASK_LO : RegField :=
  { off := 0x200, hi := 31, lo := 0, ty := .ro, init := .val 0xFFFFFFFF, stride := 0x10, count := 34, home := .ledger }

/-- `LMH_MAP_MASK_HI.MASK_HI`, bits [31:0], of the Lomum port page (04_lomum_links.md R122). -/
def Port.LMH_MAP_MASK_HI_MASK_HI : RegField :=
  { off := 0x204, hi := 31, lo := 0, ty := .ro, init := .val 0xFFFFFFFF, stride := 0x10, count := 34, home := .ledger }

/-- `LMH_MAP_MASK_SP.MASK_SP`, bits [3:0], of the Lomum port page (04_lomum_links.md R122). -/
def Port.LMH_MAP_MASK_SP_MASK_SP : RegField :=
  { off := 0x208, hi := 3, lo := 0, ty := .ro, init := .val 0xF, stride := 0x10, count := 34, home := .ledger }

/-- `LMH_MAP_ASSIGN.SPARE_ASSIGN`, bits [27:0], of the Lomum port page (04_lomum_links.md R122). -/
def Port.LMH_MAP_ASSIGN_SPARE_ASSIGN : RegField :=
  { off := 0x20C, hi := 27, lo := 0, ty := .ro, init := .val 0xFFFFFFF, stride := 0x10, count := 34, home := .ledger }

/-- `LMH_ERRS.FAILED_FRAMES`, bits [31:16], of the Lomum port page (04_lomum_links.md R126). -/
def Port.LMH_ERRS_FAILED_FRAMES : RegField :=
  { off := 0x600, hi := 31, lo := 16, ty := .pk, stride := 0x4, count := 17 }

/-- `LMH_ERRS.TRANSIENT`, bits [15:0], of the Lomum port page (04_lomum_links.md R126). -/
def Port.LMH_ERRS_TRANSIENT : RegField :=
  { off := 0x600, hi := 15, lo := 0, ty := .pk, stride := 0x4, count := 17 }

/-- `LMH_TIMEOUT_SCALE.SCALE`, bits [1:0], of the Lomum port page (04_lomum_links.md R119). -/
def Port.LMH_TIMEOUT_SCALE_SCALE : RegField :=
  { off := 0x800, hi := 1, lo := 0, ty := .rwx }

/-- Every field of the Lomum port page beyond the common header. -/
def Port.fields : List RegField :=
  [Port.CTL_SPLIT, Port.CTL_TRAIN, Port.STATUS_STATE, Port.STATUS_ATTEMPTS,
   Port.STATUS_XBAR_BAD, Port.STATUS_SB_FAULT, Port.STATUS_DEGRADED, Port.STATUS_RESERVE_IN_USE,
   Port.LMH_MOD_LOGICAL, Port.LMH_MOD_ROLE, Port.LMH_MOD_MSTATE, Port.LMH_MOD_SPARES_FREE_OUT,
   Port.LMH_MOD_SPARES_FREE_IN, Port.LMH_MAP_MASK_LO_MASK_LO, Port.LMH_MAP_MASK_HI_MASK_HI, Port.LMH_MAP_MASK_SP_MASK_SP,
   Port.LMH_MAP_ASSIGN_SPARE_ASSIGN, Port.LMH_ERRS_FAILED_FRAMES, Port.LMH_ERRS_TRANSIENT, Port.LMH_TIMEOUT_SCALE_SCALE]

/-- `XBAR_ENTRY.EN`, bits [31], of the crossbar page (04_lomum_links.md R136). -/
def Xbar.XBAR_ENTRY_EN : RegField :=
  { off := 0x100, hi := 31, lo := 31, ty := .rw, stride := 0x4, count := 192 }

/-- `XBAR_ENTRY.SRC_DIE`, bits [26:24], of the crossbar page (04_lomum_links.md R136). -/
def Xbar.XBAR_ENTRY_SRC_DIE : RegField :=
  { off := 0x100, hi := 26, lo := 24, ty := .rw, stride := 0x4, count := 192, bad := [(0x0, 0x0), (0x7, 0x7)] }

/-- `XBAR_ENTRY.SRC_MOD`, bits [23:20], of the crossbar page (04_lomum_links.md R136). -/
def Xbar.XBAR_ENTRY_SRC_MOD : RegField :=
  { off := 0x100, hi := 23, lo := 20, ty := .rw, stride := 0x4, count := 192 }

/-- `XBAR_ENTRY.SRC_GROUP`, bits [7:0], of the crossbar page (04_lomum_links.md R136). -/
def Xbar.XBAR_ENTRY_SRC_GROUP : RegField :=
  { off := 0x100, hi := 7, lo := 0, ty := .rw, stride := 0x4, count := 192, bad := [(0xC0, 0xFF)] }

/-- Every field of the crossbar page beyond the common header. -/
def Xbar.fields : List RegField :=
  [Xbar.XBAR_ENTRY_EN, Xbar.XBAR_ENTRY_SRC_DIE, Xbar.XBAR_ENTRY_SRC_MOD, Xbar.XBAR_ENTRY_SRC_GROUP]

/-- `GPIO_BANK.VCCO_BAD`, bits [31], of the die control page (21_electrical_package.md R589). -/
def DieCtl.GPIO_BANK_VCCO_BAD : RegField :=
  { off := 0x100, hi := 31, lo := 31, ty := .ro, stride := 0x4, count := 4 }

/-- `GPIO_BANK.DRIVE`, bits [9:8], of the die control page (21_electrical_package.md R589). -/
def DieCtl.GPIO_BANK_DRIVE : RegField :=
  { off := 0x100, hi := 9, lo := 8, ty := .rw, stride := 0x4, count := 4, bad := [(0x3, 0x3)] }

/-- `GPIO_BANK.VIO`, bits [2:0], of the die control page (21_electrical_package.md R589). -/
def DieCtl.GPIO_BANK_VIO : RegField :=
  { off := 0x100, hi := 2, lo := 0, ty := .rw, init := .val 0x2, stride := 0x4, count := 4, bad := [(0x5, 0x7)] }

/-- `INT_PENDING.PEND`, bits [31:0], of the die control page (02_register_conventions.md R54). -/
def DieCtl.INT_PENDING_PEND : RegField :=
  { off := 0x400, hi := 31, lo := 0, ty := .ro, stride := 0x4, count := 128 }

/-- Every field of the die control page beyond the common header. -/
def DieCtl.fields : List RegField :=
  [DieCtl.GPIO_BANK_VCCO_BAD, DieCtl.GPIO_BANK_DRIVE, DieCtl.GPIO_BANK_VIO, DieCtl.INT_PENDING_PEND]

/-- `INT_STATUS.CROSS_FAIL` of the crossing port page (05_span_crossings.md R163). -/
def Xport.INT_CROSS_FAIL : Nat := 16

/-- `INT_STATUS.SRC_DOWN` of the crossing port page (05_span_crossings.md R163). -/
def Xport.INT_SRC_DOWN : Nat := 17

/-- `INT_STATUS.FORCED_HOLD` of the crossing port page (05_span_crossings.md R163). -/
def Xport.INT_FORCED_HOLD : Nat := 18

/-- `INT_STATUS.SFIFO_ERR` of the crossing port page (05_span_crossings.md R163). -/
def Xport.INT_SFIFO_ERR : Nat := 19

/-- `STATUS.FORCED_HOLD`, bits [27:16], of the crossing port page (05_span_crossings.md R163). -/
def Xport.STATUS_FORCED_HOLD : RegField :=
  { off := 0x014, hi := 27, lo := 16, ty := .ro }

/-- `STATUS.SRC_DOWN`, bits [11:0], of the crossing port page (05_span_crossings.md R163). -/
def Xport.STATUS_SRC_DOWN : RegField :=
  { off := 0x014, hi := 11, lo := 0, ty := .ro }

/-- `XP_POLICY.HOLD`, bits [11:0], of the crossing port page (05_span_crossings.md R156). -/
def Xport.XP_POLICY_HOLD : RegField :=
  { off := 0x100, hi := 11, lo := 0, ty := .rw }

/-- `XP_FAIL.FRAMES`, bits [31:16], of the crossing port page (05_span_crossings.md R156). -/
def Xport.XP_FAIL_FRAMES : RegField :=
  { off := 0x140, hi := 31, lo := 16, ty := .pk, stride := 0x4, count := 12 }

/-- `XP_FAIL.RUN`, bits [7:0], of the crossing port page (05_span_crossings.md R156). -/
def Xport.XP_FAIL_RUN : RegField :=
  { off := 0x140, hi := 7, lo := 0, ty := .ro, stride := 0x4, count := 12 }

/-- `XP_LAST_FAIL.VALID`, bits [31], of the crossing port page (05_span_crossings.md R157). -/
def Xport.XP_LAST_FAIL_VALID : RegField :=
  { off := 0x180, hi := 31, lo := 31, ty := .w1c }

/-- `XP_LAST_FAIL.HUB_POISON`, bits [30], of the crossing port page (05_span_crossings.md R157). -/
def Xport.XP_LAST_FAIL_HUB_POISON : RegField :=
  { off := 0x180, hi := 30, lo := 30, ty := .ro }

/-- `XP_LAST_FAIL.SRC_DIE`, bits [26:24], of the crossing port page (05_span_crossings.md R157). -/
def Xport.XP_LAST_FAIL_SRC_DIE : RegField :=
  { off := 0x180, hi := 26, lo := 24, ty := .ro }

/-- `XP_LAST_FAIL.SRC_MOD`, bits [23:20], of the crossing port page (05_span_crossings.md R157). -/
def Xport.XP_LAST_FAIL_SRC_MOD : RegField :=
  { off := 0x180, hi := 23, lo := 20, ty := .ro }

/-- `XP_LAST_FAIL.MODULE`, bits [19:16], of the crossing port page (05_span_crossings.md R157). -/
def Xport.XP_LAST_FAIL_MODULE : RegField :=
  { off := 0x180, hi := 19, lo := 16, ty := .ro }

/-- `SFIFO_CTL.PEER_DIE`, bits [14:12], of the crossing port page (05_span_crossings.md R164). -/
def Xport.SFIFO_CTL_PEER_DIE : RegField :=
  { off := 0x200, hi := 14, lo := 12, ty := .ro, stride := 0x4, count := 16 }

/-- `SFIFO_CTL.PEER_PORT`, bits [11:8], of the crossing port page (05_span_crossings.md R164). -/
def Xport.SFIFO_CTL_PEER_PORT : RegField :=
  { off := 0x200, hi := 11, lo := 8, ty := .ro, stride := 0x4, count := 16 }

/-- `SFIFO_CTL.RESYNC`, bits [1], of the crossing port page (05_span_crossings.md R164). -/
def Xport.SFIFO_CTL_RESYNC : RegField :=
  { off := 0x200, hi := 1, lo := 1, ty := .wo, stride := 0x4, count := 16 }

/-- `SFIFO_CTL.EN`, bits [0], of the crossing port page (05_span_crossings.md R164). -/
def Xport.SFIFO_CTL_EN : RegField :=
  { off := 0x200, hi := 0, lo := 0, ty := .ro, stride := 0x4, count := 16 }

/-- `SFIFO_STATUS.ERROR`, bits [31], of the crossing port page (05_span_crossings.md R152). -/
def Xport.SFIFO_STATUS_ERROR : RegField :=
  { off := 0x240, hi := 31, lo := 31, ty := .ro, stride := 0x4, count := 16 }

/-- `SFIFO_STATUS.READY`, bits [30], of the crossing port page (05_span_crossings.md R152). -/
def Xport.SFIFO_STATUS_READY : RegField :=
  { off := 0x240, hi := 30, lo := 30, ty := .ro, stride := 0x4, count := 16 }

/-- `SFIFO_STATUS.CREDITS`, bits [21:16], of the crossing port page (05_span_crossings.md R152). -/
def Xport.SFIFO_STATUS_CREDITS : RegField :=
  { off := 0x240, hi := 21, lo := 16, ty := .ro, init := .val 0x20, stride := 0x4, count := 16 }

/-- `SFIFO_STATUS.RX_LEVEL`, bits [13:8], of the crossing port page (05_span_crossings.md R152). -/
def Xport.SFIFO_STATUS_RX_LEVEL : RegField :=
  { off := 0x240, hi := 13, lo := 8, ty := .ro, stride := 0x4, count := 16 }

/-- `SFIFO_STATUS.TX_LEVEL`, bits [4:0], of the crossing port page (05_span_crossings.md R152). -/
def Xport.SFIFO_STATUS_TX_LEVEL : RegField :=
  { off := 0x240, hi := 4, lo := 0, ty := .ro, stride := 0x4, count := 16 }

/-- `XP_POISON_TEST.MOD`, bits [19:16], of the crossing port page (05_span_crossings.md R164). -/
def Xport.XP_POISON_TEST_MOD : RegField :=
  { off := 0x800, hi := 19, lo := 16, ty := .rwx }

/-- `XP_POISON_TEST.COUNT`, bits [7:0], of the crossing port page (05_span_crossings.md R164). -/
def Xport.XP_POISON_TEST_COUNT : RegField :=
  { off := 0x800, hi := 7, lo := 0, ty := .rwx }

/-- Fields of the crossing port page, part 0. -/
def Xport.fields0 : List RegField :=
  [Xport.STATUS_FORCED_HOLD, Xport.STATUS_SRC_DOWN, Xport.XP_POLICY_HOLD, Xport.XP_FAIL_FRAMES,
   Xport.XP_FAIL_RUN, Xport.XP_LAST_FAIL_VALID, Xport.XP_LAST_FAIL_HUB_POISON, Xport.XP_LAST_FAIL_SRC_DIE,
   Xport.XP_LAST_FAIL_SRC_MOD, Xport.XP_LAST_FAIL_MODULE, Xport.SFIFO_CTL_PEER_DIE, Xport.SFIFO_CTL_PEER_PORT,
   Xport.SFIFO_CTL_RESYNC, Xport.SFIFO_CTL_EN, Xport.SFIFO_STATUS_ERROR, Xport.SFIFO_STATUS_READY,
   Xport.SFIFO_STATUS_CREDITS, Xport.SFIFO_STATUS_RX_LEVEL, Xport.SFIFO_STATUS_TX_LEVEL, Xport.XP_POISON_TEST_MOD]

/-- Fields of the crossing port page, part 1. -/
def Xport.fields1 : List RegField :=
  [Xport.XP_POISON_TEST_COUNT]

/-- Every field of the crossing port page beyond the common header. -/
def Xport.fields : List RegField :=
  Xport.fields0 ++ Xport.fields1

end Sys2Proof.Machine.Reg
end

