-- ==== Sys2Proof/Machine/RegsSector.lean ====
section
/-! DEFINITION. The register fields of the sector control, memory integrity and Spindle engine pages, one definition a field: offset, bits, type, reset value, stride and count of
an array, reserved encodings and home (R14 to R16; the retention of each home is R470). Transcribed from the register tables of the chapters. -/

namespace Sys2Proof.Machine.Reg

/-- `INT_STATUS.TRACK_STOP` of the sector control page (03_logic_fabric.md R109). -/
def Sctl.INT_TRACK_STOP : Nat := 16

/-- `INT_STATUS.GSR_RELEASED` of the sector control page (03_logic_fabric.md R109). -/
def Sctl.INT_GSR_RELEASED : Nat := 17

/-- `INT_STATUS.AUDIT_TRANSIENT` of the sector control page (03_logic_fabric.md R109). -/
def Sctl.INT_AUDIT_TRANSIENT : Nat := 18

/-- `INT_STATUS.AUDIT_LASTING` of the sector control page (03_logic_fabric.md R109). -/
def Sctl.INT_AUDIT_LASTING : Nat := 19

/-- `INT_STATUS.CAPTURED` of the sector control page (03_logic_fabric.md R109). -/
def Sctl.INT_CAPTURED : Nat := 20

/-- `CTL.GSR_FORCE`, bits [0], of the sector control page (03_logic_fabric.md R100). -/
def Sctl.CTL_GSR_FORCE : RegField :=
  { off := 0x010, hi := 0, lo := 0, ty := .rw }

/-- `STATUS.TRACK_RUN`, bits [31:16], of the sector control page (03_logic_fabric.md R97). -/
def Sctl.STATUS_TRACK_RUN : RegField :=
  { off := 0x014, hi := 31, lo := 16, ty := .ro }

/-- `STATUS.GSR_ACTIVE`, bits [1], of the sector control page (03_logic_fabric.md R97). -/
def Sctl.STATUS_GSR_ACTIVE : RegField :=
  { off := 0x014, hi := 1, lo := 1, ty := .ro, init := .val 0x1 }

/-- `STATUS.CONFIGURED`, bits [0], of the sector control page (03_logic_fabric.md R97). -/
def Sctl.STATUS_CONFIGURED : RegField :=
  { off := 0x014, hi := 0, lo := 0, ty := .ro }

/-- `SCTL_TRACK.RUNNING`, bits [17], of the sector control page (03_logic_fabric.md R96). -/
def Sctl.SCTL_TRACK_RUNNING : RegField :=
  { off := 0x100, hi := 17, lo := 17, ty := .ro, stride := 0x4, count := 16 }

/-- `SCTL_TRACK.SWITCHING`, bits [16], of the sector control page (03_logic_fabric.md R96). -/
def Sctl.SCTL_TRACK_SWITCHING : RegField :=
  { off := 0x100, hi := 16, lo := 16, ty := .ro, stride := 0x4, count := 16 }

/-- `SCTL_TRACK.FABRIC_CE`, bits [9], of the sector control page (03_logic_fabric.md R96). -/
def Sctl.SCTL_TRACK_FABRIC_CE : RegField :=
  { off := 0x100, hi := 9, lo := 9, ty := .rw, stride := 0x4, count := 16 }

/-- `SCTL_TRACK.EN`, bits [8], of the sector control page (03_logic_fabric.md R96). -/
def Sctl.SCTL_TRACK_EN : RegField :=
  { off := 0x100, hi := 8, lo := 8, ty := .rw, stride := 0x4, count := 16 }

/-- `SCTL_TRACK.SRC`, bits [4:0], of the sector control page (03_logic_fabric.md R96). -/
def Sctl.SCTL_TRACK_SRC : RegField :=
  { off := 0x100, hi := 4, lo := 0, ty := .rw, stride := 0x4, count := 16, bad := [(0x11, 0x1F)] }

/-- `SCTL_AUDIT_LAP.LAP_LAST`, bits [23:0], of the sector control page (14_configuration_boot.md R445). -/
def Sctl.SCTL_AUDIT_LAP_LAP_LAST : RegField :=
  { off := 0x300, hi := 23, lo := 0, ty := .ro }

/-- `SCTL_AUDIT_ERR.VALID`, bits [31], of the sector control page (14_configuration_boot.md R447). -/
def Sctl.SCTL_AUDIT_ERR_VALID : RegField :=
  { off := 0x304, hi := 31, lo := 31, ty := .w1c }

/-- `SCTL_AUDIT_ERR.KIND`, bits [29:28], of the sector control page (14_configuration_boot.md R447). -/
def Sctl.SCTL_AUDIT_ERR_KIND : RegField :=
  { off := 0x304, hi := 29, lo := 28, ty := .ro }

/-- `SCTL_AUDIT_ERR.TILE`, bits [7:0], of the sector control page (14_configuration_boot.md R447). -/
def Sctl.SCTL_AUDIT_ERR_TILE : RegField :=
  { off := 0x304, hi := 7, lo := 0, ty := .ro }

/-- `SCTL_AUDIT_CNT.TRANSIENT`, bits [31:16], of the sector control page (14_configuration_boot.md R447). -/
def Sctl.SCTL_AUDIT_CNT_TRANSIENT : RegField :=
  { off := 0x308, hi := 31, lo := 16, ty := .pk }

/-- `SCTL_AUDIT_CNT.LAPS`, bits [15:0], of the sector control page (14_configuration_boot.md R447). -/
def Sctl.SCTL_AUDIT_CNT_LAPS : RegField :=
  { off := 0x308, hi := 15, lo := 0, ty := .ro }

/-- `SCTL_AUDIT_SIG.SIG`, bits [31:0], of the sector control page (14_configuration_boot.md R445). -/
def Sctl.SCTL_AUDIT_SIG_SIG : RegField :=
  { off := 0x30C, hi := 31, lo := 0, ty := .ro }

/-- `SCTL_CAP_CTL.RESUME`, bits [16], of the sector control page (17_debug_run_control.md R517). -/
def Sctl.SCTL_CAP_CTL_RESUME : RegField :=
  { off := 0x400, hi := 16, lo := 16, ty := .wo }

/-- `SCTL_CAP_CTL.TRACK`, bits [11:8], of the sector control page (17_debug_run_control.md R517). -/
def Sctl.SCTL_CAP_CTL_TRACK : RegField :=
  { off := 0x400, hi := 11, lo := 8, ty := .rw }

/-- `SCTL_CAP_CTL.TRIG`, bits [5:4], of the sector control page (17_debug_run_control.md R517). -/
def Sctl.SCTL_CAP_CTL_TRIG : RegField :=
  { off := 0x400, hi := 5, lo := 4, ty := .rw, bad := [(0x3, 0x3)] }

/-- `SCTL_CAP_CTL.STOP`, bits [1], of the sector control page (17_debug_run_control.md R517). -/
def Sctl.SCTL_CAP_CTL_STOP : RegField :=
  { off := 0x400, hi := 1, lo := 1, ty := .rw }

/-- `SCTL_CAP_CTL.ARM`, bits [0], of the sector control page (17_debug_run_control.md R517). -/
def Sctl.SCTL_CAP_CTL_ARM : RegField :=
  { off := 0x400, hi := 0, lo := 0, ty := .rw }

/-- `SCTL_CAP_AT_LO.AT`, bits [31:0], of the sector control page (17_debug_run_control.md R517). -/
def Sctl.SCTL_CAP_AT_LO_AT : RegField :=
  { off := 0x404, hi := 31, lo := 0, ty := .rw }

/-- `SCTL_CAP_AT_HI.AT`, bits [31:0], of the sector control page (17_debug_run_control.md R517). -/
def Sctl.SCTL_CAP_AT_HI_AT : RegField :=
  { off := 0x408, hi := 31, lo := 0, ty := .rw }

/-- `SCTL_CAP_STAT.VALID`, bits [31], of the sector control page (17_debug_run_control.md R519). -/
def Sctl.SCTL_CAP_STAT_VALID : RegField :=
  { off := 0x40C, hi := 31, lo := 31, ty := .ro }

/-- `SCTL_CAP_STAT.STOPPED`, bits [30], of the sector control page (17_debug_run_control.md R519). -/
def Sctl.SCTL_CAP_STAT_STOPPED : RegField :=
  { off := 0x40C, hi := 30, lo := 30, ty := .ro }

/-- `SCTL_CAP_STAT.GSR`, bits [29], of the sector control page (17_debug_run_control.md R519). -/
def Sctl.SCTL_CAP_STAT_GSR : RegField :=
  { off := 0x40C, hi := 29, lo := 29, ty := .ro }

/-- `SCTL_CAP_STAT.ARMED`, bits [28], of the sector control page (17_debug_run_control.md R519). -/
def Sctl.SCTL_CAP_STAT_ARMED : RegField :=
  { off := 0x40C, hi := 28, lo := 28, ty := .ro }

/-- `SCTL_CAP_SPAN_LO.SPAN`, bits [31:0], of the sector control page (17_debug_run_control.md R519). -/
def Sctl.SCTL_CAP_SPAN_LO_SPAN : RegField :=
  { off := 0x410, hi := 31, lo := 0, ty := .ro }

/-- `SCTL_CAP_SPAN_HI.SPAN`, bits [31:0], of the sector control page (17_debug_run_control.md R519). -/
def Sctl.SCTL_CAP_SPAN_HI_SPAN : RegField :=
  { off := 0x414, hi := 31, lo := 0, ty := .ro }

/-- `SCTL_CAP_ADDR.UNIT`, bits [15:8], of the sector control page (17_debug_run_control.md R520). -/
def Sctl.SCTL_CAP_ADDR_UNIT : RegField :=
  { off := 0x420, hi := 15, lo := 8, ty := .rw, bad := [(0xA0, 0xFF)] }

/-- `SCTL_CAP_ADDR.WORD`, bits [4:0], of the sector control page (17_debug_run_control.md R520). -/
def Sctl.SCTL_CAP_ADDR_WORD : RegField :=
  { off := 0x420, hi := 4, lo := 0, ty := .rw }

/-- `SCTL_CAP_DATA.DATA`, bits [31:0], of the sector control page (17_debug_run_control.md R520). -/
def Sctl.SCTL_CAP_DATA_DATA : RegField :=
  { off := 0x424, hi := 31, lo := 0, ty := .ro }

/-- `SCTL_QSTAT.EMPTY`, bits [31], of the sector control page (06_on_chip_memories.md R191). -/
def Sctl.SCTL_QSTAT_EMPTY : RegField :=
  { off := 0x500, hi := 31, lo := 31, ty := .ro, init := .val 0x1, stride := 0x4, count := 15 }

/-- `SCTL_QSTAT.FULL`, bits [30], of the sector control page (06_on_chip_memories.md R191). -/
def Sctl.SCTL_QSTAT_FULL : RegField :=
  { off := 0x500, hi := 30, lo := 30, ty := .ro, init := .val 0x1, stride := 0x4, count := 15 }

/-- `SCTL_QSTAT.OVF`, bits [29], of the sector control page (06_on_chip_memories.md R191). -/
def Sctl.SCTL_QSTAT_OVF : RegField :=
  { off := 0x500, hi := 29, lo := 29, ty := .w1c, stride := 0x4, count := 15 }

/-- `SCTL_QSTAT.UDF`, bits [28], of the sector control page (06_on_chip_memories.md R191). -/
def Sctl.SCTL_QSTAT_UDF : RegField :=
  { off := 0x500, hi := 28, lo := 28, ty := .w1c, stride := 0x4, count := 15 }

/-- `SCTL_QSTAT.LEVEL`, bits [13:0], of the sector control page (06_on_chip_memories.md R191). -/
def Sctl.SCTL_QSTAT_LEVEL : RegField :=
  { off := 0x500, hi := 13, lo := 0, ty := .ro, stride := 0x4, count := 15 }

/-- `SCTL_BKB_STALL.B_STALLS`, bits [31:16], of the sector control page (06_on_chip_memories.md R181). -/
def Sctl.SCTL_BKB_STALL_B_STALLS : RegField :=
  { off := 0x540, hi := 31, lo := 16, ty := .pk, stride := 0x4, count := 5 }

/-- `SCTL_BKB_STALL.A_STALLS`, bits [15:0], of the sector control page (06_on_chip_memories.md R181). -/
def Sctl.SCTL_BKB_STALL_A_STALLS : RegField :=
  { off := 0x540, hi := 15, lo := 0, ty := .pk, stride := 0x4, count := 5 }

/-- `SCTL_DPB_BUSY.COMPAT_OFF`, bits [31], of the sector control page (06_on_chip_memories.md R177). -/
def Sctl.SCTL_DPB_BUSY_COMPAT_OFF : RegField :=
  { off := 0x560, hi := 31, lo := 31, ty := .ro, stride := 0x4, count := 10 }

/-- `SCTL_DPB_BUSY.COUNT`, bits [15:0], of the sector control page (06_on_chip_memories.md R177). -/
def Sctl.SCTL_DPB_BUSY_COUNT : RegField :=
  { off := 0x560, hi := 15, lo := 0, ty := .pk, stride := 0x4, count := 10 }

/-- `SCTL_DSP_OV.OV`, bits [31:0], of the sector control page (08_dsp_slices.md R250). -/
def Sctl.SCTL_DSP_OV_OV : RegField :=
  { off := 0x600, hi := 31, lo := 0, ty := .ro }

/-- `SCTL_DSP_LIM.LIM`, bits [31:0], of the sector control page (08_dsp_slices.md R250). -/
def Sctl.SCTL_DSP_LIM_LIM : RegField :=
  { off := 0x604, hi := 31, lo := 0, ty := .w1c }

/-- `SCTL_DSP_PSAT.PSAT`, bits [31:0], of the sector control page (08_dsp_slices.md R250). -/
def Sctl.SCTL_DSP_PSAT_PSAT : RegField :=
  { off := 0x608, hi := 31, lo := 0, ty := .w1c }

/-- `SCTL_DSP_ACTIVE.USE`, bits [31:0], of the sector control page (08_dsp_slices.md R250). -/
def Sctl.SCTL_DSP_ACTIVE_USE : RegField :=
  { off := 0x60C, hi := 31, lo := 0, ty := .ro }

/-- `SCTL_SPAN_TRIM.SKEW_TRIM`, bits [5:0], of the sector control page (03_logic_fabric.md R110). -/
def Sctl.SCTL_SPAN_TRIM_SKEW_TRIM : RegField :=
  { off := 0x800, hi := 5, lo := 0, ty := .rwx, init := .val 0x20 }

/-- `SCTL_AUDIT_TEST.TILE`, bits [15:8], of the sector control page (14_configuration_boot.md R447). -/
def Sctl.SCTL_AUDIT_TEST_TILE : RegField :=
  { off := 0x804, hi := 15, lo := 8, ty := .rwx, bad := [(0x81, 0xFF)] }

/-- `SCTL_AUDIT_TEST.FLIP_ONCE`, bits [0], of the sector control page (14_configuration_boot.md R447). -/
def Sctl.SCTL_AUDIT_TEST_FLIP_ONCE : RegField :=
  { off := 0x804, hi := 0, lo := 0, ty := .rwx }

/-- Fields of the sector control page, part 0. -/
def Sctl.fields0 : List RegField :=
  [Sctl.CTL_GSR_FORCE, Sctl.STATUS_TRACK_RUN, Sctl.STATUS_GSR_ACTIVE, Sctl.STATUS_CONFIGURED,
   Sctl.SCTL_TRACK_RUNNING, Sctl.SCTL_TRACK_SWITCHING, Sctl.SCTL_TRACK_FABRIC_CE, Sctl.SCTL_TRACK_EN,
   Sctl.SCTL_TRACK_SRC, Sctl.SCTL_AUDIT_LAP_LAP_LAST, Sctl.SCTL_AUDIT_ERR_VALID, Sctl.SCTL_AUDIT_ERR_KIND,
   Sctl.SCTL_AUDIT_ERR_TILE, Sctl.SCTL_AUDIT_CNT_TRANSIENT, Sctl.SCTL_AUDIT_CNT_LAPS, Sctl.SCTL_AUDIT_SIG_SIG,
   Sctl.SCTL_CAP_CTL_RESUME, Sctl.SCTL_CAP_CTL_TRACK, Sctl.SCTL_CAP_CTL_TRIG, Sctl.SCTL_CAP_CTL_STOP]

/-- Fields of the sector control page, part 1. -/
def Sctl.fields1 : List RegField :=
  [Sctl.SCTL_CAP_CTL_ARM, Sctl.SCTL_CAP_AT_LO_AT, Sctl.SCTL_CAP_AT_HI_AT, Sctl.SCTL_CAP_STAT_VALID,
   Sctl.SCTL_CAP_STAT_STOPPED, Sctl.SCTL_CAP_STAT_GSR, Sctl.SCTL_CAP_STAT_ARMED, Sctl.SCTL_CAP_SPAN_LO_SPAN,
   Sctl.SCTL_CAP_SPAN_HI_SPAN, Sctl.SCTL_CAP_ADDR_UNIT, Sctl.SCTL_CAP_ADDR_WORD, Sctl.SCTL_CAP_DATA_DATA,
   Sctl.SCTL_QSTAT_EMPTY, Sctl.SCTL_QSTAT_FULL, Sctl.SCTL_QSTAT_OVF, Sctl.SCTL_QSTAT_UDF,
   Sctl.SCTL_QSTAT_LEVEL, Sctl.SCTL_BKB_STALL_B_STALLS, Sctl.SCTL_BKB_STALL_A_STALLS, Sctl.SCTL_DPB_BUSY_COMPAT_OFF]

/-- Fields of the sector control page, part 2. -/
def Sctl.fields2 : List RegField :=
  [Sctl.SCTL_DPB_BUSY_COUNT, Sctl.SCTL_DSP_OV_OV, Sctl.SCTL_DSP_LIM_LIM, Sctl.SCTL_DSP_PSAT_PSAT,
   Sctl.SCTL_DSP_ACTIVE_USE, Sctl.SCTL_SPAN_TRIM_SKEW_TRIM, Sctl.SCTL_AUDIT_TEST_TILE, Sctl.SCTL_AUDIT_TEST_FLIP_ONCE]

/-- Every field of the sector control page beyond the common header. -/
def Sctl.fields : List RegField :=
  Sctl.fields0 ++ Sctl.fields1 ++ Sctl.fields2

/-- `INT_STATUS.CORRECTED` of the memory integrity page (07_memory_integrity.md R225). -/
def Mi.INT_CORRECTED : Nat := 16

/-- `INT_STATUS.UNCORRECTABLE` of the memory integrity page (07_memory_integrity.md R225). -/
def Mi.INT_UNCORRECTABLE : Nat := 17

/-- `INT_STATUS.LASTING` of the memory integrity page (07_memory_integrity.md R225). -/
def Mi.INT_LASTING : Nat := 18

/-- `INT_STATUS.WORD_LOST` of the memory integrity page (07_memory_integrity.md R225). -/
def Mi.INT_WORD_LOST : Nat := 19

/-- `INT_STATUS.REMAP_FULL` of the memory integrity page (07_memory_integrity.md R225). -/
def Mi.INT_REMAP_FULL : Nat := 20

/-- `INT_STATUS.SLOW_LAP` of the memory integrity page (07_memory_integrity.md R225). -/
def Mi.INT_SLOW_LAP : Nat := 21

/-- `INT_STATUS.TMR_FIX` of the memory integrity page (07_memory_integrity.md R225). -/
def Mi.INT_TMR_FIX : Nat := 22

/-- `MI_SCR_CTL.PACE`, bits [7:4], of the memory integrity page (07_memory_integrity.md R215). -/
def Mi.MI_SCR_CTL_PACE : RegField :=
  { off := 0x100, hi := 7, lo := 4, ty := .rw, init := .val 0xA }

/-- `MI_SCR_CTL.EN`, bits [0], of the memory integrity page (07_memory_integrity.md R215). -/
def Mi.MI_SCR_CTL_EN : RegField :=
  { off := 0x100, hi := 0, lo := 0, ty := .rw, init := .val 0x1 }

/-- `MI_LAP_LIMIT.LIMIT`, bits [23:0], of the memory integrity page (07_memory_integrity.md R216). -/
def Mi.MI_LAP_LIMIT_LIMIT : RegField :=
  { off := 0x104, hi := 23, lo := 0, ty := .rw, init := .val 0x2710 }

/-- `MI_TMR_FIX.COUNT`, bits [15:0], of the memory integrity page (07_memory_integrity.md R222). -/
def Mi.MI_TMR_FIX_COUNT : RegField :=
  { off := 0x108, hi := 15, lo := 0, ty := .pk }

/-- `MI_BLK0.SLOW`, bits [31], of the memory integrity page (07_memory_integrity.md R216). -/
def Mi.MI_BLK0_SLOW : RegField :=
  { off := 0x200, hi := 31, lo := 31, ty := .w1c, stride := 0x10, count := 15 }

/-- `MI_BLK0.LAP_LAST`, bits [23:0], of the memory integrity page (07_memory_integrity.md R216). -/
def Mi.MI_BLK0_LAP_LAST : RegField :=
  { off := 0x200, hi := 23, lo := 0, ty := .ro, stride := 0x10, count := 15 }

/-- `MI_BLK1.LAP_MAX`, bits [23:0], of the memory integrity page (07_memory_integrity.md R216). -/
def Mi.MI_BLK1_LAP_MAX : RegField :=
  { off := 0x204, hi := 23, lo := 0, ty := .pk, stride := 0x10, count := 15 }

/-- `MI_BLK2.TRANSIENT`, bits [31:16], of the memory integrity page (07_memory_integrity.md R210). -/
def Mi.MI_BLK2_TRANSIENT : RegField :=
  { off := 0x208, hi := 31, lo := 16, ty := .pk, stride := 0x10, count := 15 }

/-- `MI_BLK2.LASTING`, bits [15:8], of the memory integrity page (07_memory_integrity.md R210). -/
def Mi.MI_BLK2_LASTING : RegField :=
  { off := 0x208, hi := 15, lo := 8, ty := .ro, stride := 0x10, count := 15 }

/-- `MI_BLK2.LOST`, bits [7:4], of the memory integrity page (07_memory_integrity.md R210). -/
def Mi.MI_BLK2_LOST : RegField :=
  { off := 0x208, hi := 7, lo := 4, ty := .ro, stride := 0x10, count := 15 }

/-- `MI_BLK2.REPAIR_DROP`, bits [3:0], of the memory integrity page (07_memory_integrity.md R210). -/
def Mi.MI_BLK2_REPAIR_DROP : RegField :=
  { off := 0x208, hi := 3, lo := 0, ty := .ro, stride := 0x10, count := 15 }

/-- `MI_BLK3.VALID`, bits [31], of the memory integrity page (07_memory_integrity.md R203). -/
def Mi.MI_BLK3_VALID : RegField :=
  { off := 0x20C, hi := 31, lo := 31, ty := .w1c, stride := 0x10, count := 15 }

/-- `MI_BLK3.KIND`, bits [29:28], of the memory integrity page (07_memory_integrity.md R203). -/
def Mi.MI_BLK3_KIND : RegField :=
  { off := 0x20C, hi := 29, lo := 28, ty := .ro, stride := 0x10, count := 15 }

/-- `MI_BLK3.BANK`, bits [26:24], of the memory integrity page (07_memory_integrity.md R203). -/
def Mi.MI_BLK3_BANK : RegField :=
  { off := 0x20C, hi := 26, lo := 24, ty := .ro, stride := 0x10, count := 15 }

/-- `MI_BLK3.SYNDROME`, bits [23:16], of the memory integrity page (07_memory_integrity.md R203). -/
def Mi.MI_BLK3_SYNDROME : RegField :=
  { off := 0x20C, hi := 23, lo := 16, ty := .ro, stride := 0x10, count := 15 }

/-- `MI_BLK3.PARITY`, bits [10], of the memory integrity page (07_memory_integrity.md R203). -/
def Mi.MI_BLK3_PARITY : RegField :=
  { off := 0x20C, hi := 10, lo := 10, ty := .ro, stride := 0x10, count := 15 }

/-- `MI_BLK3.WORD`, bits [9:0], of the memory integrity page (07_memory_integrity.md R203). -/
def Mi.MI_BLK3_WORD : RegField :=
  { off := 0x20C, hi := 9, lo := 0, ty := .ro, stride := 0x10, count := 15 }

/-- `MI_REMAP.VALID`, bits [31], of the memory integrity page (07_memory_integrity.md R218). -/
def Mi.MI_REMAP_VALID : RegField :=
  { off := 0x300, hi := 31, lo := 31, ty := .ro, stride := 0x4, count := 200, home := .ledger }

/-- `MI_REMAP.RETIRED`, bits [30], of the memory integrity page (07_memory_integrity.md R218). -/
def Mi.MI_REMAP_RETIRED : RegField :=
  { off := 0x300, hi := 30, lo := 30, ty := .ro, stride := 0x4, count := 200, home := .ledger }

/-- `MI_REMAP.PARITY`, bits [10], of the memory integrity page (07_memory_integrity.md R218). -/
def Mi.MI_REMAP_PARITY : RegField :=
  { off := 0x300, hi := 10, lo := 10, ty := .ro, stride := 0x4, count := 200, home := .ledger }

/-- `MI_REMAP.WORD`, bits [9:0], of the memory integrity page (07_memory_integrity.md R218). -/
def Mi.MI_REMAP_WORD : RegField :=
  { off := 0x300, hi := 9, lo := 0, ty := .ro, stride := 0x4, count := 200, home := .ledger }

/-- `MI_TEST_ADDR.BLOCK`, bits [19:16], of the memory integrity page (07_memory_integrity.md R223). -/
def Mi.MI_TEST_ADDR_BLOCK : RegField :=
  { off := 0x800, hi := 19, lo := 16, ty := .rwx, bad := [(0xF, 0xF)] }

/-- `MI_TEST_ADDR.ADDR`, bits [14:0], of the memory integrity page (07_memory_integrity.md R223). -/
def Mi.MI_TEST_ADDR_ADDR : RegField :=
  { off := 0x800, hi := 14, lo := 0, ty := .rwx }

/-- `MI_TEST_DATA_LO.DATA`, bits [31:0], of the memory integrity page (07_memory_integrity.md R223). -/
def Mi.MI_TEST_DATA_LO_DATA : RegField :=
  { off := 0x804, hi := 31, lo := 0, ty := .rwx }

/-- `MI_TEST_DATA_HI.DATA`, bits [31:0], of the memory integrity page (07_memory_integrity.md R223). -/
def Mi.MI_TEST_DATA_HI_DATA : RegField :=
  { off := 0x808, hi := 31, lo := 0, ty := .rwx }

/-- `MI_TEST_CMD.CMD`, bits [1:0], of the memory integrity page (07_memory_integrity.md R223). -/
def Mi.MI_TEST_CMD_CMD : RegField :=
  { off := 0x80C, hi := 1, lo := 0, ty := .wo, bad := [(0x3, 0x3)] }

/-- `MI_TEST_STAT.BUSY`, bits [31], of the memory integrity page (07_memory_integrity.md R223). -/
def Mi.MI_TEST_STAT_BUSY : RegField :=
  { off := 0x810, hi := 31, lo := 31, ty := .ro }

/-- `MI_TEST_STAT.FAULT`, bits [30], of the memory integrity page (07_memory_integrity.md R223). -/
def Mi.MI_TEST_STAT_FAULT : RegField :=
  { off := 0x810, hi := 30, lo := 30, ty := .ro }

/-- `MI_TEST_STAT.CSTAT`, bits [9:8], of the memory integrity page (07_memory_integrity.md R223). -/
def Mi.MI_TEST_STAT_CSTAT : RegField :=
  { off := 0x810, hi := 9, lo := 8, ty := .ro }

/-- `MI_TEST_STAT.CHECK`, bits [7:0], of the memory integrity page (07_memory_integrity.md R223). -/
def Mi.MI_TEST_STAT_CHECK : RegField :=
  { off := 0x810, hi := 7, lo := 0, ty := .ro }

/-- `MI_FLIP_DATA_LO.MASK`, bits [31:0], of the memory integrity page (07_memory_integrity.md R224). -/
def Mi.MI_FLIP_DATA_LO_MASK : RegField :=
  { off := 0x820, hi := 31, lo := 0, ty := .rwx }

/-- `MI_FLIP_DATA_HI.MASK`, bits [31:0], of the memory integrity page (07_memory_integrity.md R224). -/
def Mi.MI_FLIP_DATA_HI_MASK : RegField :=
  { off := 0x824, hi := 31, lo := 0, ty := .rwx }

/-- `MI_FLIP_CTL.BLOCK`, bits [19:16], of the memory integrity page (07_memory_integrity.md R224). -/
def Mi.MI_FLIP_CTL_BLOCK : RegField :=
  { off := 0x828, hi := 19, lo := 16, ty := .rwx }

/-- `MI_FLIP_CTL.CHECK_MASK`, bits [15:8], of the memory integrity page (07_memory_integrity.md R224). -/
def Mi.MI_FLIP_CTL_CHECK_MASK : RegField :=
  { off := 0x828, hi := 15, lo := 8, ty := .rwx }

/-- `MI_FLIP_CTL.SRC`, bits [1], of the memory integrity page (07_memory_integrity.md R224). -/
def Mi.MI_FLIP_CTL_SRC : RegField :=
  { off := 0x828, hi := 1, lo := 1, ty := .rwx }

/-- `MI_FLIP_CTL.ARM`, bits [0], of the memory integrity page (07_memory_integrity.md R224). -/
def Mi.MI_FLIP_CTL_ARM : RegField :=
  { off := 0x828, hi := 0, lo := 0, ty := .rwx }

/-- Fields of the memory integrity page, part 0. -/
def Mi.fields0 : List RegField :=
  [Mi.MI_SCR_CTL_PACE, Mi.MI_SCR_CTL_EN, Mi.MI_LAP_LIMIT_LIMIT, Mi.MI_TMR_FIX_COUNT,
   Mi.MI_BLK0_SLOW, Mi.MI_BLK0_LAP_LAST, Mi.MI_BLK1_LAP_MAX, Mi.MI_BLK2_TRANSIENT,
   Mi.MI_BLK2_LASTING, Mi.MI_BLK2_LOST, Mi.MI_BLK2_REPAIR_DROP, Mi.MI_BLK3_VALID,
   Mi.MI_BLK3_KIND, Mi.MI_BLK3_BANK, Mi.MI_BLK3_SYNDROME, Mi.MI_BLK3_PARITY,
   Mi.MI_BLK3_WORD, Mi.MI_REMAP_VALID, Mi.MI_REMAP_RETIRED, Mi.MI_REMAP_PARITY]

/-- Fields of the memory integrity page, part 1. -/
def Mi.fields1 : List RegField :=
  [Mi.MI_REMAP_WORD, Mi.MI_TEST_ADDR_BLOCK, Mi.MI_TEST_ADDR_ADDR, Mi.MI_TEST_DATA_LO_DATA,
   Mi.MI_TEST_DATA_HI_DATA, Mi.MI_TEST_CMD_CMD, Mi.MI_TEST_STAT_BUSY, Mi.MI_TEST_STAT_FAULT,
   Mi.MI_TEST_STAT_CSTAT, Mi.MI_TEST_STAT_CHECK, Mi.MI_FLIP_DATA_LO_MASK, Mi.MI_FLIP_DATA_HI_MASK,
   Mi.MI_FLIP_CTL_BLOCK, Mi.MI_FLIP_CTL_CHECK_MASK, Mi.MI_FLIP_CTL_SRC, Mi.MI_FLIP_CTL_ARM]

/-- Every field of the memory integrity page beyond the common header. -/
def Mi.fields : List RegField :=
  Mi.fields0 ++ Mi.fields1

/-- `INT_STATUS.HALTED` of the engine page 0 (09_spindle_engines.md R290). -/
def Eng0.INT_HALTED : Nat := 16

/-- `INT_STATUS.FATAL` of the engine page 0 (09_spindle_engines.md R290). -/
def Eng0.INT_FATAL : Nat := 17

/-- `INT_STATUS.WDT_ACTION` of the engine page 0 (09_spindle_engines.md R290). -/
def Eng0.INT_WDT_ACTION : Nat := 18

/-- `INT_STATUS.LOCKSTEP` of the engine page 0 (09_spindle_engines.md R290). -/
def Eng0.INT_LOCKSTEP : Nat := 19

/-- `INT_STATUS.SUBST_DONE` of the engine page 0 (09_spindle_engines.md R290). -/
def Eng0.INT_SUBST_DONE : Nat := 20

/-- `INT_STATUS.RF_CORRECTED` of the engine page 0 (09_spindle_engines.md R290). -/
def Eng0.INT_RF_CORRECTED : Nat := 21

/-- `INT_STATUS.LOST` of the engine page 0 (09_spindle_engines.md R290). -/
def Eng0.INT_LOST : Nat := 22

/-- `CTL.SUBST`, bits [9], of the engine page 0 (09_spindle_engines.md R283). -/
def Eng0.CTL_SUBST : RegField :=
  { off := 0x010, hi := 9, lo := 9, ty := .wo }

/-- `CTL.LOCKSTEP`, bits [8], of the engine page 0 (09_spindle_engines.md R283). -/
def Eng0.CTL_LOCKSTEP : RegField :=
  { off := 0x010, hi := 8, lo := 8, ty := .rw }

/-- `CTL.EBREAK_HALT`, bits [6], of the engine page 0 (09_spindle_engines.md R283). -/
def Eng0.CTL_EBREAK_HALT : RegField :=
  { off := 0x010, hi := 6, lo := 6, ty := .rw }

/-- `CTL.IMEM_WR`, bits [5], of the engine page 0 (09_spindle_engines.md R283). -/
def Eng0.CTL_IMEM_WR : RegField :=
  { off := 0x010, hi := 5, lo := 5, ty := .rw }

/-- `CTL.AUTORUN`, bits [4], of the engine page 0 (09_spindle_engines.md R283). -/
def Eng0.CTL_AUTORUN : RegField :=
  { off := 0x010, hi := 4, lo := 4, ty := .rw }

/-- `CTL.RESET`, bits [2], of the engine page 0 (09_spindle_engines.md R283). -/
def Eng0.CTL_RESET : RegField :=
  { off := 0x010, hi := 2, lo := 2, ty := .wo }

/-- `CTL.HALT`, bits [1], of the engine page 0 (09_spindle_engines.md R283). -/
def Eng0.CTL_HALT : RegField :=
  { off := 0x010, hi := 1, lo := 1, ty := .wo }

/-- `CTL.RUN`, bits [0], of the engine page 0 (09_spindle_engines.md R283). -/
def Eng0.CTL_RUN : RegField :=
  { off := 0x010, hi := 0, lo := 0, ty := .wo }

/-- `STATUS.PHYS`, bits [12:8], of the engine page 0 (09_spindle_engines.md R282). -/
def Eng0.STATUS_PHYS : RegField :=
  { off := 0x014, hi := 12, lo := 8, ty := .ro, home := .ledger }

/-- `STATUS.PAIRED`, bits [4], of the engine page 0 (09_spindle_engines.md R282). -/
def Eng0.STATUS_PAIRED : RegField :=
  { off := 0x014, hi := 4, lo := 4, ty := .ro }

/-- `STATUS.STATE`, bits [3:0], of the engine page 0 (09_spindle_engines.md R282). -/
def Eng0.STATUS_STATE : RegField :=
  { off := 0x014, hi := 3, lo := 0, ty := .ro }

/-- `ENG_BOOT_PC.PC`, bits [31:1], of the engine page 0 (09_spindle_engines.md R289). -/
def Eng0.ENG_BOOT_PC_PC : RegField :=
  { off := 0x100, hi := 31, lo := 1, ty := .rw }

/-- `ENG_PC.PC`, bits [31:0], of the engine page 0 (09_spindle_engines.md R283). -/
def Eng0.ENG_PC_PC : RegField :=
  { off := 0x104, hi := 31, lo := 0, ty := .ro }

/-- `ENG_CAUSE.CAUSE`, bits [3:0], of the engine page 0 (09_spindle_engines.md R283). -/
def Eng0.ENG_CAUSE_CAUSE : RegField :=
  { off := 0x108, hi := 3, lo := 0, ty := .ro }

/-- `ENG_FREEZE.FREEZE`, bits [3:0], of the engine page 0 (09_spindle_engines.md R276). -/
def Eng0.ENG_FREEZE_FREEZE : RegField :=
  { off := 0x10C, hi := 3, lo := 0, ty := .rw, init := .val 0x7 }

/-- `ENG_CLK.DIV`, bits [1:0], of the engine page 0 (09_spindle_engines.md R254). -/
def Eng0.ENG_CLK_DIV : RegField :=
  { off := 0x110, hi := 1, lo := 0, ty := .rw }

/-- `ENG_RF_ERR.TRANSIENT`, bits [31:16], of the engine page 0 (09_spindle_engines.md R264). -/
def Eng0.ENG_RF_ERR_TRANSIENT : RegField :=
  { off := 0x114, hi := 31, lo := 16, ty := .pk }

/-- `ENG_RF_ERR.LASTING`, bits [7:0], of the engine page 0 (09_spindle_engines.md R264). -/
def Eng0.ENG_RF_ERR_LASTING : RegField :=
  { off := 0x114, hi := 7, lo := 0, ty := .ro }

/-- `ENG_WIN_ERR.VALID`, bits [31], of the engine page 0 (09_spindle_engines.md R266). -/
def Eng0.ENG_WIN_ERR_VALID : RegField :=
  { off := 0x118, hi := 31, lo := 31, ty := .w1c }

/-- `ENG_WIN_ERR.RESP`, bits [26:24], of the engine page 0 (09_spindle_engines.md R266). -/
def Eng0.ENG_WIN_ERR_RESP : RegField :=
  { off := 0x118, hi := 26, lo := 24, ty := .ro }

/-- `ENG_WIN_ERR.WIN`, bits [17:16], of the engine page 0 (09_spindle_engines.md R266). -/
def Eng0.ENG_WIN_ERR_WIN : RegField :=
  { off := 0x118, hi := 17, lo := 16, ty := .ro }

/-- `ENG_WIN_ERR.STORE`, bits [0], of the engine page 0 (09_spindle_engines.md R266). -/
def Eng0.ENG_WIN_ERR_STORE : RegField :=
  { off := 0x118, hi := 0, lo := 0, ty := .ro }

/-- `ENG_WIN_CTL.EN`, bits [31], of the engine page 0 (09_spindle_engines.md R265). -/
def Eng0.ENG_WIN_CTL_EN : RegField :=
  { off := 0x140, hi := 31, lo := 31, ty := .rw, stride := 0x8, count := 4 }

/-- `ENG_WIN_CTL.PRIO`, bits [17:16], of the engine page 0 (09_spindle_engines.md R265). -/
def Eng0.ENG_WIN_CTL_PRIO : RegField :=
  { off := 0x140, hi := 17, lo := 16, ty := .rw, init := .val 0x1, stride := 0x8, count := 4 }

/-- `ENG_WIN_CTL.DEST`, bits [10:0], of the engine page 0 (09_spindle_engines.md R265). -/
def Eng0.ENG_WIN_CTL_DEST : RegField :=
  { off := 0x140, hi := 10, lo := 0, ty := .rw, stride := 0x8, count := 4 }

/-- `ENG_WIN_BASE.BASE`, bits [19:0], of the engine page 0 (09_spindle_engines.md R265). -/
def Eng0.ENG_WIN_BASE_BASE : RegField :=
  { off := 0x144, hi := 19, lo := 0, ty := .rw, stride := 0x8, count := 4 }

/-- `ENG_DBG_CTL.XTRIG_OUT`, bits [9], of the engine page 0 (17_debug_run_control.md R510). -/
def Eng0.ENG_DBG_CTL_XTRIG_OUT : RegField :=
  { off := 0x400, hi := 9, lo := 9, ty := .rw }

/-- `ENG_DBG_CTL.STEP_IRQ`, bits [8], of the engine page 0 (17_debug_run_control.md R510). -/
def Eng0.ENG_DBG_CTL_STEP_IRQ : RegField :=
  { off := 0x400, hi := 8, lo := 8, ty := .rw }

/-- `ENG_DBG_CTL.STEP`, bits [2], of the engine page 0 (17_debug_run_control.md R510). -/
def Eng0.ENG_DBG_CTL_STEP : RegField :=
  { off := 0x400, hi := 2, lo := 2, ty := .wo }

/-- `ENG_DBG_CTL.RUN`, bits [1], of the engine page 0 (17_debug_run_control.md R510). -/
def Eng0.ENG_DBG_CTL_RUN : RegField :=
  { off := 0x400, hi := 1, lo := 1, ty := .wo }

/-- `ENG_DBG_CTL.HALT`, bits [0], of the engine page 0 (17_debug_run_control.md R510). -/
def Eng0.ENG_DBG_CTL_HALT : RegField :=
  { off := 0x400, hi := 0, lo := 0, ty := .wo }

/-- `ENG_DBG_STAT.BY_SESSION`, bits [31], of the engine page 0 (17_debug_run_control.md R510). -/
def Eng0.ENG_DBG_STAT_BY_SESSION : RegField :=
  { off := 0x404, hi := 31, lo := 31, ty := .ro }

/-- `ENG_DBG_STAT.WHY`, bits [6:4], of the engine page 0 (17_debug_run_control.md R510). -/
def Eng0.ENG_DBG_STAT_WHY : RegField :=
  { off := 0x404, hi := 6, lo := 4, ty := .ro }

/-- `ENG_DBG_STAT.INDEX`, bits [1:0], of the engine page 0 (17_debug_run_control.md R510). -/
def Eng0.ENG_DBG_STAT_INDEX : RegField :=
  { off := 0x404, hi := 1, lo := 0, ty := .ro }

/-- `ENG_DBG_BP.ADDR`, bits [31:1], of the engine page 0 (17_debug_run_control.md R511). -/
def Eng0.ENG_DBG_BP_ADDR : RegField :=
  { off := 0x410, hi := 31, lo := 1, ty := .rw, stride := 0x4, count := 4 }

/-- `ENG_DBG_BP.EN`, bits [0], of the engine page 0 (17_debug_run_control.md R511). -/
def Eng0.ENG_DBG_BP_EN : RegField :=
  { off := 0x410, hi := 0, lo := 0, ty := .rw, stride := 0x4, count := 4 }

/-- `ENG_DBG_WP_ADDR.ADDR`, bits [31:0], of the engine page 0 (17_debug_run_control.md R511). -/
def Eng0.ENG_DBG_WP_ADDR_ADDR : RegField :=
  { off := 0x420, hi := 31, lo := 0, ty := .rw, stride := 0x8, count := 2 }

/-- `ENG_DBG_WP_CTL.EN`, bits [31], of the engine page 0 (17_debug_run_control.md R511). -/
def Eng0.ENG_DBG_WP_CTL_EN : RegField :=
  { off := 0x424, hi := 31, lo := 31, ty := .rw, stride := 0x8, count := 2 }

/-- `ENG_DBG_WP_CTL.SIZE_LOG2`, bits [20:16], of the engine page 0 (17_debug_run_control.md R511). -/
def Eng0.ENG_DBG_WP_CTL_SIZE_LOG2 : RegField :=
  { off := 0x424, hi := 20, lo := 16, ty := .rw, init := .val 0x2, stride := 0x8, count := 2, bad := [(0x13, 0x1F)] }

/-- `ENG_DBG_WP_CTL.KIND`, bits [1:0], of the engine page 0 (17_debug_run_control.md R511). -/
def Eng0.ENG_DBG_WP_CTL_KIND : RegField :=
  { off := 0x424, hi := 1, lo := 0, ty := .rw, init := .val 0x3, stride := 0x8, count := 2, bad := [(0x0, 0x0)] }

/-- `ENG_DBG_REGSEL.CSR`, bits [12], of the engine page 0 (17_debug_run_control.md R513). -/
def Eng0.ENG_DBG_REGSEL_CSR : RegField :=
  { off := 0x440, hi := 12, lo := 12, ty := .rw }

/-- `ENG_DBG_REGSEL.NUM`, bits [11:0], of the engine page 0 (17_debug_run_control.md R513). -/
def Eng0.ENG_DBG_REGSEL_NUM : RegField :=
  { off := 0x440, hi := 11, lo := 0, ty := .rw }

/-- `ENG_DBG_REGDATA.DATA`, bits [31:0], of the engine page 0 (17_debug_run_control.md R513). -/
def Eng0.ENG_DBG_REGDATA_DATA : RegField :=
  { off := 0x444, hi := 31, lo := 0, ty := .rw }

/-- `ENG_TEST.RF_BIT`, bits [6:2], of the engine page 0 (09_spindle_engines.md R264). -/
def Eng0.ENG_TEST_RF_BIT : RegField :=
  { off := 0x800, hi := 6, lo := 2, ty := .rwx }

/-- `ENG_TEST.RF_FLIP`, bits [1], of the engine page 0 (09_spindle_engines.md R264). -/
def Eng0.ENG_TEST_RF_FLIP : RegField :=
  { off := 0x800, hi := 1, lo := 1, ty := .rwx }

/-- `ENG_TEST.LS_INJECT`, bits [0], of the engine page 0 (09_spindle_engines.md R264). -/
def Eng0.ENG_TEST_LS_INJECT : RegField :=
  { off := 0x800, hi := 0, lo := 0, ty := .rwx }

/-- Fields of the engine page 0, part 0. -/
def Eng0.fields0 : List RegField :=
  [Eng0.CTL_SUBST, Eng0.CTL_LOCKSTEP, Eng0.CTL_EBREAK_HALT, Eng0.CTL_IMEM_WR,
   Eng0.CTL_AUTORUN, Eng0.CTL_RESET, Eng0.CTL_HALT, Eng0.CTL_RUN,
   Eng0.STATUS_PHYS, Eng0.STATUS_PAIRED, Eng0.STATUS_STATE, Eng0.ENG_BOOT_PC_PC,
   Eng0.ENG_PC_PC, Eng0.ENG_CAUSE_CAUSE, Eng0.ENG_FREEZE_FREEZE, Eng0.ENG_CLK_DIV,
   Eng0.ENG_RF_ERR_TRANSIENT, Eng0.ENG_RF_ERR_LASTING, Eng0.ENG_WIN_ERR_VALID, Eng0.ENG_WIN_ERR_RESP]

/-- Fields of the engine page 0, part 1. -/
def Eng0.fields1 : List RegField :=
  [Eng0.ENG_WIN_ERR_WIN, Eng0.ENG_WIN_ERR_STORE, Eng0.ENG_WIN_CTL_EN, Eng0.ENG_WIN_CTL_PRIO,
   Eng0.ENG_WIN_CTL_DEST, Eng0.ENG_WIN_BASE_BASE, Eng0.ENG_DBG_CTL_XTRIG_OUT, Eng0.ENG_DBG_CTL_STEP_IRQ,
   Eng0.ENG_DBG_CTL_STEP, Eng0.ENG_DBG_CTL_RUN, Eng0.ENG_DBG_CTL_HALT, Eng0.ENG_DBG_STAT_BY_SESSION,
   Eng0.ENG_DBG_STAT_WHY, Eng0.ENG_DBG_STAT_INDEX, Eng0.ENG_DBG_BP_ADDR, Eng0.ENG_DBG_BP_EN,
   Eng0.ENG_DBG_WP_ADDR_ADDR, Eng0.ENG_DBG_WP_CTL_EN, Eng0.ENG_DBG_WP_CTL_SIZE_LOG2, Eng0.ENG_DBG_WP_CTL_KIND]

/-- Fields of the engine page 0, part 2. -/
def Eng0.fields2 : List RegField :=
  [Eng0.ENG_DBG_REGSEL_CSR, Eng0.ENG_DBG_REGSEL_NUM, Eng0.ENG_DBG_REGDATA_DATA, Eng0.ENG_TEST_RF_BIT,
   Eng0.ENG_TEST_RF_FLIP, Eng0.ENG_TEST_LS_INJECT]

/-- Every field of the engine page 0 beyond the common header. -/
def Eng0.fields : List RegField :=
  Eng0.fields0 ++ Eng0.fields1 ++ Eng0.fields2

/-- `ICTL_SRC.EN`, bits [8], of the engine page 1 (09_spindle_engines.md R271). -/
def Eng1.ICTL_SRC_EN : RegField :=
  { off := 0x100, hi := 8, lo := 8, ty := .rw, stride := 0x4, count := 32 }

/-- `ICTL_SRC.LEVEL`, bits [1:0], of the engine page 1 (09_spindle_engines.md R271). -/
def Eng1.ICTL_SRC_LEVEL : RegField :=
  { off := 0x100, hi := 1, lo := 0, ty := .rw, stride := 0x4, count := 32 }

/-- `ICTL_PENDING.PEND`, bits [31:0], of the engine page 1 (09_spindle_engines.md R272). -/
def Eng1.ICTL_PENDING_PEND : RegField :=
  { off := 0x180, hi := 31, lo := 0, ty := .ro }

/-- `ICTL_DOORBELL_SET.SET`, bits [23:16], of the engine page 1 (09_spindle_engines.md R272). -/
def Eng1.ICTL_DOORBELL_SET_SET : RegField :=
  { off := 0x184, hi := 23, lo := 16, ty := .wo }

/-- `ICTL_DOORBELL.BELL`, bits [23:16], of the engine page 1 (09_spindle_engines.md R272). -/
def Eng1.ICTL_DOORBELL_BELL : RegField :=
  { off := 0x188, hi := 23, lo := 16, ty := .w1c }

/-- `TMR_CTL.PRESCALE`, bits [15:8], of the engine page 1 (09_spindle_engines.md R274). -/
def Eng1.TMR_CTL_PRESCALE : RegField :=
  { off := 0x200, hi := 15, lo := 8, ty := .rw, stride := 0x20, count := 2 }

/-- `TMR_CTL.SRC`, bits [2], of the engine page 1 (09_spindle_engines.md R274). -/
def Eng1.TMR_CTL_SRC : RegField :=
  { off := 0x200, hi := 2, lo := 2, ty := .rw, stride := 0x20, count := 2 }

/-- `TMR_CTL.PERIODIC`, bits [1], of the engine page 1 (09_spindle_engines.md R274). -/
def Eng1.TMR_CTL_PERIODIC : RegField :=
  { off := 0x200, hi := 1, lo := 1, ty := .rw, stride := 0x20, count := 2 }

/-- `TMR_CTL.EN`, bits [0], of the engine page 1 (09_spindle_engines.md R274). -/
def Eng1.TMR_CTL_EN : RegField :=
  { off := 0x200, hi := 0, lo := 0, ty := .rw, stride := 0x20, count := 2 }

/-- `TMR_COUNT.COUNT`, bits [31:0], of the engine page 1 (09_spindle_engines.md R274). -/
def Eng1.TMR_COUNT_COUNT : RegField :=
  { off := 0x204, hi := 31, lo := 0, ty := .rw, stride := 0x20, count := 2 }

/-- `TMR_COMPARE.COMPARE`, bits [31:0], of the engine page 1 (09_spindle_engines.md R274). -/
def Eng1.TMR_COMPARE_COMPARE : RegField :=
  { off := 0x208, hi := 31, lo := 0, ty := .rw, init := .val 0xFFFFFFFF, stride := 0x20, count := 2 }

/-- `TMR_STAT.HIT`, bits [0], of the engine page 1 (09_spindle_engines.md R274). -/
def Eng1.TMR_STAT_HIT : RegField :=
  { off := 0x20C, hi := 0, lo := 0, ty := .w1c, stride := 0x20, count := 2 }

/-- `WDT_CTL.WARN_EN`, bits [2], of the engine page 1 (09_spindle_engines.md R275). -/
def Eng1.WDT_CTL_WARN_EN : RegField :=
  { off := 0x300, hi := 2, lo := 2, ty := .rw }

/-- `WDT_CTL.ACTION`, bits [1], of the engine page 1 (09_spindle_engines.md R275). -/
def Eng1.WDT_CTL_ACTION : RegField :=
  { off := 0x300, hi := 1, lo := 1, ty := .rw }

/-- `WDT_CTL.EN`, bits [0], of the engine page 1 (09_spindle_engines.md R275). -/
def Eng1.WDT_CTL_EN : RegField :=
  { off := 0x300, hi := 0, lo := 0, ty := .rw }

/-- `WDT_LOAD.LOAD`, bits [31:0], of the engine page 1 (09_spindle_engines.md R275). -/
def Eng1.WDT_LOAD_LOAD : RegField :=
  { off := 0x304, hi := 31, lo := 0, ty := .rw, init := .val 0x10000 }

/-- `WDT_COUNT.COUNT`, bits [31:0], of the engine page 1 (09_spindle_engines.md R275). -/
def Eng1.WDT_COUNT_COUNT : RegField :=
  { off := 0x308, hi := 31, lo := 0, ty := .ro, init := .val 0x10000 }

/-- `WDT_KICK.KICK`, bits [31:0], of the engine page 1 (09_spindle_engines.md R275). -/
def Eng1.WDT_KICK_KICK : RegField :=
  { off := 0x30C, hi := 31, lo := 0, ty := .wo }

/-- `WDT_STAT.EXPIRIES`, bits [15:8], of the engine page 1 (09_spindle_engines.md R276). -/
def Eng1.WDT_STAT_EXPIRIES : RegField :=
  { off := 0x310, hi := 15, lo := 8, ty := .ro }

/-- `WDT_STAT.PENDING`, bits [0], of the engine page 1 (09_spindle_engines.md R276). -/
def Eng1.WDT_STAT_PENDING : RegField :=
  { off := 0x310, hi := 0, lo := 0, ty := .ro }

/-- Every field of the engine page 1 beyond the common header. -/
def Eng1.fields : List RegField :=
  [Eng1.ICTL_SRC_EN, Eng1.ICTL_SRC_LEVEL, Eng1.ICTL_PENDING_PEND, Eng1.ICTL_DOORBELL_SET_SET,
   Eng1.ICTL_DOORBELL_BELL, Eng1.TMR_CTL_PRESCALE, Eng1.TMR_CTL_SRC, Eng1.TMR_CTL_PERIODIC,
   Eng1.TMR_CTL_EN, Eng1.TMR_COUNT_COUNT, Eng1.TMR_COMPARE_COMPARE, Eng1.TMR_STAT_HIT,
   Eng1.WDT_CTL_WARN_EN, Eng1.WDT_CTL_ACTION, Eng1.WDT_CTL_EN, Eng1.WDT_LOAD_LOAD,
   Eng1.WDT_COUNT_COUNT, Eng1.WDT_KICK_KICK, Eng1.WDT_STAT_EXPIRIES, Eng1.WDT_STAT_PENDING]

/-- `DMA_CTL.RESUME`, bits [1], of the engine page 2 (09_spindle_engines.md R279). -/
def Eng2.DMA_CTL_RESUME : RegField :=
  { off := 0x010, hi := 1, lo := 1, ty := .wo }

/-- `DMA_CTL.EN`, bits [0], of the engine page 2 (09_spindle_engines.md R279). -/
def Eng2.DMA_CTL_EN : RegField :=
  { off := 0x010, hi := 0, lo := 0, ty := .rw }

/-- `DMA_STATUS.ACTIVE`, bits [12:8], of the engine page 2 (09_spindle_engines.md R279). -/
def Eng2.DMA_STATUS_ACTIVE : RegField :=
  { off := 0x014, hi := 12, lo := 8, ty := .ro }

/-- `DMA_STATUS.STOPPED`, bits [0], of the engine page 2 (09_spindle_engines.md R279). -/
def Eng2.DMA_STATUS_STOPPED : RegField :=
  { off := 0x014, hi := 0, lo := 0, ty := .ro }

/-- `DMA_RING_BASE.BASE`, bits [17:5], of the engine page 2 (09_spindle_engines.md R277). -/
def Eng2.DMA_RING_BASE_BASE : RegField :=
  { off := 0x100, hi := 17, lo := 5, ty := .rw }

/-- `DMA_RING_LOG2.LOG2`, bits [3:0], of the engine page 2 (09_spindle_engines.md R277). -/
def Eng2.DMA_RING_LOG2_LOG2 : RegField :=
  { off := 0x104, hi := 3, lo := 0, ty := .rw, init := .val 0x4, bad := [(0x0, 0x3), (0xB, 0xF)] }

/-- `DMA_HEAD.HEAD`, bits [9:0], of the engine page 2 (09_spindle_engines.md R277). -/
def Eng2.DMA_HEAD_HEAD : RegField :=
  { off := 0x108, hi := 9, lo := 0, ty := .rw }

/-- `DMA_TAIL.TAIL`, bits [9:0], of the engine page 2 (09_spindle_engines.md R277). -/
def Eng2.DMA_TAIL_TAIL : RegField :=
  { off := 0x10C, hi := 9, lo := 0, ty := .ro }

/-- `DMA_DONE.DONE`, bits [9:0], of the engine page 2 (09_spindle_engines.md R277). -/
def Eng2.DMA_DONE_DONE : RegField :=
  { off := 0x110, hi := 9, lo := 0, ty := .ro }

/-- Every field of the engine page 2 beyond the common header. -/
def Eng2.fields : List RegField :=
  [Eng2.DMA_CTL_RESUME, Eng2.DMA_CTL_EN, Eng2.DMA_STATUS_ACTIVE, Eng2.DMA_STATUS_STOPPED,
   Eng2.DMA_RING_BASE_BASE, Eng2.DMA_RING_LOG2_LOG2, Eng2.DMA_HEAD_HEAD, Eng2.DMA_TAIL_TAIL,
   Eng2.DMA_DONE_DONE]

/-- `INT_STATUS.CORRECTED` of the engine page 3 (09_spindle_engines.md R281). -/
def Eng3.INT_CORRECTED : Nat := 16

/-- `INT_STATUS.UNCORRECTABLE` of the engine page 3 (09_spindle_engines.md R281). -/
def Eng3.INT_UNCORRECTABLE : Nat := 17

/-- `INT_STATUS.LASTING` of the engine page 3 (09_spindle_engines.md R281). -/
def Eng3.INT_LASTING : Nat := 18

/-- `INT_STATUS.WORD_LOST` of the engine page 3 (09_spindle_engines.md R281). -/
def Eng3.INT_WORD_LOST : Nat := 19

/-- `INT_STATUS.REMAP_FULL` of the engine page 3 (09_spindle_engines.md R281). -/
def Eng3.INT_REMAP_FULL : Nat := 20

/-- `INT_STATUS.SLOW_LAP` of the engine page 3 (09_spindle_engines.md R281). -/
def Eng3.INT_SLOW_LAP : Nat := 21

/-- `INT_STATUS.TMR_FIX` of the engine page 3 (09_spindle_engines.md R281). -/
def Eng3.INT_TMR_FIX : Nat := 22

/-- `VT_OUT_DATA.DATA`, bits [31:0], of the engine page 3 (09_spindle_engines.md R281). -/
def Eng3.VT_OUT_DATA_DATA : RegField :=
  { off := 0x100, hi := 31, lo := 0, ty := .ro }

/-- `VT_OUT_LEVEL.LEVEL`, bits [4:0], of the engine page 3 (09_spindle_engines.md R281). -/
def Eng3.VT_OUT_LEVEL_LEVEL : RegField :=
  { off := 0x104, hi := 4, lo := 0, ty := .ro }

/-- `VT_OUT_ACK.N`, bits [2:0], of the engine page 3 (09_spindle_engines.md R281). -/
def Eng3.VT_OUT_ACK_N : RegField :=
  { off := 0x108, hi := 2, lo := 0, ty := .wo }

/-- `VT_IN_DATA.BYTE`, bits [7:0], of the engine page 3 (09_spindle_engines.md R281). -/
def Eng3.VT_IN_DATA_BYTE : RegField :=
  { off := 0x10C, hi := 7, lo := 0, ty := .wo }

/-- `VT_IN_LEVEL.LEVEL`, bits [4:0], of the engine page 3 (09_spindle_engines.md R281). -/
def Eng3.VT_IN_LEVEL_LEVEL : RegField :=
  { off := 0x110, hi := 4, lo := 0, ty := .ro }

/-- `VT_CTL.BLOCK`, bits [0], of the engine page 3 (09_spindle_engines.md R281). -/
def Eng3.VT_CTL_BLOCK : RegField :=
  { off := 0x114, hi := 0, lo := 0, ty := .rw }

/-- `VT_DROPS.COUNT`, bits [15:0], of the engine page 3 (09_spindle_engines.md R281). -/
def Eng3.VT_DROPS_COUNT : RegField :=
  { off := 0x118, hi := 15, lo := 0, ty := .pk }

/-- `VT_TX.BYTE`, bits [7:0], of the engine page 3 (09_spindle_engines.md R281). -/
def Eng3.VT_TX_BYTE : RegField :=
  { off := 0x180, hi := 7, lo := 0, ty := .wo }

/-- `VT_RX.BYTE`, bits [8:0], of the engine page 3 (09_spindle_engines.md R281). -/
def Eng3.VT_RX_BYTE : RegField :=
  { off := 0x184, hi := 8, lo := 0, ty := .pk }

/-- `MI_SCR_CTL.PACE`, bits [7:4], of the engine page 3 (07_memory_integrity.md R215). -/
def Eng3.MI_SCR_CTL_PACE : RegField :=
  { off := 0x200, hi := 7, lo := 4, ty := .rw, init := .val 0xA }

/-- `MI_SCR_CTL.EN`, bits [0], of the engine page 3 (07_memory_integrity.md R215). -/
def Eng3.MI_SCR_CTL_EN : RegField :=
  { off := 0x200, hi := 0, lo := 0, ty := .rw, init := .val 0x1 }

/-- `MI_LAP_LIMIT.LIMIT`, bits [23:0], of the engine page 3 (07_memory_integrity.md R216). -/
def Eng3.MI_LAP_LIMIT_LIMIT : RegField :=
  { off := 0x204, hi := 23, lo := 0, ty := .rw, init := .val 0x2710 }

/-- `MI_TMR_FIX.COUNT`, bits [15:0], of the engine page 3 (07_memory_integrity.md R222). -/
def Eng3.MI_TMR_FIX_COUNT : RegField :=
  { off := 0x208, hi := 15, lo := 0, ty := .pk }

/-- `MI_BLK0.SLOW`, bits [31], of the engine page 3 (07_memory_integrity.md R216). -/
def Eng3.MI_BLK0_SLOW : RegField :=
  { off := 0x210, hi := 31, lo := 31, ty := .w1c, stride := 0x10, count := 2 }

/-- `MI_BLK0.LAP_LAST`, bits [23:0], of the engine page 3 (07_memory_integrity.md R216). -/
def Eng3.MI_BLK0_LAP_LAST : RegField :=
  { off := 0x210, hi := 23, lo := 0, ty := .ro, stride := 0x10, count := 2 }

/-- `MI_BLK1.LAP_MAX`, bits [23:0], of the engine page 3 (07_memory_integrity.md R216). -/
def Eng3.MI_BLK1_LAP_MAX : RegField :=
  { off := 0x214, hi := 23, lo := 0, ty := .pk, stride := 0x10, count := 2 }

/-- `MI_BLK2.TRANSIENT`, bits [31:16], of the engine page 3 (07_memory_integrity.md R210). -/
def Eng3.MI_BLK2_TRANSIENT : RegField :=
  { off := 0x218, hi := 31, lo := 16, ty := .pk, stride := 0x10, count := 2 }

/-- `MI_BLK2.LASTING`, bits [15:8], of the engine page 3 (07_memory_integrity.md R210). -/
def Eng3.MI_BLK2_LASTING : RegField :=
  { off := 0x218, hi := 15, lo := 8, ty := .ro, stride := 0x10, count := 2 }

/-- `MI_BLK2.LOST`, bits [7:4], of the engine page 3 (07_memory_integrity.md R210). -/
def Eng3.MI_BLK2_LOST : RegField :=
  { off := 0x218, hi := 7, lo := 4, ty := .ro, stride := 0x10, count := 2 }

/-- `MI_BLK2.REPAIR_DROP`, bits [3:0], of the engine page 3 (07_memory_integrity.md R210). -/
def Eng3.MI_BLK2_REPAIR_DROP : RegField :=
  { off := 0x218, hi := 3, lo := 0, ty := .ro, stride := 0x10, count := 2 }

/-- `MI_BLK3.VALID`, bits [31], of the engine page 3 (09_spindle_engines.md R262). -/
def Eng3.MI_BLK3_VALID : RegField :=
  { off := 0x21C, hi := 31, lo := 31, ty := .w1c, stride := 0x10, count := 2 }

/-- `MI_BLK3.KIND`, bits [30:29], of the engine page 3 (09_spindle_engines.md R262). -/
def Eng3.MI_BLK3_KIND : RegField :=
  { off := 0x21C, hi := 30, lo := 29, ty := .ro, stride := 0x10, count := 2 }

/-- `MI_BLK3.BANK`, bits [28:24], of the engine page 3 (09_spindle_engines.md R262). -/
def Eng3.MI_BLK3_BANK : RegField :=
  { off := 0x21C, hi := 28, lo := 24, ty := .ro, stride := 0x10, count := 2 }

/-- `MI_BLK3.SYNDROME`, bits [23:16], of the engine page 3 (09_spindle_engines.md R262). -/
def Eng3.MI_BLK3_SYNDROME : RegField :=
  { off := 0x21C, hi := 23, lo := 16, ty := .ro, stride := 0x10, count := 2 }

/-- `MI_BLK3.PARITY`, bits [10], of the engine page 3 (09_spindle_engines.md R262). -/
def Eng3.MI_BLK3_PARITY : RegField :=
  { off := 0x21C, hi := 10, lo := 10, ty := .ro, stride := 0x10, count := 2 }

/-- `MI_BLK3.WORD`, bits [9:0], of the engine page 3 (09_spindle_engines.md R262). -/
def Eng3.MI_BLK3_WORD : RegField :=
  { off := 0x21C, hi := 9, lo := 0, ty := .ro, stride := 0x10, count := 2 }

/-- `MI_REMAP.VALID`, bits [31], of the engine page 3 (07_memory_integrity.md R218). -/
def Eng3.MI_REMAP_VALID : RegField :=
  { off := 0x400, hi := 31, lo := 31, ty := .ro, stride := 0x4, count := 160, home := .ledger }

/-- `MI_REMAP.RETIRED`, bits [30], of the engine page 3 (07_memory_integrity.md R218). -/
def Eng3.MI_REMAP_RETIRED : RegField :=
  { off := 0x400, hi := 30, lo := 30, ty := .ro, stride := 0x4, count := 160, home := .ledger }

/-- `MI_REMAP.PARITY`, bits [10], of the engine page 3 (07_memory_integrity.md R218). -/
def Eng3.MI_REMAP_PARITY : RegField :=
  { off := 0x400, hi := 10, lo := 10, ty := .ro, stride := 0x4, count := 160, home := .ledger }

/-- `MI_REMAP.WORD`, bits [9:0], of the engine page 3 (07_memory_integrity.md R218). -/
def Eng3.MI_REMAP_WORD : RegField :=
  { off := 0x400, hi := 9, lo := 0, ty := .ro, stride := 0x4, count := 160, home := .ledger }

/-- `MI_TEST_ADDR.BLOCK`, bits [19:16], of the engine page 3 (07_memory_integrity.md R223). -/
def Eng3.MI_TEST_ADDR_BLOCK : RegField :=
  { off := 0x800, hi := 19, lo := 16, ty := .rwx, bad := [(0x2, 0xF)] }

/-- `MI_TEST_ADDR.ADDR`, bits [14:0], of the engine page 3 (07_memory_integrity.md R223). -/
def Eng3.MI_TEST_ADDR_ADDR : RegField :=
  { off := 0x800, hi := 14, lo := 0, ty := .rwx }

/-- `MI_TEST_DATA_LO.DATA`, bits [31:0], of the engine page 3 (07_memory_integrity.md R223). -/
def Eng3.MI_TEST_DATA_LO_DATA : RegField :=
  { off := 0x804, hi := 31, lo := 0, ty := .rwx }

/-- `MI_TEST_DATA_HI.DATA`, bits [31:0], of the engine page 3 (07_memory_integrity.md R223). -/
def Eng3.MI_TEST_DATA_HI_DATA : RegField :=
  { off := 0x808, hi := 31, lo := 0, ty := .rwx }

/-- `MI_TEST_CMD.CMD`, bits [1:0], of the engine page 3 (07_memory_integrity.md R223). -/
def Eng3.MI_TEST_CMD_CMD : RegField :=
  { off := 0x80C, hi := 1, lo := 0, ty := .wo, bad := [(0x3, 0x3)] }

/-- `MI_TEST_STAT.BUSY`, bits [31], of the engine page 3 (07_memory_integrity.md R223). -/
def Eng3.MI_TEST_STAT_BUSY : RegField :=
  { off := 0x810, hi := 31, lo := 31, ty := .ro }

/-- `MI_TEST_STAT.FAULT`, bits [30], of the engine page 3 (07_memory_integrity.md R223). -/
def Eng3.MI_TEST_STAT_FAULT : RegField :=
  { off := 0x810, hi := 30, lo := 30, ty := .ro }

/-- `MI_TEST_STAT.CSTAT`, bits [9:8], of the engine page 3 (07_memory_integrity.md R223). -/
def Eng3.MI_TEST_STAT_CSTAT : RegField :=
  { off := 0x810, hi := 9, lo := 8, ty := .ro }

/-- `MI_TEST_STAT.CHECK`, bits [7:0], of the engine page 3 (07_memory_integrity.md R223). -/
def Eng3.MI_TEST_STAT_CHECK : RegField :=
  { off := 0x810, hi := 7, lo := 0, ty := .ro }

/-- `MI_FLIP_DATA_LO.MASK`, bits [31:0], of the engine page 3 (07_memory_integrity.md R224). -/
def Eng3.MI_FLIP_DATA_LO_MASK : RegField :=
  { off := 0x820, hi := 31, lo := 0, ty := .rwx }

/-- `MI_FLIP_DATA_HI.MASK`, bits [31:0], of the engine page 3 (07_memory_integrity.md R224). -/
def Eng3.MI_FLIP_DATA_HI_MASK : RegField :=
  { off := 0x824, hi := 31, lo := 0, ty := .rwx }

/-- `MI_FLIP_CTL.BLOCK`, bits [19:16], of the engine page 3 (07_memory_integrity.md R224). -/
def Eng3.MI_FLIP_CTL_BLOCK : RegField :=
  { off := 0x828, hi := 19, lo := 16, ty := .rwx, bad := [(0x2, 0xF)] }

/-- `MI_FLIP_CTL.CHECK_MASK`, bits [15:8], of the engine page 3 (07_memory_integrity.md R224). -/
def Eng3.MI_FLIP_CTL_CHECK_MASK : RegField :=
  { off := 0x828, hi := 15, lo := 8, ty := .rwx }

/-- `MI_FLIP_CTL.SRC`, bits [1], of the engine page 3 (07_memory_integrity.md R224). -/
def Eng3.MI_FLIP_CTL_SRC : RegField :=
  { off := 0x828, hi := 1, lo := 1, ty := .rwx }

/-- `MI_FLIP_CTL.ARM`, bits [0], of the engine page 3 (07_memory_integrity.md R224). -/
def Eng3.MI_FLIP_CTL_ARM : RegField :=
  { off := 0x828, hi := 0, lo := 0, ty := .rwx }

/-- Fields of the engine page 3, part 0. -/
def Eng3.fields0 : List RegField :=
  [Eng3.VT_OUT_DATA_DATA, Eng3.VT_OUT_LEVEL_LEVEL, Eng3.VT_OUT_ACK_N, Eng3.VT_IN_DATA_BYTE,
   Eng3.VT_IN_LEVEL_LEVEL, Eng3.VT_CTL_BLOCK, Eng3.VT_DROPS_COUNT, Eng3.VT_TX_BYTE,
   Eng3.VT_RX_BYTE, Eng3.MI_SCR_CTL_PACE, Eng3.MI_SCR_CTL_EN, Eng3.MI_LAP_LIMIT_LIMIT,
   Eng3.MI_TMR_FIX_COUNT, Eng3.MI_BLK0_SLOW, Eng3.MI_BLK0_LAP_LAST, Eng3.MI_BLK1_LAP_MAX,
   Eng3.MI_BLK2_TRANSIENT, Eng3.MI_BLK2_LASTING, Eng3.MI_BLK2_LOST, Eng3.MI_BLK2_REPAIR_DROP]

/-- Fields of the engine page 3, part 1. -/
def Eng3.fields1 : List RegField :=
  [Eng3.MI_BLK3_VALID, Eng3.MI_BLK3_KIND, Eng3.MI_BLK3_BANK, Eng3.MI_BLK3_SYNDROME,
   Eng3.MI_BLK3_PARITY, Eng3.MI_BLK3_WORD, Eng3.MI_REMAP_VALID, Eng3.MI_REMAP_RETIRED,
   Eng3.MI_REMAP_PARITY, Eng3.MI_REMAP_WORD, Eng3.MI_TEST_ADDR_BLOCK, Eng3.MI_TEST_ADDR_ADDR,
   Eng3.MI_TEST_DATA_LO_DATA, Eng3.MI_TEST_DATA_HI_DATA, Eng3.MI_TEST_CMD_CMD, Eng3.MI_TEST_STAT_BUSY,
   Eng3.MI_TEST_STAT_FAULT, Eng3.MI_TEST_STAT_CSTAT, Eng3.MI_TEST_STAT_CHECK, Eng3.MI_FLIP_DATA_LO_MASK]

/-- Fields of the engine page 3, part 2. -/
def Eng3.fields2 : List RegField :=
  [Eng3.MI_FLIP_DATA_HI_MASK, Eng3.MI_FLIP_CTL_BLOCK, Eng3.MI_FLIP_CTL_CHECK_MASK, Eng3.MI_FLIP_CTL_SRC,
   Eng3.MI_FLIP_CTL_ARM]

/-- Every field of the engine page 3 beyond the common header. -/
def Eng3.fields : List RegField :=
  Eng3.fields0 ++ Eng3.fields1 ++ Eng3.fields2

end Sys2Proof.Machine.Reg
end

