-- ==== Sys2Proof/Machine/Pages.lean ====
section
/-! DEFINITION. The management aperture's map: which page number is which page (R37 to R41 and the chapters' page
addresses), the fixed identity of each page, the power domain it belongs to, and which fields a word of it holds. A page is
named by its number, its address shifted right by 12 (R37). -/

namespace Sys2Proof.Machine

open Reg

/-! Page numbers of R38 to R40. Dies are named by Skein die ID: H 0, F0 to F3 1 to 4, S0 and S1 5 and 6. -/

namespace Pg
def hubGlobal : Nat := 0x000
def safety : Nat := 0x001
def powerCtl : Nat := 0x100
def powerDom : Nat := 0x101
def supply : Nat := 0x102
def thermal : Nat := 0x103
def clock : Nat := 0x200
def reset : Nat := 0x201
def recorder : Nat := 0x300
def time : Nat := 0x301
def config : Nat := 0x400
def hallmark : Nat := 0x401
def monitor : Nat := 0x500
def ply : Nat := 0x600
/-- Router page `i` of the network of die `d` (R292). -/
def router (d i : Nat) : Nat :=
  if d = 0 then 0x800 + i else if d ≤ 4 then 0x1000 + 0x800 * (d - 1) + 0x20 + i else 0x3000 + 0x400 * (d - 5) + 0x20 + i
/-- Hub-side Lomum page of port `d`. -/
def port (d : Nat) : Nat := 0x810 + d
/-- Crossbar page of destination port `d`, logical module `m` (R136). -/
def xbar (d m : Nat) : Nat := 0x820 + 16 * (d - 1) + m
/-- First page of the window of die `d` (R22, R39, R40). -/
def dieBase (d : Nat) : Nat :=
  if d = 0 then 0 else if d ≤ 4 then 0x1000 + 0x800 * (d - 1) else 0x3000 + 0x400 * (d - 5)
def dieCtl (d : Nat) : Nat := dieBase d
def dieSide (d : Nat) : Nat := dieBase d + 0x10
def xport (d : Nat) : Nat := dieBase d + 0x11
/-- Page `k` of logical engine `e` of the device, 0 to 63 (R39). -/
def eng (e k : Nat) : Nat := dieBase (e / 16 + 1) + 0x80 + 4 * (e % 16) + k
/-- Controller page of DDR channel `c` (R354). -/
def ddr (c : Nat) : Nat := dieBase (c / 2 + 1) + 0xC0 + 0x10 * (c % 2)
/-- Crypto engine page of channel `c` (R386). -/
def crypto (c : Nat) : Nat := dieBase (c / 2 + 1) + 0xE0 + 0x10 * (c % 2)
def mi (d s : Nat) : Nat := dieBase d + 0x100 + s
def sctl (d s : Nat) : Nat := dieBase d + 0x200 + s
/-- Lane page: `l = false` for W lane `n`, `l = true` for L lane `n` (R40). -/
def lane (l : Bool) (n : Nat) : Nat := dieBase (5 + n / 32) + (if l then 0x60 else 0x40) + n % 32
def opll (d o : Nat) : Nat := dieBase d + 0x80 + o
def adapter (d o : Nat) : Nat := dieBase d + 0x90 + o
end Pg

/-- The die of a page by its window (R22); 7 beyond the last window. -/
def pageDie (p : Nat) : Nat :=
  if p < 0x1000 then 0 else if p < 0x3000 then (p - 0x1000) / 0x800 + 1 else if p < 0x3800 then (p - 0x3000) / 0x400 + 5 else 7

/-- The offset of a page within its die's window, in pages. -/
def pageInDie (p : Nat) : Nat :=
  if p < 0x1000 then p else if p < 0x3000 then (p - 0x1000) % 0x800 else (p - 0x3000) % 0x400

/-- The data windows of R597. -/
inductive DataWindow
  | ledger | ring
  deriving DecidableEq, Repr

def pageWindow (p : Nat) : Option DataWindow :=
  if 0x008 ≤ p ∧ p ≤ 0x00F then some .ledger else if 0x340 ≤ p ∧ p ≤ 0x37F then some .ring else none

/-- The hub window's pages (R38, R136, R292). -/
def hubPageKind (p : Nat) : Option PageKind :=
  if p = 0x000 then some .hubGlobal else if p = 0x001 then some .safety
  else if p = 0x100 then some .powerCtl else if p = 0x101 then some .powerDom
  else if p = 0x102 then some .supply else if p = 0x103 then some .thermal
  else if p = 0x200 then some .clock else if p = 0x201 then some .reset
  else if p = 0x300 then some .recorder else if p = 0x301 then some .time
  else if p = 0x400 then some .config else if p = 0x401 then some .hallmark
  else if p = 0x500 then some .monitor else if p = 0x600 then some .ply
  else if 0x800 ≤ p ∧ p ≤ 0x80F then some .router
  else if 0x811 ≤ p ∧ p ≤ 0x816 then some .port
  else if 0x820 ≤ p ∧ p < 0x860 then some .xbar
  else if 0x860 ≤ p ∧ p < 0x880 ∧ (p - 0x820) % 16 < 8 then some .xbar
  else none

/-- A fabric-die window's pages, by offset (R39). -/
def fabricPageKind (q : Nat) : Option PageKind :=
  if q = 0x000 then some .dieCtl else if q = 0x010 then some .dieSide else if q = 0x011 then some .xport
  else if 0x020 ≤ q ∧ q < 0x060 then some .router
  else if 0x080 ≤ q ∧ q < 0x0C0 then
    (if q % 4 = 0 then some .eng0 else if q % 4 = 1 then some .eng1 else if q % 4 = 2 then some .eng2 else some .eng3)
  else if q = 0x0C0 ∨ q = 0x0D0 then some .ddr else if q = 0x0E0 ∨ q = 0x0F0 then some .crypto
  else if 0x100 ≤ q ∧ q < 0x160 then some .mi else if 0x200 ≤ q ∧ q < 0x260 then some .sctl
  else none

/-- A lane-die window's pages, by offset (R40). -/
def lanePageKind (q : Nat) : Option PageKind :=
  if q = 0x000 then some .dieCtl else if q = 0x010 then some .dieSide else if q = 0x011 then some .xport
  else if 0x020 ≤ q ∧ q < 0x028 then some .router
  else if 0x040 ≤ q ∧ q < 0x080 then some .lane
  else if 0x080 ≤ q ∧ q < 0x088 then some .opll else if 0x090 ≤ q ∧ q < 0x098 then some .adapter
  else none

/-- The kind of a page; none where no table assigns the page (R41) and for the data windows. Pages inside an assigned
range that no chapter names are unpopulated (log entry 3). -/
def pageKind (p : Nat) : Option PageKind :=
  if p < 0x1000 then hubPageKind p else if p < 0x3000 then fabricPageKind (pageInDie p)
  else if p < 0x3800 then lanePageKind (pageInDie p) else none

/-- The power domain a page belongs to (R474 and the chapters' "belongs to"). -/
def pageDomain (p : Nat) : Nat :=
  let d := pageDie p
  let q := pageInDie p
  if d = 0 then (if p = Pg.ply then 0x03 else 0x01)
  else if d ≤ 4 then 16 * d
  else if 0x40 ≤ q ∧ q < 0x60 then 16 * d + 1 + (q - 0x40) / 8
  else if 0x60 ≤ q ∧ q < 0x80 then 16 * d + 5 + (q - 0x60) / 8
  else if 0x80 ≤ q ∧ q < 0x88 then 16 * d + 1 + (q - 0x80)
  else 16 * d

/-- The router index in its network of a router page (R292). -/
def routerIndex (p : Nat) : Nat := if pageDie p = 0 then p - 0x800 else pageInDie p - 0x20

/-- The coordinates of router `i` of die `d` (R292). -/
def routerX (d i : Nat) : Nat := if d = 0 then i % 4 else if d ≤ 4 then i % 8 else i
def routerY (d i : Nat) : Nat := if d = 0 then i / 4 else if d ≤ 4 then i / 8 else 0

/-- `SKR_PORT.ETYPE` of local port `p` of router (x,y) of die `d`: what sits there (R294, R319). -/
def endpointType (d x y p : Nat) : Nat :=
  if 1 ≤ d ∧ d ≤ 4 then
    if p = 0 then 1
    else if p = 1 then (if x % 2 = 1 ∧ y % 2 = 1 then 2 else 0)
    else if p = 2 then (if y = 7 ∧ (x = 2 ∨ x = 5) then 3 else 0)
    else if y = 0 then 4 else 0
  else if 5 ≤ d then
    if p = 0 then 5 else if p = 3 ∧ x % 2 = 1 then 4 else 0
  else
    if p = 3 then
      (if y = 0 then (if x = 0 then 6 else if x = 1 then 7 else if x = 2 then 8 else 9)
       else if y = 1 ∧ x = 0 then 10 else 0)
    else if p = 2 then (if y % 2 = 0 then 4 else 0)
    else 4

/-- `STATUS.PRESENT` of a router (R319). -/
def routerPresent (d x y : Nat) : Nat :=
  ((List.range 4).filter (fun p => endpointType d x y p ≠ 0)).foldl (fun m p => m ||| (1 <<< p)) 0

/-- Whether element `p` of a router page's `SKR_PORT` has an endpoint. -/
def portPresent (page p : Nat) : Bool :=
  let d := pageDie page
  let i := routerIndex page
  endpointType d (routerX d i) (routerY d i) p ≠ 0

/-- Physical modules of port `d`: 16 + 1 on a fabric die, 8 + 1 on a lane die (R112). -/
def portModules (d : Nat) : Nat := if d ≤ 4 then 17 else 9

/-- The port of a hub-side or die-side Lomum page. -/
def portOf (page : Nat) : Nat := if page < 0x1000 then page - 0x810 else pageDie page

/-- A field's value after POR (R15, R45). -/
def RegField.reset (f : RegField) (page i : Nat) : Nat :=
  match f.init with
  | .val n => n
  | .index => i
  | .logical => if i + 1 = portModules (portOf page) then 0xF else i
  | .present => b2n (portPresent page i)
  | .warnC => if Config.fuseTemp = 2 then 110 else 100

/-- `ID.TYPE` of a page (R45 and each chapter); hub global and die control have no stated code (log entry 2). -/
def pageType (p : Nat) : Nat :=
  match pageKind p with
  | none => 0
  | some .hubGlobal | some .dieCtl => (Config.idType p).toNat
  | some .safety => 0x0103 | some .powerCtl => 0x0116 | some .powerDom => 0x0117 | some .supply => 0x0118
  | some .thermal => 0x0119 | some .clock => 0x0120 | some .reset => 0x0121 | some .recorder => 0x0130
  | some .time => 0x0131 | some .config => 0x0140 | some .hallmark => 0x0141 | some .monitor => 0x0150
  | some .ply => 0x0160
  | some .router => if pageDie p = 0 then 0x0110 else if pageDie p ≤ 4 then 0x0A10 else 0x0A11
  | some .port => 0x0104 | some .dieSide => 0x0A02 | some .xbar => 0x0105 | some .xport => 0x0A05
  | some .sctl => 0x0F03 | some .mi => 0x0F07 | some .eng0 => 0x0E01 | some .eng1 => 0x0E02
  | some .eng2 => 0x0E03 | some .eng3 => 0x0E04
  | some .lane => if pageInDie p < 0x60 then 0x0A20 else 0x0A21
  | some .opll => 0x0A22 | some .adapter => 0x0A23 | some .ddr => 0x0D05 | some .crypto => 0x0D0C

/-- `ID.INSTANCE` of a page (R45 and each chapter). -/
def pageInstance (p : Nat) : Nat :=
  match pageKind p with
  | some .router => routerIndex p
  | some .port => p - 0x810
  | some .xbar => if p < 0x860 then p - 0x820 else if p < 0x870 then 64 + (p - 0x860) else 72 + (p - 0x870)
  | some .sctl => pageInDie p - 0x200
  | some .mi => pageInDie p - 0x100
  | some .eng0 | some .eng1 | some .eng2 | some .eng3 => 16 * (pageDie p - 1) + (pageInDie p - 0x80) / 4
  | some .lane => 32 * (pageDie p - 5) + (pageInDie p - 0x40) % 32
  | some .opll => pageInDie p - 0x80
  | some .adapter => pageInDie p - 0x90
  | some .ddr => 2 * (pageDie p - 1) + (pageInDie p - 0xC0) / 0x10
  | some .crypto => 2 * (pageDie p - 1) + (pageInDie p - 0xE0) / 0x10
  | _ => 0

/-- The domains of R474, by number D. -/
def domains : List Nat :=
  [0x00, 0x01, 0x02, 0x03, 0x10, 0x11, 0x12, 0x13, 0x20, 0x21, 0x22, 0x23, 0x30, 0x31, 0x32, 0x33, 0x40, 0x41, 0x42, 0x43] ++
  [0x50, 0x51, 0x52, 0x53, 0x54, 0x55, 0x56, 0x57, 0x58, 0x60, 0x61, 0x62, 0x63, 0x64, 0x65, 0x66, 0x67, 0x68]

/-- Domain DDRc (R474). -/
def ddrDom (c : Nat) : Nat := 16 * (c / 2 + 1) + 2 + c % 2

/-- Whether D names a domain (R474). -/
def isDomain (d : Nat) : Bool := domains.elem d

/-- The fields of a kind of page beyond the common header. -/
def kindFields : PageKind → List RegField
  | .hubGlobal => HubGlobal.fields | .safety => Safety.fields | .powerCtl => PowerCtl.fields
  | .powerDom => PowerDom.fields | .supply => Supply.fields | .thermal => Thermal.fields
  | .clock => Clock.fields | .reset => Reset.fields | .recorder => Recorder.fields | .time => Time.fields
  | .config => Cfg.fields | .hallmark => Hallmark.fields | .monitor => Monitor.fields | .ply => Ply.fields
  | .router => Router.fields | .port => Port.fields | .dieSide => Port.fields | .xbar => Xbar.fields
  | .dieCtl => DieCtl.fields | .xport => Xport.fields | .sctl => Sctl.fields | .mi => Mi.fields
  | .eng0 => Eng0.fields | .eng1 => Eng1.fields | .eng2 => Eng2.fields | .eng3 => Eng3.fields
  | .lane => Lane.fields | .opll => Opll.fields | .adapter => Adapter.fields | .ddr => Ddr.fields
  | .crypto => Crypto.fields

/-- Whether a page has element `i` of a field: a lane-die port has 9 physical modules, a lane-die crossing port no span
channels (R163), only routers whose port 3 is a gateway hold `SKR_GW` (R319), only assigned domains have words and only DDR domains
`KEEP_DRAM` (R494), only fabric dies GPIO banks (R589), and the words of crypto
regions 8 and 9 that fall on other registers are not theirs (log entry 41). -/
def hasElement (p : Nat) (k : PageKind) (f : RegField) (i : Nat) : Bool :=
  match k with
  | .port | .dieSide =>
    let n := portModules (portOf p)
    if f.off = 0x100 ∨ f.off = 0x600 then i < n
    else if 0x200 ≤ f.off ∧ f.off < 0x600 then i < 2 * n
    else true
  | .xport => if 5 ≤ pageDie p then !(0x200 ≤ f.off ∧ f.off < 0x280) else true
  | .router => if f.off = 0x190 then endpointType (pageDie p) (routerX (pageDie p) (routerIndex p))
      (routerY (pageDie p) (routerIndex p)) 3 = 4 else true
  | .powerDom => isDomain i && (f.lo ≠ 1 || f.off ≠ 0x104 || (1 ≤ i / 16 && i / 16 ≤ 4 && 2 ≤ i % 16))
  | .dieCtl => f.off ≠ 0x100 || pageDie p ≤ 4
  | .crypto => !(f.stride = 0x20 ∧ 0x300 ≤ f.off + 0x20 * i ∧ f.off + 0x20 * i ≤ 0x320)
  | _ => true

/-- The fields of the word at an offset of a page, with the array element each is; empty for an unassigned offset. -/
def fieldsAt (p off : Nat) : List (RegField × Nat) :=
  match pageKind p with
  | none => []
  | some k => (Hdr.fields ++ kindFields k).filterMap (fun f =>
      match f.indexAt off with
      | some i => if hasElement p k f i then some (f, i) else none
      | none => none)

/-- The key of element `i` of a field of a page in the register store: the bit address of its lowest bit. -/
def fieldKey (page : Nat) (f : RegField) (i : Nat) : Nat :=
  (page * 4096 + f.off + i * f.stride) * 8 + f.lo

/-- The field of a register-store key, found in the tables. -/
def keyField (key : Nat) : Option (RegField × Nat) :=
  (fieldsAt (key / 32768) (key / 8 % 4096 / 4 * 4)).find? (fun fi => decide (fi.1.lo = key % 32))

end Sys2Proof.Machine
end

