-- ==== Sys2Proof/Machine/Aes.lean ====
section
/-! DEFINITION. The ciphers that R395 and R396 name: AES-256 (FIPS 197), XTS (IEEE Std 1619) and GHASH (NIST SP 800-38D). The
standards' own text is no part of spec/ (log entry 40). A block of 16 bytes is the number whose byte 0 is lowest. -/

namespace Sys2Proof.Machine

namespace Aes

/-- Double in GF(2^8) with polynomial 0x11B. -/
def xtime (a : Nat) : Nat := if 128 ≤ a then ((2 * a) ^^^ 0x11B) else 2 * a

/-- Multiply in GF(2^8): `n` bits of `a` remain. -/
def mulBits : Nat → Nat → Nat → Nat
  | 0, _, _ => 0
  | n + 1, a, b => (if a % 2 = 1 then b else 0) ^^^ mulBits n (a / 2) (xtime b)
def mul (a b : Nat) : Nat := mulBits 8 a b

/-- The inverse, x^254; 0 for 0. -/
def inv (x : Nat) : Nat :=
  let x2 := mul x x
  let x4 := mul x2 x2
  let x8 := mul x4 x4
  let x16 := mul x8 x8
  let x32 := mul x16 x16
  let x64 := mul x32 x32
  let x128 := mul x64 x64
  mul x128 (mul x64 (mul x32 (mul x16 (mul x8 (mul x4 x2)))))

def rotl (x k : Nat) : Nat := (x <<< k ||| x >>> (8 - k)) % 256
/-- SubBytes and its inverse on one byte. -/
def sub (x : Nat) : Nat :=
  let b := inv x
  b ^^^ rotl b 1 ^^^ rotl b 2 ^^^ rotl b 3 ^^^ rotl b 4 ^^^ 0x63
def unsub (x : Nat) : Nat := inv (rotl x 1 ^^^ rotl x 3 ^^^ rotl x 6 ^^^ 0x05)

/-- The bytes of a block or a word, byte 0 first, and back. -/
def toBytes (n x : Nat) : List Nat := (List.range n).map (fun i => x / 256 ^ i % 256)
def ofBytes (bs : List Nat) : Nat := bs.foldr (fun b acc => b + 256 * acc) 0
def mapBytes (f : Nat → Nat) (n x : Nat) : Nat := ofBytes ((toBytes n x).map f)

/-- Words of the key schedule, latest first, `n` more to make; `rc` is the next round constant. -/
def expand : Nat → Nat → List Nat → List Nat
  | 0, _, ws => ws
  | n + 1, rc, ws =>
    let i := ws.length
    let prev := ws.headD 0
    let t := if i % 8 = 0 then mapBytes sub 4 (prev / 256 + prev % 256 * 2 ^ 24) ^^^ rc
      else if i % 8 = 4 then mapBytes sub 4 prev else prev
    expand n (if i % 8 = 0 then xtime rc else rc) ((t ^^^ ws.getD 7 0) :: ws)

/-- The fifteen round keys of a 256-bit key. -/
def roundKeys (key : BitVec 256) : List Nat :=
  let ws := (expand 52 1 ((List.range 8).map (fun i => key.toNat / 2 ^ (32 * i) % 2 ^ 32)).reverse).reverse
  (List.range 15).map (fun r => (List.range 4).foldl (fun acc c => acc + ws.getD (4 * r + c) 0 * 2 ^ (32 * c)) 0)

/-- ShiftRows on the 16 bytes: byte 4c + r comes from column c + r; and its inverse. -/
def shiftRows (x : Nat) : Nat :=
  let b := toBytes 16 x
  ofBytes ((List.range 16).map (fun i => b.getD ((i + 4 * (i % 4)) % 16) 0))
def unshiftRows (x : Nat) : Nat :=
  let b := toBytes 16 x
  ofBytes ((List.range 16).map (fun i => b.getD ((i + 16 - 4 * (i % 4)) % 16) 0))

/-- Multiply each column by a circulant matrix whose first row is given. -/
def mixWith (m : List Nat) (x : Nat) : Nat :=
  let b := toBytes 16 x
  ofBytes ((List.range 16).map (fun i =>
    (List.range 4).foldl (fun acc k => acc ^^^ mul (m.getD ((k + 4 - i % 4) % 4) 0) (b.getD (i / 4 * 4 + k) 0)) 0))

def encRounds : List Nat → Nat → Nat
  | [], x => x
  | [k], x => shiftRows (mapBytes sub 16 x) ^^^ k
  | k :: ks, x => encRounds ks (mixWith [2, 3, 1, 1] (shiftRows (mapBytes sub 16 x)) ^^^ k)

/-- AES-256 of one block. -/
def encrypt (key : BitVec 256) (x : Nat) : Nat :=
  match roundKeys key with
  | [] => x
  | k :: ks => encRounds ks (x ^^^ k)

def decRounds : List Nat → Nat → Nat
  | [], x => x
  | [k], x => x ^^^ k
  | k :: ks, x => decRounds ks (mapBytes unsub 16 (unshiftRows (mixWith [14, 11, 13, 9] (x ^^^ k))))

/-- The inverse cipher. -/
def decrypt (key : BitVec 256) (x : Nat) : Nat :=
  match (roundKeys key).reverse with
  | [] => x
  | k :: ks => decRounds ks (mapBytes unsub 16 (unshiftRows (x ^^^ k)))

/-- Multiply a tweak by α (IEEE Std 1619). -/
def tweakDouble (t : Nat) : Nat := if bit t 127 then ((2 * t) % 2 ^ 128) ^^^ 0x87 else 2 * t
def tweaks : Nat → Nat → List Nat
  | 0, _ => []
  | n + 1, t => t :: tweaks n (tweakDouble t)

/-- XTS of the four blocks of a line under tweak value `i` with one block operation. -/
def xts (block : Nat → Nat) (k2 : BitVec 256) (i : Nat) (line : BitVec 512) : BitVec 512 :=
  BitVec.ofNat 512 (((tweaks 4 (encrypt k2 i)).zipIdx).foldl (fun acc tj =>
    acc + (block ((line.toNat / 2 ^ (128 * tj.2) % 2 ^ 128) ^^^ tj.1) ^^^ tj.1) * 2 ^ (128 * tj.2)) 0)

/-- A block's bytes in reverse: GHASH takes byte 0 as the most significant. -/
def swap16 (x : Nat) : Nat := ofBytes (toBytes 16 x).reverse

/-- Multiply in GHASH's field, the most significant bit first: `n` bits of `x` remain. -/
def ghashMul : Nat → Nat → Nat → Nat → Nat
  | 0, _, _, z => z
  | n + 1, x, v, z => ghashMul n x (if v % 2 = 1 then (v / 2) ^^^ (0xE1 <<< 120) else v / 2) (if bit x n then z ^^^ v else z)

/-- GHASH of the four blocks of a line. -/
def ghash (h : Nat) (line : BitVec 512) : Nat :=
  swap16 ((List.range 4).foldl (fun y j => ghashMul 128 (y ^^^ swap16 (line.toNat / 2 ^ (128 * j) % 2 ^ 128)) (swap16 h) 0) 0)

end Aes

end Sys2Proof.Machine
end

