-- ==== Sys2Proof/Machine/Gcm.lean ====
section
/-! DEFINITION. AES-256-GCM (NIST SP 800-38D) over byte lists, as the debug mailbox uses it (spec/17_debug_run_control.md R506). The
manual names the algorithm and does not restate it (PRESUMED, log entry 40). -/

namespace Sys2Proof.Machine

namespace Gcm

def aes (key : BitVec 256) (block : List Byte) : List Byte := leBytes 16 (Aes.encrypt key (leNat block))

/-- Blocks of 16 bytes, the last padded with zeros; `n` bounds their number. -/
def blocks : Nat → List Byte → List (List Byte)
  | 0, _ => []
  | _, [] => []
  | n + 1, bs => (bs.take 16 ++ List.replicate (16 - bs.length) 0) :: blocks n (bs.drop 16)

def ghash (h : Nat) (bs : List (List Byte)) : Nat :=
  bs.foldl (fun y b => Aes.ghashMul 128 (y ^^^ beNat b) h 0) 0

/-- The counter mode from counter `c` on. -/
def ctr (key : BitVec 256) (iv : List Byte) : Nat → List (List Byte) → List Byte
  | _, [] => []
  | c, b :: bs => ((b.zip (aes key (iv ++ beBytes 4 c))).map (fun x => x.1 ^^^ x.2)) ++ ctr key iv (c + 1) bs

/-- Encrypt or decrypt. -/
def crypt (key : BitVec 256) (iv text : List Byte) : List Byte :=
  (ctr key iv 2 (blocks (text.length + 1) text)).take text.length

/-- The tag of associated data and a ciphertext. -/
def tag (key : BitVec 256) (iv aad text : List Byte) : List Byte :=
  let h := beNat (aes key (List.replicate 16 0))
  let lens := beBytes 8 (8 * aad.length) ++ beBytes 8 (8 * text.length)
  let y := ghash h (blocks (aad.length + 1) aad ++ blocks (text.length + 1) text ++ [lens])
  beBytes 16 (y ^^^ beNat (aes key (iv ++ beBytes 4 1)))

end Gcm

end Sys2Proof.Machine
end

