-- ==== Sys2Proof/Machine/Store.lean ====
section
/-! DEFINITION. Sparse storage: a list of key and value pairs in one canonical form, keys strictly rising and no entry
equal to what an unlisted key reads as. Every register, memory and per-instance record of the block is held so. -/

namespace Sys2Proof.Machine

/-- A sparse map from natural numbers. What an unlisted key reads as is given at each read. -/
abbrev SMap (α : Type) := List (Nat × α)

namespace SMap

/-- The entry of a key. -/
def find {α : Type} : SMap α → Nat → Option α
  | [], _ => none
  | (k', v) :: m, k => if k' = k then some v else find m k

/-- The value of a key, or what unlisted keys read as. -/
def read {α : Type} (d : α) (m : SMap α) (k : Nat) : α := (find m k).getD d

/-- Enter a value at its place in rising key order. -/
def enter {α : Type} : SMap α → Nat → α → SMap α
  | [], k, v => [(k, v)]
  | (k', v') :: m, k, v =>
    if k < k' then (k, v) :: (k', v') :: m
    else if k' = k then (k, v) :: m
    else (k', v') :: enter m k v

/-- Remove a key's entry. -/
def drop {α : Type} : SMap α → Nat → SMap α
  | [], _ => []
  | (k', v) :: m, k => if k' = k then drop m k else (k', v) :: drop m k

/-- Write a value: writing what an unlisted key reads as removes the entry, so that equal contents are equal data. -/
def write {α : Type} [DecidableEq α] (d : α) (m : SMap α) (k : Nat) (v : α) : SMap α :=
  if v = d then drop m k else enter m k v

/-- Keys above a bound and strictly rising. -/
def risingFrom {α : Type} : Option Nat → SMap α → Bool
  | _, [] => true
  | lo, (k, _) :: m => (match lo with | none => true | some b => decide (b < k)) && risingFrom (some k) m

/-- The canonical form: keys strictly rising, no entry equal to the default. -/
def wf {α : Type} [DecidableEq α] (d : α) (m : SMap α) : Bool :=
  risingFrom none m && m.all (fun e => decide (e.2 ≠ d))

/-- Keep the entries whose key a test accepts. -/
def keep {α : Type} (p : Nat → Bool) (m : SMap α) : SMap α := m.filter (fun e => p e.1)

end SMap

end Sys2Proof.Machine
end

