-- ==== Sys2Proof/Machine/State.lean ====
section
/-! DEFINITION. The state of the block as plain data: every register in one store, and beside it, family by family, what
the chapters give the hardware that no register shows whole. The queue of waiting commands is first in, first out. -/

namespace Sys2Proof.Machine

/-- How a PCIe request ends: successful completion or Unsupported Request (R41, R42, R61). -/
inductive Completion
  | sc | ur
  deriving DecidableEq, Repr

/-- The indirect access an I²C command has started (R64). -/
structure IaOp where
  write : Bool
  peek : Bool
  autoInc : Bool
  deriving DecidableEq, Repr

/-- The hub's access path: who unlocked which page, what the last request answered, and the I²C target's registers. -/
structure HubState where
  /-- The origin that moved a page's `EXPERT_KEY.STATE` out of LOCKED, by page (R48). -/
  expertOrigin : SMap (Option Origin) := []
  /-- The words the last read request returned (R42). -/
  readData : List Word := []
  /-- The byte enables of those words: a PCIe read returns the enabled bytes only (R42). -/
  readEnables : List (BitVec 4) := []
  /-- How the last request ended. -/
  completion : Completion := .sc
  /-- `IA_ADDR`, `IA_DATA`, the `IA_CMD` last written, and `IA_STAT` (R63). -/
  iaAddr : Word := 0
  iaData : Word := 0
  iaCmd : Byte := 0
  iaFault : Bool := false
  iaDenied : Bool := false
  /-- The access in progress; BUSY is 1 while there is one (R64). -/
  iaOp : Option IaOp := none
  /-- Whether the target NACKed the last I²C write (R64, R474). -/
  nack : Bool := false
  /-- Posted PCIe writes logged as Unsupported Request (R41, R42, R61). -/
  urLogged : Nat := 0
  deriving DecidableEq, Repr

/-- The logic fabric of the four fabric dies. Keys are packed in the orders the operations of Machine/Fabric.lean give. -/
structure FabricState where
  /-- Configuration frames by frame key: tile frames of tiles 0 to 127, block frames as tile 128 (R101, R102, R428). -/
  frames : SMap (BitVec 1024) := []
  /-- Which frames have been written since the cells were last lost (R109). -/
  written : SMap Bool := []
  /-- Flop contents by flop key (R70, R71). -/
  flops : SMap Bool := []
  /-- Wire register contents by segment-end key (R87, R88). -/
  wires : SMap Bool := []
  /-- Sectors that start-up has released (R98). -/
  released : SMap Bool := []
  /-- Rising edges of each track since the last GSR cause ended, up to 3 (R99). -/
  edges : SMap Nat := []
  /-- The old source of a switching track that may still pass one edge of it (R96). -/
  oldEdge : SMap (Option Nat) := []
  /-- How many rising edges each track has had (the model's own count: it tells which accesses are of one edge). -/
  count : SMap Nat := []
  deriving DecidableEq, Repr

/-- A swap in progress on a module (R127): direction, position, the wire it leaves, and the spare it goes to. -/
structure WireSwap where
  dir : Nat
  pos : Nat
  old : Nat
  spare : Nat
  deriving DecidableEq, Repr

/-- What the hub holds of one physical module beside its registers. Index 0 of a pair is hub to die, 1 die to hub. -/
structure LinkModule where
  /-- Forwarded clocks that failed to lock (R119, R120). -/
  clkFail : Bool × Bool := (false, false)
  /-- Wires the hub found not good in WIRE_TEST (R120). -/
  hubBad : Nat × Nat := (0, 0)
  /-- The map that MAP_ASSIGN carried, until TRAIN_DONE answers (R122). -/
  sent : Option WireMap × Option WireMap := (none, none)
  /-- The map the die applied (R122). -/
  applied : Option WireMap × Option WireMap := (none, none)
  /-- Directions whose maps agree in this attempt (R122). -/
  agreed : Bool × Bool := (false, false)
  /-- Directions that run at half width (R129). -/
  half : Bool × Bool := (false, false)
  /-- The rotation step p of the wire audit (R125). -/
  auditPos : Nat × Nat := (0, 0)
  /-- Suspect wires in their retry, as direction and wire (R126, R598). -/
  suspects : List (Nat × Nat) := []
  /-- The running swap (R127). -/
  swap : Option WireSwap := none
  /-- Wires classed lasting that wait for it (R140). -/
  waiting : List (Nat × Nat) := []
  deriving DecidableEq, Repr

/-- One direction of a Skein module: its transmitter's replay buffer and its receiver (R131, R132). -/
structure LinkDir where
  /-- The next `LSEQ` to number a flit with. -/
  nextSeq : Nat := 0
  /-- Flits not yet acknowledged, oldest first, with their `LSEQ`. -/
  buffer : List (Nat × Flit) := []
  /-- The `LSEQ` from which the transmitter sends next. -/
  sendSeq : Nat := 0
  /-- The `LSEQ` the receiver expects, and whether it has accepted one: `ACK_VALID` (R118). -/
  expected : Nat := 0
  ackValid : Bool := false
  /-- The slot of the expected `LSEQ` has failed once (R133). -/
  failedOnce : Bool := false
  /-- It has failed twice: the module is classed lasting (R133). -/
  failedTwice : Bool := false
  /-- `NAK_VALID` of the next frame back (R132). -/
  nak : Bool := false
  /-- `NAK_SEQ` as the transmitter has received it with `NAK_VALID` (R132). -/
  nakIn : Option Nat := none
  /-- Slot 1 of the frame being received: its bits, the `LSEQ` its transmitter put there, and whether the frame's `MARK` and `SEQ4`
  were right (R117, R118). -/
  second : Option (BitVec 640 × Option Nat × Bool) := none
  /-- Flits accepted, in order, that the receiving router has not taken yet. -/
  rx : List Flit := []
  deriving DecidableEq, Repr

/-- The Lomum ports' state beside their registers. -/
structure LinkState where
  /-- By port and physical module. -/
  modules : SMap LinkModule := []
  /-- By port, logical module and direction. -/
  dirs : SMap LinkDir := []
  /-- Ports whose reserve is marked not usable (R129). -/
  reserveBad : SMap Bool := []
  /-- The physical module that a port's planned move copies, and the direction that failed (R128). -/
  move : SMap (Option (Nat × Nat)) := []
  /-- Ports whose last Skein module is DOWN (R129). -/
  skeinLost : SMap Bool := []
  /-- Logical crossing module directions whose service is lost (R130). -/
  lost : SMap Bool := []
  /-- Ports whose unused reserve trains in the background: 1 WIRE_TEST, 2 FRAME_LOCK, 0 not (R128). -/
  background : SMap Nat := []
  deriving DecidableEq, Repr

/-- A crossing frame as its receiver has checked it. -/
structure CrossFrame where
  payload : BitVec 1536
  failed : Bool
  /-- Poisoned by the hub: `FCRC` inverted bit by bit (R155). -/
  poisoned : Bool
  /-- Source port and logical module of the first failed group, if poisoned (R163). -/
  srcDie : Nat
  srcMod : Nat
  /-- The span cycle whose launch it carries (R143). -/
  cycle : Nat := 0
  deriving DecidableEq, Repr

/-- A frame of a crossing module direction between its transmitter and its receiver (R115, R116, R145). -/
structure TxFrame where
  payload : BitVec 1536
  /-- `FCRC` is sent inverted bit by bit: the hub's poison, or a poison test on the way to the hub (R155, R164). -/
  poisoned : Bool := false
  /-- Source port and logical module of the first failed group, if poisoned by the hub (R163). -/
  srcDie : Nat := 0
  srcMod : Nat := 0
  /-- A data frame by its place among the frames, with the span cycle whose launch it carries; or an IDLE frame (R145). -/
  data : Bool := true
  cycle : Nat := 0
  /-- The framing word, and the map of the module direction it is sent on (R115, R116). -/
  framing : BitVec 64 := 0
  map : WireMap := { mask := 0, assign := 0 }
  /-- It crossed the module in the window of a sudden move (R128). -/
  lost : Bool := false
  deriving DecidableEq, Repr

/-- One side of a span channel (R150, R151). -/
structure SpanSide where
  tx : List DWord := []
  rx : List DWord := []
  /-- The entry that goes out with `VALID` in the next span cycle, and how many credits are still to be returned (R149, R151). -/
  out : Option DWord := none
  owed : Nat := 0
  /-- The entry the fabric read last. -/
  rdata : DWord := 0
  /-- The write and the read that the last edges of `WCLK` and `RCLK` have taken (R150). -/
  wDue : Option DWord := none
  rDue : Bool := false
  deriving DecidableEq, Repr

/-- A crossing port slice or lane-die crossing module: its launch registers and what it presents (R141, R142, R156). -/
structure Slice where
  launch : BitVec 1536 := 0
  arrival : BitVec 1536 := 0
  crossErr : Bool := false
  /-- What it presented before its last edge, and the span cycle count of that edge plus 1 (the model's own: an edge of a track in
  the same span cycle still samples it, R143). -/
  old : BitVec 1536 := 0
  oldErr : Bool := false
  edge : Nat := 0
  /-- The payload of the last good data frame since the slice left GSR. -/
  lastGood : BitVec 1536 := 0
  /-- Frames received and checked, oldest first. -/
  landing : List CrossFrame := []
  deriving DecidableEq, Repr

/-- Span crossings: frames on their way, slices, span channels, and what the crossing map says. Keys name a die and a
logical module, or a die and a span channel port, and a direction where there is one. -/
structure SpanState where
  /-- The frame of this span cycle from each source module, as the hub checked it. -/
  hubRx : SMap (Option CrossFrame) := []
  /-- Frames between transmitter and receiver of each module direction, oldest first. -/
  flight : SMap (List TxFrame) := []
  slices : SMap Slice := []
  channels : SMap SpanSide := []
  /-- `SEQ4` that each transmitter sends next, and that each receiver expects next (R116, R117). -/
  txSeq : SMap Nat := []
  seq4 : SMap Nat := []
  /-- Receivers whose last frame failed and that await the retry frame (R157). -/
  awaiting : SMap Bool := []
  /-- Module directions that run the audit lap of R157; true when the hub classified the failure. -/
  laps : SMap (Option Bool) := []
  /-- The crossing map's receiver masks, by destination module (R160). -/
  receivers : SMap Nat := []
  deriving DecidableEq, Repr

/-- What a port of a dual-port block did at an edge, for the collisions of R175. -/
structure PortAccess where
  addr : Nat
  word : Nat
  write : Bool
  /-- The physical word as it stood before a write, and whether the write took the flip mask (R224). -/
  old : BitVec 72
  masked : Bool
  /-- The number of the edge of its track. -/
  edge : Nat
  deriving DecidableEq, Repr

/-- What a port of a dual-port block takes at an edge: its inputs as they stood before it (R167, R170). -/
structure DpbIn where
  we : Bool
  addr : Nat
  din : DWord
  deriving DecidableEq, Repr

/-- A merge write after its first edge: the word, the merged data, and whether its second edge has come (R173). -/
structure MergeWrite where
  word : Nat
  value : DWord
  ripe : Bool
  deriving DecidableEq, Repr

/-- The output register of a port of a dual-port block (R171). -/
structure DpbOut where
  dout : DWord := 0
  busy : Bool := false
  cstat : BitVec 2 := 0
  deriving DecidableEq, Repr

/-- A port of a dual-port block: its outputs, the output register that `OREG` = 1 puts behind them, the access the last edge has taken and
no command has performed yet, the merge write whose store follows, and its last access and its last store of a merge write. -/
structure DpbPort where
  dout : DWord := 0
  busy : Bool := false
  cstat : BitVec 2 := 0
  oreg : DpbOut := {}
  due : Option DpbIn := none
  merge : Option MergeWrite := none
  last : Option PortAccess := none
  stored : Option PortAccess := none
  deriving DecidableEq, Repr

/-- The output register of a port of a banked block (R180). -/
structure BkbOut where
  dvalid : Bool := false
  dout : DWord := 0
  aovf : BitVec 2 := 0
  cstat : BitVec 2 := 0
  deriving DecidableEq, Repr

/-- A request that a port of a banked block takes at an edge: its inputs as they stood before it (R179, R180). -/
structure BkbIn where
  op : Nat
  addr : Nat
  be : Nat
  din : DWord
  deriving DecidableEq, Repr

/-- A port of a banked block: its registered outputs (R179), the output register that `OREG` = 1 puts behind them, and the request the
last edge has taken and no command has performed yet. `STALL` is formed from the request presented (R180). -/
structure BkbPort where
  dvalid : Bool := false
  dout : DWord := 0
  aovf : BitVec 2 := 0
  cstat : BitVec 2 := 0
  oreg : BkbOut := {}
  due : Option BkbIn := none
  deriving DecidableEq, Repr

/-- The second cycle of a bank: the word, what is stored (nothing when the read found no good word), whether port B's operation it is, and
whether the edge that stores it has come (R181, R184). -/
structure BankStore where
  word : Nat
  value : Option DWord
  portB : Bool := false
  ripe : Bool := false
  deriving DecidableEq, Repr

/-- A queue controller (R186 to R192): where the next write and read go, the two levels, for each write and read that has not yet counted
on the other side how many edges of the other side's clock it has seen, the write and read that the last edge has taken and no
command has performed yet, a BKB's staging buffer, the outputs, `QRST`, and the edges each side still waits for after it. -/
structure Queue where
  wptr : Nat := 0
  rptr : Nat := 0
  wLevel : Nat := 0
  rLevel : Nat := 0
  wPend : List Nat := []
  rPend : List Nat := []
  wDue : Option DWord := none
  rDue : Bool := false
  /-- Entries of a BKB that have not reached the banks: address and data, oldest first (R190). -/
  stage : List (Nat × DWord) := []
  ovf : Bool := false
  udf : Bool := false
  qrst : Bool := false
  wWait : Nat := 0
  rWait : Nat := 0
  deriving DecidableEq, Repr

/-- The on-chip memories with their codes (R166 to R227). A bank is named by its integrity page and bank index q; keys of
words, parity words, remap entries and pages follow from it (Machine/Banks.lean). -/
structure MemState where
  /-- Stored words: data in bits 63 to 0, check bits in bits 71 to 64 (R202). -/
  cells : SMap (BitVec 72) := []
  /-- Parity words (R201). -/
  parity : SMap (BitVec 72) := []
  /-- Spare words of the remap tables (R218). -/
  spares : SMap (BitVec 72) := []
  /-- Stale bits of pages (R208). -/
  stale : SMap Bool := []
  /-- Repair queues, oldest first (R209): a word's address, or 1,024 plus the number of a parity word. -/
  repair : SMap (List Nat) := []
  /-- Queued words that a port has written since they were queued (R211). -/
  superseded : SMap Bool := []
  /-- The page the scrubber's walk stands at (R215). -/
  walk : SMap Nat := []
  /-- Each bank's latest completed lap in microseconds (R216). -/
  lapLast : SMap Nat := []
  /-- Banks whose running lap has passed the limit (R216). -/
  slowed : SMap Bool := []
  /-- The test access in progress of an integrity page: true for a write (R223). -/
  test : SMap (Option Bool) := []
  dpb : SMap DpbPort := []
  bkb : SMap BkbPort := []
  /-- Banks in their second cycle (R181). -/
  busy : SMap (Option BankStore) := []
  queues : SMap Queue := []
  deriving DecidableEq, Repr

/-- An accumulator of a DSP slice or of an engine's DSP extension (R234 to R240, R267). -/
structure Acc where
  acc : DWord := 0
  nexp : BitVec 8 := 0
  ov : Bool := false
  deriving DecidableEq, Repr

/-- What a move presents (R237, R240). -/
structure MoveOut where
  y : DWord := 0
  expc : BitVec 6 := 0
  nexp : BitVec 8 := 0
  lim : Bool := false
  deriving DecidableEq, Repr

/-- What the latest operation of a slice leaves, as one edge of its clock passes it down the pipeline (R231). -/
structure DspStage where
  acc : Acc := {}
  out : MoveOut := {}
  psat : Bool := false
  /-- The operation moved. -/
  moved : Bool := false
  deriving DecidableEq, Repr

/-- What a slice takes at an edge: its inputs as they stood before it, with `CIN` and the coefficient its pointer named then (R231, R242,
R244, R245), and which parts of it no command has performed yet. -/
structure DspDue where
  a : BitVec 27
  b : BitVec 27
  d : BitVec 27
  aop : Nat
  move : Bool
  cin : Int
  coef : BitVec 27
  /-- `CRST` at this edge, which no advance changes (R242). -/
  rst : Bool
  cwaddr : Nat
  cwdata : BitVec 27
  op : Bool := true
  crst : Bool := false
  cnext : Bool := false
  cwe : Bool := false
  deriving DecidableEq, Repr

/-- A DSP slice: accumulator, product register and move of its operations, the three stages behind which its outputs stand (R231),
and the coefficient pointer (none while it is `CPTR0`, R247). -/
structure DspSlice where
  acc : Acc := {}
  p : DWord := 0
  out : MoveOut := {}
  psat : Bool := false
  moved : Bool := false
  due : Option DspDue := none
  one : DspStage := {}
  two : DspStage := {}
  three : DspStage := {}
  ptr : Option (BitVec 4) := none
  deriving DecidableEq, Repr

/-- The DSP slices (R228 to R251), by die, sector and slice, and their coefficient files. -/
structure DspState where
  slices : SMap DspSlice := []
  coef : SMap (BitVec 27) := []
  deriving DecidableEq, Repr

/-- The architectural state of an engine's core (R257, R259, R267, R268, R272). -/
structure EngCore where
  /-- Integer registers x1 to x31; x0 reads 0. -/
  regs : SMap Word := []
  pc : Word := 0
  /-- `mstatus.MIE`, `mstatus.MPIE` and `mie.MEIE`. -/
  mie : Bool := false
  mpie : Bool := false
  meie : Bool := false
  mtvec : Word := 0
  mepc : Word := 0
  mcause : Word := 0
  mtval : Word := 0
  mscratch : Word := 0
  mcycle : DWord := 0
  minstret : DWord := 0
  acc0 : Acc := {}
  acc1 : Acc := {}
  /-- `EXPC` and `LIM` of the last `DMOV` of each accumulator. -/
  expc0 : BitVec 6 := 0
  expc1 : BitVec 6 := 0
  lim0 : Bool := false
  lim1 : Bool := false
  /-- CSRs 0x7C0, 0x7C1 and 0x7C4 to 0x7D3 that do not hold their reset value. -/
  csrs : SMap Word := []
  /-- The scratchpad word under reservation (R259). -/
  resv : Option Nat := none
  /-- The interrupt controller's current level, none for -1, and the stack of levels (R272). -/
  level : Option Nat := none
  stack : List (Option Nat) := []
  deriving DecidableEq, Repr

/-- A remote load that blocks the engine (R265): destination register, width and sign, window, tag, local address and the length
of the instruction. -/
structure RemoteLoad where
  rd : Nat
  funct3 : Nat
  win : Nat
  tag : Nat
  addr : Word
  len : Nat
  deriving DecidableEq, Repr

/-- A DMA descriptor in progress (R277 to R279). -/
structure DmaDesc where
  index : Nat
  prio : Nat
  irq : Bool
  srcLocal : Bool
  dstLocal : Bool
  src : Nat
  srcEp : Nat
  dst : Nat
  dstEp : Nat
  len : Nat
  moved : Nat := 0
  resp : Nat := 0
  done : Bool := false
  /-- The tag of its request on the network, and the bytes read that wait to be written. -/
  tag : Option Nat := none
  held : List Byte := []
  deriving DecidableEq, Repr

/-- A posted store that waits for an earlier one of its window (R265): window, priority, target endpoint and offset, and its bytes. -/
structure PostedStore where
  win : Nat
  prio : Nat
  dst : Nat
  offset : Nat
  bytes : List Byte
  deriving DecidableEq, Repr

/-- A substitution requested and not done (R286 to R288): the state to return to, whether a lasting error asks for it, who asked, the
engine to copy from, and whether its pair resumes after it. -/
structure Subst where
  back : Nat
  lasting : Bool
  origin : Origin
  source : Nat
  pair : Bool
  deriving DecidableEq, Repr

/-- A Spindle engine beside its registers and memories. -/
structure Engine where
  core : EngCore := {}
  /-- The remote load in progress, the posted stores on the network, each as its tag and window, and those that wait (R265). -/
  load : Option RemoteLoad := none
  stores : List (Nat × Nat) := []
  posted : List PostedStore := []
  /-- Cause of the halt requested (R283). -/
  haltCause : Nat := 0
  /-- The substitution requested (R287). -/
  subst : Option Subst := none
  /-- The watchdog has warned since the last kick (R275). -/
  wdtWarned : Bool := false
  /-- Sources 3 and 9 raised and not yet claimed (R266, R271). -/
  dmaIrq : Bool := false
  storeErr : Bool := false
  /-- Descriptors in progress, in ring order; one has failed, and no new one starts (R279). -/
  dma : List DmaDesc := []
  dmaStopping : Bool := false
  vtOut : List Byte := []
  vtIn : List Byte := []
  /-- Registers whose stored copy `ENG_TEST.RF_FLIP` has inverted a bit of, and that bit (R290). -/
  rfFlipped : List (Nat × Nat) := []
  /-- A single step in progress halts at the next instruction boundary (R512). -/
  stepping : Bool := false
  deriving DecidableEq, Repr

/-- The engines, by logical number, and what instruction fetch still sees of IMEM words written since the last FENCE.I
(R263). -/
structure EngineState where
  engines : SMap Engine := []
  fetchOld : SMap (Option (BitVec 72)) := []
  deriving DecidableEq, Repr

/-- A flit in the network, with whether it holds its network's saturation token (R305). -/
structure SkFlit where
  flit : Flit
  token : Bool := false
  deriving DecidableEq, Repr

/-- What a source endpoint wants with the response to a request. -/
inductive ReqUse
  /-- A remote load or posted store of an engine's core (R265, R266). -/
  | load
  | store (win : Nat)
  /-- A read or write of descriptor `index` of an engine's DMA, moving `n` bytes (R277). -/
  | dmaRead (index n : Nat)
  | dmaWrite (index n : Nat)
  /-- A request the fabric issued at an attach port (R311). -/
  | fabric
  /-- Request `k` of the debug master's command (R516). -/
  | debug (k n : Nat)
  /-- A request of the debug master whose command has ended with its session: its response is discarded (R523). -/
  | forgotten
  /-- A RELEASE of a lane adapter's firing (R345). -/
  | release
  deriving DecidableEq, Repr

/-- A request of an endpoint: its tag, priority, flits for the retry, and how far it has come (R308, R309): it has been injected, it has been
sent again, its response has been ejected. -/
structure SkReq where
  tag : Nat
  prio : Nat
  flits : List Flit
  use : ReqUse
  sent : Bool := false
  retried : Bool := false
  answered : Bool := false
  deriving DecidableEq, Repr

/-- A lone flit of a line-write pair that a target holds (R299). -/
structure LoneFlit where
  src : Nat
  tag : Nat
  flit : Flit
  deriving DecidableEq, Repr

/-- An endpoint and its local port (R306 to R312). -/
structure SkEnd where
  /-- Queues from the router: responses, each with whether it answers an outstanding request, urgent requests, requests (R307, R310). -/
  respQ : List (Bool × Flit) := []
  urgQ : List Flit := []
  reqQ : List Flit := []
  /-- Flits that wait to be injected, oldest first, and the swap slot (R306). -/
  txQ : List Flit := []
  swap : Option SkFlit := none
  /-- Requests in order of issue until their source has dealt with the response, and tags in quarantine (R308, R310). -/
  outstanding : List SkReq := []
  quarantine : List Nat := []
  lone : List LoneFlit := []
  /-- Messages delivered to a hard endpoint's receiver, each with its retry mark (R309). -/
  inbox : List (Bool × Flit) := []
  /-- The flit that a fabric attach port has taken at the last edge of its track, and the `RKIND` of the one it has delivered at that edge
(R311). -/
  tDue : Option Flit := none
  rDue : Option Nat := none
  /-- Requests delivered to the fabric that it has not answered, by source and tag (R317). -/
  owed : List (Nat × Nat) := []
  deriving DecidableEq, Repr

/-- A router's cycle: the outputs taken in it, best rank first, each with the packet as it was before the hop, and the local ports that have
injected in it. -/
structure SkRouter where
  placed : List (Nat × SkFlit) := []
  injected : List Nat := []
  deriving DecidableEq, Repr

/-- The Skein network (R292 to R320). Links are named by the router and output that drive them. -/
structure SkeinState where
  links : SMap (List SkFlit) := []
  routers : SMap SkRouter := []
  ends : SMap SkEnd := []
  /-- Endpoints whose applied `SKR_PORT.EN` is 0, and by router the enables that a running reconfiguration applies (R316). -/
  off : SMap Bool := []
  latched : SMap Nat := []
  /-- Endpoints whose sleep a first request has found already (R318). -/
  asked : SMap Bool := []
  /-- By network: the saturation token is taken; the packet it is granted to and that has not used it yet; the requests for it, as router and
  packet (R305). -/
  taken : SMap Bool := []
  granted : SMap (Option Flit) := []
  wanted : SMap (List (Nat × Flit)) := []
  deriving DecidableEq, Repr

/-- A frame being sent or received: bytes still to skip before frame byte 0, and its bytes so far, of a frame being sent as many as the timestamp
needs. -/
structure SentFrame where
  skip : Nat
  head : List Byte
  deriving DecidableEq, Repr

/-- A lane beside its registers (R326 to R340). -/
structure LaneUnit where
  /-- The step of RETRAIN: 3 TRAIN, 4 ADAPT, 5 ALIGN; and whether a detected error started it (R328). -/
  phase : Nat := 3
  counted : Bool := false
  /-- The next valid received word carries `FIRST` = 1 (R333). -/
  firstDue : Bool := false
  /-- The receiver: the last PAM4 level, samples short of a bit, bits short of a block, character or raw word, bits that bit-slips still
  drop, the running disparity, and the descrambler (R323, R330, R338). -/
  rxPrev : Nat := 0
  rxOver : List Bool := []
  rxPend : List Bool := []
  rxSkip : Nat := 0
  rxDisp : Bool := false
  rxScr : BitVec 58 := 0
  /-- Stream bits received that no lane word has carried yet: how many, and those bits, the earliest lowest (R332). -/
  rxLen : Nat := 0
  rxBits : Nat := 0
  /-- The frame that the decoder is inside, the one that SUSPEND has set aside, and frames whose terminate block has left the decoder, oldest
  first (R342, R346). -/
  rxFrame : Option SentFrame := none
  rxHeld : Option SentFrame := none
  rxFrames : List (List Byte) := []
  /-- The status reported for the last coefficient update of link training (R329). -/
  ltStatus : BitVec 16 := 0
  /-- The lane word of the last span cycle, its `VALID` and `FIRST`, and that cycle's count plus 1 (R332, R333). -/
  word : Nat := 0
  valid : Bool := false
  first : Bool := false
  edge : Nat := 0
  /-- The encoder's running disparity, scrambler and last PAM4 level, and the symbols that the transmit balls carried last (R330, R339). -/
  txDisp : Bool := false
  txScr : BitVec 58 := 0
  txPrev : Nat := 0
  sent : List (BitVec 2) := []
  /-- An error that `ONE` asked for waits for the next bit sent, and the bits sent since the last one of `PERIOD` (R337). -/
  inject : Bool := false
  sentBits : Nat := 0
  /-- The transmit FIFO (R334): how many stream bits it holds, and those bits, the earliest lowest. -/
  txLen : Nat := 0
  txBits : Nat := 0
  /-- A word with `FIRST` = 1 has arrived since the lane entered UP (R334). -/
  aligned : Bool := false
  /-- The user frame that the encoder is inside, if any, and whether it is suspended (R346). -/
  frame : Option SentFrame := none
  suspended : Bool := false
  /-- The timestamp FIFO, oldest first: transmit or receive, and the timestamp (R340). -/
  stamps : List (Bool × DWord) := []
  /-- The checker's counts (R337). -/
  prbsErr : Nat := 0
  prbsBits : Nat := 0
  deriving DecidableEq, Repr

/-- The active copy of a reflex entry (R348). -/
structure RfxEntry where
  pat : DWord := 0
  mask : DWord := 0
  en : Bool := false
  checkFcs : Bool := false
  once : Bool := false
  lanes : Nat := 0
  offset : Nat := 0
  egrL : Bool := false
  egrLane : Nat := 0
  slot : Nat := 0
  copyLen : Nat := 0
  copyDst : Nat := 0
  copySrc : Nat := 0
  holdoff : Nat := 0
  deriving DecidableEq, Repr

/-- A firing: its entry, the ingress lane, what the entry said, and the copied bytes (R344, R345). -/
structure Firing where
  entry : Nat
  laneL : Bool
  lane : Nat
  act : RfxEntry
  copy : List Byte
  deriving DecidableEq, Repr

/-- A lane adapter beside its registers (R342 to R348). -/
structure AdapterUnit where
  active : SMap RfxEntry := []
  queue : List Firing := []
  /-- The firing whose release is outstanding. -/
  flight : Option Firing := none
  /-- Source and tag of the last 16 releases (R347). -/
  recent : List (Nat × Nat) := []
  /-- Responses in the encoder queues, oldest first: lane index and bytes (R346). -/
  responses : List (Nat × List Byte) := []
  deriving DecidableEq, Repr

/-- The lanes and adapters, by page. -/
structure LanesState where
  lanes : SMap LaneUnit := []
  adapters : SMap AdapterUnit := []
  deriving DecidableEq, Repr

/-- A request a DDR controller holds (R355, R371): a number the crypto engine knows it by, its line, priority, and the data of a
write; whether its read command has been issued, and whether a row has been opened for it. -/
structure DdrReq where
  id : Nat
  write : Bool
  line : Nat
  prio : Nat
  data : BitVec 512 := 0
  issued : Bool := false
  opened : Bool := false
  deriving DecidableEq, Repr

/-- One DRAM bank (R375, R378, R379). -/
structure DdrBank where
  /-- The open row, and the row last used. -/
  row : Option Nat := none
  last : Option Nat := none
  /-- The 2-bit page predictor. -/
  pred : Nat := 2
  /-- The rolling activate count. -/
  raa : Nat := 0
  /-- A DRFM sample waits: how many tREFI2 since it was taken. -/
  sample : Option Nat := none
  deriving DecidableEq, Repr

/-- A DRAM command as R381 reissues it: the row a bank is left with. -/
structure DdrCmd where
  bank : Nat
  row : Option Nat
  deriving DecidableEq, Repr

/-- A read whose line came back corrected or uncorrectable and waits for its one retry (R368). -/
structure DdrRetry where
  req : DdrReq
  burst : BitVec 640
  deriving DecidableEq, Repr

/-- A DDR channel beside its registers. -/
structure DdrUnit where
  /-- The step of R360 in progress, and whether the attempt is the retry of R361. -/
  step : Nat := 0
  retry : Bool := false
  /-- RETRAIN was entered on a second ALERT (R381). -/
  onAlert : Bool := false
  /-- The zero fill has written every line since the DRAM last lost its contents (R362). -/
  filled : Bool := false
  /-- Requests held, in order of acceptance. -/
  queue : List DdrReq := []
  /-- The write queue drains (R374). -/
  drain : Bool := false
  pending : Option DdrRetry := none
  /-- The answers that the last happening gave, in order: the request, its Skein code, and the line read. -/
  answers : List (Nat × Nat × BitVec 512) := []
  banks : SMap DdrBank := []
  /-- Refresh debts by rank and bank index (R376). -/
  debts : SMap Nat := []
  /-- Ranks that report double rate or more (R377). -/
  rates : List Nat := []
  /-- The last DRAM commands issued, latest first (R381). -/
  issued : List DdrCmd := []
  deriving DecidableEq, Repr

/-- The DDR channels, and DRAM contents: a line as its eight codewords of ten symbols (R366). An unlisted line of a filled channel
is as the zero fill wrote it. -/
structure DdrState where
  units : SMap DdrUnit := []
  lines : SMap (Option (BitVec 640)) := []
  deriving DecidableEq, Repr

/-- A loaded key slot (R395). -/
structure KeySlot where
  k1 : BitVec 256
  k2 : BitVec 256
  kt : BitVec 256
  deriving DecidableEq, Repr

/-- A region's tree key and root block (R398, R408, R415). -/
structure RegionRoot where
  kr : BitVec 256 := 0
  root : BitVec 512 := 0
  deriving DecidableEq, Repr

/-- A cached metadata line: its region; `level` 0 for a tag line, else the counter block of that level and index (R402). -/
structure MetaLine where
  region : Nat
  level : Nat
  index : Nat
  data : BitVec 512
  dirty : Bool
  deriving DecidableEq, Repr

/-- A crypto engine beside its registers. -/
structure CryptoUnit where
  slots : SMap (Option KeySlot) := []
  roots : SMap RegionRoot := []
  /-- The metadata cache, by line address. -/
  cache : SMap MetaLine := []
  /-- The slot the running Anneal moves its region to (R411). -/
  annealKey : Nat := 0
  /-- The region whose initialization runs (R408). -/
  init : Option Nat := none
  /-- The key command that runs: operation, slot and context (R409). -/
  keyCmd : Option (Nat × Nat × Nat) := none
  deriving DecidableEq, Repr

/-- The crypto engines, by channel. -/
structure CryptoState where
  units : SMap CryptoUnit := []
  deriving DecidableEq, Repr

/-- A section-table entry, with its index (R423). -/
structure BootSection where
  index : Nat
  type : Nat
  die : Nat
  target : Nat := 0x3F
  offset : Nat := 0
  len : Nat := 0
  tag : List Byte := []
  deriving DecidableEq, Repr

/-- A partial reload (R448). -/
structure Reload where
  die : Nat
  warm : Bool
  deriving DecidableEq, Repr

/-- The configuration controller beside its registers. -/
structure BootState where
  /-- An attempt runs, and the boot counter value it wrote (R436, R437). -/
  running : Bool := false
  attempt : Nat := 0
  /-- The header of the running load has been accepted (R421). -/
  checked : Bool := false
  /-- Start-up after a WARM_RESET, and the dies it does not load, by bit (R441). -/
  warm : Bool := false
  skipped : Nat := 0
  /-- Sections still to apply; the FRAMES section at their head has begun; records of it so far (R426, R427). -/
  sections : List BootSection := []
  opened : Bool := false
  entry : Nat := 0
  lastLiteral : Option (BitVec 1024) := none
  /-- Frames the open body has written, by frame address, and how many of kinds 0 and 1. -/
  written : SMap Bool := []
  count : Nat := 0
  /-- Dies the running load has written, and dies the last successful LOAD configured, by bit. -/
  touched : Nat := 0
  loaded : Nat := 0
  /-- The image key, which never leaves Hallmark (R422). -/
  ik : BitVec 256 := 0
  /-- How long the stream of the image is where its source tells, `TOTAL_LEN`, and the dies, by bit, whose bodies fall short of `DIE_LEN`
  (R424). -/
  streamLen : Option Nat := none
  totalLen : Nat := 0
  short : Nat := 0
  /-- The bytes of the open body, decrypted (R424). -/
  body : List Byte := []
  /-- Decrypted bodies of the fabric dies, by die (R449). -/
  bodies : SMap (List Byte) := []
  /-- The first line of each die's warm copy, and how many bytes of it a reload has taken (R449). -/
  warmStart : SMap Nat := []
  warmTaken : Nat := 0
  /-- Pages whose `CTL.EN` is held until their die's release (R432). -/
  heldEn : List Nat := []
  /-- Steps of the release sequence done: 0 to 3 for F0 to F3, 4 for the adapters (R443). -/
  releaseStep : Nat := 0
  reload : Option Reload := none
  /-- `IMAGE_VERSION` recorded with the boot (R420). -/
  version : Word := 0
  /-- The sector CRCs of the image, by sector (R433). -/
  sectorCrcs : SMap (Option Word) := []
  /-- Audit references by sector: 129 CRC values of lap 0 (R445). -/
  references : SMap (List Word) := []
  deriving DecidableEq, Repr

/-- The clocks beside their registers. -/
structure ClockState where
  /-- PLLs that are being relocked, with the role each had (R462). -/
  relock : List (Nat × Nat) := []
  /-- Roles that no locked PLL serves, 1 DREF and 2 LREF: the die-local PLLs hold over (R453, R461). -/
  unserved : List Nat := []
  /-- DREF has been lost for longer than the holdover: the Skein networks and the engines stand still (R463). -/
  stopped : Bool := false
  /-- The span cycle count at the latest moment that a command has named (R456). -/
  span : Nat := 0
  deriving DecidableEq, Repr

/-- The power controller and the supply monitors beside their registers. -/
structure PowerState where
  /-- 0 RUN, 1 HIBERNATE entry in progress, 2 HIBERNATE (R485, R486). -/
  hibernate : Nat := 0
  /-- The supplies are off after a thermal trip, until POR (R588). -/
  tripped : Bool := false
  /-- Domains whose last entry was aborted and that wait for `DROP` or a new vote (R480). -/
  aborted : SMap Bool := []
  /-- Domains whose running drop is forced, or that a shed or HIBERNATE entry will drop as soon as their children are OFF
  (R482, R493). -/
  forced : SMap Bool := []
  /-- The VAON warning and the warnings of the main rails, by bit, held in the AON island (R493). -/
  vaonWarn : Bool := false
  railWarn : Nat := 0
  deriving DecidableEq, Repr

/-- The resets in progress. -/
structure ResetState where
  /-- The 10 µs of a DEVICE_RESET run; of a WARM_RESET (R465). -/
  device : Bool := false
  warm : Bool := false
  /-- RESET_N has been accepted low and not yet released (R600). -/
  pin : Bool := false
  /-- Dies whose hard blocks are in the 10 µs hold of DIE_RESET, by bit (R468). -/
  hold : Nat := 0
  deriving DecidableEq, Repr

/-- An `OPEN` that waits for its authorization: level and method requested, and the nonce (R502, R505). -/
structure DbgOpening where
  level : Nat
  method : Nat
  nonce : BitVec 256
  deriving DecidableEq, Repr

/-- The debug master's command in progress (R516): what has been issued, and what has come back. -/
structure DbgTransfer where
  write : Bool
  ep : Nat
  offset : Nat
  length : Nat
  data : List Byte
  /-- Bytes whose requests have been issued, requests outstanding, the first response other than `OK`. -/
  issued : Nat := 0
  outstanding : Nat := 0
  fail : Option Nat := none
  /-- What has been read or written before it, as place and bytes. -/
  got : List (Nat × List Byte) := []
  deriving DecidableEq, Repr

/-- The mailbox, the session and the captures (R496 to R520). -/
structure DebugState where
  /-- `MB_PTR` of the I²C path (R500). -/
  ptr : Nat := 0
  /-- The origin of the request in progress. -/
  origin : Origin := .pcie
  opening : Option DbgOpening := none
  /-- The session key, none for a password session; the last `SEQ` accepted; tag failures (R505, R506). -/
  key : Option (BitVec 256) := none
  lastSeq : Nat := 0
  tagFails : Nat := 0
  /-- Operating seconds at the last failed authorization (R508). -/
  failedAt : Nat := 0
  transfer : Option DbgTransfer := none
  /-- The request was carried to a Ply worker, or came from the manager as a DEBUG_REQ (R555). -/
  forwarded : Bool := false
  /-- Sectors whose tracks a capture of the session stopped, by sector control page (R509). -/
  stopped : SMap Bool := []
  /-- Shadow words by sector control page, unit and word (R520). -/
  shadow : SMap Nat := []
  /-- Tracks that a capture has still to copy, and tracks that it holds, by sector control page (R517, R518). -/
  toCopy : SMap Nat := []
  held : SMap Nat := []
  /-- A session armed the sector's capture; a cross-trigger has fired it (R509, R515). -/
  armer : SMap Bool := []
  fired : SMap Bool := []
  /-- Engines whose halt request travels on the cross-trigger line (R515). -/
  line : List Nat := []
  /-- Engines that have resumed at an address where a breakpoint does not hit again yet (R511). -/
  passed : SMap Bool := []
  deriving DecidableEq, Repr

/-- One event record (R527), before it is laid out as bytes. -/
structure EvRec where
  seq : Nat
  code : Nat
  length : Nat
  flags : Nat
  source : Nat
  severity : Nat
  suppressed : Nat
  opsec : Nat
  pcc : Nat
  payload : List Byte
  deriving DecidableEq, Repr

/-- A class's token bucket (R533): its tokens, its pending and total suppressed counts, and the highest severity of the
records its pending count holds. A bucket starts full (`EVT_CLASS_STAT.TOKENS` resets to 0x10). -/
structure Bucket where
  tokens : Nat := 16
  pending : Nat := 0
  total : Nat := 0
  sev : Nat := 0
  deriving DecidableEq, Repr

/-- The event recorder and the time counters. -/
structure EventState where
  /-- Staged records, oldest first (R531). -/
  stage : List EvRec := []
  /-- The 256 KiB ring in MRAM, by ring offset (R531). -/
  ring : SMap Byte := []
  /-- Bytes of the ring from `EVT_OLDEST` to `EVT_HEAD`: tells a full ring from an empty one (R531). -/
  ringUsed : Nat := 0
  /-- Token buckets by class (R533). -/
  buckets : SMap Bucket := []
  /-- Records were lost since the last one stored (R528, R532). -/
  lostBefore : Bool := false
  /-- The 48-bit count of operating seconds (R524). -/
  opsec : Nat := 0
  /-- The life count, and its value at the last checkpoint (R585). -/
  life : Nat := 0
  lifeCkpt : Nat := 0
  deriving DecidableEq, Repr

/-- A Ply frame before encryption (R542). -/
structure PlyFrame where
  type : Nat
  flags : Nat := 0
  dst : Nat
  src : Nat
  payload : List Byte
  deriving DecidableEq, Repr

/-- One Ply port: its transmitter with the frames not yet acknowledged, its receiver, and the key exchange (R540, R541, R543). -/
structure PlyPort where
  /-- Frames that wait, in the order of R544. -/
  queue : List PlyFrame := []
  /-- The next `FCTR`; the last 16 frames sent that `ACK` has not covered, as `FCTR` and bytes; the frame put on the lane last. -/
  next : Nat := 1
  sent : List (Nat × List Byte) := []
  out : List Byte := []
  /-- The `FCTR` of the last frame accepted; the expected one has failed its tag once. -/
  last : Nat := 0
  failed : Bool := false
  /-- The keys of the two directions. -/
  keyTx : BitVec 256 := 0
  keyRx : BitVec 256 := 0
  /-- This end's ephemeral private key, the HELLO and HELLO_SIG payloads it has sent, and the peer's HELLO payload, in this exchange. -/
  eph : Nat := 0
  helloOut : List Byte := []
  sigOut : List Byte := []
  hello : Option (List Byte) := none
  /-- Failed exchanges; DOWN until `RESTART`. -/
  authFails : Nat := 0
  held : Bool := false
  deriving DecidableEq, Repr

/-- The Ply ring beside its registers. -/
structure PlyState where
  ports : SMap PlyPort := []
  /-- The manager's request in progress: its tag, its worker and payload, whether it has been sent again (R550). -/
  tag : Nat := 0
  request : Nat × List Byte := (0, [])
  retried : Bool := false
  /-- The last eight requests answered: source, tag and response payload. -/
  answers : List (Nat × Nat × List Byte) := []
  /-- `TOTAL_LEN` of the image the manager last loaded; its stream, as `TOTAL_LEN` and the offset of the next byte; that another stream follows;
  the stream number (R552). -/
  imageLen : Nat := 0
  streamAt : Option (Nat × Nat) := none
  streamAgain : Bool := false
  streamNo : Nat := 0
  /-- A worker's stream: its number, `TOTAL_LEN`, and the bytes received. -/
  stream : Option (Nat × Nat × Nat) := none
  /-- Wake patterns sent on PLY_N_TX (R549). -/
  wakes : Nat := 0
  deriving DecidableEq, Repr

/-- An entry of the spare ledger's history log (R565, R566). -/
structure HistEntry where
  kind : Nat
  page : Nat
  location : Nat
  what : Nat
  opsec : Nat
  pcc : Nat
  deriving DecidableEq, Repr

/-- The temperature sensors' vote: a suspect sensor awaits its re-read (R569). -/
structure SafetyState where
  /-- The history log (R565), oldest first; at most 1,024 entries. -/
  history : List HistEntry := []
  /-- Sequence numbers of the two ledger copies (R564). -/
  ledgerSeq0 : Nat := 0
  ledgerSeq1 : Nat := 0
  /-- MRAM sectors copied to a spare: sector and spare sector (R563). -/
  mramMap : SMap (Option Nat) := []
  /-- Sensors 3d + s that are suspect and await their re-read (R569). -/
  suspects : List Nat := []
  deriving DecidableEq, Repr

/-- Why the block stops. -/
inductive Fault
  /-- Raised by every command whose operands name a part the device does not have (a ninth DDR channel, a die without
  sectors) or a value wider than its field: such a command cannot be given to the hardware, so stopping is safe. -/
  | noSuchPart
  deriving DecidableEq, Repr

/-- Why a command has no meaning. -/
inductive Refusal
  /-- Raised by the arms of `exec` for a command of the table that has no meaning yet; safe. -/
  | notModelled (mnemonic : String)
  deriving DecidableEq, Repr

/-- The state of the EW9W. -/
structure State where
  /-- The commands that wait, first in, first out. -/
  pending : List Instr := []
  /-- How many free values have been taken (the model's own; log entry 1). -/
  fresh : Nat := 0
  /-- Every stored register field that does not hold its reset value, by the bit address of its lowest bit. -/
  regs : SMap Nat := []
  /-- The hub's access path and the I²C target (R41 to R64). -/
  hub : HubState := {}
  /-- The event recorder and the time counters (R524 to R536). -/
  events : EventState := {}
  /-- The spare ledger's history and the sensors' vote (R560 to R569). -/
  safety : SafetyState := {}
  /-- The logic fabric (R65 to R111). -/
  fabric : FabricState := {}
  /-- The Lomum ports (R112 to R140). -/
  link : LinkState := {}
  /-- The span crossings (R141 to R165). -/
  span : SpanState := {}
  /-- The on-chip memories of the sectors and engines (R166 to R227, R261). -/
  mem : MemState := {}
  /-- The DSP slices of the sectors (R228 to R251). -/
  dsp : DspState := {}
  /-- The Spindle engines (R252 to R291, R510 to R513). -/
  eng : EngineState := {}
  /-- The Skein packet network (R292 to R320). -/
  skein : SkeinState := {}
  /-- The serial lanes and their adapters (R321 to R353). -/
  lanes : LanesState := {}
  /-- The DDR channels and their DRAM (R354 to R385). -/
  ddr : DdrState := {}
  /-- The inline crypto engines (R386 to R418). -/
  crypto : CryptoState := {}
  /-- The configuration controller (R419 to R450). -/
  boot : BootState := {}
  /-- The clocks (R451 to R463). -/
  clock : ClockState := {}
  /-- The power controller and the supply monitors (R474 to R495). -/
  power : PowerState := {}
  /-- The resets in progress (R464 to R473). -/
  resets : ResetState := {}
  /-- The mailbox, the debug session and the captures (R496 to R523). -/
  dbg : DebugState := {}
  /-- The Ply ring (R537 to R556). -/
  ply : PlyState := {}
  deriving DecidableEq, Repr

/-- The block right after reset: every register at the value the manual states for POR or that the log names, every
memory with nothing listed, no command waiting. -/
def State.reset : State := {}

end Sys2Proof.Machine
end

