-- ==== Sys2Proof/Machine/PlyWire.lean ====
section
/-! DEFINITION. Ply frames on a lane (spec/19_ply_cascade.md R540 to R542): the header, the encryption and the tag, the HELLO payload with its
checks, and the keys of a link. -/

namespace Sys2Proof.Machine

namespace PlyWire

/-- The header of a frame. -/
def header (type flags dst src len ack fctr : Nat) : List Byte :=
  leBytes 1 type ++ leBytes 1 flags ++ leBytes 1 dst ++ leBytes 1 src ++ leBytes 2 len ++ leBytes 2 ack ++ leBytes 8 fctr

def iv (fctr : Nat) : List Byte := leBytes 4 0 ++ leBytes 8 fctr

/-- A frame as it goes out: header, encrypted payload, tag. -/
def sealed (key : BitVec 256) (f : PlyFrame) (ack fctr : Nat) : List Byte :=
  let h := header f.type f.flags f.dst f.src f.payload.length ack fctr
  let c := Gcm.crypt key (iv fctr) f.payload
  h ++ c ++ Gcm.tag key (iv fctr) h c

/-- The payload of a frame of a type that arrives, if its tag holds. -/
def opened (key : BitVec 256) (type : Nat) (x : PlyRx) : Option (List Byte) :=
  let h := header type x.flags x.dst x.src x.payload.length x.ack x.fctr
  if Gcm.tag key (iv x.fctr) h x.payload = leBytes 16 x.tag.toNat then some (Gcm.crypt key (iv x.fctr) x.payload) else none

/-- A frame with bit 0 of its tag inverted (`PLY_TEST.TAG_FLIP`). -/
def flipTag (b : List Byte) : List Byte := b.modify (b.length - 16) (· ^^^ 1)

/-- This device's HELLO payload (R540). -/
def hello (eph : Nat) (nonce : List Byte) : List Byte :=
  leBytes 8 Config.hallmarkId.toNat ++ leBytes 96 Config.hallmarkPub.toNat ++ beBytes 48 Config.ownerKeyHash.toNat ++
  leBytes 96 Config.kortiderSignature.toNat ++ P384.pointBytes (P384.mul 384 eph P384.base) ++ nonce

/-- Parts of a HELLO payload. -/
def pub (h : List Byte) : List Byte := (h.drop 8).take 96
def okh (h : List Byte) : List Byte := (h.drop 104).take 48
def ksig (h : List Byte) : List Byte := (h.drop 152).take 96
def eph (h : List Byte) : List Byte := (h.drop 248).take 96
def nonce (h : List Byte) : List Byte := (h.drop 344).take 32

/-- Whether a peer is accepted (R540): by its HELLO, this device's own, and the peer's HELLO_SIG. -/
def accepts (own peer sig : List Byte) : Bool :=
  P384.verify (leBytes 96 Config.provisioningKey.toNat) (ksig peer) (peer.take 152) &&
  Config.hallmarkOkh && okh peer = beBytes 48 Config.ownerKeyHash.toNat && P384.verify (pub peer) sig (peer ++ own)

/-- KA (`counter` 1) or KB (2) of a link, as the end with the ephemeral key `key` forms it (R541). -/
def linkKey (counter : Byte) (key : Nat) (peer nEnd pEnd : List Byte) : Option (BitVec 256) :=
  P384.agreedKey counter key (eph peer) ([0x4B#8, 0x53#8, 0x50#8, 0x4C#8, 0x59#8] ++ nonce nEnd ++ nonce pEnd)

/-- The keys that port `p` (0 N, 1 P) sends and receives under. -/
def linkKeys (p key : Nat) (own peer : List Byte) : Option (BitVec 256 × BitVec 256) :=
  let nEnd := if p = 0 then own else peer
  let pEnd := if p = 0 then peer else own
  match linkKey 1 key peer nEnd pEnd, linkKey 2 key peer nEnd pEnd with
  | some ka, some kb => some (if p = 0 then (ka, kb) else (kb, ka))
  | _, _ => none

end PlyWire

/-! ## The transmitter (R543, R544, R552) -/

/-- The order in which a Ply transmitter serves frames (R544). -/
def plyRank (type : Nat) : Nat :=
  if type = 0x04 then 0 else if 0x10 ≤ type ∧ type ≤ 0x13 then 4 else if type = 0x30 then 3 else 2

/-- Enter a frame behind those served before it. -/
def plyInsert (f : PlyFrame) : List PlyFrame → List PlyFrame
  | [] => [f]
  | g :: gs => if plyRank f.type < plyRank g.type then f :: g :: gs else g :: plyInsert f gs

/-- A frame goes out under the next `FCTR`, with its tag wrong where `flip`; it is kept as it should be (R543, R556). -/
def plyEmit (flip : Bool) (x : PlyPort) (f : PlyFrame) : PlyPort :=
  let b := PlyWire.sealed x.keyTx f x.last x.next
  { x with sent := x.sent ++ [(x.next, b)], out := if flip then PlyWire.flipTag b else b, next := (x.next + 1) % 2 ^ 64 }

namespace PlyState

def port (y : PlyState) (p : Nat) : PlyPort := SMap.read {} y.ports p
def setPort (y : PlyState) (p : Nat) (x : PlyPort) : PlyState := { y with ports := SMap.write {} y.ports p x }

/-- CFG_START of stream `n` (R552). -/
def cfgStart (n total : Nat) : PlyFrame := { type := 0x10, dst := 0x3F, src := 0, payload := leBytes 4 n ++ leBytes 8 total }

/-- The manager begins a stream: CFG_START waits on a port, and what follows it is taken when the port has nothing else. -/
def begin (y : PlyState) (p : Nat) : PlyState :=
  let n := (y.streamNo + 1) % 2 ^ 32
  let x := y.port p
  { y with streamNo := n, streamAt := some (y.imageLen, 0), streamAgain := false }.setPort p
    { x with queue := plyInsert (cfgStart n y.imageLen) x.queue }

/-- The stream's next frame: 1,024 bytes of the image, fewer in the last, then CFG_END, after which a stream asked for meanwhile begins. -/
def streamNext (y : PlyState) (p : Nat) : Option (PlyFrame × PlyState) :=
  match y.streamAt with
  | none => none
  | some (total, at_) =>
    if at_ < total then
      let n := min 1024 (total - at_)
      some ({ type := 0x11, dst := 0x3F, src := 0, payload := (List.range n).map (fun i => Config.imageByte y.streamNo (at_ + i)) },
        { y with streamAt := some (total, at_ + n) })
    else
      let z := { y with streamAt := none }
      some ({ type := 0x12, dst := 0x3F, src := 0, payload := [] }, if y.streamAgain then z.begin p else z)

end PlyState

/-- Frames that wait on a port go out while fewer than 16 are unacknowledged, then those of a stream, if it leaves there. -/
def plyPump (p : Nat) (streams : Bool) : Nat → Bool → PlyState → PlyState
  | 0, _, y => y
  | n + 1, flip, y =>
    let x := y.port p
    if 16 ≤ x.sent.length then y
    else
      match x.queue with
      | f :: fs => plyPump p streams n false (y.setPort p (plyEmit flip { x with queue := fs } f))
      | [] =>
        match (if streams then y.streamNext p else none) with
        | some (f, z) => plyPump p streams n false (z.setPort p (plyEmit flip (z.port p) f))
        | none => y

end Sys2Proof.Machine
end

