-- ==== Sys2Proof/Machine/Ops.lean ====
section
/-! DEFINITION. The operations every family shares: reading and writing a register field, setting an interrupt bit,
capturing an error (R56), recording an event (R527 to R535), the spare ledger's history (R564 to R567), ERR_N and WARN_N
(R560, R561), free values, and which pages and domains are up. The block has no exception entry: an error is captured in
its page and a fatal detection asserts ERR_N, and the commands go on. -/

namespace Sys2Proof.Machine

open Reg

/-- What a meaning answers. -/
abbrev Out := Host.Outcome State Fault Refusal

/-- A command turns state `s` into `t`; the queue is the step's alone, and no meaning changes it. -/
def done (s t : State) : Out := .next { t with pending := s.pending }

/-- A command whose operands name parts the device has takes effect; any other stops. -/
def onPart (ok : Bool) (s t : State) : Out := if ok then done s t else .fault .noSuchPart

namespace State

/-! ## Free values -/

/-- The next free value. -/
def freeVal (s : State) : Nat := Config.freeValue s.fresh

/-- The state after a free value is taken. -/
def took (s : State) : State := { s with fresh := s.fresh + 1 }

/-- The span cycle count is at least this by now (R456). -/
def spanTo (s : State) (c : Nat) : State := { s with clock := { s.clock with span := max s.clock.span c } }

/-! ## Register fields -/

/-- The value a field of a page holds. -/
def get (s : State) (page : Nat) (f : RegField) (i : Nat := 0) : Nat :=
  SMap.read (f.reset page i) s.regs (fieldKey page f i)

/-- Write a field of a page: the value wraps to the field's width. -/
def set (s : State) (page : Nat) (f : RegField) (v : Nat) (i : Nat := 0) : State :=
  { s with regs := SMap.write (f.reset page i) s.regs (fieldKey page f i) (v % 2 ^ f.width) }

/-- The word at an offset of a page, from its stored fields. -/
def storedWord (s : State) (page off : Nat) : Nat :=
  (fieldsAt page off).foldl (fun w fi => w + s.get page fi.1 fi.2 * 2 ^ fi.1.lo) 0

/-- Whether a one-bit field is 1. -/
def flag (s : State) (page : Nat) (f : RegField) (i : Nat := 0) : Bool := s.get page f i ≠ 0

/-- Count `n` more in a saturating counter field. -/
def count (s : State) (page : Nat) (f : RegField) (n : Nat := 1) (i : Nat := 0) : State :=
  s.set page f (satAdd f.width (s.get page f i) n) i

/-- Set bits of a field. -/
def setBits (s : State) (page : Nat) (f : RegField) (m : Nat) (i : Nat := 0) : State :=
  s.set page f (s.get page f i ||| m) i

/-- Set or clear bit `b` of a field. -/
def setBit (s : State) (page : Nat) (f : RegField) (b : Nat) (on : Bool) (i : Nat := 0) : State :=
  s.set page f (withBit (s.get page f i) b on) i

/-- Clear bits of a field. -/
def clearBits (s : State) (page : Nat) (f : RegField) (m : Nat) (i : Nat := 0) : State :=
  s.set page f (s.get page f i - (s.get page f i &&& m)) i

/-! ## Interrupts and errors -/

/-- An event of the page occurs: its `INT_STATUS` bit is 1 (R52). -/
def setInt (s : State) (page b : Nat) : State := s.setBits page Hdr.INT_STATUS_BLOCK (1 <<< (b - 16))

/-- `INT_STATUS` of a page as one word. -/
def intStatus (s : State) (page : Nat) : Nat :=
  s.get page Hdr.INT_STATUS_BLOCK * 65536 + s.get page Hdr.INT_STATUS_ERR_LOST * 2 + s.get page Hdr.INT_STATUS_ERR_CAPTURED

/-- `INT_ENABLE` of a page as one word. -/
def intEnable (s : State) (page : Nat) : Nat :=
  s.get page Hdr.INT_ENABLE_BLOCK * 65536 + s.get page Hdr.INT_ENABLE_ERR_LOST * 2 + s.get page Hdr.INT_ENABLE_ERR_CAPTURED

end State

/-- The number of an origin in `ERR_CAPTURE.ORIGIN` (R56, R596). -/
def originCode : Origin → Nat
  | .pcie => 0 | .i2c => 1 | .monitor => 2 | .debug => 3 | .skein => 4 | .ply => 5 | .config => 6

/-! The common codes of `ERR_CAPTURE.CODE` (R56). -/
namespace Err
def reservedEncoding : Nat := 0x1
def expertLocked : Nat := 0x2
def unlockSequence : Nat := 0x3
def level : Nat := 0x4
def width : Nat := 0x5
def unmapped : Nat := 0x6
end Err

namespace State

/-- An error of a page: it loads `ERR_CAPTURE` while `VALID` is 0 and else sets `ERR_LOST`, and it counts (R56). `DETAIL` is 0 for
the common codes and free for block-specific ones, for which no chapter gives it (log entry 6). -/
def capture (s : State) (page code : Nat) (o : Origin) (off : Nat) : State :=
  let t := s.count page Hdr.ERR_COUNT_COUNT
  if s.flag page Hdr.ERR_CAPTURE_VALID then t.set page Hdr.INT_STATUS_ERR_LOST 1
  else
    let detail := if 8 ≤ code then s.freeVal else 0
    let t := if 8 ≤ code then t.took else t
    ((((((t.set page Hdr.ERR_CAPTURE_VALID 1).set page Hdr.ERR_CAPTURE_CODE code).set page Hdr.ERR_CAPTURE_ORIGIN
      (originCode o)).set page Hdr.ERR_CAPTURE_DETAIL detail).set page Hdr.ERR_CAPTURE_WORD (off / 4)).set page
      Hdr.INT_STATUS_ERR_CAPTURED 1)

/-- Capture each of a list of codes in order. -/
def captures (s : State) (page : Nat) (o : Origin) (off : Nat) : List Nat → State
  | [] => s
  | c :: cs => (s.capture page c o off).captures page o off cs

/-- Record an access in `HUB_ACCESS_FAULT` (R41, R61). -/
def accessFault (s : State) (o : Origin) (page : Nat) (write unpopulated : Bool) : State :=
  if s.flag Pg.hubGlobal HubGlobal.HUB_ACCESS_FAULT_VALID then s.set Pg.hubGlobal HubGlobal.HUB_ACCESS_FAULT_OVERFLOW 1
  else
    (((((s.set Pg.hubGlobal HubGlobal.HUB_ACCESS_FAULT_VALID 1).set Pg.hubGlobal HubGlobal.HUB_ACCESS_FAULT_ORIGIN
      (originCode o)).set Pg.hubGlobal HubGlobal.HUB_ACCESS_FAULT_UNPOPULATED (b2n unpopulated)).set Pg.hubGlobal
      HubGlobal.HUB_ACCESS_FAULT_WRITE (b2n write)).set Pg.hubGlobal HubGlobal.HUB_ACCESS_FAULT_PAGE page).setInt
      Pg.hubGlobal HubGlobal.INT_ACCESS_FAULT

end State

/-! ## Ply transmission (R543, R544, R547)

It stands here because the recorder sends a worker's records to the manager as it stores them (R553). -/

namespace State

def plyPort (s : State) (p : Nat) : PlyPort := s.ply.port p
def setPlyPort (s : State) (p : Nat) (x : PlyPort) : State := { s with ply := s.ply.setPort p x }

/-- Whether the link on port `p` (0 N, 1 P) is up. -/
def plyUp (s : State) (p : Nat) : Bool := s.get Pg.ply Ply.PLY_LINK_STATE p = 3

/-- The port that a frame for port `p` leaves on: the other while that link is failed (R547). -/
def plyVia (s : State) (p : Nat) : Option Nat := if s.plyUp p then some p else if s.plyUp (1 - p) then some (1 - p) else none

/-- A port sends what it may; `PLY_TEST.TAG_FLIP` is used by the first frame sent on its port, and clears (R555). -/
def plyPumped (s : State) (p : Nat) (x : PlyPort) : State :=
  let flip := s.flag Pg.ply Ply.PLY_TEST_TAG_FLIP && s.get Pg.ply Ply.PLY_TEST_PORT = p
  let y := plyPump p (s.plyVia 0 = some p) 17 flip (s.ply.setPort p x)
  let t := { s with ply := y }
  if flip && (y.port p).next ≠ x.next then t.set Pg.ply Ply.PLY_TEST_TAG_FLIP 0 else t

/-- A frame leaves on a port. -/
def plyOn (s : State) (p : Nat) (f : PlyFrame) : State :=
  let x := s.plyPort p
  s.plyPumped p { x with queue := plyInsert f x.queue }

/-- A frame leaves for port `p`; with no link up it is lost. -/
def plySend (s : State) (p : Nat) (f : PlyFrame) : State :=
  match s.plyVia p with
  | some q => s.plyOn q f
  | none => s

/-- This device's number on the ring: the manager is 0 (R539, R545). -/
def plySelf (s : State) : Nat := if s.get Pg.ply Ply.STATUS_ROLE = 1 then 0 else s.get Pg.ply Ply.PLY_NUMBER_NUM

end State

/-! ## The event recorder (R527 to R535) -/

/-- Payload bytes after padding (R527). -/
def padded (n : Nat) : Nat := (n + 7) / 8 * 8

/-- The size of a record (R527). -/
def EvRec.size (r : EvRec) : Nat := 24 + padded r.length

/-- A record's bytes: the header of R527, then the payload padded with zeros. -/
def EvRec.bytes (r : EvRec) : List Byte :=
  leBytes 4 r.seq ++ leBytes 2 r.code ++ leBytes 1 r.length ++ leBytes 1 r.flags ++ leBytes 2 r.source ++
  leBytes 1 r.severity ++ leBytes 1 r.suppressed ++ leBytes 8 (r.opsec % 2 ^ 48) ++ leBytes 4 r.pcc ++
  (r.payload.take r.length ++ List.replicate (padded r.length - r.payload.length) 0)

namespace State

/-- `EVT_STAGE.LEVEL`: bytes staged (R531). -/
def stageLevel (s : State) : Nat := (s.events.stage.map EvRec.size).sum

/-- The bucket of a class (R533). -/
def bucket (s : State) (cls : Nat) : Bucket := SMap.read {} s.events.buckets cls

def setBucket (s : State) (cls : Nat) (b : Bucket) : State :=
  { s with events := { s.events with buckets := SMap.write {} s.events.buckets cls b } }

/-- `FLAGS` of a record stamped now (R528). -/
def evFlags (s : State) (sw : Bool) : Nat :=
  s.get Pg.time Time.TIME_STAT_PCC_SAT + 2 * s.get Pg.time Time.TIME_STAT_RESUMED +
  4 * s.get Pg.time Time.TIME_STAT_SOURCE + 16 * b2n sw + 32 * b2n s.events.lostBefore

/-- A worker copies a record it stores to the manager, unless it is isolated (R553). -/
def plyReport (s : State) (r : EvRec) : State :=
  let ring := s.get Pg.ply Ply.STATUS_RING
  if s.get Pg.ply Ply.STATUS_ROLE = 2 ∧ s.get Pg.ply Ply.PLY_CFG_EVT_SEV ≤ r.severity ∧ (ring = 2 ∨ ring = 3) then
    s.plySend 0 { type := 0x30, dst := 0, src := s.plySelf, payload := r.bytes }
  else s

/-- Whether the staging buffer has room for a record with a payload of `n` bytes: the last 512 bytes take only records of severity 4
(R531, R532). -/
def stageRoom (s : State) (severity n : Nat) : Bool := s.stageLevel + 24 + padded n ≤ (if severity = 4 then 8192 else 7680)

/-- Store one record in the staging buffer, or lose it for want of room (R531, R532). -/
def stageRec (s : State) (code severity source suppressed : Nat) (sw : Bool) (payload : List Byte) : State :=
  let r : EvRec :=
    { seq := s.get Pg.recorder Recorder.EVT_NEXT_SEQ_SEQ, code := code, length := payload.length, flags := s.evFlags sw,
      source := source, severity := severity, suppressed := suppressed, opsec := s.events.opsec,
      pcc := s.get Pg.time Time.TIME_PCC_PCC, payload := payload }
  if s.stageRoom severity payload.length then
    { (s.set Pg.recorder Recorder.EVT_NEXT_SEQ_SEQ (r.seq + 1)).plyReport r with
      events := { s.events with stage := s.events.stage ++ [r], lostBefore := false } }
  else
    { (s.count Pg.recorder Recorder.EVT_STAGE_LOST).setInt Pg.recorder Recorder.INT_LOST with
      events := { s.events with lostBefore := true } }

/-- The payload of a device record: `INT_STATUS` of the source page, then the detail word (R530). -/
def evPayload (s : State) (page detail : Nat) : List Byte := leBytes 4 (s.intStatus page) ++ leBytes 4 detail

/-- Store a record; the record after `SEQ` 0xFFFF_FFFF is `EVT_WRAP` (R534). -/
def storeRec (s : State) (code severity source suppressed : Nat) (sw : Bool) (payload : List Byte) : State :=
  let t := s.stageRec code severity source suppressed sw payload
  if s.get Pg.recorder Recorder.EVT_NEXT_SEQ_SEQ = 2 ^ 32 - 1 ∧ t.get Pg.recorder Recorder.EVT_NEXT_SEQ_SEQ = 0 then
    t.stageRec 0x0101 1 Pg.recorder 0 false (t.evPayload Pg.recorder 0)
  else t

/-- A record asks to be stored: it takes a token of its class, or is suppressed; severity 4 and class 0x01 take none
(R533). A record that is stored carries its class's pending count; one that is lost leaves it. -/
def record (s : State) (code severity source : Nat) (sw : Bool) (payload : List Byte) : State :=
  let cls := code / 256
  let b := s.bucket cls
  let carried := if s.stageRoom severity payload.length then { b with pending := 0, sev := 0 } else b
  let held := min b.tokens (s.get Pg.recorder Recorder.EVT_RATE_BURST)
  if severity = 4 ∨ cls = 0x01 then (s.storeRec code severity source b.pending sw payload).setBucket cls carried
  else if held = 0 then
    s.setBucket cls { b with pending := satAdd 8 b.pending 1, total := satAdd 16 b.total 1, sev := max b.sev severity }
  else (s.storeRec code severity source b.pending sw payload).setBucket cls { carried with tokens := held - 1 }

/-- A device event with its page and detail word (R530). -/
def event (s : State) (code severity page detail : Nat) : State :=
  s.record code severity page false (s.evPayload page detail)

/-! ## ERR_N, WARN_N and the spare ledger -/

/-- A condition or an event sets a bit of `SAF_WARN`; a bit becoming 1 sets `INT_STATUS.WARN` (R561). -/
def warn (s : State) (f : RegField) : State :=
  if s.flag Pg.safety f then s else (s.set Pg.safety f 1).setInt Pg.safety Safety.INT_WARN

/-- `SAF_FATAL` as one number. -/
def fatalBits (s : State) : Nat :=
  s.get Pg.safety Safety.SAF_FATAL_CROSS_LOST + 2 * s.get Pg.safety Safety.SAF_FATAL_MEMORY +
  4 * s.get Pg.safety Safety.SAF_FATAL_SPINDLE + 8 * s.get Pg.safety Safety.SAF_FATAL_AUDIT +
  16 * s.get Pg.safety Safety.SAF_FATAL_CLOCK + 32 * s.get Pg.safety Safety.SAF_FATAL_MRAM +
  64 * s.get Pg.safety Safety.SAF_FATAL_TEMP + 128 * s.get Pg.safety Safety.SAF_FATAL_THERMAL

/-- A fatal detection: its `SAF_FATAL` bit is set and ERR_N asserts; the first loads `SAF_FIRST` (R560). -/
def fatal (s : State) (f : RegField) (code page : Nat) : State :=
  let t := if s.fatalBits = 0 then
      (s.set Pg.safety Safety.SAF_FIRST_CODE code).set Pg.safety Safety.SAF_FIRST_PAGE page else s
  (t.set Pg.safety f 1).setInt Pg.safety Safety.INT_FATAL

/-- Whether ERR_N is asserted (R560): a fatal bit, or `SAF_TEST.FORCE_ERR`. -/
def errN (s : State) : Bool := s.fatalBits ≠ 0 ∨ s.flag Pg.safety Safety.SAF_TEST_FORCE_ERR

/-- `SAF_WARN.TEMP_HIGH` follows `STATUS.TEMP_HIGH` of the DDR channels, `FORCED` follows `SAF_TEST.FORCE_WARN` (R561). -/
def tempHigh (s : State) : Bool := (List.range 8).any (fun c => s.flag (Pg.ddr c) Ddr.STATUS_TEMP_HIGH)

/-- A bit of `SAF_WARN` as it reads. -/
def warnBit (s : State) (f : RegField) : Bool :=
  if f = Safety.SAF_WARN_FORCED then s.flag Pg.safety Safety.SAF_TEST_FORCE_WARN
  else if f = Safety.SAF_WARN_TEMP_HIGH then s.tempHigh
  else s.flag Pg.safety f

/-- Whether WARN_N is asserted: any bit of `SAF_WARN` is 1 (R561). -/
def warnN (s : State) : Bool :=
  [Safety.SAF_WARN_FORCED, Safety.SAF_WARN_SPARE, Safety.SAF_WARN_PLY, Safety.SAF_WARN_CLOCK, Safety.SAF_WARN_CRYPTO,
   Safety.SAF_WARN_DDR, Safety.SAF_WARN_MEM, Safety.SAF_WARN_LOMUM, Safety.SAF_WARN_TEMP_HIGH, Safety.SAF_WARN_FREE_RUN,
   Safety.SAF_WARN_SUPPLY].any s.warnBit

/-- An update of the spare ledger goes to its older copy, which becomes the newer (R564). -/
def ledgerUpdate (s : State) : State :=
  let n := max s.safety.ledgerSeq0 s.safety.ledgerSeq1 + 1
  { s with safety := if s.safety.ledgerSeq0 ≤ s.safety.ledgerSeq1 then { s.safety with ledgerSeq0 := n }
      else { s.safety with ledgerSeq1 := n } }

/-- Append a history entry, or count it as dropped once the log is full; the entry that fills the log sets `HIST_FULL`,
warns and is recorded once (R565, R567). -/
def history (s : State) (kind page location what : Nat) : State :=
  let t := s.ledgerUpdate
  if 1024 ≤ t.safety.history.length then t.count Pg.safety Safety.SAF_LEDGER_HIST_DROPPED
  else
    let e : HistEntry :=
      { kind := kind, page := page, location := location, what := what, opsec := t.events.opsec,
        pcc := t.get Pg.time Time.TIME_PCC_PCC }
    let u := { t with safety := { t.safety with history := t.safety.history ++ [e] } }
    let u := u.set Pg.safety Safety.SAF_LEDGER_HIST_COUNT u.safety.history.length
    if u.safety.history.length = 1024 then
      ((((u.set Pg.safety Safety.SAF_LEDGER_HIST_FULL 1).setInt Pg.safety Safety.INT_LEDGER_FULL).warn
        Safety.SAF_WARN_SPARE).event 0xC001 3 Pg.safety 0)
    else u

/-! ## Domains and pages that are up -/

/-- A domain's state: 0 OFF, 1 RAMPING, 2 UP, 3 DRAINING, 4 ISOLATING (R494). -/
def domState (s : State) (d : Nat) : Nat := s.get Pg.powerDom PowerDom.DOM_STATE_STATE d

/-- Whether a domain has power and is not isolated. -/
def domOn (s : State) (d : Nat) : Bool := s.domState d = 2 ∨ s.domState d = 3

/-- Whether a page can be reached: its domain is on and its block's clock runs (routers and engines stand still when HP1 is lost and
holdover has ended, R463; log entry 97), and an engine's page also while the engine is not LOST (R61, R288). -/
def pageOn (s : State) (page : Nat) : Bool :=
  s.domOn (pageDomain page) && (match pageKind page with
    | some .eng0 | some .eng1 | some .eng2 | some .eng3 =>
      s.get (page - (pageInDie page - 0x80) % 4) Eng0.STATUS_STATE ≠ 6 && !s.clock.stopped
    | some .router => !s.clock.stopped
    | _ => true)

/-- Whether a page requests an interrupt (R53). -/
def requests (s : State) (page : Nat) : Bool := s.intStatus page &&& s.intEnable page ≠ 0

end State

end Sys2Proof.Machine
end

