-- ==== Sys2Proof/Machine/Fabric.lean ====
section
/-! DEFINITION. The logic fabric (spec/03_logic_fabric.md): frames and the one-driver check, the routing and logic of a
tile evaluated from its frames, the clock tracks of a sector, and the global set/reset. -/

namespace Sys2Proof.Machine

open Reg

/-! ## Names of parts: fabric die `d` is 1 to 4, sector `s` 0 to 95, tile `t` 0 to 127 (R65, R66) -/

/-- Whether die and sector name a sector. -/
def isSector (d s : Nat) : Bool := 1 ≤ d ∧ d ≤ 4 ∧ s < 96

def sectorKey (d s : Nat) : Nat := d * 96 + s
def trackKey (d s n : Nat) : Nat := sectorKey d s * 16 + n

/-- A frame's key: die, sector, tile (128 for block frames) and frame (R101). -/
def frameKey (d s t f : Nat) : Nat := (sectorKey d s * 256 + t) * 64 + f

/-- The sector and tile at die coordinates (X, Y) (R65, R66). -/
def sectorAt (X Y : Nat) : Nat := 12 * (Y / 8) + X / 16
def tileAt (X Y : Nat) : Nat := 16 * (Y % 8) + X % 16

/-- The die coordinates of tile `t` of sector `s` (R66). -/
def tileX (s t : Nat) : Nat := 16 * (s % 12) + t % 16
def tileY (s t : Nat) : Nat := 8 * (s / 12) + t / 16

/-- Keys of a flop (LE `i` of cluster `c`; `b` for FFB) and of a segment end's wire register. -/
def flopKey (d X Y c i : Nat) (b : Bool) : Nat := ((((d * 192 + X) * 64 + Y) * 16 + c) * 16 + i) * 2 + b2n b
def wireKey (d X Y slot : Nat) : Nat := ((d * 192 + X) * 64 + Y) * 352 + slot

namespace State

/-- A frame's content; an unwritten frame holds zeros. -/
def frame (s : State) (d sec t f : Nat) : Nat := (SMap.read 0 s.fabric.frames (frameKey d sec t f)).toNat

/-- A frame of the tile at die coordinates. -/
def frameXY (s : State) (d X Y f : Nat) : Nat := s.frame d (sectorAt X Y) (tileAt X Y) f

end State

/-! ## Multiplexers and the one-driver rule (R82 to R86) -/

/-- The position of the one set bit among the low `w` bits, if exactly one is set (R83). -/
def oneHot (w x : Nat) : Option Nat :=
  match bitList w x with
  | [r] => some r
  | _ => none

/-- The candidate a multiplexer passes: C × r + c, none when it is off (R82, R83). -/
def muxPick (wr wc r c : Nat) : Option Nat :=
  match oneHot wr r, oneHot wc c with
  | some i, some j => some (wc * i + j)
  | _, _ => none

/-- Whether a select field is multi-hot (R83). -/
def multiHot (w x : Nat) : Bool := 1 < popcount w x

/-- The select fields of a tile frame: low bit, first-level width and second-level width (R85). -/
def selectFields (f : Nat) : List (Nat × Nat × Nat) :=
  if 16 ≤ f ∧ f < 32 then
    (List.range 16).flatMap (fun i => (List.range 6).map (fun p => (64 * i + 8 * p, 4, 4)))
  else if 32 ≤ f ∧ f < 40 then (List.range 128).map (fun t => (8 * t, 4, 4))
  else if 40 ≤ f ∧ f < 46 then (List.range (if f = 45 then 32 else 64)).map (fun u => (16 * u, 4, 8))
  else if f = 46 then (List.range 4).map (fun q => (512 + 8 * q, 4, 4))
  else []

/-- Whether a tile frame holds a multi-hot select field (R84). -/
def frameContention (f x : Nat) : Bool :=
  (selectFields f).any (fun q => multiHot q.2.1 (bits x (q.1 + q.2.1 - 1) q.1) ||
    multiHot q.2.2 (bits x (q.1 + q.2.1 + q.2.2 - 1) (q.1 + q.2.1)))

/-! ## The netlist a die's frames spell (R68 to R81) -/

/-- A signal of a fabric die, placed by die coordinates: a segment end as multiplexers see it, a segment driver, a cluster
input track, an LE input pin, and an LE's outputs and carry. -/
inductive FabNode
  | segEnd (X Y slot : Nat)
  | driver (X Y slot : Nat)
  | track (X Y c j : Nat)
  | pin (X Y c i p : Nat)
  | outA (X Y c i : Nat)
  | outB (X Y c i : Nat)
  | carry (X Y c i : Nat)
  | cin (X Y c i : Nat)
  deriving DecidableEq, Repr

/-- The direction (0 N, 1 E, 2 S, 3 W) and span of a driver slot (R78, R79). -/
def slotDir (slot : Nat) : Nat := slot / 88
def slotSpan (slot : Nat) : Nat := if slot % 88 < 64 then 1 else if slot % 88 < 80 then 4 else 12

/-- The start tile of the segment that ends at (X, Y) with this slot; none when it lies outside the die (R78, R80). -/
def segStart (X Y slot : Nat) : Option (Nat × Nat) :=
  let n := slotSpan slot
  match slotDir slot with
  | 0 => if n ≤ Y then some (X, Y - n) else none
  | 1 => if n ≤ X then some (X - n, Y) else none
  | 2 => if Y + n < 64 then some (X, Y + n) else none
  | _ => if X + n < 192 then some (X + n, Y) else none

namespace State

/-- The 16-bit driver slot of a tile (R103, R105). -/
def slotWord (s : State) (d X Y slot : Nat) : Nat :=
  bits (s.frameXY d X Y (40 + slot / 64)) (16 * (slot % 64) + 15) (16 * (slot % 64))

/-- The 64-bit LE slot (R103, R104). -/
def leSlot (s : State) (d X Y c i : Nat) : Nat := bits (s.frameXY d X Y (16 + c)) (64 * i + 63) (64 * i)

/-- The LUT mask of an LE (R103). -/
def leMask (s : State) (d X Y c i : Nat) : Nat := bits (s.frameXY d X Y c) (64 * i + 63) (64 * i)

/-- The cluster control word (R103, R106). -/
def clusterCtl (s : State) (d X Y c : Nat) : Nat := bits (s.frameXY d X Y 46) (32 * c + 31) (32 * c)

/-- The track that a tile clock follows; none when its select is off (R91, R103). -/
def tileClock (s : State) (d X Y q : Nat) : Option Nat :=
  let w := bits (s.frameXY d X Y 46) (512 + 8 * q + 7) (512 + 8 * q)
  muxPick 4 4 (bits w 3 0) (bits w 7 4)

/-- The track that clocks a cluster (R91, R106). -/
def clusterTrack (s : State) (d X Y c : Nat) : Option Nat := s.tileClock d X Y (bits (s.clusterCtl d X Y c) 1 0)

/-- Whether any cause of R98 asserts GSR in a sector. -/
def gsrActive (s : State) (d sec : Nat) : Bool :=
  !(SMap.read false s.fabric.released (sectorKey d sec)) || s.flag (Pg.sctl d sec) Sctl.CTL_GSR_FORCE ||
  bit (s.get Pg.reset Reset.RST_DIE_STAT_IN_RESET) d || !(s.domOn (16 * d + 1))

/-- Whether what a track clocks has left GSR: three edges since the last cause ended (R99). -/
def trackFree (s : State) (d sec n : Nat) : Bool :=
  !(s.gsrActive d sec) && 3 ≤ SMap.read 0 s.fabric.edges (trackKey d sec n)

/-- Whether a flop or wire register on this clock samples: its clock exists and has passed the release (R99). -/
def clockFree (s : State) (d X Y : Nat) (clk : Option Nat) : Bool :=
  match clk with
  | none => false
  | some n => s.trackFree d (sectorAt X Y) n

/-- A flop's output: `INIT` while GSR holds it, else what it stores (R71, R98). -/
def flopOut (s : State) (d X Y c i : Nat) (b : Bool) : Bool :=
  if s.clockFree d X Y (s.clusterTrack d X Y c) then SMap.read false s.fabric.flops (flopKey d X Y c i b)
  else bit (s.leSlot d X Y c i) (if b then 55 else 54)

/-- A wire register's output: 0 while GSR holds it (R88). -/
def wireOut (s : State) (d X Y slot : Nat) (clk : Option Nat) : Bool :=
  s.clockFree d X Y clk && SMap.read false s.fabric.wires (wireKey d X Y slot)

end State

namespace State

/-- Whether the hub has closed the SPAN_CLK gate of a sector (R455). -/
def spanGated (s : State) (d sec : Nat) : Bool :=
  bit (s.get Pg.clock (match d with
    | 1 => Clock.CLK_SPAN_STOPPED_F0_STOPPED
    | 2 => Clock.CLK_SPAN_STOPPED_F1_STOPPED
    | 3 => Clock.CLK_SPAN_STOPPED_F2_STOPPED
    | _ => Clock.CLK_SPAN_STOPPED_F3_STOPPED) (sec / 32)) (sec % 32)

/-- Whether a source can give a sector edges: one that exists, no closed gate of the SPAN family, a pin whose bank reads its inputs
(R92, R455, R595). The manual gives the fabric PLLs no register, so that they run whatever is set (log entry 98). -/
def sourceRuns (s : State) (d sec src : Nat) : Bool :=
  src ≠ 0 && !(1 ≤ src && src ≤ 4 && s.spanGated d sec) &&
  !(0x0D ≤ src && s.flag (Pg.dieCtl d) DieCtl.GPIO_BANK_VCCO_BAD (src - 0x0D))

/-- The source whose edge a track passes next: the old one while a switch may still pass one edge of it, none while the switch holds the
track low, else `SRC` (R96). -/
def trackSourceNow (s : State) (d sec n : Nat) : Option Nat :=
  if s.flag (Pg.sctl d sec) Sctl.SCTL_TRACK_SWITCHING n then SMap.read none s.fabric.oldEdge (trackKey d sec n)
  else some (s.get (Pg.sctl d sec) Sctl.SCTL_TRACK_SRC n)

/-- Whether an edge can reach what track `n` clocks at span cycle count `span`: the domain is on, the track enabled, its source running and,
of the SPAN family, at a count that its divisor divides, and `TRACK_CE` passing it (R92, R93, R95, R96). -/
def trackPasses (s : State) (d sec n span : Nat) (ce : Bool) : Bool :=
  let p := Pg.sctl d sec
  match s.trackSourceNow d sec n with
  | none => false
  | some src =>
    s.domOn (16 * d + 1) && s.flag p Sctl.SCTL_TRACK_EN n && s.sourceRuns d sec src &&
    !(1 ≤ src && src ≤ 4 && span % src ≠ 0) && (!(s.flag p Sctl.SCTL_TRACK_FABRIC_CE n) || ce)

/-- How many rising edges a track has had. -/
def trackCount (s : State) (d sec n : Nat) : Nat := SMap.read 0 s.fabric.count (trackKey d sec n)

/-- Every running track of a sector has completed the release (R109). -/
def allReleased (s : State) (d sec : Nat) : Bool :=
  (bitList 16 (s.get (Pg.sctl d sec) Sctl.STATUS_TRACK_RUN)).all (fun n =>
    3 ≤ SMap.read 0 s.fabric.edges (trackKey d sec n))

/-- Count an edge of the release of R99; the third sets `GSR_RELEASED` once every running track has passed it. With no track running
nothing sets it (DESIGN CHOICE: the manual does not say; log entry 98). -/
def releaseEdge (s : State) (d sec n : Nat) : State :=
  let e := SMap.read 0 s.fabric.edges (trackKey d sec n)
  if s.gsrActive d sec = true ∨ 3 ≤ e then s
  else
    let t := { s with fabric := { s.fabric with edges := SMap.write 0 s.fabric.edges (trackKey d sec n) (e + 1) } }
    if e = 2 ∧ t.allReleased d sec = true then t.setInt (Pg.sctl d sec) Sctl.INT_GSR_RELEASED else t

/-- GSR asserts: every track must pass three edges again (R98, R99). -/
def assertGsr (s : State) (d sec : Nat) : State :=
  { s with fabric := { s.fabric with edges := (List.range 16).foldl (fun m n => SMap.write 0 m (trackKey d sec n) 0) s.fabric.edges } }

/-- Start-up releases a sector (R98). -/
def releaseSector (s : State) (d sec : Nat) : State :=
  { s with fabric := { s.fabric with released := SMap.write false s.fabric.released (sectorKey d sec) true } }

/-- A sector is no longer released by start-up. -/
def unreleaseSector (s : State) (d sec : Nat) : State :=
  { s with fabric := { s.fabric with released := SMap.write false s.fabric.released (sectorKey d sec) false } }

/-- Whether every tile frame of a sector has been written. -/
def tilesWritten (s : State) (d sec : Nat) : Bool :=
  (List.range 128).all (fun t => (List.range 48).all (fun f => SMap.read false s.fabric.written (frameKey d sec t f)))

/-- Write a frame's bits and note that it has been written. -/
def putFrame (s : State) (d sec t f : Nat) (x : BitVec 1024) : State :=
  { s with fabric :=
    { s.fabric with
      frames := SMap.write 0 s.fabric.frames (frameKey d sec t f) x
      written := SMap.write false s.fabric.written (frameKey d sec t f) true } }

/-- What a tile frame write meets: `FRAME_WHILE_RUN` in a sector whose GSR is released, captured there with `WORD` 0 since no register
access causes it (DESIGN CHOICE; log entry 98) and ending the load with reason 0x05; a multi-hot select field, ending it with 0x06 and writing nothing; or nothing (R84, R107). -/
def writeTileFrame (s : State) (d sec t f : Nat) (x : BitVec 1024) : State × Option Nat :=
  if s.gsrActive d sec = false then (s.capture (Pg.sctl d sec) 0x8 .config 0, some 0x05)
  else if t < 128 ∧ frameContention f x.toNat = true then (s, some 0x06)
  else (s.putFrame d sec t f x, none)

/-! ## The clock tracks' register (R92, R95 to R97) -/

/-- A write of `SCTL_TRACK` that changes `SRC` during a switch is dropped whole with `TRACK_BUSY`, `EN` = 0 with it (R96). A write that names
the `SRC` it holds is no write to `SRC` (DESIGN CHOICE: the manual does not say which writes count; log entry 98). -/
def trackWriteRefused (s : State) (page n v : Nat) : Bool :=
  s.flag page Sctl.SCTL_TRACK_SWITCHING n && bits v 4 0 ≠ s.get page Sctl.SCTL_TRACK_SRC n

/-- The effect of a write of `SCTL_TRACK` on its switch: `old` is the state before the fields were stored (R96, R111). -/
def trackWritten (s old : State) (page n : Nat) : State :=
  let key := sectorKey (pageDie page) (pageInDie page - 0x200) * 16 + n
  if s.flag page Sctl.SCTL_TRACK_EN n = false then
    { s.set page Sctl.SCTL_TRACK_SWITCHING 0 n with fabric := { s.fabric with oldEdge := SMap.write none s.fabric.oldEdge key none } }
  else if old.flag page Sctl.SCTL_TRACK_EN n = true ∧ old.get page Sctl.SCTL_TRACK_SRC n ≠ s.get page Sctl.SCTL_TRACK_SRC n then
    { s.set page Sctl.SCTL_TRACK_SWITCHING 1 n with
      fabric := { s.fabric with oldEdge := SMap.write none s.fabric.oldEdge key (some (old.get page Sctl.SCTL_TRACK_SRC n)) } }
  else s

end State
end Sys2Proof.Machine
end

