-- ==== Sys2Proof/Machine/Banks.lean ====
section
/-! DEFINITION. Banks of stored words (spec/07_memory_integrity.md R200 to R224, and R261, R262 for the engines): reading and
writing a word under the word code, the flip mask, detected errors and repair queues, remap tables, lost words, and the
scrubber's steps. A bank is named by the page that reports on it, a sector's integrity page or an engine's page 3, and its
bank index q. -/

namespace Sys2Proof.Machine

open Reg

/-- Whether an integrity page is an engine's page 3. -/
def isEngPage (page : Nat) : Bool := pageKind page = some .eng3

/-- Whether a bank is named by the safety page: bank q is then MRAM sector q, and 2048 + k is spare sector k (R226, R563). -/
def isMram (page : Nat) : Bool := page = Pg.safety

/-- MRAM sectors of 4 KiB in 64 Mib (R563). -/
def mramSectors : Nat := 2048

/-! The integrity fields of either layout (R225, R290); the MRAM counts in `SAF_MRAM` (R226, R563). -/
def miTransient (page : Nat) : RegField :=
  if isMram page then Safety.SAF_MRAM_TRANSIENT else if isEngPage page then Eng3.MI_BLK2_TRANSIENT else Mi.MI_BLK2_TRANSIENT
def miLasting (page : Nat) : RegField :=
  if isMram page then Safety.SAF_MRAM_LASTING else if isEngPage page then Eng3.MI_BLK2_LASTING else Mi.MI_BLK2_LASTING
def miLost (page : Nat) : RegField := if isEngPage page then Eng3.MI_BLK2_LOST else Mi.MI_BLK2_LOST
def miDrop (page : Nat) : RegField := if isEngPage page then Eng3.MI_BLK2_REPAIR_DROP else Mi.MI_BLK2_REPAIR_DROP
def miErrValid (page : Nat) : RegField := if isEngPage page then Eng3.MI_BLK3_VALID else Mi.MI_BLK3_VALID
def miErrKind (page : Nat) : RegField := if isEngPage page then Eng3.MI_BLK3_KIND else Mi.MI_BLK3_KIND
def miErrBank (page : Nat) : RegField := if isEngPage page then Eng3.MI_BLK3_BANK else Mi.MI_BLK3_BANK
def miErrSyn (page : Nat) : RegField := if isEngPage page then Eng3.MI_BLK3_SYNDROME else Mi.MI_BLK3_SYNDROME
def miErrPar (page : Nat) : RegField := if isEngPage page then Eng3.MI_BLK3_PARITY else Mi.MI_BLK3_PARITY
def miErrWord (page : Nat) : RegField := if isEngPage page then Eng3.MI_BLK3_WORD else Mi.MI_BLK3_WORD
def miSlow (page : Nat) : RegField := if isEngPage page then Eng3.MI_BLK0_SLOW else Mi.MI_BLK0_SLOW
def miLapLast (page : Nat) : RegField := if isEngPage page then Eng3.MI_BLK0_LAP_LAST else Mi.MI_BLK0_LAP_LAST
def miLapMax (page : Nat) : RegField := if isEngPage page then Eng3.MI_BLK1_LAP_MAX else Mi.MI_BLK1_LAP_MAX
def miRemapValid (page : Nat) : RegField := if isEngPage page then Eng3.MI_REMAP_VALID else Mi.MI_REMAP_VALID
def miRemapRetired (page : Nat) : RegField := if isEngPage page then Eng3.MI_REMAP_RETIRED else Mi.MI_REMAP_RETIRED
def miRemapParity (page : Nat) : RegField := if isEngPage page then Eng3.MI_REMAP_PARITY else Mi.MI_REMAP_PARITY
def miRemapWord (page : Nat) : RegField := if isEngPage page then Eng3.MI_REMAP_WORD else Mi.MI_REMAP_WORD
def miScrEn (page : Nat) : RegField := if isEngPage page then Eng3.MI_SCR_CTL_EN else Mi.MI_SCR_CTL_EN
def miLimit (page : Nat) : RegField := if isEngPage page then Eng3.MI_LAP_LIMIT_LIMIT else Mi.MI_LAP_LIMIT_LIMIT
def miTmrFix (page : Nat) : RegField := if isEngPage page then Eng3.MI_TMR_FIX_COUNT else Mi.MI_TMR_FIX_COUNT
def miTestBlock (page : Nat) : RegField := if isEngPage page then Eng3.MI_TEST_ADDR_BLOCK else Mi.MI_TEST_ADDR_BLOCK
def miTestAddr (page : Nat) : RegField := if isEngPage page then Eng3.MI_TEST_ADDR_ADDR else Mi.MI_TEST_ADDR_ADDR
def miTestLo (page : Nat) : RegField := if isEngPage page then Eng3.MI_TEST_DATA_LO_DATA else Mi.MI_TEST_DATA_LO_DATA
def miTestHi (page : Nat) : RegField := if isEngPage page then Eng3.MI_TEST_DATA_HI_DATA else Mi.MI_TEST_DATA_HI_DATA
def miTestBusy (page : Nat) : RegField := if isEngPage page then Eng3.MI_TEST_STAT_BUSY else Mi.MI_TEST_STAT_BUSY
def miTestFault (page : Nat) : RegField := if isEngPage page then Eng3.MI_TEST_STAT_FAULT else Mi.MI_TEST_STAT_FAULT
def miTestCstat (page : Nat) : RegField := if isEngPage page then Eng3.MI_TEST_STAT_CSTAT else Mi.MI_TEST_STAT_CSTAT
def miTestCheck (page : Nat) : RegField := if isEngPage page then Eng3.MI_TEST_STAT_CHECK else Mi.MI_TEST_STAT_CHECK
def miFlipLo (page : Nat) : RegField := if isEngPage page then Eng3.MI_FLIP_DATA_LO_MASK else Mi.MI_FLIP_DATA_LO_MASK
def miFlipHi (page : Nat) : RegField := if isEngPage page then Eng3.MI_FLIP_DATA_HI_MASK else Mi.MI_FLIP_DATA_HI_MASK
def miFlipBlock (page : Nat) : RegField := if isEngPage page then Eng3.MI_FLIP_CTL_BLOCK else Mi.MI_FLIP_CTL_BLOCK
def miFlipCheck (page : Nat) : RegField := if isEngPage page then Eng3.MI_FLIP_CTL_CHECK_MASK else Mi.MI_FLIP_CTL_CHECK_MASK
def miFlipSrc (page : Nat) : RegField := if isEngPage page then Eng3.MI_FLIP_CTL_SRC else Mi.MI_FLIP_CTL_SRC
def miFlipArm (page : Nat) : RegField := if isEngPage page then Eng3.MI_FLIP_CTL_ARM else Mi.MI_FLIP_CTL_ARM

/-- How many banks an integrity page reports on (R200, R262). -/
def bankCount (page : Nat) : Nat := if isMram page then mramSectors else if isEngPage page then 40 else 50

/-- The block of a bank: DPB d is d, BKB k is 10 + k; the IMEM is 0, the SPAD 1 (R225, R290). -/
def blockOf (page q : Nat) : Nat := if isMram page then 0 else if isEngPage page then (if q < 8 then 0 else 1) else if q < 10 then q else 10 + (q - 10) / 8

/-- The number of a bank within its block. -/
def bankIn (page q : Nat) : Nat := if isEngPage page then (if q < 8 then q else q - 8) else if q < 10 then 0 else (q - 10) % 8

/-- The banks of a block. -/
def banksOf (page b : Nat) : List Nat := (List.range (bankCount page)).filter (fun q => blockOf page q = b)

/-- How many pages of 64 words a bank has (R201). -/
def pagesOf (page q : Nat) : Nat := if isMram page || !(isEngPage page) && q < 10 then 8 else 16

/-! Keys of a bank, a word, a parity word, a remap entry and a page. -/
def bankKey (page q : Nat) : Nat := page * 64 + q
def wordKey (page q w : Nat) : Nat := bankKey page q * 1024 + w
def parityKey (page q i : Nat) : Nat := bankKey page q * 32 + i
def spareKey (page q i : Nat) : Nat := bankKey page q * 4 + i
def pageKey (page q p : Nat) : Nat := bankKey page q * 16 + p

/-- The bank and word of an address of a block: a physical word of a DPB, `ADDR` of a BKB under its `BANK_MAP` (R178), or a
64-bit word of an engine memory (R261). -/
def locate (page b addr bankMap : Nat) : Nat × Nat :=
  if isEngPage page then
    (if b = 0 then (addr % 8, addr / 8 % 1024) else (8 + addr % 32, addr / 32 % 1024))
  else if b < 10 then (b, addr % 512)
  else if bankMap = 0 then (10 + 8 * (b - 10) + addr % 8, addr / 8 % 1024)
  else (10 + 8 * (b - 10) + addr / 1024 % 8, addr % 1024)

namespace State

/-! ## Remap entries and raw words (R218) -/

/-- The valid remap entry that serves a word, or a parity word; the MRAM has none (R226). -/
def remapOf (s : State) (page q : Nat) (par : Bool) (w : Nat) : Option Nat :=
  if isMram page then none
  else (List.range 4).find? (fun i => s.flag page (miRemapValid page) (4 * q + i) &&
    s.get page (miRemapParity page) (4 * q + i) = b2n par && s.get page (miRemapWord page) (4 * q + i) = w)

/-- The cells that hold a bank: those of an MRAM sector that moved are its spare sector's (R563). -/
def cellsOf (s : State) (page q : Nat) : Nat :=
  if isMram page then (match SMap.read none s.safety.mramMap q with | some k => mramSectors + k | none => q) else q

/-- The stored word that an access to a word or parity word meets: its spare word while an entry is valid. -/
def raw (s : State) (page q : Nat) (par : Bool) (w : Nat) : BitVec 72 :=
  match s.remapOf page q par w with
  | some i => SMap.read 0 s.mem.spares (spareKey page q i)
  | none =>
    if par then SMap.read 0 s.mem.parity (parityKey page (s.cellsOf page q) w)
    else SMap.read 0 s.mem.cells (wordKey page (s.cellsOf page q) w)

/-- Store a raw word where accesses meet it. -/
def putRaw (s : State) (page q : Nat) (par : Bool) (w : Nat) (x : BitVec 72) : State :=
  { s with mem :=
    match s.remapOf page q par w with
    | some i => { s.mem with spares := SMap.write 0 s.mem.spares (spareKey page q i) x }
    | none =>
      if par then { s.mem with parity := SMap.write 0 s.mem.parity (parityKey page (s.cellsOf page q) w) x }
      else { s.mem with cells := SMap.write 0 s.mem.cells (wordKey page (s.cellsOf page q) w) x } }

/-- An upset inverts bits of a stored word. -/
def upset (s : State) (page q : Nat) (par : Bool) (w : Nat) (x : BitVec 72) : State :=
  if x = 0 then s else s.putRaw page q par w (s.raw page q par w ^^^ x)

/-- Read a word under the word code. -/
def look (s : State) (page q w : Nat) : WordRead := readWord (s.raw page q false w)

/-! ## Detected errors (R209), lost words (R213), remapping (R212, R219, R220) -/

/-- The `LAST_ERR` word of a block, as events carry it (R530); 0 for the MRAM, which has none (DESIGN CHOICE: log entry 105). -/
def miDetail (s : State) (page b : Nat) : Nat :=
  if isMram page then 0
  else 2 ^ 31 * s.get page (miErrValid page) b + 2 ^ (miErrKind page).lo * s.get page (miErrKind page) b +
  2 ^ 24 * s.get page (miErrBank page) b + 2 ^ 16 * s.get page (miErrSyn page) b + 2 ^ 10 * s.get page (miErrPar page) b +
  s.get page (miErrWord page) b

/-- Load `LAST_ERR` of the block while it holds none. -/
def lastErr (s : State) (page q kind syn : Nat) (par : Bool) (w : Nat) : State :=
  let b := blockOf page q
  if isMram page ∨ s.flag page (miErrValid page) b then s
  else
    (((((s.set page (miErrValid page) 1 b).set page (miErrKind page) kind b).set page (miErrBank page) (bankIn page q) b).set
      page (miErrSyn page) syn b).set page (miErrPar page) (b2n par) b).set page (miErrWord page) w b

/-- An integrity page shows a finding in its `INT_STATUS`; the MRAM has no bit for one (R225, R226). -/
def miInt (s : State) (page b : Nat) : State := if isMram page then s else s.setInt page b

/-- It counts one in a block's counter that only the integrity pages have (R225, R226). -/
def miCount (s : State) (page : Nat) (f : RegField) (b : Nat) : State := if isMram page then s else s.count page f 1 b

/-- The entry of a repair queue that names a word, or a parity word. -/
def queueEntry (par : Bool) (w : Nat) : Nat := if par then 1024 + w else w

/-- A read finds a word, or a parity word, CORRECTED or UNCORRECTABLE: it is a detected error and enters the repair queue of 8 (R209,
R225). -/
def found (s : State) (page q : Nat) (par : Bool) (w : Nat) (r : WordRead) : State :=
  match r.cls with
  | .clean | .poison => s
  | c =>
    let k := bankKey page q
    let e := queueEntry par w
    let queue := SMap.read [] s.mem.repair k
    let t := s.miInt page (if c = .corrected then Mi.INT_CORRECTED else Mi.INT_UNCORRECTABLE)
    let t := t.lastErr page q (if c = .corrected then 1 else 2) r.syn par w
    if queue.elem e then t
    else if 8 ≤ queue.length then t.miCount page (miDrop page) (blockOf page q)
    else { t with mem := { t.mem with repair := SMap.write [] t.mem.repair k (queue ++ [e]) } }

/-- The same for a data word. -/
def detected (s : State) (page q w : Nat) (r : WordRead) : State := s.found page q false w r

/-- Read a word at a port, the scrubber or the test access: a detecting read. -/
def readAt (s : State) (page q w : Nat) : WordRead × State := (s.look page q w, s.detected page q w (s.look page q w))

/-- A memory word is lost: fatal, recorded (R213). -/
def lostEvent (s : State) (page q : Nat) : State :=
  (s.fatal Safety.SAF_FATAL_MEMORY 0x2003 page).event 0x2003 4 page (s.miDetail page (blockOf page q))

/-- The data words of a page, read. -/
def pageReads (s : State) (page q p : Nat) : List WordRead := (List.range 64).map (fun k => s.look page q (64 * p + k))

/-- Parity words of a page computed from its data words as they stand, unless the page is stale (R208). -/
def pageCovered (s : State) (page q p : Nat) : State :=
  if SMap.read false s.mem.stale (pageKey page q p) then s
  else
    let par := pageParity ((s.pageReads page q p).map (·.data))
    (s.putRaw page q true (2 * p) (codeWord par.1)).putRaw page q true (2 * p + 1) (codeWord par.2)

/-- Poison a word: data as read, check bits XOR 0x03; the scrubber's write computes the parity words of the page (R208, R213). -/
def poisonAt (s : State) (page q w : Nat) : State :=
  let r := s.look page q w
  let t := (s.putRaw page q false w (poisonWord r.data)).pageCovered page q (w / 64)
  ((t.miCount page (miLost page) (blockOf page q)).miInt page Mi.INT_WORD_LOST).lastErr page q 3 r.syn false w

/-- A word is lost (R213). -/
def loseWord (s : State) (page q w : Nat) : State := (s.poisonAt page q w).lostEvent page q

/-! ## Writing a word (R208, R224) -/

/-- Whether the flip mask applies to this write: armed, the block named, and a test write or `SRC` = 1 (R224). -/
def flips (s : State) (page b : Nat) (test : Bool) : Bool :=
  s.flag page (miFlipArm page) && s.get page (miFlipBlock page) = b && (test || s.flag page (miFlipSrc page))

/-- The flip mask as 72 bits. -/
def flipMask (s : State) (page : Nat) : BitVec 72 :=
  BitVec.ofNat 72 (s.get page (miFlipLo page) + 2 ^ 32 * s.get page (miFlipHi page) + 2 ^ 64 * s.get page (miFlipCheck page))

/-- Store a correctly coded word, through the flip mask where it applies, which then clears `ARM`; `yields` is a write that leaves the mask
to port A's write of the same cycle (R224). -/
def putCoded (s : State) (page q w data : Nat) (test yields : Bool) : State :=
  if s.flips page (blockOf page q) test && !yields then
    (s.putRaw page q false w (codeWord data ^^^ s.flipMask page)).set page (miFlipArm page) 0
  else s.putRaw page q false w (codeWord data)

/-- A word that waits in the repair queue is written by a port: its retry makes no write-back (R211). -/
def supersede (s : State) (page q w : Nat) : State :=
  if (SMap.read [] s.mem.repair (bankKey page q)).elem w then
    { s with mem := { s.mem with superseded := SMap.write false s.mem.superseded (wordKey page q w) true } }
  else s

/-- A port's or a queue controller's write: the page becomes stale (R208). -/
def portStore (s : State) (page q w : Nat) (data : DWord) (yields : Bool := false) : State :=
  let t := (s.putCoded page q w data.toNat false yields).supersede page q w
  { t with mem := { t.mem with stale := SMap.write false t.mem.stale (pageKey page q (w / 64)) true } }

/-- A test write reads the old word and the page's parity words; each read is a detecting one (R209, R223). -/
def testReads (s : State) (page q w : Nat) : State :=
  let p := w / 64
  ((s.detected page q w (s.look page q w)).found page q true (2 * p) (readWord (s.raw page q true (2 * p)))).found page q true
    (2 * p + 1) (readWord (s.raw page q true (2 * p + 1)))

/-- A write that keeps the page's parity words right: by the configuration controller or the test access (R208). -/
def parityStore (s : State) (page q w data : Nat) (test : Bool) : State :=
  let old := (s.look page q w).data
  let p := w / 64
  let p0 := (readWord (s.raw page q true (2 * p))).data
  let p1 := (readWord (s.raw page q true (2 * p + 1))).data
  let new := parityUpdate (p0, p1) (w % 64) (old ^^^ data)
  let t := if test then (s.testReads page q w).putCoded page q w data true false else s.putRaw page q false w (codeWord data)
  (t.putRaw page q true (2 * p) (codeWord new.1)).putRaw page q true (2 * p + 1) (codeWord new.2)

/-! ## The scrubber (R210, R215 to R217) -/

/-- The parity words of a page, read. -/
def parityReads (s : State) (page q p : Nat) : WordRead × WordRead :=
  (readWord (s.raw page q true (2 * p)), readWord (s.raw page q true (2 * p + 1)))

/-- Whether the word code marks a word uncorrectable: an erasure of the page code (R207). -/
def WordRead.marked (r : WordRead) : Bool := r.cls = .uncorrectable

/-- The page code's view of a page: the marked positions and what it repairs (R207). -/
def pageRepair (s : State) (page q p : Nat) : PageRepair :=
  let ws := s.pageReads page q p
  let ps := s.parityReads page q p
  let syn := pageSyndromes (ws.map (·.data)) (ps.1.data, ps.2.data)
  let marks := ((List.range 64).filter (fun k => (ws[k]?.map WordRead.marked).getD false)).map (· + 2)
  pageErasures syn.1 syn.2 ((if WordRead.marked ps.1 then [0] else []) ++ (if WordRead.marked ps.2 then [1] else []) ++ marks)

/-- Whether a repaired data word stands: its stored check bits agree, or differ in one check bit (R207). -/
def repairStands (x : BitVec 72) (data : Nat) : Bool :=
  let syn := checkBits data ^^^ (x.toNat / 2 ^ 64)
  syn = 0 || (List.range 8).any (fun j => 1 <<< j = syn)

/-- Position `i` of a page after a repair: the data of word i - 2, if the page code gives one that stands. -/
def repaired (s : State) (page q w : Nat) : Option Nat :=
  match s.pageRepair page q (w / 64) with
  | .fix l =>
    match l.find? (fun e => e.1 = w % 64 + 2) with
    | some e =>
      let data := (s.look page q w).data ^^^ e.2
      if repairStands (s.raw page q false w) data then some data else none
    | none => none
  | _ => none

/-- A word of an MRAM sector as a copy of the sector carries it: corrected, or as it stands where no code gives its data (R563). -/
def sectorWord (s : State) (q w : Nat) : BitVec 72 :=
  match (s.look Pg.safety q w).cls with
  | .clean | .corrected => codeWord (s.look Pg.safety q w).data
  | .poison => s.raw Pg.safety q false w
  | .uncorrectable =>
    match s.repaired Pg.safety q w with
    | some v => codeWord v
    | none => s.raw Pg.safety q false w

/-- An MRAM sector is copied, corrected, into the lowest free spare sector and retired, `fix` being the word whose value the retry gives;
with no spare free it stays, and the condition is fatal (R563). Spare sectors are taken in order and never given back, so the lowest free
one is told by `SPARES_FREE`. -/
def mramSpare (s : State) (q : Nat) (fix : Option (Nat × Nat)) : State :=
  let free := s.get Pg.safety Safety.SAF_MRAM_SPARES_FREE
  if free = 0 then (s.fatal Safety.SAF_FATAL_MRAM 0xC003 Pg.safety).event 0xC003 4 Pg.safety q
  else
    let k := 32 - free
    let t := { s with safety := { s.safety with mramMap := SMap.write none s.safety.mramMap q (some k) } }
    let t := forEach (List.range 512) (fun w u => u.putRaw Pg.safety q false w
      (match fix with | some x => if x.1 = w then codeWord x.2 else s.sectorWord q w | none => s.sectorWord q w)) t
    let t := forEach (List.range 8) (fun p u => u.pageCovered Pg.safety q p) t
    let t := t.set Pg.safety Safety.SAF_MRAM_SPARES_FREE (free - 1)
    ((t.history 8 Pg.safety q k).warn Safety.SAF_WARN_SPARE).event 0xC002 3 Pg.safety q

/-- The lowest free remap entry of a bank: neither valid nor retired. -/
def freeEntry (s : State) (page q : Nat) : Option Nat :=
  (List.range 4).find? (fun i => !(s.flag page (miRemapValid page) (4 * q + i)) && !(s.flag page (miRemapRetired page) (4 * q + i)))

/-- The remap entry that serves a word is retired, its data going elsewhere (R220). -/
def retireEntry (s : State) (page q : Nat) (par : Bool) (w : Nat) : State :=
  match s.remapOf page q par w with
  | some i =>
    ((s.set page (miRemapValid page) 0 (4 * q + i)).set page (miRemapRetired page) 1 (4 * q + i)).history 6 page
      (q * 65536 + b2n par * 1024 + w) i
  | none => s

/-- A word or parity word is classed lasting: its good value goes to the lowest free entry, and the last free entry warns; with
none free the word stays and the bank is fatal (R210, R212, R219 to R221). A word of the MRAM moves with its sector (R226, R563). -/
def remap (s : State) (page q : Nat) (par : Bool) (w value : Nat) : State :=
  let b := blockOf page q
  let s := (s.count page (miLasting page) 1 b).miInt page Mi.INT_LASTING
  if isMram page then s.mramSpare q (if par then none else some (w, value))
  else
  match s.freeEntry page q with
  | none =>
    ((s.setInt page Mi.INT_REMAP_FULL).fatal Safety.SAF_FATAL_MEMORY 0x2002 page).event 0x2002 4 page (s.miDetail page b)
  | some i =>
    let t := s.retireEntry page q par w
    let t := { t with mem := { t.mem with spares := SMap.write 0 t.mem.spares (spareKey page q i) (codeWord value) } }
    let t := ((t.set page (miRemapValid page) 1 (4 * q + i)).set page (miRemapParity page) (b2n par) (4 * q + i)).set page
      (miRemapWord page) w (4 * q + i)
    let t := t.history 5 page (q * 65536 + b2n par * 1024 + w) i
    let t := t.event 0x2001 3 page (t.miDetail page b)
    if (t.freeEntry page q).isNone then t.warn Safety.SAF_WARN_MEM else t

/-- Write a corrected value back and read it again: clean is transient, anything else is lasting. `again` are the bits the cell
has inverted by the time of the re-read. An MRAM sector with a word that the page code `repaired` moves in either case (R563). -/
def writeBack (s : State) (page q w value : Nat) (again : BitVec 72) (repaired : Bool := false) : State :=
  let t := (s.putRaw page q false w (codeWord value)).upset page q false w again
  if (t.look page q w).cls = .clean then
    let t := t.count page (miTransient page) 1 (blockOf page q)
    if isMram page && repaired then t.mramSpare q none else t
  else t.remap page q false w value

/-- The same for a parity word (R210, R215). -/
def writeBackParity (s : State) (page q i value : Nat) (again : BitVec 72) : State :=
  let t := (s.putRaw page q true i (codeWord value)).upset page q true i again
  if (readWord (t.raw page q true i)).cls = .clean then t.count page (miTransient page) 1 (blockOf page q)
  else t.remap page q true i value

/-- The retry of a parity word: written as recomputed from the page's data words, and read again (R210). -/
def parityRetry (s : State) (page q i : Nat) (again : BitVec 72) : State :=
  let par := pageParity ((s.pageReads page q (i / 2)).map (·.data))
  match (readWord (s.raw page q true i)).cls with
  | .clean => s.count page (miTransient page) 1 (blockOf page q)
  | .poison => s
  | _ => s.writeBackParity page q i (if i % 2 = 0 then par.1 else par.2) again

/-- The one retry of the oldest queued word: the class of the retry read decides it, and a word that a port has written since is only
counted (R210, R211). -/
def scrubRetry (s : State) (page q : Nat) (again : BitVec 72) : State :=
  let k := bankKey page q
  match SMap.read [] s.mem.repair k with
  | [] => s
  | w :: rest =>
    let t := { s with mem := { s.mem with
      repair := SMap.write [] s.mem.repair k rest, superseded := SMap.write false s.mem.superseded (wordKey page q w) false } }
    if 1024 ≤ w then t.parityRetry page q (w - 1024) again
    else if SMap.read false s.mem.superseded (wordKey page q w) then t.count page (miTransient page) 1 (blockOf page q)
    else
    let r := t.look page q w
    match r.cls with
    | .clean => t.count page (miTransient page) 1 (blockOf page q)
    | .corrected => t.writeBack page q w r.data again
    | .poison => t
    | .uncorrectable =>
      if SMap.read false t.mem.stale (pageKey page q (w / 64)) then t.loseWord page q w
      else
        match t.repaired page q w with
        | some v => t.writeBack page q w v again true
        | none => t.loseWord page q w

/-- A page whose syndromes no single symbol error explains and which reads so twice: lasting, and every data word of it is lost, with one
record (R215). -/
def losePage (s : State) (page q p : Nat) : State :=
  let t := (s.count page (miLasting page) 1 (blockOf page q)).miInt page Mi.INT_LASTING
  (forEach (List.range 64) (fun k u => u.poisonAt page q (64 * p + k)) t).lostEvent page q

/-- Step over a page: check every word, then recompute a stale page's parity, or read the parity words of another and look at the
syndromes if all 66 words are clean. `upsets` are positions of the page, 0 to 63 a data word and 64, 65 a parity word, whose stored bits
the step meets inverted; `written` is a port write of the page during the step; `again` are bits that a located word or
parity word has inverted at its re-read, `second` whether the second reading of an unexplained page is clean (R215). -/
def scrubPage (s : State) (page q p : Nat) (upsets : List (Nat × BitVec 72)) (written second : Bool) (again : BitVec 72) : State :=
  let key := pageKey page q p
  let s := forEach upsets (fun x u =>
    if x.1 < 64 then u.upset page q false (64 * p + x.1) x.2 else u.upset page q true (2 * p + (x.1 - 64) % 2) x.2) s
  let ws := s.pageReads page q p
  let ps := s.parityReads page q p
  let t := forEach (List.range 64) (fun k u => (u.readAt page q (64 * p + k)).2) s
  if SMap.read false s.mem.stale key then
    if written then t
    else
      let par := pageParity (ws.map (·.data))
      let u := (t.putRaw page q true (2 * p) (codeWord par.1)).putRaw page q true (2 * p + 1) (codeWord par.2)
      { u with mem := { u.mem with stale := SMap.write false u.mem.stale key false } }
  else
    let t := (t.found page q true (2 * p) ps.1).found page q true (2 * p + 1) ps.2
    if written then { t with mem := { t.mem with stale := SMap.write false t.mem.stale key true } }
    else if ws.all (fun r => r.cls = .clean) && ps.1.cls = .clean && ps.2.cls = .clean then
      let syn := pageSyndromes (ws.map (·.data)) (ps.1.data, ps.2.data)
      let par := pageParity (ws.map (·.data))
      match pageLocate syn.1 syn.2 with
      | .none => t
      | .fix l =>
        forEach l (fun e u =>
          if e.1 = 0 then u.writeBackParity page q (2 * p) par.1 again
          else if e.1 = 1 then u.writeBackParity page q (2 * p + 1) par.2 again
          else
            let w := 64 * p + (e.1 - 2)
            let data := (s.look page q w).data ^^^ e.2
            let u := (u.miInt page Mi.INT_UNCORRECTABLE).lastErr page q 2 0 false w
            if repairStands (s.raw page q false w) data then u.writeBack page q w data again true else u.loseWord page q w) t
      | .impossible => if second then t.count page (miTransient page) 1 (blockOf page q) else t.losePage page q p
    else t

/-- The track that a bank's scrubber runs on: port B's of a DPB, or port A's where port B is not used; a BKB's `TRACK` (R214). -/
def scrubTrack (s : State) (page q : Nat) : Nat :=
  let f := fun n => s.frame (pageDie page) (pageInDie page - 0x100) 128 n
  if q < 10 then
    (if bit (f 0) (64 * q + 25) then bits (f 0) (64 * q + 23) (64 * q + 20) else bits (f 0) (64 * q + 19) (64 * q + 16))
  else bits (f 1) (64 * ((q - 10) / 8) + 19) (64 * ((q - 10) / 8) + 16)

/-- Whether a bank's scrubber can work: its block is powered and, in a sector, not held in reset, and its track runs (R214, R217). -/
def scrubRuns (s : State) (page q : Nat) : Bool :=
  if isMram page || isEngPage page then s.pageOn page
  else
    let d := pageDie page
    let sec := pageInDie page - 0x100
    s.domOn (16 * d + 1) && !(s.gsrActive d sec) && q < bankCount page &&
      bit (s.get (Pg.sctl d sec) Sctl.STATUS_TRACK_RUN) (s.scrubTrack page q)

/-- Whether the laps of a page's banks are enabled: the MRAM has no enable. -/
def scrubEnabled (s : State) (page : Nat) : Bool := isMram page || s.flag page (miScrEn page)

/-- One step of the lap walk, once the repair queue is empty (R215). -/
def walkStep (s : State) (page q : Nat) (upsets : List (Nat × BitVec 72)) (written second : Bool) (again : BitVec 72) : State :=
  let k := bankKey page q
  let p := SMap.read 0 s.mem.walk k
  if s.scrubRuns page q = true ∧ s.scrubEnabled page = true ∧ SMap.read [] s.mem.repair k = [] ∧ p < pagesOf page q then
    let t := s.scrubPage page q p upsets written second again
    { t with mem := { t.mem with walk := SMap.write 0 t.mem.walk k (p + 1) } }
  else s

/-- A running lap that has taken `us` microseconds exceeds `MI_LAP_LIMIT`: reported once per lap (R216). -/
def slowLap (s : State) (page q us : Nat) : State :=
  let k := bankKey page q
  if isMram page ∨ SMap.read false s.mem.slowed k = true ∨ s.scrubRuns page q = false ∨ us ≤ s.get page (miLimit page) then s
  else
    let b := blockOf page q
    let t := { s with mem := { s.mem with slowed := SMap.write false s.mem.slowed k true } }
    let t := (t.setInt page Mi.INT_SLOW_LAP).set page (miSlow page) 1 b
    (t.event 0x2004 3 page (t.miDetail page b)).warn Safety.SAF_WARN_MEM

/-- A bank completes its lap after `us` microseconds (R216). -/
def lapDone (s : State) (page q us : Nat) : State :=
  let k := bankKey page q
  if SMap.read 0 s.mem.walk k = pagesOf page q then
    if isMram page then { s with mem := { s.mem with walk := SMap.write 0 s.mem.walk k 0 } }
    else
    let b := blockOf page q
    let s := s.slowLap page q us
    let t := { s with mem := { s.mem with
      walk := SMap.write 0 s.mem.walk k 0, lapLast := SMap.write 0 s.mem.lapLast k (min us (2 ^ 24 - 1)),
      slowed := SMap.write false s.mem.slowed k false } }
    let worst := (banksOf page b).foldl (fun m r => max m (SMap.read 0 t.mem.lapLast (bankKey page r))) 0
    (t.set page (miLapLast page) worst b).set page (miLapMax page) (max (t.get page (miLapMax page) b) (min us (2 ^ 24 - 1))) b
  else s

/-- A triplicated copy is rewritten from the majority (R222). -/
def tmrFixed (s : State) (page b : Nat) : State :=
  ((s.count page (miTmrFix page)).setInt page Mi.INT_TMR_FIX).event 0x2005 1 page (s.miDetail page b)

/-! ## The test access (R223) -/

/-- `BANK_MAP` of a BKB from its record (R197); 0 for other blocks. -/
def bankMapOf (s : State) (page b : Nat) : Nat :=
  if isEngPage page ∨ b < 10 then 0
  else bits (s.frame (pageDie page) (pageInDie page - 0x100) 128 1) (64 * (b - 10)) (64 * (b - 10))

/-- The range of `MI_TEST_ADDR.ADDR` of a block (R225, R290). -/
def testRange (page b : Nat) : Nat :=
  if isEngPage page then (if b = 0 then 8192 else 32768) else if b < 10 then 512 else 8192

/-- Whether a test access can be performed: the block on and not held, the address in range (R223). -/
def testAllowed (s : State) (page : Nat) : Bool :=
  let b := s.get page (miTestBlock page)
  s.get page (miTestAddr page) < testRange page b &&
  (if isEngPage page then s.pageOn page else s.domOn (16 * pageDie page + 1) && !(s.gsrActive (pageDie page) (pageInDie page - 0x100)))

/-- `MI_TEST_CMD`: the access starts, or faults at once (R223). -/
def testStart (s : State) (page : Nat) (write : Bool) : State :=
  if s.testAllowed page then
    let t := (s.set page (miTestBusy page) 1).set page (miTestFault page) 0
    { t with mem := { t.mem with test := SMap.write none t.mem.test page (some write) } }
  else s.set page (miTestFault page) 1

/-- Test accesses in progress on the pages that `mine` names end with `FAULT` = 1: their block is held in reset or off (R223). -/
def testsEnd (s : State) (mine : Nat → Bool) : State :=
  forEach (s.mem.test.map Prod.fst) (fun p t =>
    if mine p then
      { (t.set p (miTestBusy p) 0).set p (miTestFault p) 1 with mem := { t.mem with test := SMap.write none t.mem.test p none } }
    else t) s

/-- The access ends: performed in idle cycles, or with `FAULT` after 10 µs (R223). -/
def testDone (s : State) (page : Nat) (timedOut : Bool) : State :=
  match SMap.read none s.mem.test page with
  | none => s
  | some write =>
    let t := s.set page (miTestBusy page) 0
    let t := { t with mem := { t.mem with test := SMap.write none t.mem.test page none } }
    if timedOut ∨ s.testAllowed page = false then t.set page (miTestFault page) 1
    else
      let b := s.get page (miTestBlock page)
      let qw := locate page b (s.get page (miTestAddr page)) (s.bankMapOf page b)
      if write then
        t.parityStore page qw.1 qw.2 (s.get page (miTestLo page) + 2 ^ 32 * s.get page (miTestHi page)) true
      else
        let r := t.readAt page qw.1 qw.2
        (((r.2.set page (miTestLo page) r.1.data).set page (miTestHi page) (r.1.data / 2 ^ 32)).set page (miTestCstat page)
          r.1.cls.code).set page (miTestCheck page) ((t.raw page qw.1 false qw.2).toNat / 2 ^ 64)

end State
end Sys2Proof.Machine
end

