-- ==== Sys2Proof/Machine/Blocks.lean ====
section
/-! DEFINITION. The ports of dual-port blocks (DPB), banked blocks (BKB) and queue controllers (spec/06_on_chip_memories.md).
A block is named by fabric die, sector and number; port `b` is 0 for A and 1 for B; block index 0 to 9 is a DPB, 10 to 14 a
BKB (R225). -/

namespace Sys2Proof.Machine

open Reg

def isDpb (d s i b : Nat) : Bool := isSector d s && i < 10 && b < 2
def isBkb (d s k b : Nat) : Bool := isSector d s && k < 5 && b < 2
def isBlock (d s b : Nat) : Bool := isSector d s && b < 15

def dpbKey (d s i b : Nat) : Nat := (sectorKey d s * 16 + i) * 2 + b
def bkbKey (d s k b : Nat) : Nat := (sectorKey d s * 16 + k) * 2 + b
def queueKey (d s b : Nat) : Nat := sectorKey d s * 16 + b

/-- The physical word of entry `a` of a port of width 2^w, and its low bit (R168, R169). -/
def entryWord (w a : Nat) : Nat := a / 2 ^ (6 - w) % 512
def entryLow (w a : Nat) : Nat := a % 2 ^ (6 - w) * 2 ^ w

/-- An entry of a word, and a word with the entry replaced (R169, R173). -/
def entryOf (w a word : Nat) : Nat := bits word (entryLow w a + 2 ^ w - 1) (entryLow w a)
def withEntry (w a word v : Nat) : Nat :=
  word - entryOf w a word * 2 ^ entryLow w a + v % 2 ^ 2 ^ w * 2 ^ entryLow w a

/-- Bytes of a word replaced where enabled (R179). -/
def mergeBytes (be old new : Nat) : Nat :=
  ((List.range 8).map (fun j => lane j (if bit be j then new else old) * 2 ^ (8 * j))).sum

/-- The new word and `AOVF` of an ADD (R183). `AMODE` 3 is a reserved encoding that no record holds. -/
def bankAdd (mode old din : Nat) : Nat × Nat :=
  if mode = 1 then
    let lo := old % 2 ^ 32 + din % 2 ^ 32
    let hi := old / 2 ^ 32 + din / 2 ^ 32
    (lo % 2 ^ 32 + hi % 2 ^ 32 * 2 ^ 32, hi / 2 ^ 32 * 2 + lo / 2 ^ 32)
  else if mode = 2 then
    let z := signed 64 old + signed 64 din
    if z < -(2 ^ 63 : Int) then (2 ^ 63, 3) else if (2 ^ 63 : Int) ≤ z then (2 ^ 63 - 1, 1) else (wrap 64 z, 0)
  else ((old + din) % 2 ^ 64, (old + din) / 2 ^ 64)

namespace State

/-! ## Configuration records (R196, R197, R428) -/

/-- Bits of the record of DPB `i`, of BKB `k`, and of the queue of block `b`. -/
def dpbRec (s : State) (d sec i hi lo : Nat) : Nat := bits (s.frame d sec 128 0) (64 * i + hi) (64 * i + lo)
def bkbRec (s : State) (d sec k hi lo : Nat) : Nat := bits (s.frame d sec 128 1) (64 * k + hi) (64 * k + lo)
def queueRec (s : State) (d sec b hi lo : Nat) : Nat := bits (s.frame d sec 128 2) (64 * b + hi) (64 * b + lo)

def dpbWidth (s : State) (d sec i b : Nat) : Nat := min 6 (s.dpbRec d sec i (3 * b + 2) (3 * b))
def dpbWmode (s : State) (d sec i b : Nat) : Nat := s.dpbRec d sec i (7 + 2 * b) (6 + 2 * b)
def dpbTrack (s : State) (d sec i b : Nat) : Nat := s.dpbRec d sec i (19 + 4 * b) (16 + 4 * b)
def dpbUse (s : State) (d sec i b : Nat) : Bool := s.dpbRec d sec i (24 + b) (24 + b) = 1
def dpbCompat (s : State) (d sec i : Nat) : Bool := s.dpbRec d sec i 12 12 = 1
def dpbOreg (s : State) (d sec i b : Nat) : Bool := s.dpbRec d sec i (10 + b) (10 + b) = 1
def bkbTrack (s : State) (d sec k : Nat) : Nat := s.bkbRec d sec k 19 16
def bkbUse (s : State) (d sec k b : Nat) : Bool := s.bkbRec d sec k (24 + b) (24 + b) = 1
def bkbOreg (s : State) (d sec k b : Nat) : Bool := s.bkbRec d sec k (1 + b) (1 + b) = 1
def qMode (s : State) (d sec b : Nat) : Nat := s.queueRec d sec b 1 0
def qWidth (s : State) (d sec b : Nat) : Nat := s.queueRec d sec b 4 2

/-- Compatibility mode holds only while both ports select one track (R177). -/
def compatOn (s : State) (d sec i : Nat) : Bool := s.dpbCompat d sec i && s.dpbTrack d sec i 0 = s.dpbTrack d sec i 1

/-! ## The dual-port block -/

def dpbPort (s : State) (d sec i b : Nat) : DpbPort := SMap.read {} s.mem.dpb (dpbKey d sec i b)
def setDpbPort (s : State) (d sec i b : Nat) (p : DpbPort) : State :=
  { s with mem := { s.mem with dpb := SMap.write {} s.mem.dpb (dpbKey d sec i b) p } }

/-- Whether a port takes accesses: used, its block a plain memory, and released on its track (R186, R193, R194, R196). -/
def dpbOpen (s : State) (d sec i b : Nat) : Bool :=
  s.qMode d sec i = 0 && s.dpbUse d sec i b && s.trackFree d sec (s.dpbTrack d sec i b) && s.domOn (16 * d + 1)

/-- An access is answered with `BUSY` = 1 (R176). -/
def dpbBusy (s : State) (d sec i b : Nat) : State :=
  (s.setDpbPort d sec i b { s.dpbPort d sec i b with busy := true }).count (Pg.sctl d sec) Sctl.SCTL_DPB_BUSY_COUNT 1 i

/-- The colliding read of a port: in compatibility mode the word as the write leaves it, else no value that is defined, with
`BUSY` (R176, R177). -/
def dpbReadCollides (s : State) (d sec i b : Nat) (a after code : Nat) : State :=
  let p := s.dpbPort d sec i b
  let w := s.dpbWidth d sec i b
  if s.compatOn d sec i then
    s.setDpbPort d sec i b { p with dout := BitVec.ofNat 64 (entryOf w a after), cstat := BitVec.ofNat 2 code, busy := false }
  else
    (s.setDpbPort d sec i b { p with dout := BitVec.ofNat 64 (s.freeVal % 2 ^ 2 ^ w), cstat := BitVec.ofNat 2 (s.freeVal / 2 ^ 64) }
      |>.dpbBusy d sec i b).took

/-- A performed write of a port is undone: the stored word is the winner's, and a flip mask it took is armed again (R176, R224). -/
def dpbUndo (s : State) (d sec i b : Nat) (x : PortAccess) : State :=
  let p := s.dpbPort d sec i b
  let t := ((s.putRaw (Pg.mi d sec) i false x.word x.old).setDpbPort d sec i b { p with merge := none, last := none }).dpbBusy d sec i b
  if x.masked then t.set (Pg.mi d sec) Mi.MI_FLIP_CTL_ARM 1 else t

/-- Whether an access of port `b` meets what the other port does now: on one track when it is of the edge the track has just had, on two
when the edges lie within t_COL, which `far` says (R175). -/
def dpbMeets (s : State) (d sec i b : Nat) (far : Bool) (x : PortAccess) : Bool :=
  if s.dpbTrack d sec i 0 = s.dpbTrack d sec i 1 then x.edge = s.trackCount d sec (s.dpbTrack d sec i b) else far

/-- The last access of port `b`, if it is to a word and meets what the other port does now; and its last store of a merge write. -/
def dpbMet (s : State) (d sec i b word : Nat) (far : Bool) : Option PortAccess :=
  (s.dpbPort d sec i b).last.filter (fun x => x.word = word && s.dpbMeets d sec i b far x)
def dpbMetStore (s : State) (d sec i b word : Nat) (far : Bool) : Option PortAccess :=
  (s.dpbPort d sec i b).stored.filter (fun x => x.word = word && s.dpbMeets d sec i b far x)

/-- Whether port A still has a write of this edge to store, to which a flip mask goes first (R224). -/
def maskYields (s : State) (d sec i b : Nat) : Bool :=
  b = 1 && s.dpbTrack d sec i 0 = s.dpbTrack d sec i 1 &&
  ((s.dpbPort d sec i 0).merge.any (fun m => m.ripe) || (s.dpbPort d sec i 0).due.any (fun x => x.we && s.dpbWidth d sec i 0 = 6))

/-- A port stores a word: what it did, for the collisions. -/
def dpbStore (s : State) (d sec i b word : Nat) (v : DWord) : PortAccess × State :=
  let page := Pg.mi d sec
  let yields := s.maskYields d sec i b
  ({ addr := 0, word := word, write := true, old := s.raw page i false word, masked := s.flips page i false && !yields
     edge := s.trackCount d sec (s.dpbTrack d sec i b) }, s.portStore page i word v yields)

/-- The second edge of a merge write: the merged word is stored. Of what the other port does at that edge, a write to the word is not
performed and a read collides (R173, R175, R176). -/
def mergeStore (s : State) (d sec i b : Nat) (far : Bool) : State :=
  let p := s.dpbPort d sec i b
  match p.merge with
  | none => s
  | some m =>
    if m.ripe = false then s
    else
      let hit := s.dpbMet d sec i (1 - b) m.word far
      let t := match hit with
        | some x => if x.write then s.dpbUndo d sec i (1 - b) x else s
        | none => s
      let r := t.dpbStore d sec i b m.word m.value
      let t := r.2.setDpbPort d sec i b { r.2.dpbPort d sec i b with merge := none, stored := some r.1 }
      match hit with
      | some x => if x.write then t else t.dpbReadCollides d sec i (1 - b) x.addr m.value.toNat 0
      | none => t

/-- The word as a colliding write of port `b` leaves it, with its status: the merged word, or the word as it now stands. -/
def dpbAfter (s : State) (d sec i b word : Nat) : Nat × Nat :=
  let r := s.look (Pg.mi d sec) i word
  match (s.dpbPort d sec i b).merge with
  | some m => if m.word = word then (m.value.toNat, 0) else (r.data, r.cls.code)
  | none => (r.data, r.cls.code)

/-- A read of a port (R171, R173, R175 to R177). -/
def dpbRead (s : State) (d sec i b addr : Nat) (far : Bool) (flip : BitVec 72) : State :=
  let w := s.dpbWidth d sec i b
  let word := entryWord w addr
  let t := (s.mergeStore d sec i b far).upset (Pg.mi d sec) i false word flip
  let p := { t.dpbPort d sec i b with
    busy := false
    last := some { addr := addr, word := word, write := false, old := 0, masked := false, edge := t.trackCount d sec (t.dpbTrack d sec i b) } }
  if (t.dpbMet d sec i (1 - b) word far).any (·.write) || (t.dpbMetStore d sec i (1 - b) word far).isSome then
    let after := t.dpbAfter d sec i (1 - b) word
    (t.setDpbPort d sec i b p).dpbReadCollides d sec i b addr after.1 after.2
  else
    let r := t.readAt (Pg.mi d sec) i word
    r.2.setDpbPort d sec i b { p with dout := BitVec.ofNat 64 (entryOf w addr r.1.data), cstat := BitVec.ofNat 2 r.1.cls.code }

/-- A write performed by a port: a whole word, or the first edge of a merge write; the outputs follow `WMODE` (R172, R173). -/
def dpbPerform (s : State) (d sec i b addr : Nat) (din : DWord) : State :=
  let page := Pg.mi d sec
  let w := s.dpbWidth d sec i b
  let word := entryWord w addr
  let mode := s.dpbWmode d sec i b
  let r := s.look page i word
  let t := if w = 6 ∧ mode ≠ 2 then s else s.detected page i word r
  let entry := BitVec.ofNat 64 (entryOf w addr r.data)
  let bad := r.cls = .uncorrectable || r.cls = .poison
  let did : PortAccess := { addr := addr, word := word, write := true, old := s.raw page i false word, masked := false
                            edge := s.trackCount d sec (s.dpbTrack d sec i b) }
  let p := { t.dpbPort d sec i b with busy := false }
  let p :=
    if w < 6 && bad then { p with dout := entry, cstat := BitVec.ofNat 2 r.cls.code }
    else if mode = 1 then { p with dout := BitVec.ofNat 64 (din.toNat % 2 ^ 2 ^ w), cstat := 0 }
    else if mode = 2 then { p with dout := entry, cstat := BitVec.ofNat 2 r.cls.code }
    else p
  if w = 6 then
    let x := t.dpbStore d sec i b word din
    x.2.setDpbPort d sec i b { p with last := some { x.1 with addr := addr } }
  else if bad then t.setDpbPort d sec i b { p with last := some did }
  else t.setDpbPort d sec i b { p with
    last := some did, merge := some { word := word, value := BitVec.ofNat 64 (withEntry w addr r.data din.toNat), ripe := false } }

/-- A write of a port that is not performed, answered with `BUSY` (R176). -/
def dpbLoses (s : State) (d sec i b : Nat) : State :=
  (s.setDpbPort d sec i b { s.dpbPort d sec i b with last := none }).dpbBusy d sec i b

/-- A write of a port. Of two writes that meet, port A's is stored on one track, either on two (a free bit says which), and a merge
write's second edge always is (R175, R176). -/
def dpbWrite (s : State) (d sec i b addr : Nat) (din : DWord) (far : Bool) (flip : BitVec 72) : State :=
  let word := entryWord (s.dpbWidth d sec i b) addr
  let t := (s.mergeStore d sec i b far).upset (Pg.mi d sec) i false word flip
  if (t.dpbMetStore d sec i (1 - b) word far).isSome then t.dpbLoses d sec i b
  else
    match t.dpbMet d sec i (1 - b) word far with
    | none => t.dpbPerform d sec i b addr din
    | some x =>
      if x.write then
        let one := t.dpbTrack d sec i 0 = t.dpbTrack d sec i 1
        let loses := if one then b = 1 else t.freeVal.testBit 0
        let t := if one then t else t.took
        if loses then t.dpbLoses d sec i b
        else (t.dpbUndo d sec i (1 - b) x).dpbPerform d sec i b addr din
      else
        let u := t.dpbPerform d sec i b addr din
        let after := u.dpbAfter d sec i b word
        u.dpbReadCollides d sec i (1 - b) x.addr after.1 after.2

/-- The access that the last edge has taken at a port, performed if it is of the kind named (R171). -/
def dpbTake (s : State) (d sec i b : Nat) (write far : Bool) (flip : BitVec 72) : State :=
  match (s.dpbPort d sec i b).due with
  | none => s
  | some x =>
    if x.we ≠ write then s
    else
      let t := s.setDpbPort d sec i b { s.dpbPort d sec i b with due := none }
      if write then t.dpbWrite d sec i b x.addr x.din far flip else t.dpbRead d sec i b x.addr far flip

/-! ## The banked block -/

def bkbPort (s : State) (d sec k b : Nat) : BkbPort := SMap.read {} s.mem.bkb (bkbKey d sec k b)
def setBkbPort (s : State) (d sec k b : Nat) (p : BkbPort) : State :=
  { s with mem := { s.mem with bkb := SMap.write {} s.mem.bkb (bkbKey d sec k b) p } }

/-- Whether a port takes requests (R186, R193, R194, R197). -/
def bkbOpen (s : State) (d sec k b : Nat) : Bool :=
  s.qMode d sec (10 + k) = 0 && s.bkbUse d sec k b && s.trackFree d sec (s.bkbTrack d sec k) && s.domOn (16 * d + 1)

/-- The bank index and word of an address (R178). -/
def bkbAt (s : State) (d sec k addr : Nat) : Nat × Nat := locate (Pg.mi d sec) (10 + k) addr (s.bankMapOf (Pg.mi d sec) (10 + k))

def bankBusy (s : State) (page q : Nat) : Option BankStore := SMap.read none s.mem.busy (bankKey page q)
def setBankBusy (s : State) (page q : Nat) (x : Option BankStore) : State :=
  { s with mem := { s.mem with busy := SMap.write none s.mem.busy (bankKey page q) x } }

/-- Whether a request stalls: its bank is in a second cycle, or port A requests the same bank in this cycle (R181). -/
def bkbStalls (s : State) (d sec k b addr : Nat) (peer : Option Nat) : Bool :=
  let q := (s.bkbAt d sec k addr).1
  (s.bankBusy (Pg.mi d sec) q).isSome || (b = 1 && peer.any (fun a => (s.bkbAt d sec k a).1 = q))

/-- Present a result (R180). -/
def bkbResult (s : State) (d sec k b data aovf : Nat) (c : WordClass) : State :=
  s.setBkbPort d sec k b
    { s.bkbPort d sec k b with
      dvalid := true, dout := BitVec.ofNat 64 data, aovf := BitVec.ofNat 2 aovf, cstat := BitVec.ofNat 2 c.code }

/-- A READ (R180, R182). -/
def bkbRead (s : State) (d sec k b addr : Nat) (flip : BitVec 72) : State :=
  let at_ := s.bkbAt d sec k addr
  let r := (s.upset (Pg.mi d sec) at_.1 false at_.2 flip).readAt (Pg.mi d sec) at_.1 at_.2
  r.2.bkbResult d sec k b r.1.data 0 r.1.cls

/-- The first cycle of an operation that stores in its second: a bad read stores nothing and presents what it read (R184). -/
def bankFirst (s : State) (d sec k b q w : Nat) (flip : BitVec 72) (new : Nat → Nat) (shows : State → Nat → WordClass → State) : State :=
  let page := Pg.mi d sec
  let r := (s.upset page q false w flip).readAt page q w
  if r.1.cls = .uncorrectable ∨ r.1.cls = .poison then
    (r.2.bkbResult d sec k b r.1.data 0 r.1.cls).setBankBusy page q (some { word := w, value := none, portB := b = 1 })
  else
    shows (r.2.setBankBusy page q (some { word := w, value := some (BitVec.ofNat 64 (new r.1.data)), portB := b = 1 })) r.1.data r.1.cls

/-- Whether port A still has a store of this edge to a bank of the block, to which a flip mask goes first (R224). -/
def bankYields (s : State) (d sec k b : Nat) : Bool :=
  b = 1 && ((s.bkbPort d sec k 0).due.any (fun x => x.op = 1 && x.be = 0xFF) ||
    (List.range 8).any (fun n => (s.bankBusy (Pg.mi d sec) (10 + 8 * k + n)).any (fun x => x.ripe && !x.portB && x.value.isSome)))

/-- A WRITE: a whole word in one cycle, any other `BE` as a merge (R181, R184). -/
def bkbWrite (s : State) (d sec k b addr be : Nat) (din : DWord) (flip : BitVec 72) : State :=
  let at_ := s.bkbAt d sec k addr
  if be = 0xFF then (s.upset (Pg.mi d sec) at_.1 false at_.2 flip).portStore (Pg.mi d sec) at_.1 at_.2 din (s.bankYields d sec k b)
  else s.bankFirst d sec k b at_.1 at_.2 flip (fun old => mergeBytes be old din.toNat) (fun u _ _ => u)

/-- An ADD under `AMODE`, presenting the old word and `AOVF` (R183). -/
def bkbAdd (s : State) (d sec k b addr : Nat) (din : DWord) (flip : BitVec 72) : State :=
  let mode := s.bkbRec d sec k 4 3
  let at_ := s.bkbAt d sec k addr
  s.bankFirst d sec k b at_.1 at_.2 flip (fun old => (bankAdd mode old din.toNat).1)
    (fun u old c => u.bkbResult d sec k b old (bankAdd mode old din.toNat).2 c)

/-- A SWAP (R183). -/
def bkbSwap (s : State) (d sec k b addr : Nat) (din : DWord) (flip : BitVec 72) : State :=
  let at_ := s.bkbAt d sec k addr
  s.bankFirst d sec k b at_.1 at_.2 flip (fun _ => din.toNat) (fun u old c => u.bkbResult d sec k b old 0 c)

/-- The request that the last edge has taken at a port, performed by `go` if its `OP` is `op`. -/
def bkbTake (s : State) (d sec k b op : Nat) (go : State → BkbIn → State) : State :=
  match (s.bkbPort d sec k b).due with
  | none => s
  | some x => if x.op ≠ op then s else go (s.setBkbPort d sec k b { s.bkbPort d sec k b with due := none }) x

/-- The store of a bank's second cycle, made at the edge that ends it: it always follows, whatever happens to the sector (R184). -/
def bankStores (s : State) (page q : Nat) (yields : Bool := false) : State :=
  match s.bankBusy page q with
  | none => s
  | some x =>
    if x.ripe = false then s
    else
      let t := s.setBankBusy page q none
      match x.value with
      | some v => t.portStore page q x.word v yields
      | none => t

/-- Whether a bank has an idle cycle for its scrubber or for a test access: it is in no second cycle and no port has a request of this
edge for it (R214). -/
def bankIdle (s : State) (page q : Nat) : Bool :=
  let d := pageDie page
  let sec := pageInDie page - 0x100
  (s.bankBusy page q).isNone &&
  (if isMram page || isEngPage page then true
   else if q < 10 then (List.range 2).all (fun b => (s.dpbPort d sec q b).due.isNone && (s.dpbPort d sec q b).merge.isNone)
   else (List.range 2).all (fun b => !((s.bkbPort d sec ((q - 10) / 8) b).due.any (fun x => (s.bkbAt d sec ((q - 10) / 8) x.addr).1 = q))))

/-! ## Queue controllers -/

def queue (s : State) (d sec b : Nat) : Queue := SMap.read {} s.mem.queues (queueKey d sec b)
def setQueue (s : State) (d sec b : Nat) (q : Queue) : State :=
  { s with mem := { s.mem with queues := SMap.write {} s.mem.queues (queueKey d sec b) q } }

/-- Whether a block is a FIFO, its capacity, and the tracks of its sides (R186, R187). -/
def isQueue (s : State) (d sec b : Nat) : Bool := s.qMode d sec b = 1 || s.qMode d sec b = 2
def qCapacity (s : State) (d sec b : Nat) : Nat := if b < 10 then 2 ^ (15 - s.qWidth d sec b) else 8192
def qReadTrack (s : State) (d sec b : Nat) : Nat := if b < 10 then s.dpbTrack d sec b 1 else s.bkbTrack d sec (b - 10)
def qWriteTrack (s : State) (d sec b : Nat) : Nat :=
  if s.qMode d sec b = 2 then s.queueRec d sec b 19 16 else s.qReadTrack d sec b

/-- Whether a side of a queue has left GSR (R193, R194). -/
def qFree (s : State) (d sec b track : Nat) : Bool := s.isQueue d sec b && s.trackFree d sec track && s.domOn (16 * d + 1)

/-- Whether a side runs: its track has left GSR, `QRST` does not hold, and three edges have passed since it fell (R192, R194). -/
def qWriteOpen (s : State) (d sec b : Nat) : Bool :=
  s.qFree d sec b (s.qWriteTrack d sec b) && !(s.queue d sec b).qrst && (s.queue d sec b).wWait = 0
def qReadOpen (s : State) (d sec b : Nat) : Bool :=
  s.qFree d sec b (s.qReadTrack d sec b) && !(s.queue d sec b).qrst && (s.queue d sec b).rWait = 0

/-- The flags of R188; all 1 while a side is reset (R192). -/
def qFull (s : State) (d sec b : Nat) : Bool := !(s.qWriteOpen d sec b) || (s.queue d sec b).wLevel = s.qCapacity d sec b
def qAFull (s : State) (d sec b : Nat) : Bool := !(s.qWriteOpen d sec b) || s.queueRec d sec b 37 24 ≤ (s.queue d sec b).wLevel
def qEmpty (s : State) (d sec b : Nat) : Bool := !(s.qReadOpen d sec b) || (s.queue d sec b).rLevel = 0
def qAEmpty (s : State) (d sec b : Nat) : Bool := !(s.qReadOpen d sec b) || (s.queue d sec b).rLevel ≤ s.queueRec d sec b 53 40

/-- The bank, word and width of entry `a` of a queue. -/
def qAt (s : State) (d sec b a : Nat) : Nat × Nat :=
  if b < 10 then (b, entryWord (s.qWidth d sec b) a) else s.bkbAt d sec (b - 10) a

/-- An entry of a queue is stored in its block. -/
def queueStore (s : State) (d sec b a : Nat) (data : DWord) : State :=
  let page := Pg.mi d sec
  let at_ := s.qAt d sec b a
  let w := s.qWidth d sec b
  if w = 6 then s.portStore page at_.1 at_.2 data
  else
    let r := s.readAt page at_.1 at_.2
    if r.1.cls = .uncorrectable ∨ r.1.cls = .poison then r.2
    else r.2.portStore page at_.1 at_.2 (BitVec.ofNat 64 (withEntry w a r.1.data data.toNat))

/-- The entries of a BKB's staging buffer reach the banks. -/
def queueDrain (s : State) (d sec b : Nat) : State :=
  let t := forEach (s.queue d sec b).stage (fun x u => u.queueStore d sec b x.1 x.2) s
  t.setQueue d sec b { t.queue d sec b with stage := [] }

/-- The write that the last edge has taken: it counts on its own side at once. In CROSSING mode a BKB's entry passes its staging buffer
of 16, whose entries reach the banks by the next edge of the read clock (R190; log entry 99). -/
def queueWrite (s : State) (d sec b : Nat) (flip : BitVec 72) : State :=
  let q := s.queue d sec b
  match q.wDue with
  | none => s
  | some data =>
    let at_ := s.qAt d sec b q.wptr
    let t := s.upset (Pg.mi d sec) at_.1 false at_.2 flip
    let t :=
      if s.qMode d sec b = 2 ∧ 10 ≤ b then
        let u := if 16 ≤ q.stage.length then t.queueDrain d sec b else t
        u.setQueue d sec b { u.queue d sec b with stage := (u.queue d sec b).stage ++ [(q.wptr, data)] }
      else t.queueStore d sec b q.wptr data
    let q := t.queue d sec b
    t.setQueue d sec b { q with
      wDue := none, wptr := (q.wptr + 1) % s.qCapacity d sec b, wLevel := q.wLevel + 1, wPend := q.wPend ++ [0] }

/-- The read that the last edge has taken, presenting `RDATA` at port B. -/
def queueRead (s : State) (d sec b : Nat) (flip : BitVec 72) : State :=
  let q := s.queue d sec b
  if q.rDue = false then s
  else
    let page := Pg.mi d sec
    let at_ := s.qAt d sec b q.rptr
    let r := (s.upset page at_.1 false at_.2 flip).readAt page at_.1 at_.2
    let w := s.qWidth d sec b
    let t := if b < 10 then
        r.2.setDpbPort d sec b 1 { r.2.dpbPort d sec b 1 with
          dout := BitVec.ofNat 64 (entryOf w q.rptr r.1.data), cstat := BitVec.ofNat 2 r.1.cls.code }
      else r.2.bkbResult d sec (b - 10) 1 r.1.data 0 r.1.cls
    t.setQueue d sec b { t.queue d sec b with
      rDue := false, rptr := (q.rptr + 1) % s.qCapacity d sec b, rLevel := q.rLevel - 1, rPend := q.rPend ++ [0] }

/-- How many edges of the other side's clock an operation must have seen before it may count there: the next one in SYNC mode, the second
in CROSSING mode, where it may also be the third (R189, R190). -/
def syncFrom (s : State) (d sec b : Nat) : Nat := if s.qMode d sec b = 2 then 2 else 1

/-- The oldest write that may counts on the read side, or the oldest read on the write side (R189, R190). -/
def levelSync (s : State) (d sec b : Nat) (readSide : Bool) : State :=
  let q := s.queue d sec b
  if readSide then
    match q.wPend with
    | a :: rest => if s.syncFrom d sec b ≤ a then s.setQueue d sec b { q with wPend := rest, rLevel := q.rLevel + 1 } else s
    | [] => s
  else
    match q.rPend with
    | a :: rest => if s.syncFrom d sec b ≤ a then s.setQueue d sec b { q with rPend := rest, wLevel := q.wLevel - 1 } else s
    | [] => s

/-- An edge of the other side's clock comes to the operations that have not counted there; those for which it is the last that R190
allows count at it. -/
def levelAges (crossing : Bool) (pend : List Nat) : List Nat × Nat :=
  let aged := pend.map (· + 1)
  if crossing then (aged.filter (· < 3), (aged.filter (3 ≤ ·)).length) else (aged, 0)

/-- `QRST` rises: a store under way completes, and the queue empties without a clock, its memory unchanged. It falls: each side waits for
three edges of its own clock (R192, R199). -/
def queueReset (s : State) (d sec b : Nat) (on : Bool) : State :=
  if s.isQueue d sec b = false then s
  else if on then ((s.queueWrite d sec b 0).queueDrain d sec b).setQueue d sec b { qrst := true }
  else if (s.queue d sec b).qrst then s.setQueue d sec b { wWait := 3, rWait := 3 }
  else s

/-- An edge of track `n` counts toward the release of the queue sides it clocks, ends the cycle that shows `OVF` or `UDF`, comes to what
has not counted on those sides, and moves a staging buffer on (R189 to R192). -/
def queueEdge (s : State) (d sec n b : Nat) : State :=
  let w : Bool := s.qWriteTrack d sec b = n
  let r : Bool := s.qReadTrack d sec b = n
  let s := if r then s.queueDrain d sec b else s
  let q := s.queue d sec b
  let crossing : Bool := s.qMode d sec b = 2
  let ws := if r then levelAges crossing q.wPend else (q.wPend, 0)
  let rs := if w then levelAges crossing q.rPend else (q.rPend, 0)
  s.setQueue d sec b { q with
    wWait := if w then q.wWait - 1 else q.wWait, rWait := if r then q.rWait - 1 else q.rWait
    wPend := ws.1, rLevel := q.rLevel + ws.2, rPend := rs.1, wLevel := q.wLevel - rs.2
    ovf := q.ovf && !w, udf := q.udf && !r }

def queueEdges (s : State) (d sec n : Nat) : State :=
  forEach ((List.range 15).filter (s.isQueue d sec)) (fun b t => t.queueEdge d sec n b) s

/-- An edge of the clock of a port ends the cycle in which it shows `BUSY` or `DVALID`, and loads what it showed into the output register;
the rest of the outputs holds (R171, R180). It is the second edge of a merge write that waits for it (R173). -/
def dpbEdge (p : DpbPort) : DpbPort :=
  { p with
    busy := false, oreg := { dout := p.dout, busy := p.busy, cstat := p.cstat }
    merge := p.merge.map (fun m => { m with ripe := true }) }
def bkbEdge (p : BkbPort) : BkbPort :=
  { p with dvalid := false, oreg := { dvalid := p.dvalid, dout := p.dout, aovf := p.aovf, cstat := p.cstat } }

/-- What an edge of track `n` does to the ports it clocks, and to the banks in their second cycle. What a port takes at the edge follows as
a command of its own. -/
def portEdges (s : State) (d sec n : Nat) : State :=
  let t := forEach (List.range 20) (fun j u =>
    if u.dpbTrack d sec (j / 2) (j % 2) = n then u.setDpbPort d sec (j / 2) (j % 2) (dpbEdge (u.dpbPort d sec (j / 2) (j % 2)))
    else u) s
  let t := forEach (List.range 10) (fun j u =>
    if u.bkbTrack d sec (j / 2) = n then u.setBkbPort d sec (j / 2) (j % 2) (bkbEdge (u.bkbPort d sec (j / 2) (j % 2)))
    else u) t
  forEach (List.range 40) (fun j u =>
    match u.bankBusy (Pg.mi d sec) (10 + j) with
    | some x => if u.bkbTrack d sec (j / 8) = n then u.setBankBusy (Pg.mi d sec) (10 + j) (some { x with ripe := true }) else u
    | none => u) t

/-- GSR asserts in a sector: outputs drive 0 and queues empty; a store that must follow still follows (R173, R184, R193). A test access
ends, and the scrubbers start a new lap at release (R217, R223). -/
def holdBlocks (s : State) (d sec : Nat) : State :=
  let s := s.testsEnd (· = Pg.mi d sec)
  let t := forEach (List.range 20) (fun j u =>
    u.setDpbPort d sec (j / 2) (j % 2) { merge := (u.dpbPort d sec (j / 2) (j % 2)).merge }) s
  let t := forEach (List.range 10) (fun j u => u.setBkbPort d sec (j / 2) (j % 2) {}) t
  let t := forEach (List.range 15) (fun b u => (u.queueDrain d sec b).setQueue d sec b {}) t
  forEach (List.range 50) (fun q u =>
    { u with mem := { u.mem with
      walk := SMap.write 0 u.mem.walk (bankKey (Pg.mi d sec) q) 0, slowed := SMap.write false u.mem.slowed (bankKey (Pg.mi d sec) q) false } }) t

end State
end Sys2Proof.Machine
end

