-- ==== Sys2Proof/Machine/Dsp.lean ====
section
/-! DEFINITION. DSP slices (spec/08_dsp_slices.md): multiplication, accumulation, moving out, NORM and EXPC, the coefficient
file. The accumulator functions serve the engines' DSP extension too (R267). A slice is named by fabric die, sector and
number. An edge of its clock takes a slice's inputs, with `CIN` and the coefficient as they stand before it; the operation passes its whole
pipeline in one command, and the edges bring what it leaves to the outputs (log entry 22). -/

namespace Sys2Proof.Machine

open Reg

/-! ## The accumulator (R233 to R240) -/

/-- An integer limited to the signed range of `n` bits, and whether it was (R232, R237). -/
def limit (n : Nat) (z : Int) : Int × Bool :=
  if (2 ^ (n - 1) : Nat) - 1 < z then ((2 ^ (n - 1) : Nat) - 1, true)
  else if z < -((2 ^ (n - 1) : Nat) : Int) then (-((2 ^ (n - 1) : Nat) : Int), true)
  else (z, false)

/-- The exact product of two 27-bit operands, doubled in FRAC mode (R233). -/
def product (int : Bool) (m n : Int) : Int := if int then m * n else 2 * (m * n)

/-- An add or subtract: limited, or wrapped, with sticky `OV` on overflow (R236). -/
def Acc.put (x : Acc) (wraps : Bool) (z : Int) : Acc :=
  let r := limit 64 z
  { x with acc := BitVec.ofNat 64 (wrap 64 (if wraps then z else r.1)), ov := x.ov || r.2 }

def Acc.value (x : Acc) : Int := signed 64 x.acc.toNat

/-- LOAD, CLOAD and CLEAR: a new value, `NEXP` and `OV` 0 (R235). -/
def Acc.load (z : Int) : Acc := { acc := BitVec.ofNat 64 (wrap 64 z) }

/-- Whether bits 63 to 53 are all equal. -/
def nominal (x : Nat) : Bool := bits x 63 53 = 0 || bits x 63 53 = 2047

/-- One normalization step (R239). -/
def Acc.norm (x : Acc) : Acc :=
  let n := signed 8 x.nexp.toNat
  if nominal x.acc.toNat = false then
    if n = 127 then x else { x with acc := x.acc.sshiftRight 1, nexp := x.nexp + 1 }
  else if x.acc ≠ 0 ∧ bit x.acc.toNat 53 = bit x.acc.toNat 52 then
    if n = -128 then x else { x with acc := x.acc <<< 1, nexp := x.nexp - 1 }
  else x

/-- Redundant sign bits of an accumulator value (R240). -/
def redundant (x : Nat) : Nat :=
  ((List.range 63).takeWhile (fun k => bit x (62 - k) == bit x 63)).length

/-- Convergent rounding of V / 2^e (R237). -/
def roundShift (v : Int) (e : Int) : Int :=
  if e ≤ 0 then v * (2 ^ (-e).toNat : Nat)
  else
    let k := (2 ^ e.toNat : Nat)
    let f := v / k
    let r := v % k
    if (k : Int) < 2 * r ∨ (2 * r = k ∧ f % 2 ≠ 0) then f + 1 else f

/-- A move: the accumulator scaled, rounded and limited (R237, R240). `scale` is 0 none, 1 ×2, 2 ÷2; a reserved encoding never
stands in the record. -/
def Acc.move (x : Acc) (scale rndPos satW : Nat) : MoveOut :=
  let s : Int := if scale = 1 then 1 else if scale = 2 then -1 else 0
  let q := limit (satW + 1) (roundShift x.value (rndPos - s))
  { y := BitVec.ofNat 64 (wrap 64 q.1), expc := BitVec.ofNat 6 (redundant x.acc.toNat), nexp := x.nexp, lim := q.2 }

/-! ## The coefficient pointer (R243) -/

/-- The `k` low bits of `v` in reverse order. -/
def rev (v k : Nat) : Nat := ((List.range k).map (fun i => if bit v i then 2 ^ (k - 1 - i) else 0)).sum

/-- The pointer after an advance. -/
def advance (cmode cstep cbase clen p : Nat) : Nat :=
  let l := clen + 1
  let o := p - cbase
  if cmode = 1 then cbase + (o + cstep) % l
  else if cmode = 2 then
    let k := Nat.log2 l
    cbase + rev ((rev o k + cstep) % 2 ^ k) k
  else (p + cstep) % 16

def isSlice (d s j : Nat) : Bool := isSector d s && j < 32
def dspKey (d s j : Nat) : Nat := sectorKey d s * 32 + j
def coefKey (d s j e : Nat) : Nat := dspKey d s j * 16 + e

namespace State

/-- Bits of a slice's record (R248, R428). -/
def dspRec (s : State) (d sec j hi lo : Nat) : Nat :=
  bits (s.frame d sec 128 (3 + j / 16)) (64 * (j % 16) + hi) (64 * (j % 16) + lo)

def dspSlice (s : State) (d sec j : Nat) : DspSlice := SMap.read {} s.dsp.slices (dspKey d sec j)
def setDspSlice (s : State) (d sec j : Nat) (x : DspSlice) : State :=
  { s with dsp := { s.dsp with slices := SMap.write {} s.dsp.slices (dspKey d sec j) x } }

def coef (s : State) (d sec j e : Nat) : BitVec 27 := SMap.read 0 s.dsp.coef (coefKey d sec j e)
def setCoef (s : State) (d sec j e : Nat) (v : BitVec 27) : State :=
  { s with dsp := { s.dsp with coef := SMap.write 0 s.dsp.coef (coefKey d sec j e) v } }

/-- Whether a slice takes operations: used, and released on its track (R247, R248). -/
def dspOpen (s : State) (d sec j : Nat) : Bool :=
  s.dspRec d sec j 24 24 = 1 && s.trackFree d sec (s.dspRec d sec j 23 20) && s.domOn (16 * d + 1)

/-- The coefficient pointer (R242, R247). -/
def coefPtr (s : State) (d sec j : Nat) : Nat :=
  match (s.dspSlice d sec j).ptr with
  | some p => p.toNat
  | none => s.dspRec d sec j 43 40

def setPtr (s : State) (d sec j p : Nat) : State :=
  s.setDspSlice d sec j { s.dspSlice d sec j with ptr := some (BitVec.ofNat 4 p) }

/-- The pointer advances by the mode of `CMODE` (R243). -/
def ptrAdvance (s : State) (d sec j : Nat) : State :=
  s.setPtr d sec j (advance (s.dspRec d sec j 27 26) (s.dspRec d sec j 31 28) (s.dspRec d sec j 35 32) (s.dspRec d sec j 39 36)
    (s.coefPtr d sec j))

/-- `CASCOUT` of a slice: its accumulator, 0 while it is held or not used (R247, R251). -/
def cascOut (s : State) (d sec j : Nat) : Int := if s.dspOpen d sec j then (s.dspSlice d sec j).acc.value else 0

/-- `CIN` (R245). -/
def cascIn (s : State) (d sec j : Nat) : Int :=
  if j % 16 ≠ 0 ∧ s.dspRec d sec j 19 19 = 1 then s.cascOut d sec (j - 1) else 0

/-- The multiplier operand M of the pre-adder, and whether it was limited (R232). -/
def preAdd (s : State) (d sec j : Nat) (x : DspDue) : Int × Bool :=
  let a := signed 27 x.a.toNat
  let dd := signed 27 x.d.toNat
  match s.dspRec d sec j 1 0 with
  | 0 => (a, false)
  | 1 => limit 27 (dd + a)
  | _ => limit 27 (dd - a)

/-- The product P of an operation and whether the pre-adder saturated (R232, R233, R242). -/
def dspProduct (s : State) (d sec j : Nat) (x : DspDue) : Int × Bool :=
  let m := s.preAdd d sec j x
  let n := if s.dspRec d sec j 18 18 = 1 then x.coef else x.b
  (product (s.dspRec d sec j 2 2 = 1) m.1 (signed 27 n.toNat), m.2)

/-- What the last edge has taken at a slice, if a part of it still waits. -/
def dspDue (s : State) (d sec j : Nat) : Option DspDue := (s.dspSlice d sec j).due

/-- The new accumulator of an operation: `wraps` is `ACC_WRAP`, `cin` the slice below, `p` the product (R235, R236). -/
def aopApply (wraps : Bool) (aop : Nat) (cin p : Int) (x : Acc) : Acc :=
  match aop with
  | 0 => x
  | 1 => Acc.load p
  | 2 => x.put wraps (x.value + p)
  | 3 => x.put wraps (x.value - p)
  | 4 => ({} : Acc).put wraps (cin + p)
  | 5 => x.norm
  | 6 => {}
  | _ => Acc.load cin

/-- The operation that the last edge has taken, if it is of the `AOP` given: product, accumulation, and the move if `MOVE` is 1; a product
operation, `AOP` 1 to 4, advances the pointer when `CADV` = 1, unless `CRST` sets it at the same edge (R231, R235, R242). -/
def dspOp (s : State) (d sec j aop : Nat) : State :=
  match s.dspDue d sec j with
  | none => s
  | some x =>
    if x.op = false ∨ x.aop ≠ aop then s
    else
      let sl := s.dspSlice d sec j
      let p := s.dspProduct d sec j x
      let acc := aopApply (s.dspRec d sec j 3 3 = 1) aop x.cin p.1 sl.acc
      let out := if x.move then acc.move (s.dspRec d sec j 5 4) (s.dspRec d sec j 11 6) (s.dspRec d sec j 17 12) else sl.out
      let t := s.setDspSlice d sec j
        { sl with
          acc := acc, p := BitVec.ofNat 64 (wrap 64 p.1), out := out, psat := p.2, moved := x.move, due := some { x with op := false } }
      if 1 ≤ aop && aop ≤ 4 && s.dspRec d sec j 25 25 = 1 && !x.rst then t.ptrAdvance d sec j else t

/-- `CWE`: the entry is written; the operation of the same edge has taken the value before (R244). -/
def dspCwe (s : State) (d sec j : Nat) : State :=
  match s.dspDue d sec j with
  | some x =>
    if x.cwe then (s.setCoef d sec j x.cwaddr x.cwdata).setDspSlice d sec j { s.dspSlice d sec j with due := some { x with cwe := false } } else s
  | none => s

/-- `CRST`: the pointer is `CPTR0` (R242). -/
def dspCrst (s : State) (d sec j : Nat) : State :=
  match s.dspDue d sec j with
  | some x =>
    if x.crst then
      (s.setDspSlice d sec j { s.dspSlice d sec j with due := some { x with crst := false } }).setPtr d sec j (s.dspRec d sec j 43 40)
    else s
  | none => s

/-- `CNEXT`: the pointer advances when `CADV` = 0, unless `CRST` sets it at the same edge (R242, R243). -/
def dspCnext (s : State) (d sec j : Nat) : State :=
  match s.dspDue d sec j with
  | some x =>
    if x.cnext then
      let t := s.setDspSlice d sec j { s.dspSlice d sec j with due := some { x with cnext := false } }
      if s.dspRec d sec j 25 25 = 0 && !x.rst then t.ptrAdvance d sec j else t
    else s
  | none => s

/-- An edge of its clock moves what a slice's operations left one stage down the pipeline: the edge after an operation presents
`PSAT`, the second `ACC` and `OV`, the third the move (R231). -/
def dspEdge (x : DspSlice) : DspSlice :=
  { x with one := { acc := x.acc, out := x.out, psat := x.psat, moved := x.moved }, two := x.one, three := x.two }

/-- What an edge of track `n` does to a slice it clocks: `SCTL_DSP_PSAT` and `SCTL_DSP_LIM` take what its outputs now present (R250). -/
def dspStep (s : State) (d sec j : Nat) : State :=
  let page := Pg.sctl d sec
  let x := dspEdge (s.dspSlice d sec j)
  let t := s.setDspSlice d sec j x
  let t := if x.one.psat then t.setBit page Sctl.SCTL_DSP_PSAT_PSAT j true else t
  if x.three.moved && x.three.out.lim then t.setBit page Sctl.SCTL_DSP_LIM_LIM j true else t

/-- What an edge of track `n` does to the slices it clocks. The operation taken at the edge follows as a command of its own. -/
def dspEdges (s : State) (d sec n : Nat) : State :=
  forEach ((List.range 32).filter (fun j => s.dspRec d sec j 24 24 = 1 && s.dspRec d sec j 23 20 = n)) (fun j t => t.dspStep d sec j) s

/-- GSR asserts: the slices of a sector hold 0 and `CPTR0`; their coefficient files stay (R247). -/
def holdSlices (s : State) (d sec : Nat) : State :=
  forEach (List.range 32) (fun j t => t.setDspSlice d sec j {}) s

end State

/-- HOLD (R235). -/
def execDspHold (d s j : Nat) (t : State) : Out := onPart (isSlice d s j) t (t.dspOp d s j 0)

/-- LOAD (R235). -/
def execDspLoad (d s j : Nat) (t : State) : Out := onPart (isSlice d s j) t (t.dspOp d s j 1)

/-- MAC (R235, R236). -/
def execDspMac (d s j : Nat) (t : State) : Out := onPart (isSlice d s j) t (t.dspOp d s j 2)

/-- MSU (R235, R236). -/
def execDspMsu (d s j : Nat) (t : State) : Out := onPart (isSlice d s j) t (t.dspOp d s j 3)

/-- CASC (R235, R236, R245): `NEXP` 0, and `OV` is of this operation alone. -/
def execDspCasc (d s j : Nat) (t : State) : Out := onPart (isSlice d s j) t (t.dspOp d s j 4)

/-- NORM (R239). -/
def execDspNorm (d s j : Nat) (t : State) : Out := onPart (isSlice d s j) t (t.dspOp d s j 5)

/-- CLEAR (R235). -/
def execDspClear (d s j : Nat) (t : State) : Out := onPart (isSlice d s j) t (t.dspOp d s j 6)

/-- CLOAD (R235, R245). -/
def execDspCload (d s j : Nat) (t : State) : Out := onPart (isSlice d s j) t (t.dspOp d s j 7)

/-- CWE (R244). -/
def execDspCwe (d s j : Nat) (t : State) : Out := onPart (isSlice d s j) t (t.dspCwe d s j)

/-- CRST (R242). -/
def execDspCrst (d s j : Nat) (t : State) : Out := onPart (isSlice d s j) t (t.dspCrst d s j)

/-- CNEXT (R242, R243): only when `CADV` = 0. -/
def execDspCnext (d s j : Nat) (t : State) : Out := onPart (isSlice d s j) t (t.dspCnext d s j)

end Sys2Proof.Machine
end

