-- ==== Sys2Proof/Machine/Lomum.lean ====
section
/-! DEFINITION. The Lomum ports (spec/04_lomum_links.md): wire maps, training and its attempts, the stored lane map and the
ledger, and the flit slots and replay of Skein modules. What R129 makes of a module that has run out of spares stands in
Machine/LomumService.lean. A port is named by the Skein die ID of its die, a module by its physical number `p`, a direction
by 0 (hub to die) or 1 (die to hub). -/

namespace Sys2Proof.Machine

open Reg

/-- The half of a pair that a direction names. -/
def ofDir {α : Type} (dir : Nat) (x : α × α) : α := if dir = 0 then x.1 else x.2
def putDir {α : Type} (dir : Nat) (v : α) (x : α × α) : α × α := if dir = 0 then (v, x.2) else (x.1, v)

/-- Whether the numbers name a port, a physical module and a direction (R112). -/
def isPort (d : Nat) : Bool := 1 ≤ d ∧ d ≤ 6
def isModuleDir (d p dir : Nat) : Bool := isPort d ∧ p < portModules d ∧ dir < 2

/-- Logical modules of a port (R112). -/
def logicalModules (d : Nat) : Nat := portModules d - 1

/-- How many crossing modules a `SPLIT` gives (R138); a reserved encoding never stands in the field. -/
def crossCount (d split : Nat) : Nat :=
  if d ≤ 4 then (if split = 0 then 8 else 12) else if split = 0 then 4 else if split = 1 then 6 else 7

/-- The position spare `k` serves in an assignment; 0x7E retired, 0x7F free (R138). -/
def spareOf (assign k : Nat) : Nat := bits assign (7 * k + 6) (7 * k)

/-- An assignment with spare `k` changed. -/
def setSpare (assign k v : Nat) : Nat := assign - spareOf assign k * 2 ^ (7 * k) + v * 2 ^ (7 * k)

/-- The lowest free spare in the mask (R122). -/
def freeSpare (mask assign : Nat) : Option Nat :=
  (List.range 4).find? (fun k => spareOf assign k = 0x7F && bit mask (64 + k))

/-- How many spares are free and usable. -/
def freeSpares (mask assign : Nat) : Nat :=
  ((List.range 4).filter (fun k => spareOf assign k = 0x7F && bit mask (64 + k))).length

/-- Whether a spare serves a position. -/
def served (assign pos : Nat) : Bool := (List.range 4).any (fun k => spareOf assign k = pos)

/-- Step 3 of R122: spares whose wire left the mask are retired, spares that serve keep their positions, and each position
that has lost its wire takes the lowest free spare, positions ascending. -/
def assignSpares (agreed old : Nat) : Nat :=
  let kept := (List.range 4).foldl (fun a k => if bit agreed (64 + k) then a else setSpare a k 0x7E) old
  (List.range 64).foldl (fun a j =>
    if bit agreed j || served a j then a
    else match freeSpare agreed a with
      | some k => setSpare a k j
      | none => a) kept

/-- Whether every one of the 64 positions has a wire. -/
def fullMap (mask assign : Nat) : Bool := (List.range 64).all (fun j => bit mask j || served assign j)

/-- One bit of the CRC-16 of R117: polynomial 0x1021, not reflected. -/
def crc16Bit (crc : Nat) (b : Bool) : Nat :=
  if bit crc 15 != b then ((crc * 2) % 65536) ^^^ 0x1021 else (crc * 2) % 65536

/-- The CRC-16 of the low `n` bits of a number, ascending (R117). -/
def crc16Bits : Nat → Nat → Nat → Nat
  | 0, _, crc => crc
  | n + 1, x, crc => crc16Bits n (x / 2) (crc16Bit crc (x % 2 = 1))

/-- `FCRC` of a frame: the payload, then framing bits 0 to 15 (R117). -/
def fcrc (payload framing : Nat) : Nat := crc16Bits 16 framing (crc16Bits 1536 payload 0xFFFF)

/-! ## A frame on its wires (R115, R116, R129) -/

/-- The physical wire that serves a position: the spare assigned to it, else its own wire. -/
def positionWire (mask assign j : Nat) : Option Nat :=
  match (List.range 4).find? (fun k => spareOf assign k = j && bit mask (64 + k)) with
  | some k => some (64 + k)
  | none => if bit mask j then some j else none

/-- The wires of a module direction's positions in order: 64 by the map, or at half width positions 0 to 31 on the usable wires in
ascending physical order (R115, R129). -/
def frameWires (half : Bool) (mask assign : Nat) : List (Option Nat) :=
  if half then (((List.range 68).filter (bit mask)).take 32).map some else (List.range 64).map (positionWire mask assign)

/-- A frame laid on the wires, wire w at bits [25w+24:25w]: position j carries payload bits 24j to 24j + 23 in unit intervals 0 to 23 and
framing bit j in unit interval 24 (R115). -/
def onWires : List (Option Nat) → Nat → Nat → Nat
  | [], _, _ => 0
  | w :: ws, payload, framing =>
    (match w with
      | some k => (payload % 2 ^ 24 + 2 ^ 24 * (framing % 2)) * 2 ^ (25 * k)
      | none => 0) + onWires ws (payload / 2 ^ 24) (framing / 2)

/-- The payload and the framing word that the wires carry. -/
def offWires : List (Option Nat) → Nat → Nat × Nat
  | [], _ => (0, 0)
  | w :: ws, x =>
    let r := offWires ws x
    let b := match w with
      | some k => x / 2 ^ (25 * k) % 2 ^ 25
      | none => 0
    (b % 2 ^ 24 + 2 ^ 24 * r.1, b / 2 ^ 24 + 2 * r.2)

/-- `MARK`, `SEQ4` and `CODE` of a framing word, `FCRC` 0 (R116): `CODE` is 0 DATA, 1 SWAP_NEXT, 2 IDLE, 3 MOVE_NEXT. -/
def frameHead (seq code : Nat) : Nat := 0xB4 + 2 ^ 8 * (seq % 16) + 2 ^ 12 * code

/-- The framing word of a crossing module, its `FCRC` inverted bit by bit in a poisoned frame (R116, R117, R155). -/
def crossFraming (payload seq code : Nat) (poisoned : Bool) : Nat :=
  let crc := fcrc payload (frameHead seq code)
  frameHead seq code + 2 ^ 16 * (if poisoned then 0xFFFF - crc else crc)

/-- Whether `MARK` and `SEQ4` of a received framing word are right (R117). -/
def headGood (framing seq : Nat) : Bool := bits framing 7 0 = 0xB4 && bits framing 11 8 = seq

/-! ## The payload of a Skein module (R118) -/

def slotFlit (x : Nat) : Flit := { hdr := BitVec.ofNat 48 x, data := BitVec.ofNat 512 (x >>> 48) }
def slotSeq (x : Nat) : Nat := bits x 569 560
def slotValid (x : Nat) : Bool := bit x 570
def slotGood (x : Nat) : Bool := bits x 607 576 = crc32 (leBytes 72 (x % 2 ^ 576))

/-- A slot's 640 bits: the flit, `LSEQ`, `VALID` and `SCRC`; a slot without a flit is 0 but for its `SCRC`. -/
def slotBits (f : Option (Nat × Flit)) : Nat :=
  let x := match f with
    | some (seq, f) => f.hdr.toNat + 2 ^ 48 * f.data.toNat + 2 ^ 560 * (seq % 1024) + 2 ^ 570
    | none => 0
  x + 2 ^ 576 * crc32 (leBytes 72 x)

/-- The bits of a link control block that its CRC-32 covers: 224, or 96 at half width. -/
def controlLen (half : Bool) : Nat := if half then 96 else 224

/-- A link control block: `ACK_SEQ`, `ACK_VALID`, `NAK_SEQ`, `NAK_VALID`, zeros and the CRC-32. -/
def controlBlock (half : Bool) (ack : Nat) (ackValid : Bool) (nak : Nat) (nakValid : Bool) : Nat :=
  let x := ack % 1024 + 2 ^ 10 * b2n ackValid + 2 ^ 11 * (nak % 1024) + 2 ^ 21 * b2n nakValid
  x + 2 ^ controlLen half * crc32 (leBytes (controlLen half / 8) x)

/-- The link control block of a received payload, if its CRC-32 is right. -/
def controlOf (half : Bool) (payload : Nat) : Option Nat :=
  let x := payload / 2 ^ (if half then 640 else 1280) % 2 ^ (controlLen half + 32)
  if x / 2 ^ controlLen half = crc32 (leBytes (controlLen half / 8) (x % 2 ^ controlLen half)) then some x else none

/-! ## Sideband messages (R124) -/

/-- Whether the CRC-16 at the end of a sideband message, a type byte, a module number and fields, is right. The manual gives the
parameters of R117 but no order of bytes: the bytes go in as they stand, each from its least significant bit, and the CRC is little-endian
(DESIGN CHOICE; log entry 100). -/
def sidebandGood (m : List Byte) : Bool :=
  let n := m.length - 2
  4 ≤ m.length && crc16Bits (8 * n) (leNat (m.take n)) 0xFFFF = leNat (m.drop n)

/-! Keys of a die's logical module (or span channel port) and of a module direction. -/
def spanKey (d m : Nat) : Nat := d * 16 + m
def spanDirKey (d m dir : Nat) : Nat := (d * 16 + m) * 2 + dir

namespace State

def slice (s : State) (d m : Nat) : Slice := SMap.read {} s.span.slices (spanKey d m)

def setSlice (s : State) (d m : Nat) (x : Slice) : State :=
  { s with span := { s.span with slices := SMap.write {} s.span.slices (spanKey d m) x } }

/-! ## A module's records and registers -/

def linkMod (s : State) (d p : Nat) : LinkModule := SMap.read {} s.link.modules (d * 32 + p)

def setLinkMod (s : State) (d p : Nat) (m : LinkModule) : State :=
  { s with link := { s.link with modules := SMap.write {} s.link.modules (d * 32 + p) m } }

def linkDir (s : State) (d m dir : Nat) : LinkDir := SMap.read {} s.link.dirs ((d * 16 + m) * 2 + dir)

def setLinkDir (s : State) (d m dir : Nat) (l : LinkDir) : State :=
  { s with link := { s.link with dirs := SMap.write {} s.link.dirs ((d * 16 + m) * 2 + dir) l } }

/-- The usable wires of a module direction, 68 bits (R138). -/
def wireMask (s : State) (page p dir : Nat) : Nat :=
  s.get page Port.LMH_MAP_MASK_LO_MASK_LO (2 * p + dir) + 2 ^ 32 * s.get page Port.LMH_MAP_MASK_HI_MASK_HI (2 * p + dir) +
  2 ^ 64 * s.get page Port.LMH_MAP_MASK_SP_MASK_SP (2 * p + dir)

def wireAssign (s : State) (page p dir : Nat) : Nat := s.get page Port.LMH_MAP_ASSIGN_SPARE_ASSIGN (2 * p + dir)

/-- The map of a module direction as it stands. -/
def mapOf (s : State) (d p dir : Nat) : WireMap :=
  { mask := BitVec.ofNat 68 (s.wireMask (Pg.port d) p dir), assign := BitVec.ofNat 28 (s.wireAssign (Pg.port d) p dir) }

/-- Write a module direction's map into a port page. -/
def putMap (s : State) (page p dir mask assign : Nat) : State :=
  (((s.set page Port.LMH_MAP_MASK_LO_MASK_LO mask (2 * p + dir)).set page Port.LMH_MAP_MASK_HI_MASK_HI (mask >>> 32)
    (2 * p + dir)).set page Port.LMH_MAP_MASK_SP_MASK_SP (mask >>> 64) (2 * p + dir)).set page
    Port.LMH_MAP_ASSIGN_SPARE_ASSIGN assign (2 * p + dir)

/-- Write a module direction's stored lane map and its count of free spares. -/
def storeMap (s : State) (d p dir mask assign : Nat) : State :=
  let t := s.putMap (Pg.port d) p dir mask assign
  if dir = 0 then t.set (Pg.port d) Port.LMH_MOD_SPARES_FREE_OUT (freeSpares mask assign) p
  else t.set (Pg.port d) Port.LMH_MOD_SPARES_FREE_IN (freeSpares mask assign) p

def portState (s : State) (d : Nat) : Nat := s.get (Pg.port d) Port.STATUS_STATE
def portActive (s : State) (d : Nat) : Bool := s.portState d = 6
def modRole (s : State) (d p : Nat) : Nat := s.get (Pg.port d) Port.LMH_MOD_ROLE p
def modState (s : State) (d p : Nat) : Nat := s.get (Pg.port d) Port.LMH_MOD_MSTATE p
def setModState (s : State) (d p v : Nat) : State := s.set (Pg.port d) Port.LMH_MOD_MSTATE v p
def modLogical (s : State) (d p : Nat) : Nat := s.get (Pg.port d) Port.LMH_MOD_LOGICAL p

/-- How many crossing modules the port's split gives. -/
def crossModules (s : State) (d : Nat) : Nat := crossCount d (s.get (Pg.port d) Port.CTL_SPLIT)

/-- The physical module that serves a logical number (R128). -/
def physOf (s : State) (d m : Nat) : Option Nat :=
  (List.range (portModules d)).find? (fun p => s.modRole d p ≠ 3 && s.modLogical d p = m)

/-- Whether a logical Skein module's gateway is open: its module is in state FULL or HALF (R295). -/
def skeinOpen (s : State) (d m : Nat) : Bool :=
  s.crossModules d ≤ m && m < logicalModules d && s.portActive d && (match s.physOf d m with
    | some p => s.modState d p = 2 || s.modState d p = 3
    | none => false)

/-- The modules of a port that are trained: all but those retired (R128). -/
def liveModules (s : State) (d : Nat) : List Nat := (List.range (portModules d)).filter (fun p => s.modRole d p ≠ 3)

/-- Give every module the role that the split and its place give it (R112, R138); retired modules and a reserve in use
stay as they are. -/
def setRoles (s : State) (d : Nat) : State :=
  forEach (s.liveModules d) (fun p t =>
    if p + 1 = portModules d then t.set (Pg.port d) Port.LMH_MOD_ROLE 2 p
    else t.set (Pg.port d) Port.LMH_MOD_ROLE (if t.modLogical d p < t.crossModules d then 0 else 1) p) s

/-! ## Events of a port -/

/-- A port's event, its `INT_STATUS` bit and, where R129 says so, WARN_N. The detail word names module and wire (R530). -/
def portEvent (s : State) (d code sev p wire : Nat) (int : Option Nat) (warns : Bool) : State :=
  let t := match int with
    | some b => s.setInt (Pg.port d) b
    | none => s
  let t := t.event code sev (Pg.port d) (p * 256 + wire)
  if warns then t.warn Safety.SAF_WARN_LOMUM else t

/-- Retire one wire of a module direction in the stored lane map, with its ledger entry; a spare so retired reads 0x7E
(R123, R565, R598). -/
def retireWire (s : State) (d p dir w : Nat) : State :=
  let mask := s.wireMask (Pg.port d) p dir
  let a := s.wireAssign (Pg.port d) p dir
  let t := s.storeMap d p dir (withBit mask w false) (if 64 ≤ w then setSpare a (w - 64) 0x7E else a)
  t.history 2 (Pg.port d) (p * 256 + dir * 128 + w) 0

/-- The agreed map of R122 step 2 and 3: the AND of the die's mask, the hub's and the stored one, with the spares assigned.
Wires that leave the mask are retired, then spare uses are entered, each recorded (R123, R565). -/
def agreeMap (s : State) (d p dir dieMask hubMask : Nat) : State :=
  let page := Pg.port d
  let stored := s.wireMask page p dir
  let old := s.wireAssign page p dir
  let agreed := dieMask &&& hubMask &&& stored
  let new := assignSpares agreed old
  let t := s.storeMap d p dir agreed new
  let t := forEach ((List.range 68).filter (fun w => bit stored w && !(bit agreed w)))
    (fun w u => u.history 2 page (p * 256 + dir * 128 + w) 0) t
  let uses := (List.range 64).filterMap (fun j =>
    ((List.range 4).find? (fun k => spareOf new k = j && spareOf old k ≠ j)).map (fun k => (j, k)))
  forEach uses (fun jk u =>
    (u.history 1 page (p * 256 + dir * 128 + jk.1) (64 + jk.2)).portEvent d 0x1003 1 p (64 + jk.2) none false) t

/-! ## Training (R119 to R123) -/

/-- The frames of a port's crossing modules that are under way are lost, wherever they stand between the two ends: what they carried is
delivered as failed (R140, R155, R599). Transmitters and receivers count `SEQ4` from 0 again, and no failure waits for its retry frame
(DESIGN CHOICE: the manual gives no first `SEQ4`; log entry 61). -/
def framesLost (s : State) (d : Nat) : State :=
  let other := fun k => k / 32 ≠ d
  forEach (List.range 12) (fun m t => t.setSlice d m { t.slice d m with landing := [] })
    { s with span := { s.span with
      flight := SMap.keep other s.span.flight, txSeq := SMap.keep other s.span.txSeq, seq4 := SMap.keep other s.span.seq4
      awaiting := SMap.keep other s.span.awaiting, laps := SMap.keep other s.span.laps
      hubRx := SMap.keep (fun k => k / 16 ≠ d) s.span.hubRx } }

/-- Begin an attempt: SB_SYNC, every module that may be trained in TRAINING, nothing measured or agreed yet. -/
def beginAttempt (s : State) (d : Nat) : State :=
  let t := (s.framesLost d).count (Pg.port d) Port.STATUS_ATTEMPTS
  let t := (t.set (Pg.port d) Port.STATUS_STATE 1).setRoles d
  let t := { t with link := { t.link with
    background := SMap.write 0 t.link.background d 0, skeinLost := SMap.write false t.link.skeinLost d false } }
  forEach (t.liveModules d) (fun p u => (u.setModState d p 1).setLinkMod d p { auditPos := (u.linkMod d p).auditPos }) t

/-- A swap abandoned by a reset or a retrain: the wire it was leaving stays retired, and so do the wires classed lasting that waited for it
(R126, R140). -/
def abandonSwaps (s : State) (d : Nat) : State :=
  forEach (List.range (portModules d)) (fun p t =>
    let m := t.linkMod d p
    let gone := (m.swap.map (fun w => (w.dir, w.old))).toList ++ m.waiting
    forEach gone (fun w u => if bit (u.wireMask (Pg.port d) p w.1) w.2 then u.retireWire d p w.1 w.2 else u)
      (t.setLinkMod d p { m with swap := none, waiting := [], suspects := [] }))
    { s with link := { s.link with move := SMap.write none s.link.move d none } }

/-- Forget the flits on their way and in the replay buffers of a port's Skein modules (R133). -/
def dropFlits (s : State) (d : Nat) : State :=
  { s with link := { s.link with dirs := SMap.keep (fun k => k / 32 ≠ d) s.link.dirs } }

/-- The port goes DOWN: no traffic, every module DOWN (R119, R468). -/
def portDown (s : State) (d : Nat) : State :=
  let t := ((s.abandonSwaps d).dropFlits d).framesLost d
  let t := t.set (Pg.port d) Port.STATUS_STATE 0
  let t := { t with link := { t.link with background := SMap.write 0 t.link.background d 0 } }
  forEach (t.liveModules d) (fun p u => u.setModState d p 0) t

/-- A new set of four attempts starts; the flits of the replay buffers wait for the modules to run again (R121, R133, R140). -/
def startTraining (s : State) (d : Nat) : State :=
  ((s.abandonSwaps d).set (Pg.port d) Port.STATUS_ATTEMPTS 0).beginAttempt d

/-- The fourth attempt has failed: the port stays DOWN and the hub holds the die (R121). `DEGRADED` then stays 1 until a reset of the device
(DESIGN CHOICE: the manual does not say when it clears; log entry 100). -/
def linkDown (s : State) (d : Nat) : State :=
  let t := (s.portDown d).set (Pg.port d) Port.STATUS_DEGRADED 1
  let t := (t.setBit Pg.reset Reset.RST_DIE_STAT_HELD d true).setBit Pg.reset Reset.RST_DIE_STAT_IN_RESET d true
  (t.setInt Pg.reset Reset.INT_DIE_HELD).portEvent d 0x1001 3 0 0xFF none true

/-- The running attempt fails: the next begins, or after the fourth the link is down (R119, R121). -/
def attemptFail (s : State) (d : Nat) : State :=
  let t := s.setInt (Pg.port d) Port.INT_ATTEMPT_FAIL
  if 4 ≤ t.get (Pg.port d) Port.STATUS_ATTEMPTS then t.linkDown d else t.beginAttempt d

/-- The hub's own measured mask: all 68 wires but those it found not good, none where the clock failed (R120). -/
def hubMask (s : State) (d p dir : Nat) : Nat :=
  let m := s.linkMod d p
  if ofDir dir m.clkFail then 0 else (2 ^ 68 - 1) - (ofDir dir m.hubBad &&& (2 ^ 68 - 1))

/-- SB_SYNC ends (R119). -/
def helloDone (s : State) (d : Nat) : State :=
  if s.portState d = 1 then s.set (Pg.port d) Port.STATUS_STATE 2 else s

/-- CLK_LOCK ends, with lock failures recorded per module (R119). -/
def clkLocked (s : State) (d : Nat) (fails : List (Nat × Nat)) : State :=
  if s.portState d = 2 then
    forEach fails (fun f t =>
      let m := t.linkMod d f.1
      t.setLinkMod d f.1 { m with clkFail := putDir f.2 true m.clkFail }) (s.set (Pg.port d) Port.STATUS_STATE 3)
  else s

/-- WIRE_TEST ends with the hub's judgement of each wire (R120). -/
def wiresTested (s : State) (d : Nat) (bad : List (Nat × Nat × Nat)) : State :=
  if s.portState d = 3 then
    forEach bad (fun w t =>
      let m := t.linkMod d w.1
      t.setLinkMod d w.1 { m with hubBad := putDir w.2.1 (withBit (ofDir w.2.1 m.hubBad) w.2.2 true) m.hubBad })
      (s.set (Pg.port d) Port.STATUS_STATE 4)
  else s

/-- MASK_REPORT: the hub forms the agreed map and sends it (R122 steps 1 to 4). -/
def maskReported (s : State) (d p dir : Nat) (mask : Nat) : State :=
  if s.portState d = 4 ∧ s.modRole d p ≠ 3 then
    let t := s.agreeMap d p dir (if ofDir dir (s.linkMod d p).clkFail then 0 else mask) (s.hubMask d p dir)
    let m := t.linkMod d p
    t.setLinkMod d p { m with sent := putDir dir (some (t.mapOf d p dir)) m.sent }
  else s

/-- MAP_ASSIGN: the die applies the map it received (R122 step 5). -/
def mapAssigned (s : State) (d p dir : Nat) (w : WireMap) : State :=
  if s.portState d = 4 ∧ (ofDir dir (s.linkMod d p).sent).isSome = true then
    let m := s.linkMod d p
    s.setLinkMod d p { m with applied := putDir dir (some w) m.applied }
  else s

/-- Whether every module's maps agree (R119). -/
def allAgreed (s : State) (d : Nat) : Bool :=
  (s.liveModules d).all (fun p => (s.linkMod d p).agreed.1 && (s.linkMod d p).agreed.2)

/-- TRAIN_DONE: equal maps end MAP_AGREE for the module, and the die-side page reads them; a difference fails the attempt
(R122 step 6). -/
def trainDoneReceived (s : State) (d p dir : Nat) (w : WireMap) : State :=
  let m := s.linkMod d p
  if s.portState d = 4 ∧ (ofDir dir m.sent).isSome = true then
    if ofDir dir m.sent = some w then
      let t := s.setLinkMod d p { m with agreed := putDir dir true m.agreed }
      let t := t.putMap (Pg.dieSide d) p dir w.mask.toNat w.assign.toNat
      if t.allAgreed d then t.set (Pg.port d) Port.STATUS_STATE 5 else t
    else s.attemptFail d
  else s

/-! ## Flits over a Skein module (R131 to R134) -/

/-- Number a flit and put it in the replay buffer (R131). -/
def linkSend (s : State) (d m dir : Nat) (f : Flit) : State :=
  let l := s.linkDir d m dir
  s.setLinkDir d m dir { l with nextSeq := (l.nextSeq + 1) % 1024, buffer := l.buffer ++ [(l.nextSeq, f)] }

/-- Whether the transmitter can take a flit: 512 are kept at most (R131). -/
def linkRoom (s : State) (d m dir : Nat) : Bool := (s.linkDir d m dir).buffer.length < 512

/-- `ACK_SEQ` covers the flits up to it: they leave the replay buffer (R131). -/
def linkAck (s : State) (d m dir ack : Nat) : State :=
  let l := s.linkDir d m dir
  if l.buffer.any (fun e => e.1 = ack) then
    s.setLinkDir d m dir { l with buffer := (l.buffer.dropWhile (fun e => e.1 ≠ ack)).drop 1 }
  else s

/-- A slot has been received (R132, R133): accepted in `LSEQ` order with a good `SCRC` in a frame whose framing was right, else discarded
with NAK. `sent` is the `LSEQ` that its transmitter put there. A second failure of the expected `LSEQ` classes the module lasting. -/
def slotArrives (s : State) (d m dir p : Nat) (x : Nat) (sent : Option Nat) (framed : Bool) : State :=
  let l := s.linkDir d m dir
  if (framed && slotGood x) = false then
    let mine := sent = some l.expected
    (s.count (Pg.port d) Port.LMH_ERRS_FAILED_FRAMES 1 p).setLinkDir d m dir
      { l with nak := true, failedOnce := l.failedOnce || mine, failedTwice := l.failedTwice || (mine && l.failedOnce) }
  else if slotValid x = false then s
  else if slotSeq x = l.expected then
    let t := if l.failedOnce then s.count (Pg.port d) Port.LMH_ERRS_TRANSIENT 1 p else s
    t.setLinkDir d m dir
      { l with
        expected := (l.expected + 1) % 1024, ackValid := true, rx := l.rx ++ [slotFlit x], nak := false, failedOnce := false }
  else
    let ahead := (slotSeq x + 1024 - l.expected) % 1024 < 512
    s.setLinkDir d m dir { l with nak := l.nak || ahead }

/-- The slot that a transmitter sends next: the flit from `sendSeq` on, or none (R131). -/
def nextSlot (l : LinkDir) : Option (Nat × Flit) × LinkDir :=
  match l.buffer.find? (fun e => e.1 = l.sendSeq) with
  | some e => (some e, { l with sendSeq := (l.sendSeq + 1) % 1024 })
  | none => (none, l)

/-- The payload of the next frame of a Skein module direction, with the `LSEQ` of its two slots: the flits that are due, and the link control
block of this end's receiver of the other direction; at half width one slot (R118, R131, R132). -/
def skeinFrame (s : State) (d m dir : Nat) (half : Bool) : Nat × Option Nat × Option Nat × LinkDir :=
  let a := nextSlot (s.linkDir d m dir)
  let b := if half then (none, a.2) else nextSlot a.2
  let back := s.linkDir d m (1 - dir)
  let ctl := controlBlock half (back.expected + 1023) back.ackValid back.expected back.nak
  (if half then slotBits a.1 + 2 ^ 640 * ctl else slotBits a.1 + 2 ^ 640 * slotBits b.1 + 2 ^ 1280 * ctl, a.1.map Prod.fst, b.1.map Prod.fst, b.2)

/-- What the link control block of a frame tells the transmitter of the other direction (R131, R132). -/
def controlReceived (s : State) (d m dir x : Nat) : State :=
  let t := if bit x 10 then s.linkAck d m (1 - dir) (bits x 9 0) else s
  if bit x 21 then t.setLinkDir d m (1 - dir) { t.linkDir d m (1 - dir) with nakIn := some (bits x 20 11) } else t

/-- The receiver takes the next slot: slot 1 of the frame it has begun, or slot 0 of the next frame, which crosses the wires of the module with
the bits `err` inverted, wire w at [25w+24:25w] (R115 to R118, R132). -/
def slotReceived (s : State) (d m dir p : Nat) (err : BitVec 1700) : State :=
  let l := s.linkDir d m dir
  match l.second with
  | some (x, sent, framed) => (s.setLinkDir d m dir { l with second := none }).slotArrives d m dir p x.toNat sent framed
  | none =>
    let half := ofDir dir (s.linkMod d p).half
    let k := spanDirKey d m dir
    let f := s.skeinFrame d m dir half
    let w := frameWires half (s.wireMask (Pg.port d) p dir) (s.wireAssign (Pg.port d) p dir)
    let r := offWires w (onWires w f.1 (frameHead (SMap.read 0 s.span.txSeq k) 0) ^^^ err.toNat)
    let want := SMap.read 0 s.span.seq4 k
    let framed := headGood r.2 want
    let t := { s with span := { s.span with
      txSeq := SMap.write 0 s.span.txSeq k ((SMap.read 0 s.span.txSeq k + 1) % 16), seq4 := SMap.write 0 s.span.seq4 k ((want + 1) % 16) } }
    let t := t.setLinkDir d m dir
      { f.2.2.2 with second := if half then none else some (BitVec.ofNat 640 (r.1 >>> 640), f.2.2.1, framed) }
    let t := match (if framed then controlOf half r.1 else none) with
      | some x => t.controlReceived d m dir x
      | none => t
    t.slotArrives d m dir p (r.1 % 2 ^ 640) f.2.1 framed

/-- The transmitter resends from the `NAK_SEQ` it has received (R132). -/
def linkReplay (s : State) (d m dir : Nat) : State :=
  let l := s.linkDir d m dir
  match l.nakIn with
  | some nak =>
    s.setLinkDir d m dir { l with nakIn := none, sendSeq := if l.buffer.any (fun e => e.1 = nak) then nak else l.sendSeq }
  | none => s

/-- After a retrain the transmitter resends from the oldest unacknowledged flit, and the receiver starts afresh on the `LSEQ` it expects;
`SEQ4` counts from 0 (R133; log entry 61). -/
def linkResume (s : State) (d m dir : Nat) : State :=
  let l := s.linkDir d m dir
  let k := spanDirKey d m dir
  let t := { s with span := { s.span with txSeq := SMap.write 0 s.span.txSeq k 0, seq4 := SMap.write 0 s.span.seq4 k 0 } }
  t.setLinkDir d m dir
    { l with
      sendSeq := (match l.buffer with | e :: _ => e.1 | [] => l.nextSeq), failedOnce := false, failedTwice := false, nak := false
      nakIn := none, second := none }

/-- The lowest-numbered open Skein module of a port, but one. -/
def otherOpen (s : State) (d m : Nat) : Option Nat :=
  (List.range (logicalModules d)).find? (fun k => k ≠ m && s.skeinOpen d k)

/-- A module has gone DOWN: the flits of its replay buffer follow those of the lowest open Skein module of the port (R134).
A flit the receiver has already accepted is not sent again. -/
def moveFlits (s : State) (d m dir : Nat) : State :=
  match s.otherOpen d m with
  | none => s
  | some k =>
    let l := s.linkDir d m dir
    let pendingFlits := (l.buffer.filter (fun e => (e.1 + 1024 - l.expected) % 1024 < 512)).map Prod.snd
    forEach pendingFlits (fun f t => t.linkSend d k dir f) (s.setLinkDir d m dir { l with buffer := [] })

end State
end Sys2Proof.Machine
end

