-- ==== Sys2Proof/Machine/Flits.lean ====
section
/-! DEFINITION. Skein flits and endpoints (spec/10_skein_network.md R293 to R300): headers, command words, the networks, an endpoint's
record, and when a fabric attach port takes a flit. -/

namespace Sys2Proof.Machine

open Reg

/-! ## Headers (R294, R296) -/

def hdrDst (f : Flit) : Nat := bits f.hdr.toNat 10 0
def hdrSrc (f : Flit) : Nat := bits f.hdr.toNat 21 11
def hdrPrio (f : Flit) : Nat := bits f.hdr.toNat 23 22
def hdrAge (f : Flit) : Nat := bits f.hdr.toNat 31 24
def hdrClass (f : Flit) : Nat := bits f.hdr.toNat 35 32
def hdrTag (f : Flit) : Nat := bits f.hdr.toNat 45 36

def epDie (e : Nat) : Nat := e % 8
def epX (e : Nat) : Nat := e / 8 % 8
def epY (e : Nat) : Nat := e / 64 % 8
def epPort (e : Nat) : Nat := e / 512 % 4
def epOf (d x y p : Nat) : Nat := d + 8 * x + 64 * y + 512 * p

/-- The parity of the even bits, or of the odd bits, of the low 46 (R296). -/
def parityOf (x start : Nat) : Nat := ((List.range 23).map (fun k => b2n (bit x (2 * k + start)))).sum % 2

/-- The two check bits of a header. -/
def hchk (x : Nat) : Nat := parityOf x 0 + 2 * parityOf x 1

/-- A header of its fields, with its check bits. -/
def mkHdr (dst src prio age cls tag : Nat) : BitVec 48 :=
  let x := dst % 2 ^ 11 + src % 2 ^ 11 * 2 ^ 11 + prio % 4 * 2 ^ 22 + age % 256 * 2 ^ 24 + cls % 16 * 2 ^ 32 + tag % 1024 * 2 ^ 36
  BitVec.ofNat 48 (x + hchk x * 2 ^ 46)

end Sys2Proof.Machine

namespace Sys2Proof

open Machine

/-- Whether a header's check bits are right (R297). -/
def Flit.good (f : Flit) : Bool := bits f.hdr.toNat 47 46 = hchk (f.hdr.toNat % 2 ^ 46)

/-- A flit with another age, its check bits regenerated (R297). -/
def Flit.aged (f : Flit) (age : Nat) : Flit :=
  { f with hdr := mkHdr (hdrDst f) (hdrSrc f) (hdrPrio f) age (hdrClass f) (hdrTag f) }

end Sys2Proof

namespace Sys2Proof.Machine

open Reg

/-- Responses are RDATA and STATUS; every other class is a request (R298). -/
def isResponse (f : Flit) : Bool := hdrClass f = 8 || hdrClass f = 9

/-- The payload whose bytes from byte 0 are given. -/
def payloadOf (bs : List Byte) : BitVec 512 := BitVec.ofNat 512 (leNat bs)

/-- A STATUS response to a request, made by element `src` (R298, R300). -/
def statusTo (f : Flit) (code : Nat) (waking : Bool) : Flit :=
  { hdr := mkHdr (hdrSrc f) (hdrDst f) (hdrPrio f) 0 9 (hdrTag f), data := BitVec.ofNat 512 (code + 256 * b2n waking) }

/-- An RDATA response (R298). -/
def rdataTo (f : Flit) (bs : List Byte) : Flit :=
  { hdr := mkHdr (hdrSrc f) (hdrDst f) (hdrPrio f) 0 8 (hdrTag f), data := payloadOf bs }

/-! The command word (R299). -/
def cmdOffset (f : Flit) : Nat := bits f.data.toNat 47 0
def cmdLen (f : Flit) : Nat := bits f.data.toNat 53 48 + 1
def cmdRetry (f : Flit) : Bool := bit f.data.toNat 54
def cmdReserved (f : Flit) : Nat := bits f.data.toNat 63 55
def cmdWord (offset len : Nat) : Nat := offset % 2 ^ 48 + (len - 1) % 64 * 2 ^ 48

/-! Requests as sources form them. -/
def rdFlit (dst src prio tag offset len : Nat) : Flit :=
  { hdr := mkHdr dst src prio 0 1 tag, data := BitVec.ofNat 512 (cmdWord offset len) }
def wrsFlit (dst src prio tag offset : Nat) (bs : List Byte) : Flit :=
  { hdr := mkHdr dst src prio 0 2 tag, data := BitVec.ofNat 512 (cmdWord offset bs.length + 2 ^ 64 * leNat bs) }
def msgFlit (dst src prio tag : Nat) (data : BitVec 512) : Flit := { hdr := mkHdr dst src prio 0 5 tag, data := data }

/-- The copy of a request that its retry sends: `RETRY` = 1, or MSG_RETRY (R309). -/
def retryOf (f : Flit) : Flit :=
  if hdrClass f = 5 then { f with hdr := mkHdr (hdrDst f) (hdrSrc f) (hdrPrio f) 0 6 (hdrTag f) }
  else if hdrClass f = 4 then f
  else { f with data := f.data ||| (1#512 <<< 54) }

/-! ## Networks (R292 to R295, R303) -/

/-- Columns and rows of the network of die `d`. -/
def netX (d : Nat) : Nat := if d = 0 then 4 else 8
def netY (d : Nat) : Nat := if d = 0 then 4 else if d ≤ 4 then 8 else 1
def isRouter (d x y : Nat) : Bool := d ≤ 6 && x < netX d && y < netY d
def routerNo (d x y : Nat) : Nat := y * netX d + x
def routerPage (d x y : Nat) : Nat := Pg.router d (routerNo d x y)
def routerKey (d x y : Nat) : Nat := d * 64 + routerNo d x y

/-- Whether a number names an endpoint; gateways are no endpoints (R31, R294). -/
def isEndpoint (e : Nat) : Bool :=
  e < 2048 && isRouter (epDie e) (epX e) (epY e) &&
    (let t := endpointType (epDie e) (epX e) (epY e) (epPort e)
     t ≠ 0 && t ≠ 4)
def epType (e : Nat) : Nat := endpointType (epDie e) (epX e) (epY e) (epPort e)
def epPage (e : Nat) : Nat := routerPage (epDie e) (epX e) (epY e)

/-- Outputs of a router in port order: N, E, S, W are 0 to 3 on a torus, CW and CCW 0 and 1 on a ring. -/
def outputs (d : Nat) : List Nat := if d ≤ 4 then [0, 1, 2, 3] else [0, 1]

/-- The router an output leads to (R293). -/
def neighbor (d x y o : Nat) : Nat × Nat :=
  let m := netX d
  let n := netY d
  if d ≤ 4 then
    (if o = 0 then (x, (y + 1) % n) else if o = 1 then ((x + 1) % m, y) else if o = 2 then (x, (y + n - 1) % n)
     else ((x + m - 1) % m, y))
  else if o = 0 then ((x + 1) % m, y) else ((x + m - 1) % m, y)

/-- The output opposite to one: a packet that arrives at port `o` was sent on it by the neighbor there. -/
def opposite (d o : Nat) : Nat := if d ≤ 4 then (o + 2) % 4 else 1 - o

/-- The link an output of a router drives. -/
def linkKey (d x y o : Nat) : Nat := routerKey d x y * 4 + o

/-- The logical module of gateway `g` of die `d` (R295). -/
def gwModule (d g : Nat) : Nat := if d ≤ 4 then 8 + g else 4 + g
def gwCount (d : Nat) : Nat := if d ≤ 4 then 8 else 4

/-- The gateway at local port `p` of a router: the die whose port it belongs to and its number (R294). -/
def gatewayAt (d x y p : Nat) : Option (Nat × Nat) :=
  if d = 0 then
    (if p < 2 then some (y + 1, x + 4 * p) else if p = 2 ∧ y % 2 = 0 then some (5 + y / 2, x) else none)
  else if d ≤ 4 then (if p = 3 ∧ y = 0 then some (d, x) else none)
  else if p = 3 ∧ x % 2 = 1 then some (d, x / 2) else none

namespace State

def skEnd (s : State) (e : Nat) : SkEnd := SMap.read {} s.skein.ends e
def setSkEnd (s : State) (e : Nat) (x : SkEnd) : State :=
  { s with skein := { s.skein with ends := SMap.write {} s.skein.ends e x } }

/-- `SKR_PORT.PSTATE` as the endpoint moves it: 0 ACTIVE, 1 DRAINING, 2 ASLEEP (R317). -/
def portState' (s : State) (e : Nat) : Nat := s.get (epPage e) Router.SKR_PORT_PSTATE (epPort e)

end State

/-- The attach port of a router. -/
def attachEp (d x y : Nat) : Nat := epOf d x y 0

namespace State

/-- A request outstanding under a tag: its response has not been ejected (R308). -/
def liveReq (s : State) (e tag : Nat) : Option SkReq := (s.skEnd e).outstanding.find? (fun r => r.tag = tag && !r.answered)

/-- The requests of an endpoint from injection until their responses are ejected (R308). -/
def inFlight (s : State) (e : Nat) : List SkReq := (s.skEnd e).outstanding.filter (fun r => r.sent && !r.answered)

/-- A response waits to be injected. -/
def respond (s : State) (e : Nat) (f : Flit) : State :=
  let x := s.skEnd e
  s.setSkEnd e { x with txQ := x.txQ ++ [f] }

/-- A request ends: a tag that met a timeout goes into quarantine (R310). -/
def endRequest (s : State) (e : Nat) (r : SkReq) (timedOut : Bool) : State :=
  let x := s.skEnd e
  s.setSkEnd e { x with
    outstanding := x.outstanding.filter (fun q => q.tag ≠ r.tag),
    quarantine := if r.retried || timedOut then x.quarantine ++ [r.tag] else x.quarantine }

/-! ## Fabric attach ports (R311, R312) -/

/-- Whether `TREADY` admits a flit of the fabric: none while one it has taken waits for its slot of R306; a response; a request whose tag is
free, within the quotas and with room for its response; the second flit of a line write under the first one's tag (R311, R312). -/
def attachReady (s : State) (e : Nat) (f : Flit) : Bool :=
  let x := s.skEnd e
  let cls := hdrClass f
  if x.txQ ≠ [] then false
  else if cls = 8 ∨ cls = 9 then true
  else
    match s.liveReq e (hdrTag f) with
    | some r => (cls = 3 || cls = 4) && r.flits.length = 1 && r.flits.any (fun g => hdrClass g ≠ cls && (hdrClass g = 3 || hdrClass g = 4))
    | none => !(x.quarantine.elem (hdrTag f)) && x.outstanding.length + x.respQ.length < 32 &&
        (hdrPrio f ≠ 3 || x.outstanding.all (fun r => r.prio ≠ 3)) && s.portState' e = 0

/-- A flit taken from the fabric: the port fills `SRC`, `AGE` and `HCHK` (R311). A response answers a request that the port delivered. -/
def attachTake (s : State) (e : Nat) (f : Flit) : State :=
  let g : Flit := { f with hdr := mkHdr (hdrDst f) e (hdrPrio f) 0 (hdrClass f) (hdrTag f) }
  let x := s.skEnd e
  if isResponse f then
    s.setSkEnd e { x with txQ := x.txQ ++ [g], owed := x.owed.filter (· ≠ (hdrDst f, hdrTag f)) }
  else if (s.liveReq e (hdrTag f)).isSome then
    s.setSkEnd e { x with
      txQ := x.txQ ++ [g],
      outstanding := x.outstanding.map (fun r => if r.tag = hdrTag f then { r with flits := r.flits ++ [g] } else r) }
  else
    s.setSkEnd e { x with
      txQ := x.txQ ++ [g],
      outstanding := x.outstanding ++ [{ tag := hdrTag f, prio := hdrPrio f, flits := [g], use := .fabric }] }

/-- The flit at the outputs, and its `RKIND`: of the response queue first, then urgent requests, then requests (R311, R312). -/
def attachShows (s : State) (e : Nat) : Option (Nat × Flit) :=
  let x := s.skEnd e
  match x.respQ, x.urgQ, x.reqQ with
  | (_, f) :: _, _, _ => some (2, f)
  | [], f :: _, _ => some (1, f)
  | [], [], f :: _ => some (0, f)
  | [], [], [] => none

/-- The flit that the last edge has taken goes on its way. -/
def attachTransmit (s : State) (e : Nat) : State :=
  match (s.skEnd e).tDue with
  | none => s
  | some f => (s.setSkEnd e { s.skEnd e with tDue := none }).attachTake e f

/-- A request that the fabric has taken is one it must answer (R312, R317). -/
def attachOwes (x : SkEnd) (f : Flit) : List (Nat × Nat) :=
  if x.owed.elem (hdrSrc f, hdrTag f) then x.owed else x.owed ++ [(hdrSrc f, hdrTag f)]

/-- The flit that the last edge has delivered leaves its queue. -/
def attachDeliver (s : State) (e : Nat) : State :=
  let x := s.skEnd e
  match x.rDue with
  | none => s
  | some 2 => s.setSkEnd e { x with rDue := none, respQ := x.respQ.drop 1 }
  | some 1 => s.setSkEnd e { x with rDue := none, urgQ := x.urgQ.drop 1, owed := (x.urgQ.head?.map (attachOwes x)).getD x.owed }
  | some _ => s.setSkEnd e { x with rDue := none, reqQ := x.reqQ.drop 1, owed := (x.reqQ.head?.map (attachOwes x)).getD x.owed }

end State
end Sys2Proof.Machine
end

