-- ==== Sys2Proof/Machine/Span.lean ====
section
/-! DEFINITION. Span crossings (spec/05_span_crossings.md): what a receiver makes of a crossing frame, how the hub switches
and poisons the frames of a span cycle, what a slice presents, the span channels, and the loss of crossing service (R130).
A slice is named by its die and logical module, a channel side by its die and span channel port. -/

namespace Sys2Proof.Machine

open Reg

/-- Group `g` of a payload (R135). -/
def group (x : BitVec 1536) (g : Nat) : Nat := (x >>> (8 * g)).toNat % 256

/-- The payload whose group `g` is `f g`. -/
def ofGroups (f : Nat → Nat) : BitVec 1536 :=
  BitVec.ofNat 1536 ((List.range 192).foldr (fun g acc => f g % 256 + 256 * acc) 0)

namespace State

def side (s : State) (d f : Nat) : SpanSide := SMap.read {} s.span.channels (spanKey d f)

def setSide (s : State) (d f : Nat) (x : SpanSide) : State :=
  { s with span := { s.span with channels := SMap.write {} s.span.channels (spanKey d f) x } }

/-- Whether a lane die's adapters have been released by start-up or by a DIE_RESET's end (R146, R443, R468). -/
def adaptersReleased (s : State) (d : Nat) : Bool :=
  SMap.read false s.fabric.released (sectorKey d 0) && !(bit (s.get Pg.reset Reset.RST_DIE_STAT_IN_RESET) d) && s.domOn (16 * d)

/-- Whether the arrival registers of a slice hold 0 (R146). -/
def sliceHeld (s : State) (d m : Nat) : Bool := if d ≤ 4 then s.gsrActive d m else !(s.adaptersReleased d)

/-- The GSR of a sector clears the launch and arrival registers of its crossing port slice, if it has one (R98, R146). -/
def holdSlice (s : State) (d m : Nat) : State :=
  if m < 12 then s.setSlice d m { s.slice d m with launch := 0, arrival := 0, crossErr := false, lastGood := 0 } else s

/-- The octet of a lane die whose arrival registers hold group `g` of module `m`: by the lane maps, and by the maps of the control groups
(R332, R333). -/
def groupOctet (s : State) (d m g : Nat) : Option Nat :=
  let lanes := (List.range 64).filter (fun n =>
    let p := Pg.dieBase d + 0x40 + n
    s.flag p Lane.LANE_XMAP_EN 1 && s.get p Lane.LANE_XMAP_MOD 1 = m && s.get p Lane.LANE_XMAP_GROUP 1 ≤ g &&
      g < s.get p Lane.LANE_XMAP_GROUP 1 + s.get p Lane.LANE_XMAP_NG 1)
  let ctls := (List.range 8).filter (fun q =>
    let a := Pg.adapter d q
    s.flag a Adapter.AD_CTLMAP_EN 1 && s.get a Adapter.AD_CTLMAP_MOD 1 = m && s.get a Adapter.AD_CTLMAP_GROUP 1 ≤ g &&
      g < s.get a Adapter.AD_CTLMAP_GROUP 1 + 2)
  ((lanes.head?).map (· / 8)).orElse (fun _ => ctls.head?)

/-- Whether the arrival registers of octet `o` of a lane die are gated (R130, R455). -/
def octetGated (s : State) (d o : Nat) : Bool :=
  bit (s.get Pg.clock Clock.CLK_SPAN_STOPPED_LANE_STOPPED) (8 * (d - 5) + o)

/-- What the arrival registers take of a presented payload: on a lane die the groups of gated octets hold (R130, R455). -/
def arrivalOf (s : State) (d m : Nat) (x : BitVec 1536) : BitVec 1536 :=
  if d ≤ 4 ∨ s.get Pg.clock Clock.CLK_SPAN_STOPPED_LANE_STOPPED = 0 then x
  else
    let held := (s.slice d m).arrival
    ofGroups (fun g => match s.groupOctet d m g with
      | some o => if s.octetGated d o then group held g else group x g
      | none => group x g)

/-! ## Receiving a frame (R117, R155, R157) -/

/-- Classification of a failed frame on its own wires: the next frame of the module direction is the one retry, good is
transient and failed lasting (R157). While an audit lap runs nothing more is classified. -/
def classify (s : State) (d m p dir : Nat) (failed : Bool) : State :=
  let k := spanDirKey d m dir
  let awaiting := SMap.read false s.span.awaiting k
  let put (t : State) (b : Bool) : State :=
    { t with span := { t.span with awaiting := SMap.write false t.span.awaiting k b } }
  if (SMap.read none s.span.laps k).isSome then s
  else if awaiting && failed then
    { put s false with span :=
      { (put s false).span with laps := SMap.write none s.span.laps k (some (dir = 1)) } }
  else if awaiting then (put s false).count (Pg.port d) Port.LMH_ERRS_TRANSIENT 1 p
  else put s failed

/-! ## Sending a frame (R114 to R117, R145, R155) -/

/-- Send a frame of a crossing module direction: the framing word is formed with the next `SEQ4`, the `CODE` given and a fresh `FCRC`, and it goes
out on the map as it stands (R115 to R117). -/
def transmit (s : State) (d m dir code : Nat) (f : TxFrame) : State :=
  match s.physOf d m with
  | none => s
  | some p =>
    let k := spanDirKey d m dir
    let q := SMap.read 0 s.span.txSeq k
    let g := { f with framing := BitVec.ofNat 64 (crossFraming f.payload.toNat q code f.poisoned), map := s.mapOf d p dir }
    { s with span := { s.span with
      txSeq := SMap.write 0 s.span.txSeq k ((q + 1) % 16), flight := SMap.write [] s.span.flight k (SMap.read [] s.span.flight k ++ [g]) } }

/-- Whether an IDLE frame follows the data frame of span cycle `n`: never at 800 MHz, after the even cycles at 533 MHz, always at 400 MHz
(R145). -/
def idleFollows (s : State) (n : Nat) : Bool :=
  match s.get Pg.clock Clock.CLK_SPAN_ACTIVE with
  | 0 => false
  | 1 => n % 2 = 0
  | _ => true

/-- The data frame of a span cycle, and the IDLE frame that follows it at the lower span rates: `CODE` IDLE, payload 0 (R145). -/
def sendCycle (s : State) (d m dir : Nat) (f : TxFrame) : State :=
  let t := s.transmit d m dir 0 f
  if s.idleFollows f.cycle then t.transmit d m dir 2 { payload := 0, data := false } else t

/-- The last frame sent carries `CODE` SWAP_NEXT or MOVE_NEXT with the payload it has (R127, R128, R145). -/
def markLast (s : State) (d m dir code : Nat) : State :=
  let k := spanDirKey d m dir
  let q := SMap.read [] s.span.flight k
  match q.getLast? with
  | none => s
  | some f =>
    let g := { f with framing := BitVec.ofNat 64 (crossFraming f.payload.toNat (bits f.framing.toNat 11 8) code f.poisoned) }
    { s with span := { s.span with flight := SMap.write [] s.span.flight k (q.dropLast ++ [g]) } }

/-- The frames that cross a module direction in the window of a sudden move are lost (R128). -/
def loseWindow (s : State) (d m dir : Nat) : State :=
  let k := spanDirKey d m dir
  { s with span := { s.span with
    flight := SMap.write [] s.span.flight k ((SMap.read [] s.span.flight k).map (fun f => { f with lost := true })) } }

/-- The oldest frame of a crossing module direction arrives with the bits `err` of its wires inverted, wire w at [25w+24:25w]: `MARK`, `SEQ4` and
`FCRC` are checked, a failed frame is counted and classified unless the hub had poisoned it, and a data frame goes to the hub crossbar
or to its slice (R115 to R117, R155 to R157, R164). -/
def frameArrives (s : State) (d m p dir : Nat) (err : BitVec 1700) : State :=
  let k := spanDirKey d m dir
  match SMap.read [] s.span.flight k with
  | [] => s
  | tx :: rest =>
    let w := frameWires false tx.map.mask.toNat tx.map.assign.toNat
    let r := offWires w (onWires w tx.payload.toNat tx.framing.toNat ^^^ err.toNat)
    let want := SMap.read 0 s.span.seq4 k
    let good := headGood r.2 want && bits r.2 31 16 = fcrc r.1 r.2 && !tx.lost
    let hubPoison := dir = 0 && tx.poisoned
    let failed := !good || hubPoison
    let s := { s with span := { s.span with
      flight := SMap.write [] s.span.flight k rest, seq4 := SMap.write 0 s.span.seq4 k ((want + 1) % 16) } }
    let s := if failed then s.count (Pg.port d) Port.LMH_ERRS_FAILED_FRAMES 1 p else s
    let s := if hubPoison then s else s.classify d m p dir failed
    let f : CrossFrame :=
      { payload := BitVec.ofNat 1536 r.1, failed := failed, poisoned := hubPoison, srcDie := tx.srcDie, srcMod := tx.srcMod, cycle := tx.cycle }
    if tx.data = false then s
    else if dir = 1 then
      { s with span := { s.span with hubRx := SMap.write none s.span.hubRx (spanKey d m) (some f) } }
    else
      let x := s.slice d m
      s.setSlice d m { x with landing := x.landing ++ [f] }

/-! ## The hub crossbar (R135, R137, R155) -/

/-- What the crossbar makes of one destination group: its byte, and whether it comes of a failed source, of a port that is
not ACTIVE, or of an entry whose module is no crossing module. -/
structure GroupOut where
  byte : Nat := 0
  poison : Bool := false
  down : Bool := false
  bad : Bool := false
  die : Nat := 0
  mod : Nat := 0

/-- Destination group `g` of port `d`, module `m` in span cycle `n`. An entry whose source is no crossing module, or no port at all, is off (R137). A
source port that is ACTIVE and shows no frame of the cycle counts as failed. -/
def switchGroup (s : State) (d m n g : Nat) : GroupOut :=
  let page := Pg.xbar d m
  if s.flag page Xbar.XBAR_ENTRY_EN g = false then {}
  else
    let sd := s.get page Xbar.XBAR_ENTRY_SRC_DIE g
    let sm := s.get page Xbar.XBAR_ENTRY_SRC_MOD g
    if isPort sd = false ∨ s.crossModules sd ≤ sm then { bad := true }
    else if s.portActive sd = false then { poison := true, down := true, die := sd, mod := sm }
    else
      match SMap.read none s.span.hubRx (spanKey sd sm) with
      | none => { poison := true, die := sd, mod := sm }
      | some f =>
        if f.cycle = n then { byte := group f.payload (s.get page Xbar.XBAR_ENTRY_SRC_GROUP g), poison := f.failed, die := sd, mod := sm }
        else { poison := true, die := sd, mod := sm }

/-- The hub switches the groups of one destination module: a frame is sent while the port is ACTIVE, poisoned when a group
of it is; `SRC_DOWN` and `XBAR_BAD` follow the sources (R137, R144, R155, R163). `XBAR_BAD` then stays 1 until a reset of the device
(DESIGN CHOICE: the manual does not say when it clears; log entry 100). -/
def switchModule (s : State) (d m n : Nat) : State :=
  let gs := (List.range 192).map (s.switchGroup d m n)
  let first := gs.find? (·.poison)
  let down := gs.any (·.down)
  let page := Pg.xport d
  let t := if gs.any (·.bad) then s.set (Pg.port d) Port.STATUS_XBAR_BAD 1 else s
  let t := if down && !(bit (t.get page Xport.STATUS_SRC_DOWN) m) then t.setInt page Xport.INT_SRC_DOWN else t
  let t := t.setBit page Xport.STATUS_SRC_DOWN m down
  if t.portActive d then
    t.sendCycle d m 0
      { payload := ofGroups (fun g => (gs[g]?.map (·.byte)).getD 0), poisoned := first.isSome,
        srcDie := (first.map (·.die)).getD 0, srcMod := (first.map (·.mod)).getD 0, cycle := n }
  else t

/-- The hub crossbar switches the frames of span cycle `n`. -/
def switchCycle (s : State) (n : Nat) : State :=
  let t := forEach [1, 2, 3, 4, 5, 6] (fun d u =>
    forEach (List.range (s.crossModules d)) (fun m v => v.switchModule d m n) u) s
  { t with span := { t.span with hubRx := [] } }

/-! ## Span channels (R149 to R152, R164) -/

/-- Whether a channel uses a span channel port, and its peer. -/
def channelOn (s : State) (d f : Nat) : Bool := s.flag (Pg.xport d) Xport.SFIFO_CTL_EN f
def peerDie (s : State) (d f : Nat) : Nat := s.get (Pg.xport d) Xport.SFIFO_CTL_PEER_DIE f
def peerPort (s : State) (d f : Nat) : Nat := s.get (Pg.xport d) Xport.SFIFO_CTL_PEER_PORT f
def channelError (s : State) (d f : Nat) : Bool := s.flag (Pg.xport d) Xport.SFIFO_STATUS_ERROR f

/-- `XP_LAST_FAIL` as one word. -/
def lastFail (s : State) (d : Nat) : Nat :=
  let p := Pg.xport d
  2 ^ 31 * s.get p Xport.XP_LAST_FAIL_VALID + 2 ^ 30 * s.get p Xport.XP_LAST_FAIL_HUB_POISON +
  2 ^ 24 * s.get p Xport.XP_LAST_FAIL_SRC_DIE + 2 ^ 20 * s.get p Xport.XP_LAST_FAIL_SRC_MOD +
  2 ^ 16 * s.get p Xport.XP_LAST_FAIL_MODULE

/-- One side of a channel goes to ERROR. -/
def sideError (s : State) (d f : Nat) : State :=
  ((s.set (Pg.xport d) Xport.SFIFO_STATUS_ERROR 1 f).set (Pg.xport d) Xport.SFIFO_STATUS_READY 0 f).setInt (Pg.xport d)
    Xport.INT_SFIFO_ERR

/-- A failed frame carried groups of an enabled channel: both directions go to ERROR, recorded once (R152). -/
def channelFails (s : State) (d f : Nat) : State :=
  if s.channelOn d f = true ∧ s.channelError d f = false then
    ((s.sideError d f).sideError (s.peerDie d f) (s.peerPort d f)).event 0x1101 1 (Pg.xport d) (s.lastFail d)
  else s

/-- The first group of span channel port `f` in its module (R149). -/
def channelGroup (f : Nat) : Nat := 174 + 9 * (f % 2)

/-- What span channel port `f` lays on its nine groups in a span cycle: the entry that is due with `VALID`, and `CREDIT` while credits are owed; in
ERROR nothing (R149, R151, R152). -/
def channelSends (s : State) (d f g : Nat) : Nat :=
  let x := s.side d f
  if s.channelError d f then 0
  else if g < 8 then ((x.out.getD 0).toNat >>> (8 * g)) % 256
  else b2n x.out.isSome + 2 * b2n (0 < x.owed)

/-- It has been sent: the entry has gone, and one credit has been returned. -/
def channelSent (s : State) (d f : Nat) : State :=
  let x := s.side d f
  if s.channelError d f then s else s.setSide d f { x with out := none, owed := x.owed - 1 }

/-- A good frame of a module lands at most one entry and one credit for each of its two span channel ports (R149, R151). -/
def landChannel (s : State) (d f : Nat) (payload : BitVec 1536) : State :=
  if s.channelOn d f = true ∧ s.channelError d f = false then
    let x := s.side d f
    let ctl := group payload (channelGroup f + 8)
    let t := if bit ctl 0 then
      s.setSide d f { x with rx := x.rx ++ [BitVec.ofNat 64 (payload >>> (8 * channelGroup f)).toNat] } else s
    if bit ctl 1 then
      t.set (Pg.xport d) Xport.SFIFO_STATUS_CREDITS (min 32 (t.get (Pg.xport d) Xport.SFIFO_STATUS_CREDITS f + 1)) f
    else t
  else s

/-- `FULL` of a transmit FIFO: held at 1 in ERROR (R150, R152). -/
def channelFull (s : State) (d f : Nat) : Bool := s.channelError d f || (s.side d f).tx.length = 16

/-- The write that an edge of `WCLK` has taken; one that comes while FULL is 1 is not taken (R150, R152). -/
def channelWrite (s : State) (d f : Nat) : State :=
  let c := s.side d f
  match c.wDue with
  | none => s
  | some x =>
    if s.channelOn d f = true ∧ s.channelFull d f = false then s.setSide d f { c with wDue := none, tx := c.tx ++ [x] }
    else s.setSide d f { c with wDue := none }

/-- One entry is sent against one credit: it goes out in the next span cycle (R151). -/
def channelSend (s : State) (d f : Nat) : State :=
  let c := s.side d f
  let n := s.get (Pg.xport d) Xport.SFIFO_STATUS_CREDITS f
  match c.tx with
  | [] => s
  | x :: rest =>
    if s.channelOn d f = true ∧ s.channelError d f = false ∧ n ≠ 0 ∧ c.out = none then
      (s.setSide d f { c with tx := rest, out := some x }).set (Pg.xport d) Xport.SFIFO_STATUS_CREDITS (n - 1) f
    else s

/-- The read that an edge of `RCLK` has taken: it returns one credit to the source; in ERROR no credit is sent (R151, R152). -/
def channelRead (s : State) (d f : Nat) : State :=
  let c := s.side d f
  if c.rDue = false then s
  else
    match c.rx with
    | [] => s.setSide d f { c with rDue := false }
    | x :: rest =>
      s.setSide d f { c with
        rDue := false, rx := rest, rdata := x, owed := if s.channelOn d f && !(s.channelError d f) then c.owed + 1 else c.owed }

/-- `RESYNC` on a side in ERROR empties its FIFOs and shows READY; elsewhere it is ignored (R164). -/
def channelResync (s : State) (d f : Nat) : State :=
  if s.channelError d f then
    (s.setSide d f { (s.side d f) with tx := [], rx := [], out := none, owed := 0 }).set (Pg.xport d)
      Xport.SFIFO_STATUS_READY 1 f
  else s

/-- One side runs, `READY` and with 32 credits (R151, R163, R164). -/
def sideRestart (s : State) (d f : Nat) : State :=
  ((s.set (Pg.xport d) Xport.SFIFO_STATUS_ERROR 0 f).set (Pg.xport d) Xport.SFIFO_STATUS_CREDITS 32 f).set (Pg.xport d)
    Xport.SFIFO_STATUS_READY 1 f

/-- `SFIFO_STATUS.READY`: a side that runs is ready, a side in ERROR is once its `RESYNC` has emptied it (R163, R164). -/
def sideReady (s : State) (d f : Nat) : Bool :=
  s.flag (Pg.xport d) Xport.SFIFO_STATUS_READY f || (s.channelOn d f && !(s.channelError d f))

/-- A channel in ERROR restarts once both sides show READY (R164). -/
def channelRestarts (s : State) (d f : Nat) : State :=
  let e := s.peerDie d f
  let g := s.peerPort d f
  if s.channelOn d f = true ∧ s.channelError d f = true ∧ s.sideReady d f = true ∧ s.sideReady e g = true then
    (s.sideRestart d f).sideRestart e g
  else s

/-! ## Presenting a span cycle (R141, R146, R156, R599) -/

/-- Whether a module is held: its policy, or R130's forced HOLD, which only a DEVICE_RESET or POR ends (R156, R158). -/
def holdPolicy (s : State) (d m : Nat) : Bool :=
  bit (s.get (Pg.xport d) Xport.XP_POLICY_HOLD) m || bit (s.get (Pg.xport d) Xport.STATUS_FORCED_HOLD) m

/-- What a failed frame of module `m` presents: by its policy the last good payload or the payload received, but a channel's groups as they were
received, since the policy does not apply to them (R152, R156). -/
def failedPayload (s : State) (d m : Nat) (payload : BitVec 1536) : BitVec 1536 :=
  if s.holdPolicy d m = false then payload
  else
    let held := (s.slice d m).lastGood
    let mine := fun f => d ≤ 4 && s.channelOn d f
    if mine (2 * m) || mine (2 * m + 1) then
      ofGroups (fun g =>
        if (174 ≤ g && g < 183 && mine (2 * m)) || (183 ≤ g && mine (2 * m + 1)) then group payload g else group held g)
    else held

/-- A failed data frame is presented under its module's policy: `CROSS_ERR`, the counts, and `XP_LAST_FAIL` (R156, R163). -/
def deliverFailed (s : State) (d m : Nat) (f : CrossFrame) : State :=
  let page := Pg.xport d
  let x := s.slice d m
  let t := s.setSlice d m { x with arrival := s.arrivalOf d m (s.failedPayload d m f.payload), crossErr := true }
  let t := ((t.count page Xport.XP_FAIL_FRAMES 1 m).count page Xport.XP_FAIL_RUN 1 m).setInt page Xport.INT_CROSS_FAIL
  let t := if t.flag page Xport.XP_LAST_FAIL_VALID then t else
    ((((t.set page Xport.XP_LAST_FAIL_VALID 1).set page Xport.XP_LAST_FAIL_HUB_POISON (b2n f.poisoned)).set page
      Xport.XP_LAST_FAIL_SRC_DIE f.srcDie).set page Xport.XP_LAST_FAIL_SRC_MOD f.srcMod).set page Xport.XP_LAST_FAIL_MODULE m
  if d ≤ 4 then (t.channelFails d (2 * m)).channelFails d (2 * m + 1) else t

/-- A good data frame is presented, and becomes the last good one. -/
def deliverGood (s : State) (d m : Nat) (f : CrossFrame) : State :=
  let x := s.slice d m
  let t := s.setSlice d m { x with arrival := s.arrivalOf d m f.payload, crossErr := false, lastGood := f.payload }
  let t := t.set (Pg.xport d) Xport.XP_FAIL_RUN 0 m
  if d ≤ 4 then (t.landChannel d (2 * m) f.payload).landChannel d (2 * m + 1) f.payload else t

/-- The slice of a logical module at SPAN_CLK edge `n` presents the value launched at edge n - 9 (R143): 0 while idle or held in GSR, the held
value while its SPAN_CLK is gated, a failed frame of payload 0 while the die's own port is not ACTIVE, else the frame of that cycle that has
landed. What it presents where none has is not in the manual: it keeps what it showed (DESIGN CHOICE; log entry 101). -/
def deliver (s : State) (d m n : Nat) : State :=
  let x := s.slice d m
  let rest := x.landing.filter (fun f => n < f.cycle + 9)
  if s.sliceHeld d m = true then s.setSlice d m { x with arrival := 0, crossErr := false, lastGood := 0, landing := rest }
  else if s.crossModules d ≤ m then s.setSlice d m { x with arrival := 0, crossErr := false, landing := [] }
  else if d ≤ 4 ∧ s.spanGated d m = true then s.setSlice d m { x with landing := rest }
  else if s.portActive d = false then
    s.deliverFailed d m { payload := 0, failed := true, poisoned := false, srcDie := 0, srcMod := 0 }
  else
    let t := s.setSlice d m { x with landing := rest }
    match x.landing.find? (fun f => f.cycle + 9 = n) with
    | none => t.setSlice d m { t.slice d m with crossErr := false }
    | some f => if f.failed then t.deliverFailed d m f else t.deliverGood d m f

/-! ## Loss of crossing service (R130) -/

/-- The destination modules that a module direction feeds: itself toward the die, and toward the hub every module with an
entry that takes a group from it. -/
def fedBy (s : State) (d m dir : Nat) : List (Nat × Nat) :=
  if dir = 0 then [(d, m)]
  else [1, 2, 3, 4, 5, 6].flatMap (fun e => ((List.range (s.crossModules e)).filter (fun n =>
    (List.range 192).any (fun g => s.flag (Pg.xbar e n) Xbar.XBAR_ENTRY_EN g &&
      s.get (Pg.xbar e n) Xbar.XBAR_ENTRY_SRC_DIE g = d && s.get (Pg.xbar e n) Xbar.XBAR_ENTRY_SRC_MOD g = m))).map (fun n => (e, n)))

/-- The `CLK_SPAN_STOPPED` words of a fabric die. -/
def spanStoppedField (d : Nat) : RegField :=
  if d = 1 then Clock.CLK_SPAN_STOPPED_F0_STOPPED else if d = 2 then Clock.CLK_SPAN_STOPPED_F1_STOPPED
  else if d = 3 then Clock.CLK_SPAN_STOPPED_F2_STOPPED else Clock.CLK_SPAN_STOPPED_F3_STOPPED

/-- Close the gate of one sector's SPAN_CLK, or of one octet's arrival registers (R455). -/
def closeGate (s : State) (d r : Nat) : State :=
  let t := if d ≤ 4 then s.setBit Pg.clock (spanStoppedField d) (r % 32) true (r / 32)
    else s.setBit Pg.clock Clock.CLK_SPAN_STOPPED_LANE_STOPPED (8 * (d - 5) + r) true
  t.setInt Pg.clock Clock.INT_SPAN_STOP

/-- Every gate opens (R455). -/
def openGates (s : State) : State :=
  forEach [1, 2, 3, 4] (fun d t => forEach [0, 1, 2] (fun w u => u.set Pg.clock (spanStoppedField d) 0 w) t)
    (s.set Pg.clock Clock.CLK_SPAN_STOPPED_LANE_STOPPED 0)

/-- Force HOLD on a destination module and stop what the crossing map names as its receivers (R130, R160). -/
def forceHold (s : State) (d m : Nat) : State :=
  let t := (s.setBit (Pg.xport d) Xport.STATUS_FORCED_HOLD m true).setInt (Pg.xport d) Xport.INT_FORCED_HOLD
  forEach (bitList (if d ≤ 4 then 96 else 8) (SMap.read 0 s.span.receivers (spanKey d m))) (fun r u => u.closeGate d r) t

/-- Crossing service on a logical module direction is lost (R129, R130): HOLD first, then the clocks of the receivers, once
for each direction. `p` is the physical module that failed. -/
def crossLost (s : State) (d p m dir : Nat) : State :=
  let k := spanDirKey d m dir
  if SMap.read false s.link.lost k then s
  else
    let t := { s with link := { s.link with lost := SMap.write false s.link.lost k true } }
    let t := forEach (s.fedBy d m dir) (fun em u => u.forceHold em.1 em.2) t
    (t.fatal Safety.SAF_FATAL_CROSS_LOST 0x1005 (Pg.port d)).portEvent d 0x1005 4 p 0xFF (some Port.INT_CROSS_LOST) false

end State
end Sys2Proof.Machine
end

