-- ==== Sys2Proof/Machine/FabricEval.lean ====
section
/-! DEFINITION. Signals of the logic fabric (spec/03_logic_fabric.md R68 to R81, R99; spec/14_configuration_boot.md R429): the value of a node,
the outputs that blocks drive into the routing, and what a clock edge samples. -/

namespace Sys2Proof.Machine

open Reg

/-- The attach output wired to track `j` of cluster `c` of tile `t`, for tracks 56 to 63 (R429). -/
def attachOutput (t c j : Nat) : Nat := (j - 56) * 2048 + c * 128 + t

namespace State

/-- Whether track `j` of a tile's cluster is overridden by its attach output. -/
def overridden (s : State) (d sec t c j : Nat) : Bool :=
  56 ≤ j && bit (s.frame d sec 128 (192 + attachOutput t c j / 1024)) (attachOutput t c j % 1024)

end State

/-- The number that input bits spell, first bit lowest. -/
def bitsNat : List Bool → Nat
  | [] => 0
  | b :: bs => b2n b + 2 * bitsNat bs

/-- The candidate sources of each multiplexer: cluster input track `j` (R75), LE pin `p` (R76), segment driver (R81). -/
def trackSource (X Y c j k : Nat) : FabNode := .segEnd X Y ((22 * k + 7 * j + 5 * c) % 352)

def pinSource (X Y c i p k : Nat) : FabNode :=
  if k < 12 then .track X Y c ((5 * k + 3 * i + 11 * p) % 64)
  else if k = 12 then .outA X Y c i else if k = 13 then .outB X Y c i
  else if k = 14 then .outA X Y c ((i + 1) % 16) else .outA X Y c ((i + 15) % 16)

def driverSource (X Y slot k : Nat) : FabNode :=
  if k < 24 then .segEnd X Y ((slot + 15 * k) % 352)
  else if k % 2 = 0 then .outA X Y ((slot / 16 + k) % 16) ((slot + k) % 16)
  else .outB X Y ((slot / 16 + k) % 16) ((slot + k) % 16)

/-- An LE's combinational functions (R68): the outputs L, Y, S and CO from its mask, control bits, inputs and carry in. -/
structure LeOut where
  L : Bool
  Y : Bool
  S : Bool
  CO : Bool
  deriving DecidableEq, Repr

def leEval (mask : Nat) (split carry : Bool) (a b c d e f ci : Bool) : LeOut :=
  let idx := bitsNat [a, b, c, d, e]
  let x := bit mask idx
  let y := bit mask (32 + idx)
  { L := if split || carry then x else if f then y else x
    Y := y
    S := carry && (y != ci)
    CO := carry && (if y then ci else x) }

/-! ## The block attach (R428, R429) -/

namespace State

/-- The cluster input track that attach input `a` of a sector takes; none while its multiplexer is off. -/
def attachNode (s : State) (d sec a : Nat) : Option FabNode :=
  let w := bits (s.frame d sec 128 (64 + a / 128)) (8 * (a % 128) + 7) (8 * (a % 128))
  (muxPick 4 4 (bits w 3 0) (bits w 7 4)).map (fun k =>
    .track (tileX sec (a % 128)) (tileY sec (a % 128)) (a / 128 % 16) ((4 * k + a / 128) % 64))

/-- A flag output of a queue controller: FULL, AFULL, OVF on port A, EMPTY, AEMPTY, UDF on port B. -/
def queueFlag (s : State) (d sec b port k : Nat) : Bool :=
  s.isQueue d sec b &&
  (if port = 0 then (if k = 0 then s.qFull d sec b else if k = 1 then s.qAFull d sec b else (s.queue d sec b).ovf)
   else if k = 0 then s.qEmpty d sec b else if k = 1 then s.qAEmpty d sec b else (s.queue d sec b).udf)

/-- Output `k` of a port of a DPB, of a port of a BKB (R171, R180), of a DSP slice (R231). -/
def dpbOut (s : State) (d sec i b k : Nat) : Bool :=
  let q := s.dpbPort d sec i b
  let p : DpbOut := if s.dpbOreg d sec i b then q.oreg else { dout := q.dout, busy := q.busy, cstat := q.cstat }
  if k < 64 then bit p.dout.toNat k else if k = 64 then p.busy else if k < 67 then bit p.cstat.toNat (k - 65)
  else if 80 ≤ k ∧ k < 83 then s.queueFlag d sec i b (k - 80) else false

/-- The request presented at the inputs of a port of a BKB that takes requests, `look` reading an attach input (R179, R180, R429). -/
def bkbPresented (s : State) (d sec i b : Nat) (look : Nat → Bool) : Option BkbIn :=
  let base := 1920 + 192 * i + 96 * b
  let num := fun a n => bitsNat ((List.range n).map (fun j => look (base + a + j)))
  if s.bkbOpen d sec i b && look base then
    some { op := num 1 2, addr := num 3 13, be := num 16 8, din := BitVec.ofNat 64 (num 24 64) }
  else none

/-- `STALL` of a port, formed from the request presented in the cycle and the state of the banks (R180, R181). -/
def bkbStall (s : State) (d sec i b : Nat) (look : Nat → Bool) : Bool :=
  match s.bkbPresented d sec i b look with
  | some x => s.bkbStalls d sec i b x.addr (if b = 1 then (s.bkbPresented d sec i 0 look).map (·.addr) else none)
  | none => false

def bkbOut (s : State) (d sec i b : Nat) (look : Nat → Bool) (k : Nat) : Bool :=
  let q := s.bkbPort d sec i b
  let p : BkbOut :=
    if s.bkbOreg d sec i b then q.oreg else { dvalid := q.dvalid, dout := q.dout, aovf := q.aovf, cstat := q.cstat }
  if k = 0 then s.bkbStall d sec i b look else if k = 1 then p.dvalid else if k < 66 then bit p.dout.toNat (k - 2) else if k < 68 then bit p.aovf.toNat (k - 66)
  else if k < 70 then bit p.cstat.toNat (k - 68) else if 80 ≤ k ∧ k < 83 then s.queueFlag d sec (10 + i) b (k - 80) else false

def dspOut (s : State) (d sec j k : Nat) : Bool :=
  let x := s.dspSlice d sec j
  let m := x.three.out
  if k < 64 then bit m.y.toNat k else if k < 70 then bit m.expc.toNat (k - 64) else if k < 78 then bit m.nexp.toNat (k - 70)
  else if k = 78 then m.lim else if k = 79 then x.two.acc.ov else if k = 80 then x.one.psat else false

/-- What a slice shows to an edge of the span cycle that stands: at an edge of the cycle it presents in, what it showed before (R143). -/
def sliceShown (s : State) (d m : Nat) : BitVec 1536 × Bool :=
  let x := s.slice d m
  if x.edge = s.clock.span + 1 then (x.old, x.oldErr) else (x.arrival, x.crossErr)

/-- An arrival register, or `CROSS_ERR` at 1,536, of the slice in a sector; an idle or held slice drives 0 (R141, R146). -/
def sliceOut (s : State) (d sec k : Nat) : Bool :=
  if sec < 12 && sec < s.crossModules d && !(s.sliceHeld d sec) then
    (if k < 1536 then (s.sliceShown d sec).1.getLsbD k else (s.sliceShown d sec).2)
  else false

/-- The column of the router whose attach port a sector holds (R294). -/
def attachX (sec : Nat) : Option Nat := (List.range 8).find? (fun x => (3 * x + 1) / 2 = sec % 12)

/-- Output `k` of a fabric attach port. `TREADY` is what the header presented at its inputs meets; `look` reads a signal. -/
def attachPortOut (s : State) (d sec : Nat) (look : FabNode → Bool) (k : Nat) : Bool :=
  match attachX sec with
  | none => false
  | some x =>
    let e := attachEp d x (sec / 12)
    if k = 0 then
      let inp := fun a => match s.attachNode d sec a with | some n => look n | none => false
      s.attachReady e { hdr := BitVec.ofNat 48 (bitsNat ((List.range 48).map (fun j => inp (10242 + j)))), data := 0 }
    else match s.attachShows e with
      | none => false
      | some (kind, f) =>
        if k = 1 then true else if k < 4 then bit kind (k - 2)
        else if k < 52 then bit f.hdr.toNat (k - 4) else if 64 ≤ k ∧ k < 576 then bit f.data.toNat (k - 64) else false

/-- Output `k` of span channel port `f` (R149, R150, R152). -/
def channelOut (s : State) (d f k : Nat) : Bool :=
  let c := s.side d f
  if k = 0 then s.channelFull d f
  else if k = 1 then 12 ≤ c.tx.length
  else if k < 66 then bit c.rdata.toNat (k - 2)
  else if k = 66 then c.rx.isEmpty
  else if k = 67 then c.rx.length ≤ 4
  else k = 68 && s.channelError d f

/-- What attach output `o` of a sector drives; an unlisted one drives 0. -/
def attachOut (s : State) (d sec : Nat) (look : FabNode → Bool) (o : Nat) : Bool :=
  if o < 1920 then s.dpbOut d sec (o / 192) (o % 192 / 96) (o % 96)
  else if o < 2880 then
    s.bkbOut d sec ((o - 1920) / 192) ((o - 1920) % 192 / 96)
      (fun a => match s.attachNode d sec a with | some n => look n | none => false) ((o - 1920) % 96)
  else if o < 6976 then s.dspOut d sec ((o - 2880) / 128) ((o - 2880) % 128)
  else if 8192 ≤ o ∧ o ≤ 9728 then s.sliceOut d sec (o - 8192)
  else if 10240 ≤ o ∧ o < 10816 then s.attachPortOut d sec look (o - 10240)
  else if 11264 ≤ o ∧ o < 11520 ∧ sec < 8 then s.channelOut d (2 * sec + (o - 11264) / 128) ((o - 11264) % 128)
  else false

end State

/-- The value of a signal of die `d`, followed back to the flops, wire registers and constants that feed it. `fuel` bounds
the path; a loop of combinational logic has no value the manual states, and reads the free bit `u` (log entry 4). -/
def fabEval (s : State) (d : Nat) (u : Bool) : Nat → FabNode → Bool
  | 0, _ => u
  | fuel + 1, .segEnd X Y slot =>
    match segStart X Y slot with
    | none => false
    | some (X0, Y0) =>
      let w := s.slotWord d X0 Y0 slot
      if bit w 12 then s.wireOut d X Y slot (s.tileClock d X Y (bits w 14 13))
      else fabEval s d u fuel (.driver X0 Y0 slot)
  | fuel + 1, .driver X Y slot =>
    let w := s.slotWord d X Y slot
    match muxPick 4 8 (bits w 3 0) (bits w 11 4) with
    | none => false
    | some k => fabEval s d u fuel (driverSource X Y slot k)
  | fuel + 1, .track X Y c j =>
    if s.overridden d (sectorAt X Y) (tileAt X Y) c j then
      s.attachOut d (sectorAt X Y) (fun n => fabEval s d u fuel n) (attachOutput (tileAt X Y) c j)
    else
    let w := bits (s.frameXY d X Y (32 + c / 2)) (512 * (c % 2) + 8 * j + 7) (512 * (c % 2) + 8 * j)
    match muxPick 4 4 (bits w 3 0) (bits w 7 4) with
    | none => false
    | some k => fabEval s d u fuel (trackSource X Y c j k)
  | fuel + 1, .pin X Y c i p =>
    let w := bits (s.leSlot d X Y c i) (8 * p + 7) (8 * p)
    match muxPick 4 4 (bits w 3 0) (bits w 7 4) with
    | none => false
    | some k => fabEval s d u fuel (pinSource X Y c i p k)
  | fuel + 1, .outA X Y c i =>
    let w := s.leSlot d X Y c i
    if bit w 56 then s.flopOut d X Y c i false
    else
      let pin := fun p => fabEval s d u fuel (.pin X Y c i p)
      let o := leEval (s.leMask d X Y c i) (bit w 48) (bit w 49) (pin 0) (pin 1) (pin 2) (pin 3) (pin 4) (pin 5)
        (bit w 49 && fabEval s d u fuel (.cin X Y c i))
      if bit w 49 then o.S else o.L
  | fuel + 1, .outB X Y c i =>
    let w := s.leSlot d X Y c i
    if bit w 57 then s.flopOut d X Y c i true
    else
      let pin := fun p => fabEval s d u fuel (.pin X Y c i p)
      (leEval (s.leMask d X Y c i) (bit w 48) (bit w 49) (pin 0) (pin 1) (pin 2) (pin 3) (pin 4) false false).Y
  | fuel + 1, .carry X Y c i =>
    let w := s.leSlot d X Y c i
    if bit w 49 then
      let pin := fun p => fabEval s d u fuel (.pin X Y c i p)
      (leEval (s.leMask d X Y c i) (bit w 48) true (pin 0) (pin 1) (pin 2) (pin 3) (pin 4) false
        (fabEval s d u fuel (.cin X Y c i))).CO
    else false
  | fuel + 1, .cin X Y c i =>
    if 0 < i then fabEval s d u fuel (.carry X Y c (i - 1))
    else
      match bits (s.clusterCtl d X Y c) 6 5 with
      | 0 =>
        if 0 < c then fabEval s d u fuel (.carry X Y (c - 1) 15)
        else if 0 < Y % 8 then fabEval s d u fuel (.carry X (Y - 1) 15 15)
        else false
      | 1 => false
      | 2 => true
      | _ => fabEval s d u fuel (.track X Y c 61)

/-- More than the signals of a die, so that only a combinational loop exhausts it. -/
def fabFuel : Nat := 60000000

namespace State

/-- A signal's value now. -/
def signal (s : State) (d : Nat) (n : FabNode) : Bool := fabEval s d (s.freeVal.testBit 0) fabFuel n

/-- What attach input `a` of a sector reads: the cluster input track that its routing multiplexer takes, 0 while the multiplexer or
Fk_LOGIC is off (R167, R428, R429). -/
def attachIn (s : State) (d sec a : Nat) : Bool :=
  match s.attachNode d sec a with
  | some n => s.domOn (16 * d + 1) && s.signal d n
  | none => false

/-- The number that `n` attach inputs from `a` spell. -/
def attachNum (s : State) (d sec a n : Nat) : Nat := bitsNat ((List.range n).map (fun j => s.attachIn d sec (a + j)))

/-- The cluster's CE and SR (R77). -/
def clusterCE (s : State) (d X Y c : Nat) : Bool :=
  if bit (s.clusterCtl d X Y c) 2 then s.signal d (.track X Y c 62) else true
def clusterSR (s : State) (d X Y c : Nat) : Bool :=
  if bit (s.clusterCtl d X Y c) 3 then s.signal d (.track X Y c 63) else false

/-- What a flop holds after a rising edge of its clock: SR over CE over D (R70, R71). `late` is an asynchronous SR release
inside the setup time: `INIT` or D, whichever the flop's own bit of the free value says (R72). -/
def flopNext (s : State) (d X Y c i : Nat) (b late : Bool) : Bool :=
  let w := s.leSlot d X Y c i
  let init := bit w (if b then 55 else 54)
  let srOn := bit w (if b then 61 else 60)
  let ceOn := bit w (if b then 59 else 58)
  let pin := fun p => s.signal d (.pin X Y c i p)
  let o := leEval (s.leMask d X Y c i) (bit w 48) (bit w 49) (pin 0) (pin 1) (pin 2) (pin 3) (pin 4) (pin 5)
    (bit w 49 && s.signal d (.cin X Y c i))
  let dIn := match bits w (if b then 53 else 51) (if b then 52 else 50) with
    | 0 => o.L
    | 1 => o.Y
    | 2 => o.S
    | _ => pin 5
  if srOn && s.clusterSR d X Y c then init
  else if late && srOn && bit (s.clusterCtl d X Y c) 4 && s.freeVal.testBit (1 + flopKey d X Y c i b) then init
  else if ceOn && !(s.clusterCE d X Y c) then s.flopOut d X Y c i b
  else dIn

/-- The flops of a tile that track `n` clocks, with what each holds after the edge. -/
def tileFlops (s : State) (d sec n t : Nat) (late : List (Nat × Nat)) : List (Nat × Bool) :=
  let X := tileX sec t
  let Y := tileY sec t
  (List.range 16).flatMap (fun c =>
    if s.clusterTrack d X Y c = some n then
      (List.range 16).flatMap (fun i => [false, true].map (fun b =>
        (flopKey d X Y c i b, s.flopNext d X Y c i b (late.elem (t, c)))))
    else [])

/-- The wire registers at a tile's segment ends that track `n` clocks, with what each holds after the edge. -/
def tileWires (s : State) (d sec n t : Nat) : List (Nat × Bool) :=
  let X := tileX sec t
  let Y := tileY sec t
  (List.range 352).filterMap (fun slot =>
    match segStart X Y slot with
    | none => none
    | some (X0, Y0) =>
      let w := s.slotWord d X0 Y0 slot
      if bit w 12 = true ∧ s.tileClock d X Y (bits w 14 13) = some n then
        some (wireKey d X Y slot, s.signal d (.driver X0 Y0 slot))
      else none)

/-- Tiles of a sector with a tile clock selected: no other tile holds a clocked register. -/
def clockedTiles (s : State) (d sec : Nat) : List Nat :=
  (List.range 128).filter (fun t => s.frame d sec t 46 ≠ 0)

/-- What every flop and wire register on a track of a sector holds after an edge of it. -/
def samples (s : State) (d sec n : Nat) (late : List (Nat × Nat)) : List (Nat × Bool) × List (Nat × Bool) :=
  let ts := s.clockedTiles d sec
  (ts.flatMap (fun t => s.tileFlops d sec n t late), ts.flatMap (fun t => s.tileWires d sec n t))

/-- The contents of flops and wire registers are replaced. -/
def putSamples (s : State) (x : List (Nat × Bool) × List (Nat × Bool)) : State :=
  { s with fabric :=
    { s.fabric with
      flops := x.1.foldl (fun m kv => SMap.write false m kv.1 kv.2) s.fabric.flops
      wires := x.2.foldl (fun m kv => SMap.write false m kv.1 kv.2) s.fabric.wires } }

/-- A rising edge on a track (R71, R97, R99): `TRACK_RUN` is set, the edge is counted, for the release too, and what has left GSR takes
what was sampled before the edge. -/
def trackEdge (s : State) (d sec n : Nat) (x : List (Nat × Bool) × List (Nat × Bool)) : State :=
  let key := trackKey d sec n
  let t := s.setBit (Pg.sctl d sec) Sctl.STATUS_TRACK_RUN n true
  let t := { t with fabric :=
    { t.fabric with oldEdge := SMap.write none t.fabric.oldEdge key none, count := SMap.write 0 t.fabric.count key (t.trackCount d sec n + 1) } }
  let t := t.releaseEdge d sec n
  if t.trackFree d sec n then t.putSamples x else t

/-! ## What blocks and slices take at an edge (R167, R171, R180, R191, R231)

`s` is the state before the edge, whose signals are sampled; `t` the state in which the edge has come. -/

/-- Ports of dual-port blocks. -/
def dpbTakes (s : State) (d sec n : Nat) (t : State) : State :=
  forEach ((List.range 20).filter (fun j => t.dpbTrack d sec (j / 2) (j % 2) = n && t.dpbOpen d sec (j / 2) (j % 2))) (fun j u =>
    let base := 192 * (j / 2) + 96 * (j % 2)
    if s.attachIn d sec base then
      u.setDpbPort d sec (j / 2) (j % 2) { u.dpbPort d sec (j / 2) (j % 2) with
        due := some { we := s.attachIn d sec (base + 1), addr := s.attachNum d sec (base + 2) 15
                      din := BitVec.ofNat 64 (s.attachNum d sec (base + 17) 64) } }
    else u) t

/-- Ports of banked blocks: a request presented with `STALL` = 1 is not taken, and counts (R180). -/
def bkbTakes (s : State) (d sec n : Nat) (t : State) : State :=
  forEach ((List.range 10).filter (fun j => t.bkbTrack d sec (j / 2) = n)) (fun j u =>
    match t.bkbPresented d sec (j / 2) (j % 2) (s.attachIn d sec) with
    | none => u
    | some x =>
      if t.bkbStall d sec (j / 2) (j % 2) (s.attachIn d sec) then
        u.count (Pg.sctl d sec) (if j % 2 = 0 then Sctl.SCTL_BKB_STALL_A_STALLS else Sctl.SCTL_BKB_STALL_B_STALLS) 1 (j / 2)
      else u.setBkbPort d sec (j / 2) (j % 2) { u.bkbPort d sec (j / 2) (j % 2) with due := some x }) t

/-- Base of the attach numbers of port A of a block: DPBs, then BKBs (R429). -/
def blockBase (b : Nat) : Nat := if b < 10 then 192 * b else 1920 + 192 * (b - 10)

/-- Sides of queues: a write while FULL is 1 and a read while EMPTY is 1 are refused (R191, R192). -/
def queueTakes (s : State) (d sec n : Nat) (t : State) : State :=
  forEach ((List.range 15).filter (t.isQueue d sec)) (fun b u =>
    let base := blockBase b
    let rst := s.attachIn d sec (base + 97)
    let u := if rst ≠ (u.queue d sec b).qrst then u.queueReset d sec b rst else u
    let u :=
      if u.qFree d sec b n && u.qWriteTrack d sec b = n && s.attachIn d sec base then
        if !(u.qWriteOpen d sec b) || (s.queue d sec b).wLevel = s.qCapacity d sec b then
          (u.setQueue d sec b { u.queue d sec b with ovf := true }).set (Pg.sctl d sec) Sctl.SCTL_QSTAT_OVF 1 b
        else u.setQueue d sec b { u.queue d sec b with
          wDue := some (BitVec.ofNat 64 (s.attachNum d sec (base + (if b < 10 then 17 else 24)) 64)) }
      else u
    if u.qFree d sec b n && u.qReadTrack d sec b = n && s.attachIn d sec (base + 96) then
      if !(u.qReadOpen d sec b) || (s.queue d sec b).rLevel = 0 then
        (u.setQueue d sec b { u.queue d sec b with udf := true }).set (Pg.sctl d sec) Sctl.SCTL_QSTAT_UDF 1 b
      else u.setQueue d sec b { u.queue d sec b with rDue := true }
    else u) t

/-- DSP slices. -/
def dspTakes (s : State) (d sec n : Nat) (t : State) : State :=
  forEach ((List.range 32).filter (fun j => t.dspRec d sec j 23 20 = n && t.dspOpen d sec j)) (fun j u =>
    let base := 2880 + 128 * j
    let num := fun a k => s.attachNum d sec (base + a) k
    u.setDspSlice d sec j { u.dspSlice d sec j with
      due := some
        { a := BitVec.ofNat 27 (num 0 27), b := BitVec.ofNat 27 (num 27 27), d := BitVec.ofNat 27 (num 54 27), aop := num 81 3
          move := s.attachIn d sec (base + 84), cin := s.cascIn d sec j, coef := s.coef d sec j (s.coefPtr d sec j)
          rst := s.attachIn d sec (base + 86), cwaddr := num 88 4, cwdata := BitVec.ofNat 27 (num 92 27)
          crst := s.attachIn d sec (base + 86), cnext := s.attachIn d sec (base + 85), cwe := s.attachIn d sec (base + 87) } }) t

/-- The tracks that `WCLK` and `RCLK` of the span channel port in half `h` of a slice select, in block frame 2 (R150, R428). -/
def channelTracks (s : State) (d sec h : Nat) : Nat × Nat :=
  let w := s.frame d sec 128 2
  (bits w (971 + 8 * h) (968 + 8 * h), bits w (975 + 8 * h) (972 + 8 * h))

/-- Span channel ports: a write that comes while FULL is 1 and a read while EMPTY is 1 are not taken (R150, R429). -/
def channelTakes (s : State) (d sec n : Nat) (t : State) : State :=
  if 8 ≤ sec ∨ t.trackFree d sec n = false then t
  else
    forEach [0, 1] (fun h u =>
      let f := 2 * sec + h
      let base := 11264 + 128 * h
      let u :=
        if (s.channelTracks d sec h).1 = n && s.attachIn d sec base && s.channelOn d f && !(s.channelFull d f) then
          u.setSide d f { u.side d f with wDue := some (BitVec.ofNat 64 (s.attachNum d sec (base + 1) 64)) }
        else u
      if (s.channelTracks d sec h).2 = n && s.attachIn d sec (base + 65) && !(s.side d f).rx.isEmpty then
        u.setSide d f { u.side d f with rDue := true }
      else u) t

/-- The endpoint of the fabric attach port of a sector whose record names track `n` (R294, R311, R428). -/
def attachOn (s : State) (d sec n : Nat) : Option Nat :=
  match attachX sec with
  | some x => if bits (s.frame d sec 128 2) 963 960 = n then some (attachEp d x (sec / 12)) else none
  | none => none

/-- The fabric attach port: a flit at `TVALID` and `TREADY`, and one at `RVALID` and `RREADY` (R311, R429). While the networks stand still it
does neither (R463). -/
def attachTakes (s : State) (d sec n : Nat) (t : State) : State :=
  match s.attachOn d sec n with
  | none => t
  | some e =>
    if t.trackFree d sec n = false ∨ s.clock.stopped = true then t
    else
      let f : Flit := { hdr := BitVec.ofNat 48 (s.attachNum d sec 10242 48), data := BitVec.ofNat 512 (s.attachNum d sec 10304 512) }
      let t := if s.attachIn d sec 10240 && s.attachReady e f then t.setSkEnd e { t.skEnd e with tDue := some f } else t
      match s.attachShows e with
      | some (kind, _) => if s.attachIn d sec 10241 then t.setSkEnd e { t.skEnd e with rDue := some kind } else t
      | none => t

/-- Everything that track `n` clocks takes its inputs. -/
def takes (s : State) (d sec n : Nat) (t : State) : State :=
  s.attachTakes d sec n <| s.channelTakes d sec n (s.dspTakes d sec n (s.queueTakes d sec n (s.bkbTakes d sec n (s.dpbTakes d sec n t))))

/-! ## What an edge has taken and no command has performed -/

/-- The parts of a port of a dual-port block. -/
def dpbFlush (s : State) (d sec i b : Nat) : State :=
  ((s.mergeStore d sec i b false).dpbTake d sec i b true false 0).dpbTake d sec i b false false 0

/-- A request of a port of a banked block. -/
def bkbFlush (s : State) (d sec k b : Nat) : State :=
  (((s.bkbTake d sec k b 0 (fun t x => t.bkbRead d sec k b x.addr 0)).bkbTake d sec k b 1 (fun t x =>
    t.bkbWrite d sec k b x.addr x.be x.din 0)).bkbTake d sec k b 2 (fun t x => t.bkbAdd d sec k b x.addr x.din 0)).bkbTake d sec k b 3
    (fun t x => t.bkbSwap d sec k b x.addr x.din 0)

/-- A queue's write, read and counts, each of which has seen the edges it must see. -/
def queueFlush (s : State) (d sec b : Nat) : State :=
  let t := (s.queueWrite d sec b 0).queueRead d sec b 0
  if t.qMode d sec b = 1 then
    let t := forEach ((t.queue d sec b).wPend) (fun _ u => u.levelSync d sec b true) t
    forEach ((t.queue d sec b).rPend) (fun _ u => u.levelSync d sec b false) t
  else t

/-- A slice's operation and coefficient controls. -/
def dspFlush (s : State) (d sec j : Nat) : State :=
  match s.dspDue d sec j with
  | none => s
  | some x =>
    let t := (((s.dspOp d sec j x.aop).dspCwe d sec j).dspCrst d sec j).dspCnext d sec j
    t.setDspSlice d sec j { t.dspSlice d sec j with due := none }

/-- The write and the read that a slice's span channel ports have taken on a track. -/
def channelFlush (s : State) (d sec n : Nat) : State :=
  if 8 ≤ sec then s
  else
    forEach [0, 1] (fun h u =>
      let u := if (s.channelTracks d sec h).1 = n then u.channelWrite d (2 * sec + h) else u
      if (s.channelTracks d sec h).2 = n then u.channelRead d (2 * sec + h) else u) s

/-- Before the next edge of a track, whatever its last edge has taken is performed. -/
def flush (s : State) (d sec n : Nat) : State :=
  let t := forEach ((List.range 20).filter (fun j => s.dpbTrack d sec (j / 2) (j % 2) = n)) (fun j u => u.dpbFlush d sec (j / 2) (j % 2)) s
  let t := forEach ((List.range 40).filter (fun j => s.bkbTrack d sec (j / 8) = n)) (fun j u => u.bankStores (Pg.mi d sec) (10 + j)) t
  let t := forEach ((List.range 10).filter (fun j => s.bkbTrack d sec (j / 2) = n)) (fun j u => u.bkbFlush d sec (j / 2) (j % 2)) t
  let t := forEach ((List.range 15).filter (fun b => s.isQueue d sec b && (s.qWriteTrack d sec b = n || s.qReadTrack d sec b = n))) (fun b u =>
    u.queueFlush d sec b) t
  let t := forEach ((List.range 32).filter (fun j => s.dspRec d sec j 23 20 = n)) (fun j u => u.dspFlush d sec j) t
  let t := t.channelFlush d sec n
  match s.attachOn d sec n with
  | some e => (t.attachTransmit e).attachDeliver e
  | none => t

end State
end Sys2Proof.Machine
end

