-- ==== Sys2Proof/Machine/Engine.lean ====
section
/-! DEFINITION. Spindle engines, all but the execution of instructions (spec/09_spindle_engines.md): memories, run states and
halts, reset, lockstep pairs, substitution, the interrupt controller, timers, watchdog and virtual terminal. An engine is
named by its logical number 0 to 63. -/

namespace Sys2Proof.Machine

open Reg

def isEngine (e : Nat) : Bool := e < 64

/-- Skein endpoint of logical engine `e` (R253, R294). -/
def engEndpoint (e : Nat) : Nat :=
  let i := e % 16
  (e / 16 + 1) + 8 * (2 * (i % 4) + 1) + 64 * (2 * (i / 4) + 1) + 512

/-- The engine memory and 64-bit word of a local address: IMEM 0, SPAD 1 (R255, R261). -/
def engMem (addr : Nat) : Option (Nat × Nat) :=
  if addr < 0x10000 then some (0, addr / 8)
  else if 0x10000000 ≤ addr ∧ addr < 0x10040000 then some (1, (addr - 0x10000000) / 8)
  else none

/-- The attach input number of FIRQ0 (R429). -/
def firqInput : Nat := 11520

namespace State

def engine (s : State) (e : Nat) : Engine := SMap.read {} s.eng.engines e
def setEngine (s : State) (e : Nat) (x : Engine) : State :=
  { s with eng := { s.eng with engines := SMap.write {} s.eng.engines e x } }
def core (s : State) (e : Nat) : EngCore := (s.engine e).core
def setCore (s : State) (e : Nat) (c : EngCore) : State := s.setEngine e { s.engine e with core := c }

/-- `ENG_STATUS.STATE` (R282): 0 RESET, 1 HALTED, 2 RUNNING, 3 HALTING, 4 COPYING, 5 CHECKER, 6 LOST. -/
def engState (s : State) (e : Nat) : Nat := s.get (Pg.eng e 0) Eng0.STATUS_STATE
def setEngState (s : State) (e v : Nat) : State := s.set (Pg.eng e 0) Eng0.STATUS_STATE v

/-- Whether the engine is HALTED or COPYING, when frozen units stop (R276). -/
def engStopped (s : State) (e : Nat) : Bool := s.engState e = 1 || s.engState e = 4
def frozen (s : State) (e bitNo : Nat) : Bool := s.engStopped e && bit (s.get (Pg.eng e 0) Eng0.ENG_FREEZE_FREEZE) bitNo

/-- `STATUS.PHYS`: the register holds 16 once the spare serves; otherwise physical engine i serves local index i (R252). -/
def engPhys (s : State) (e : Nat) : Nat := if s.get (Pg.eng e 0) Eng0.STATUS_PHYS = 16 then 16 else e % 16

/-- `STATUS` of page 0 as one word: the detail of an engine's events (R530). -/
def engStatus (s : State) (e : Nat) : Nat :=
  s.engPhys e * 256 + s.get (Pg.eng e 0) Eng0.STATUS_PAIRED * 16 + s.engState e

def engEvent (s : State) (e code sev : Nat) : State := s.event code sev (Pg.eng e 0) (s.engStatus e)

/-! ## Pairs and lost engines (R282, R284, R285, R288) -/

/-- Whether an engine is the odd member of a lockstep pair. -/
def isChecker (s : State) (e : Nat) : Bool := e % 2 = 1 && s.flag (Pg.eng e 0) Eng0.STATUS_PAIRED

/-- The checker of engine 2j while they are a pair. -/
def checkerOf (s : State) (e : Nat) : Option Nat := if e % 2 = 0 ∧ s.flag (Pg.eng e 0) Eng0.STATUS_PAIRED = true then some (e + 1) else none

/-- Do what happens to an engine's memory to its checker's too: every input reaches both (R285). -/
def both (s : State) (e : Nat) (f : Nat → State → State) : State :=
  match s.checkerOf e with
  | some c => f c (f e s)
  | none => f e s

/-- Whether an engine's timers, watchdog and DMA run of their own: not those of a checker, which step with 2j's, nor of a LOST engine. -/
def hasUnits (s : State) (e : Nat) : Bool := !(s.isChecker e) && s.engState e ≠ 6

/-! ## Registers -/

def xreg (c : EngCore) (r : Nat) : Word := if r = 0 then 0 else SMap.read 0 c.regs r
def setXreg (c : EngCore) (r : Nat) (v : Word) : EngCore :=
  if r = 0 then c else { c with regs := SMap.write 0 c.regs r v }

/-- A read of an integer register whose stored copy has an inverted bit is corrected, a detected error; the rewrite of its one retry makes
it clean: transient (R264). -/
def rfRead (s : State) (e r : Nat) : State :=
  let x := s.engine e
  if r ≠ 0 ∧ x.rfFlipped.any (fun y => y.1 = r) = true then
    ((s.setEngine e { x with rfFlipped := x.rfFlipped.filter (fun y => y.1 ≠ r) }).setInt (Pg.eng e 0) Eng0.INT_RF_CORRECTED).count
      (Pg.eng e 0) Eng0.ENG_RF_ERR_TRANSIENT
  else s

/-! ## Memories (R258, R261 to R263) -/

/-- The bank and word of 64-bit word `i` of a memory. -/
def engAt (e b i : Nat) : Nat × Nat := locate (Pg.eng e 3) b i 0

/-- Read a 64-bit word: a detecting read, which a checker makes of its own word at the same time (R285). -/
def engRead (s : State) (e b i : Nat) : WordRead × State :=
  ((s.readAt (Pg.eng e 3) (engAt e b i).1 (engAt e b i).2).1,
   s.both e (fun x t => (t.readAt (Pg.eng x 3) (engAt x b i).1 (engAt x b i).2).2))

/-- Keep what fetch still sees of an IMEM word that is about to be written (R263). -/
def keepFetch (s : State) (e b i : Nat) : State :=
  let k := wordKey (Pg.eng e 3) (engAt e b i).1 (engAt e b i).2
  if b = 0 ∧ (SMap.read none s.eng.fetchOld k).isNone then
    { s with eng := { s.eng with
      fetchOld := SMap.write none s.eng.fetchOld k (some (s.raw (Pg.eng e 3) (engAt e b i).1 false (engAt e b i).2)) } }
  else s

/-- Fetch of one engine sees every IMEM word as it is. -/
def fetchNew (s : State) (e : Nat) : State :=
  { s with eng := { s.eng with fetchOld := SMap.keep (fun k => k / 1024 / 64 ≠ Pg.eng e 3) s.eng.fetchOld } }

/-- FENCE.I: fetch sees every IMEM word as it is (R263). -/
def fenceI (s : State) (e : Nat) : State := s.both e (fun x t => t.fetchNew x)

/-- What fetch sees of a 64-bit word of the IMEM. -/
def fetchWord (s : State) (e i : Nat) : WordRead :=
  let k := wordKey (Pg.eng e 3) (engAt e 0 i).1 (engAt e 0 i).2
  match SMap.read none s.eng.fetchOld k with
  | some x => readWord x
  | none => s.look (Pg.eng e 3) (engAt e 0 i).1 (engAt e 0 i).2

/-- Store a 64-bit word of one engine's memory. -/
def storeWord (s : State) (e b i : Nat) (v : DWord) : State :=
  (s.keepFetch e b i).portStore (Pg.eng e 3) (engAt e b i).1 (engAt e b i).2 v

/-- Bytes of a word replaced where enabled. -/
def mergeBytesAt (be old new : Nat) : Nat :=
  ((List.range 8).map (fun j => lane j (if bit be j then new else old) * 2 ^ (8 * j))).sum

/-- A merge write of one engine's memory: nothing is stored where the old word is not readable (R173, R184, R262). -/
def mergeWord (s : State) (e b i be : Nat) (v : DWord) : State :=
  let r := s.readAt (Pg.eng e 3) (engAt e b i).1 (engAt e b i).2
  if r.1.cls = .uncorrectable ∨ r.1.cls = .poison then r.2
  else r.2.storeWord e b i (BitVec.ofNat 64 (mergeBytesAt be r.1.data v.toNat))

/-- Store some bytes of a 64-bit word, a merge write unless it is all eight. A write taken by port B ends a reservation of the word, also
where the merge stores nothing (R259). -/
def engMerge (s : State) (e b i be : Nat) (v : DWord) (portB : Bool) : State :=
  let t := s.both e (fun x u => if be = 0xFF then u.storeWord x b i v else u.mergeWord x b i be v)
  if portB ∧ b = 1 ∧ (t.core e).resv = some i then t.setCore e { t.core e with resv := none } else t

/-- Read bytes of an engine's memories from a local address through port B; none when a word is not readable (R262). -/
def portBRead (s : State) (e addr n : Nat) : Option (List Byte) × State :=
  let first := addr / 8
  let words := (List.range (n / 8 + 2)).filter (fun j => 8 * (first + j) < addr + n)
  let t := words.foldl (fun u j => match engMem (8 * (first + j)) with
    | some (b, i) => (u.engRead e b i).2
    | none => u) s
  let look := fun a => match engMem a with
    | some (b, i) => some (s.look (Pg.eng e 3) (engAt e b i).1 (engAt e b i).2)
    | none => none
  let ok := words.all (fun j => match look (8 * (first + j)) with
    | some r => r.cls = .clean || r.cls = .corrected
    | none => false)
  let bytes := (List.range n).map (fun k => match look (addr + k) with
    | some r => BitVec.ofNat 8 (lane ((addr + k) % 8) r.data)
    | none => 0)
  (if ok then some bytes else none, t)

/-- Whether a port B write of these bytes is a merge write that finds its word unreadable: it stores nothing and presents a result as for a
read (R184, R185). -/
def portBMergeBad (s : State) (e addr : Nat) (bs : List (Option Byte)) : Bool :=
  let first := addr / 8
  let n := bs.length
  let byteAt := fun (a : Nat) => if addr ≤ a then (bs[a - addr]?).join else none
  (List.range (n / 8 + 2)).any (fun j =>
    let base := 8 * (first + j)
    let k := ((List.range 8).filter (fun k => (byteAt (base + k)).isSome)).length
    match engMem base with
    | some (b, i) =>
      let r := s.look (Pg.eng e 3) (engAt e b i).1 (engAt e b i).2
      base < addr + n && k ≠ 0 && k ≠ 8 && (r.cls = .uncorrectable || r.cls = .poison)
    | none => false)

/-- Write enabled bytes to an engine's memories through port B. -/
def portBWrite (s : State) (e addr : Nat) (bs : List (Option Byte)) : State :=
  let first := addr / 8
  let n := bs.length
  let byteAt := fun (a : Nat) => if addr ≤ a then (bs[a - addr]?).join else none
  forEach ((List.range (n / 8 + 2)).filter (fun j => 8 * (first + j) < addr + n)) (fun j t =>
    let base := 8 * (first + j)
    let be := (List.range 8).foldl (fun m k => if (byteAt (base + k)).isSome then m + 2 ^ k else m) 0
    let v := (List.range 8).foldl (fun m k => m + ((byteAt (base + k)).getD 0).toNat * 2 ^ (8 * k)) 0
    match engMem base with
    | some (b, i) => if be = 0 then t else t.engMerge e b i be (BitVec.ofNat 64 v) true
    | none => t) s

/-! ## The interrupt controller (R271, R272) -/

/-- Whether a cause holds: the sources of R271. -/
def source (s : State) (e n : Nat) : Bool :=
  let x := s.engine e
  let p1 := Pg.eng e 1
  if n < 2 then s.flag p1 Eng1.TMR_STAT_HIT n
  else if n = 2 then x.wdtWarned
  else if n = 3 then x.dmaIrq
  else if n = 4 then s.flag (Pg.eng e 2) Eng2.DMA_STATUS_STOPPED
  else if n = 5 then x.vtIn ≠ []
  else if n = 6 then x.vtOut.length < 8
  else if n = 7 then s.get (Pg.eng e 3) Hdr.INT_STATUS_BLOCK ≠ 0
  else if n = 8 then bit (s.get (Pg.eng e 0) Hdr.INT_STATUS_BLOCK) (Eng0.INT_RF_CORRECTED - 16)
  else if n = 9 then x.storeErr
  else if n < 16 then false
  else if n < 24 then bit (s.get p1 Eng1.ICTL_DOORBELL_BELL) (n - 16)
  else s.attachIn (e / 16 + 1) (6 * (e % 16)) (firqInput + (n - 24))

/-- `ICTL_PENDING`. -/
def pendingSources (s : State) (e : Nat) : Nat := (List.range 32).foldl (fun m n => if s.source e n then m + 2 ^ n else m) 0

/-- Whether a level lies above the current level. -/
def above (cur : Option Nat) (l : Nat) : Bool := match cur with | none => true | some c => c < l

/-- The source that `ICLAIM` selects: the highest level above the current one, the lowest number within it (R272). -/
def bestSource (s : State) (e : Nat) : Option (Nat × Nat) :=
  let p1 := Pg.eng e 1
  let cands := (List.range 32).filter (fun n => s.flag p1 Eng1.ICTL_SRC_EN n && above (s.core e).level (s.get p1 Eng1.ICTL_SRC_LEVEL n) &&
    s.source e n)
  [3, 2, 1, 0].findSome? (fun l => (cands.find? (fun n => s.get p1 Eng1.ICTL_SRC_LEVEL n = l)).map (fun n => (l, n)))

/-- `mip.MEIP` (R272). -/
def meip (s : State) (e : Nat) : Bool := (s.bestSource e).isSome

/-! ## Traps, halts and runs -/

/-- A trap: the RISC-V privileged specification's machine-mode entry; a reservation ends (R257, R259). -/
def trap (s : State) (e cause tval : Nat) : State :=
  let c := s.core e
  s.setCore e { c with
    mepc := c.pc, mcause := BitVec.ofNat 32 cause, mtval := BitVec.ofNat 32 tval, mpie := c.mie, mie := false,
    pc := c.mtvec, resv := none }

/-- A halt is requested: a RUNNING engine goes to HALTING (R283). -/
def haltRequest (s : State) (e cause : Nat) : State :=
  if s.engState e = 2 then (s.setEngine e { s.engine e with haltCause := cause }).setEngState e 3 else s

/-- A running timer's `COUNT` is brought up to the moment, short of the next time it equals `COMPARE`: how far is free (R274). A periodic timer
that has just hit still shows `COMPARE`, or has gone on to 0 and further. -/
def timerSettle (s : State) (e t : Nat) : State :=
  let p1 := Pg.eng e 1
  let c := s.get p1 Eng1.TMR_COUNT_COUNT t
  let limit := s.get p1 Eng1.TMR_COMPARE_COMPARE t
  if s.flag p1 Eng1.TMR_CTL_EN t = true ∧ s.frozen e t = false ∧ s.hasUnits e = true then
    let k := s.freeVal
    let next := if c = limit then (if k % (limit + 1) = 0 then c else k % (limit + 1) - 1)
      else (c + k % ((limit + 2 ^ 32 - c) % 2 ^ 32)) % 2 ^ 32
    (s.set p1 Eng1.TMR_COUNT_COUNT next t).took
  else s

/-- Likewise the watchdog's counter, short of its expiry. -/
def wdtSettle (s : State) (e : Nat) : State :=
  let p1 := Pg.eng e 1
  let c := s.get p1 Eng1.WDT_COUNT_COUNT
  if s.flag p1 Eng1.WDT_CTL_EN = true ∧ s.frozen e 2 = false ∧ s.hasUnits e = true ∧ 0 < c then
    (s.set p1 Eng1.WDT_COUNT_COUNT (c - s.freeVal % c)).took
  else s

/-- What counts of its own in an engine is brought up to the moment: before it stops, and before a write of its registers. -/
def engSettle (s : State) (e : Nat) : State := ((s.timerSettle e 0).timerSettle e 1).wdtSettle e

/-- An engine stands HALTED at its program counter, with a cause. -/
def halted (s : State) (e pc cause : Nat) : State :=
  let p0 := Pg.eng e 0
  (((s.setEngState e 1).set p0 Eng0.ENG_PC_PC pc).set p0 Eng0.ENG_CAUSE_CAUSE cause).setInt p0 Eng0.INT_HALTED

/-- What was in progress has finished: HALTED, with `ENG_PC` and `ENG_CAUSE`; a reservation ends (R283). A halt with cause LOCKSTEP halts the
checker too (R286). -/
def haltDone (s : State) (e : Nat) : State :=
  let x := s.engine e
  if s.engState e = 3 ∧ x.load = none then
    let t := (s.setEngine e { x with core := { x.core with resv := none }, haltCause := 0, stepping := false }).engSettle e
    let t := t.halted e x.core.pc.toNat x.haltCause
    match s.checkerOf e with
    | some c => if x.haltCause = 5 ∧ s.engState c = 5 then t.halted c x.core.pc.toNat 5 else t
    | none => t
  else s

/-- Fields that an engine reset sets to their reset values: interrupt controller, timers, watchdog, DMA, virtual terminal
(R289). -/
def engResetFields : List (Nat × RegField) :=
  ([Eng1.ICTL_SRC_EN, Eng1.ICTL_SRC_LEVEL, Eng1.ICTL_DOORBELL_BELL, Eng1.TMR_CTL_PRESCALE, Eng1.TMR_CTL_SRC,
    Eng1.TMR_CTL_PERIODIC, Eng1.TMR_CTL_EN, Eng1.TMR_COUNT_COUNT, Eng1.TMR_COMPARE_COMPARE, Eng1.TMR_STAT_HIT,
    Eng1.WDT_CTL_WARN_EN, Eng1.WDT_CTL_ACTION, Eng1.WDT_CTL_EN, Eng1.WDT_LOAD_LOAD, Eng1.WDT_COUNT_COUNT,
    Eng1.WDT_STAT_EXPIRIES, Eng1.WDT_STAT_PENDING].map (fun f => (1, f))) ++
  ([Eng2.DMA_CTL_EN, Eng2.DMA_STATUS_ACTIVE, Eng2.DMA_STATUS_STOPPED, Eng2.DMA_RING_BASE_BASE, Eng2.DMA_RING_LOG2_LOG2,
    Eng2.DMA_HEAD_HEAD, Eng2.DMA_TAIL_TAIL, Eng2.DMA_DONE_DONE].map (fun f => (2, f))) ++
  ([Eng3.VT_CTL_BLOCK, Eng3.VT_DROPS_COUNT].map (fun f => (3, f)))

/-- Set every element of a field to its reset value. -/
def resetField (s : State) (page : Nat) (f : RegField) : State :=
  forEach (List.range f.count) (fun i t => t.set page f (f.reset page i) i) s

/-- The core, its CSRs and accumulators as after a reset, at `ENG_BOOT_PC` (R289). Integer registers read 0 (log entry 5). -/
def bootCore (s : State) (e : Nat) : EngCore := { pc := BitVec.ofNat 32 (2 * s.get (Pg.eng e 0) Eng0.ENG_BOOT_PC_PC) }

/-- RUNNING at `ENG_BOOT_PC` with `AUTORUN`, else HALTED there (R289). -/
def engProceed (s : State) (e : Nat) : State :=
  let p0 := Pg.eng e 0
  if s.flag p0 Eng0.CTL_AUTORUN then s.setEngState e 2
  else ((s.setEngState e 1).set p0 Eng0.ENG_PC_PC (2 * s.get p0 Eng0.ENG_BOOT_PC_PC)).set p0 Eng0.ENG_CAUSE_CAUSE 0

/-- Everything that an engine reset resets, the state left as it is (R289). -/
def engClear (s : State) (e : Nat) : State :=
  let t := forEach engResetFields (fun pf u => u.resetField (Pg.eng e pf.1) pf.2) s
  (t.setEngine e { core := s.bootCore e }).fenceI e

/-- `ENG_CTL.RESET` (R289, R291): a substitution in progress is abandoned. -/
def engReset (s : State) (e : Nat) : State :=
  if s.engState e = 0 then s.engClear e else (s.engClear e).engProceed e

/-- Start-up releases the engine (R289). -/
def engRelease (s : State) (e : Nat) : State :=
  if s.engState e = 0 then (s.setCore e (s.bootCore e)).engProceed e else s

/-- The core alone is reset and starts at `ENG_BOOT_PC`: the watchdog's `ACTION` 0 (R275). An engine whose die is not released stays in
RESET (R289). -/
def coreReset (s : State) (e : Nat) : State :=
  let t := s.setEngine e { s.engine e with core := s.bootCore e, load := none, haltCause := 0, stepping := false }
  if s.engState e = 0 then t else t.setEngState e 2

/-- The watchdog's counter reloads. -/
def wdtReload (s : State) (e : Nat) : State := s.set (Pg.eng e 1) Eng1.WDT_COUNT_COUNT (s.get (Pg.eng e 1) Eng1.WDT_LOAD_LOAD)

/-- The watchdog's `ACTION` (R275). -/
def wdtAction (s : State) (e : Nat) : State :=
  let p1 := Pg.eng e 1
  let t := (s.wdtReload e).setInt (Pg.eng e 0) Eng0.INT_WDT_ACTION
  if s.flag p1 Eng1.WDT_CTL_ACTION then t.haltRequest e 4 else t.coreReset e

/-- An expiry: a warning, an action, or during a halt an action that waits for the resume (R275, R276). -/
def wdtExpiry (s : State) (e : Nat) : State :=
  let p1 := Pg.eng e 1
  let t := s.count p1 Eng1.WDT_STAT_EXPIRIES
  if s.flag p1 Eng1.WDT_CTL_WARN_EN = true ∧ (s.engine e).wdtWarned = false then
    (t.setEngine e { t.engine e with wdtWarned := true }).wdtReload e
  else if s.engStopped e then (t.set p1 Eng1.WDT_STAT_PENDING 1).engEvent e 0x3002 1
  else (t.wdtAction e).engEvent e 0x3002 1

/-- The counter of an enabled watchdog that is not frozen expires. -/
def wdtExpires (s : State) (e : Nat) : State :=
  if s.flag (Pg.eng e 1) Eng1.WDT_CTL_EN = false ∨ s.frozen e 2 = true ∨ s.hasUnits e = false then s else s.wdtExpiry e

/-- A write of `WDT_KICK`: the right value reloads and ends a warning, any other is treated as an expiry, whatever the watchdog does (R275). -/
def wdtKick (s : State) (e value : Nat) : State :=
  if value = 0x574B0001 then (s.setEngine e { s.engine e with wdtWarned := false }).wdtReload e else s.wdtExpiry e

/-- The engine runs again: a frozen watchdog reloads, a pending expiry acts (R276). -/
def resumes (s : State) (e : Nat) : State :=
  let p0 := Pg.eng e 0
  let p1 := Pg.eng e 1
  let t := (s.setEngState e 2).set p0 Eng0.ENG_CAUSE_CAUSE 0
  let t := if bit (s.get p0 Eng0.ENG_FREEZE_FREEZE) 2 then t.wdtReload e else t
  if s.flag p1 Eng1.WDT_STAT_PENDING then (t.set p1 Eng1.WDT_STAT_PENDING 0).wdtAction e else t

/-- Engine 2j runs again, and with it its checker, where R286 halted that too. -/
def pairResumes (s : State) (e : Nat) : State :=
  let t := s.resumes e
  match s.checkerOf e with
  | some c => if s.engState c = 1 then (t.setEngState c 5).set (Pg.eng c 0) Eng0.ENG_CAUSE_CAUSE 0 else t
  | none => t

/-- A write of 1 to `ENG_CTL.RUN`: execution resumes at `ENG_PC` (R283). -/
def engRun (s : State) (e : Nat) : State := if s.engState e = 1 ∧ (s.engine e).subst = none then s.pairResumes e else s

/-- A timer's `COUNT` reaches `COMPARE` (R274): a periodic one is 0 at its next step, the other stops. A frozen timer does not step. -/
def timerHit (s : State) (e t : Nat) : State :=
  let p1 := Pg.eng e 1
  if s.flag p1 Eng1.TMR_CTL_EN t = true ∧ s.frozen e t = false ∧ s.hasUnits e = true then
    let u := (s.set p1 Eng1.TMR_STAT_HIT 1 t).set p1 Eng1.TMR_COUNT_COUNT (s.get p1 Eng1.TMR_COMPARE_COMPARE t) t
    if s.flag p1 Eng1.TMR_CTL_PERIODIC t then u else u.set p1 Eng1.TMR_CTL_EN 0 t
  else s

/-! ## The virtual terminal (R281) -/

/-- A byte is written to the output FIFO, or dropped and counted while it is full. -/
def vtPut (s : State) (e : Nat) (b : Byte) : State :=
  let x := s.engine e
  if x.vtOut.length < 16 then s.setEngine e { x with vtOut := x.vtOut ++ [b] } else s.count (Pg.eng e 3) Eng3.VT_DROPS_COUNT

/-- The input FIFO's oldest byte, popped unless the read carries PEEK; bit 8 marks a byte present. -/
def vtGet (s : State) (e : Nat) (peek : Bool) : Nat × State :=
  let x := s.engine e
  match x.vtIn with
  | [] => (0, s)
  | b :: r => (256 + b.toNat, if peek then s else s.setEngine e { x with vtIn := r })

/-- The reader consumes 1 to 4 bytes, a larger `n` every byte present. -/
def vtAck (s : State) (e n : Nat) : State :=
  s.setEngine e { s.engine e with vtOut := if n ≤ 4 then (s.engine e).vtOut.drop n else [] }

/-- A writer queues one input byte, or has it dropped. -/
def vtInput (s : State) (e : Nat) (b : Byte) : State :=
  let x := s.engine e
  if x.vtIn.length < 16 then s.setEngine e { x with vtIn := x.vtIn ++ [b] } else s.count (Pg.eng e 3) Eng3.VT_DROPS_COUNT

/-! ## Copies between engines (R284, R287) -/

/-- Whether a bank-based key, `n` keys to a bank, belongs to an engine's page 3. -/
def engKey (e n k : Nat) : Bool := k / n / 64 = Pg.eng e 3

/-- Every word of an engine's memories that is not zero, as accesses meet it: bank, word and stored bits. -/
def engImage (s : State) (e : Nat) : List (Nat × Nat × BitVec 72) :=
  let page := Pg.eng e 3
  let cells := (s.mem.cells.filter (fun c => engKey e 1024 c.1)).map (fun c => (c.1 / 1024 % 64, c.1 % 1024))
  let remapped := (List.range 160).filterMap (fun k =>
    if s.flag page Eng3.MI_REMAP_VALID k && !(s.flag page Eng3.MI_REMAP_PARITY k) then some (k / 4, s.get page Eng3.MI_REMAP_WORD k)
    else none)
  ((cells.filter (fun c => !(remapped.elem c))) ++ remapped).map (fun c => (c.1, c.2, s.raw page c.1 false c.2))

/-- Parity words and stale bits of an engine's memories, with remapped parity words from their entries. -/
def engParity (s : State) (e : Nat) : List (Nat × Nat × BitVec 72) :=
  let page := Pg.eng e 3
  let ps := (s.mem.parity.filter (fun c => engKey e 32 c.1)).map (fun c => (c.1 / 32 % 64, c.1 % 32))
  let remapped := (List.range 160).filterMap (fun k =>
    if s.flag page Eng3.MI_REMAP_VALID k && s.flag page Eng3.MI_REMAP_PARITY k then some (k / 4, s.get page Eng3.MI_REMAP_WORD k)
    else none)
  ((ps.filter (fun c => !(remapped.elem c))) ++ remapped).map (fun c => (c.1, c.2, s.raw page c.1 true c.2))

/-- An engine's memories become an image, stored where its own remap table says; `fresh` is a physical engine whose table holds
no entry. -/
def engRestore (s : State) (e : Nat) (words par : List (Nat × Nat × BitVec 72)) (stale : List Nat) (fresh : Bool) : State :=
  let page := Pg.eng e 3
  let t := if fresh then
      forEach (List.range 160) (fun k u => ((u.set page Eng3.MI_REMAP_VALID 0 k).set page Eng3.MI_REMAP_RETIRED 0 k)) s
    else s
  let t := { t with mem := { t.mem with
    cells := SMap.keep (fun k => !(engKey e 1024 k)) t.mem.cells, parity := SMap.keep (fun k => !(engKey e 32 k)) t.mem.parity,
    spares := SMap.keep (fun k => !(engKey e 4 k)) t.mem.spares, stale := SMap.keep (fun k => !(engKey e 16 k)) t.mem.stale } }
  let t := forEach words (fun c u => u.putRaw page c.1 false c.2.1 c.2.2) t
  let t := forEach par (fun c u => u.putRaw page c.1 true c.2.1 c.2.2) t
  { t with mem := { t.mem with stale := stale.foldl (fun m k => SMap.write false m (page * 1024 + k) true) t.mem.stale } }

/-- Stale bits of an engine's memories, as bank and page within the engine. -/
def engStale (s : State) (e : Nat) : List Nat :=
  ((s.mem.stale.filter (fun c => engKey e 16 c.1)).map (fun c => c.1 % 1024))

/-- What fetch of engine `b` still sees becomes what that of engine `a` does. -/
def fetchCopy (s : State) (a b : Nat) : State :=
  { s with eng := { s.eng with
    fetchOld := forEach (s.eng.fetchOld.filter (fun c => c.1 / 65536 = Pg.eng a 3)) (fun c m =>
      SMap.write none m (Pg.eng b 3 * 65536 + c.1 % 65536) c.2) (s.fetchNew b).eng.fetchOld } }

/-- Copy memories and architectural state of engine `a` onto engine `b` (R284). -/
def engCopy (s : State) (a b : Nat) : State :=
  ((s.engRestore b (s.engImage a) (s.engParity a) (s.engStale a) false).setCore b (s.core a)).fetchCopy a b

/-! ## Lockstep pairs (R284 to R286) -/

/-- The pair partner of an engine. -/
def partner (e : Nat) : Nat := if e % 2 = 0 then e + 1 else e - 1

/-- The registers that a checker's pages hold as 2j's do, since every input reaches both at the same instruction (R285): by page. -/
def pairFields : List (Nat × RegField) :=
  engResetFields ++
  ([Eng0.CTL_EBREAK_HALT, Eng0.CTL_IMEM_WR, Eng0.CTL_AUTORUN, Eng0.ENG_BOOT_PC_PC, Eng0.ENG_FREEZE_FREEZE, Eng0.ENG_CLK_DIV,
    Eng0.ENG_WIN_ERR_VALID, Eng0.ENG_WIN_ERR_RESP, Eng0.ENG_WIN_ERR_WIN, Eng0.ENG_WIN_ERR_STORE, Eng0.ENG_WIN_CTL_EN,
    Eng0.ENG_WIN_CTL_PRIO, Eng0.ENG_WIN_CTL_DEST, Eng0.ENG_WIN_BASE_BASE].map (fun f => (0, f)))

/-- The engine whose state a page of engine `e` shows. -/
def shownEngine (s : State) (e : Nat) : Nat := if s.isChecker e then e - 1 else e

/-- Whether `ENG_CTL.LOCKSTEP` of engine 2j may take a value now (R284). -/
def lockstepAllowed (s : State) (e v : Nat) : Bool :=
  v = s.get (Pg.eng e 0) Eng0.CTL_LOCKSTEP || (s.engState e = 1 && (v = 0 || s.engState (e + 1) = 1))

/-- The pair of engine 2j is one no more. -/
def unpaired (s : State) (e : Nat) : State := (s.set (Pg.eng e 0) Eng0.STATUS_PAIRED 0).set (Pg.eng (e + 1) 0) Eng0.STATUS_PAIRED 0

/-- `LOCKSTEP` has been written 0: the pair ends, the checker HALTED with the state it holds, which is 2j's; the requests of 2j on the network
are 2j's alone (R284). -/
def lockstepEnd (s : State) (e : Nat) : State :=
  match s.checkerOf e with
  | some c =>
    let t := forEach pairFields (fun pf u =>
      forEach (List.range pf.2.count) (fun i v => v.set (Pg.eng c pf.1) pf.2 (v.get (Pg.eng e pf.1) pf.2 i) i) u) s
    let t := t.setEngine c { s.engine e with stores := [], posted := [], dma := [], subst := (s.engine c).subst }
    let t := t.set (Pg.eng c 2) Eng2.DMA_STATUS_ACTIVE 0
    ((t.setEngState c 1).set (Pg.eng c 0) Eng0.ENG_PC_PC (s.core e).pc.toNat).unpaired e
  | none => s

/-- The copy onto the checker completes (R284). -/
def lockstepCopied (s : State) (e : Nat) : State :=
  if e % 2 = 0 ∧ s.flag (Pg.eng e 0) Eng0.CTL_LOCKSTEP = true ∧ s.engState e = 1 ∧ s.engState (e + 1) = 1 ∧
      s.flag (Pg.eng e 0) Eng0.STATUS_PAIRED = false then
    (((s.engCopy e (e + 1)).setEngState (e + 1) 5).set (Pg.eng e 0) Eng0.STATUS_PAIRED 1).set (Pg.eng (e + 1) 0) Eng0.STATUS_PAIRED 1
  else s

/-! ## Spare substitution (R287, R288) -/

/-- The engines of an engine's die. -/
def dieEngines (e : Nat) : List Nat := (List.range 16).map (fun i => e / 16 * 16 + i)

/-- Whether PE16 of an engine's die serves a logical engine. -/
def spareServes (s : State) (e : Nat) : Bool := (dieEngines e).any (fun f => s.get (Pg.eng f 0) Eng0.STATUS_PHYS = 16)

/-- A lasting error with no spare: the engine is LOST, and runs in no pair (R288). -/
def engLost (s : State) (e : Nat) : State :=
  let t := if s.flag (Pg.eng e 0) Eng0.STATUS_PAIRED then
      (if s.engState (partner e) = 5 then s.halted (partner e) (s.core (e - e % 2)).pc.toNat 5 else s).unpaired (e - e % 2) else s
  let t := ((t.setEngState e 6).setInt (Pg.eng e 0) Eng0.INT_LOST).fatal Safety.SAF_FATAL_SPINDLE 0x3005 (Pg.eng e 0)
  t.engEvent e 0x3005 4

/-- A request that finds PE16 serving is dropped; from a lasting error it leaves the engine LOST (R288). -/
def noSpare (s : State) (e : Nat) (o : Origin) (lasting : Bool) : State :=
  let t := s.capture (Pg.eng e 0) 0x9 o 0x010
  if lasting then t.engLost e else t

/-- A substitution is requested: the engine halts first; with the spare serving the request is dropped (R287, R288). A request while one
waits already changes nothing, and a halt that is on its way leaves the engine HALTED (log entry 103). -/
def substitute (s : State) (e : Nat) (o : Origin) (lasting : Bool) (pair : Bool := false) : State :=
  if s.engState e = 6 then s
  else if s.spareServes e then s.noSpare e o lasting
  else if (s.engine e).subst.isSome then s
  else
    let st := s.engState e
    let back := if pair then (if e % 2 = 0 then 2 else 5) else if st = 3 then 1 else st
    let source := if pair ∨ s.isChecker e = true then partner e else e
    (s.setEngine e { s.engine e with
      subst := some { back := back, lasting := lasting, origin := o, source := source, pair := pair } }).haltRequest e 7

/-- The engine returns to the state it held before its substitution, and its pair with it where R286 says so. -/
def substReturns (s : State) (e : Nat) (x : Subst) : State :=
  let t := s.setEngine e { s.engine e with subst := none }
  if x.pair then (if e % 2 = 0 then t.pairResumes e else (t.setEngState e 1).pairResumes (e - 1))
  else if x.back = 2 then t.resumes e
  else t.setEngState e x.back

/-- Whether an engine has come to rest for its substitution: for one that lets a pair resume, both members have. -/
def substRests (s : State) (e : Nat) (x : Subst) : Bool :=
  (s.engState e = 0 || s.engState e = 1 || s.engState e = 5) && (!x.pair || s.engState (e - e % 2) = 1)

/-- The responses to issued requests have arrived and the copy starts, or they have not within 10 µs and the substitution is
abandoned (R287). One that finds PE16 serving another engine by now is dropped, and one that finds it being copied to waits (log
entry 103). -/
def substStart (s : State) (e : Nat) (timedOut : Bool) : State :=
  let y := s.engine e
  match y.subst with
  | none => s
  | some x =>
    if s.substRests e x = false then s
    else if s.spareServes e then
      (if x.lasting then (s.setEngine e { y with subst := none }).noSpare e x.origin true else (s.noSpare e x.origin false).substReturns e x)
    else if timedOut then (s.substReturns e x).engEvent e 0x3004 2
    else if (dieEngines e).any (fun f => s.engState f = 4) then s
    else if y.load = none ∧ y.stores = [] ∧ y.dma.all (fun d => d.tag = none) = true then (s.engSettle e).setEngState e 4
    else s

/-- The copy completes: PE16 serves the number, with words as accesses met them in the engine copied from; the engine returns to the
state it held (R286, R287). -/
def substDone (s : State) (e : Nat) : State :=
  match (s.engine e).subst with
  | none => s
  | some x =>
    if s.engState e ≠ 4 then s
    else
      let p0 := Pg.eng e 0
      let t := s.engRestore e (s.engImage x.source) (s.engParity x.source) (s.engStale x.source) true
      let t := if x.source = e then t else t.fetchCopy x.source e
      let t := ((t.set p0 Eng0.STATUS_PHYS 16).history 7 p0 e 16).substReturns e x
      (t.setInt p0 Eng0.INT_SUBST_DONE).engEvent e 0x3004 (if x.lasting then 3 else 1)

/-! ## Register file and lockstep errors (R264, R286) -/

/-- A register file error's one retry ends: transient, lasting, or fatal (R264). `correctable` is the first read, `clean` the
re-read. -/
def rfError (s : State) (e : Nat) (correctable clean : Bool) : State :=
  let p0 := Pg.eng e 0
  if s.engState e = 0 ∨ s.engState e = 6 then s
  else if correctable then
    let t := s.setInt p0 Eng0.INT_RF_CORRECTED
    if clean then t.count p0 Eng0.ENG_RF_ERR_TRANSIENT
    else (t.count p0 Eng0.ENG_RF_ERR_LASTING).substitute e .skein true
  else if clean then s.count p0 Eng0.ENG_RF_ERR_TRANSIENT
  else
    let t := (s.haltRequest e 6).setInt p0 Eng0.INT_FATAL
    (t.fatal Safety.SAF_FATAL_SPINDLE 0x3001 p0).engEvent e 0x3001 4

/-- A RUNNING engine, or one that is halting already, halts with cause LOCKSTEP (R286, R291). -/
def lockstepHalts (s : State) (e : Nat) : State :=
  if s.engState e = 2 ∨ s.engState e = 3 then (s.setEngine e { s.engine e with haltCause := 5 }).setEngState e 3 else s

/-- A commit mismatch of a pair. The first is retried; the second at one instruction is lasting: both halt, and the one member whose codes
reported an error is substituted from its partner, or ERR_N asserts (R286). -/
def lockstepMismatch (s : State) (e : Nat) (again bad0 bad1 : Bool) : State :=
  let p0 := Pg.eng e 0
  match s.checkerOf e with
  | none => s
  | some c =>
    let t := ((s.set p0 Eng0.ENG_TEST_LS_INJECT 0).set (Pg.eng c 0) Eng0.ENG_TEST_LS_INJECT 0).setInt p0 Eng0.INT_LOCKSTEP
    if again = false then t.engEvent e 0x3003 2
    else
      let t := t.lockstepHalts e
      if bad0 && !bad1 then (t.engEvent e 0x3003 3).substitute e .skein true true
      else if bad1 && !bad0 then (t.engEvent e 0x3003 3).substitute c .skein true true
      else (t.fatal Safety.SAF_FATAL_SPINDLE 0x3003 p0).engEvent e 0x3003 4

end State
end Sys2Proof.Machine
end

