-- ==== Sys2Proof/Machine/EngCsr.lean ====
section
/-! DEFINITION. The CSRs of a Spindle engine (spec/09_spindle_engines.md R257, R268, R271, R272): what each reads, what a write
stores, and the two that act when they are read or written, `ICLAIM` and `ICOMPLETE`. -/

namespace Sys2Proof.Machine

open Reg

/-- What `DSPCFGa` stores of a written word: a reserved encoding becomes the field's reset value (R268). -/
def dspcfgOf (v : Nat) : Nat :=
  bits v 5 0 + (if bits v 7 6 = 3 then 0 else bits v 7 6) * 64 + (if bits v 12 8 = 0 then 31 else bits v 12 8) * 256 + bits v 13 13 * 8192

/-- What `AGLENn` stores of a written word. -/
def aglenOf (v : Nat) : Nat := bits v 17 2 * 4 + (if bits v 31 30 = 3 then 0 else bits v 31 30) * 2 ^ 30

/-- The reset value of a DSP or address-generator CSR (R268). -/
def csrReset (n : Nat) : Word :=
  if n ≤ 0x7C1 then 0x1F16 else if 0x7C4 ≤ n ∧ n ≤ 0x7C7 then 0x10000000 else if 0x7D0 ≤ n ∧ n ≤ 0x7D3 then 4 else 0

/-- The CSRs held as words: `DSPCFG`, `AGPTR`, `AGBASE`, `AGLEN`, `AGSTEP`. -/
def isWordCsr (n : Nat) : Bool := n = 0x7C0 || n = 0x7C1 || (0x7C4 ≤ n && n ≤ 0x7D3)

namespace EngCore

def wordCsr (c : EngCore) (n : Nat) : Word := SMap.read (csrReset n) c.csrs n
def setWordCsr (c : EngCore) (n : Nat) (v : Word) : EngCore := { c with csrs := SMap.write (csrReset n) c.csrs n v }

/-- Accumulator `a` with what its last `DMOV` left. -/
def acc (c : EngCore) (a : Nat) : Acc := if a = 0 then c.acc0 else c.acc1
def setAcc (c : EngCore) (a : Nat) (x : Acc) : EngCore := if a = 0 then { c with acc0 := x } else { c with acc1 := x }
def expc (c : EngCore) (a : Nat) : BitVec 6 := if a = 0 then c.expc0 else c.expc1
def lim (c : EngCore) (a : Nat) : Bool := if a = 0 then c.lim0 else c.lim1

/-- `DSPSTATa` (R268). -/
def dspstat (c : EngCore) (a : Nat) : Word :=
  BitVec.ofNat 32 ((c.expc a).toNat + (c.acc a).nexp.toNat * 256 + b2n (c.acc a).ov * 2 ^ 16 + b2n (c.lim a) * 2 ^ 17)

/-- A CSR write of `DSPSTATa` loads `NEXP`, and clears `OV` when bit 16 is 0. -/
def putDspstat (c : EngCore) (a v : Nat) : EngCore :=
  let x := c.acc a
  c.setAcc a { x with nexp := BitVec.ofNat 8 (bits v 15 8), ov := x.ov && bit v 16 }

end EngCore

namespace State

/-- What a CSR reads; none where the engine does not implement it (R257). `ICLAIM` reads what it would claim. -/
def csrGet (s : State) (e n : Nat) : Option Word :=
  let c := s.core e
  if n = 0x300 then some (BitVec.ofNat 32 (b2n c.mie * 8 + b2n c.mpie * 128 + 0x1800))
  else if n = 0x301 then some 0x40801105
  else if n = 0x304 then some (BitVec.ofNat 32 (b2n c.meie * 2048))
  else if n = 0x305 then some c.mtvec
  else if n = 0x340 then some c.mscratch
  else if n = 0x341 then some c.mepc
  else if n = 0x342 then some c.mcause
  else if n = 0x343 then some c.mtval
  else if n = 0x344 then some (BitVec.ofNat 32 (b2n (s.meip e) * 2048))
  else if n = 0xB00 then some (c.mcycle.setWidth 32)
  else if n = 0xB02 then some (c.minstret.setWidth 32)
  else if n = 0xB80 then some (BitVec.ofNat 32 (c.mcycle.toNat / 2 ^ 32))
  else if n = 0xB82 then some (BitVec.ofNat 32 (c.minstret.toNat / 2 ^ 32))
  else if n = 0xF11 ∨ n = 0xF12 then some 0
  else if n = 0xF13 then some 2
  else if n = 0xF14 then some (BitVec.ofNat 32 e)
  else if isWordCsr n then some (c.wordCsr n)
  else if n = 0x7C2 then some (c.dspstat 0)
  else if n = 0x7C3 then some (c.dspstat 1)
  else if n = 0x7E0 then some (match s.bestSource e with
    | some (l, k) => BitVec.ofNat 32 (2 ^ 31 + l * 256 + k)
    | none => 0)
  else if n = 0x7E1 then some 0
  else if n = 0x7E2 then some (match c.level with | some l => BitVec.ofNat 32 l | none => 0xFF)
  else none

/-- A claim (R272): the source's level becomes the current one, which goes onto the stack; a source that holds only for its claim
ends (log entry 5). -/
def iclaim (s : State) (e : Nat) : State :=
  match s.bestSource e with
  | none => s
  | some (l, k) =>
    let x := s.engine e
    let c := x.core
    s.setEngine e { x with
      core := { c with level := some l, stack := (c.level :: c.stack).take 4 },
      dmaIrq := x.dmaIrq && k ≠ 3, storeErr := x.storeErr && k ≠ 9 }

/-- A completion pops the stack; an empty one is left (R272). -/
def icomplete (s : State) (e : Nat) : State :=
  let c := s.core e
  match c.stack with
  | [] => s
  | l :: ls => s.setCore e { c with level := l, stack := ls }

/-- A write of a CSR that the engine implements; read-only ones keep what they hold. -/
def csrPut (s : State) (e n : Nat) (v : Word) : State :=
  let c := s.core e
  let w := v.toNat
  if n = 0x300 then s.setCore e { c with mie := bit w 3, mpie := bit w 7 }
  else if n = 0x304 then s.setCore e { c with meie := bit w 11 }
  else if n = 0x305 then s.setCore e { c with mtvec := BitVec.ofNat 32 (w / 4 * 4) }
  else if n = 0x340 then s.setCore e { c with mscratch := v }
  else if n = 0x341 then s.setCore e { c with mepc := BitVec.ofNat 32 (w / 2 * 2) }
  else if n = 0x342 then s.setCore e { c with mcause := v }
  else if n = 0x343 then s.setCore e { c with mtval := v }
  else if n = 0xB00 then s.setCore e { c with mcycle := BitVec.ofNat 64 (c.mcycle.toNat / 2 ^ 32 * 2 ^ 32 + w) }
  else if n = 0xB02 then s.setCore e { c with minstret := BitVec.ofNat 64 (c.minstret.toNat / 2 ^ 32 * 2 ^ 32 + w) }
  else if n = 0xB80 then s.setCore e { c with mcycle := BitVec.ofNat 64 (c.mcycle.toNat % 2 ^ 32 + w * 2 ^ 32) }
  else if n = 0xB82 then s.setCore e { c with minstret := BitVec.ofNat 64 (c.minstret.toNat % 2 ^ 32 + w * 2 ^ 32) }
  else if n = 0x7C0 ∨ n = 0x7C1 then s.setCore e (c.setWordCsr n (BitVec.ofNat 32 (dspcfgOf w)))
  else if 0x7C4 ≤ n ∧ n ≤ 0x7C7 then s.setCore e (c.setWordCsr n v)
  else if 0x7C8 ≤ n ∧ n ≤ 0x7CB then s.setCore e (c.setWordCsr n (BitVec.ofNat 32 (bits w 17 2 * 4)))
  else if 0x7CC ≤ n ∧ n ≤ 0x7CF then s.setCore e (c.setWordCsr n (BitVec.ofNat 32 (aglenOf w)))
  else if 0x7D0 ≤ n ∧ n ≤ 0x7D3 then s.setCore e (c.setWordCsr n (BitVec.ofNat 32 (w / 4 * 4)))
  else if n = 0x7C2 then s.setCore e (c.putDspstat 0 w)
  else if n = 0x7C3 then s.setCore e (c.putDspstat 1 w)
  else if n = 0x7E1 then s.icomplete e
  else s

/-! ## Architectural state as a debugger names it (R513) -/

/-- A register number that names something: `NUM` of `ENG_DBG_REGSEL`. -/
def dbgReg (s : State) (e : Nat) (csr : Bool) (num : Nat) : Option Word :=
  let c := s.core e
  if csr = false then (if num < 32 then some (xreg c num) else none)
  else if num = 0x7F0 then some (c.acc0.acc.setWidth 32)
  else if num = 0x7F1 then some (BitVec.ofNat 32 (c.acc0.acc.toNat / 2 ^ 32))
  else if num = 0x7F2 then some (c.acc1.acc.setWidth 32)
  else if num = 0x7F3 then some (BitVec.ofNat 32 (c.acc1.acc.toNat / 2 ^ 32))
  else if num = 0x7F4 then some c.pc
  else s.csrGet e num

/-- A debugger's write of one. -/
def putDbgReg (s : State) (e : Nat) (csr : Bool) (num : Nat) (v : Word) : State :=
  let c := s.core e
  let half := fun (x : Acc) (hi : Bool) =>
    { x with acc := BitVec.ofNat 64 (if hi then x.acc.toNat % 2 ^ 32 + v.toNat * 2 ^ 32 else x.acc.toNat / 2 ^ 32 * 2 ^ 32 + v.toNat) }
  if csr = false then s.setCore e (setXreg c num v)
  else if num = 0x7F0 then s.setCore e { c with acc0 := half c.acc0 false }
  else if num = 0x7F1 then s.setCore e { c with acc0 := half c.acc0 true }
  else if num = 0x7F2 then s.setCore e { c with acc1 := half c.acc1 false }
  else if num = 0x7F3 then s.setCore e { c with acc1 := half c.acc1 true }
  else if num = 0x7F4 then (s.setCore e { c with pc := BitVec.ofNat 32 (v.toNat / 2 * 2) }).set (Pg.eng e 0) Eng0.ENG_PC_PC (v.toNat / 2 * 2)
  else s.csrPut e num v

end State
end Sys2Proof.Machine
end

