-- ==== Sys2Proof/Machine/Skein.lean ====
section
/-! DEFINITION. The Skein packet network (spec/10_skein_network.md): flits, routers, endpoints, requests with their retry, and
the fabric attach ports. A router is named by its die and coordinates, an endpoint by its 11-bit number. What targets do with
requests stands in Machine/SkeinTargets.lean. One ROUTER_HOP is one cycle of one router; a link holds the flits its driver has
sent and its receiver has not taken yet (log entry 25). -/

namespace Sys2Proof.Machine

open Reg

namespace State

/-- Whether gateway `g` of a die is open (R295). -/
def gwOpen (s : State) (d g : Nat) : Bool := s.skeinOpen d (gwModule d g)

/-- Whether a die has an open gateway. -/
def anyGwOpen (s : State) (d : Nat) : Bool := (List.range (gwCount d)).any (s.gwOpen d)

def skRouter (s : State) (d x y : Nat) : SkRouter := SMap.read {} s.skein.routers (routerKey d x y)
def setSkRouter (s : State) (d x y : Nat) (r : SkRouter) : State :=
  { s with skein := { s.skein with routers := SMap.write {} s.skein.routers (routerKey d x y) r } }
def skLink (s : State) (k : Nat) : List SkFlit := SMap.read [] s.skein.links k
def setSkLink (s : State) (k : Nat) (l : List SkFlit) : State :=
  { s with skein := { s.skein with links := SMap.write [] s.skein.links k l } }

/-- Whether a router is in BYPASS (R316). -/
def bypass (s : State) (d x y : Nat) : Bool := s.flag (routerPage d x y) Router.STATUS_BYPASS

/-- The engine at an endpoint. -/
def epEngine (e : Nat) : Nat := (epDie e - 1) * 16 + epX e / 2 + 4 * (epY e / 2)

/-- A packet of a network that leaves it has no request for the saturation token any more, and frees one that was granted to it. -/
def dropClaim (s : State) (d : Nat) (f : Flit) : State :=
  let t := { s with skein := { s.skein with wanted := SMap.write [] s.skein.wanted d ((SMap.read [] s.skein.wanted d).filter (fun w => w.2 ≠ f)) } }
  if SMap.read none s.skein.granted d = some f then
    { t with skein := { t.skein with granted := SMap.write none t.skein.granted d none, taken := SMap.write false t.skein.taken d false } }
  else t

/-- Free the saturation token of a network that a packet holds or waits for (R305). -/
def freeToken (s : State) (d : Nat) (p : SkFlit) : State :=
  if p.token then { s with skein := { s.skein with taken := SMap.write false s.skein.taken d false } } else s.dropClaim d p.flit

/-- A packet that a router rewrites keeps its request for the token. -/
def claimAs (s : State) (d : Nat) (old new : Flit) : State :=
  { s with skein := { s.skein with
    wanted := SMap.write [] s.skein.wanted d ((SMap.read [] s.skein.wanted d).map (fun w => if w.2 = old then (w.1, new) else w))
    granted := if SMap.read none s.skein.granted d = some old then SMap.write none s.skein.granted d (some new) else s.skein.granted } }

/-- The age after a hop at router (x, y): from 254 to 255 only with the token, which the router requests for the packet (R305). -/
def ageStep (s : State) (d x y : Nat) (p : SkFlit) : SkFlit × State :=
  let a := hdrAge p.flit
  let i := routerNo d x y
  if a < 254 then ({ p with flit := p.flit.aged (a + 1) }, s)
  else if p.token then ({ p with flit := p.flit.aged 255 }, s)
  else if SMap.read none s.skein.granted d = some p.flit then
    ({ flit := p.flit.aged 255, token := true },
     ({ s with skein := { s.skein with granted := SMap.write none s.skein.granted d none } }).setInt (routerPage d x y)
       Router.INT_SATURATED)
  else
    let w := SMap.read [] s.skein.wanted d
    (p, { s with skein := { s.skein with wanted := SMap.write [] s.skein.wanted d ((i, p.flit) :: w.filter (fun v => v.2 ≠ p.flit)) } })

/-- The freed token goes to the lowest-numbered requesting router, for the packet it asked for (R305). -/
def grantToken (s : State) (d : Nat) : State :=
  let w := SMap.read [] s.skein.wanted d
  match (List.range 64).findSome? (fun i => w.find? (fun v => v.1 = i)) with
  | some v =>
    if SMap.read false s.skein.taken d then s
    else
      { s with skein := { s.skein with
        taken := SMap.write false s.skein.taken d true, granted := SMap.write none s.skein.granted d (some v.2),
        wanted := SMap.write [] s.skein.wanted d (w.filter (· ≠ v)) } }
  | none => s

/-! ## What a router answers or discards (R297, R300, R304, R318) -/

/-- A packet that fails its check (R297). -/
def discardBad (s : State) (d x y : Nat) (p : SkFlit) : State :=
  let page := routerPage d x y
  let t := ((s.freeToken d p).count page Router.SKR_DISCARD_HDR).setInt page Router.INT_DISCARD
  t.event 0x4001 1 page (p.flit.hdr.toNat % 2 ^ 32)

/-- Whether the destination cannot be reached from this router (R304). -/
def noRoute (s : State) (d x y : Nat) (f : Flit) : Bool :=
  let e := hdrDst f
  let dd := epDie e
  dd = 7 || !(isEndpoint e) ||
  (dd = d && epX e = x && epY e = y && SMap.read false s.skein.off e) ||
  (dd = d && epX e = x && epY e = y && epType e = 2 && s.isChecker (epEngine e)) ||
  (d ≠ 0 && dd ≠ d && !(s.anyGwOpen d)) || (d = 0 && dd ≠ 0 && !(s.anyGwOpen dd))

/-- Whether the packet is at the router of a port that does not serve now: ASLEEP, or of a LOST engine (R318, R320). -/
def asleepHere (s : State) (d x y : Nat) (f : Flit) : Bool :=
  let e := hdrDst f
  epDie e = d && epX e = x && epY e = y && isEndpoint e &&
    (s.portState' e = 2 || (epType e = 2 && s.engState (epEngine e) = 6))

/-- Whether a first request finds a sleeping port that wakes on packets: only that one asks for a vote; a LOST engine's port asks for none
(R318, R320). -/
def asksWake (s : State) (e : Nat) : Bool :=
  s.portState' e = 2 && s.flag (epPage e) Router.SKR_PORT_WAKE_ON_PKT (epPort e) && !(SMap.read false s.skein.asked e)

/-- A request becomes a STATUS response in place. -/
def rewritten (s : State) (d code : Nat) (waking : Bool) (p : SkFlit) : SkFlit × State :=
  let q := { p with flit := (statusTo p.flit code waking).aged (hdrAge p.flit) }
  (q, s.claimAs d p.flit q.flit)

/-- What a router makes of a packet before it routes it: unchanged, rewritten in place as a STATUS response, or discarded. `wake`
asks the power controller for a temporary vote on an endpoint's domain and says whether it was cast (R318, R484). -/
def answer (s : State) (wake : State → Nat → Bool × State) (d x y : Nat) (p : SkFlit) : Option SkFlit × State :=
  let page := routerPage d x y
  if s.noRoute d x y p.flit then
    if isResponse p.flit then (none, (s.freeToken d p).count page Router.SKR_DISCARD_RSP)
    else
      let r := s.rewritten d 2 false p
      (some r.1, (r.2.count page Router.SKR_NAK_CNT_NOROUTE).setInt page Router.INT_NOROUTE)
  else if s.asleepHere d x y p.flit then
    if isResponse p.flit then (none, (s.freeToken d p).count page Router.SKR_DISCARD_RSP)
    else
      let e := hdrDst p.flit
      let w := if s.asksWake e then wake { s with skein := { s.skein with asked := SMap.write false s.skein.asked e true } } e else (false, s)
      let r := w.2.rewritten d 1 w.1 p
      (some r.1, (r.2.count page Router.SKR_NAK_CNT_ASLEEP).setInt page Router.INT_ASLEEP)
  else (some p, s)

/-! ## Ranking, ejection and routing (R301 to R303, R307) -/

/-- Whether packet `p` ranks above `q`, ties aside (R302). -/
def outranks (p q : SkFlit) : Bool :=
  if p.token ≠ q.token then p.token
  else if hdrPrio p.flit ≠ hdrPrio q.flit then hdrPrio q.flit < hdrPrio p.flit
  else hdrAge q.flit < hdrAge p.flit

/-- Insert by rank, after those that tie. -/
def rankIn (p : SkFlit) : List SkFlit → List SkFlit
  | [] => [p]
  | q :: r => if outranks p q then p :: q :: r else q :: rankIn p r

/-- The local ports of this router that a packet is for, in the order it tries them: its endpoint's port, or gateways toward its
die. -/
def localPorts (s : State) (d x y : Nat) (f : Flit) : List Nat :=
  let e := hdrDst f
  if epDie e = d then (if epX e = x ∧ epY e = y then [epPort e] else [])
  else (List.range 4).filter (fun p => match gatewayAt d x y p with
    | some (gd, g) => (if d = 0 then gd = epDie e else true) && s.gwOpen gd g
    | none => false)

/-- The direction a gateway sends in: out of a die toward the hub is 1, out of the hub 0. -/
def gwDir (d : Nat) : Nat := if d = 0 then 0 else 1

/-- The requests a crypto engine holds, by source and tag: what waits in its queues or as half of a line write. It holds at most 128;
at that bound only the other flit of a held line write enters (R389). -/
def heldRequests (s : State) (e : Nat) : List (Nat × Nat) :=
  let x := s.skEnd e
  ((x.urgQ ++ x.reqQ).map (fun f => (hdrSrc f, hdrTag f)) ++ x.lone.map (fun l => (l.src, l.tag))).eraseDups

def holdsEnough (s : State) (e : Nat) (f : Flit) : Bool :=
  epType e = 3 && 128 ≤ (s.heldRequests e).length && !((s.heldRequests e).elem (hdrSrc f, hdrTag f))

/-- Whether a local port can take a packet now (R295, R307, R316, R389). -/
def canTake (s : State) (d x y p : Nat) (k : SkFlit) : Bool :=
  match gatewayAt d x y p with
  | some (gd, g) => s.gwOpen gd g && s.linkRoom gd (gwModule gd g) (gwDir d)
  | none =>
    let e := epOf d x y p
    let x := s.skEnd e
    if isResponse k.flit then true
    else if s.holdsEnough e k.flit then false
    else if hdrPrio k.flit = 3 then x.urgQ.length < (if k.token then 16 else 15)
    else x.reqQ.length + (if k.token then 0 else 1) < Config.requestQueue e

/-- A response is ejected at its source (R308, R310): an attach port ends the request, or discards a response to none as late; a hard endpoint
frees the quotas, and deals with it when it takes it. -/
def responseEjected (s : State) (e : Nat) (f : Flit) : State :=
  match s.liveReq e (hdrTag f) with
  | some r =>
    if epType e = 1 then
      let t := s.endRequest e r false
      t.setSkEnd e { t.skEnd e with respQ := (t.skEnd e).respQ ++ [(true, f)] }
    else
      let q := s.skEnd e
      s.setSkEnd e { q with
        respQ := q.respQ ++ [(true, f)]
        outstanding := q.outstanding.map (fun k => if k.tag = r.tag then { k with answered := true } else k) }
  | none =>
    if epType e = 1 then s.count (epPage e) Router.SKR_EP_ERR_LATE 1 (epPort e)
    else s.setSkEnd e { s.skEnd e with respQ := (s.skEnd e).respQ ++ [(false, f)] }

/-- A packet enters a local port: an endpoint's queue, or a gateway's module, with the token freed (R305, R307). -/
def eject (s : State) (d x y p : Nat) (k : SkFlit) : State :=
  let s := s.freeToken d k
  match gatewayAt d x y p with
  | some (gd, g) => s.linkSend gd (gwModule gd g) (gwDir d) (k.flit.aged (min 254 (hdrAge k.flit)))
  | none =>
    let e := epOf d x y p
    let q := s.skEnd e
    if isResponse k.flit then s.responseEjected e k.flit
    else if hdrPrio k.flit = 3 then s.setSkEnd e { q with urgQ := q.urgQ ++ [k.flit] }
    else s.setSkEnd e { q with reqQ := q.reqQ ++ [k.flit] }

/-- Productive outputs toward a router of this network, in the order they are tried (R303). -/
def towards (d x y tx ty : Nat) : List Nat :=
  let m := netX d
  let n := netY d
  let dx := (tx + m - x) % m
  let dy := (ty + n - y) % n
  if d ≤ 4 then
    (if 1 ≤ dx ∧ 2 * dx ≤ m then [1] else []) ++ (if m ≤ 2 * dx then [3] else []) ++
    (if 1 ≤ dy ∧ 2 * dy ≤ n then [0] else []) ++ (if n ≤ 2 * dy then [2] else [])
  else (if 1 ≤ dx ∧ dx ≤ 4 then [0] else []) ++ (if 4 ≤ dx then [1] else [])

/-- Productive outputs toward the nearest open gateway of a ring. -/
def ringGateway (s : State) (d x : Nat) : List Nat :=
  let open_ := (List.range 4).filter (s.gwOpen d)
  let dist := fun g => let dx := (2 * g + 1 + 8 - x) % 8; min dx (8 - dx)
  let best := open_.foldl (fun m g => min m (dist g)) 8
  let near := open_.filter (fun g => dist g = best)
  [0, 1].filter (fun o => near.any (fun g => (towards d x 0 (2 * g + 1) 0).elem o))

/-- The productive outputs of a packet at a router (R303). -/
def productive (s : State) (d x y : Nat) (f : Flit) : List Nat :=
  let e := hdrDst f
  let dd := epDie e
  if dd = d then towards d x y (epX e) (epY e)
  else if d = 0 then
    let row := if dd ≤ 4 then dd - 1 else 2 * (dd - 5)
    if y = row then [1] else towards d x y x row
  else if d ≤ 4 then (if y = 0 then [1] else towards d x y x 0)
  else s.ringGateway d x

/-- Send a packet on an output that is free in this cycle. -/
def sendOn (s : State) (d x y o : Nat) (p : SkFlit) : State :=
  let a := s.ageStep d x y p
  let r := a.2.skRouter d x y
  (a.2.setSkLink (linkKey d x y o) (a.2.skLink (linkKey d x y o) ++ [a.1])).setSkRouter d x y { r with placed := r.placed ++ [(o, p)] }

/-- Outputs no packet has taken in this cycle. -/
def freeOutputs (s : State) (d x y : Nat) : List Nat :=
  (outputs d).filter (fun o => (s.skRouter d x y).placed.all (fun q => q.1 ≠ o))

/-- Route a packet: its first free productive output, else a deflection (R301). -/
def route (s : State) (d x y : Nat) (p : SkFlit) : State :=
  let free := s.freeOutputs d x y
  match (s.productive d x y p.flit).find? (fun o => free.elem o) with
  | some o => s.sendOn d x y o p
  | none =>
    match free with
    | o :: _ => (s.count (routerPage d x y) Router.SKR_CNT_DEFLECT).sendOn d x y o p
    | [] => s

/-- The packets that arrive at a router's network inputs, in port order, taken from their links; `bad` are the inputs whose
packet fails its parity (R297). -/
def arrivals (s : State) (d x y : Nat) (bad : List Nat) : List (Nat × SkFlit × Bool) × State :=
  (outputs d).foldl (fun acc o =>
    let n := neighbor d x y o
    let k := linkKey d n.1 n.2 (opposite d o)
    match acc.2.skLink k with
    | [] => acc
    | p :: rest => (acc.1 ++ [(o, p, p.flit.good && !(bad.elem o))], acc.2.setSkLink k rest)) ([], s)

/-- One cycle of a router in BYPASS: straight through (R316). -/
def hopBypass (s : State) (d x y : Nat) (arr : List (Nat × SkFlit × Bool)) : State :=
  forEach arr (fun a t => if a.2.2 then t.sendOn d x y (opposite d a.1) a.2.1 else t.discardBad d x y a.2.1) s

/-- Eject what can be ejected, one packet to a local port, in rank order; what stays is returned (R301). -/
def ejectAll (s : State) (d x y : Nat) : List SkFlit → List Nat → List SkFlit × State
  | [], _ => ([], s)
  | p :: r, used =>
    match (s.localPorts d x y p.flit).find? (fun q => !(used.elem q) && s.canTake d x y q p) with
    | some q => (s.eject d x y q p).ejectAll d x y r (q :: used)
    | none =>
      let t := s.ejectAll d x y r used
      (p :: t.1, t.2)

/-- One cycle of a router (R301). -/
def routerHop (s : State) (wake : State → Nat → Bool × State) (d x y : Nat) (bad : List Nat) : State :=
  let arr := s.arrivals d x y bad
  let t := arr.2.setSkRouter d x y {}
  if s.bypass d x y then t.hopBypass d x y arr.1
  else
    let kept := arr.1.foldl (fun acc a =>
      if a.2.2 then
        let r := acc.2.answer wake d x y a.2.1
        match r.1 with
        | some p => (acc.1 ++ [p], r.2)
        | none => (acc.1, r.2)
      else (acc.1, acc.2.discardBad d x y a.2.1)) (([] : List SkFlit), t)
    let ranked := kept.1.foldl (fun l p => rankIn p l) []
    let rest := kept.2.ejectAll d x y ranked []
    forEach rest.1 (fun p u => u.route d x y p) rest.2

/-! ## Injection (R306) -/

/-- Whether a flit of an endpoint may be injected: a response; a further flit of a request that has been; a first one within the quotas, while
the port does not drain (R308, R317). -/
def mayInject (s : State) (e : Nat) (f : Flit) : Bool :=
  isResponse f ||
  (match s.liveReq e (hdrTag f) with
   | none => true
   | some r => r.sent || (s.portState' e = 0 && (s.inFlight e).length < 1024 && (r.prio ≠ 3 || (s.inFlight e).all (fun q => q.prio ≠ 3))))

/-- The packets that wait at a local port and may be injected: an endpoint's flits to send, or what a gateway's module has accepted. -/
def waiting (s : State) (d x y p : Nat) : List Flit :=
  match gatewayAt d x y p with
  | some (gd, g) => (s.linkDir gd (gwModule gd g) (1 - gwDir d)).rx
  | none => (s.skEnd (epOf d x y p)).txQ.filter (s.mayInject (epOf d x y p))

/-- Take one waiting packet away: with its first flit a request is outstanding (R308). -/
def unwait (s : State) (d x y p : Nat) (f : Flit) : State :=
  match gatewayAt d x y p with
  | some (gd, g) =>
    let l := s.linkDir gd (gwModule gd g) (1 - gwDir d)
    s.setLinkDir gd (gwModule gd g) (1 - gwDir d) { l with rx := l.rx.erase f }
  | none =>
    let q := s.skEnd (epOf d x y p)
    s.setSkEnd (epOf d x y p) { q with
      txQ := q.txQ.erase f
      outstanding := q.outstanding.map (fun r => if !(isResponse f) && r.tag = hdrTag f && !r.answered then { r with sent := true } else r) }

def swapSlot (s : State) (d x y p : Nat) : Option SkFlit := (s.skEnd (epOf d x y p)).swap
def setSwap (s : State) (d x y p : Nat) (k : Option SkFlit) : State :=
  s.setSkEnd (epOf d x y p) { s.skEnd (epOf d x y p) with swap := k }

/-- `SKR_TEST.HCHK_FLIP` inverts bit 46 of the next packet injected at its port (R319). -/
def testFlip (s : State) (d x y p : Nat) : State :=
  let page := routerPage d x y
  if s.flag page Router.SKR_TEST_HCHK_FLIP && s.get page Router.SKR_TEST_PORT = p then
    let t := s.set page Router.SKR_TEST_HCHK_FLIP 0
    match (t.skRouter d x y).placed.getLast? with
    | some (o, _) =>
      let l := t.skLink (linkKey d x y o)
      match l.getLast? with
      | some k => t.setSkLink (linkKey d x y o) (l.dropLast ++ [{ k with flit := { k.flit with hdr := k.flit.hdr ^^^ (1#48 <<< 46) } }])
      | none => t
    | none => t
  else s

/-- Put a packet of a local port on a free output, productive if one is. -/
def injectOn (s : State) (d x y p : Nat) (k : SkFlit) : State :=
  let free := s.freeOutputs d x y
  let o := ((s.productive d x y k.flit).find? (fun o => free.elem o)).getD (free.headD 0)
  let t := (s.sendOn d x y o k).testFlip d x y p
  let r := t.skRouter d x y
  t.setSkRouter d x y { r with injected := r.injected ++ [p] }

/-- The lowest-ranked packet placed in this cycle that may be displaced, with its output, as it was before the hop that it does not make
(R306). -/
def displaceable (s : State) (d x y : Nat) : Option (Nat × SkFlit) :=
  let cands := (s.skRouter d x y).placed.filter (fun c =>
    hdrPrio c.2.flit < 3 && !((s.skLink (linkKey d x y c.1)).getLast?.any (fun k => k.token)))
  cands.foldl (fun acc c => match acc with
    | none => some c
    | some a => if outranks c.2 a.2 then some a else some c) none

/-- A waiting P3 packet of port `p` displaces a packet into the port's swap slot, with its `AGE` kept (R306). -/
def displace (s : State) (d x y p : Nat) (f : Flit) : State :=
  match s.displaceable d x y with
  | some (o, k) =>
    let r := s.skRouter d x y
    let t := s.setSkLink (linkKey d x y o) (s.skLink (linkKey d x y o)).dropLast
    let t := (t.setSwap d x y p (some k)).setSkRouter d x y { r with placed := r.placed.filter (fun c => c.1 ≠ o) }
    ((t.count (routerPage d x y) Router.SKR_CNT_DISPLACE).unwait d x y p f).injectOn d x y p { flit := f }
  | none => s

/-- The next packet a router injects in this cycle, in the order of R306: a port's P3 packet, a swap slot, then by priority. -/
inductive Inject
  | p3 (p : Nat) (f : Flit)
  | swap (p : Nat) (k : SkFlit)
  | other (p : Nat) (f : Flit)

/-- Local ports that may still inject in this cycle. -/
def injectPorts (s : State) (d x y : Nat) : List Nat :=
  (List.range 4).filter (fun p => !((s.skRouter d x y).injected.elem p) && !(SMap.read false s.skein.off (epOf d x y p)))

def nextInject (s : State) (d x y : Nat) : Option Inject :=
  let ps := s.injectPorts d x y
  let free := !(s.freeOutputs d x y).isEmpty
  let p3 := ps.findSome? (fun p => ((s.waiting d x y p).find? (fun f => hdrPrio f = 3)).bind (fun f =>
    if free || ((s.swapSlot d x y p).isNone && (s.displaceable d x y).isSome) then some (Inject.p3 p f) else none))
  let swap := if free then ps.findSome? (fun p => (s.swapSlot d x y p).map (Inject.swap p)) else none
  let other := if free then
      [2, 1, 0].findSome? (fun pr => ps.findSome? (fun p =>
        if (s.swapSlot d x y p).isSome then none
        else ((s.waiting d x y p).find? (fun f => hdrPrio f = pr)).map (Inject.other p)))
    else none
  p3.orElse (fun _ => swap.orElse (fun _ => other))

/-- A local port injects (R306); in BYPASS none does (R316). -/
def inject (s : State) (d x y : Nat) : State :=
  if s.bypass d x y then s
  else
    match s.nextInject d x y with
    | none => s
    | some (.p3 p f) =>
      if (s.freeOutputs d x y).isEmpty then s.displace d x y p f
      else (s.unwait d x y p f).injectOn d x y p { flit := f }
    | some (.swap p k) => (s.setSwap d x y p none).injectOn d x y p k
    | some (.other p f) => (s.unwait d x y p f).injectOn d x y p { flit := f }

/-! ## Requests of an endpoint (R308 to R310) -/

/-- The lowest tag that is neither outstanding nor in quarantine. -/
def freeTag (s : State) (e : Nat) : Option Nat :=
  let x := s.skEnd e
  (List.range 1024).find? (fun t => !(x.outstanding.any (fun r => r.tag = t)) && !(x.quarantine.elem t))

/-- Whether an endpoint may issue a request: a DRAINING port issues none (R317). What exceeds the quotas waits to be injected (R308). -/
def mayIssue (s : State) (e : Nat) : Bool := s.portState' e = 0 && (s.freeTag e).isSome

/-- Issue a request: the flits of its tag join those to be injected. -/
def issue (s : State) (e prio : Nat) (use : ReqUse) (flits : Nat → List Flit) : Option Nat × State :=
  match s.freeTag e with
  | some t =>
    if s.mayIssue e then
      let x := s.skEnd e
      (some t, s.setSkEnd e { x with
        txQ := x.txQ ++ flits t, outstanding := x.outstanding ++ [{ tag := t, prio := prio, flits := flits t, use := use }] })
    else (none, s)
  | none => (none, s)

/-- The oldest response leaves its queue: it ends the request of its tag, counting a retried one as transient, or is discarded as late
(R309, R310). -/
def takeResponse (s : State) (e : Nat) (a : Bool × Flit) : Option SkReq × State :=
  let x := s.skEnd e
  let t := s.setSkEnd e { x with respQ := x.respQ.drop 1 }
  match (if a.1 then x.outstanding.find? (fun r => r.tag = hdrTag a.2) else none) with
  | some r =>
    let t := t.endRequest e r false
    (some r, if r.retried then t.count (epPage e) Router.SKR_EP_ERR_TRANSIENT 1 (epPort e) else t)
  | none => (none, t.count (epPage e) Router.SKR_EP_ERR_LATE 1 (epPort e))

/-- A quarantine ends (R310). -/
def unquarantine (s : State) (e tag : Nat) : State :=
  let x := s.skEnd e
  s.setSkEnd e { x with quarantine := x.quarantine.filter (· ≠ tag) }

/-- A lone flit of a line-write pair is discarded, with no response (R299). -/
def pairTimeout (s : State) (e src tag : Nat) : State :=
  let x := s.skEnd e
  s.setSkEnd e { x with lone := x.lone.filter (fun l => !(l.src = src && l.tag = tag)) }

/-! ## Reconfiguration and networks that stop (R316, R320) -/

/-- `CTL.APPLY`: the router enters BYPASS; the enables that stand in the shadow register now are the ones to apply (R316, R320). -/
def reconfStart (s : State) (page : Nat) : State :=
  let en := (List.range 4).foldl (fun m p => if s.flag page Router.SKR_PORT_EN p then m + 2 ^ p else m) 0
  let t := { s with skein := { s.skein with latched := SMap.write 0 s.skein.latched (pageDie page * 64 + routerIndex page) en } }
  t.set page Router.STATUS_BYPASS 1

/-- The shadow values apply and the router leaves BYPASS (R316). -/
def reconfDone (s : State) (d x y : Nat) : State :=
  let page := routerPage d x y
  if s.flag page Router.STATUS_BYPASS then
    let en := SMap.read 0 s.skein.latched (routerKey d x y)
    let t := forEach (List.range 4) (fun p u =>
      { u with skein := { u.skein with off := SMap.write false u.skein.off (epOf d x y p) (!(bit en p)) } })
      (s.set page Router.STATUS_BYPASS 0)
    { t with skein := { t.skein with latched := SMap.write 0 t.skein.latched (routerKey d x y) 0 } }.setInt page Router.INT_RECONF_DONE
  else s

/-- The routers of a die discard what they hold; the token is released; the endpoints of the die forget their requests (R320). -/
def dropNet (s : State) (d : Nat) : State :=
  { s with skein := { s.skein with
    links := SMap.keep (fun k => k / 256 ≠ d) s.skein.links, routers := SMap.keep (fun k => k / 64 ≠ d) s.skein.routers,
    ends := SMap.keep (fun k => k % 8 ≠ d) s.skein.ends, latched := SMap.keep (fun k => k / 64 ≠ d) s.skein.latched,
    taken := SMap.write false s.skein.taken d false, granted := SMap.write none s.skein.granted d none,
    wanted := SMap.write [] s.skein.wanted d [] } }

/-- The applied enables of a die's local ports are as after reset again. -/
def portsAsReset (s : State) (d : Nat) : State := { s with skein := { s.skein with off := SMap.keep (fun k => k % 8 ≠ d) s.skein.off } }

end State
end Sys2Proof.Machine
end

