-- ==== Sys2Proof/Machine/Ddr.lean ====
section
/-! DEFINITION. The DDR5 controllers (spec/12_ddr5_controllers.md): bring-up, address mapping, the line code with its retry,
scheduling, refresh, row-disturbance defence, ALERT and self-refresh. A channel is named by its number c. A crypto engine reaches
the DRAM through `ddrRead` and `ddrWrite`, which serve one line whole; DDR_LINE_READ and DDR_LINE_WRITE queue requests. -/

namespace Sys2Proof.Machine

open Reg

/-! ## The line code (R366, R367) -/

/-- Symbol of position `k` of codeword `j` of a stored line. -/
def ddrSymbol (x : BitVec 640) (j k : Nat) : Nat := (x >>> (80 * j + 8 * k)).toNat % 256

/-- The data symbols of a codeword. -/
def ddrData (x : BitVec 640) (j : Nat) : List Nat := (List.range 8).map (ddrSymbol x j)

/-- A line with its code. -/
def ddrEncode (d : BitVec 512) : BitVec 640 :=
  (List.range 8).foldl (fun acc j =>
    let w := (d >>> (64 * j)).toNat % 2 ^ 64
    let p := pageParity ((List.range 8).map (fun k => w / 256 ^ k % 256))
    acc ||| (BitVec.ofNat 640 (w + p.1 * 2 ^ 64 + p.2 * 2 ^ 72) <<< (80 * j))) 0

/-- The data of a stored line. -/
def ddrLineData (x : BitVec 640) : BitVec 512 :=
  (List.range 8).foldl (fun acc j => acc ||| (BitVec.ofNat 512 ((x >>> (80 * j)).toNat % 2 ^ 64) <<< (64 * j))) 0

/-- What the code makes of one codeword: clean, a position (0 to 9, 8 and 9 the ECC lanes) and the value to add, or neither. -/
inductive CodewordClass
  | clean | fix (k v : Nat) | bad
  deriving DecidableEq, Repr

/-- Class a codeword: an x8 module only detects (R367). -/
def ddrClass (x : BitVec 640) (x8 : Bool) (j : Nat) : CodewordClass :=
  let s := pageSyndromes (ddrData x j) (ddrSymbol x j 8, ddrSymbol x j 9)
  if s.1 = 0 ∧ s.2 = 0 then .clean
  else if x8 ∨ s.1 = 0 ∨ s.2 = 0 then .bad
  else
    match (List.range 10).find? (fun i => gfAlpha i s.1 = s.2) with
    | some i => .fix (if i < 2 then 8 + i else i - 2) s.1
    | none => .bad

/-- A line with each corrected codeword corrected. -/
def ddrCorrect (x : BitVec 640) (x8 : Bool) : BitVec 640 :=
  (List.range 8).foldl (fun acc j => match ddrClass x x8 j with
    | .fix k v => acc ^^^ (BitVec.ofNat 640 v <<< (80 * j + 8 * k))
    | _ => acc) x

/-- 0 CLEAN, 1 CORRECTED, 2 UNCORRECTABLE (R367). -/
def ddrLineClass (x : BitVec 640) (x8 : Bool) : Nat :=
  if (List.range 8).any (fun j => ddrClass x x8 j = .bad) then 2
  else if (List.range 8).any (fun j => ddrClass x x8 j ≠ .clean) then 1 else 0

/-- `CW`: the codewords that are not clean; and `POS`: the corrected position, 0xF if none or several. -/
def ddrBadWords (x : BitVec 640) (x8 : Bool) : Nat :=
  (List.range 8).foldl (fun m j => if ddrClass x x8 j = .clean then m else m ||| (1 <<< j)) 0
def ddrPosition (x : BitVec 640) (x8 : Bool) : Nat :=
  match ((List.range 8).filterMap (fun j => match ddrClass x x8 j with | .fix k _ => some k | _ => none)).eraseDups with
  | [k] => k
  | _ => 0xF

namespace State

def ddrUnit (s : State) (c : Nat) : DdrUnit := SMap.read {} s.ddr.units c
def setDdrUnit (s : State) (c : Nat) (u : DdrUnit) : State :=
  { s with ddr := { s.ddr with units := SMap.write {} s.ddr.units c u } }
/-- `STATUS.STATE`: 0 OFF, 1 TRAINING, 2 ZEROING, 3 READY, 4 SELF_REFRESH, 5 RETRAIN, 6 DOWN. -/
def ddrState (s : State) (c : Nat) : Nat := s.get (Pg.ddr c) Ddr.STATUS_STATE
def ddrTo (s : State) (c v : Nat) : State := s.set (Pg.ddr c) Ddr.STATUS_STATE v
def ddrX8 (s : State) (c : Nat) : Bool := s.flag (Pg.ddr c) Ddr.DDR_CFG_X8
/-- The `STATUS` word. -/
def ddrStatus (s : State) (c : Nat) : Nat :=
  let p := Pg.ddr c
  s.get p Ddr.STATUS_STATE + 16 * s.get p Ddr.STATUS_TEMP_2X + 256 * s.get p Ddr.STATUS_TEMP_HIGH + 2 ^ 28 * s.get p Ddr.STATUS_REASON

/-! ## Geometry (R358, R364, R365) -/

def ddrC (s : State) (c : Nat) : Nat := if s.ddrX8 c then 6 else 7
def ddrR (s : State) (c : Nat) : Nat := Nat.log2 (s.get (Pg.ddr c) Ddr.DDR_CFG_RANKS)
def ddrW (s : State) (c : Nat) : Nat := if s.get (Pg.ddr c) Ddr.DDR_CFG_DENSITY = 0 then 16 else 17

/-- The capacity in lines (R365). -/
def ddrCapacity (s : State) (c : Nat) : Nat :=
  let n := 2 ^ (s.ddrC c + s.ddrR c + s.ddrW c + 6)
  if s.get (Pg.ddr c) Ddr.DDR_CFG_DENSITY = 1 then n / 4 * 3 else n

/-- The row of a line, and its bank as ((subchannel × 4 + rank) × 8 + bank group) × 4 + bank (R364). -/
def ddrRow (s : State) (c a : Nat) : Nat := a / 2 ^ (s.ddrC c + s.ddrR c + 6) % 2 ^ s.ddrW c
def ddrBankOf (s : State) (c a : Nat) : Nat :=
  let k := s.ddrC c
  let m := s.get (Pg.ddr c) Ddr.DDR_MAP_MODE
  let raw := if m = 0 then bits a 3 1 else bits a (k + 3) (k + 1)
  let bank := if m = 0 then bits a 5 4 else bits a (k + 5) (k + 4)
  let rank := a / 2 ^ (k + 6) % 2 ^ s.ddrR c
  let bg := if s.flag (Pg.ddr c) Ddr.DDR_MAP_HASH then raw ^^^ (s.ddrRow c a % 8) else raw
  ((a % 2 * 4 + rank) * 8 + bg) * 4 + bank

/-- The supported rates of a module kind (R356). -/
def ddrRates (kind : Nat) : List Nat :=
  if kind = 1 then [6400, 6000, 5600, 5200, 4800, 4400, 4000, 3200] else if kind = 2 then [8800, 8000] else []

/-- The actual rate (R358); none where no rate qualifies. -/
def ddrRate (s : State) (c : Nat) (m : Dimm) : Option Nat :=
  (ddrRates m.kind).find? (fun r => r ≤ s.get (Pg.ddr c) Ddr.DDR_SPEED_REQ && r ≤ m.spdMax)

/-- Whether R356 supports a module: an MRDIMM has two or four ranks, an RDIMM one or two. -/
def dimmOk (m : Dimm) : Bool :=
  m.density ≤ 2 && ((m.kind = 1 && (m.ranks = 1 || m.ranks = 2)) || (m.kind = 2 && (m.ranks = 2 || m.ranks = 4)))

/-! ## DRAM contents -/

def ddrLineKey (c a : Nat) : Nat := c * 2 ^ 40 + a

/-- A line as it stands, with the state after: a line that nothing has written since the contents were lost holds a free value
(R362). -/
def ddrCell (s : State) (c a : Nat) : BitVec 640 × State :=
  match SMap.read none s.ddr.lines (ddrLineKey c a) with
  | some x => (x, s)
  | none =>
    if (s.ddrUnit c).filled then (0, s)
    else
      let x := BitVec.ofNat 640 s.freeVal
      (x, { s.took with ddr := { s.ddr with lines := SMap.write none s.ddr.lines (ddrLineKey c a) (some x) } })

def putDdrCell (s : State) (c a : Nat) (x : BitVec 640) : State :=
  { s with ddr := { s.ddr with
    lines := SMap.write none s.ddr.lines (ddrLineKey c a) (if (s.ddrUnit c).filled && x == 0 then none else some x) } }

/-- The contents of a channel are lost. -/
def ddrForget (s : State) (c : Nat) : State :=
  let t := { s with ddr := { s.ddr with lines := SMap.keep (fun k => k / 2 ^ 40 ≠ c) s.ddr.lines } }
  t.setDdrUnit c { t.ddrUnit c with filled := false }

/-- A write is performed: the line with a new code, under `DDR_ECC_INJ` if that is armed (R369, R384). -/
def ddrStore (s : State) (c a : Nat) (d : BitVec 512) : State :=
  let p := Pg.ddr c
  if s.flag p Ddr.DDR_ECC_INJ_ARM then
    let mask := (List.range 8).foldl (fun (m : BitVec 640) j => if bit (s.get p Ddr.DDR_ECC_INJ_CW) j then
      m ||| (BitVec.ofNat 640 (s.get p Ddr.DDR_ECC_INJ_MASK) <<< (80 * j + 8 * s.get p Ddr.DDR_ECC_INJ_POS)) else m) 0
    (s.putDdrCell c a (ddrEncode d ^^^ mask)).set p Ddr.DDR_ECC_INJ_ARM 0
  else s.putDdrCell c a (ddrEncode d)

/-! ## Detected errors (R368 to R370) -/

/-- Load the held error, while none is held (R370, R384). -/
def ddrErrInfo (s : State) (c a kind : Nat) (x : BitVec 640) : State :=
  let p := Pg.ddr c
  if s.flag p Ddr.DDR_ECC_INFO_VALID then s
  else
    (((((s.set p Ddr.DDR_ECC_INFO_VALID 1).set p Ddr.DDR_ECC_INFO_KIND kind).set p Ddr.DDR_ECC_INFO_SUBCH (a % 2)).set p
      Ddr.DDR_ECC_INFO_POS (ddrPosition x (s.ddrX8 c))).set p Ddr.DDR_ECC_INFO_CW (ddrBadWords x (s.ddrX8 c))).set p
      Ddr.DDR_ECC_ADDR_LINE a

/-- A line's error is transient. -/
def ddrTransient (s : State) (c a : Nat) (x : BitVec 640) : State :=
  (s.ddrErrInfo c a (ddrLineClass x (s.ddrX8 c)) x).count (Pg.ddr c) Ddr.DDR_ECC_CNT_TRANSIENT

/-- A corrected line stays corrected: lasting (R370). -/
def ddrLasting (s : State) (c a : Nat) (x : BitVec 640) : State :=
  let p := Pg.ddr c
  let t := (((s.ddrErrInfo c a 3 x).count p Ddr.DDR_ECC_CNT_LASTING).setInt p Ddr.INT_ECC_LASTING).warn Safety.SAF_WARN_DDR
  t.event 0x6004 3 p (t.get p Ddr.DDR_ECC_ADDR_LINE)

/-- A line stays uncorrectable (R369). -/
def ddrUncorrectable (s : State) (c a : Nat) (x : BitVec 640) : State :=
  let p := Pg.ddr c
  let t := (((s.ddrErrInfo c a 2 x).count p Ddr.DDR_ECC_CNT_UNCORR).setInt p Ddr.INT_ECC_UNCORR).warn Safety.SAF_WARN_DDR
  t.event 0x6003 3 p (t.get p Ddr.DDR_ECC_ADDR_LINE)

/-- The one retry of a read whose burst was `x` (R368): the burst read again has `err` inverted. Answers the Skein code and the
line. -/
def ddrRetryRead (s : State) (c a : Nat) (x err : BitVec 640) : Nat × BitVec 512 × State :=
  let x8 := s.ddrX8 c
  if ddrLineClass x x8 = 1 then
    let good := ddrCorrect x x8
    let t := s.putDdrCell c a good
    match ddrLineClass (good ^^^ err) x8 with
    | 0 => (0, ddrLineData good, t.ddrTransient c a x)
    | 1 => (0, ddrLineData good, t.ddrLasting c a x)
    | _ => (4, 0, t.ddrUncorrectable c a x)
  else
    let r := s.ddrCell c a
    let y := r.1 ^^^ err
    if ddrLineClass y x8 = 2 then (4, 0, r.2.ddrUncorrectable c a x)
    else (0, ddrLineData (ddrCorrect y x8), r.2.ddrTransient c a x)

/-! ## Answers (R363, R371, R372) -/

/-- How a request is answered while the channel is not READY, or drains towards self-refresh or its reset (R382, R478); none while it
takes requests. -/
def ddrRefusal (s : State) (c : Nat) : Option Nat :=
  if s.ddrState c = 3 then (if s.domState (ddrDom c) = 3 then some 1 else none) else if s.ddrState c = 6 then some 2 else some 1

/-- Answer a request, after the answers of the same happening. -/
def ddrAnswer (s : State) (c id code : Nat) (d : BitVec 512) : State :=
  s.setDdrUnit c { s.ddrUnit c with answers := (s.ddrUnit c).answers ++ [(id, code, d)] }

/-- The answers of the last happening have been taken. -/
def ddrAnew (s : State) (c : Nat) : State := s.setDdrUnit c { s.ddrUnit c with answers := [] }

/-- `DDR_INFLIGHT` follows the queue; the drain of R374 starts and stops with it. -/
def ddrLevels (s : State) (c : Nat) : State :=
  let p := Pg.ddr c
  let u := s.ddrUnit c
  let w := (u.queue.filter (·.write)).length
  let t := s.setDdrUnit c { u with
    drain := if s.get p Ddr.DDR_SCHED_WR_HIGH ≤ w then true else if w ≤ s.get p Ddr.DDR_SCHED_WR_LOW then false else u.drain }
  (t.set p Ddr.DDR_INFLIGHT_WR w).set p Ddr.DDR_INFLIGHT_RD (u.queue.length - w + b2n u.pending.isSome)

/-- The channel leaves READY: every request it holds and has not performed is answered (R363). -/
def ddrDropHeld (s : State) (c code : Nat) : State :=
  let u := s.ddrUnit c
  let held := (u.pending.map (·.req)).toList ++ u.queue
  let t := s.setDdrUnit c { u with queue := [], pending := none, drain := false, answers := [] }
  (forEach held (fun r v => v.ddrAnswer c r.id code 0) t).ddrLevels c

/-- The data of the newest queued write to a line. -/
def queuedWrite (s : State) (c a : Nat) : Option DdrReq :=
  (s.ddrUnit c).queue.reverse.find? (fun r => r.write && r.line = a)

/-- A read is presented (R355, R363, R365, R371, R372). -/
def ddrPresentRead (s : State) (c id a prio : Nat) : State :=
  let s := s.ddrAnew c
  match s.ddrRefusal c with
  | some code => s.ddrAnswer c id code 0
  | none =>
    if s.ddrCapacity c ≤ a then s.ddrAnswer c id 2 0
    else
      match s.queuedWrite c a with
      | some w => s.ddrAnswer c id 0 w.data
      | none =>
        let u := s.ddrUnit c
        if 128 ≤ (u.queue.filter (fun r => !r.write)).length + b2n u.pending.isSome then s
        else (s.setDdrUnit c { u with queue := u.queue ++ [{ id := id, write := false, line := a, prio := prio }] }).ddrLevels c

/-- A write is presented. -/
def ddrPresentWrite (s : State) (c id a prio : Nat) (d : BitVec 512) : State :=
  let s := s.ddrAnew c
  match s.ddrRefusal c with
  | some code => s.ddrAnswer c id code 0
  | none =>
    if s.ddrCapacity c ≤ a then s.ddrAnswer c id 2 0
    else
      let u := s.ddrUnit c
      if 64 ≤ (u.queue.filter (·.write)).length then s
      else (s.setDdrUnit c { u with queue := u.queue ++ [{ id := id, write := true, line := a, prio := prio, data := d }] }).ddrLevels c

/-- The queued writes to a line are performed, oldest first, and leave the queue. -/
def ddrFlushLine (s : State) (c a : Nat) : State :=
  let u := s.ddrUnit c
  let ws := u.queue.filter (fun r => r.write && r.line = a)
  if ws.isEmpty then s
  else
    let t := s.setDdrUnit c { u with queue := u.queue.filter (fun r => !(r.write && r.line = a)) }
    (forEach ws (fun w v => (v.ddrStore c a w.data).ddrAnswer c w.id 0 0) t).ddrLevels c

/-- A crypto engine reads a line: the Skein code, the line, and the state after. -/
def ddrRead (s : State) (c a : Nat) : Nat × BitVec 512 × State :=
  match s.ddrRefusal c with
  | some code => (code, 0, s)
  | none =>
    if s.ddrCapacity c ≤ a then (2, 0, s)
    else
      match s.queuedWrite c a with
      | some w => (0, w.data, s)
      | none =>
        let r := s.ddrCell c a
        if ddrLineClass r.1 (s.ddrX8 c) = 0 then (0, ddrLineData r.1, r.2)
        else
          let t := if ddrLineClass r.1 (s.ddrX8 c) = 1 then r.2.setInt (Pg.ddr c) Ddr.INT_ECC_CORR else r.2
          t.ddrRetryRead c a r.1 0

/-- A crypto engine writes a line: the Skein code and the state after. -/
def ddrWrite (s : State) (c a : Nat) (d : BitVec 512) : Nat × State :=
  match s.ddrRefusal c with
  | some code => (code, s)
  | none => if s.ddrCapacity c ≤ a then (2, s) else (0, (s.ddrFlushLine c a).ddrStore c a d)

/-! ## Rows and the scheduler (R373 to R375) -/

def ddrBank (s : State) (c b : Nat) : DdrBank := SMap.read {} (s.ddrUnit c).banks b
def setDdrBank (s : State) (c b : Nat) (x : DdrBank) : State :=
  s.setDdrUnit c { s.ddrUnit c with banks := SMap.write {} (s.ddrUnit c).banks b x }

/-- A DRAM command is on record for R381; the 64 command clocks before an ALERT hold at most 64 of them. -/
def ddrIssued (s : State) (c b : Nat) (row : Option Nat) : State :=
  s.setDdrUnit c { s.ddrUnit c with issued := ({ bank := b, row := row } :: (s.ddrUnit c).issued).take 64 }

/-- Precharge a bank. -/
def ddrClose (s : State) (c b : Nat) : State :=
  if (s.ddrBank c b).row.isSome then (s.setDdrBank c b { s.ddrBank c b with row := none }).ddrIssued c b none else s

/-- The rank and the bank index of a bank, and the banks of a bank index of a rank. -/
def bankRank (b : Nat) : Nat := b / 32 % 4
def bankIndex (b : Nat) : Nat := b % 4
def indexBanks (rank b : Nat) : List Nat :=
  [0, 1].flatMap (fun sub => (List.range 8).map (fun bg => ((sub * 4 + rank) * 8 + bg) * 4 + b))

def ddrDebt (s : State) (c rank b : Nat) : Nat := SMap.read 0 (s.ddrUnit c).debts (rank * 4 + b)
def setDdrDebt (s : State) (c rank b v : Nat) : State :=
  s.setDdrUnit c { s.ddrUnit c with debts := SMap.write 0 (s.ddrUnit c).debts (rank * 4 + b) v }

/-- A REF of a bank index closes its rows and lowers its activate counts (R375, R376, R378). -/
def ddrRef (s : State) (c rank b : Nat) : State :=
  forEach (indexBanks rank b) (fun k t =>
    let t := t.ddrClose c k
    let x := t.ddrBank c k
    t.setDdrBank c k { x with raa := x.raa - Config.refLowersRaa (t.get (Pg.ddr c) Ddr.DDR_RH_RAAIMT) })
    (s.setDdrDebt c rank b (s.ddrDebt c rank b - 1))

/-- A debt that reaches 4 forces its refresh (R376). -/
def ddrForce (s : State) (c rank b : Nat) : State :=
  if s.ddrDebt c rank b < 4 then s
  else ((s.ddrRef c rank b).count (Pg.ddr c) Ddr.DDR_REF_CNT_FORCED).setInt (Pg.ddr c) Ddr.INT_REF_FORCED

/-- A debt rises by 1. -/
def ddrOwe (s : State) (c rank b : Nat) : State := (s.setDdrDebt c rank b (s.ddrDebt c rank b + 1)).ddrForce c rank b

/-- Activate a row: the activate counts, and may be sampled for neighbour refresh by a free draw (R378, R379). -/
def ddrActivate (s : State) (c b row : Nat) : State :=
  let p := Pg.ddr c
  let x := s.ddrBank c b
  let hit := s.flag p Ddr.DDR_NRF_EN && s.freeVal % 2 ^ s.get p Ddr.DDR_NRF_LOG2 = 0
  let t := if s.flag p Ddr.DDR_NRF_EN then s.took else s
  let t := (t.setDdrBank c b { x with row := some row, raa := x.raa + 1 }).ddrIssued c b (some row)
  if hit then
    (if s.flag p Ddr.DDR_RH_DRFM_OK then t.setDdrBank c b { t.ddrBank c b with sample := some 0 }
     else t.ddrOwe c (bankRank b) (bankIndex b))
  else t

/-- Whether a bank may be activated: not while its count is at RAAMMT (R378). -/
def mayActivate (s : State) (c b : Nat) : Bool :=
  let p := Pg.ddr c
  !(s.flag p Ddr.DDR_RH_RFM_REQ && s.get p Ddr.DDR_RH_RAAMMT ≤ (s.ddrBank c b).raa)

/-- Whether a request is for its bank's open row. -/
def rowHit (s : State) (c : Nat) (r : DdrReq) : Bool := (s.ddrBank c (s.ddrBankOf c r.line)).row = some (s.ddrRow c r.line)

/-- Whether request `r` (the `i`th of the queue) goes before request `q` (the `k`th) (R373). -/
def goesBefore (s : State) (c aged i k : Nat) (r q : DdrReq) : Bool :=
  let ra : Bool := i < aged
  let qa : Bool := k < aged
  if ra ≠ qa then ra
  else if r.write ≠ q.write then r.write == (s.ddrUnit c).drain
  else if r.prio ≠ q.prio then q.prio < r.prio
  else if s.rowHit c r ≠ s.rowHit c q then s.rowHit c r
  else i < k

/-- The request whose command the scheduler issues next: not one behind an older request for its line (R372), nor one that DRAM
timing or a full activate count holds back. -/
def ddrNext (s : State) (c aged : Nat) (wait : List Nat) : Option DdrReq :=
  let q := (s.ddrUnit c).queue
  let idx := List.range q.length
  let able := idx.filter (fun i => match q[i]? with
    | some r => !r.issued && !(wait.elem r.id) && !((q.take i).any (fun o => o.line = r.line)) &&
        (s.rowHit c r || (s.ddrBank c (s.ddrBankOf c r.line)).row.isSome || s.mayActivate c (s.ddrBankOf c r.line))
    | none => false)
  (able.foldl (fun best i => match q[i]?, best with
    | some r, some (k, b) => if s.goesBefore c aged i k r b then some (i, r) else some (k, b)
    | some r, none => some (i, r)
    | none, b => b) (none : Option (Nat × DdrReq))).map (·.2)

/-- How a row is left after the last queued request to it (R375). -/
def ddrLeaveRow (s : State) (c b row : Nat) : State :=
  if (s.ddrUnit c).queue.any (fun r => !r.issued && s.ddrBankOf c r.line = b && s.ddrRow c r.line = row) then s
  else
    match s.get (Pg.ddr c) Ddr.DDR_PAGE_POLICY with
    | 1 => s.ddrClose c b
    | 2 => if 2 ≤ (s.ddrBank c b).pred then s else s.ddrClose c b
    | _ => s

/-- The column command of a request: a write is performed and answered, a read is on its way (R363, R375). -/
def ddrColumn (s : State) (c : Nat) (r : DdrReq) : State :=
  let p := Pg.ddr c
  let b := s.ddrBankOf c r.line
  let row := s.ddrRow c r.line
  let x := s.ddrBank c b
  let pred := if s.get p Ddr.DDR_PAGE_POLICY = 2 then
      (match x.last with
       | some l => if l = row then min 3 (x.pred + 1) else x.pred - 1
       | none => x.pred) else x.pred
  let s := (s.setDdrBank c b { x with last := some row, pred := pred }).ddrIssued c b (some row)
  let u := s.ddrUnit c
  let t := if r.write then
      ((s.setDdrUnit c { u with queue := u.queue.erase r }).ddrStore c r.line r.data).ddrAnswer c r.id 0 0
    else s.setDdrUnit c { u with queue := u.queue.map (fun q => if q = r then { q with issued := true } else q) }
  (t.ddrLeaveRow c b row).ddrLevels c

/-- A request has a row opened for it: its access is no open-row access (R384). -/
def ddrOpens (s : State) (c : Nat) (r : DdrReq) : State :=
  let u := s.ddrUnit c
  s.setDdrUnit c { u with queue := u.queue.map (fun q => if q = r then { q with opened := true } else q) }

/-- The scheduler issues one DRAM command: a column command to an open row, else a precharge of another row, else an activate
(R373). -/
def ddrIssue (s : State) (c aged : Nat) (wait : List Nat) : State :=
  let p := Pg.ddr c
  if s.ddrState c ≠ 3 then s
  else
    let s := s.ddrAnew c
    match s.ddrNext c aged wait with
    | none => s
    | some r =>
      let b := s.ddrBankOf c r.line
      match (s.ddrBank c b).row with
      | some row =>
        if row = s.ddrRow c r.line then (if r.opened then s else s.count p Ddr.DDR_PAGE_CNT_HIT).ddrColumn c r
        else ((s.count p Ddr.DDR_PAGE_CNT_MISS).ddrOpens c r).ddrClose c b
      | none => (s.ddrOpens c r).ddrActivate c b (s.ddrRow c r.line)

/-- The oldest issued read's burst returns (R367, R368). -/
def ddrReturns (s : State) (c : Nat) (err : BitVec 640) : State :=
  let s := s.ddrAnew c
  let u := s.ddrUnit c
  if u.pending.isSome then s
  else
    match u.queue.find? (fun r => r.issued && !r.write) with
    | none => s
    | some r =>
      let v := s.ddrCell c r.line
      let x := v.1 ^^^ err
      let t := v.2.setDdrUnit c { v.2.ddrUnit c with queue := u.queue.erase r }
      let cls := ddrLineClass x (s.ddrX8 c)
      let t := if cls = 1 then t.setInt (Pg.ddr c) Ddr.INT_ECC_CORR else t
      if cls = 0 then (t.ddrAnswer c r.id 0 (ddrLineData x)).ddrLevels c
      else if cls = 1 && u.queue.any (fun q => q.write && q.line = r.line) then
        ((t.ddrTransient c r.line x).ddrAnswer c r.id 0 (ddrLineData (ddrCorrect x (s.ddrX8 c)))).ddrLevels c
      else (t.setDdrUnit c { t.ddrUnit c with pending := some { req := r, burst := x } }).ddrLevels c

/-- The retry's burst returns; a write queued to the line of a corrected read since then supersedes the error (R368 to R370). -/
def ddrRetried (s : State) (c : Nat) (err : BitVec 640) : State :=
  let s := s.ddrAnew c
  let u := s.ddrUnit c
  match u.pending with
  | none => s
  | some k =>
    if ddrLineClass k.burst (s.ddrX8 c) = 1 && u.queue.any (fun q => q.write && q.line = k.req.line) then
      (((s.setDdrUnit c { u with pending := none }).ddrTransient c k.req.line k.burst).ddrAnswer c k.req.id 0
        (ddrLineData (ddrCorrect k.burst (s.ddrX8 c)))).ddrLevels c
    else
    let r := (s.setDdrUnit c { u with pending := none }).ddrRetryRead c k.req.line k.burst err
    (r.2.2.ddrAnswer c k.req.id r.1 r.2.1).ddrLevels c

/-- An open row of a PREDICT bank has stood for `TIMEOUT` with no request to it (R375). -/
def ddrRowTimeout (s : State) (c b : Nat) : State :=
  if s.get (Pg.ddr c) Ddr.DDR_PAGE_POLICY = 2 ∧
      (s.ddrUnit c).queue.all (fun r => s.ddrBankOf c r.line ≠ b || !(s.rowHit c r)) = true then s.ddrClose c b else s

/-! ## Refresh and row-disturbance defence (R376 to R379) -/

/-- Whether no request is queued for bank index `b` of a rank. -/
def indexIdle (s : State) (c rank b : Nat) : Bool :=
  (s.ddrUnit c).queue.all (fun r => let k := s.ddrBankOf c r.line; !(bankRank k = rank && bankIndex k = b && !r.issued))

/-- DRFMsb refreshes the neighbours of a bank's sampled row (R379). -/
def ddrDrfm (s : State) (c b : Nat) : State :=
  if (s.ddrBank c b).sample.isSome then
    let t := s.ddrClose c b
    (t.setDdrBank c b { t.ddrBank c b with sample := none }).count (Pg.ddr c) Ddr.DDR_RH_CNT_DRFM
  else s

/-- tREFI2 passes for a rank: debts rise, forced first, and a sample whose `WINDOW` is over is served (R376, R379, R385). -/
def ddrTick (s : State) (c rank : Nat) : State :=
  if s.ddrState c = 3 then
    let t := forEach (List.range 4) (fun b t => t.ddrOwe c rank b) s
    forEach ((List.range 4).flatMap (indexBanks rank)) (fun k t =>
      match (t.ddrBank c k).sample with
      | some n =>
        if t.get (Pg.ddr c) Ddr.DDR_NRF_WINDOW ≤ n + 1 then t.ddrDrfm c k
        else t.setDdrBank c k { t.ddrBank c k with sample := some (n + 1) }
      | none => t) t
  else s

/-- REFsb to an idle bank index with debt, or REFab in place of four (R376). -/
def ddrRefresh (s : State) (c rank b : Nat) (all : Bool) : State :=
  if s.ddrState c ≠ 3 then s
  else if all then
    (if (List.range 4).all (fun k => 1 ≤ s.ddrDebt c rank k && s.indexIdle c rank k) then
      (forEach (List.range 4) (fun k t => t.ddrRef c rank k) s).count (Pg.ddr c) Ddr.DDR_REF_CNT_REFAB
     else s)
  else if 1 ≤ s.ddrDebt c rank b ∧ s.indexIdle c rank b = true then s.ddrRef c rank b else s

/-- The ranks' refresh rates are read (R377). -/
def ddrPoll (s : State) (c : Nat) (rates : List Nat) : State :=
  let p := Pg.ddr c
  if s.ddrState c = 3 then
    let t := s.setDdrUnit c { s.ddrUnit c with rates := rates }
    let high := rates.any (2 ≤ ·)
    let t := (t.set p Ddr.STATUS_TEMP_2X (b2n (rates.any (1 ≤ ·)))).set p Ddr.STATUS_TEMP_HIGH (b2n high)
    let t := if high && !s.tempHigh then t.setInt Pg.safety Safety.INT_WARN else t
    if high then t.warn Safety.SAF_WARN_DDR else t
  else s

/-- Whether the banks of a bank index are idle: no request is for an open row of theirs. -/
def banksIdle (s : State) (c rank b : Nat) : Bool :=
  (s.ddrUnit c).queue.all (fun r => let k := s.ddrBankOf c r.line; !(bankRank k = rank && bankIndex k = b && s.rowHit c r))

/-- RFMsb for a bank whose count has reached RAAIMT, its bank index idle (R378). -/
def ddrRfm (s : State) (c b : Nat) : State :=
  let p := Pg.ddr c
  let x := s.ddrBank c b
  if s.ddrState c = 3 ∧ s.flag p Ddr.DDR_RH_RFM_REQ = true ∧ s.get p Ddr.DDR_RH_RAAIMT ≤ x.raa ∧
      s.banksIdle c (bankRank b) (bankIndex b) = true then
    let t := forEach (indexBanks (bankRank b) (bankIndex b)) (fun k t => t.ddrClose c k) s
    (t.setDdrBank c b { t.ddrBank c b with raa := x.raa - s.get p Ddr.DDR_RH_RAAIMT }).count p Ddr.DDR_RH_CNT_RFM
  else s

/-! ## Bring-up (R360 to R362) -/

/-- An attempt starts at step 1: the DIMM reset loses the contents. -/
def ddrAttempt (s : State) (c : Nat) (retry : Bool) : State :=
  let t := (s.ddrDropHeld c 1).ddrForget c
  let t := t.setDdrUnit c { t.ddrUnit c with
    step := 1, retry := retry, onAlert := false, banks := [], debts := [], rates := [], issued := [] }
  ((t.ddrTo c 1).set (Pg.ddr c) Ddr.STATUS_REASON 0).count (Pg.ddr c) Ddr.DDR_TRAIN_ATTEMPTS

/-- The channel enters DOWN. -/
def ddrDown (s : State) (c reason : Nat) : State :=
  let p := Pg.ddr c
  let t := ((s.ddrDropHeld c 2).ddrTo c 6).set p Ddr.STATUS_REASON reason
  let t := t.setDdrUnit c { t.ddrUnit c with step := 0 }
  let t := (t.setInt p Ddr.INT_DOWN).warn Safety.SAF_WARN_DDR
  t.event 0x6002 3 p (t.ddrStatus c)

/-- An attempt fails: one retry from step 1, then DOWN; RETRAIN after an ALERT runs once (R361, R381). -/
def ddrAttemptFails (s : State) (c reason : Nat) : State :=
  let u := s.ddrUnit c
  if u.onAlert then s.ddrDown c 6
  else if u.retry then s.ddrDown c reason
  else s.ddrAttempt c true

/-- The channel is READY with every debt at 0. -/
def ddrReady (s : State) (c : Nat) : State :=
  let t := s.setDdrUnit c { s.ddrUnit c with step := 0, retry := false, onAlert := false, banks := [], debts := [], issued := [] }
  t.ddrTo c 3

/-- Steps 9 and 10 end: READY, with its interrupt and event (R360). -/
def ddrServes (s : State) (c : Nat) : State :=
  let t := (s.ddrReady c).setInt (Pg.ddr c) Ddr.INT_READY
  t.event 0x6001 1 (Pg.ddr c) (t.ddrStatus c)

/-- What step 1 reads from the SPD (R356, R358, R365). -/
def ddrSpd (s : State) (c : Nat) (m : Dimm) (rate : Nat) : State :=
  let p := Pg.ddr c
  let t := (((((s.set p Ddr.DDR_CFG_KIND m.kind).set p Ddr.DDR_CFG_RANKS m.ranks).set p Ddr.DDR_CFG_X8 (b2n m.x8)).set p
    Ddr.DDR_CFG_DENSITY m.density).set p Ddr.DDR_CFG_SPD_MAX m.spdMax).set p Ddr.DDR_SPEED_ACTUAL rate
  t.set p Ddr.DDR_CAP_SIZE (t.ddrCapacity c / 2 ^ 14)

/-- What step 8 reads from the mode registers (R378, R379). -/
def ddrModes (s : State) (c : Nat) (m : Dimm) : State :=
  let p := Pg.ddr c
  (((s.set p Ddr.DDR_RH_RFM_REQ (b2n m.rfm)).set p Ddr.DDR_RH_DRFM_OK (b2n m.drfm)).set p Ddr.DDR_RH_RAAIMT m.raaimt).set p
    Ddr.DDR_RH_RAAMMT m.raammt

/-- A bring-up step completes (R360). -/
def ddrStepDone (s : State) (c : Nat) (m : Dimm) : State :=
  let p := Pg.ddr c
  let u := s.ddrUnit c
  if (s.ddrState c = 1 ∨ s.ddrState c = 5) ∧ u.step ≠ 0 then
    if u.step = 1 then
      match s.ddrRate c m with
      | some r => if dimmOk m then (s.ddrSpd c m r).setDdrUnit c { u with step := 2 } else s.ddrAttemptFails c 3
      | none => s.ddrAttemptFails c 3
    else if u.step < 8 then s.setDdrUnit c { u with step := u.step + 1 }
    else
      let t := s.ddrModes c m
      let t := if u.retry then t.count p Ddr.DDR_TRAIN_TRANSIENT else t
      if s.ddrState c = 5 then t.ddrReady c
      else if t.flag p Ddr.CTL_NO_ZERO then t.ddrServes c
      else (t.setDdrUnit c { t.ddrUnit c with step := 0 }).ddrTo c 2
  else s

/-- A bring-up step overruns its timeout (R361). -/
def ddrStepFails (s : State) (c : Nat) (crc : Bool) : State :=
  let k := (s.ddrUnit c).step
  if (s.ddrState c = 1 ∨ s.ddrState c = 5) ∧ k ≠ 0 then
    s.ddrAttemptFails c (if k = 1 then (if crc then 2 else 1) else if k = 2 then 4 else 5)
  else s

/-- The zero fill ends (R362). -/
def ddrFilled (s : State) (c : Nat) : State :=
  if s.ddrState c = 2 then
    let t := s.ddrForget c
    (t.setDdrUnit c { t.ddrUnit c with filled := true }).ddrServes c
  else s

/-- `CTL.RETRAIN`: from DOWN a new attempt; from READY steps 3 to 8 (R361, R385). -/
def ddrRetrains (s : State) (c : Nat) : State :=
  if s.ddrState c = 6 then s.ddrAttempt c false
  else if s.ddrState c = 3 then
    let t := (s.ddrDropHeld c 1).ddrTo c 5
    (t.setDdrUnit c { t.ddrUnit c with step := 3, retry := false, onAlert := false }).count (Pg.ddr c) Ddr.DDR_TRAIN_ATTEMPTS
  else s

/-! ## ALERT and self-refresh (R381 to R383) -/

/-- An ALERT (R381). -/
def ddrAlert (s : State) (c recent : Nat) (again : Bool) : State :=
  let p := Pg.ddr c
  if s.ddrState c ≠ 3 then s
  else
    let t := s.setInt p Ddr.INT_ALERT
    let cmds := ((s.ddrUnit c).issued.take recent).reverse
    let closed := forEach ((s.ddrUnit c).banks.map (·.1)) (fun b t => t.ddrClose c b) t
    if again then
      let t := (closed.count p Ddr.DDR_ALERT_LASTING).ddrDropHeld c 1
      let t := (t.setDdrUnit c { t.ddrUnit c with step := 3, retry := false, onAlert := true }).ddrTo c 5
      t.event 0x6005 3 p (t.ddrStatus c)
    else
      let t := forEach cmds (fun k t => t.setDdrBank c k.bank { t.ddrBank c k.bank with row := k.row }) closed
      (t.count p Ddr.DDR_ALERT_TRANSIENT).event 0x6005 2 p (t.ddrStatus c)

/-- Every request a channel holds is completed: writes performed, reads answered (R382). -/
def ddrComplete (s : State) (c : Nat) : State :=
  let u := s.ddrUnit c
  let held := (u.pending.map (·.req)).toList ++ u.queue
  let t := s.setDdrUnit c { u with queue := [], pending := none, drain := false, answers := [] }
  (forEach held (fun r v =>
    if r.write then (v.ddrStore c r.line r.data).ddrAnswer c r.id 0 0
    else
      let a := v.ddrRead c r.line
      a.2.2.ddrAnswer c r.id a.1 a.2.1) t).ddrLevels c

/-- Self-refresh entry (R382, R385): a fill stops, a training ends with a cold one to follow. -/
def ddrSelfRefresh (s : State) (c : Nat) : State :=
  let p := Pg.ddr c
  if s.ddrState c = 3 then
    let t := s.ddrComplete c
    let t := forEach ((t.ddrUnit c).banks.map (·.1)) (fun b t => t.ddrClose c b) t
    (t.ddrTo c 4).setInt p Ddr.INT_SR_DONE
  else if s.ddrState c = 2 then (s.ddrTo c 4).setInt p Ddr.INT_SR_DONE
  else if s.ddrState c = 1 then
    let t := s.ddrForget c
    (t.setDdrUnit c { t.ddrUnit c with step := 0, retry := false }).ddrTo c 0
  else s

/-- Self-refresh exit with contents kept (R383). -/
def ddrWake (s : State) (c : Nat) : State :=
  if s.ddrState c = 4 then (s.ddrReady c).setInt (Pg.ddr c) Ddr.INT_SR_DONE else s

/-- The channel loses power or is reset with its DIMM: OFF, the contents lost (R354, R382). -/
def ddrOff (s : State) (c : Nat) : State :=
  let t := ((s.ddrDropHeld c 1).ddrForget c).ddrTo c 0
  t.setDdrUnit c { t.ddrUnit c with step := 0, retry := false, onAlert := false }

/-! ## The page's own rules at a bus access (R374, R384) -/

def ddrGuard (s : State) (c off w : Nat) : Option Nat :=
  let p := Pg.ddr c
  let idle := s.ddrState c = 0 ∨ s.ddrState c = 6
  if off = 0x010 then (if b2n (bit w 3) ≠ s.get p Ddr.CTL_NO_ZERO ∧ ¬idle then some 0x8 else none)
  else if off = 0x104 ∨ off = 0x108 ∨ off = 0x140 then (if idle then none else some 0x8)
  else if off = 0x110 then (if bits w 14 8 < bits w 6 0 ∧ bits w 6 0 ≤ 64 then none else some 0x9)
  else none

/-- What a write of `CTL` does: `EN` = 1 in OFF trains, `EN` = 0 in READY enters self-refresh and then OFF; `RETRAIN` (R360, R361). -/
def ddrWritten (s : State) (c off w : Nat) : State :=
  if off = 0x010 then
    let t := if bit w 0 && s.ddrState c = 0 then (if s.domOn (ddrDom c) then s.ddrAttempt c false else s)
      else if !(bit w 0) && s.ddrState c = 3 then ((s.ddrSelfRefresh c).ddrForget c).ddrTo c 0 else s
    if bit w 1 then t.ddrRetrains c else t
  else s

/-- An enabled channel leaves self-refresh, or starts its sequence where it is OFF (R360, R383). -/
def ddrResumes (s : State) (c : Nat) : State := (s.ddrWake c).ddrWritten c 0x010 1

end State
end Sys2Proof.Machine
end

