-- ==== Sys2Proof/Machine/Crypto.lean ====
section
/-! DEFINITION. Inline encryption and integrity (spec/13_memory_encryption.md): regions and rights, XTS and tags, the counter tree
with its metadata cache, poison, initialization, key slots, Anneal. An engine is named by its channel c. A request is served
whole: the reads, checks, retries and writes it causes are one command. -/

namespace Sys2Proof.Machine

open Reg

/-! ## Layout (R386, R388, R398, R399) -/

/-- The endpoint of the crypto engine of a channel. -/
def cryptoEp (c : Nat) : Nat := epOf (c / 2 + 1) (if c % 2 = 0 then 2 else 5) 7 2
/-- The channel of a crypto endpoint. -/
def cryptoChannel (e : Nat) : Nat := 2 * (epDie e - 1) + (if epX e = 2 then 0 else 1)

/-- The master class of a source endpoint (R388). -/
def masterClass (src : Nat) : Option Nat :=
  if isEndpoint src then
    match epType src with
    | 1 => some 0 | 2 => some 1 | 9 => some 2 | 8 => some 3 | 7 => some 4 | 10 => some 5 | _ => none
  else none

/-- The regions whose registers R416 leaves an address of their own: the words of region 8 and `REG_CTL[9]` fall on the registers at
0x300 to 0x320, which stand where the table names them; those two regions can never be opened (log entry 41). -/
def regionList : List Nat := [0, 1, 2, 3, 4, 5, 6, 7, 10, 11, 12, 13, 14, 15]

/-- n_k of a region of `n` lines. -/
def treeCount (n : Nat) : Nat → Nat
  | 0 => n
  | k + 1 => (treeCount n k + 7) / 8
/-- D, the root's level. -/
def treeDepth (n : Nat) : Nat := ((List.range 12).find? (fun k => 1 ≤ k && treeCount n k = 1)).getD 11
/-- The offsets of C_k and T_k from `META_BASE`. -/
def blockOff (n k : Nat) : Nat :=
  treeCount n 1 + ((List.range k).map (fun i => if i = 0 then 0 else treeCount n i + treeCount n (i + 1))).sum
def tagOff (n k : Nat) : Nat := if k = 0 then 0 else blockOff n k + treeCount n k
/-- The lines of the metadata. -/
def metaLength (n : Nat) : Nat := blockOff n (treeDepth n)

/-- Slot `i` of a line of eight 64-bit values. -/
def slot64 (x : BitVec 512) (i : Nat) : Nat := (x >>> (64 * i)).toNat % 2 ^ 64
def setSlot64 (x : BitVec 512) (i v : Nat) : BitVec 512 :=
  (x &&& ~~~(BitVec.ofNat 512 (2 ^ 64 - 1) <<< (64 * i))) ||| (BitVec.ofNat 512 (v % 2 ^ 64) <<< (64 * i))

/-- The poison mark and the largest counter a write produces (R400). -/
def poisonMark : Nat := 2 ^ 64 - 1
def lastCounter : Nat := 2 ^ 64 - 2

/-! ## Cipher and tag (R395, R396) -/

/-- A tag of 64 bytes under a key, a counter and a line address; `kind` is byte 15 of J. -/
def tagOf (key : BitVec 256) (c line v kind : Nat) (x : BitVec 512) : Nat :=
  let g := Aes.ghash (Aes.encrypt key 0) x
  let j := v + line % 2 ^ 32 * 2 ^ 64 + c * 2 ^ 96 + kind * 2 ^ 120
  (g ^^^ Aes.encrypt key j) % 2 ^ 64

/-- The tweak value i. -/
def tweakOf (c line v : Nat) : Nat := v + line % 2 ^ 32 * 2 ^ 64 + c * 2 ^ 96
def encryptLine (k : KeySlot) (c line v : Nat) (x : BitVec 512) : BitVec 512 := Aes.xts (Aes.encrypt k.k1) k.k2 (tweakOf c line v) x
def decryptLine (k : KeySlot) (c line v : Nat) (x : BitVec 512) : BitVec 512 := Aes.xts (Aes.decrypt k.k1) k.k2 (tweakOf c line v) x

namespace State

def cryptoUnit (s : State) (c : Nat) : CryptoUnit := SMap.read {} s.crypto.units c
def setCryptoUnit (s : State) (c : Nat) (u : CryptoUnit) : State :=
  { s with crypto := { s.crypto with units := SMap.write {} s.crypto.units c u } }
def keySlot (s : State) (c k : Nat) : Option KeySlot := SMap.read none (s.cryptoUnit c).slots k
def setKeySlot (s : State) (c k : Nat) (v : Option KeySlot) : State :=
  let t := s.setCryptoUnit c { s.cryptoUnit c with slots := SMap.write none (s.cryptoUnit c).slots k v }
  t.setBit (Pg.crypto c) Crypto.CRY_KEY_LOADED_LOADED k v.isSome
def regionRoot (s : State) (c r : Nat) : RegionRoot := SMap.read {} (s.cryptoUnit c).roots r
def setRegionRoot (s : State) (c r : Nat) (x : RegionRoot) : State :=
  s.setCryptoUnit c { s.cryptoUnit c with roots := SMap.write {} (s.cryptoUnit c).roots r x }

/-! ## Regions (R391 to R394) -/

def regBase (s : State) (c r : Nat) : Nat := s.get (Pg.crypto c) Crypto.REG_BASE_BASE r
def regN (s : State) (c r : Nat) : Nat := s.get (Pg.crypto c) Crypto.REG_N_N r
def regMeta (s : State) (c r : Nat) : Nat := s.get (Pg.crypto c) Crypto.REG_META_META_BASE r
def regMode (s : State) (c r : Nat) : Nat := s.get (Pg.crypto c) Crypto.REG_CTL_MODE r
/-- `REG_CTL.STATE`: 0 OFF, 1 ON, 2 CLOSING. -/
def regState (s : State) (c r : Nat) : Nat := s.get (Pg.crypto c) Crypto.REG_CTL_STATE r
/-- `REG_META_LINES`. -/
def regMetaLines (s : State) (c r : Nat) : Nat := if s.regMode c r = 2 then metaLength (s.regN c r) else 0

/-- The open region a data line lies in. -/
def regionAt (s : State) (c line : Nat) : Option Nat :=
  regionList.find? (fun r => s.regState c r = 1 && s.regBase c r ≤ line && line < s.regBase c r + s.regN c r)

/-- Whether two ranges of lines share a line. -/
def overlap (a n b m : Nat) : Bool := 0 < n && 0 < m && a < b + m && b < a + n

/-- Whether a region of this mode may stand where its registers put it (R391, R393): shape, capacity, and no overlap with another
enabled region or its own metadata. -/
def regionFits (s : State) (c r mode : Nat) : Bool :=
  let b := s.regBase c r
  let n := s.regN c r
  let m := s.regMeta c r
  let ml := if mode = 2 then metaLength n else 0
  b % 64 = 0 && n % 64 = 0 && 64 ≤ n && b + n ≤ s.ddrCapacity c && (ml = 0 || m + ml ≤ s.ddrCapacity c) && !(overlap b n m ml) &&
  regionList.all (fun q => q = r || s.regState c q = 0 ||
    (let qb := s.regBase c q
     let qn := s.regN c q
     let qm := s.regMeta c q
     let ql := s.regMetaLines c q
     !(overlap b n qb qn) && !(overlap b n qm ql) && !(overlap m ml qb qn) && !(overlap m ml qm ql)))

/-- The slot a line of a region is under: below the boundary of its Anneal the new one (R411). -/
def lineSlot (s : State) (c r line : Nat) : Nat :=
  let p := Pg.crypto c
  if s.flag p Crypto.STATUS_ANNEAL_BUSY && s.get p Crypto.STATUS_ANNEAL_REGION = r && line < s.get p Crypto.CRY_ANNEAL_POS_BOUNDARY then
    (s.cryptoUnit c).annealKey
  else s.get p Crypto.REG_CTL_KEY r

/-- The keys a line is under; an empty slot holds zeros (R410). -/
def lineKeys (s : State) (c r line : Nat) : KeySlot := (s.keySlot c (s.lineSlot c r line)).getD { k1 := 0, k2 := 0, kt := 0 }

/-! ## The metadata cache (R402) -/

def metaAt (s : State) (c line : Nat) : Option MetaLine := SMap.find (s.cryptoUnit c).cache line
def putMeta (s : State) (c line : Nat) (m : MetaLine) : State :=
  s.setCryptoUnit c { s.cryptoUnit c with cache := SMap.enter (s.cryptoUnit c).cache line m }
def dropMeta (s : State) (c line : Nat) : State :=
  s.setCryptoUnit c { s.cryptoUnit c with cache := SMap.drop (s.cryptoUnit c).cache line }

/-- The address of a level-k block, and of the tag line of a unit (level 0: data). -/
def blockLine (s : State) (c r k j : Nat) : Nat := s.regMeta c r + blockOff (s.regN c r) k + j
def tagLine (s : State) (c r k j : Nat) : Nat := s.regMeta c r + tagOff (s.regN c r) k + j / 8

/-- Read a counter block that is on chip: the root, or a cached block. -/
def blockData (s : State) (c r k j : Nat) : BitVec 512 :=
  if k = treeDepth (s.regN c r) then (s.regionRoot c r).root else ((s.metaAt c (s.blockLine c r k j)).map (·.data)).getD 0

/-- Change one counter of a block that is on chip; a cached block becomes dirty. -/
def setCounter (s : State) (c r k j i v : Nat) : State :=
  if k = treeDepth (s.regN c r) then
    s.setRegionRoot c r { s.regionRoot c r with root := setSlot64 (s.regionRoot c r).root i v }
  else
    match s.metaAt c (s.blockLine c r k j) with
    | some m => s.putMeta c (s.blockLine c r k j) { m with data := setSlot64 m.data i v, dirty := true }
    | none => s

/-- Store one tag: in the cached tag line, or in DRAM when it is not cached. -/
def putTag (s : State) (c r k j tag : Nat) : State :=
  let line := s.tagLine c r k j
  match s.metaAt c line with
  | some m => s.putMeta c line { m with data := setSlot64 m.data (j % 8) tag, dirty := true }
  | none =>
    let rd := s.ddrRead c line
    (rd.2.2.ddrWrite c line (setSlot64 rd.2.1 (j % 8) tag)).2

/-- A dirty metadata line goes back to DRAM: a counter block's own counter rises in its parent and its tag is rewritten. -/
def metaBack (s : State) (c line : Nat) : State :=
  match s.metaAt c line with
  | none => s
  | some m =>
    if !m.dirty then s
    else if m.level = 0 then (s.putMeta c line { m with dirty := false }).ddrWrite c line m.data |>.2
    else
      let r := m.region
      let v := min lastCounter (slot64 (s.blockData c r (m.level + 1) (m.index / 8)) (m.index % 8) + 1)
      let t := s.setCounter c r (m.level + 1) (m.index / 8) (m.index % 8) v
      let t := t.putTag c r m.level m.index (tagOf (t.regionRoot c r).kr c line v 0xC0 m.data)
      (t.putMeta c line { m with dirty := false }).ddrWrite c line m.data |>.2

/-- Write back the dirty lines that a test accepts: blocks from the lowest level up, so that each parent follows its children, and
the tag lines last. -/
def metaBackAll (s : State) (c : Nat) (p : MetaLine → Bool) : State :=
  forEach ([1, 2, 3, 4, 5, 6, 7, 8, 9, 10, 11, 0]) (fun k t =>
    forEach (((t.cryptoUnit c).cache.filter (fun e => e.2.level = k && p e.2)).map (·.1)) (fun line v => v.metaBack c line) t) s

/-- Whether a cached block lies on the way from the root to unit `j` of level `k` of a region. -/
def onPath (r k j : Nat) (m : MetaLine) : Bool := m.region = r && m.level ≠ 0 && k ≤ m.level && m.index = j / 8 ^ (m.level - k)

/-- The lines that may leave the cache for unit `j` of level `k` of region `r`: no counter block with a cached child, and none that the unit
hangs under (R402). -/
def evictable (s : State) (c r k j : Nat) : List Nat :=
  let es := (s.cryptoUnit c).cache
  (es.filter (fun e => e.2.level = 0 || (!(onPath r k j e.2) &&
    !(es.any (fun k => k.2.region = e.2.region && k.2.level + 1 = e.2.level && k.2.level ≠ 0 && k.2.index / 8 = e.2.index))))).map (·.1)

/-- Make room for one line; which line leaves is free. -/
def evict (s : State) (c r k j : Nat) : State :=
  if (s.cryptoUnit c).cache.length < 1024 then s
  else
    let es := s.evictable c r k j
    let line := es.getD (s.freeVal % es.length) 0
    (s.took.metaBack c line).dropMeta c line

/-- A line of unit `j` of level `k` enters the cache: its tag line or its block. -/
def fill (s : State) (c line k j : Nat) (m : MetaLine) : State := (s.evict c m.region k j).putMeta c line m

/-- The tag line of a unit, cached or filled from DRAM; it is not checked itself (R396). -/
def tagData (s : State) (c r k j : Nat) : BitVec 512 × State :=
  let p := Pg.crypto c
  let line := s.tagLine c r k j
  match s.metaAt c line with
  | some m => (m.data, s.count p Crypto.CRY_META_CNT_HIT)
  | none =>
    let rd := (s.count p Crypto.CRY_META_CNT_MISS).ddrRead c line
    (rd.2.1, rd.2.2.fill c line k j { region := r, level := 0, index := j / 8, data := rd.2.1, dirty := false })

/-! ## Verification (R397, R404) -/

/-- A check failed and its retry passed. -/
def tagTransient (s : State) (c : Nat) : State := s.count (Pg.crypto c) Crypto.CRY_ERR_CNT_TAG_TRANSIENT

end State

/-- What the walk down the tree to a line's level-1 block gives: that block; a poison mark on the way; or a counter block that
fails its check and its retry. -/
inductive Walk
  | ok (block : BitVec 512) (s : State)
  | poisoned (s : State)
  | failed (level : Nat) (s : State)

namespace State

/-- One level of the walk: the block under slot `u >> 3k & 7` of its parent, from the cache or verified from DRAM. -/
def walkLevel (s : State) (c r u k : Nat) (parent : BitVec 512) (upset : Bool) : Walk :=
  let p := Pg.crypto c
  let j := u / 8 ^ k
  let v := slot64 parent (j % 8)
  if v = poisonMark then .poisoned s
  else
    let line := s.blockLine c r k j
    match s.metaAt c line with
    | some m => .ok m.data (s.count p Crypto.CRY_META_CNT_HIT)
    | none =>
      let tags := (s.count p Crypto.CRY_META_CNT_MISS).tagData c r k j
      let want := slot64 tags.1 (j % 8)
      let rd := tags.2.ddrRead c line
      let kr := (s.regionRoot c r).kr
      let entry := fun (d : BitVec 512) => ({ region := r, level := k, index := j, data := d, dirty := false } : MetaLine)
      if rd.1 ≠ 0 then .failed k rd.2.2
      else if tagOf kr c line v 0xC0 rd.2.1 = want && !upset then .ok rd.2.1 (rd.2.2.fill c line k j (entry rd.2.1))
      else
        let again := rd.2.2.ddrRead c line
        if again.1 = 0 && tagOf kr c line v 0xC0 again.2.1 = want then
          .ok again.2.1 ((again.2.2.fill c line k j (entry again.2.1)).tagTransient c)
        else .failed k again.2.2

/-- The walk from the root to the level-1 block of offset `u` (R398, R402, R404). -/
def walk (s : State) (c r u : Nat) (upsets : List Nat) : Walk :=
  let d := treeDepth (s.regN c r)
  ((List.range (d - 1)).map (fun i => d - 1 - i)).foldl (fun w k => match w with
    | .ok b t => t.walkLevel c r u k b (upsets.elem k)
    | other => other) (.ok (s.regionRoot c r).root s)

/-- The data line of a CONF+INT region, verified under its counter: the ciphertext if it passes, at the first or the second
reading. -/
def verifyData (s : State) (c r line v : Nat) (upset : Bool) : Option (BitVec 512) × State :=
  let u := line - s.regBase c r
  let kt := (s.lineKeys c r line).kt
  let tags := s.tagData c r 0 u
  let want := slot64 tags.1 (u % 8)
  let rd := tags.2.ddrRead c line
  if rd.1 ≠ 0 then (none, rd.2.2)
  else if tagOf kt c line v 0x40 rd.2.1 = want && !upset then (some rd.2.1, rd.2.2)
  else
    let again := rd.2.2.ddrRead c line
    if again.1 = 0 && tagOf kt c line v 0x40 again.2.1 = want then (some again.2.1, again.2.2.tagTransient c)
    else (none, again.2.2)

/-! ## Failures (R404 to R407) -/

/-- Load the held error, while none is held. `cls` is the master class; an Anneal has none, and the field is then free. -/
def cryErrInfo (s : State) (c line kind level region : Nat) (cls : Option Nat) : State :=
  let p := Pg.crypto c
  if s.flag p Crypto.CRY_ERR_INFO_VALID then s
  else
    let t := ((((((s.set p Crypto.CRY_ERR_INFO_VALID 1).set p Crypto.CRY_ERR_INFO_KIND kind).set p Crypto.CRY_ERR_INFO_LEVEL level).set p
      Crypto.CRY_ERR_INFO_REGION region).set p Crypto.CRY_ERR_INFO_CLASS (cls.getD s.freeVal)).set p
      Crypto.CRY_ERR_INFO_RESP 4).set p Crypto.CRY_ERR_LINE_LINE line
    if cls.isSome then t else t.took

/-- An event of the engine, with `CRY_ERR_LINE`. -/
def cryEvent (s : State) (c code sev : Nat) : State := s.event code sev (Pg.crypto c) (s.get (Pg.crypto c) Crypto.CRY_ERR_LINE_LINE)

/-- A read fails its retry: nothing stored is changed. -/
def readFails (s : State) (c r line level : Nat) (cls : Option Nat) : State :=
  let p := Pg.crypto c
  let t := (s.cryErrInfo c line (if level = 0 then 1 else 3) level r cls).count p Crypto.CRY_ERR_CNT_TAG_FAIL
  let t := (t.setInt p (if level = 0 then Crypto.INT_TAG_FAIL else Crypto.INT_META_FAIL)).warn Safety.SAF_WARN_CRYPTO
  t.cryEvent c (if level = 0 then 0x6102 else 0x6103) 3

/-- A write fails its retry: the unit is poisoned (R405). -/
def writeFails (s : State) (c r line level : Nat) (cls : Option Nat) : State :=
  let p := Pg.crypto c
  let u := line - s.regBase c r
  let t := s.setCounter c r (level + 1) (u / 8 ^ (level + 1)) (u / 8 ^ level % 8) poisonMark
  let t := ((t.cryErrInfo c line 2 level r cls).count p Crypto.CRY_ERR_CNT_TAG_FAIL).count p Crypto.CRY_ERR_CNT_POISONED
  let t := (t.setInt p Crypto.INT_POISONED).warn Safety.SAF_WARN_CRYPTO
  t.cryEvent c 0x6104 3

/-- A partial write in a CONF or OFF region meets DDR poison (R407). -/
def plainWriteFails (s : State) (c r line : Nat) (cls : Option Nat) : State :=
  (((s.cryErrInfo c line 2 0 r cls).setInt (Pg.crypto c) Crypto.INT_POISONED).warn Safety.SAF_WARN_CRYPTO).cryEvent c 0x6104 3

/-! ## Lines (R395, R401, R403) -/

/-- Raise the high-water value of a region to a counter just written. -/
def highWater (s : State) (c r : Nat) : Nat :=
  s.get (Pg.crypto c) Crypto.REG_HW_LO_HW r + 2 ^ 32 * s.get (Pg.crypto c) Crypto.REG_HW_HI_HW r
def setHighWater (s : State) (c r v : Nat) : State :=
  (s.set (Pg.crypto c) Crypto.REG_HW_LO_HW v r).set (Pg.crypto c) Crypto.REG_HW_HI_HW (v / 2 ^ 32) r

/-- Store a data line under a counter: encrypted, its tag in the cached tag line, `CRY_TAG_INJ` applied once (R403, R416). -/
def storeLine (s : State) (c r line v : Nat) (keys : KeySlot) (x : BitVec 512) : State :=
  let p := Pg.crypto c
  let u := line - s.regBase c r
  let t := s.setCounter c r 1 (u / 8) (u % 8) v
  let t := t.setHighWater c r (max v (t.highWater c r))
  let y := encryptLine keys c line v x
  let tag := tagOf keys.kt c line v 0x40 y
  let tag := if t.flag p Crypto.CRY_TAG_INJ_ARM then tag ^^^ 1 else tag
  let t := (t.tagData c r 0 u).2.set p Crypto.CRY_TAG_INJ_ARM 0
  ((t.putTag c r 0 u tag).ddrWrite c line y).2

/-- Merge bytes into a line under a byte mask. -/
def mergeBytes (old new : BitVec 512) (mask : BitVec 64) : BitVec 512 :=
  let m := (List.range 64).foldl (fun (acc : BitVec 512) i => if mask.getLsbD i then acc ||| (255#512 <<< (8 * i)) else acc) 0
  (old &&& ~~~m) ||| (new &&& m)

/-- Read a line for a master: the code and the plaintext (R387, R392 onward). -/
def lineRead (s : State) (c r line : Nat) (cls : Option Nat) (upsets : List Nat) : Nat × BitVec 512 × State :=
  match s.regMode c r with
  | 0 => s.ddrRead c line
  | 1 =>
    let rd := s.ddrRead c line
    (rd.1, if rd.1 = 0 then decryptLine (s.lineKeys c r line) c line 0 rd.2.1 else 0, rd.2.2)
  | _ =>
    let u := line - s.regBase c r
    match s.walk c r u upsets with
    | .poisoned t => (4, 0, t)
    | .failed k t => (4, 0, t.readFails c r line k cls)
    | .ok b t =>
      let v := slot64 b (u % 8)
      if v = poisonMark then (4, 0, t)
      else
        match t.verifyData c r line v (upsets.elem 0) with
        | (some y, t) => (0, decryptLine (s.lineKeys c r line) c line v y, t)
        | (none, t) => (4, 0, t.readFails c r line 0 cls)

/-- Write a line for a master; an all-ones mask is a full write (R387, R400, R403 to R407). Where the counter above the high-water value would be
the poison mark, a full write to a poisoned line is answered as to an exhausted one (DEDUCED: log entry 106). -/
def lineWrite (s : State) (c r line : Nat) (x : BitVec 512) (mask : BitVec 64) (cls : Option Nat) (upsets : List Nat) : Nat × State :=
  let full := mask = BitVec.allOnes 64
  let keys := s.lineKeys c r line
  match s.regMode c r with
  | 2 =>
    let u := line - s.regBase c r
    match s.walk c r u upsets with
    | .poisoned t => (4, t)
    | .failed k t => (4, t.writeFails c r line k cls)
    | .ok b t =>
      let v := slot64 b (u % 8)
      if v = lastCounter then (4, t.cryEvent c 0x6101 2)
      else if v = poisonMark then
        (if !full then (4, t)
         else if lastCounter ≤ t.highWater c r then (4, t.cryEvent c 0x6101 2)
         else (0, t.storeLine c r line (t.highWater c r + 1) keys x))
      else if full then (0, t.storeLine c r line (v + 1) keys x)
      else
        match t.verifyData c r line v (upsets.elem 0) with
        | (some y, t) => (0, t.storeLine c r line (v + 1) keys (mergeBytes (decryptLine keys c line v y) x mask))
        | (none, t) => (4, t.writeFails c r line 0 cls)
  | mode =>
    let enc := fun d => if mode = 1 then encryptLine keys c line 0 d else d
    if full then s.ddrWrite c line (enc x)
    else
      let rd := s.ddrRead c line
      if rd.1 = 4 then (4, rd.2.2.plainWriteFails c r line cls)
      else if rd.1 ≠ 0 then (rd.1, rd.2.2)
      else
        let old := if mode = 1 then decryptLine keys c line 0 rd.2.1 else rd.2.1
        rd.2.2.ddrWrite c line (enc (mergeBytes old x mask))

/-! ## Master requests (R386 to R392) -/

/-- The code that stops a request before it reaches a line, or the region it may use: an unknown source, a channel that is not
READY, a line beyond capacity, no open region, or a missing right (`w` write). -/
def permit (s : State) (c src line : Nat) (w : Bool) : Except (Nat × Bool) (Nat × Nat) :=
  match masterClass src with
  | none => .error (3, false)
  | some cls =>
    match s.ddrRefusal c with
    | some code => .error (code, false)
    | none =>
      if s.ddrCapacity c ≤ line then .error (2, false)
      else
        match s.regionAt c line with
        | none => .error (3, true)
        | some r =>
          if bit (s.get (Pg.crypto c) Crypto.REG_RIGHTS_RIGHTS r) (2 * cls + b2n w) then .ok (r, cls) else .error (3, true)

/-- A refusal for want of a region or a right counts (R392). -/
def refused (s : State) (c : Nat) (counts : Bool) : State :=
  if counts then (s.count (Pg.crypto c) Crypto.CRY_REFUSED_COUNT).setInt (Pg.crypto c) Crypto.INT_RIGHTS else s

/-- Serve an RD. -/
def cryptoServesRead (s : State) (c : Nat) (f : Flit) (upsets : List Nat) : State :=
  let e := cryptoEp c
  let off := cmdOffset f
  if cmdReserved f ≠ 0 ∨ off % 64 + cmdLen f > 64 then s.respond e (statusTo f 3 false)
  else
    match s.permit c (hdrSrc f) (off / 64) false with
    | .error (code, n) => (s.refused c n).respond e (statusTo f code false)
    | .ok (r, cls) =>
      let a := s.lineRead c r (off / 64) (some cls) upsets
      if a.1 = 0 then a.2.2.respond e (rdataTo f (((leBytes 64 a.2.1.toNat).drop (off % 64)).take (cmdLen f)))
      else a.2.2.respond e (statusTo f a.1 false)

/-- Serve a write of a line under a byte mask. -/
def cryptoServesWrite (s : State) (c : Nat) (f : Flit) (line : Nat) (x : BitVec 512) (mask : BitVec 64) (upsets : List Nat) : State :=
  let e := cryptoEp c
  match s.permit c (hdrSrc f) line true with
  | .error (code, n) => (s.refused c n).respond e (statusTo f code false)
  | .ok (r, cls) =>
    let a := s.lineWrite c r line x mask (some cls) upsets
    a.2.respond e (statusTo f a.1 false)

/-- Serve a WRS: its bytes lie in one line (R387, R299). -/
def cryptoServesShort (s : State) (c : Nat) (f : Flit) (upsets : List Nat) : State :=
  let off := cmdOffset f
  let n := cmdLen f
  if cmdReserved f ≠ 0 ∨ 56 < n ∨ off % 64 + n > 64 then s.respond (cryptoEp c) (statusTo f 3 false)
  else
    s.cryptoServesWrite c f (off / 64) ((f.data >>> 64) <<< (8 * (off % 64)))
      (BitVec.ofNat 64 ((2 ^ n - 1) * 2 ^ (off % 64))) upsets

/-- Serve a line write's pair: WRA `a` and WRD `d`. -/
def cryptoServesPair (s : State) (c : Nat) (a d : Flit) (upsets : List Nat) : State :=
  if cmdReserved a ≠ 0 ∨ cmdLen a ≠ 64 ∨ cmdOffset a % 64 ≠ 0 then s.respond (cryptoEp c) (statusTo a 3 false)
  else s.cryptoServesWrite c a (cmdOffset a / 64) d.data (BitVec.ofNat 64 (a.data >>> 64).toNat) upsets

/-- The request that waits first at an endpoint. -/
def headRequest (s : State) (e : Nat) : Option Flit :=
  match (s.skEnd e).urgQ with
  | f :: _ => some f
  | [] => (s.skEnd e).reqQ.head?

/-- Take it away. -/
def popRequest (s : State) (e : Nat) : State :=
  let x := s.skEnd e
  if x.urgQ.isEmpty then s.setSkEnd e { x with reqQ := x.reqQ.drop 1 } else s.setSkEnd e { x with urgQ := x.urgQ.drop 1 }

/-- The held flit that a WRA or WRD completes (R299). -/
def pairPartner (s : State) (e : Nat) (f : Flit) : Option Flit :=
  ((s.skEnd e).lone.find? (fun l => l.src = hdrSrc f && l.tag = hdrTag f && hdrClass l.flit ≠ hdrClass f)).map (·.flit)
def dropPartner (s : State) (e : Nat) (f : Flit) : State :=
  let x := s.skEnd e
  s.setSkEnd e { x with lone := x.lone.filter (fun l => !(l.src = hdrSrc f && l.tag = hdrTag f)) }
/-- Hold the first flit of a pair. -/
def holdLone (s : State) (e : Nat) (f : Flit) : State :=
  let x := s.skEnd e
  s.setSkEnd e { x with lone := x.lone ++ [{ src := hdrSrc f, tag := hdrTag f, flit := f }] }

/-- The WRA and WRD that the first waiting flit makes whole. -/
def headPair (s : State) (e : Nat) : Option (Flit × Flit) :=
  match s.headRequest e with
  | none => none
  | some f =>
    match s.pairPartner e f with
    | none => none
    | some g => if hdrClass f = 3 then some (f, g) else if hdrClass f = 4 then some (g, f) else none

/-- The byte-enable mask of a WRA. -/
def pairMask (a : Flit) : BitVec 64 := BitVec.ofNat 64 (a.data >>> 64).toNat

/-- Whether a request waits: a RETIRE of the slot that its line is under runs (R410). -/
def slotRetires (s : State) (c : Nat) (f : Flit) : Bool :=
  match (s.cryptoUnit c).keyCmd, s.regionAt c (cmdOffset f / 64) with
  | some (3, k, _), some r => s.regMode c r ≠ 0 && s.lineSlot c r (cmdOffset f / 64) = k
  | _, _ => false

/-- CRYPTO_READ: the engine takes the RD that waits first. -/
def cryptoRead (s : State) (c : Nat) (upsets : List Nat) : State :=
  match s.headRequest (cryptoEp c) with
  | some f => if hdrClass f = 1 && !(s.slotRetires c f) then (s.popRequest (cryptoEp c)).cryptoServesRead c f upsets else s
  | none => s

/-- CRYPTO_PARTIAL_WRITE: a WRS, or a pair whose mask is not all ones. -/
def cryptoPartial (s : State) (c : Nat) (upsets : List Nat) : State :=
  let e := cryptoEp c
  match s.headRequest e, s.headPair e with
  | some f, some (a, d) =>
    if pairMask a ≠ BitVec.allOnes 64 ∧ s.slotRetires c a = false then ((s.popRequest e).dropPartner e f).cryptoServesPair c a d upsets else s
  | some f, none => if hdrClass f = 2 && !(s.slotRetires c f) then (s.popRequest e).cryptoServesShort c f upsets else s
  | none, _ => s

/-- CRYPTO_FULL_WRITE: a pair with all 64 enables set. -/
def cryptoFull (s : State) (c : Nat) (upsets : List Nat) : State :=
  let e := cryptoEp c
  match s.headRequest e, s.headPair e with
  | some f, some (a, d) =>
    if pairMask a = BitVec.allOnes 64 ∧ s.slotRetires c a = false then ((s.popRequest e).dropPartner e f).cryptoServesPair c a d upsets else s
  | _, _ => s

/-! ## Regions open, close and start (R393, R394, R408) -/

/-- A region closes: its dirty metadata goes back and leaves the cache. -/
def regionClosed (s : State) (c r : Nat) : State :=
  if s.regState c r = 2 then
    let t := s.metaBackAll c (fun m => m.region = r)
    let t := t.setCryptoUnit c { t.cryptoUnit c with cache := (t.cryptoUnit c).cache.filter (fun e => e.2.region ≠ r) }
    t.set (Pg.crypto c) Crypto.REG_CTL_STATE 0 r
  else s

/-- Whether `CRY_INIT.START` for a region is refused (R408). -/
def initRefused (s : State) (c r : Nat) : Bool :=
  let p := Pg.crypto c
  let m := s.regMode c r
  !(regionList.elem r) || s.flag p Crypto.STATUS_INIT_BUSY || s.regState c r ≠ 0 || m = 0 || !(s.regionFits c r m) || s.ddrState c ≠ 3 ||
  (s.keySlot c (s.get p Crypto.REG_CTL_KEY r)).isNone

/-- Initialization starts: in CONF+INT a tree key is drawn. -/
def initStarts (s : State) (c r : Nat) : State :=
  let p := Pg.crypto c
  let t := if s.regMode c r = 2 then
      (s.setRegionRoot c r { kr := BitVec.ofNat 256 s.freeVal, root := 0 }).took else s
  let t := (t.set p Crypto.STATUS_INIT_BUSY 1).set p Crypto.REG_CTL_ROOT_VALID 0 r
  t.setCryptoUnit c { t.cryptoUnit c with init := some r }

/-- Initialization ends: every data line the encryption of zeros under counter 0, every counter block zero, every tag, a zero root,
high-water 0. -/
def initEnds (s : State) (c : Nat) : State :=
  let p := Pg.crypto c
  match (s.cryptoUnit c).init with
  | none => s
  | some r =>
    if s.ddrState c ≠ 3 then s
    else
      let keys := s.lineKeys c r (s.regBase c r)
      let t := forEach (List.range (s.regN c r)) (fun u t =>
        let line := t.regBase c r + u
        let y := encryptLine keys c line 0 0
        let t := (t.ddrWrite c line y).2
        if t.regMode c r = 2 then t.putTag c r 0 u (tagOf keys.kt c line 0 0x40 y) else t) s
      let t := if t.regMode c r = 2 then
          forEach ((List.range (treeDepth (t.regN c r))).filter (1 ≤ ·)) (fun k t =>
            forEach (List.range (treeCount (t.regN c r) k)) (fun j t =>
              let line := t.blockLine c r k j
              ((t.ddrWrite c line 0).2).putTag c r k j (tagOf (t.regionRoot c r).kr c line 0 0xC0 0)) t) t
        else t
      let t := (t.setHighWater c r 0).set p Crypto.REG_CTL_ROOT_VALID 1 r
      let t := (t.set p Crypto.STATUS_INIT_BUSY 0).setInt p Crypto.INT_INIT_DONE
      t.setCryptoUnit c { t.cryptoUnit c with init := none }

/-! ## Key slots (R409, R410) -/

/-- Whether an enabled region or a running Anneal names a slot. -/
def slotInUse (s : State) (c k : Nat) : Bool :=
  regionList.any (fun r => s.flag (Pg.crypto c) Crypto.REG_CTL_EN r && s.get (Pg.crypto c) Crypto.REG_CTL_KEY r = k) ||
  (s.flag (Pg.crypto c) Crypto.STATUS_ANNEAL_BUSY && (s.cryptoUnit c).annealKey = k)

/-- A key command starts. -/
def keyCmdStarts (s : State) (c op k : Nat) : State :=
  let t := s.set (Pg.crypto c) Crypto.CRY_KEY_STAT_BUSY 1
  t.setCryptoUnit c { t.cryptoUnit c with keyCmd := some (op, k, s.get (Pg.crypto c) Crypto.CRY_KEY_CTX_CTX) }

/-- A key command completes: keys drawn, derived, or overwritten after the write-backs. -/
def keyCmdEnds (s : State) (c : Nat) : State :=
  let p := Pg.crypto c
  match (s.cryptoUnit c).keyCmd with
  | none => s
  | some (op, k, ctx) =>
    let t := (s.setCryptoUnit c { s.cryptoUnit c with keyCmd := none }).set p Crypto.CRY_KEY_STAT_BUSY 0
    let t := if op = 1 then
        (t.took.took.took).setKeySlot c k (some
          { k1 := BitVec.ofNat 256 t.freeVal, k2 := BitVec.ofNat 256 t.took.freeVal, kt := BitVec.ofNat 256 t.took.took.freeVal })
      else if op = 2 then
        let d := Config.deviceKeys c ctx
        t.setKeySlot c k (some { k1 := d.setWidth 256, k2 := (d >>> 256).setWidth 256, kt := (d >>> 512).setWidth 256 })
      else
        ((t.metaBackAll c (fun _ => true)).setKeySlot c k none).event 0x6105 1 p k
    t.setInt p Crypto.INT_KEY_DONE

/-! ## Anneal (R411 to R414) -/

def annealRegion (s : State) (c : Nat) : Nat := s.get (Pg.crypto c) Crypto.STATUS_ANNEAL_REGION
def annealBusy (s : State) (c : Nat) : Bool := s.flag (Pg.crypto c) Crypto.STATUS_ANNEAL_BUSY

/-- Whether a start is refused. -/
def annealRefused (s : State) (c r key : Nat) : Bool :=
  !(regionList.elem r) || s.regState c r ≠ 1 || s.regMode c r = 0 || s.annealBusy c || (s.keySlot c key).isNone ||
  s.get (Pg.crypto c) Crypto.REG_CTL_KEY r = key

def annealStarts (s : State) (c r key : Nat) : State :=
  let p := Pg.crypto c
  let t := ((s.set p Crypto.STATUS_ANNEAL_BUSY 1).set p Crypto.STATUS_ANNEAL_REGION r).set p Crypto.CRY_ANNEAL_POS_BOUNDARY (s.regBase c r)
  t.setCryptoUnit c { t.cryptoUnit c with annealKey := key }

/-- A line takes the poison mark outside a failed write: an exhausted line of an Anneal, or a preset; the unit counts (R412, R417). -/
def markPoisoned (s : State) (c r u : Nat) : State :=
  ((s.setCounter c r 1 (u / 8) (u % 8) poisonMark).count (Pg.crypto c) Crypto.CRY_ERR_CNT_POISONED).setInt (Pg.crypto c) Crypto.INT_POISONED

/-- The boundary line is read under the old slot and written under the new one; a poisoned line is passed over, an exhausted one
poisoned, one that fails verification poisoned (R412). -/
def annealMoves (s : State) (c : Nat) (upsets : List Nat) : State :=
  let p := Pg.crypto c
  let r := s.annealRegion c
  let line := s.get p Crypto.CRY_ANNEAL_POS_BOUNDARY
  if s.annealBusy c = false ∨ s.ddrState c ≠ 3 ∨ s.regBase c r + s.regN c r ≤ line then s
  else
    let new := (s.keySlot c (s.cryptoUnit c).annealKey).getD { k1 := 0, k2 := 0, kt := 0 }
    let old := s.lineKeys c r line
    let t := if s.regMode c r = 1 then
        let rd := s.ddrRead c line
        if rd.1 = 0 then (rd.2.2.ddrWrite c line (encryptLine new c line 0 (decryptLine old c line 0 rd.2.1))).2
        else rd.2.2.plainWriteFails c r line none
      else
        let u := line - s.regBase c r
        match s.walk c r u upsets with
        | .poisoned t => t
        | .failed k t => t.writeFails c r line k none
        | .ok b t =>
          let v := slot64 b (u % 8)
          if v = poisonMark then t
          else if v = lastCounter then t.markPoisoned c r u
          else
            match t.verifyData c r line v (upsets.elem 0) with
            | (some y, t) => t.storeLine c r line (v + 1) new (decryptLine old c line v y)
            | (none, t) => t.writeFails c r line 0 none
    t.set p Crypto.CRY_ANNEAL_POS_BOUNDARY (line + 1)

/-- The boundary has reached the end (R414). -/
def annealEnds (s : State) (c : Nat) : State :=
  let p := Pg.crypto c
  let r := s.annealRegion c
  if s.annealBusy c ∧ s.get p Crypto.CRY_ANNEAL_POS_BOUNDARY = s.regBase c r + s.regN c r then
    let t := ((s.set p Crypto.REG_CTL_KEY (s.cryptoUnit c).annealKey r).set p Crypto.STATUS_ANNEAL_BUSY 0).setInt p Crypto.INT_ANNEAL_DONE
    t.event 0x6106 1 p r
  else s

/-! ## Counter preset (R417) -/

/-- The line `CRY_CTR_LINE` names takes the counter `CRY_CTR_VAL`. -/
def preset (s : State) (c : Nat) (o : Origin) : State :=
  let p := Pg.crypto c
  let line := s.get p Crypto.CRY_CTR_LINE_LINE
  let v := s.get p Crypto.CRY_CTR_VAL_LO_VAL + 2 ^ 32 * s.get p Crypto.CRY_CTR_VAL_HI_VAL
  match s.regionAt c line with
  | none => s
  | some r =>
    if s.regMode c r ≠ 2 ∨ s.ddrState c ≠ 3 then s
    else
      let u := line - s.regBase c r
      match s.walk c r u [] with
      | .poisoned t => t.capture p 0xC o 0x810
      | .failed k t => t.writeFails c r line k none
      | .ok b t =>
        let old := slot64 b (u % 8)
        if v ≤ old then t.capture p 0xC o 0x810
        else if v = poisonMark then t.markPoisoned c r u
        else
          let keys := t.lineKeys c r line
          match t.verifyData c r line old false with
          | (some y, t) => t.storeLine c r line v keys (decryptLine keys c line old y)
          | (none, t) => t.writeFails c r line 0 none

/-! ## Self-refresh and loss (R402, R415, R418) -/

/-- Before the channel enters self-refresh, dirty metadata goes back and a running initialization stops. -/
def cryptoSettles (s : State) (c : Nat) : State :=
  let t := s.metaBackAll c (fun _ => true)
  (t.setCryptoUnit c { t.cryptoUnit c with init := none }).set (Pg.crypto c) Crypto.STATUS_INIT_BUSY 0

/-- The root state is zeroized (R415). -/
def cryptoZeroize (s : State) (c : Nat) : State :=
  let p := Pg.crypto c
  let t := (((s.setCryptoUnit c {}).set p Crypto.CRY_KEY_LOADED_LOADED 0).set p Crypto.CRY_KEY_STAT_BUSY 0).set p Crypto.STATUS_INIT_BUSY 0
  forEach regionList (fun r t => (t.set p Crypto.REG_CTL_ROOT_VALID 0 r).setHighWater c r 0)
    ((t.set p Crypto.STATUS_ANNEAL_BUSY 0).set p Crypto.CRY_ANNEAL_POS_BOUNDARY 0)

/-! ## The page's own rules at a bus access -/

/-- Writes the page drops, with the code captured (R393, R408 to R414). A write of the reserved `MODE` leaves the field as it is (R16),
and is judged by that mode. -/
def cryptoGuard (s : State) (c off w : Nat) : Option Nat :=
  let p := Pg.crypto c
  if 0x200 ≤ off ∧ off < 0x400 ∧ ¬(0x300 ≤ off ∧ off ≤ 0x320) then
    let r := (off - 0x200) / 0x20
    if (off - 0x200) % 0x20 = 0 then
      let mode := if bits w 1 0 = 3 then s.regMode c r else bits w 1 0
      if s.annealBusy c && s.annealRegion c = r then some 0x8
      else if bit w 31 then
        (if s.regState c r = 2 then some 0x8
         else if s.regState c r = 1 then
           (if bits w 12 8 = s.get p Crypto.REG_CTL_KEY r ∧ mode = s.regMode c r then none else some 0x8)
         else if !(s.regionFits c r mode) ∨ (mode = 2 ∧ s.flag p Crypto.REG_CTL_ROOT_VALID r = false) ∨
             (mode ≠ 0 ∧ (s.keySlot c (bits w 12 8)).isNone) then some 0xB
         else none)
      else none
    else if s.flag p Crypto.REG_CTL_EN r then some 0x8 else none
  else if off = 0x300 then
    (if bit w 31 && s.annealRefused c (bits w 3 0) (bits w 12 8) then some 0x9 else none)
  else if off = 0x30C then (if bit w 31 && s.initRefused c (bits w 3 0) then some 0x8 else none)
  else if off = 0x100 then
    let k := bits w 4 0
    if s.flag p Crypto.CRY_KEY_STAT_BUSY then some 0x8
    else if bits w 31 28 = 3 then (if s.slotInUse c k then some 0xA else none)
    else if (bits w 31 28 = 1 ∨ bits w 31 28 = 2) ∧ (s.keySlot c k).isSome then some 0xA
    else none
  else none

def cryptoWritten (s old : State) (c : Nat) (o : Origin) (off w : Nat) : State :=
  let p := Pg.crypto c
  if off = 0x100 then (if 1 ≤ bits w 31 28 ∧ bits w 31 28 ≤ 3 then s.keyCmdStarts c (bits w 31 28) (bits w 4 0) else s)
  else if off = 0x300 then
    (if bit w 31 then s.annealStarts c (bits w 3 0) (bits w 12 8) else s)
  else if off = 0x30C then (if bit w 31 then s.initStarts c (bits w 3 0) else s)
  else if off = 0x810 then (if bit w 0 then s.preset c o else s)
  else if 0x200 ≤ off ∧ off < 0x400 ∧ ¬(0x300 ≤ off ∧ off ≤ 0x320) ∧ (off - 0x200) % 0x20 = 0 then
    let r := (off - 0x200) / 0x20
    if bit w 31 then s.set p Crypto.REG_CTL_STATE 1 r
    else if old.flag p Crypto.REG_CTL_EN r then s.set p Crypto.REG_CTL_STATE 2 r
    else s
  else s

end State
end Sys2Proof.Machine
end

