-- ==== Sys2Proof/Machine/LanePcs.lean ====
section
/-! DEFINITION. The line coding of a lane (spec/11_serial_lanes.md R323, R330, R336): oversampling, the levels of PAM4, the 8b/10b characters and
the scrambler of the 66-bit blocks. The manual names the clauses of IEEE 802.3 that define them and does not repeat them; the tables here are
PRESUMED from those clauses (log entry 102). A run of bits is a list, the earliest first, or a number with the earliest in bit 0. -/

namespace Sys2Proof.Machine

/-! ## Symbols and bits -/

/-- One bit of `OS` samples by majority, a tie taken as the first sample (R323). -/
def majority (xs : List Bool) : Bool :=
  let n := (xs.filter id).length
  if 2 * n = xs.length then xs.headD false else xs.length < 2 * n

/-- The bits of whole groups of `os` samples, and the samples left over; `fuel` bounds the groups. -/
def undersample (os : Nat) : Nat → List Bool → List Bool × List Bool
  | 0, xs => ([], xs)
  | fuel + 1, xs =>
    if xs.length < os then ([], xs)
    else
      let r := undersample os fuel (xs.drop os)
      (majority (xs.take os) :: r.1, r.2)

/-- The two bits of a PAM4 level, Gray-coded, most significant first (R330). -/
def grayBits (l : Nat) : List Bool := [2 ≤ l, l = 1 || l = 2]

/-- The PAM4 level of two bits. -/
def grayLevel (hi lo : Bool) : Nat := if hi then (if lo then 2 else 3) else (if lo then 1 else 0)

/-- A received level with the polarity inversion and the 1/(1+D) precoding undone: the sum of two received levels, modulo 4 (R329). -/
def unprecode (inv pre : Bool) (prev l : Nat) : Nat × Nat :=
  let x := if inv then 3 - l else l
  (if pre then (x + prev) % 4 else x, x)

/-- The bits of received symbols, and the last level. -/
def symbolBits (pam4 inv pre : Bool) : List (BitVec 2) → Nat → List Bool × Nat
  | [], prev => ([], prev)
  | y :: ys, prev =>
    if pam4 then
      let r := unprecode inv pre prev y.toNat
      let t := symbolBits pam4 inv pre ys r.2
      (grayBits r.1 ++ t.1, t.2)
    else
      let t := symbolBits pam4 inv pre ys prev
      ((bit y.toNat 0 != inv) :: t.1, t.2)

/-- The symbols that send bits: each bit `os` times on NRZ, pairs of bits as levels on PAM4, precoded and inverted as set (R323, R329, R330). -/
def bitSymbols (pam4 inv pre : Bool) (os : Nat) : List Bool → Nat → List (BitVec 2)
  | [], _ => []
  | b :: bs, prev =>
    if pam4 then
      match bs with
      | [] => []
      | c :: cs =>
        let l := grayLevel b c
        let x := if pre then (l + 4 - prev) % 4 else l
        BitVec.ofNat 2 (if inv then 3 - x else x) :: bitSymbols pam4 inv pre os cs x
    else List.replicate os (BitVec.ofNat 2 (b2n (b != inv))) ++ bitSymbols pam4 inv pre os bs prev

/-! ## Link training: the coefficient update of Clause 72 and Clause 136 (R329) -/

/-- Coefficient `k` of `LANE_TXEQ.TAPS`: 0 is c(-3), 3 is c(0), 4 is c(1). -/
def tap (taps k : Nat) : Int := (BitVec.ofNat 6 (taps / 64 ^ k)).toInt

/-- The taps with a coefficient replaced. -/
def putTap (taps k : Nat) (v : Int) : Nat := taps - taps / 64 ^ k % 64 * 64 ^ k + (BitVec.ofInt 6 v).toNat * 64 ^ k

/-- Taps that the transmitter can drive: the sum of their magnitudes is at most 32 (R350). -/
def tapsOk (taps : Nat) : Bool := ((List.range 5).map (fun k => (tap taps k).natAbs)).sum ≤ 32

/-- A coefficient moved by 1, and whether it could move. -/
def stepTap (taps k : Nat) (d : Int) : Nat × Bool :=
  let v := tap taps k + d
  let new := putTap taps k v
  if -32 ≤ v ∧ v ≤ 31 ∧ tapsOk new = true then (new, true) else (taps, false)

/-- No equalization: c(0) at its highest and every other tap 0, the reset value of `TAPS`. -/
def tapsPlain : Nat := 0x007C0000

/-- What a control field does: the new taps, none where the manual states none; a precoding request; the status reported. -/
structure TrainAnswer where
  taps : Option Nat
  precode : Option Bool := none
  status : Nat
  deriving DecidableEq, Repr

/-- A coefficient request of Clause 72 at bits `[2j+1:2j]`: 1 increments and 2 decrements; status 1 updated, 2 at its minimum, 3 at its
maximum. -/
def c72Step (x : Nat) (a : Nat × Nat) (j : Nat) : Nat × Nat :=
  match bits x (2 * j + 1) (2 * j) with
  | 1 => let r := stepTap a.1 (2 + j) 1; (r.1, a.2 + (if r.2 then 1 else 3) * 4 ^ j)
  | 2 => let r := stepTap a.1 (2 + j) (-1); (r.1, a.2 + (if r.2 then 1 else 2) * 4 ^ j)
  | _ => a

/-- The coefficient that a select code of Clause 136, or of K224, addresses. -/
def selectTap (k224 : Bool) (code : Nat) : Option Nat :=
  if k224 then (if code ≤ 4 then some code else none)
  else match code with | 6 => some 1 | 7 => some 2 | 0 => some 3 | 1 => some 4 | _ => none

/-- A control field in a mode: 0 C72, 1 C136, 2 K224 (R329). -/
def trainRequest (mode taps x : Nat) : TrainAnswer :=
  if mode = 0 then
    if bit x 13 then { taps := some tapsPlain, status := 0b010101 }
    else if bit x 12 then { taps := none, status := 0b010101 }
    else
      let r := (List.range 3).foldl (c72Step x) (taps, 0)
      { taps := some r.1, status := r.2 }
  else
    let code := bits x 4 2
    let pre := match bits x 9 8 with | 2 => some false | 3 => some true | _ => none
    let echo := fun (n : Nat) => n + 8 * code + 2 ^ 10 * bits x 9 8
    match bits x 13 12 with
    | 1 => { taps := some tapsPlain, precode := pre, status := echo 0 + 2 ^ 8 }
    | 0 =>
      match selectTap (mode = 2) code with
      | none => { taps := some taps, precode := pre, status := echo 4 }
      | some k =>
        match bits x 1 0 with
        | 1 => let r := stepTap taps k 1; { taps := some r.1, precode := pre, status := echo (if r.2 then 1 else 2) }
        | 2 => let r := stepTap taps k (-1); { taps := some r.1, precode := pre, status := echo (if r.2 then 1 else 2) }
        | 3 => { taps := some (putTap taps k (if k = 3 then 31 else 0)), precode := pre, status := echo 1 }
        | _ => { taps := some taps, precode := pre, status := echo 0 }
    | _ => { taps := none, precode := pre, status := echo 0 + 2 ^ 8 }

/-! ## 8b/10b characters (Clause 36): 9 bits, the data in bits 7 to 0 and the K flag in bit 8 -/

/-- The 6-bit sub-blocks abcdei at negative disparity, a in bit 5, of D.0 to D.31. -/
def sixBits : List Nat :=
  [0b100111, 0b011101, 0b101101, 0b110001, 0b110101, 0b101001, 0b011001, 0b111000] ++
  [0b111001, 0b100101, 0b010101, 0b110100, 0b001101, 0b101100, 0b011100, 0b010111] ++
  [0b011011, 0b100011, 0b010011, 0b110010, 0b001011, 0b101010, 0b011010, 0b111010] ++
  [0b110011, 0b100110, 0b010110, 0b110110, 0b001110, 0b101110, 0b011110, 0b101011]

/-- The 4-bit sub-blocks fghj at negative disparity, f in bit 3: of data, and of K.28. -/
def fourBits : List Nat := [0b1011, 0b1001, 0b0101, 0b1100, 0b1101, 0b1010, 0b0110, 0b1110]
def fourBitsK : List Nat := [0b1011, 0b0110, 0b1010, 0b1100, 0b1101, 0b0101, 0b1001, 0b0111]

/-- The K characters. -/
def kCodes : List Nat := [0x1C, 0x3C, 0x5C, 0x7C, 0x9C, 0xBC, 0xDC, 0xFC, 0xF7, 0xFB, 0xFD, 0xFE]

/-- A sub-block of `n` bits at disparity `pos`: complemented at positive disparity where it is unbalanced, or `flips`. -/
def subBlock (n code : Nat) (pos flips : Bool) : Nat :=
  if pos && (2 * popcount n code ≠ n || flips) then 2 ^ n - 1 - code else code

/-- The disparity after a sub-block. -/
def disparity (n code : Nat) (pos : Bool) : Bool :=
  if 2 * popcount n code = n then pos else decide (n < 2 * popcount n code)

/-- `n` bits in reverse order. -/
def reverseBits (n x : Nat) : Nat := ((List.range n).map (fun i => if bit x i then 2 ^ (n - 1 - i) else 0)).sum

/-- The code-group of a character at a running disparity, its bit a in bit 0, and the disparity after it. -/
def encodeChar (pos : Bool) (c : Nat) : Nat × Bool :=
  let k : Bool := bit c 8
  let x := c % 32
  let y := c / 32 % 8
  let six := subBlock 6 (if k && x = 28 then 0b001111 else sixBits.getD x 0) pos (!k && x = 7)
  let mid := disparity 6 six pos
  let a7 : Bool := y = 7 && (k || (!mid && (x = 17 || x = 18 || x = 20)) || (mid && (x = 11 || x = 13 || x = 14)))
  let four := subBlock 4 (if k && x = 28 then fourBitsK.getD y 0 else if a7 then 0b0111 else fourBits.getD y 0) mid ((k && x = 28) || y = 3)
  (reverseBits 10 (six * 16 + four), disparity 4 four mid)

/-- The character of a received code-group at a running disparity: K 0x1FE where the group is invalid or has the wrong disparity (R330); with the
disparity after it. -/
def decodeChar (pos : Bool) (g : Nat) : Nat × Bool :=
  match (List.range 256 ++ kCodes.map (· + 256)).find? (fun c => (encodeChar pos c).1 = g) with
  | some c => (c, (encodeChar pos c).2)
  | none => (0x1FE, disparity 10 g pos)

/-! ## The scrambler 1 + x^39 + x^58 (Clause 49): the last 58 scrambled bits, the latest in bit 0 -/

def scramble : Nat → Nat → Nat → Nat × Nat
  | 0, _, st => (0, st)
  | n + 1, x, st =>
    let b := b2n ((x % 2 = 1) != (bit st 38 != bit st 57))
    let r := scramble n (x / 2) ((st * 2 + b) % 2 ^ 58)
    (b + 2 * r.1, r.2)

def descramble : Nat → Nat → Nat → Nat × Nat
  | 0, _, st => (0, st)
  | n + 1, x, st =>
    let r := descramble n (x / 2) ((st * 2 + x % 2) % 2 ^ 58)
    (b2n ((x % 2 = 1) != (bit st 38 != bit st 57)) + 2 * r.1, r.2)

end Sys2Proof.Machine
end

