-- ==== Sys2Proof/Machine/Lane.lean ====
section
/-! DEFINITION. Serial lanes, octet PLLs and lane adapters (spec/11_serial_lanes.md): the lane states, the transmit FIFO, PRBS,
timestamps, and the reflex tables with their releases and responses. A lane is named by its page, an octet PLL and an adapter
by die and local octet. -/

namespace Sys2Proof.Machine

open Reg

/-! ## Names (R321) -/

/-- The page of octet PLL or adapter of the octet a lane page lies in. -/
def laneDie (p : Nat) : Nat := pageDie p
def laneIsL (p : Nat) : Bool := 0x60 ≤ pageInDie p
def laneOctet (p : Nat) : Nat := (pageInDie p - 0x40) / 8
def laneIndex (p : Nat) : Nat := pageInDie p % 8
/-- The lane number n. -/
def laneNumber (p : Nat) : Nat := 32 * (pageDie p - 5) + (pageInDie p - 0x40) % 32
def laneOpll (p : Nat) : Nat := Pg.opll (laneDie p) (laneOctet p)
def laneAdapter (p : Nat) : Nat := Pg.adapter (laneDie p) (laneOctet p)
/-- The page of lane `i` of octet `o` of a lane die. -/
def octetLane (d o i : Nat) : Nat := Pg.dieBase d + 0x40 + 8 * o + i
/-- The adapter's Skein endpoint (R294, R321). -/
def adapterEp (d o : Nat) : Nat := epOf d o 0 0

/-- An idle control block as the stream carries it: sync header first (R330). -/
def idleBlock : Nat := 1 + 4 * 0x1E
/-- The bits of a block's frame start: bytes to skip before frame byte 0 (Clause 49). -/
def startSkip (b : Nat) : Option Nat :=
  if b % 4 = 1 then
    let ty := b / 4 % 256
    if ty = 0x78 then some 0 else if ty = 0x33 ∨ ty = 0x66 then some 4 else none
  else none
/-- The types of the blocks that end a frame, by how many of its bytes they carry (Clause 49). -/
def endTypes : List Nat := [0x87, 0x99, 0xAA, 0xB4, 0xCC, 0xD2, 0xE1, 0xFF]
/-- How many bytes of the frame that it ends a block carries. -/
def endBytes (b : Nat) : Option Nat := if b % 4 = 1 then endTypes.findIdx? (· = b / 4 % 256) else none
/-- Whether a block ends a frame. -/
def endsFrame (b : Nat) : Bool := (endBytes b).isSome
/-- SUSPEND and RESUME (R346). -/
def suspendBlock : Nat := 1 + 4 * (0x4B + 0xA * 2 ^ 32)
def resumeBlock : Nat := 1 + 4 * (0x4B + 0xB * 2 ^ 32)

/-- The blocks of a frame's bytes after its start block; `fuel` bounds them. -/
def frameRest : Nat → List Byte → List Nat
  | 0, _ => []
  | fuel + 1, bytes =>
    if bytes.length < 8 then [1 + 4 * (endTypes.getD bytes.length 0 + 256 * leNat bytes)]
    else (2 + 4 * leNat (bytes.take 8)) :: frameRest fuel (bytes.drop 8)

/-- The blocks of a complete frame: a start block with the preamble, the data, and a terminate block (Clause 49). -/
def frameBlocks (bytes : List Byte) : List Nat :=
  (1 + 4 * (0x78 + 256 * leNat (List.replicate 6 0x55 ++ [0xD5]))) :: frameRest (bytes.length + 1) bytes

/-- Stream bits that the receiver has decoded (R330). -/
def LaneUnit.pushRx (u : LaneUnit) (n x : Nat) : LaneUnit :=
  { u with rxLen := u.rxLen + n, rxBits := u.rxBits + x % 2 ^ n * 2 ^ u.rxLen }

/-- The frame that the decoder is inside follows the blocks it delivers: SUSPEND and RESUME set it aside and take it up again, and a frame whose
terminate block has left the decoder waits for its match (R342, R346). -/
def LaneUnit.trackFrame (u : LaneUnit) (b : Nat) : LaneUnit :=
  if b % 4 = 1 then
    if b = suspendBlock then { u with rxFrame := none, rxHeld := u.rxFrame }
    else if b = resumeBlock then { u with rxFrame := u.rxHeld, rxHeld := none }
    else
      match startSkip b, endBytes b, u.rxFrame with
      | some k, _, _ => { u with rxFrame := some { skip := k, head := [] } }
      | none, some k, some f =>
        { u with rxFrame := none, rxFrames := u.rxFrames ++ [f.head ++ ((leBytes 7 (b / 1024)).take k).drop f.skip] }
      | none, _, _ => u
  else
    match u.rxFrame with
    | some f => { u with rxFrame := some { skip := 0, head := f.head ++ (leBytes 8 (b / 4)).drop f.skip } }
    | none => u

/-- The decoder delivers a 66-bit block. -/
def LaneUnit.pushBlock (u : LaneUnit) (b : Nat) : LaneUnit := (u.pushRx 66 b).trackFrame b

/-- The line bits of a block, a character or a raw word of the stream, with the encoder after it (R330). With FEC the codewords that carry the
blocks are not formed (log entry 102). -/
def LaneUnit.encode (u : LaneUnit) (pcs n x : Nat) : List Bool × LaneUnit :=
  let bits := fun (k y : Nat) => (List.range k).map (bit y)
  if pcs = 3 then
    let r := encodeChar u.txDisp (x % 512)
    (bits 10 r.1, { u with txDisp := r.2 })
  else if pcs = 4 then
    let r := scramble 64 (x / 4) u.txScr.toNat
    (bits 2 x ++ bits 64 r.1, { u with txScr := BitVec.ofNat 58 r.2 })
  else (bits n x, u)

namespace State

def laneUnit (s : State) (p : Nat) : LaneUnit := SMap.read {} s.lanes.lanes p
def setLaneUnit (s : State) (p : Nat) (u : LaneUnit) : State :=
  { s with lanes := { s.lanes with lanes := SMap.write {} s.lanes.lanes p u } }
def adapter (s : State) (p : Nat) : AdapterUnit := SMap.read {} s.lanes.adapters p
def setAdapter (s : State) (p : Nat) (u : AdapterUnit) : State :=
  { s with lanes := { s.lanes with adapters := SMap.write {} s.lanes.adapters p u } }

/-! ## Rates (R154, R322 to R325, R330, R332) -/

/-- f_LREF in units of 0.5 Hz (R457). -/
def lrefHalfHz (s : State) (d : Nat) (ref1 : Bool) : Nat :=
  match s.get Pg.clock (if ref1 then Clock.CLK_LREF_FREQ1 else Clock.CLK_LREF_FREQ0) (d - 5) with
  | 1 => 312500000 | 2 => 322265625 | 3 => 400000000 | 4 => 425000000 | _ => 0

/-- f_R of PLL A (0) or B (1) of an octet, in units of 2^-25 Hz (R324). -/
def rateClock (s : State) (pg ab : Nat) : Nat :=
  s.lrefHalfHz (pageDie pg) (s.flag pg Opll.OPLL_CFG_REF ab) *
    (s.get pg Opll.OPLL_CFG_NINT ab * 2 ^ 24 + s.get pg Opll.OPLL_FRAC_NFRAC ab)

/-- Whether f_R lies in the octet's range (R324): W octets are 0 to 3. -/
def rateClockOk (s : State) (pg ab : Nat) : Bool :=
  let f := s.rateClock pg ab
  if pageInDie pg - 0x80 < 4 then 10000000000 * 2 ^ 25 ≤ f && f ≤ 56000000000 * 2 ^ 25
  else 2400000000 * 2 ^ 25 ≤ f && f ≤ 16000000000 * 2 ^ 25

/-- D, OS and m of a lane (R322). -/
def laneD (s : State) (p : Nat) : Nat := 2 ^ s.get p Lane.LANE_RATE_DIV
def laneOS (s : State) (p : Nat) : Nat := 2 ^ s.get p Lane.LANE_RATE_OS
def laneM (s : State) (p : Nat) : Nat := 1 + s.get p Lane.LANE_RATE_MOD

/-- B × D of a lane, in units of 2^-25 Bd. -/
def laneBaudD (s : State) (p : Nat) : Nat := 2 * s.rateClock (laneOpll p) (s.get p Lane.LANE_RATE_PLL)

/-- Whether the lane's combination is one the table of R322 lists and its PCS, FEC and oversampling agree (R323, R330). -/
def laneRateOk (s : State) (p : Nat) : Bool :=
  let b := s.laneBaudD p
  let u := s.laneD p * 2 ^ 25
  let pam4 := s.flag p Lane.LANE_RATE_MOD
  let os := s.get p Lane.LANE_RATE_OS
  let fec := s.get p Lane.LANE_RATE_FEC
  (if laneIsL p then !pam4 && 4800000000 * u ≤ b && b ≤ 32000000000 * u
   else if pam4 then os = 0 && 13250000000 * u ≤ b && b ≤ 112000000000 * u
   else 10000000000 * u ≤ b && b ≤ 56000000000 * u) &&
  (fec = 0 || (s.get p Lane.LANE_RATE_PCS = 4 && os = 0))

/-- Whether link training of the chosen mode exists for the lane (R323, R329). -/
def laneTrainOk (s : State) (p : Nat) : Bool :=
  let pam4 := s.flag p Lane.LANE_RATE_MOD
  s.get p Lane.LANE_RATE_OS = 0 && (match s.get p Lane.LANE_LT_MODE with
    | 0 => !pam4
    | 1 => pam4
    | _ => pam4 && 53125000000 * (s.laneD p * 2 ^ 25) < s.laneBaudD p)

/-- Three times the span rate in Hz (R454). -/
def spanRate3 (s : State) : Nat :=
  match s.get Pg.clock Clock.CLK_SPAN_ACTIVE with
  | 1 => 1600000000 | 2 => 1200000000 | _ => 2400000000

/-- The groups a lane occupies (R154): ⌈r / (8 fSPAN)⌉, and one more where the stream would not fit with margin. -/
def laneGroups (s : State) (p : Nat) : Nat :=
  let rn := s.laneBaudD p * s.laneM p * 3
  let rd := s.laneD p * s.laneOS p * 2 ^ 25 * 8 * s.spanRate3
  let ng := (rn + rd - 1) / rd
  let st : Nat × Nat := if s.get p Lane.LANE_RATE_PCS = 3 then (9, 10) else if s.get p Lane.LANE_RATE_FEC = 2 then (33, 34) else (1, 1)
  if ng * rd * st.2 * 9995 < rn * st.1 * 10000 then ng + 1 else ng

/-! ## Maps (R332, R333, R335) -/

/-- The groups that the enabled maps and control groups of a die name in a direction (0 receive, 1 transmit), as module, first
group and count; each with the page that holds it. -/
def dieMaps (s : State) (d dir : Nat) : List (Nat × Nat × Nat × Nat) :=
  ((List.range 64).filterMap (fun k =>
    let p := Pg.dieBase d + 0x40 + k
    if s.flag p Lane.LANE_XMAP_EN dir then
      some (p, s.get p Lane.LANE_XMAP_MOD dir, s.get p Lane.LANE_XMAP_GROUP dir, s.get p Lane.LANE_XMAP_NG dir) else none)) ++
  ((List.range 8).filterMap (fun q =>
    let a := Pg.adapter d q
    if s.flag a Adapter.AD_CTLMAP_EN dir then
      some (a, s.get a Adapter.AD_CTLMAP_MOD dir, s.get a Adapter.AD_CTLMAP_GROUP dir, 2) else none))

/-- Whether an enabled map of a lane is good (R335). -/
def laneMapOk (s : State) (p dir : Nat) : Bool :=
  if s.flag p Lane.LANE_XMAP_EN dir then
    let m := s.get p Lane.LANE_XMAP_MOD dir
    let g := s.get p Lane.LANE_XMAP_GROUP dir
    let n := s.get p Lane.LANE_XMAP_NG dir
    n = s.laneGroups p && n ≠ 0 && m < s.crossModules (laneDie p) && g + n ≤ 192 &&
    (s.dieMaps (laneDie p) dir).all (fun k => k.1 = p || k.2.1 ≠ m || g + n ≤ k.2.2.1 || k.2.2.1 + k.2.2.2 ≤ g)
  else true

def laneMapsOk (s : State) (p : Nat) : Bool := s.laneMapOk p 0 && s.laneMapOk p 1

/-! ## Lane states (R326 to R328, R339, R341) -/

/-- `STATUS.STATE`: 0 OFF, 1 PLL_WAIT, 2 SIGNAL_WAIT, 3 TRAIN, 4 ADAPT, 5 ALIGN, 6 UP, 7 RETRAIN, 8 DOWN. -/
def laneState (s : State) (p : Nat) : Nat := s.get p Lane.STATUS_STATE

/-- Loop-backs 1 and 3 skip SIGNAL_WAIT and TRAIN, and take no notice of the receive balls (R339). -/
def laneLooped (s : State) (p : Nat) : Bool := s.get p Lane.CTL_LOOP = 1 || s.get p Lane.CTL_LOOP = 3

/-- `OPLL_STATUS.RCLK_LOST` follows the lane that `OPLL_RCLK` selects (R341). -/
def rclkUpdate (s : State) (d o : Nat) : State :=
  let pg := Pg.opll d o
  let lost := s.flag pg Opll.OPLL_RCLK_EN && s.laneState (octetLane d o (s.get pg Opll.OPLL_RCLK_LANE)) ≠ 6
  let t := s.set pg Opll.OPLL_STATUS_RCLK_LOST (b2n lost)
  if lost && !(s.flag pg Opll.OPLL_STATUS_RCLK_LOST) then t.setInt pg Opll.INT_RCLK_LOST else t

/-- Enter a lane state. -/
def laneTo (s : State) (p v : Nat) : State := (s.set p Lane.STATUS_STATE v).rclkUpdate (laneDie p) (laneOctet p)

/-- The locks of a lane that starts over are gone, and with them what its transmit side held (R334). -/
def laneUnlock (s : State) (p : Nat) : State :=
  let t := ((s.set p Lane.STATUS_FEC_LOCK 0).set p Lane.STATUS_PCS_LOCK 0).set p Lane.STATUS_CDR_LOCK 0
  t.setLaneUnit p { t.laneUnit p with
    txLen := 0, txBits := 0, aligned := false, frame := none, suspended := false, rxLen := 0, rxBits := 0, rxPend := [], rxOver := [], rxSkip := 0
    rxFrame := none, rxHeld := none, rxFrames := [] }

/-- The lane enters DOWN (R328). -/
def laneDown (s : State) (p : Nat) : State := ((s.laneUnlock p).laneTo p 8).setInt p Lane.INT_DOWN

/-- RETRAIN fails: a detected error that its one retry did not cure is lasting (R328). -/
def retryFailed (s : State) (p : Nat) : State :=
  if (s.laneUnit p).counted then s.count p Lane.LANE_RETRY_LASTING else s

/-- The `STATUS` word of a lane. -/
def laneStatus (s : State) (p : Nat) : Nat :=
  s.get p Lane.STATUS_STATE + 256 * s.get p Lane.STATUS_SIGNAL + 512 * s.get p Lane.STATUS_CDR_LOCK +
  1024 * s.get p Lane.STATUS_PCS_LOCK + 2048 * s.get p Lane.STATUS_FEC_LOCK

/-- A step on the way to UP fails: to DOWN; a RETRAIN that a detected error started is lasting and records `LANE_DOWN` (R326,
R328). -/
def laneFails (s : State) (p : Nat) : State :=
  if s.laneState p = 7 ∧ (s.laneUnit p).counted = true then
    let t := (s.retryFailed p).laneDown p
    t.event 0x5002 3 p (t.laneStatus p)
  else s.laneDown p

/-- The step a lane is at, of the way from TRAIN to ALIGN, in RETRAIN too. -/
def laneStep (s : State) (p : Nat) : Nat := if s.laneState p = 7 then (s.laneUnit p).phase else s.laneState p

/-- Go to a step of that way: in RETRAIN the state stays. -/
def laneStepTo (s : State) (p v : Nat) : State :=
  if s.laneState p = 7 then s.setLaneUnit p { s.laneUnit p with phase := v } else s.laneTo p v

/-- The first step: TRAIN where training is enabled and not skipped, else ADAPT (R326, R339). -/
def firstStep (s : State) (p : Nat) : Nat := if s.flag p Lane.LANE_LT_LT_EN && !(s.laneLooped p) then 3 else 4

/-- RETRAIN starts (R328). -/
def laneRetrains (s : State) (p : Nat) (counted : Bool) : State :=
  let t := (s.laneUnlock p).setLaneUnit p { (s.laneUnlock p).laneUnit p with phase := s.firstStep p, counted := counted }
  (t.laneTo p 7).setInt p Lane.INT_RETRAIN

/-- `CTL.EN` becomes 1, or 0 (R326). -/
def laneStart (s : State) (p : Nat) : State := if s.laneState p = 0 then s.laneTo p 1 else s
def laneStop (s : State) (p : Nat) : State :=
  let t := (s.laneUnlock p).set p Lane.STATUS_SIGNAL 0
  (t.laneTo p 0)

/-- The lane leaves PLL_WAIT once its PLL is locked (R326, R339). -/
def lanePllLocked (s : State) (p : Nat) : Bool :=
  s.flag (laneOpll p) (if s.flag p Lane.LANE_RATE_PLL then Opll.OPLL_STATUS_LOCK_B else Opll.OPLL_STATUS_LOCK_A)
def laneLeavesPllWait (s : State) (p : Nat) : State :=
  if s.laneState p = 1 ∧ s.lanePllLocked p = true then s.laneTo p (if s.laneLooped p then 4 else 2) else s

/-- Signal has been present for 1 ms (R326); a lane that is OFF is powered down and detects none. -/
def laneSignal (s : State) (p : Nat) : State :=
  let t := if s.laneState p = 0 then s else s.set p Lane.STATUS_SIGNAL 1
  if t.laneState p = 2 then t.laneTo p (t.firstStep p) else t

/-- One control field of the partner's training frames: the coefficient it moves, or the initial condition or precoding it asks for, and the
status reported for it (R329). An initial condition whose taps the manual does not state leaves them free. -/
def trainField (s : State) (p x : Nat) : State :=
  let r := trainRequest (s.get p Lane.LANE_LT_MODE) (s.get p Lane.LANE_TXEQ_TAPS) x
  let t := s.setLaneUnit p { s.laneUnit p with ltStatus := BitVec.ofNat 16 r.status }
  let t := match r.taps with
    | some v => t.set p Lane.LANE_TXEQ_TAPS v
    | none => (t.set p Lane.LANE_TXEQ_TAPS s.freeVal).took
  match r.precode with
  | some b => if s.flag p Lane.LANE_RATE_MOD then t.set p Lane.LANE_RATE_PRECODE (b2n b) else t
  | none => t

/-- Link training completes, after the control fields that the partner has sent (R329). -/
def laneTrained (s : State) (p : Nat) (fields : List (BitVec 16)) : State :=
  if s.laneStep p = 3 ∧ s.laneTrainOk p = true then (forEach fields (fun x t => t.trainField p x.toNat) s).laneStepTo p 4
  else s

/-- A step overruns its timeout. -/
def laneTimeout (s : State) (p step : Nat) : State := if s.laneStep p = step then s.laneFails p else s

/-- Adaptation ends: the receiver's boost is the one found, or the one `LANE_EQ_OVR` forces. A lane outside R322 does not get
here (R325, R326). -/
def laneAdapted (s : State) (p eye ctle : Nat) : State :=
  if s.laneStep p = 4 ∧ s.laneRateOk p = true then
    let c := if s.flag p Lane.LANE_EQ_OVR_CTLE_MAN then s.get p Lane.LANE_EQ_OVR_BOOST else ctle
    (((s.set p Lane.STATUS_CDR_LOCK 1).set p Lane.LANE_RXEQ_EYE eye).set p Lane.LANE_RXEQ_CTLE c).laneStepTo p 5
  else s

/-- PCS and FEC are locked: UP, with `FIRST` due; a retry that gets here was transient (R326, R328, R333). In UP, a lock that the
PRBS checker let go is back. -/
def laneAligned (s : State) (p : Nat) : State :=
  let locked := ((s.set p Lane.STATUS_PCS_LOCK 1).set p Lane.STATUS_FEC_LOCK (b2n (s.get p Lane.LANE_RATE_FEC ≠ 0)))
  let locked := locked.setLaneUnit p { locked.laneUnit p with
    firstDue := true, rxLen := 0, rxBits := 0, rxPend := [], rxOver := [], rxSkip := 0, rxFrame := none, rxHeld := none }
  if s.laneStep p = 5 then
    let t := if s.laneState p = 7 ∧ (s.laneUnit p).counted = true then locked.count p Lane.LANE_RETRY_TRANSIENT else locked
    (t.laneTo p 6).setInt p Lane.INT_UP
  else if s.laneState p = 6 ∧ s.flag p Lane.STATUS_PCS_LOCK = false then locked
  else s

/-- Signal detect is lost (R327, R339, R353). -/
def laneLos (s : State) (p : Nat) : State :=
  let t := s.set p Lane.STATUS_SIGNAL 0
  if 3 ≤ s.laneState p ∧ s.laneState p ≤ 7 ∧ s.laneLooped p = false then
    (((t.laneUnlock p).count p Lane.LANE_RETRY_LOS).laneTo p 2).setInt p Lane.INT_LOS
  else t

/-- PCS block or character lock, or FEC codeword lock, is lost in UP: the one retry; while the PRBS checker is enabled the loss of
PCS lock starts none (R328, R336). -/
def laneLockLost (s : State) (p : Nat) (fec : Bool) : State :=
  if s.laneState p = 6 then
    let t := s.count p Lane.PCS_ERR_LOCK_LOSS
    if !fec && s.flag p Lane.PRBS_CTL_CHK_EN then t.set p Lane.STATUS_PCS_LOCK 0
    else t.laneRetrains p true
  else s

/-- `CTL.RETRAIN` written 1 (R328, R353). -/
def laneRetrainWritten (s : State) (p : Nat) : State :=
  if s.laneState p = 6 then s.laneRetrains p false
  else if s.laneState p = 8 then s.laneTo p (if s.laneLooped p then 4 else 2)
  else s

/-- Signal returns to a DOWN lane after at least 10 ms of absence (R328). -/
def laneReturns (s : State) (p : Nat) : State :=
  if s.laneState p = 8 ∧ s.laneLooped p = false then (s.set p Lane.STATUS_SIGNAL 1).laneTo p 2 else s

/-! ## Octet PLLs (R324, R325) -/

def opllEnField (b : Bool) : RegField := if b then Opll.CTL_EN_B else Opll.CTL_EN_A
def opllLockField (b : Bool) : RegField := if b then Opll.OPLL_STATUS_LOCK_B else Opll.OPLL_STATUS_LOCK_A
def opllFailField (b : Bool) : RegField := if b then Opll.OPLL_STATUS_LOCK_FAIL_B else Opll.OPLL_STATUS_LOCK_FAIL_A

/-- The lanes of an octet with `EN` = 1 that select a PLL. -/
def opllLanes (s : State) (d o : Nat) (b : Bool) : List Nat :=
  ((List.range 8).map (octetLane d o)).filter (fun p => s.flag p Lane.CTL_EN && s.flag p Lane.LANE_RATE_PLL == b)

/-- The PLL locks, if its rate clock is in range, and not while the lane references have no hub PLL (R324, R463). -/
def opllLocks (s : State) (d o : Nat) (b : Bool) : State :=
  let pg := Pg.opll d o
  if s.flag pg (opllEnField b) && s.rateClockOk pg (b2n b) && !(s.clock.unserved.elem 2) then
    (s.set pg (opllLockField b) 1).set pg (opllFailField b) 0
  else s

/-- 300 µs after it was enabled a PLL that has not locked sets `LOCK_FAIL` (R324). -/
def opllLockFails (s : State) (d o : Nat) (b : Bool) : State :=
  let pg := Pg.opll d o
  if s.flag pg (opllEnField b) && !(s.flag pg (opllLockField b)) then s.set pg (opllFailField b) 1 else s

/-- Every lane that selects a PLL goes to PLL_WAIT; a detected error's retry in progress has failed (R325, R353). -/
def lanesToPllWait (s : State) (d o : Nat) (b : Bool) : State :=
  forEach (s.opllLanes d o b) (fun p t =>
    let u := if t.laneState p = 7 then t.retryFailed p else t
    (u.laneUnlock p).laneTo p 1) s

/-- A PLL loses lock in service (R325). -/
def opllUnlocks (s : State) (d o : Nat) (b : Bool) : State :=
  let pg := Pg.opll d o
  if s.flag pg (opllLockField b) then
    let t := ((s.set pg (opllLockField b) 0).lanesToPllWait d o b).setInt pg Opll.INT_UNLOCK
    t.event 0x5001 1 pg (t.laneStatus ((s.opllLanes d o b).headD (octetLane d o 0)))
  else s

/-- What a written `CTL` of an octet PLL starts or stops: a PLL that is disabled gives no clock. -/
def opllWritten (s old : State) (d o : Nat) : State :=
  let pg := Pg.opll d o
  forEach [false, true] (fun b t =>
    if t.flag pg (opllEnField b) && !(old.flag pg (opllEnField b)) then
      (t.set pg (opllLockField b) 0).set pg (opllFailField b) 0
    else if !(t.flag pg (opllEnField b)) && old.flag pg (opllEnField b) then
      ((t.set pg (opllLockField b) 0).set pg (opllFailField b) 0).lanesToPllWait d o b
    else t) s

/-! ## PRBS and bit-slip (R336 to R338) -/

/-- The checker acts in ADAPT, ALIGN and UP; codes 7 to 9 need PAM4 (R336). -/
def prbsActs (s : State) (p : Nat) : Bool :=
  s.flag p Lane.PRBS_CTL_CHK_EN && 4 ≤ s.laneState p && s.laneState p ≤ 6 &&
  (!(7 ≤ s.get p Lane.PRBS_CTL_CHK_PAT && s.get p Lane.PRBS_CTL_CHK_PAT ≤ 9) || s.flag p Lane.LANE_RATE_MOD)

def prbsGain (s : State) (p : Nat) : State := if s.prbsActs p then s.set p Lane.PRBS_STAT_LOCK 1 else s

def prbsLoss (s : State) (p : Nat) : State :=
  if s.flag p Lane.PRBS_STAT_LOCK then
    ((s.set p Lane.PRBS_STAT_LOCK 0).count p Lane.PRBS_STAT_RELOCKS).setInt p Lane.INT_PRBS_UNLOCK
  else s

/-- While the checker is locked its counts run: how far, between two commands, is free. -/
def prbsCount (s : State) (p : Nat) : State :=
  if s.flag p Lane.PRBS_STAT_LOCK then
    let u := s.laneUnit p
    let t := s.took.took
    t.setLaneUnit p { u with prbsErr := satAdd 48 u.prbsErr s.freeVal, prbsBits := satAdd 48 u.prbsBits s.took.freeVal }
  else s

/-- A read of `PRBS_ERR_LO` without PEEK latches `PRBS_ERR_HI` and `PRBS_BITS` and clears both counters (R337). -/
def prbsRead (s : State) (p : Nat) : State :=
  let u := s.laneUnit p
  let t := ((s.set p Lane.PRBS_ERR_HI_ERR (u.prbsErr / 2 ^ 32)).set p Lane.PRBS_BITS_LO_BITS u.prbsBits).set p
    Lane.PRBS_BITS_HI_BITS (u.prbsBits / 2 ^ 32)
  t.setLaneUnit p { u with prbsErr := 0, prbsBits := 0 }

/-- The width of a raw receive word (R330). -/
def rawWidth (s : State) (p : Nat) : Nat := 32 * 2 ^ s.get p Lane.LANE_RATE_PCS

/-- `BITSLIP.SLIP` in a RAW mode (R338, R353). -/
def slipWord (s : State) (p : Nat) : State :=
  let t := s.set p Lane.BITSLIP_POS ((s.get p Lane.BITSLIP_POS + 1) % s.rawWidth p)
  let u := t.laneUnit p
  (t.setLaneUnit p { u with firstDue := true, rxSkip := u.rxSkip + 1, rxLen := 0, rxBits := 0 }).prbsLoss p

/-! ## The receive side (R323, R330, R342) -/

/-- The line bits of a block, a character or a raw word. -/
def lineUnit (s : State) (p : Nat) : Nat :=
  match s.get p Lane.LANE_RATE_PCS with
  | 3 => 10 | 4 => 66 | _ => s.rawWidth p

/-- Decode one unit of line bits: an invalid code-group, or one of wrong disparity, is delivered as K 0x1FE; invalid code-groups and sync
headers count (R330). -/
def decodeUnit (s : State) (p : Nat) (bits : List Bool) : State :=
  let u := s.laneUnit p
  let x := bitsNat bits
  match s.get p Lane.LANE_RATE_PCS with
  | 3 =>
    let r := decodeChar u.rxDisp x
    let t := s.setLaneUnit p { u.pushRx 9 r.1 with rxDisp := r.2 }
    if (encodeChar u.rxDisp r.1).1 = x then t else t.count p Lane.PCS_ERR_BAD
  | 4 =>
    let r := descramble 64 (x / 4) u.rxScr.toNat
    let t := s.setLaneUnit p { u.pushBlock (x % 4 + 4 * r.1) with rxScr := BitVec.ofNat 58 r.2 }
    if x % 4 = 1 ∨ x % 4 = 2 then t else t.count p Lane.PCS_ERR_BAD
  | _ => s.setLaneUnit p (u.pushRx bits.length x)

/-- Decode every whole unit that waits; `fuel` bounds them. -/
def decodeAll (s : State) (p : Nat) : Nat → State
  | 0 => s
  | fuel + 1 =>
    let u := s.laneUnit p
    let n := s.lineUnit p
    if u.rxPend.length < n then s
    else ((s.setLaneUnit p { u with rxPend := u.rxPend.drop n }).decodeUnit p (u.rxPend.take n)).decodeAll p fuel

/-- Symbols reach a lane: levels to bits, samples to bits by majority, the bits that bit-slips drop, then whole units (R323, R330, R338). The FAR
loop-back sends them out again (R339). -/
def laneSymbols (s : State) (p : Nat) (ys : List (BitVec 2)) : State :=
  let u := s.laneUnit p
  let r := symbolBits (s.flag p Lane.LANE_RATE_MOD) (s.flag p Lane.LANE_RATE_RX_INV) (s.flag p Lane.LANE_RATE_PRECODE) ys u.rxPrev
  let xs := u.rxOver ++ r.1
  let o := undersample (2 ^ s.get p Lane.LANE_RATE_OS) xs.length xs
  let pend := u.rxPend ++ o.1
  let k := min u.rxSkip pend.length
  let t := s.setLaneUnit p { u with
    rxPrev := r.2, rxOver := o.2, rxPend := pend.drop k, rxSkip := u.rxSkip - k, sent := if s.get p Lane.CTL_LOOP = 2 then ys else u.sent }
  t.decodeAll p pend.length

/-! ## The transmit side (R334, R340, R346) -/

/-- A timestamp enters the 16-entry FIFO, or is dropped (R340). -/
def stamp (s : State) (p : Nat) (tx : Bool) (time : DWord) : State :=
  let u := s.laneUnit p
  if u.stamps.length < 16 then (s.setLaneUnit p { u with stamps := u.stamps ++ [(tx, time)] }).setInt p Lane.INT_TS_READY
  else s.count p Lane.TS_INFO_DROPS

/-- Whether a frame with these first bytes is timestamped: bytes 12 and 13 are `ETYPE`, the first the high one (R340). -/
def stamps (s : State) (p : Nat) (tx : Bool) (head : List Byte) : Bool :=
  s.get p Lane.LANE_RATE_PCS = 4 && s.flag p (if tx then Lane.TS_CTL_TX_EN else Lane.TS_CTL_RX_EN) &&
  (s.get p Lane.TS_CTL_ETYPE = 0 ||
    (14 ≤ head.length && (head.getD 12 0).toNat * 256 + (head.getD 13 0).toNat = s.get p Lane.TS_CTL_ETYPE))

/-- A 66-bit block leaves for the line: a user frame starts, grows or ends, and is timestamped by its first 14 bytes. -/
def sendBlock (s : State) (p b : Nat) : State :=
  let u := s.laneUnit p
  match startSkip b with
  | some k => s.setLaneUnit p { u with frame := some { skip := k, head := [] } }
  | none =>
    if endsFrame b then s.setLaneUnit p { u with frame := none }
    else
      match u.frame with
      | some f =>
        if b % 4 = 2 ∧ f.head.length < 14 then
          let head := (f.head ++ (leBytes 8 (b / 4)).drop f.skip).take 14
          let t := s.setLaneUnit p { u with frame := some { skip := 0, head := head } }
          if head.length = 14 ∧ s.stamps p true head = true then (t.stamp p true (BitVec.ofNat 64 s.freeVal)).took else t
        else s
      | none => s

/-- The bits of a block, a character or a raw word in the FIFO (R333). -/
def laneUnitBits (s : State) (p : Nat) : Nat :=
  match s.get p Lane.LANE_RATE_PCS with
  | 3 => 9 | 4 => 66 | _ => s.rawWidth p

/-- A symbol moved by one level: on PAM4, a middle level up or down (R337). -/
def moveLevel (l : Nat) (up : Bool) : Nat := if l = 3 || (l ≠ 0 && !up) then l - 1 else l + 1

/-- Whether an error is due in the next unit sent, of `n` line bits: one asked for by `ONE`, or the one of every `PERIOD` × 1,024 bits
(R337). -/
def injectDue (s : State) (p n : Nat) : Bool :=
  let every := 1024 * s.get p Lane.PRBS_INJ_PERIOD
  (s.laneUnit p).inject || (every ≠ 0 && every ≤ (s.laneUnit p).sentBits + n)

/-- A unit of the stream leaves for the line: its symbols are sent, an error in the first of them where one is due, and in the loop-backs NEAR
and PARALLEL the lane's own receiver delivers it again, NEAR from the symbols (R330, R337, R339). Which way an error moves a middle level is
free. -/
def sendUnit (s : State) (p n x : Nat) : State :=
  let u := s.laneUnit p
  let pam4 := s.flag p Lane.LANE_RATE_MOD
  let plain := s.get p Lane.LANE_RATE_FEC = 0
  let e := if plain then u.encode (s.get p Lane.LANE_RATE_PCS) n x else ([], u)
  let due := plain && s.injectDue p e.1.length
  let bits := if due && !pam4 then (match e.1 with | b :: r => (!b) :: r | [] => []) else e.1
  let ys := bitSymbols pam4 (s.flag p Lane.LANE_RATE_TX_INV) (s.flag p Lane.LANE_RATE_PRECODE) (2 ^ s.get p Lane.LANE_RATE_OS) bits u.txPrev
  let ys := if due && pam4 then (match ys with | y :: r => BitVec.ofNat 2 (moveLevel y.toNat (bit s.freeVal 0)) :: r | [] => []) else ys
  let every := 1024 * s.get p Lane.PRBS_INJ_PERIOD
  let v := { e.2 with
    sent := u.sent ++ (if s.flag p Lane.CTL_TX_SQUELCH then [] else ys)
    txPrev := ((ys.getLast?).map BitVec.toNat).getD u.txPrev
    inject := u.inject && !due
    sentBits := if every = 0 then 0 else (u.sentBits + e.1.length) % every }
  let t := (if due && pam4 then s.took else s).setLaneUnit p v
  if s.get p Lane.CTL_LOOP = 1 && plain then t.laneSymbols p ys
  else if s.laneLooped p then
    t.setLaneUnit p (if s.get p Lane.LANE_RATE_PCS = 4 then v.pushBlock x else v.pushRx n x)
  else t

/-- What the transmit balls carried before is past. -/
def sendsAnew (s : State) (p : Nat) : State := s.setLaneUnit p { s.laneUnit p with sent := [] }

/-- `k` whole blocks, characters or words leave the FIFO for the line. -/
def drainTx (s : State) (p : Nat) : Nat → State
  | 0 => s
  | k + 1 =>
    let n := s.laneUnitBits p
    let u := s.laneUnit p
    if u.txLen < n then s
    else
      let t := (s.setLaneUnit p { u with txLen := u.txLen - n, txBits := u.txBits / 2 ^ n }).sendUnit p n (u.txBits % 2 ^ n)
      (if s.get p Lane.LANE_RATE_PCS = 4 then t.sendBlock p (u.txBits % 2 ^ n) else t).drainTx p k

/-- The FIFO drops bits: they count, one each (R334). -/
def txDrop (s : State) (p n : Nat) : State :=
  if n = 0 then s else (s.count p Lane.LANE_FIFO_TX_DROP n).setInt p Lane.INT_TX_FIFO

/-- The blocks of a stream with each idle control block that follows another idle control block deleted (R334). -/
def dropIdles : List Nat → Bool → List Nat
  | [], _ => []
  | b :: r, after => if b = idleBlock && after then dropIdles r true else b :: dropIdles r (b = idleBlock)

/-- Whole blocks of a stream of bits. -/
def blocksOf (x : Nat) : Nat → List Nat
  | 0 => []
  | k + 1 => x % 2 ^ 66 :: blocksOf (x / 2 ^ 66) k

/-- While the FIFO holds more than 2,048 bits it deletes idle blocks that follow idle blocks (R334). -/
def thinTx (s : State) (p : Nat) : State :=
  let u := s.laneUnit p
  if s.get p Lane.LANE_RATE_PCS = 4 ∧ 2048 < u.txLen then
    let n := u.txLen / 66
    let kept := dropIdles (blocksOf u.txBits n) false
    let rest := u.txBits / 2 ^ (66 * n)
    s.setLaneUnit p { u with
      txLen := u.txLen - 66 * (n - kept.length), txBits := kept.foldr (fun b acc => b + acc * 2 ^ 66) rest }
  else s

/-- A valid lane word of `n` stream bits arrives from the fabric (R334). How many blocks have left for the line since the last one
is free. -/
def pushTx (s : State) (p n word : Nat) (first : Bool) : State :=
  let s := ((s.sendsAnew p).drainTx p (s.freeVal % (1 + (s.laneUnit p).txLen / s.laneUnitBits p))).took
  let u := s.laneUnit p
  if !u.aligned && !first then s
  else
    let cut := if first then u.txLen % s.laneUnitBits p else 0
    let len := u.txLen - cut
    let take := min n (4096 - len)
    let t := s.setLaneUnit p { u with
      aligned := true, txLen := len + take, txBits := u.txBits % 2 ^ len + (word % 2 ^ take) * 2 ^ len }
    (t.txDrop p (cut + (n - take))).thinTx p

/-- The lane words of span cycle `n` enter the transmit FIFOs of UP lanes as module `m` presents it, once the modules of their groups and of
their octet's control groups have both done so; generated patterns and the FAR loop-back discard them uncounted, and the lanes of a gated octet
take none, as if every `VALID` were 0 (R130, R332 to R334, R336, R339). -/
def lanesTake (s : State) (d m n : Nat) : State :=
  forEach ((List.range 64).map (fun k => Pg.dieBase d + 0x40 + k)) (fun p t =>
    let a := laneAdapter p
    let dm := t.get p Lane.LANE_XMAP_MOD 1
    let cm := t.get a Adapter.AD_CTLMAP_MOD 1
    if t.flag p Lane.LANE_XMAP_EN 1 && (dm = m || cm = m) && (t.slice d dm).edge = n + 1 && (t.slice d cm).edge = n + 1 &&
        t.laneState p = 6 && t.flag a Adapter.AD_CTLMAP_EN 1 && !(t.octetGated d (laneOctet p)) && t.get p Lane.CTL_LOOP ≠ 2 && !(t.flag p Lane.PRBS_CTL_GEN_EN) then
      let ctl := (t.slice d cm).arrival
      let c := t.get a Adapter.AD_CTLMAP_GROUP 1
      if bit (group ctl c) (laneIndex p) then
        let n := 8 * t.get p Lane.LANE_XMAP_NG 1
        let w := ((t.slice d dm).arrival >>> (8 * t.get p Lane.LANE_XMAP_GROUP 1)).toNat % 2 ^ n
        t.pushTx p n w (bit (group ctl (c + 1)) (laneIndex p))
      else t
    else t) s

/-- Fill: an idle control block, K28.5 or 0 bits (R334). -/
def fillUnit (s : State) (p : Nat) : Nat :=
  match s.get p Lane.LANE_RATE_PCS with
  | 3 => 0x1BC | 4 => idleBlock | _ => 0

/-- The FIFO runs short: what it held has left, and fill goes out (R334). -/
def txRunsShort (s : State) (p : Nat) : State :=
  if s.laneState p = 6 ∧ (s.laneUnit p).aligned = true then
    let t := (s.sendsAnew p).drainTx p ((s.laneUnit p).txLen / s.laneUnitBits p)
    ((t.sendUnit p (s.laneUnitBits p) (s.fillUnit p)).count p Lane.LANE_FIFO_TX_UNDERRUN).setInt p Lane.INT_TX_FIFO
  else s

/-! ## The lane words (R326, R330, R332, R333) -/

/-- What reaches a lane in a span cycle. Only a lane in UP makes stream of it, and one in the loop-backs NEAR and PARALLEL takes no notice of its
receive balls (R326, R339). -/
def laneReceives (s : State) (p : Nat) (l : LaneLine) : State :=
  if s.laneState p ≠ 6 ∨ s.laneLooped p = true then s
  else if s.get p Lane.LANE_RATE_FEC ≠ 0 then
    s.setLaneUnit p (l.blocks.foldl (fun u b => u.pushBlock b.toNat) (s.laneUnit p))
  else s.laneSymbols p l.symbols

/-- A codeword is uncorrectable: it counts, and its blocks are delivered with sync header 0b11 (R330). -/
def codewordFails (s : State) (p : Nat) (blocks : List (BitVec 66)) : State :=
  if s.flag p Lane.STATUS_FEC_LOCK then
    let t := (s.count p Lane.FEC_UNCORR_COUNT).setInt p Lane.INT_FEC_UNCORR
    if t.laneState p = 6 then
      t.setLaneUnit p (blocks.foldl (fun u b => u.pushBlock (b.toNat / 4 * 4 + 3)) (t.laneUnit p))
    else t
  else s

/-- The lane word of span cycle `n`: `VALID` when the stream fills it, in UP alone, and then `FIRST` if it is due; 0 otherwise (R326, R332,
R333). It is formed once, whichever module's launch asks for it first. -/
def laneWord (s : State) (p n : Nat) : State :=
  let u := s.laneUnit p
  let k := 8 * s.get p Lane.LANE_XMAP_NG 0
  if u.edge = n + 1 then s
  else if s.laneState p = 6 ∧ s.flag p Lane.LANE_XMAP_EN 0 = true ∧ k ≠ 0 ∧ k ≤ u.rxLen then
    s.setLaneUnit p { u with
      word := u.rxBits % 2 ^ k, valid := true, first := u.firstDue, firstDue := false, edge := n + 1
      rxLen := u.rxLen - k, rxBits := u.rxBits / 2 ^ k }
  else s.setLaneUnit p { u with word := 0, valid := false, first := false, edge := n + 1 }

/-- The lane words of a die's span cycle `n`. -/
def laneWords (s : State) (d n : Nat) : State :=
  forEach ((List.range 64).map (fun k => Pg.dieBase d + 0x40 + k)) (fun p t => t.laneWord p n) s

/-- What the launch registers of module `m` of a lane die take: the words of the lanes that its map names, and the control groups of its
octets; 0 until the adapters are released (R142, R146, R332, R333). -/
def laneLaunch (s : State) (d m : Nat) : BitVec 1536 :=
  if s.adaptersReleased d = false then 0
  else
    let words := (List.range 64).map (fun k =>
      let p := Pg.dieBase d + 0x40 + k
      if s.flag p Lane.LANE_XMAP_EN 0 && s.get p Lane.LANE_XMAP_MOD 0 = m then
        (s.laneUnit p).word * 2 ^ (8 * s.get p Lane.LANE_XMAP_GROUP 0) else 0)
    let ctls := (List.range 8).map (fun q =>
      let a := Pg.adapter d q
      if s.flag a Adapter.AD_CTLMAP_EN 0 && s.get a Adapter.AD_CTLMAP_MOD 0 = m then
        let of := fun (f : LaneUnit → Bool) => bitsNat ((List.range 8).map (fun i => f (s.laneUnit (octetLane d q i))))
        (of (·.valid) + 256 * of (·.first)) * 2 ^ (8 * s.get a Adapter.AD_CTLMAP_GROUP 0)
      else 0)
    BitVec.ofNat 1536 ((words ++ ctls).foldl (· ||| ·) 0)

/-! ## Reflex tables (R342 to R348) -/

/-- The shadow copy of entry `e`. -/
def rfxShadow (s : State) (a e : Nat) : RfxEntry :=
  { pat := BitVec.ofNat 64 (s.get a Adapter.PAT_LO_PAT e + 2 ^ 32 * s.get a Adapter.PAT_HI_PAT e)
    mask := BitVec.ofNat 64 (s.get a Adapter.MSK_LO_MSK e + 2 ^ 32 * s.get a Adapter.MSK_HI_MSK e)
    en := s.flag a Adapter.RFX_CTL_EN e, checkFcs := s.flag a Adapter.RFX_CTL_CHECK_FCS e
    once := s.flag a Adapter.RFX_CTL_ONCE e, lanes := s.get a Adapter.RFX_CTL_LANES e, offset := s.get a Adapter.RFX_CTL_OFFSET e
    egrL := s.flag a Adapter.RFX_ACT_EGR_L e, egrLane := s.get a Adapter.RFX_ACT_EGR_LANE e
    slot := s.get a Adapter.RFX_ACT_SLOT e, copyLen := s.get a Adapter.RFX_ACT_COPY_LEN e
    copyDst := s.get a Adapter.RFX_ACT_COPY_DST e, copySrc := s.get a Adapter.RFX_ACT_COPY_SRC e
    holdoff := s.get a Adapter.RFX_HOLD_HOLDOFF e }

def rfxActive (s : State) (a e : Nat) : RfxEntry := SMap.read {} (s.adapter a).active e
def setRfxActive (s : State) (a e : Nat) (x : RfxEntry) : State :=
  s.setAdapter a { s.adapter a with active := SMap.write {} (s.adapter a).active e x }

/-- `RFX_COMMIT`: the shadows of the named entries become active (R348). -/
def rfxCommitted (s : State) (a m : Nat) : State :=
  forEach (bitList 16 m) (fun e t => t.setRfxActive a e (t.rfxShadow a e)) s

/-- Whether a frame's FCS, its last four bytes, is the CRC-32 of the rest (R343). -/
def fcsGood (frame : List Byte) : Bool :=
  4 ≤ frame.length && leNat (frame.drop (frame.length - 4)) = crc32 (frame.take (frame.length - 4))

/-- Whether an entry matches a frame, the FCS aside (R343). -/
def rfxMatches (x : RfxEntry) (i : Nat) (frame : List Byte) : Bool :=
  x.en && bit x.lanes i && x.offset + 8 ≤ frame.length &&
  (leNat ((frame.drop x.offset).take 8)) &&& x.mask.toNat = x.pat.toNat &&& x.mask.toNat

/-- `RFX_LAST_FAIL` as a word. -/
def rfxLastFail (s : State) (a : Nat) : Nat :=
  s.get a Adapter.RFX_LAST_FAIL_REASON + 256 * s.get a Adapter.RFX_LAST_FAIL_RESP + 65536 * s.get a Adapter.RFX_LAST_FAIL_ENTRY +
  2 ^ 31 * s.get a Adapter.RFX_LAST_FAIL_VALID

/-- Record the first failure since the register was cleared. -/
def rfxFailed (s : State) (a entry resp reason : Nat) : State :=
  if s.flag a Adapter.RFX_LAST_FAIL_VALID then s
  else (((s.set a Adapter.RFX_LAST_FAIL_VALID 1).set a Adapter.RFX_LAST_FAIL_ENTRY entry).set a Adapter.RFX_LAST_FAIL_RESP resp).set a
    Adapter.RFX_LAST_FAIL_REASON reason

/-- `STATUS` of an adapter follows its queue and its outstanding release. -/
def adapterStatus (s : State) (a : Nat) : State :=
  (s.set a Adapter.STATUS_PENDING (s.adapter a).queue.length).set a Adapter.STATUS_IN_FLIGHT (b2n (s.adapter a).flight.isSome)

/-- The copied bytes of a frame; bytes that the frame does not have are free. -/
def copyBytes (s : State) (x : RfxEntry) (frame : List Byte) : List Byte :=
  let got := (frame.drop x.copySrc).take x.copyLen
  got ++ (leBytes 8 s.freeVal).take (x.copyLen - got.length)

/-- An entry fires (R344). `held` tells that it fired less than `HOLDOFF` µs before. -/
def rfxFire (s : State) (a e : Nat) (l : Bool) (n : Nat) (frame : List Byte) (held : Bool) : State :=
  let x := s.rfxActive a e
  let t := if x.once then (s.setRfxActive a e { x with en := false }).set a Adapter.RFX_CTL_EN 0 e else s
  if x.holdoff ≠ 0 && held then t
  else if 16 ≤ (t.adapter a).queue.length then
    let t := (t.count a Adapter.RFX_DROPS_FULL).setInt a Adapter.INT_DROP
    t.event 0x5003 1 a (t.rfxLastFail a)
  else
    let f : Firing := { entry := e, laneL := l, lane := n, act := x, copy := t.copyBytes x frame }
    let t := t.took
    (((t.setAdapter a { t.adapter a with queue := (t.adapter a).queue ++ [f] }).adapterStatus a).count a
      Adapter.RFX_HITS_HITS 1 e).setInt a Adapter.INT_FIRED

/-- The oldest frame whose terminate block has left the decoder of an UP 64B66B lane: it is timestamped, and the lowest entry that matches
fires (R340, R342, R343). -/
def frameEnds (s : State) (p : Nat) (time : DWord) (held : BitVec 16) : State :=
  match (s.laneUnit p).rxFrames with
  | [] => s
  | frame :: rest =>
    let s := s.setLaneUnit p { s.laneUnit p with rxFrames := rest }
    let t := if s.stamps p false (frame.take 14) then s.stamp p false time else s
    let a := laneAdapter p
    let good := fcsGood frame
    let hit := fun e => rfxMatches (t.rfxActive a e) (laneIndex p) frame
    let bad := (List.range 16).any (fun e => hit e && (t.rfxActive a e).checkFcs && !good)
    match (List.range 16).find? (fun e => hit e && (!(t.rfxActive a e).checkFcs || good)) with
    | some e => t.rfxFire a e (laneIsL p) (laneNumber p) frame (held.getLsbD e)
    | none => if bad then t.count a Adapter.RFX_DROPS_BAD_FCS else t

/-- The page of a lane by its number. -/
def lanePage (l : Bool) (n : Nat) : Nat := Pg.lane l n

/-- The payload of a release (R345). -/
def releaseBytes (f : Firing) : List Byte :=
  [1, BitVec.ofNat 8 (f.act.egrLane % 8), BitVec.ofNat 8 f.act.slot, BitVec.ofNat 8 f.act.copyLen, BitVec.ofNat 8 f.act.copyDst,
   0, 0, 0] ++ f.copy ++ List.replicate (8 - f.copy.length) 0 ++ [BitVec.ofNat 8 f.lane, BitVec.ofNat 8 (f.entry + 16 * b2n f.laneL)]

/-- The adapter sends its next queued firing, once no release is outstanding (R344, R345). -/
def sendRelease (s : State) (d o : Nat) : State :=
  let a := Pg.adapter d o
  let u := s.adapter a
  match u.queue, u.flight with
  | f :: rest, none =>
    let p := lanePage f.act.egrL f.act.egrLane
    let r := s.issue (adapterEp d o) 3 .release
      (fun tag => [msgFlit (adapterEp (laneDie p) (laneOctet p)) (adapterEp d o) 3 tag (payloadOf (releaseBytes f))])
    match r.1 with
    | some _ => (r.2.setAdapter a { r.2.adapter a with queue := rest, flight := some f }).adapterStatus a
    | none => s
  | _, _ => s

/-- The bytes of response slot `k`. -/
def slotBytes (s : State) (a k : Nat) : List Byte :=
  (List.range 16).flatMap (fun w => leBytes 4 (s.get a Adapter.RESP_DATA_DATA (16 * k + w)))

/-- The response a release asks for (R346). -/
def buildResponse (s : State) (a slot copyLen copyDst : Nat) (copy : List Byte) : List Byte :=
  let body := (s.slotBytes a slot).take (s.get a Adapter.RESP_LEN_LEN slot)
  let body := body.take copyDst ++ copy.take copyLen ++ body.drop (copyDst + copyLen)
  if s.flag a Adapter.RESP_LEN_FCS_GEN slot then body ++ leBytes 4 (crc32 body) else body

/-- Why an egress adapter cannot serve a release (R347); none when it can. -/
def releaseReason (s : State) (d o i slot copyLen copyDst : Nat) : Option Nat :=
  let a := Pg.adapter d o
  let p := octetLane d o i
  if 8 ≤ i ∨ s.laneState p ≠ 6 then some 1
  else if s.get p Lane.LANE_RATE_PCS ≠ 4 then some 2
  else if 16 ≤ slot ∨ s.get a Adapter.RESP_LEN_LEN slot = 0 then some 3
  else if 8 < copyLen ∨ s.get a Adapter.RESP_LEN_LEN slot < copyDst + copyLen then some 4
  else none

/-- A message at an adapter: a RELEASE builds a response, or is refused (R345 to R347). `retry` tells a MSG_RETRY. -/
def releaseArrives (s : State) (d o : Nat) (f : Flit) (retry : Bool) : State :=
  let a := Pg.adapter d o
  let e := adapterEp d o
  let u := s.adapter a
  let b := fun k => bits f.data.toNat (8 * k + 7) (8 * k)
  if retry && u.recent.elem (hdrSrc f, hdrTag f) then s.respond e (statusTo f 0 false)
  else if b 0 ≠ 1 ∨ (epType (hdrSrc f) ≠ 5 ∧ s.flag a Adapter.AD_CTL_SW_RELEASE = false) then s.respond e (statusTo f 3 false)
  else
    match s.releaseReason d o (b 1) (b 2) (b 3) (b 4) with
    | some r => (s.rfxFailed a (b 2 % 16) 0 r).respond e (statusTo f 3 false)
    | none =>
      let bytes := s.buildResponse a (b 2) (b 3) (b 4) ((leBytes 16 f.data.toNat).drop 8)
      (s.setAdapter a { u with
        responses := u.responses ++ [(b 1, bytes)]
        recent := ((hdrSrc f, hdrTag f) :: u.recent).take 16 }).respond e (statusTo f 0 false)

/-- The next request at an adapter's endpoint: urgent ones first. -/
def takeRequest (s : State) (e : Nat) : Option Flit × State :=
  let x := s.skEnd e
  match x.urgQ, x.reqQ with
  | f :: rest, _ => (some f, s.setSkEnd e { x with urgQ := rest })
  | [], f :: rest => (some f, s.setSkEnd e { x with reqQ := rest })
  | [], [] => (none, s)

/-- The oldest response goes in ahead of the user blocks: inside a user frame between SUSPEND and RESUME; RESUME waits while
another response for the lane follows (R346, R353). -/
def insertResponse (s : State) (d o : Nat) : State :=
  let a := Pg.adapter d o
  let u := s.adapter a
  match u.responses with
  | [] => s
  | (i, bytes) :: rest =>
    let p := octetLane d o i
    if s.laneState p ≠ 6 then s
    else
      let more := rest.any (fun r => r.1 = i)
      let inside := (s.laneUnit p).frame.isSome
      let blocks := (if inside && !(s.laneUnit p).suspended then [suspendBlock] else []) ++ frameBlocks bytes ++
        (if inside && !more then [resumeBlock] else [])
      let t := forEach blocks (fun b t => t.sendUnit p 66 b) ((s.setAdapter a { u with responses := rest }).sendsAnew p)
      let t := t.setLaneUnit p { t.laneUnit p with suspended := inside && more }
      let t := (t.count a Adapter.RFX_INSERTED_COUNT).setInt a Adapter.INT_INSERTED
      if t.stamps p true (bytes.take 14) then (t.stamp p true (BitVec.ofNat 64 t.freeVal)).took else t

/-- A release of this adapter ends: a failure is recorded, and the next firing may go (R347). -/
def releaseEnds (s : State) (a code : Nat) (timedOut : Bool) : State :=
  let u := s.adapter a
  match u.flight with
  | none => s
  | some f =>
    let t := (s.setAdapter a { u with flight := none }).adapterStatus a
    if code = 0 ∧ timedOut = false then t
    else
      let t := (t.rfxFailed a f.entry code (if timedOut then 6 else 5)).setInt a Adapter.INT_RELEASE_FAIL
      t.event 0x5004 (if timedOut then 3 else 2) a (t.rfxLastFail a)

/-- A response at an adapter's endpoint (R347). -/
def adapterResponse (s : State) (d o : Nat) : State :=
  match (s.skEnd (adapterEp d o)).respQ with
  | [] => s
  | f :: _ =>
    let r := s.takeResponse (adapterEp d o) f
    match r.1 with
    | some _ => r.2.releaseEnds (Pg.adapter d o) (f.2.data.toNat % 8) false
    | none => r.2

/-- `AD_TEST.FIRE` fires an entry as if matched; there is no frame, so the copied bytes are free (R352). -/
def adTestFire (s : State) (a : Nat) : State :=
  if s.flag a Adapter.AD_TEST_FIRE then
    let e := s.get a Adapter.AD_TEST_ENTRY
    let o := pageInDie a - 0x90
    let i := ((List.range 8).find? (bit (s.rfxActive a e).lanes)).getD 0
    let p := octetLane (pageDie a) o i
    (s.set a Adapter.AD_TEST_FIRE 0).rfxFire a e (laneIsL p) (laneNumber p) [] false
  else s

/-- The octet's lanes lose power: firings still queued count as `FULL` (R353). -/
def octetOff (s : State) (d o : Nat) : State :=
  let a := Pg.adapter d o
  let u := s.adapter a
  let t := (s.count a Adapter.RFX_DROPS_FULL u.queue.length)
  (t.setAdapter a { u with queue := [], responses := [] }).adapterStatus a

/-! ## The pages' own rules at a bus access -/

/-- The code with which a write of a lane or octet PLL page is dropped (R325, R335, R338, R339). -/
def laneGuard (s : State) (p off w : Nat) : Option Nat :=
  if off = 0x010 then
    (if bit w 0 && !(s.laneMapsOk p) then some 0x9
     else if bits w 5 4 ≠ s.get p Lane.CTL_LOOP ∧ s.laneState p ≠ 0 then some 0x8 else none)
  else if 0x100 ≤ off ∧ off ≤ 0x108 then (if s.laneState p ≠ 0 ∧ s.laneState p ≠ 8 then some 0x8 else none)
  else if off = 0x148 ∧ bit w 0 = true ∧ 2 < s.get p Lane.LANE_RATE_PCS then some 0xA
  else none

def opllGuard (s : State) (pg off : Nat) : Option Nat :=
  if 0x100 ≤ off ∧ off ≤ 0x10C then
    let b : Bool := 0x108 ≤ off
    if s.flag pg (opllEnField b) && !(s.opllLanes (pageDie pg) (pageInDie pg - 0x80) b).isEmpty then some 0x8 else none
  else none

/-- What a write of a lane page does beyond its fields. -/
def laneWritten (s old : State) (p off w : Nat) : State :=
  if off = 0x010 then
    let t := if s.flag p Lane.CTL_EN && !(old.flag p Lane.CTL_EN) then s.laneStart p
      else if !(s.flag p Lane.CTL_EN) && old.flag p Lane.CTL_EN then s.laneStop p else s
    if bit w 1 then t.laneRetrainWritten p else t
  else if off = 0x120 then (if s.flag p Lane.PRBS_CTL_CHK_EN then s else s.set p Lane.PRBS_STAT_LOCK 0)
  else if off = 0x124 then
    -- An error in the generated pattern comes back in the NEAR loop-back to the lane's own checker; without the generator it goes into the next
    -- unit of the transmitted stream.
    (if !(bit w 0) then s
     else if s.flag p Lane.PRBS_CTL_GEN_EN then
      (if s.get p Lane.CTL_LOOP = 1 && s.flag p Lane.PRBS_STAT_LOCK then
        s.setLaneUnit p { s.laneUnit p with prbsErr := satAdd 48 (s.laneUnit p).prbsErr 1 } else s)
     else s.setLaneUnit p { s.laneUnit p with inject := true })
  else if off = 0x800 then
    -- `BOOST` replaces what adaptation found, from the write on.
    (if s.flag p Lane.STATUS_CDR_LOCK && s.flag p Lane.LANE_EQ_OVR_CTLE_MAN then s.set p Lane.LANE_RXEQ_CTLE (s.get p Lane.LANE_EQ_OVR_BOOST)
     else s)
  else if off = 0x148 ∧ bit w 0 = true then s.slipWord p
  else s

def opllPageWritten (s old : State) (pg off : Nat) : State :=
  let d := pageDie pg
  let o := pageInDie pg - 0x80
  if off = 0x010 then s.opllWritten old d o
  else if off = 0x110 then s.rclkUpdate d o
  else if 0x100 ≤ off ∧ off ≤ 0x10C then s.set pg (opllLockField (0x108 ≤ off)) 0
  else s

def adapterWritten (s : State) (a off w : Nat) : State :=
  if off = 0x108 then s.rfxCommitted a w else if off = 0x800 then s.adTestFire a else s

/-- Fields that show a lane's queues and counters (R337, R340). -/
def laneView (s : State) (p : Nat) (f : RegField) : Option Nat :=
  let u := s.laneUnit p
  if f = Lane.TS_INFO_VALID then some (b2n (!u.stamps.isEmpty))
  else if f = Lane.TS_INFO_TX then some (b2n (u.stamps.head?.any (·.1)))
  else if f = Lane.TS_INFO_LEVEL then some u.stamps.length
  else if f = Lane.TS_LO_TS then some (((u.stamps.head?.map (·.2.toNat)).getD 0) % 2 ^ 32)
  else if f = Lane.TS_HI_TS then some (((u.stamps.head?.map (·.2.toNat)).getD 0) / 2 ^ 32)
  else if f = Lane.PRBS_ERR_LO_ERR then some (u.prbsErr % 2 ^ 32)
  else none

/-- Counters of a lane that run between commands, brought up to a read: how far is free (R330, R337). -/
def laneSettle (s : State) (p off : Nat) : State :=
  if off = 0x12C then s.prbsCount p
  else if s.laneState p = 6 ∧ s.flag p Lane.STATUS_FEC_LOCK = true ∧ off = 0x150 then (s.count p Lane.FEC_CORR_COUNT s.freeVal).took
  else if s.laneState p = 6 ∧ s.flag p Lane.STATUS_FEC_LOCK = true ∧ off = 0x158 then (s.count p Lane.FEC_SYM_COUNT s.freeVal).took
  else s

/-- What a read without PEEK does (R337, R340). -/
def lanePop (s : State) (p off : Nat) : State :=
  if off = 0x12C then s.prbsRead p
  else if off = 0x174 then s.setLaneUnit p { s.laneUnit p with stamps := (s.laneUnit p).stamps.drop 1 }
  else s

end State
end Sys2Proof.Machine
end

