-- ==== Sys2Proof/Machine/LomumService.lean ====
section
/-! DEFINITION. Lomum ports in service (spec/04_lomum_links.md): what becomes of a wire classed lasting (R127, R598), the moves
to the reserve (R128), the outcomes when spares run out (R129), and the entry to ACTIVE. -/

namespace Sys2Proof.Machine

open Reg

namespace State

/-- The reserve's physical number (R112). -/
def reserveOf (d : Nat) : Nat := portModules d - 1

/-- Whether the reserve of a port can take a module: usable, not in use, and not being copied to (R128, R129). -/
def reserveFree (s : State) (d : Nat) : Bool :=
  s.modRole d (reserveOf d) = 2 && s.modLogical d (reserveOf d) = 0xF && !(SMap.read false s.link.reserveBad d) &&
  (SMap.read none s.link.move d).isNone

/-- The ledger's entry of a kind for a module, unless it is there already (R565). -/
def historyOnce (s : State) (kind page location what : Nat) : State :=
  if s.safety.history.any (fun e => e.kind = kind && e.page = page && e.location = location) then s
  else s.history kind page location what

/-- The reserve takes a module's logical number; the module it leaves is retired as a whole, in both directions, with its maps
as they stand (R128, R129). `LMH_MOD.ROLE` of a reserve in use still reads 2 (DESIGN CHOICE: the manual does not say whether it reads 2 or 0;
log entry 100). -/
def moveTo (s : State) (d p : Nat) : State :=
  let page := Pg.port d
  let r := reserveOf d
  let t := (s.set page Port.LMH_MOD_LOGICAL (s.modLogical d p) r).setModState d r 2
  let t := (t.set page Port.LMH_MOD_ROLE 3 p).setModState d p 0
  let t := (t.set page Port.STATUS_RESERVE_IN_USE 1).setLinkMod d p {}
  let t := { t with link := { t.link with
    move := SMap.write none t.link.move d none, background := SMap.write 0 t.link.background d 0 } }
  (t.history 3 page (s.modLogical d p) r).portEvent d 0x1004 3 p 0xFF (some Port.INT_RESERVE_USED) true

/-- The reserve fails while unused (R129). -/
def reserveLost (s : State) (d : Nat) : State :=
  let t := { s with link := { s.link with
    reserveBad := SMap.write false s.link.reserveBad d true, background := SMap.write 0 s.link.background d 0 } }
  ((t.setModState d (reserveOf d) 0).setInt (Pg.port d) Port.INT_MODULE_DOWN).portEvent d 0x1009 3 (reserveOf d) 0xFF none true

/-- A crossing module direction cannot be carried on its own wires: the reserve takes the module, or service is lost (R129).
`planned` starts the copy of R128, and a module that is being copied already goes on with its move; otherwise the module moves now. -/
def crossingFails (s : State) (d p dir : Nat) (planned : Bool) : State :=
  if planned && ((SMap.read none s.link.move d).any (fun m => m.1 = p)) then s
  else if s.reserveFree d then
    if planned then
      { s.setModState d p 4 with link := { s.link with move := SMap.write none s.link.move d (some (p, dir)) } }
    else s.moveTo d p
  else s.crossLost d p (s.modLogical d p) dir

/-- Whether any Skein module of a port is open. -/
def anySkeinOpen (s : State) (d : Nat) : Bool := (List.range (logicalModules d)).any (s.skeinOpen d)

/-- A Skein module goes DOWN, and its gateway closes (R129). -/
def skeinFails (s : State) (d p : Nat) : State :=
  (s.setModState d p 0).portEvent d 0x1007 3 p 0xFF (some Port.INT_MODULE_DOWN) true

/-- The flits of modules that are DOWN go to another, and a port with no open Skein module left is degraded, once (R129, R134). -/
def skeinLast (s : State) (d : Nat) (ps : List Nat) : State :=
  let t := forEach ps (fun p u => (u.moveFlits d (u.modLogical d p) 0).moveFlits d (u.modLogical d p) 1) s
  match ps.getLast? with
  | none => t
  | some p =>
    if t.anySkeinOpen d = true ∨ SMap.read false t.link.skeinLost d = true then t
    else
      (({ t with link := { t.link with skeinLost := SMap.write false t.link.skeinLost d true } }).set (Pg.port d)
        Port.STATUS_DEGRADED 1).portEvent d 0x1008 3 p 0xFF none true

/-- A Skein module in service goes DOWN. -/
def skeinDown (s : State) (d p : Nat) : State := (s.skeinFails d p).skeinLast d [p]

/-- A Skein module changes to half width (R129). -/
def skeinHalf (s : State) (d p : Nat) (dirs : Bool × Bool) : State :=
  let m := s.linkMod d p
  let t := (s.setModState d p 3).setLinkMod d p { m with half := (m.half.1 || dirs.1, m.half.2 || dirs.2) }
  let wires (dir : Nat) : Nat := popcount 68 (s.wireMask (Pg.port d) p dir)
  let t := if dirs.1 then t.historyOnce 4 (Pg.port d) (p * 256) (wires 0) else t
  let t := if dirs.2 then t.historyOnce 4 (Pg.port d) (p * 256 + 128) (wires 1) else t
  t.portEvent d 0x1006 3 p 0xFF (some Port.INT_HALF_WIDTH) true

/-- Whether a direction's stored map serves all 64 positions, and how many wires it may use. -/
def dirFull (s : State) (d p dir : Nat) : Bool := fullMap (s.wireMask (Pg.port d) p dir) (s.wireAssign (Pg.port d) p dir)
def usableWires (s : State) (d p dir : Nat) : Nat := popcount 68 (s.wireMask (Pg.port d) p dir)

/-- What a Skein module becomes with the maps it has: FULL, HALF or DOWN (R129). -/
def skeinWidth (s : State) (d p : Nat) : State :=
  if s.dirFull d p 0 && s.dirFull d p 1 then s.setModState d p 2
  else if 32 ≤ s.usableWires d p 0 ∧ 32 ≤ s.usableWires d p 1 then
    if s.modState d p = 3 then s else s.skeinHalf d p (!(s.dirFull d p 0), !(s.dirFull d p 1))
  else s.skeinFails d p

/-- What it becomes in service. -/
def skeinOutcome (s : State) (d p : Nat) : State :=
  let t := s.skeinWidth d p
  if t.modState d p = 0 then t.skeinLast d [p] else t

/-- What a module becomes as the port enters ACTIVE. -/
def moduleOutcome (s : State) (d p : Nat) : State :=
  if s.modRole d p = 0 then
    if s.dirFull d p 0 = false then s.crossingFails d p 0 false
    else if s.dirFull d p 1 = false then s.crossingFails d p 1 false
    else s.setModState d p 2
  else if s.modRole d p = 1 then s.skeinWidth d p
  else s

/-- What the reserve becomes as the port enters ACTIVE: in use it serves, or its module's service is lost; unused and usable it begins its
training in the background with WIRE_TEST (R128, R129, R138). -/
def reserveOutcome (s : State) (d : Nat) : State :=
  let r := reserveOf d
  let full := s.dirFull d r 0 && s.dirFull d r 1
  if s.modRole d r = 3 then s
  else if s.modLogical d r ≠ 0xF then
    let t := s.set (Pg.port d) Port.STATUS_RESERVE_IN_USE 1
    if full then t.setModState d r 2 else t.crossingFails d r (if s.dirFull d r 0 then 1 else 0) false
  else if SMap.read false s.link.reserveBad d then s.setModState d r 0
  else if full then
    { s.setModState d r 1 with link := { s.link with background := SMap.write 0 s.link.background d 1 } }
  else s.reserveLost d

/-- FRAME_LOCK ends. Of a port: it is ACTIVE, each module is what its maps make of it, the reserve first, and the Skein modules resume with the
oldest unacknowledged flits (R119, R129, R133, R138). Of an unused reserve in the background: it carries IDLE frames (R128). -/
def frameLocked (s : State) (d : Nat) : State :=
  if s.portState d = 5 then
    let t := ((s.set (Pg.port d) Port.STATUS_STATE 6).setInt (Pg.port d) Port.INT_ACTIVE).reserveOutcome d
    let ps := (t.liveModules d).filter (fun p => p ≠ reserveOf d)
    let t := forEach ps (fun p u => u.moduleOutcome d p) t
    let sk := ps.filter (fun p => t.modRole d p = 1)
    let t := forEach sk (fun p u => (u.linkResume d (u.modLogical d p) 0).linkResume d (u.modLogical d p) 1) t
    t.skeinLast d (sk.filter (fun p => t.modState d p = 0))
  else if s.portActive d = true ∧ SMap.read 0 s.link.background d = 2 then
    { s.setModState d (reserveOf d) 2 with link := { s.link with background := SMap.write 0 s.link.background d 0 } }
  else s

/-- WIRE_TEST of the unused reserve ends in the background: it goes on to FRAME_LOCK, or fails where a wire that its map uses is not good
(R128, R129; DEDUCED: no MAP_AGREE follows; log entry 100). -/
def reserveTested (s : State) (d : Nat) (bad : List (Nat × Nat × Nat)) : State :=
  let r := reserveOf d
  if s.portActive d = true ∧ SMap.read 0 s.link.background d = 1 then
    let used := fun (b : Nat × Nat × Nat) => b.1 = r &&
      (frameWires false (s.wireMask (Pg.port d) r b.2.1) (s.wireAssign (Pg.port d) r b.2.1)).elem (some b.2.2)
    if bad.any used then s.reserveLost d
    else { s with link := { s.link with background := SMap.write 0 s.link.background d 2 } }
  else s

/-- Start the swap of a position onto a free spare (R127). -/
def startSwap (s : State) (d p dir pos old spare : Nat) : State :=
  let m := s.linkMod d p
  s.setLinkMod d p { m with swap := some { dir := dir, pos := pos, old := old, spare := spare } }

/-- A position has lost its wire and no spare is free (R129). -/
def spareless (s : State) (d p dir w : Nat) : State :=
  if p = reserveOf d ∧ s.modLogical d p = 0xF then s.reserveLost d
  else if s.modRole d p = 1 then
    (s.retireWire d p dir w).skeinOutcome d p
  else s.crossingFails d p dir true

/-- A wire is classed lasting (R127, R129, R140, R598): a free spare is retired; the wire that serves a position is swapped, or
waits for the running swap; without a free spare R129 applies. A wire already retired changes nothing. -/
def lastingWire (s : State) (d p dir w : Nat) : State :=
  let page := Pg.port d
  let mask := s.wireMask page p dir
  let assign := s.wireAssign page p dir
  let m := s.linkMod d p
  let pos := if w < 64 then w else spareOf assign (w - 64)
  if bit mask w = false then s
  else if m.swap.isSome then s.setLinkMod d p { m with waiting := m.waiting ++ [(dir, w)] }
  else if 64 ≤ w ∧ 64 ≤ pos then s.retireWire d p dir w
  else if w < 64 ∧ served assign w = true then s.retireWire d p dir w
  else if s.modState d p = 3 then (s.retireWire d p dir w).skeinOutcome d p
  else
    match freeSpare mask assign with
    | some k => s.startSwap d p dir pos w k
    | none => s.spareless d p dir w

/-- The running swap's frame, with `CODE` SWAP_NEXT: both sides read the position from the spare, and the old wire is retired; the wires that
waited are handled next, in order, until one of them starts a swap of its own (R127, R140). -/
def swapDone (s : State) (d p : Nat) : State :=
  let m := s.linkMod d p
  match m.swap with
  | none => s
  | some w =>
    let page := Pg.port d
    let t := (s.markLast d (s.modLogical d p) w.dir 1).setLinkMod d p { m with swap := none, waiting := [] }
    let t := t.storeMap d p w.dir (t.wireMask page p w.dir) (setSpare (t.wireAssign page p w.dir) w.spare w.pos)
    let t := t.retireWire d p w.dir w.old
    let t := t.history 1 page (p * 256 + w.dir * 128 + w.pos) (64 + w.spare)
    let t := t.portEvent d 0x1003 3 p (64 + w.spare) (some Port.INT_SPARE_USED) false
    forEach m.waiting (fun x u => u.lastingWire d p x.1 x.2) t

/-- The planned move's frame, with `CODE` MOVE_NEXT: the reserve takes the module (R128). -/
def moveDone (s : State) (d : Nat) : State :=
  match SMap.read none s.link.move d with
  | some (p, _) => ((s.markLast d (s.modLogical d p) 0 3).markLast d (s.modLogical d p) 1 3).moveTo d p
  | none => s

/-- A planned move whose copy is discarded: its module has no reserve to go to, or tries again (R128, R129, R140). -/
def moveDiscarded (s : State) (d : Nat) : State :=
  { s with link := { s.link with move := SMap.write none s.link.move d none } }

/-- A forwarded-clock failure or a multi-wire loss on a crossing module direction in service: the frames that cross the module in the window of
the move are lost. A sudden move wins over a copying planned move, whose module then has no reserve left (R128, R140). -/
def suddenFailure (s : State) (d p dir : Nat) : State :=
  if s.portActive d = false ∨ s.modRole d p = 3 ∨ s.modRole d p = 1 then s
  else if p = reserveOf d ∧ s.modLogical d p = 0xF then s
  else
    let old := SMap.read none s.link.move d
    let m := s.modLogical d p
    let t := (((s.loseWindow d m 0).loseWindow d m 1).moveDiscarded d).crossingFails d p dir false
    match old with
    | some (q, qdir) => if q = p then t else t.crossLost d q (t.modLogical d q) qdir
    | none => t

/-- The unused reserve fails; a module being copied to it loses its service (R129). -/
def reserveFails (s : State) (d : Nat) : State :=
  let r := reserveOf d
  if s.portActive d = true ∧ s.modRole d r = 2 ∧ s.modLogical d r = 0xF ∧ SMap.read false s.link.reserveBad d = false then
    let t := (s.moveDiscarded d).reserveLost d
    match SMap.read none s.link.move d with
    | some (q, qdir) => t.crossLost d q (t.modLogical d q) qdir
    | none => t
  else s

/-- A Skein module that has failed one `LSEQ` twice retrains alone (R133). -/
def moduleRetrain (s : State) (d m : Nat) : State :=
  match s.physOf d m with
  | some p =>
    if (s.modState d p = 2 ∨ s.modState d p = 3) ∧ s.modRole d p = 1 ∧
        ((s.linkDir d m 0).failedTwice = true ∨ (s.linkDir d m 1).failedTwice = true) then s.setModState d p 1
    else s
  | none => s

/-- The retrain of one Skein module ends: the maps are agreed anew, and the transmitters resend from the oldest unacknowledged flit (R133).
With maps that both sides confirmed in TRAIN_DONE the module is FULL, HALF or DOWN, and no more than half width where the frames did not
lock (R129). Without them it goes DOWN, since a link never carries traffic on an unconfirmed map (DEDUCED from R123; log entry 100). -/
def moduleRetrained (s : State) (d m : Nat) (die0 hub0 die1 hub1 : Nat) (done0 done1 : WireMap) (locked : Bool) : State :=
  match s.physOf d m with
  | some p =>
    if s.portActive d = true ∧ s.modRole d p = 1 ∧ s.modState d p = 1 then
      let t := (s.agreeMap d p 0 die0 hub0).agreeMap d p 1 die1 hub1
      let agreed := done0 = t.mapOf d p 0 ∧ done1 = t.mapOf d p 1
      let t := if agreed then
          (t.putMap (Pg.dieSide d) p 0 done0.mask.toNat done0.assign.toNat).putMap (Pg.dieSide d) p 1 done1.mask.toNat done1.assign.toNat
        else t
      let t := (t.linkResume d m 0).linkResume d m 1
      if agreed ∧ locked = true then t.skeinOutcome d p
      else if agreed ∧ 32 ≤ t.usableWires d p 0 ∧ 32 ≤ t.usableWires d p 1 then t.skeinHalf d p (true, true)
      else t.skeinDown d p
    else s
  | none => s

/-- A sideband message and the copy requested once again have both failed their CRC: the attempt fails, or while ACTIVE the fault is recorded
(R124, R129). `SB_FAULT` then stays 1 until a reset of the device (DESIGN CHOICE: the manual does not say when it clears; log entry 100). -/
def sidebandFails (s : State) (d : Nat) (first second : List Byte) : State :=
  if s.portState d = 0 ∨ sidebandGood first = true ∨ sidebandGood second = true then s
  else if s.portActive d then (s.set (Pg.port d) Port.STATUS_SB_FAULT 1).portEvent d 0x1002 3 0 0xFF none true
  else s.attemptFail d

/-- A suspect wire's retry ends (R126, R598). -/
def wireRetried (s : State) (d p dir w : Nat) (clean : Bool) : State :=
  let m := s.linkMod d p
  if m.suspects.elem (dir, w) then
    let t := s.setLinkMod d p { m with suspects := m.suspects.filter (fun x => x ≠ (dir, w)) }
    if clean then t.count (Pg.port d) Port.LMH_ERRS_TRANSIENT 1 p else t.lastingWire d p dir w
  else s

/-- The audit lap of a lasting crossing failure ends (R157): each wire it classes lasting is handled; none at all is recorded
at the side that classified the failure. -/
def auditLapDone (s : State) (d m dir : Nat) (bad : List Nat) : State :=
  let k := spanDirKey d m dir
  match SMap.read none s.span.laps k, s.physOf d m with
  | some hub, some p =>
    let t := { s with span := { s.span with laps := SMap.write none s.span.laps k none } }
    match bad with
    | [] =>
      if hub then t.event 0x1102 3 (Pg.port d) (2 ^ 31 + 2 ^ 30 + 2 ^ 24 * d + 2 ^ 20 * m)
      else t.event 0x1102 3 (Pg.xport d) (t.lastFail d)
    | _ => forEach bad (fun w u => u.lastingWire d p dir w) t
  | _, _ => s

end State
end Sys2Proof.Machine
end

