-- ==== Sys2Proof/Machine/Boot.lean ====
section
/-! DEFINITION. Configuration and start-up (spec/14_configuration_boot.md) but for REGWRITE, which needs the bus: images,
frame records, the crossing map, attempts, the phases of start-up, release, the audit and partial reload. -/

namespace Sys2Proof.Machine

open Reg

/-! ## Frame addresses (R425) -/

/-- A frame address: die, kind (0 tile, 1 block, 2 content), sector, unit and index. -/
structure FrameAddr where
  die : Nat
  kind : Nat
  sector : Nat
  unit : Nat
  index : Nat
  deriving DecidableEq, Repr

def FrameAddr.ofWord (w : Nat) : FrameAddr :=
  { die := bits w 31 29, kind := bits w 28 27, sector := bits w 26 20, unit := bits w 19 13, index := bits w 12 0 }

def FrameAddr.word (a : FrameAddr) : Nat :=
  a.die * 2 ^ 29 + a.kind * 2 ^ 27 + a.sector * 2 ^ 20 + a.unit * 2 ^ 13 + a.index

/-- How many units a kind has, and how many frames a unit. -/
def FrameAddr.units (kind : Nat) : Nat := if kind = 0 then 128 else if kind = 1 then 1 else 15
def FrameAddr.frames (kind unit : Nat) : Nat := if kind = 0 then 48 else if kind = 1 then 208 else if unit < 10 then 32 else 512

/-- Whether an address names a frame of a fabric die. -/
def FrameAddr.ok (a : FrameAddr) : Bool :=
  isSector a.die a.sector && a.kind < 3 && a.unit < units a.kind && a.index < frames a.kind a.unit

/-- The successor of an address (R425); past sector 95 it is no frame's. -/
def FrameAddr.next (a : FrameAddr) : FrameAddr :=
  if a.index + 1 < frames a.kind a.unit then { a with index := a.index + 1 }
  else if a.unit + 1 < units a.kind then { a with unit := a.unit + 1, index := 0 }
  else { a with sector := a.sector + 1, unit := 0, index := 0 }

/-- `n` successive addresses. -/
def FrameAddr.run : Nat → FrameAddr → List FrameAddr
  | 0, _ => []
  | n + 1, a => a :: run n a.next

/-! ## What the controller rejects in a block frame (R198, R249, R430) -/

/-- Bits of a 64-bit record that no field covers, given as the fields' (high, low). -/
def strayBits (r : Nat) (fields : List (Nat × Nat)) : Bool :=
  (bitList 64 r).any (fun i => !(fields.any (fun f => f.2 ≤ i && i ≤ f.1)))

/-- A DPB record (R196). -/
def dpbRecordBad (r : Nat) : Bool :=
  strayBits r [(12, 0), (25, 16)] || bits r 2 0 = 7 || bits r 5 3 = 7 || bits r 7 6 = 3 || bits r 9 8 = 3

/-- A BKB record (R197). -/
def bkbRecordBad (r : Nat) : Bool := strayBits r [(4, 0), (19, 16), (25, 24)] || bits r 4 3 = 3

/-- The queue record of block `b` (R197, R186, R188). -/
def queueRecordBad (b r : Nat) : Bool :=
  let m := bits r 1 0
  let w := bits r 4 2
  let cap := if b < 10 then 2 ^ (15 - w) else 8192
  strayBits r [(4, 0), (19, 16), (37, 24), (53, 40)] || m = 3 ||
  ((m = 1 || m = 2) && ((if b < 10 then w < 3 || 6 < w else w ≠ 6) || bits r 37 24 = 0 || cap < bits r 37 24 || cap ≤ bits r 53 40))

/-- A DSP slice record, with the record of the slice below it (R248, R249). -/
def dspRecordBad (j r below : Nat) : Bool :=
  if bits r 24 24 = 0 then r ≠ 0
  else
    let base := bits r 35 32
    let len := bits r 39 36
    let m := bits r 27 26
    strayBits r [(43, 0)] || bits r 1 0 = 3 || bits r 5 4 = 3 || bits r 17 12 = 0 || m = 3 ||
    (m = 1 && 15 < base + len) || (m = 2 && (!([1, 2, 4, 8, 16].elem (len + 1)) || base % (len + 1) ≠ 0)) ||
    ((m = 1 || m = 2) && (bits r 43 40 < base || base + len < bits r 43 40)) ||
    (bits r 19 19 = 1 && (j % 16 = 0 || bits r 23 20 ≠ bits below 23 20 || bits below 24 24 = 0))

/-- Record `k` of a block frame. -/
def recordOf (x k : Nat) : Nat := bits x (64 * k + 63) (64 * k)

/-- Whether block frame `f` is rejected for its records. -/
def blockFrameBad (f x : Nat) : Bool :=
  if f = 0 then (List.range 10).any (fun k => dpbRecordBad (recordOf x k))
  else if f = 1 then (List.range 5).any (fun k => bkbRecordBad (recordOf x k))
  else if f = 2 then (List.range 15).any (fun b => queueRecordBad b (recordOf x b))
  else if f = 3 ∨ f = 4 then
    (List.range 16).any (fun k => dspRecordBad (16 * (f - 3) + k) (recordOf x k) (if k = 0 then 0 else recordOf x (k - 1)))
  else false

/-- Multi-hot fields among the attach selects of a block frame (R428, R430). -/
def attachContention (f x : Nat) : Bool :=
  64 ≤ f && f < 192 && (List.range 256).any (fun k => multiHot 4 (bits x (4 * k + 3) (4 * k)))

namespace State

/-- A track whose `OVR` is 1 and whose own multiplexer is not off has two drivers (R430): in a tile frame that is being
written, or in an `OVR` frame. -/
def trackContention (s : State) (d sec t f x : Nat) : Bool :=
  if t < 128 then
    32 ≤ f && f < 40 && (List.range 2).any (fun h => (List.range 8).any (fun k =>
      let lo := 512 * h + 8 * (56 + k)
      (muxPick 4 4 (bits x (lo + 3) lo) (bits x (lo + 7) (lo + 4))).isSome && s.overridden d sec t (2 * (f - 32) + h) (56 + k)))
  else
    192 ≤ f && (bitList 1024 x).any (fun i =>
      let o := 1024 * (f - 192) + i
      let c := o / 128 % 16
      let j := 56 + o / 2048
      let lo := 512 * (c % 2) + 8 * j
      let y := s.frame d sec (o % 128) (32 + c / 2)
      (muxPick 4 4 (bits y (lo + 3) lo) (bits y (lo + 7) (lo + 4))).isSome)

/-- The audit of a sector starts a new lap 0 after its frames have been written (R446). -/
def auditRestart (s : State) (d sec : Nat) : State :=
  { s with boot := { s.boot with references := SMap.write [] s.boot.references (sectorKey d sec) [] } }

/-- Contents that an image does not supply are zeros (R195). -/
def clearContents (s : State) (d : Nat) : State :=
  let mine := fun page => pageKind page = some .mi && pageDie page = d
  { s with mem :=
    { s.mem with
      cells := SMap.keep (fun k => !(mine (k / 65536))) s.mem.cells
      parity := SMap.keep (fun k => !(mine (k / 2048))) s.mem.parity
      spares := SMap.keep (fun k => !(mine (k / 256))) s.mem.spares
      stale := SMap.keep (fun k => !(mine (k / 1024))) s.mem.stale
      repair := SMap.keep (fun k => !(mine (k / 64))) s.mem.repair } }

/-- The first frame of a body that is written: the die is one that the attempt writes, and its contents start from zeros (R195, R437). -/
def dieTouched (s : State) (d : Nat) : State :=
  if s.boot.written = [] then
    let t := s.clearContents d
    { t with boot := { t.boot with touched := withBit t.boot.touched d true } }
  else s

/-- Write one frame of an image: what was wrong with it, or none (R84, R107, R198, R427, R430, R431). A frame for a released sector is captured
with WORD 0, as no register access causes it (DESIGN CHOICE; log entry 98). -/
def imageFrame (s : State) (a : FrameAddr) (x : BitVec 1024) : State × Option Nat :=
  let page := Pg.sctl a.die a.sector
  if a.ok = false then (s, some 0x05)
  else if s.gsrActive a.die a.sector = false then (s.capture page 0x8 .config 0, some 0x05)
  else if SMap.read false s.boot.written a.word = true then (s, some 0x05)
  else
    let s := s.dieTouched a.die
    let s := { s with boot := { s.boot with
      written := SMap.write false s.boot.written a.word true, count := s.boot.count + b2n (a.kind < 2) } }
    if a.kind = 2 then
      let mi := Pg.mi a.die a.sector
      (forEach (List.range 16) (fun k t =>
        let at_ := locate mi a.unit (16 * a.index + k) (s.bankMapOf mi a.unit)
        t.parityStore mi at_.1 at_.2 (x.toNat >>> (64 * k) % 2 ^ 64) false) s, none)
    else
      let t := if a.kind = 0 then a.unit else 128
      let n := x.toNat
      if a.kind = 1 ∧ blockFrameBad a.index n = true then (s, some 0x05)
      else if (a.kind = 0 ∧ frameContention a.index n = true) ∨ (a.kind = 1 ∧ attachContention a.index n = true) ∨
          s.trackContention a.die a.sector t a.index n = true then (s, some 0x06)
      else
        let u := (s.putFrame a.die a.sector t a.index x).auditRestart a.die a.sector
        if a.kind = 1 ∧ 5 ≤ a.index ∧ a.index < 21 then
          (forEach (List.range 32) (fun hq v =>
            let j := 2 * (a.index - 5) + hq / 16
            let q := hq % 16
            v.setCoef a.die a.sector j q (BitVec.ofNat 27 (n >>> (432 * (hq / 16) + 27 * q)))) u, none)
        else (u, none)

/-! ## The state of the controller -/

def bootPhase (s : State) : Nat := s.get Pg.hubGlobal HubGlobal.HUB_BOOT_STATUS_PHASE
def setBootPhase (s : State) (v : Nat) : State := s.set Pg.hubGlobal HubGlobal.HUB_BOOT_STATUS_PHASE v
def bootSource (s : State) : Nat := s.get Pg.hubGlobal HubGlobal.HUB_BOOT_STATUS_SOURCE
def setBootSource (s : State) (v : Nat) : State := s.set Pg.hubGlobal HubGlobal.HUB_BOOT_STATUS_SOURCE v
def minimal (s : State) : Bool := s.flag Pg.hubGlobal HubGlobal.HUB_BOOT_STATUS_MINIMAL
def bootCount (s : State) : Nat := s.get Pg.hubGlobal HubGlobal.HUB_BOOT_STATUS_BOOT_COUNT
def setBootCount (s : State) (v : Nat) : State := s.set Pg.hubGlobal HubGlobal.HUB_BOOT_STATUS_BOOT_COUNT v
def cfgSource (s : State) : Nat := s.get Pg.config Cfg.CFG_POLICY_SOURCE

/-- `STATUS.BUSY`: loading or reloading. -/
def loadBusy (s : State) : Bool := s.boot.reload.isSome || (s.boot.running && s.bootPhase = 3)

/-- A load whose header has been accepted is under way. -/
def loading (s : State) : Bool := s.boot.checked && s.loadBusy

/-- Forget what a load keeps while it runs. -/
def clearLoad (s : State) : State :=
  { s with boot := { s.boot with
    checked := false, sections := [], opened := false, entry := 0, lastLiteral := none, written := [], count := 0,
    touched := 0, bodies := [], heldEn := [], ik := 0, streamLen := none, totalLen := 0, short := 0, body := [], warmTaken := 0 } }

/-! ## Dies that are not configured (R437, R442, R447) -/

/-- A sector returns to the unreleased state of R98. -/
def sectorUnreleased (s : State) (d sec : Nat) : State :=
  (((((s.unreleaseSector d sec).assertGsr d sec).holdBlocks d sec).holdSlices d sec).holdSlice d sec).set (Pg.sctl d sec) Sctl.STATUS_CONFIGURED 0

/-- A die returns to the unconfigured state: its sectors held, its engines in RESET (R442). -/
def dieUnconfigured (s : State) (d : Nat) : State :=
  let t := forEach (List.range 96) (fun sec u => u.sectorUnreleased d sec) s
  forEach (List.range 16) (fun i u => (u.setEngState (16 * (d - 1) + i) 0).engClear (16 * (d - 1) + i)) t

/-! ## Attempts (R435 to R439) -/

/-- A load begins with this boot counter value and image source. -/
def beginLoad (s : State) (attempt source : Nat) : State :=
  let t := s.clearLoad.setBootSource source
  let t := { t with boot := { t.boot with running := true, attempt := attempt, releaseStep := 0, loaded := 0, sectorCrcs := [] } }
  if s.bootPhase = 6 ∨ s.bootPhase = 7 then t.setBootPhase 3 else t

/-- Minimal mode: the MRAM image is loaded (R438). -/
def enterMinimal (s : State) : State :=
  (s.beginLoad s.bootCount 1).set Pg.hubGlobal HubGlobal.HUB_BOOT_STATUS_MINIMAL 1

/-- A worker with source PLY asks the manager for a stream (R552). -/
def plyAsks (s : State) : State :=
  let t := s.plySend 0 { type := 0x13, dst := 0, src := s.plySelf, payload := [] }
  { t with ply := { t.ply with stream := none } }

/-- A stream is wanted of a manager that broadcasts and has loaded an image (R552): one begins, or follows the one that runs. -/
def streamAsked (s : State) : State :=
  if s.get Pg.ply Ply.STATUS_ROLE ≠ 1 ∨ s.flag Pg.ply Ply.PLY_CFG_BCAST = false ∨ s.ply.imageLen = 0 then s
  else if s.ply.streamAt.isSome then { s with ply := { s.ply with streamAgain := true } }
  else match s.plyVia 0 with
    | some p => { s with ply := s.ply.begin p }.plyPumped p ((s.ply.begin p).port p)
    | none => s

/-- The image that an attempt loads has told its length: a manager keeps that for its streams, and streams it (R552). -/
def streamsLoad (s : State) (total : Nat) : State :=
  if s.bootSource = 1 ∨ s.boot.reload.isSome = true then s else { s with ply := { s.ply with imageLen := total } }.streamAsked

/-- A worker reports the end of an attempt that the manager's stream served (R552). -/
def plyReports (s : State) : State :=
  if s.bootSource = 5 then
    s.plySend 0 { type := 0x61, dst := 0, src := s.plySelf, payload := leBytes 4 (s.storedWord Pg.hubGlobal 0x110) ++ leBytes 4 (s.storedWord Pg.hubGlobal 0x114) }
  else s

/-- The Ply ports start (R537, R539): the role is fixed, both links train. -/
def plyStarts (s : State) : State :=
  if s.domState 0x03 = 2 then
    let src := s.get Pg.ply Ply.PLY_CFG_ROLE_SRC
    let t := s.set Pg.ply Ply.STATUS_ROLE (if src = 1 ∨ (src = 0 ∧ Config.managerStrap = true) then 1 else 2)
    let t := (t.set Pg.ply Ply.PLY_LINK_STATE 1 0).set Pg.ply Ply.PLY_LINK_STATE 1 1
    ((t.set Pg.ply Ply.STATUS_RING 0).setPlyPort 0 {}).setPlyPort 1 {}
  else s

/-- An attempt starts (R436, R439): `host` for one that a write of `HOST_LOAD` starts. -/
def startAttempt (s : State) (host : Bool) : State :=
  let n := s.bootCount
  if (host && s.minimal) = false ∧ (3 ≤ n ∨ s.cfgSource = 3 ∨ (host = false ∧ s.cfgSource = 2 ∧ s.get Pg.ply Ply.STATUS_ROLE = 1)) then s.enterMinimal
  else
    let m := satAdd 8 n 1
    let b := s.flag Pg.config Cfg.CFG_POLICY_PREFER_B ^^ (n % 2 = 1)
    let t := (s.setBootCount m).beginLoad m (if host then 4 else if s.cfgSource = 2 then 5 else if b then 3 else 2)
    if host = false ∧ s.cfgSource = 2 then t.plyAsks else t

/-- The controller starts an attempt of its own: with the normal sources, when none runs and start-up has not ended (R436, R437);
with source HOST only a device that the boot counter sends to minimal mode needs none (R439). -/
def ownAttempt (s : State) : State :=
  if s.boot.running = true ∨ s.minimal = true ∨ s.cfgSource = 1 ∨ s.bootPhase = 4 ∨ s.bootPhase = 5 ∨ s.bootPhase = 6 then s
  else s.startAttempt false

/-- The running load fails. A start-up attempt follows R437, a reload R448. -/
def bootFail (s : State) (reason die at_ : Nat) : State :=
  match s.boot.reload with
  | some r =>
    let t := { (s.clearLoad.dieUnconfigured r.die) with boot := { s.clearLoad.boot with reload := none } }
    (((t.set Pg.config Cfg.CFG_RELOAD_STAT_FAILED 1).set Pg.config Cfg.CFG_RELOAD_STAT_REASON reason).set Pg.config
      Cfg.CFG_RELOAD_STAT_DONE 1).setInt Pg.config Cfg.INT_RELOAD_DONE
  | none =>
    if s.boot.running = false then s
    else
      let h := Pg.hubGlobal
      let t := (((s.set h HubGlobal.HUB_BOOT_FAIL_REASON reason).set h HubGlobal.HUB_BOOT_FAIL_DIE die).set h
        HubGlobal.HUB_BOOT_FAIL_SOURCE s.bootSource).set h HubGlobal.HUB_BOOT_FAIL_ATTEMPT s.boot.attempt
      let t := (((t.set h HubGlobal.HUB_BOOT_WHERE_WHERE at_).set h HubGlobal.HUB_BOOT_STATUS_LAST_REASON reason).setBootPhase
        7).setInt Pg.config Cfg.INT_LOAD_FAIL
      let t := forEach [1, 2, 3, 4] (fun d u => if bit s.boot.touched d then u.dieUnconfigured d else u) t.plyReports
      let t := if s.bootSource = 1 ∨ s.bootSource = 4 then t.setBootSource 0 else t
      let t := t.clearLoad.event 0x7001 1 Pg.config at_
      { t with boot := { t.boot with running := false } }

/-- The place of the section at the head of the table, entry `k` (`HUB_BOOT_WHERE`). -/
def sectionPlace (s : State) (k : Nat) : Nat :=
  match s.boot.sections with
  | sec :: _ => sec.index * 65536 + k
  | [] => 0

def sectionDie (s : State) : Nat := match s.boot.sections with | sec :: _ => sec.die | [] => 0

/-- The load fails at entry `k` of the section that is being applied. -/
def failHere (s : State) (reason k : Nat) : State := s.bootFail reason s.sectionDie (s.sectionPlace k)

end State

/-! ## The header and the section table (R419 to R423) -/

/-- A little-endian number of `n` bytes at an offset of a body. -/
def leAt (bs : List Byte) (off n : Nat) : Nat := leNat ((bs.drop off).take n)

/-- How many sections and keys an image has, and where its key table and its signature start (R419, R420). -/
def sectionCount (img : List Byte) : Nat := leAt img 0x50 4
def keyCount (img : List Byte) : Nat := leAt img 0x54 4
def keysAt (img : List Byte) : Nat := 512 + 64 * sectionCount img
def signatureAt (img : List Byte) : Nat := keysAt img + 64 * keyCount img

/-- Entry `i` of the section table (R423). -/
def sectionAt (img : List Byte) (i : Nat) : BootSection :=
  let e := 512 + 64 * i
  { index := i, type := leAt img e 1, die := leAt img (e + 1) 1, target := leAt img (e + 2) 1, offset := leAt img (e + 8) 8
    len := leAt img (e + 16) 8, tag := (img.drop (e + 32)).take 16 }

def sectionTable (img : List Byte) : List BootSection := (List.range (sectionCount img)).map (sectionAt img)

/-- The key-table entry of this device (R421, R422). -/
def keyEntry (img : List Byte) : Option (List Byte) :=
  ((List.range (keyCount img)).map (fun k => (img.drop (keysAt img + 64 * k)).take 64)).find? (fun e =>
    leNat (e.take 8) = Config.hallmarkId.toNat)

/-- Hallmark unwraps the image key of an entry (R422): Z by ECDH, KEK by SHA-384, IK by AES-256-GCM; none where the tag, or the ephemeral key
as a point of the curve, is wrong. -/
def unwrapKey (eph entry : List Byte) : Option (BitVec 256) :=
  (P384.agreedKey 1 Config.hallmarkKey.toNat eph ([0x4B#8, 0x53#8, 0x49#8, 0x4B#8] ++ entry.take 8)).bind (fun kek =>
    let iv := List.replicate 12 0#8
    let wrapped := (entry.drop 8).take 32
    if Gcm.tag kek iv [] wrapped = (entry.drop 40).take 16 then some (BitVec.ofNat 256 (leNat (Gcm.crypt kek iv wrapped))) else none)

/-- Whether a body, as decrypted, is the one whose GCM tag the table carries (R424). -/
def bodyTagged (ik : BitVec 256) (x : BootSection) (body : List Byte) : Bool :=
  let iv := leBytes 4 x.index ++ List.replicate 8 0#8
  Gcm.tag ik iv [] (Gcm.crypt ik iv body) = x.tag

namespace State

/-- The checks of R421, in order: the reason of the first that fails, or the image key. An image that ends before its signature is a stream that
ends before `TOTAL_LEN` (R424). -/
def headerCheck (s : State) (img : List Byte) : Except Nat (BitVec 256) :=
  let mram : Bool := s.bootSource = 1
  let owner := (img.drop 0xC0).take 96
  let hash := beNat (Sha.sha384 owner)
  let at_ := signatureAt img
  if img.length < 512 then .error 0x01
  else if leAt img 0 4 ≠ 0x4D49574B ∨ leAt img 4 2 ≠ 2 ∨ leAt img 6 2 ≠ 0x200 ∨ leAt img 8 2 ≠ 0xE909 ∨
      leAt img 0xA 1 ≠ s.get Pg.hubGlobal HubGlobal.HUB_DEVICE_ID_STEPPING then .error 0x02
  else if img.length < at_ + 96 then .error 0x01
  else if !((Config.hallmarkOkh && hash = Config.ownerKeyHash.toNat) || (mram && hash = Config.provisioningKeyHash.toNat)) then .error 0x03
  else if !(P384.verify owner ((img.drop at_).take 96) (img.take at_)) then .error 0x03
  else
    match keyEntry img with
    | none => .error 0x02
    | some e =>
      match unwrapKey ((img.drop 0x60).take 96) e with
      | none => .error 0x04
      | some ik => if bit (leAt img 0xB 1) 0 = mram then .ok ik else .error 0x02

end State

/-- Whether entry `i` of a section table breaks a rule of R423, given the entries before it. -/
def sectionBad (mini mram : Bool) (before : List BootSection) (x : BootSection) : Bool :=
  let dieOk := match x.type with
    | 1 => x.die = 0 && mram
    | 4 => x.die = 0
    | 2 | 3 | 6 => 1 ≤ x.die && x.die ≤ 4
    | 5 => x.die ≤ 6
    | _ => false
  !dieOk || (mini && x.die ≠ 0) ||
  (x.type = 4 && before.any (fun y => y.type = 4 || y.type = 2)) ||
  ((x.type = 2 || x.type = 3 || x.type = 6) && before.any (fun y => y.type = x.type && y.die = x.die)) ||
  (x.type = 6 && !(before.any (fun y => y.type = 2 && y.die = x.die)))

/-- The first entry of a section table that breaks a rule. -/
def tableFault (mini mram : Bool) (xs : List BootSection) : Option Nat :=
  (List.range xs.length).find? (fun i => match xs[i]? with
    | some x => sectionBad mini mram (xs.take i) x
    | none => false)

namespace State

/-- Whether the load applies a section: for this device (R444); on a warm start only of the fabric dies, and of no die whose
logic was off when it began (R441); on a reload only of its die and the crossing map (R448). -/
def sectionApplies (s : State) (x : BootSection) : Bool :=
  (x.target = 0x3F || x.target = s.get Pg.ply Ply.PLY_NUMBER_NUM) &&
  (match s.boot.reload with
   | some r => x.die = r.die || x.type = 4
   | none => !(s.boot.warm && (x.die = 0 || 4 < x.die)) && !(bit s.boot.skipped x.die))

/-- How long the image's stream is: what the host or the manager has announced (R435, R552). -/
def announced (s : State) : Option Nat :=
  if s.bootSource = 4 then
    some (s.get Pg.config Cfg.CFG_HOST_LEN_LO_LEN + 2 ^ 32 * s.get Pg.config Cfg.CFG_HOST_LEN_HI_LEN)
  else if s.bootSource = 5 then s.ply.stream.map (·.2.1)
  else none

/-- The header and the tables have arrived (R420, R421, R423, R424, R441). -/
def imageHeaderRead (s : State) (img : List Byte) : State :=
  if s.loadBusy = false ∨ s.boot.checked = true then s
  else
    match s.headerCheck img with
    | .error r => s.bootFail r 0 0
    | .ok ik =>
      let mini := bit (leAt img 0xB 1) 0
      let table := sectionTable img
      match tableFault mini (s.bootSource = 1) table with
      | some i => s.bootFail 0x05 (sectionAt img i).die (i * 65536)
      | none =>
        let secs := table.filter s.sectionApplies
        let sum := fun (d : Nat) => ((table.filter (fun x => x.die = d)).map (·.len)).sum
        let short := (List.range 7).foldl (fun m d => if sum d < leAt img (0x18 + 8 * d) 8 then m + 2 ^ d else m) 0
        let t := { s with boot := { s.boot with
          checked := true, sections := secs, version := BitVec.ofNat 32 (leAt img 0xC 4), ik := ik, streamLen := s.announced
          totalLen := leAt img 0x10 8, short := short } }
        let t := t.streamsLoad (leAt img 0x10 8)
        match s.boot.reload with
        | some r => t.dieUnconfigured r.die
        | none =>
          let idle : Bool := [1, 2, 3, 4, 5, 6].any (fun d => !(s.portActive d) && !(secs.any (fun x => x.die = d)))
          t.set Pg.hubGlobal HubGlobal.HUB_BOOT_STATUS_DEGRADED (b2n idle)

/-- The section at the head is done: a fabric die's body is kept for the warm copy (R449). -/
def sectionDone (s : State) : State :=
  let d := s.sectionDie
  let n := s.boot.body.length
  let keep : Bool := 1 ≤ d && d ≤ 4
  { s with boot := { s.boot with
    bodies := if keep then SMap.write [] s.boot.bodies d (SMap.read [] s.boot.bodies d ++ s.boot.body) else s.boot.bodies
    warmTaken := if keep then s.boot.warmTaken + n else s.boot.warmTaken
    sections := s.boot.sections.drop 1, opened := false, entry := 0, lastLiteral := none, written := [], count := 0, body := [] } }

/-- Apply to the section at the head of the table, if it is of this type: a section of a die whose port is not up fails the
load (R441). -/
def atSection (s : State) (type : Nat) (f : State → State) : State :=
  if s.loading = false then s
  else
    match s.boot.sections with
    | [] => s
    | sec :: _ =>
      if sec.type ≠ type then s
      else if sec.die ≠ 0 ∧ s.portActive sec.die = false then s.failHere 0x08 0
      else f s

/-- Bytes of the open body (R424). -/
def keepBody (s : State) (bs : List Byte) : State := { s with boot := { s.boot with body := s.boot.body ++ bs } }

/-! ### A reload from a warm copy (R449) -/

/-- Read `n` lines of a region as class CONFIG; none when a read fails. -/
def warmRead (s : State) (c r line : Nat) : Nat → Option (List (BitVec 512)) × State
  | 0 => (some [], s)
  | n + 1 =>
    match s.permit c (epOf 0 1 0 3) line false with
    | .error _ => (none, s)
    | .ok (r', cls) =>
      if r' ≠ r then (none, s)
      else
        let w := s.lineRead c r line (some cls) []
        if w.1 = 0 then
          let rest := w.2.2.warmRead c r (line + 1) n
          (rest.1.map (w.2.1 :: ·), rest.2)
        else (none, w.2.2)

/-- Whether a reload from a warm copy finds the open body in it: a valid copy, read without an error, that is the body. -/
def warmHolds (s : State) : Bool × State :=
  match s.boot.reload with
  | some r =>
    if r.warm then
      let at_ := s.boot.warmTaken
      let n := s.boot.body.length
      let lines := (at_ % 64 + n + 63) / 64
      let x := s.warmRead (s.get Pg.config Cfg.CFG_WARM_CHANNEL) (s.get Pg.config Cfg.CFG_WARM_REGION)
        (SMap.read 0 s.boot.warmStart r.die + at_ / 64) lines
      let holds : Bool := match x.1 with
        | some ls => ((ls.flatMap (fun l => leBytes 64 l.toNat)).drop (at_ % 64)).take n = s.boot.body
        | none => false
      (bit (s.get Pg.config Cfg.CFG_WARM_STAT_VALID) (r.die - 1) && s.sectionDie = r.die && holds, x.2)
    else (true, s)
  | none => (true, s)

/-- Whether the image's stream ends before `n` bytes. -/
def pastStream (s : State) (n : Nat) : Bool := match s.boot.streamLen with | some k => k < n | none => false

/-- The end of a body (R424, R449): a stream that ends before it falls short, then its GCM tag decides; after the last body of a die,
`DIE_LEN`. -/
def bodyEnds (s : State) : State :=
  match s.boot.sections with
  | [] => s
  | x :: rest =>
    if s.boot.body.length < x.len ∨ s.pastStream (x.offset + x.len) = true then s.failHere 0x01 0
    else
      let w := if x.type = 4 then (true, s) else s.warmHolds
      if (w.1 && bodyTagged s.boot.ik x s.boot.body) = false then w.2.failHere 0x04 0
      else if bit s.boot.short x.die ∧ rest.any (fun y => y.die = x.die) = false then w.2.failHere 0x01 0
      else w.2.sectionDone

/-! ## FRAMES (R426, R427) -/

/-- A FRAMES body begins. The remap tables and the engine mapping stand in the ledger's registers, which nothing clears (R221,
R288, R427). -/
def framesBegin (s : State) : State :=
  s.atSection 2 (fun t =>
    if t.boot.opened then t
    else
      { t with boot := { t.boot with opened := true, entry := 0, lastLiteral := none, written := [], count := 0, body := [] } })

/-- Every tile and block frame address of a die. -/
def dieFrames (d : Nat) : List FrameAddr :=
  (List.range 96).flatMap (fun sec =>
    (List.range 128).flatMap (fun t => (List.range 48).map (fun f =>
      { die := d, kind := 0, sector := sec, unit := t, index := f : FrameAddr })) ++
    (List.range 208).map (fun f => { die := d, kind := 1, sector := sec, unit := 0, index := f : FrameAddr }))

/-- A FRAMES body ends: frames missing end the load, else its tag decides (R424, R427). -/
def framesEnd (s : State) : State :=
  s.atSection 2 (fun t =>
    if t.boot.opened = false then t
    else if t.boot.count ≠ 609792 then
      let missing := (dieFrames t.sectionDie).find? (fun a => SMap.read false t.boot.written a.word = false)
      t.bootFail 0x01 t.sectionDie ((missing.map FrameAddr.word).getD 0)
    else t.bodyEnds)

/-- Write the same data at successive addresses; the first frame that is wrong ends the load at its address. -/
def imageRun (s : State) (x : BitVec 1024) : List FrameAddr → State
  | [] => s
  | a :: as =>
    match s.imageFrame a x with
    | (t, none) => t.imageRun x as
    | (t, some r) => t.bootFail r t.sectionDie a.word

/-- A frame record of operation `op` (R426): the check value is tested first. -/
def frameRecord (s : State) (op : Nat) (addr second check : Word) (data : Option (BitVec 1024)) : State :=
  s.atSection 2 (fun t =>
    let said := bits second.toNat 31 28
    if t.boot.opened = false ∨ (said ≠ op ∧ 1 ≤ said ∧ said ≤ 3) then t
    else
      let body := leBytes 4 addr.toNat ++ leBytes 4 second.toNat ++ (match data with
        | some x => leBytes 128 x.toNat
        | none => [])
      let a := FrameAddr.ofWord addr.toNat
      let fail := fun (u : State) => u.bootFail 0x05 u.sectionDie addr.toNat
      if check.toNat ≠ crc32 body then fail t
      else if bits second.toNat 15 0 ≠ 0 ∨ said ≠ op ∨ a.ok = false ∨ a.die ≠ t.sectionDie then fail t
      else
        let u := t.keepBody (body ++ leBytes 4 check.toNat)
        let n := if op = 1 then 1 else bits second.toNat 27 16 + 1
        let addrs := FrameAddr.run n a
        if addrs.any (fun b => 96 ≤ b.sector) then fail u
        else
          match op, data with
          | 1, some x =>
            ({ u with boot := { u.boot with lastLiteral := some x } }).imageRun x addrs
          | 2, _ => u.imageRun 0 addrs
          | _, _ =>
            match u.boot.lastLiteral with
            | some x => u.imageRun x addrs
            | none => fail u)

/-! ## STAGE1, ENGINES, SECTOR_CRC -/

/-- A STAGE1 body: the firmware of the resident monitor starts on the management cores, whose programs the manual does not
give; nothing else of the device changes (R423, R441). -/
def stage1Read (s : State) (body : List Byte) : State := s.atSection 1 (fun t => (t.keepBody body).bodyEnds)

/-- Load one memory of an engine: the bytes given, zeros beyond them (R431). -/
def engLoad (s : State) (e b : Nat) (bs : List Byte) : State :=
  let page := Pg.eng e 3
  let mine := fun q => (q < 8) = (b = 0)
  let t := { s with mem :=
    { s.mem with
      cells := SMap.keep (fun k => !(k / 65536 = page && mine (k / 1024 % 64))) s.mem.cells
      parity := SMap.keep (fun k => !(k / 2048 = page && mine (k / 32 % 64))) s.mem.parity
      spares := SMap.keep (fun k => !(k / 256 = page && mine (k / 4 % 64))) s.mem.spares
      stale := SMap.keep (fun k => !(k / 1024 = page && mine (k / 16 % 64))) s.mem.stale } }
  forEach (List.range (bs.length / 8)) (fun i u =>
    u.parityStore page (engAt e b i).1 (engAt e b i).2 (leNat ((bs.drop (8 * i)).take 8)) false) t

/-- Whether an engine record is rejected: an engine of another die, or a length beyond its memory (R431). -/
def engineRecordBad (d : Nat) (r : EngineImage) : Bool :=
  r.engine / 16 + 1 ≠ d || 64 ≤ r.engine || 65536 < r.imem.length || 262144 < r.spad.length || r.imem.length % 8 ≠ 0 ||
  r.spad.length % 8 ≠ 0

/-- Apply an engine record. -/
def engineRecord (s : State) (r : EngineImage) : State :=
  let p0 := Pg.eng r.engine 0
  let t := ((s.engLoad r.engine 0 r.imem).engLoad r.engine 1 r.spad).fenceI r.engine
  (t.set p0 Eng0.CTL_AUTORUN (b2n r.autorun)).set p0 Eng0.ENG_BOOT_PC_PC (r.bootPc.toNat / 2)

/-- Apply records until one is rejected. -/
def engineRecords (s : State) (k : Nat) : List EngineImage → State × Option Nat
  | [] => (s, none)
  | r :: rs => if engineRecordBad s.sectionDie r then (s, some k) else (s.engineRecord r).engineRecords (k + 1) rs

/-- The bytes of an engine record (R431). -/
def engineBytes (r : EngineImage) : List Byte :=
  [BitVec.ofNat 8 r.engine, BitVec.ofNat 8 (b2n r.autorun), 0, 0] ++ leBytes 4 r.bootPc.toNat ++ leBytes 4 r.imem.length ++
  leBytes 4 r.spad.length ++ r.imem ++ r.spad

/-- The attempt writes a fabric die without frames. -/
def touchDie (s : State) (d : Nat) : State := { s with boot := { s.boot with touched := withBit s.boot.touched d true } }

/-- An ENGINES body. -/
def enginesRead (s : State) (rs : List EngineImage) : State :=
  s.atSection 3 (fun t =>
    match ((t.keepBody (rs.flatMap engineBytes)).touchDie t.sectionDie).engineRecords 0 rs with
    | (u, some k) => u.failHere 0x05 k
    | (u, none) => u.bodyEnds)

/-- A SECTOR_CRC body of 96 values (R433); a shorter one falls short (R424). -/
def sectorCrcRead (s : State) (vs : List Word) : State :=
  s.atSection 6 (fun t =>
    let d := t.sectionDie
    if vs.length < 96 then t.failHere 0x01 vs.length
    else
      let u := t.keepBody (vs.flatMap (fun v => leBytes 4 v.toNat))
      ({ u with boot := { u.boot with
        sectorCrcs := forEach (List.range 96) (fun sec m => SMap.write none m (sectorKey d sec) vs[sec]?) u.boot.sectorCrcs } }).bodyEnds)

end State

/-! ## The crossing map (R160 to R162) -/

/-- The numbers of route, receiver and channel entries. -/
def mapCounts (bs : List Byte) : Nat × Nat × Nat := (leAt bs 0x10 4, leAt bs 0x14 4, leAt bs 0x18 4)

/-- `SPLIT` of port `d`. -/
def mapSplit (bs : List Byte) (d : Nat) : Nat := leAt bs (0x08 + d - 1) 1

/-- Whether module `m` of port `d` is a crossing module under the map's `SPLIT`. -/
def mapCrossing (bs : List Byte) (d m : Nat) : Bool := 1 ≤ d && d ≤ 6 && m < crossCount d (mapSplit bs d)

/-- A destination group with the value of its entry: port, module, group, entry. -/
structure MapRoute where
  die : Nat
  mod : Nat
  group : Nat
  entry : Nat
  deriving DecidableEq, Repr

/-- Route entry `i` (R160). -/
def mapRoute (bs : List Byte) (i : Nat) : MapRoute :=
  let w := leAt bs (0x20 + 8 * i) 4
  { die := bits w 26 24, mod := bits w 23 20, group := bits w 7 0, entry := leAt bs (0x24 + 8 * i) 4 }

/-- A route that takes a named source group. -/
def routeOf (d m g sd sm sg : Nat) : MapRoute :=
  { die := d, mod := m, group := g, entry := 2 ^ 31 + sd * 2 ^ 24 + sm * 2 ^ 20 + sg }

/-- The crossbar entries of both directions of channel entry `i`: port f of a die receives on the groups that it would send on
(R149, R161). -/
def channelRoutes (bs : List Byte) (i : Nat) : List MapRoute :=
  let n := mapCounts bs
  let w := leAt bs (0x20 + 8 * n.1 + 16 * n.2.1 + 4 * i) 4
  let a := (bits w 2 0, bits w 6 3)
  let b := (bits w 10 8, bits w 14 11)
  let one := fun (x y : Nat × Nat) => (List.range 9).map (fun k =>
    routeOf y.1 (y.2 / 2) (174 + 9 * (y.2 % 2) + k) x.1 (x.2 / 2) (174 + 9 * (x.2 % 2) + k))
  one a b ++ one b a

/-- Receiver entry `i`: port, module, mask. -/
def mapReceiver (bs : List Byte) (i : Nat) : Nat × Nat × Nat :=
  let o := 0x20 + 8 * (mapCounts bs).1 + 16 * i
  (leAt bs o 1, leAt bs (o + 1) 1, leAt bs (o + 4) 12)

/-- Whether a route's own bits are wrong: a module that is no crossing module, a reserved encoding, a reserved bit (R162). -/
def routeBad (bs : List Byte) (i : Nat) : Bool :=
  let w := leAt bs (0x20 + 8 * i) 4
  let r := mapRoute bs i
  bits w 31 27 ≠ 0 || bits w 19 8 ≠ 0 || 192 ≤ r.group || !(mapCrossing bs r.die r.mod) ||
  bits r.entry 30 27 ≠ 0 || bits r.entry 19 8 ≠ 0 || !(mapCrossing bs (bits r.entry 26 24) (bits r.entry 23 20)) ||
  192 ≤ bits r.entry 7 0

def receiverBad (bs : List Byte) (i : Nat) : Bool :=
  let r := mapReceiver bs i
  !(mapCrossing bs r.1 r.2.1) || leAt bs (0x20 + 8 * (mapCounts bs).1 + 16 * i + 2) 2 ≠ 0 || (5 ≤ r.1 && 256 ≤ r.2.2)

/-- The two span channel ports of channel entry `i`, as die and port. -/
def channelPorts (bs : List Byte) (i : Nat) : (Nat × Nat) × (Nat × Nat) :=
  let n := mapCounts bs
  let w := leAt bs (0x20 + 8 * n.1 + 16 * n.2.1 + 4 * i) 4
  ((bits w 2 0, bits w 6 3), (bits w 10 8, bits w 14 11))

def channelBad (bs : List Byte) (i : Nat) : Bool :=
  let n := mapCounts bs
  let w := leAt bs (0x20 + 8 * n.1 + 16 * n.2.1 + 4 * i) 4
  let p := channelPorts bs i
  bits w 31 15 ≠ 0 || bit w 7 || p.1.1 = 0 || 4 < p.1.1 || p.2.1 = 0 || 4 < p.2.1 || p.1.1 = p.2.1 ||
  !(mapCrossing bs p.1.1 (p.1.2 / 2)) || !(mapCrossing bs p.2.1 (p.2.2 / 2))

/-- Every crossbar entry the map programs. -/
def mapRoutes (bs : List Byte) : List MapRoute :=
  (List.range (mapCounts bs).1).map (mapRoute bs) ++ (List.range (mapCounts bs).2.2).flatMap (channelRoutes bs)

/-- The first entry of the map that R162 rejects, numbered through routes, receivers and channels; 0 for the header. -/
def mapFault (bs : List Byte) (rate : Nat) : Option Nat :=
  let n := mapCounts bs
  let total := 0x20 + 8 * n.1 + 16 * n.2.1 + 4 * n.2.2
  if leAt bs 0 4 ≠ 0x50414D58 ∨ leAt bs 4 2 ≠ 1 ∨ leAt bs 6 1 ≠ rate ∨ bs.length ≠ total ∨
      leAt bs 0x1C 4 ≠ crc32 (bs.drop 0x20) ∨ leAt bs 7 1 ≠ 0 ∨ leAt bs 0xE 2 ≠ 0 ∨
      [1, 2, 3, 4, 5, 6].any (fun d => (if d ≤ 4 then 1 else 2) < mapSplit bs d) = true then some 0
  else
    let same := fun (a b : MapRoute) => a.die = b.die && a.mod = b.mod && a.group = b.group
    let badRoute := fun i => routeBad bs i || ((List.range i).any (fun k => same (mapRoute bs k) (mapRoute bs i)))
    let badChan := fun i =>
      let p := channelPorts bs i
      channelBad bs i ||
      (List.range i).any (fun k =>
        let q := channelPorts bs k
        q.1 = p.1 || q.1 = p.2 || q.2 = p.1 || q.2 = p.2) ||
      (channelRoutes bs i).any (fun c => (List.range n.1).any (fun k => same (mapRoute bs k) c))
    match (List.range n.1).find? badRoute with
    | some i => some i
    | none =>
      match (List.range n.2.1).find? (receiverBad bs) with
      | some i => some (n.1 + i)
      | none => ((List.range n.2.2).find? badChan).map (fun i => n.1 + n.2.1 + i)

namespace State

/-- Whether a crossbar page is locked: its destination is not DOWN and the crossing registers of the die are not held (R137). -/
def xbarLocked (s : State) (page : Nat) : Bool :=
  let d := (page - 0x820) / 16 + 1
  s.portState d ≠ 0 && (if d ≤ 4 then !((List.range 96).all (s.gsrActive d)) else s.adaptersReleased d)

/-- Write a crossbar entry; a write to a locked page is dropped and captured (R137, R596). -/
def putXbar (s : State) (r : MapRoute) : State :=
  let p := Pg.xbar r.die r.mod
  if s.xbarLocked p then s.capture p 0x8 .config (0x100 + 4 * r.group)
  else
    (((s.set p Xbar.XBAR_ENTRY_EN (bits r.entry 31 31) r.group).set p Xbar.XBAR_ENTRY_SRC_DIE (bits r.entry 26 24) r.group).set p
      Xbar.XBAR_ENTRY_SRC_MOD (bits r.entry 23 20) r.group).set p Xbar.XBAR_ENTRY_SRC_GROUP (bits r.entry 7 0) r.group

/-- Every entry of a destination port goes off, unless its pages are locked, and its receivers are forgotten: groups that no entry names stay
off (R137, R161). -/
def clearXbar (s : State) (d : Nat) : State :=
  let t := if s.xbarLocked (Pg.xbar d 0) then s else { s with regs := SMap.keep (fun k =>
    !((List.range (logicalModules d)).any (fun m => k / 32768 = Pg.xbar d m && 0x100 ≤ k / 8 % 4096))) s.regs }
  { t with span := { t.span with receivers := SMap.keep (fun k => k / 16 ≠ d) t.span.receivers } }

/-- The map's `SPLIT` of a port: its modules take their roles, and one that becomes a crossing module is what its maps make of it (R29, R160;
DEDUCED: the map carries the split of every port, log entry 78). -/
def mapSplits (s : State) (d v : Nat) : State :=
  if s.get (Pg.port d) Port.CTL_SPLIT = v then s
  else
    let t := (s.set (Pg.port d) Port.CTL_SPLIT v).setRoles d
    let moved := (s.liveModules d).filter (fun p => s.modRole d p ≠ t.modRole d p)
    let t := forEach moved (fun p u => (u.setLinkDir d (u.modLogical d p) 0 {}).setLinkDir d (u.modLogical d p) 1 {}) (t.framesLost d)
    if t.portActive d then forEach moved (fun p u => u.moduleOutcome d p) t else t

/-- A span channel port's `SFIFO_CTL` from the map: a port that comes into use runs with both FIFOs empty (R149, R151, R163). -/
def mapSide (s : State) (d f : Nat) (peer : Option (Nat × Nat)) : State :=
  let p := Pg.xport d
  let was := s.flag p Xport.SFIFO_CTL_EN f
  match peer with
  | some e =>
    let t := ((s.set p Xport.SFIFO_CTL_EN 1 f).set p Xport.SFIFO_CTL_PEER_DIE e.1 f).set p Xport.SFIFO_CTL_PEER_PORT e.2 f
    if was then t else (t.setSide d f {}).sideRestart d f
  | none =>
    if was then
      let t := ((s.set p Xport.SFIFO_CTL_EN 0 f).set p Xport.SFIFO_CTL_PEER_DIE 0 f).set p Xport.SFIFO_CTL_PEER_PORT 0 f
      ((t.set p Xport.SFIFO_STATUS_ERROR 0 f).set p Xport.SFIFO_STATUS_READY 0 f).setSide d f {}
    else s

/-- The span channel that the map joins a port to (R149, R160). -/
def mapPeer (bs : List Byte) (d f : Nat) : Option (Nat × Nat) :=
  let ps := (List.range (mapCounts bs).2.2).flatMap (fun i => let p := channelPorts bs i; [(p.1, p.2), (p.2, p.1)])
  (ps.find? (fun p => p.1 = (d, f))).map (·.2)

/-- An XMAP body: nothing of a rejected map is written; a reload replaces the entries of its die alone (R160 to R162). -/
def xmapRead (s : State) (bs : List Byte) : State :=
  s.atSection 4 (fun t =>
    match mapFault bs (t.get Pg.clock Clock.CLK_SPAN_ACTIVE) with
    | some k => t.failHere 0x05 k
    | none =>
      let mine := fun d => match t.boot.reload with
        | some r => d = r.die
        | none => true
      let dies := [1, 2, 3, 4, 5, 6].filter mine
      let u := forEach dies (fun d v => (v.clearXbar d).mapSplits d (mapSplit bs d)) t
      let u := forEach ((mapRoutes bs).filter (fun r => mine r.die)) (fun r v => v.putXbar r) u
      let u := forEach (((List.range (mapCounts bs).2.1).map (mapReceiver bs)).filter (fun r => mine r.1)) (fun r v =>
        { v with span := { v.span with receivers := SMap.write 0 v.span.receivers (spanKey r.1 r.2.1) r.2.2 } }) u
      let u := forEach (dies.filter (· ≤ 4)) (fun d v => forEach (List.range 16) (fun f w => w.mapSide d f (mapPeer bs d f)) v) u
      (u.keepBody bs).bodyEnds)

/-! ## The audit (R445 to R447) -/

/-- The CRC of a tile, or of the audited block frames for 128. -/
def tileBytes (s : State) (d sec t : Nat) : List Byte :=
  (if t < 128 then (List.range 48) else [0, 1, 2, 3, 4] ++ (List.range 187).map (· + 21)).flatMap (fun f =>
    leBytes 128 (s.frame d sec t f))
def auditCrc (s : State) (d sec t : Nat) : Word := BitVec.ofNat 32 (crc32 (s.tileBytes d sec t))

/-- The sector CRC of R433. -/
def sectorCrc (s : State) (d sec : Nat) : Word :=
  BitVec.ofNat 32 (crc32 ((List.range 129).flatMap (s.tileBytes d sec)))

/-- The audit unit of a sector runs: LOAD, or the reload's sections, have ended for the die, and its logic has power (R445, R448). -/
def auditRuns (s : State) (d sec : Nat) : Bool :=
  isSector d sec && s.domOn (16 * d + 1) &&
  (match s.boot.reload with
   | some r => if r.die = d then s.boot.checked && s.boot.sections.isEmpty else bit s.boot.loaded d
   | none => bit s.boot.loaded d && !(s.boot.running && s.bootPhase < 4))

def references (s : State) (d sec : Nat) : List Word := SMap.read [] s.boot.references (sectorKey d sec)

/-- `SCTL_AUDIT_ERR` as a word. -/
def auditErr (s : State) (p : Nat) : Nat :=
  2 ^ 31 * s.get p Sctl.SCTL_AUDIT_ERR_VALID + 2 ^ 28 * s.get p Sctl.SCTL_AUDIT_ERR_KIND + s.get p Sctl.SCTL_AUDIT_ERR_TILE

/-- Load `SCTL_AUDIT_ERR` with the first mismatch since it was cleared. -/
def auditNote (s : State) (p kind tile : Nat) : State :=
  if s.flag p Sctl.SCTL_AUDIT_ERR_VALID then s
  else ((s.set p Sctl.SCTL_AUDIT_ERR_VALID 1).set p Sctl.SCTL_AUDIT_ERR_KIND kind).set p Sctl.SCTL_AUDIT_ERR_TILE tile

/-- A mismatch whose retry matches (R447). -/
def auditTransient (s : State) (d sec tile : Nat) : State :=
  let p := Pg.sctl d sec
  let t := ((s.count p Sctl.SCTL_AUDIT_CNT_TRANSIENT).auditNote p 1 tile).setInt p Sctl.INT_AUDIT_TRANSIENT
  t.event 0x7003 2 p (t.auditErr p)

/-- A lasting mismatch: in phase AUDIT the attempt, or a reload, fails; after that the sector is stopped (R447). -/
def auditLasting (s : State) (d sec kind tile : Nat) : State :=
  let p := Pg.sctl d sec
  let t := (s.auditNote p kind tile).setInt p Sctl.INT_AUDIT_LASTING
  if s.boot.running = true ∨ s.boot.reload.isSome = true then t.bootFail 0x0A d 0
  else
    let u := (t.sectorUnreleased d sec).fatal Safety.SAF_FATAL_AUDIT 0x7004 p
    u.event 0x7004 4 p (u.auditErr p)

/-- A lap of a sector's audit ends (R445): lap 0 stores the references and is compared with the image's sector CRC; a later
lap counts, and an armed `FLIP_ONCE` shows as one transient mismatch. -/
def auditLap (s : State) (d sec us : Nat) : State :=
  let p := Pg.sctl d sec
  if s.auditRuns d sec = false then s
  else if s.references d sec = [] then
    let sig := s.sectorCrc d sec
    let t := { s with boot := { s.boot with
      references := SMap.write [] s.boot.references (sectorKey d sec) ((List.range 129).map (s.auditCrc d sec)) } }
    let t := ((t.set p Sctl.SCTL_AUDIT_SIG_SIG sig.toNat).set p Sctl.SCTL_AUDIT_CNT_LAPS 0).set p Sctl.SCTL_AUDIT_LAP_LAP_LAST us
    match SMap.read none s.boot.sectorCrcs (sectorKey d sec) with
    | some x => if x = sig then t else t.auditLasting d sec 3 0
    | none => t
  else
    let t := (s.count p Sctl.SCTL_AUDIT_CNT_LAPS).set p Sctl.SCTL_AUDIT_LAP_LAP_LAST us
    if s.flag p Sctl.SCTL_AUDIT_TEST_FLIP_ONCE then
      (t.set p Sctl.SCTL_AUDIT_TEST_FLIP_ONCE 0).auditTransient d sec (s.get p Sctl.SCTL_AUDIT_TEST_TILE)
    else t

/-- The CRC of a tile differs from its reference; the retry matches or not (R447). -/
def auditDiffers (s : State) (d sec tile : Nat) (clean : Bool) : State :=
  if s.auditRuns d sec = false ∨ s.references d sec = [] then s
  else if clean then s.auditTransient d sec tile
  else s.auditLasting d sec 2 tile

/-- Lap 0 of every sector of a die has ended. -/
def auditsDone (s : State) (d : Nat) : Bool := (List.range 96).all (fun sec => s.references d sec ≠ [])

/-! ## Release (R443) -/

/-- A held enable takes effect (R432, R443). -/
def enableHeld (s : State) (p : Nat) : State :=
  if pageKind p = some .lane then
    (if s.laneMapsOk p then (s.set p Lane.CTL_EN 1).laneWritten s p 0x010 (1 + 16 * s.get p Lane.CTL_LOOP)
     else s.capture p 0x9 .config 0x010)
  else
    let c := 2 * (pageDie p - 1) + (pageInDie p - 0xC0) / 0x10
    ((s.set p Ddr.CTL_EN 1).ddrResumes c).setBit Pg.powerCtl PowerCtl.PWR_HIB_STAT_SR_HELD c false

def enableHeldOf (s : State) (mine : Nat → Bool) : State :=
  let t := forEach (s.boot.heldEn.filter (fun p => mine (pageDie p))) (fun p u => u.enableHeld p) s
  { t with boot := { t.boot with heldEn := t.boot.heldEn.filter (fun p => !(mine (pageDie p))) } }

/-- Start-up releases a sector: `CONFIGURED` follows (R98, R109). -/
def startRelease (s : State) (d sec : Nat) : State :=
  (s.releaseSector d sec).set (Pg.sctl d sec) Sctl.STATUS_CONFIGURED (b2n (s.tilesWritten d sec))

/-- A fabric die is released. -/
def releaseDie (s : State) (d : Nat) : State :=
  let t := forEach (List.range 96) (fun sec u => u.startRelease d sec) s
  let t := forEach (List.range 16) (fun i u => u.engRelease (16 * (d - 1) + i)) t
  t.enableHeldOf (fun e => e = d)

/-- The adapters of both lane dies are released together. -/
def releaseAdapters (s : State) : State :=
  ((s.releaseSector 5 0).releaseSector 6 0).enableHeldOf (fun e => 5 ≤ e)

/-- The next die in the order F0 to F3, the adapters; a die the image does not configure is passed over; a reload releases its die
alone (R443, R448). -/
def nextRelease (s : State) : State :=
  match s.boot.reload with
  | some r =>
    if s.boot.checked = true ∧ s.boot.sections = [] ∧ s.auditsDone r.die = true then
      let t := s.releaseDie r.die
      let t := { t.clearLoad with boot := { t.clearLoad.boot with reload := none, loaded := withBit t.boot.loaded r.die true } }
      (t.set Pg.config Cfg.CFG_RELOAD_STAT_DONE 1).setInt Pg.config Cfg.INT_RELOAD_DONE
    else s
  | none =>
    if s.boot.running = false ∨ s.bootPhase ≠ 5 then s
    else
      match ([0, 1, 2, 3].filter (fun k => s.boot.releaseStep ≤ k && bit s.boot.loaded (k + 1))) with
      | k :: _ => { (s.releaseDie (k + 1)) with boot := { (s.releaseDie (k + 1)).boot with releaseStep := k + 1 } }
      | [] =>
        if s.boot.releaseStep = 5 then s
        else
          let t := if s.boot.warm ∨ s.bootSource = 1 then s else s.releaseAdapters
          { t with boot := { t.boot with releaseStep := 5 } }

/-! ## Warm copies (R449) -/

/-- Write a body line by line from a data line of a region, as class CONFIG; false when a write fails. -/
def warmLines (s : State) (c r line : Nat) : List (BitVec 512) → Bool × State
  | [] => (true, s)
  | x :: xs =>
    match s.permit c (epOf 0 1 0 3) line true with
    | .error _ => (false, s)
    | .ok (r', cls) =>
      if r' ≠ r then (false, s)
      else
        let w := s.lineWrite c r line x (BitVec.allOnes 64) (some cls) []
        if w.1 = 0 then w.2.warmLines c r (line + 1) xs else (false, w.2)

/-- The lines of a body. -/
def bodyLines (bs : List Byte) : List (BitVec 512) :=
  (List.range ((bs.length + 63) / 64)).map (fun i => BitVec.ofNat 512 (leNat ((bs.drop (64 * i)).take 64)))

/-- Write the copies of the dies that follow, from a line on; the first failure leaves the rest invalid. -/
def warmDies (s : State) (c r line : Nat) : List Nat → State
  | [] => s
  | d :: ds =>
    let ls := bodyLines (SMap.read [] s.boot.bodies d)
    if ls = [] then s.warmDies c r line ds
    else
      match s.warmLines c r line ls with
      | (true, t) =>
        ({ t.setBit Pg.config Cfg.CFG_WARM_STAT_VALID (d - 1) true with
          boot := { t.boot with warmStart := SMap.write 0 t.boot.warmStart d line } }).warmDies c r (line + ls.length) ds
      | (false, t) => t.event 0x7005 1 Pg.config (t.get Pg.hubGlobal HubGlobal.HUB_BOOT_WHERE_WHERE)

/-- After a successful LOAD the controller keeps warm copies, if it is asked to. -/
def warmCopies (s : State) : State :=
  let c := s.get Pg.config Cfg.CFG_WARM_CHANNEL
  let r := s.get Pg.config Cfg.CFG_WARM_REGION
  if s.flag Pg.config Cfg.CFG_WARM_EN = false then s
  else
    let t := s.set Pg.config Cfg.CFG_WARM_STAT_VALID 0
    let lines := ([1, 2, 3, 4].map (fun d => (bodyLines (SMap.read [] s.boot.bodies d)).length)).sum
    let ok : Bool := s.regMode c r = 2 && bits (s.get (Pg.crypto c) Crypto.REG_RIGHTS_RIGHTS r) 9 8 = 3 && lines ≤ s.regN c r
    if ok then t.warmDies c r (s.regBase c r) [1, 2, 3, 4]
    else t.event 0x7005 1 Pg.config (t.get Pg.hubGlobal HubGlobal.HUB_BOOT_WHERE_WHERE)

/-! ## The phases of start-up (R441) -/

/-- A phase completes and the next begins. -/
def phaseDone (s : State) (clocks : State → State) : State :=
  match s.bootPhase with
  | 0 => clocks (s.setBootPhase 1)
  | 1 =>
    let t := if s.boot.warm then s else s.plyStarts
    forEach [1, 2, 3, 4, 5, 6] (fun d t => if s.boot.warm && s.portActive d then t else t.startTraining d) (t.setBootPhase 2)
  | 2 => if [1, 2, 3, 4, 5, 6].all (fun d => s.portActive d || s.portState d = 0) = true then s.setBootPhase 3 else s
  | 3 =>
    if s.boot.running = true ∧ s.boot.checked = true ∧ s.boot.sections = [] then
      if s.pastStream s.boot.totalLen then s.bootFail 0x01 0 0
      else
      let t := { s with boot := { s.boot with loaded := s.boot.touched } }
      t.warmCopies.setBootPhase 4
    else s
  | 4 =>
    if s.boot.running = true ∧ [1, 2, 3, 4].all (fun d => !(bit s.boot.loaded d) || s.auditsDone d) = true then s.setBootPhase 5
    else s
  | 5 =>
    if s.boot.running = true ∧ s.boot.releaseStep = 5 then
      let t := (s.setBootPhase 6).setInt Pg.config Cfg.INT_LOAD_DONE
      let t := if s.bootSource = 1 then t else t.set Pg.hubGlobal HubGlobal.HUB_BOOT_STATUS_MINIMAL 0
      let t := t.plyReports.event 0x7002 1 Pg.config (t.get Pg.hubGlobal HubGlobal.HUB_BOOT_WHERE_WHERE)
      { t with boot := { t.boot with running := false, checked := false } }
    else s
  | _ => s

/-- A phase overruns its bound (R441): the reason is the table's; for RESET and RELEASE, for which it gives none, a free value. -/
def phaseTimeout (s : State) : State :=
  match s.bootPhase with
  | 0 | 5 => if s.boot.running then (s.bootFail (s.freeVal % 256) 0 0).took else s
  | 1 | 2 => s.bootFail 0x09 0 0
  | 3 => s.bootFail 0x07 0 0
  | 4 => s.bootFail 0x0A 0 0
  | _ => s

/-- Start-up begins after a reset (R441): `warm` after a WARM_RESET. -/
def startUp (s : State) (warm : Bool) : State :=
  let skip := [1, 2, 3, 4].foldl (fun m d => if warm && !(s.domOn (16 * d + 1)) then m + 2 ^ d else m) 0
  let t := s.clearLoad
  let t := { t with boot := { t.boot with
    running := false, warm := warm, skipped := skip, reload := none, releaseStep := 0, references := [], sectorCrcs := [] } }
  (((t.setBootPhase 0).setBootSource 0).set Pg.hubGlobal HubGlobal.HUB_BOOT_STATUS_MINIMAL 0)

/-! ## The page's own rules at a bus access (R436, R439, R448) -/

/-- The code with which a write of the configuration page's `CTL` is dropped. -/
def configGuard (s : State) (off w : Nat) : Option Nat :=
  let die := s.get Pg.config Cfg.CFG_RELOAD_DIE
  if off ≠ 0x010 then none
  else if bit w 2 ∧ (s.boot.running = true ∨ s.boot.reload.isSome = true ∨ (s.cfgSource ≠ 1 ∧ s.minimal = false)) then some 0xA
  else if bit w 1 ∧ (s.boot.running = true ∨ s.boot.reload.isSome = true) then some 0xA
  else if bit w 1 ∧ !((List.range 96).all (fun sec => isSector die sec && s.gsrActive die sec)) then some 0x9
  else none

/-- `CTL.RELOAD` is accepted (R448, R450). -/
def reloadStarts (s : State) : State :=
  let d := s.get Pg.config Cfg.CFG_RELOAD_DIE
  let t := (s.set Pg.config Cfg.CFG_RELOAD_STAT_FAILED 0).set Pg.config Cfg.CFG_RELOAD_STAT_REASON 0
  let t := t.clearLoad
  let t := { t with boot := { t.boot with reload := some { die := d, warm := s.flag Pg.config Cfg.CFG_RELOAD_FROM_WARM } } }
  if s.portActive d then t else t.bootFail 0x08 d 0

def configWritten (s : State) (off w : Nat) : State :=
  if off ≠ 0x010 then s
  else applyIf (bit w 1) reloadStarts (applyIf (bit w 2) (fun t => t.startAttempt true) s)

/-- The code with which a write of `HUB_BOOT_CONFIRM` is dropped, and its effect. -/
def confirmGuard (s : State) : Option Nat := if s.bootPhase = 6 ∨ s.minimal = true then none else some 0x8
def confirmWritten (s : State) (w : Nat) : State := if w = 0x424F4F54 then s.setBootCount 0 else s

end State
end Sys2Proof.Machine
end

