-- ==== Sys2Proof/Machine/Clock.lean ====
section
/-! DEFINITION. Clocks (spec/15_clocks_resets.md R451 to R463): the references and their monitors, the hub PLLs with their spare,
the SPAN_CLK gates, the lane references and the SyncE outputs. -/

namespace Sys2Proof.Machine

open Reg

namespace State

/-- The clock page's `STATUS` as a word: the detail of its events (R530). -/
def clockStatus (s : State) : Nat :=
  32 * s.get Pg.clock Clock.STATUS_HOLDOVER + 16 * s.get Pg.clock Clock.STATUS_FREE_RUN + s.get Pg.clock Clock.STATUS_REF_ACTIVE

def clockEvent (s : State) (code sev : Nat) : State := s.event code sev Pg.clock s.clockStatus

/-! ## References (R459, R460) -/

def refOk (b : Bool) : RegField := if b then Clock.CLK_REF_MON_B_OK else Clock.CLK_REF_MON_A_OK
def refBad (b : Bool) : RegField := if b then Clock.CLK_REF_MON_B_BAD else Clock.CLK_REF_MON_A_BAD

def refActive (s : State) : Nat := s.get Pg.clock Clock.STATUS_REF_ACTIVE
def setRefActive (s : State) (v : Nat) : State := s.set Pg.clock Clock.STATUS_REF_ACTIVE v

/-- The hub switches to the other reference. -/
def refSwitch (s : State) (b : Bool) : State :=
  (((s.setRefActive (b2n b)).set Pg.clock Clock.STATUS_HOLDOVER 0).setInt Pg.clock Clock.INT_REF_SWITCH).clockEvent 0x8001 1

/-- A PLL's failed relock is lasting: it is retired in the ledger (R462). -/
def pllRetired (s : State) (p : Nat) : State :=
  let role := ((s.clock.relock.find? (fun x => x.1 = p)).map Prod.snd).getD 3
  let t := { s with clock := { s.clock with relock := s.clock.relock.filter (fun x => x.1 ≠ p) } }
  let t := (t.set Pg.clock Clock.CLK_PLL_RETIRED 1 p).history 9 Pg.clock p role
  (t.warn Safety.SAF_WARN_CLOCK).clockEvent 0x8003 3

/-- A reference goes bad (R459, R460, R473): a bad active reference fails a running relock; the hub holds over, and switches
while the other reference is good. -/
def refGoesBad (s : State) (b : Bool) : State :=
  if s.flag Pg.clock (refOk b) = false then s
  else
    let t := (s.set Pg.clock (refOk b) 0).count Pg.clock (refBad b)
    if s.refActive ≠ b2n b then t
    else
      let t := forEach t.clock.relock (fun x u => u.pllRetired x.1) t
      if t.flag Pg.clock (refOk (!b)) then t.refSwitch (!b) else t.set Pg.clock Clock.STATUS_HOLDOVER 1

/-- The primary reference has been good for 10 s: with `REVERTIVE` the hub returns to it (R459). -/
def refReverts (s : State) : State :=
  let b := s.flag Pg.clock Clock.CLK_REF_PRIMARY
  let t := s.set Pg.clock (refOk b) 1
  if s.flag Pg.clock Clock.CLK_REF_REVERTIVE = true ∧ s.refActive = b2n (!b) then t.refSwitch b else t

/-- Both references have been bad for 10 ms: the PLLs lock to OSC (R460). -/
def refLost (s : State) : State :=
  if s.flag Pg.clock Clock.STATUS_HOLDOVER = false ∨ s.flag Pg.clock Clock.CLK_REF_MON_A_OK = true ∨
      s.flag Pg.clock Clock.CLK_REF_MON_B_OK = true then s
  else
    let t := (((s.set Pg.clock Clock.STATUS_HOLDOVER 0).set Pg.clock Clock.STATUS_FREE_RUN 1).setRefActive 2).set Pg.time
      Time.TIME_STAT_SOURCE 1
    ((t.setInt Pg.clock Clock.INT_REF_LOST).warn Safety.SAF_WARN_FREE_RUN).clockEvent 0x8002 3

/-- A reference has been good for 10 s: a hub without a reference locks to it (R460). -/
def refRecovers (s : State) (b : Bool) : State :=
  let t := s.set Pg.clock (refOk b) 1
  if s.flag Pg.clock Clock.STATUS_HOLDOVER = true ∨ s.flag Pg.clock Clock.STATUS_FREE_RUN = true then
    ((((t.set Pg.clock Clock.STATUS_HOLDOVER 0).set Pg.clock Clock.STATUS_FREE_RUN 0).setRefActive (b2n b)).set Pg.safety
      Safety.SAF_WARN_FREE_RUN 0).set Pg.time Time.TIME_STAT_SOURCE 0
  else t

/-- At the end of phase RESET: which references are good, and every PLL that is not retired locks. With neither reference the hub
runs from OSC and the device enters minimal mode, with no attempt (R460). -/
def clocksStart (s : State) (a b : Bool) : State :=
  let t := (s.set Pg.clock Clock.CLK_REF_MON_A_OK (b2n a)).set Pg.clock Clock.CLK_REF_MON_B_OK (b2n b)
  let t := forEach (List.range 4) (fun p u => u.set Pg.clock Clock.CLK_PLL_LOCK (1 - u.get Pg.clock Clock.CLK_PLL_RETIRED p) p) t
  let t := t.set Pg.time Time.TIME_STAT_SOURCE (if a || b then 0 else 1)
  let p := s.flag Pg.clock Clock.CLK_REF_PRIMARY
  if (if p then b else a) then t.setRefActive (b2n p)
  else if (if p then a else b) then t.setRefActive (b2n (!p))
  else
    let u := (t.set Pg.clock Clock.STATUS_FREE_RUN 1).setRefActive 2
    (((u.setInt Pg.clock Clock.INT_REF_LOST).warn Safety.SAF_WARN_FREE_RUN).clockEvent 0x8002 3).enterMinimal

/-! ## The hub PLLs (R461 to R463) -/

def pllRole (s : State) (p : Nat) : Nat := s.get Pg.clock Clock.CLK_PLL_ROLE p

/-- The spare: a locked PLL with role 3 that is not retired. -/
def sparePll (s : State) (p : Nat) : Option Nat :=
  (List.range 4).find? (fun q => q ≠ p && s.pllRole q = 3 && s.flag Pg.clock Clock.CLK_PLL_LOCK q && !(s.flag Pg.clock Clock.CLK_PLL_RETIRED q))

/-- Every SPAN_CLK gate closes (R463). -/
def closeAllGates (s : State) : State :=
  forEach [1, 2, 3, 4, 5, 6] (fun d t => forEach (List.range (if d ≤ 4 then 96 else 8)) (fun r u => u.closeGate d r) t) s

/-- The octet PLLs of both lane dies lose lock with their references, and the lanes move to PLL_WAIT (R325, R463). -/
def lanesLoseReference (s : State) : State :=
  forEach [5, 6] (fun d t => forEach (List.range 8) (fun o u => (u.opllUnlocks d o false).opllUnlocks d o true) t) s

/-- A failure with no spare left (R463). -/
def pllLost (s : State) (role : Nat) : State :=
  if role = 2 then (s.lanesLoseReference).warn Safety.SAF_WARN_CLOCK
  else
    let t := if role = 0 then forEach [1, 2, 3, 4, 5, 6] (fun d u => u.portDown d) s.closeAllGates else s
    (t.fatal Safety.SAF_FATAL_CLOCK 0x8004 Pg.clock).clockEvent 0x8004 4

/-- A hub PLL fails (R461): it is relocked once; the spare takes its role, at once for SPAN_CLK, for the others after it has
locked. -/
def pllFails (s : State) (p : Nat) : State :=
  if s.flag Pg.clock Clock.CLK_PLL_LOCK p = false then s
  else
    let role := s.pllRole p
    let t := (s.set Pg.clock Clock.CLK_PLL_LOCK 0 p).setInt Pg.clock Clock.INT_PLL_FAIL
    let t := { t with clock := { t.clock with relock := t.clock.relock ++ [(p, role)] } }
    if role = 3 then t
    else
      let t := if role = 0 then t else { t with clock := { t.clock with unserved := t.clock.unserved ++ [role] } }
      match s.sparePll p with
      | some q =>
        let u := ((t.set Pg.clock Clock.CLK_PLL_ROLE role q).set Pg.clock Clock.CLK_PLL_ROLE 3 p).setInt Pg.clock Clock.INT_SPARE_IN
        if role = 0 then u else u.set Pg.clock Clock.CLK_PLL_LOCK 0 q
      | none => t.pllLost role

/-- A role that a locked PLL serves again: the die-local PLLs leave holdover (R461). -/
def pllServes (s : State) (p : Nat) : State :=
  let t := s.set Pg.clock Clock.CLK_PLL_LOCK 1 p
  { t with clock := { t.clock with unserved := t.clock.unserved.filter (· ≠ s.pllRole p) } }

/-- The spare locks in its new role. -/
def spareLocks (s : State) (p : Nat) : State :=
  if (s.pllRole p = 1 ∨ s.pllRole p = 2) ∧ s.flag Pg.clock Clock.CLK_PLL_RETIRED p = false ∧ s.clock.relock.all (fun x => x.1 ≠ p) = true then s.pllServes p else s

/-- The relock of a failed PLL holds, or fails (R462). -/
def pllRelocked (s : State) (p : Nat) (holds : Bool) : State :=
  if s.clock.relock.all (fun x => x.1 ≠ p) = true then s
  else if holds then
    let t := { s with clock := { s.clock with relock := s.clock.relock.filter (fun x => x.1 ≠ p) } }
    (t.count Pg.clock Clock.CLK_PLL_UNLOCKS 1 p).pllServes p
  else s.pllRetired p

/-- Die-local holdover runs out while DREF has no PLL: the Skein networks and the engines stop (R463). -/
def holdoverEnds (s : State) : State :=
  if 1 ∈ s.clock.unserved then { s with clock := { s.clock with stopped := true } } else s

/-- The PLL roles at POR: PLL p has role p, and the spare has the role of a retired one (R472). -/
def pllRolesAtPor (s : State) : State :=
  let retired := (List.range 3).find? (fun p => s.flag Pg.clock Clock.CLK_PLL_RETIRED p)
  let t := forEach (List.range 4) (fun p u => (u.set Pg.clock Clock.CLK_PLL_LOCK 0 p).set Pg.clock Clock.CLK_PLL_ROLE p p) s
  match retired with
  | some r =>
    if s.flag Pg.clock Clock.CLK_PLL_RETIRED 3 then t
    else (t.set Pg.clock Clock.CLK_PLL_ROLE r 3).set Pg.clock Clock.CLK_PLL_ROLE 3 r
  | none => t

/-! ## Lane references, SyncE outputs, the span cycle count -/

/-- The code with which a write of `CLK_LREF[d]` is dropped: it changes a reference that an enabled octet PLL uses (R457). -/
def lrefGuard (s : State) (i w : Nat) : Option Nat :=
  let d := 5 + i
  let moved := fun (ref1 : Bool) => if ref1 then bits w 6 4 ≠ s.get Pg.clock Clock.CLK_LREF_FREQ1 i
    else bits w 2 0 ≠ s.get Pg.clock Clock.CLK_LREF_FREQ0 i
  let uses := fun (ref1 : Bool) => (List.range 8).any (fun o =>
    let pg := Pg.opll d o
    (s.flag pg Opll.CTL_EN_A && s.flag pg Opll.OPLL_CFG_REF 0 = ref1) || (s.flag pg Opll.CTL_EN_B && s.flag pg Opll.OPLL_CFG_REF 1 = ref1))
  if (moved false && uses false) || (moved true && uses true) then some 0x8 else none

/-- Whether SYNCE_OUT`k` presents no clock (R458). -/
def squelched (s : State) (k : Nat) : Bool :=
  let d := 5 + s.get Pg.clock Clock.CLK_SYNCE_DIE k
  let o := s.get Pg.clock Clock.CLK_SYNCE_OCTET k
  !(s.flag Pg.clock Clock.CLK_SYNCE_EN k) || s.flag (Pg.opll d o) Opll.OPLL_STATUS_RCLK_LOST || !(s.domOn (16 * d + 1 + o)) ||
  !(s.flag (Pg.opll d o) Opll.OPLL_RCLK_EN)

/-- A read of `CLK_SPAN_COUNT_LO` latches `CLK_SPAN_COUNT_HI` (R456): the count has run on by a free amount. -/
def spanCountRead (s : State) : State :=
  let c := (s.clock.span + s.freeVal) % 2 ^ 64
  ((({ s with clock := { s.clock with span := c } }).set Pg.clock Clock.CLK_SPAN_COUNT_LO_COUNT c).set Pg.clock
    Clock.CLK_SPAN_COUNT_HI_COUNT (c / 2 ^ 32)).took

end State
end Sys2Proof.Machine
end

