-- ==== Sys2Proof/Machine/Retain.lean ====
section
/-! DEFINITION. What resets and power-down lose (spec/15_clocks_resets.md R470, R471): registers by page and field, the contents of
the sectors, the engines and the lanes, and the column "Domain power-down" of the retention table. -/

namespace Sys2Proof.Machine

open Reg

/-- Whether a field is one of the RW fields of R470; the others are its RO, W1C and PK fields. -/
def RegField.kept (f : RegField) : Bool := f.ty = .rw || f.ty = .rwx

/-- Endpoint numbers of one die that an attach port has. -/
def attachEnds (d : Nat) : List Nat :=
  (List.range 8).flatMap (fun y => (List.range 8).map (fun x => epOf d x y 0))

/-- No capture is under way, and no track held, in the sectors of the dies that `mine` names. -/
def unheld (x : DebugState) (mine : Nat → Bool) : DebugState :=
  { x with
    toCopy := SMap.keep (fun p => !(mine (pageDie p))) x.toCopy
    held := SMap.keep (fun p => !(mine (pageDie p))) x.held
    stopped := SMap.keep (fun p => !(mine (pageDie p))) x.stopped }

/-- Nor is one armed. -/
def unarmed (x : DebugState) (mine : Nat → Bool) : DebugState :=
  { unheld x mine with
    armer := SMap.keep (fun p => !(mine (pageDie p))) x.armer
    fired := SMap.keep (fun p => !(mine (pageDie p))) x.fired }

namespace State

/-- Fields that `lost` names return to their reset values; fields held in MRAM, in the spare ledger or in fuses never do. A page whose
`EXPERT_KEY.STATE` is lost is locked again (R48, R470). -/
def loseRegs (s : State) (lost : Nat → RegField → Bool) : State :=
  { s with
    regs := SMap.keep (fun k => match keyField k with
      | some fi => !(lost (k / 32768) fi.1 && !(fi.1.home = .mram || fi.1.home = .ledger || fi.1.home = .fuse))
      | none => true) s.regs
    hub := { s.hub with expertOrigin := SMap.keep (fun p => !(lost p Hdr.EXPERT_KEY_STATE)) s.hub.expertOrigin } }

/-- GSR asserts in a sector: its flops, memories and slices are held (R98, R193, R247). -/
def gsrSector (s : State) (d sec : Nat) : State := (((s.assertGsr d sec).holdBlocks d sec).holdSlices d sec).holdSlice d sec

/-- GSR asserts in every sector of a die. -/
def gsrDie (s : State) (d : Nat) : State := forEach (List.range 96) (fun sec t => t.gsrSector d sec) s

/-- The outputs and levels of a die's blocks, and the slices' accumulators, as GSR holds them. -/
def logicHeld (s : State) (d : Nat) : State :=
  { s with
    mem := { s.mem with
      dpb := SMap.keep (fun k => k / 32 / 96 ≠ d) s.mem.dpb
      bkb := SMap.keep (fun k => k / 32 / 96 ≠ d) s.mem.bkb
      queues := SMap.keep (fun k => k / 16 / 96 ≠ d) s.mem.queues
      busy := SMap.keep (fun k => pageDie (k / 64) ≠ d) s.mem.busy
      test := SMap.keep (fun k => pageDie k ≠ d) s.mem.test
      slowed := SMap.keep (fun k => pageDie (k / 64) ≠ d) s.mem.slowed
      walk := SMap.keep (fun k => pageDie (k / 64) ≠ d) s.mem.walk }
    dsp := { s.dsp with slices := SMap.keep (fun k => k / 32 / 96 ≠ d) s.dsp.slices } }

/-- Words, parity words, spare words and the state of the integrity machinery of the memories whose page `mine` names. -/
def loseMem (s : State) (mine : Nat → Bool) : State :=
  { s with mem :=
    { s.mem with
      cells := SMap.keep (fun k => !(mine (k / 65536))) s.mem.cells
      parity := SMap.keep (fun k => !(mine (k / 2048))) s.mem.parity
      spares := SMap.keep (fun k => !(mine (k / 256))) s.mem.spares
      stale := SMap.keep (fun k => !(mine (k / 1024))) s.mem.stale
      repair := SMap.keep (fun k => !(mine (k / 64))) s.mem.repair
      superseded := SMap.keep (fun k => !(mine (k / 65536))) s.mem.superseded
      walk := SMap.keep (fun k => !(mine (k / 64))) s.mem.walk
      lapLast := SMap.keep (fun k => !(mine (k / 64))) s.mem.lapLast
      slowed := SMap.keep (fun k => !(mine (k / 64))) s.mem.slowed
      test := SMap.keep (fun k => !(mine k)) s.mem.test } }

/-- Fk_LOGIC loses power: configuration cells, references, contents, the crossing slices and the attach ports (R470). -/
def loseLogic (s : State) (d : Nat) : State :=
  let inDie := fun k => k / 96 = d
  let t := s.testsEnd (fun p => pageKind p = some .mi && pageDie p = d)
  let t := (t.logicHeld d).loseMem (fun p => pageKind p = some .mi && pageDie p = d)
  { t with
    fabric :=
      { frames := SMap.keep (fun k => !(inDie (k / 16384))) t.fabric.frames
        written := SMap.keep (fun k => !(inDie (k / 16384))) t.fabric.written
        flops := SMap.keep (fun k => k / 6291456 ≠ d) t.fabric.flops
        wires := SMap.keep (fun k => k / 4325376 ≠ d) t.fabric.wires
        released := SMap.keep (fun k => !(inDie k)) t.fabric.released
        edges := SMap.keep (fun k => !(inDie (k / 16))) t.fabric.edges
        oldEdge := SMap.keep (fun k => !(inDie (k / 16))) t.fabric.oldEdge
        count := SMap.keep (fun k => !(inDie (k / 16))) t.fabric.count }
    dsp := { t.dsp with coef := SMap.keep (fun k => !(inDie (k / 512))) t.dsp.coef }
    span := { t.span with
      slices := SMap.keep (fun k => k / 16 ≠ d) t.span.slices, channels := SMap.keep (fun k => k / 16 ≠ d) t.span.channels }
    skein := { t.skein with ends := SMap.keep (fun e => !((attachEnds d).elem e)) t.skein.ends }
    boot := { t.boot with
      references := SMap.keep (fun k => !(inDie k)) t.boot.references, loaded := withBit t.boot.loaded d false }
    dbg := { unheld t.dbg (· = d) with shadow := SMap.keep (fun k => pageDie (k / 8192) ≠ d) t.dbg.shadow } }

/-- The engines of a die lose their cores and memories. -/
def loseEngines (s : State) (d : Nat) : State :=
  let t := s.loseMem (fun p => pageKind p = some .eng3 && pageDie p = d)
  { t with
    eng :=
      { engines := SMap.keep (fun e => e / 16 + 1 ≠ d) t.eng.engines
        fetchOld := SMap.keep (fun k => pageDie (k / 65536) ≠ d) t.eng.fetchOld }
    dbg := { t.dbg with passed := SMap.keep (fun e => e / 16 + 1 ≠ d) t.dbg.passed } }

/-- The I²C target's registers and `MB_PTR` (R63, R500). -/
def loseTarget (s : State) : State :=
  { s with
    hub := { s.hub with iaAddr := 0, iaData := 0, iaCmd := 0, iaFault := false, iaDenied := false, iaOp := none, nack := false }
    dbg := { s.dbg with ptr := 0 } }

/-- A DDR page's fields that its channel keeps while it is in self-refresh, and its state (log entry 62). -/
def ddrKept (s : State) (p : Nat) (f : RegField) : Bool :=
  pageKind p = some .ddr && s.get p Ddr.STATUS_STATE = 4 && (f.off = 0x100 || (f.off = 0x014 && f.lo = Ddr.STATUS_STATE.lo))

/-- The page's fields of a domain return to their reset values; those marked AON-shadowed stay (R471). -/
def loseDomainRegs (s : State) (dom : Nat) : State :=
  s.loseRegs (fun p f => pageDomain p = dom && f.home ≠ .aon && pageWindow p = none && !(s.ddrKept p f))

/-- Fields of the sector control and integrity pages that show what Fk_LOGIC holds: `CONFIGURED`, `TRACK_RUN` and the switches of the tracks,
the memory and slice status, the block fields (R97, R109, R191, R225, R250). -/
def logicStatus (_ : State) (p : Nat) (f : RegField) : Bool :=
  (pageKind p = some .sctl && (f = Sctl.STATUS_CONFIGURED || f = Sctl.STATUS_TRACK_RUN || f = Sctl.SCTL_TRACK_SWITCHING || f = Sctl.SCTL_CAP_STAT_STOPPED ||
    (0x500 ≤ f.off && f.off < 0x700))) ||
  (pageKind p = some .mi && 0x200 ≤ f.off && f.off < 0x300)

/-- The column "Domain power-down" of the retention table. -/
def domainLoss (s : State) (dom : Nat) : State :=
  let d := dom / 16
  let i := dom % 16
  if dom = 0x02 then s.loseTarget.setSkEnd (epOf 0 3 0 3) {}
  else if dom = 0x03 then { (s.loseDomainRegs dom) with ply := {} }
  else if 1 ≤ d ∧ d ≤ 4 then
    (if i = 0 then
      let c := 2 * (d - 1)
      let t := ((((s.loseEngines d).cryptoZeroize c).cryptoZeroize (c + 1)).portDown d).dropNet d
      (t.portsAsReset d).loseDomainRegs dom
    else if i = 1 then
      (s.loseLogic d).loseRegs (fun p f => pageDie p = d && s.logicStatus p f)
    else
      let c := 2 * (d - 1) + (i - 2)
      if s.ddrState c = 4 then s else s.ddrOff c)
  else if i = 0 then
    let t := ((s.portDown d).dropNet d).portsAsReset d
    let t := { t with
      lanes := { t.lanes with adapters := SMap.keep (fun p => pageDie p ≠ d) t.lanes.adapters }
      span := { t.span with slices := SMap.keep (fun k => k / 16 ≠ d) t.span.slices } }
    t.loseDomainRegs dom
  else
    let t := s.octetOff d (i - 1)
    let t := { t with lanes := { t.lanes with
      lanes := SMap.keep (fun p => pageDomain p ≠ dom) t.lanes.lanes } }
    t.loseDomainRegs dom

end State
end Sys2Proof.Machine
end

