-- ==== Sys2Proof/Machine/Capture.lean ====
section
/-! DEFINITION. Engine run control and sector captures (spec/17_debug_run_control.md R510 to R520): halts by request, breakpoint,
watchpoint and cross-trigger, and the shadow cells. -/

namespace Sys2Proof.Machine

open Reg

namespace State

/-! ## Who may write run control (R498, R499) -/

/-- Whether a debug session is open, and its level. -/
def sessionOpen (s : State) : Bool := s.flag Pg.monitor Monitor.DBG_SESSION_OPEN
def sessionLevel (s : State) : Nat := s.get Pg.monitor Monitor.DBG_SESSION_LEVEL

/-- Origins that R499 admits. -/
def runControlOrigin (s : State) (o : Origin) : Bool :=
  match o with
  | .pcie | .i2c | .monitor => true
  | .debug => 2 ≤ s.sessionLevel
  | _ => false

/-! ## Engine run control (R510 to R515) -/

/-- The kind of halt that `ENG_DBG_STAT` shows. -/
def dbgStat (s : State) (e why index : Nat) (session : Bool) : State :=
  let p := Pg.eng e 0
  ((s.set p Eng0.ENG_DBG_STAT_WHY why).set p Eng0.ENG_DBG_STAT_INDEX index).set p Eng0.ENG_DBG_STAT_BY_SESSION (b2n session)

/-- A halt by run control: a RUNNING engine goes to HALTING with cause debug; of two the later kind is named (R510, R523). -/
def dbgHalt (s : State) (e why index : Nat) (session : Bool) : State :=
  if s.engState e = 2 then (s.haltRequest e 3).dbgStat e why index session
  else if s.engState e = 3 ∧ why = 3 then s.dbgStat e why index session
  else s

/-- A breakpoint or watchpoint hit drives the cross-trigger line of an engine with `XTRIG_OUT` (R515). -/
def dbgHit (s : State) (e why index : Nat) : State :=
  let t := s.dbgHalt e why index s.sessionOpen
  if s.flag (Pg.eng e 0) Eng0.ENG_DBG_CTL_XTRIG_OUT then
    { t with dbg := { t.dbg with line := t.dbg.line ++ [e] } } else t

/-- The enabled breakpoint at the engine's program counter, if the engine has not just resumed there (R511). -/
def bpAt (s : State) (e : Nat) : Option Nat :=
  if SMap.read false s.dbg.passed e then none
  else (List.range 4).find? (fun n => s.flag (Pg.eng e 0) Eng0.ENG_DBG_BP_EN n &&
    2 * s.get (Pg.eng e 0) Eng0.ENG_DBG_BP_ADDR n = (s.core e).pc.toNat)

/-- The enabled watchpoint whose block an access touches: `store` or load of `n` bytes at an address (R511). -/
def wpAt (s : State) (e addr n : Nat) (store : Bool) : Option Nat :=
  let p := Pg.eng e 0
  (List.range 2).find? (fun w =>
    let size := 2 ^ s.get p Eng0.ENG_DBG_WP_CTL_SIZE_LOG2 w
    let base := s.get p Eng0.ENG_DBG_WP_ADDR_ADDR w / size * size
    s.flag p Eng0.ENG_DBG_WP_CTL_EN w && bit (s.get p Eng0.ENG_DBG_WP_CTL_KIND w) (b2n store) && addr < base + size && base < addr + n)

def setPassed (s : State) (e : Nat) (b : Bool) : State :=
  { s with dbg := { s.dbg with passed := SMap.write false s.dbg.passed e b } }

/-- The code with which a write of `ENG_DBG_CTL` is dropped (R499, R512). -/
def engDbgGuard (s : State) (e : Nat) (w : Nat) : Option Nat :=
  if 1 < popcount 3 (bits w 2 0) then some Err.reservedEncoding
  else if (bit w 0 = true ∧ s.engState e ≠ 2) ∨ ((bit w 1 = true ∨ bit w 2 = true) ∧ s.engState e ≠ 1) then some 0xA
  else none

/-- The engine resumes; a breakpoint at its program counter does not hit at once (R511). -/
def dbgRun (s : State) (e : Nat) : State :=
  if s.engState e = 1 then (((s.dbgStat e 0 0 false).setPassed e true).engRun e) else s

/-- A step starts: the engine runs, its watchdog reloads, and it halts at the next instruction boundary (R512). -/
def dbgStep (s : State) (e : Nat) (o : Origin) : State :=
  if s.engState e = 1 then
    let t := (((s.dbgStat e 2 0 (o = .debug)).setPassed e true).engRun e).wdtReload e
    t.setEngine e { t.engine e with stepping := true }
  else s

/-- What a write of `ENG_DBG_CTL` does. -/
def engDbgWritten (s : State) (e : Nat) (o : Origin) (w : Nat) : State :=
  if bit w 0 then s.dbgHalt e 1 0 (o = .debug)
  else if bit w 1 then s.dbgRun e
  else if bit w 2 then s.dbgStep e o
  else s

/-- An instruction of a step has executed: the engine halts, once a remote load has its response (R512). -/
def dbgStepped (s : State) (e : Nat) : State :=
  if (s.engine e).stepping = true ∧ s.engState e = 2 ∧ (s.engine e).load = none then (s.haltRequest e 3).haltDone e else s

/-- The sector control pages of the device. -/
def sectorPages : List Nat := [1, 2, 3, 4].flatMap (fun d => (List.range 96).map (Pg.sctl d))

/-- The cross-trigger line of an engine reaches the others of its group, and fires the captures armed for it (R515, R523). -/
def crossTrigger (s : State) (e : Nat) : State :=
  if s.dbg.line.elem e then
    let t := { s with dbg := { s.dbg with line := s.dbg.line.filter (· ≠ e) } }
    let t := forEach ((List.range 64).filter (fun g => g ≠ e && bit (s.get Pg.monitor Monitor.DBG_XTRIG_MASK (g / 32)) (g % 32)))
      (fun g u =>
        if u.engState g = 4 ∧ (u.engine g).subst.any (fun x => x.back = 2) = true then
          (u.setEngine g { u.engine g with subst := (u.engine g).subst.map (fun x => { x with back := 1 }) }).dbgStat g 5 0 s.sessionOpen
        else if u.engState g = 2 then u.dbgHalt g 5 0 s.sessionOpen else u) t
    if s.flag Pg.monitor Monitor.DBG_XTRIG_CAP_EN then
      forEach (sectorPages.filter (fun p => s.flag p Sctl.SCTL_CAP_STAT_ARMED && s.get p Sctl.SCTL_CAP_CTL_TRIG = 2)) (fun p u =>
        { u with dbg := { u.dbg with fired := SMap.write false u.dbg.fired p true } }) t
    else t
  else s

/-- A read of `ENG_DBG_REGDATA` (R513): what it returns, and what it captures. A halted checker holds what engine 2j does (R285). -/
def regDataRead (s : State) (e : Nat) (o : Origin) : Nat × State :=
  let p := Pg.eng e 0
  if s.engState e ≠ 1 then (0, s.capture p 0xA o 0x444)
  else match s.dbgReg (s.shownEngine e) (s.flag p Eng0.ENG_DBG_REGSEL_CSR) (s.get p Eng0.ENG_DBG_REGSEL_NUM) with
    | some v => (v.toNat, if s.flag p Eng0.ENG_DBG_REGSEL_CSR then s else s.rfRead e (s.get p Eng0.ENG_DBG_REGSEL_NUM))
    | none => (0, s.capture p 0xB o 0x444)

/-- A write of `ENG_DBG_REGDATA` (R513). -/
def regDataWrite (s : State) (e : Nat) (o : Origin) (v : Word) : State :=
  let p := Pg.eng e 0
  let csr := s.flag p Eng0.ENG_DBG_REGSEL_CSR
  let num := s.get p Eng0.ENG_DBG_REGSEL_NUM
  if s.engState e ≠ 1 then s.capture p 0xA o 0x444
  else if (s.dbgReg e csr num).isSome then s.putDbgReg e csr num v
  else s.capture p 0xB o 0x444

/-! ## Captures (R517 to R520) -/

def shadowKey (page unit word : Nat) : Nat := page * 8192 + unit * 32 + word
def putShadow (s : State) (page unit word v : Nat) : State :=
  { s with dbg := { s.dbg with shadow := SMap.write 0 s.dbg.shadow (shadowKey page unit word) v } }

def capToCopy (s : State) (page : Nat) : Nat := SMap.read 0 s.dbg.toCopy page
def capHeld (s : State) (page : Nat) : Nat := SMap.read 0 s.dbg.held page
def setCapToCopy (s : State) (page v : Nat) : State :=
  { s with dbg := { s.dbg with toCopy := SMap.write 0 s.dbg.toCopy page v } }
def setCapHeld (s : State) (page v : Nat) : State :=
  { s with dbg := { s.dbg with held := SMap.write 0 s.dbg.held page v } }

/-- Tiles of a sector with a configuration bit set: in any other every flop and wire register is 0. -/
def shadowTiles (s : State) (d sec : Nat) : List Nat :=
  (List.range 128).filter (fun t => s.fabric.frames.any (fun kv => kv.1 / 64 = sectorKey d sec * 256 + t))

/-- Whether a register on a clock is copied when the tracks of a mask are: one without a clock counts as track 16. -/
def onTracks (mask : Nat) (clk : Option Nat) : Bool := bit mask (clk.getD 16)

/-- Copy the flops and wire registers of the tracks of a mask into the shadow cells (R517, R520). -/
def copyTracks (s : State) (d sec mask : Nat) : State :=
  let page := Pg.sctl d sec
  forEach (s.shadowTiles d sec) (fun t u =>
    let X := tileX sec t
    let Y := tileY sec t
    let u := forEach ((List.range 16).filter (fun c => onTracks mask (s.clusterTrack d X Y c))) (fun c v =>
      v.putShadow page t c (bitsNat ((List.range 16).flatMap (fun i => [s.flopOut d X Y c i false, s.flopOut d X Y c i true])))) u
    forEach (List.range 11) (fun k v =>
      let old := SMap.read 0 s.dbg.shadow (shadowKey page t (16 + k))
      v.putShadow page t (16 + k) ((List.range 32).foldl (fun m b =>
        let slot := 32 * k + b
        match segStart X Y slot with
        | none => m
        | some (X0, Y0) =>
          let w := s.slotWord d X0 Y0 slot
          let clk := s.tileClock d X Y (bits w 14 13)
          m + (if onTracks mask clk then b2n (bit w 12 && s.wireOut d X Y slot clk) else bits old b b) * 2 ^ b) 0)) u) s

/-- A capture leaves no earlier value of a tile that has no configuration bit set now. -/
def shadowForget (s : State) (d sec : Nat) : State :=
  let tiles := s.shadowTiles d sec
  { s with dbg := { s.dbg with
    shadow := SMap.keep (fun k => k / 8192 ≠ Pg.sctl d sec || 128 ≤ k % 8192 / 32 || tiles.elem (k % 8192 / 32)) s.dbg.shadow } }

/-- Copy the DSP slices of a sector, the accumulator as the edges so far have left it (R231, R517, R520). -/
def copySlices (s : State) (d sec : Nat) : State :=
  let page := Pg.sctl d sec
  forEach (List.range 32) (fun j u =>
    let x := (s.dspSlice d sec j).two
    let file := (List.range 16).foldl (fun m q => m + (s.coef d sec j q).toNat * 2 ^ (27 * q)) 0
    let u := ((u.putShadow page (128 + j) 0 (x.acc.acc.toNat % 2 ^ 32)).putShadow page (128 + j) 1 (x.acc.acc.toNat / 2 ^ 32)).putShadow
      page (128 + j) 2 (x.acc.nexp.toNat + b2n x.acc.ov * 256 + s.coefPtr d sec j * 2 ^ 16)
    forEach (List.range 14) (fun k v => v.putShadow page (128 + j) (3 + k) (bits file (32 * k + 31) (32 * k))) u) s

/-- Tracks of a mask are held low after their copy, where the capture stops them (R518). -/
def holdTracks (s : State) (page mask : Nat) : State :=
  if s.flag page Sctl.SCTL_CAP_CTL_STOP then
    (s.setCapHeld page (s.capHeld page ||| (mask &&& 0xFFFF))).clearBits page Sctl.STATUS_TRACK_RUN mask
  else s

/-- The capture edge of a sector at a span cycle count: the first edge of its track as `TRIG` gives (R517, R519). -/
def captureEdge (s : State) (d sec span : Nat) : State :=
  let page := Pg.sctl d sec
  let trig := s.get page Sctl.SCTL_CAP_CTL_TRIG
  let due := trig = 0 ∨ (trig = 1 ∧ s.get page Sctl.SCTL_CAP_AT_LO_AT + s.get page Sctl.SCTL_CAP_AT_HI_AT * 2 ^ 32 ≤ span) ∨
    (trig = 2 ∧ SMap.read false s.dbg.fired page = true)
  if s.flag page Sctl.SCTL_CAP_STAT_ARMED = true ∧ due then
    let run := s.get page Sctl.STATUS_TRACK_RUN
    let track := s.get page Sctl.SCTL_CAP_CTL_TRACK
    let later := withBit run track false
    let mask := 0x1FFFF - later
    let t := (((s.shadowForget d sec).copyTracks d sec mask).copySlices d sec).setCapToCopy page later
    let t := ((t.set page Sctl.SCTL_CAP_STAT_VALID 1).set page Sctl.SCTL_CAP_STAT_ARMED 0).set page Sctl.SCTL_CAP_STAT_GSR
      (b2n (s.gsrActive d sec))
    let t := (t.set page Sctl.SCTL_CAP_SPAN_LO_SPAN span).set page Sctl.SCTL_CAP_SPAN_HI_SPAN (span / 2 ^ 32)
    let t := ((t.set page Sctl.SCTL_CAP_CTL_ARM 0).setInt page Sctl.INT_CAPTURED).holdTracks page mask
    let stop := s.flag page Sctl.SCTL_CAP_CTL_STOP
    let t := if stop then t.set page Sctl.SCTL_CAP_STAT_STOPPED 1 else t
    { t with dbg := { t.dbg with
      fired := SMap.write false t.dbg.fired page false
      stopped := if stop && SMap.read false t.dbg.armer page then SMap.write false t.dbg.stopped page true else t.dbg.stopped } }
  else s

/-- The first edge of another track after the capture edge copies what that track clocks (R517). -/
def captureLater (s : State) (d sec n : Nat) : State :=
  let page := Pg.sctl d sec
  if bit (s.capToCopy page) n then
    let t := (s.copyTracks d sec (2 ^ n)).setCapToCopy page (withBit (s.capToCopy page) n false)
    if s.flag page Sctl.SCTL_CAP_STAT_STOPPED then t.holdTracks page (2 ^ n) else t
  else s

/-- `RESUME` (R518): held tracks run again from their source's edges; a track whose `SRC` changed meanwhile switches (R523). -/
def captureResume (s : State) (page : Nat) : State :=
  if s.flag page Sctl.SCTL_CAP_STAT_STOPPED then
    let t := (s.setCapHeld page 0).set page Sctl.SCTL_CAP_STAT_STOPPED 0
    { t with dbg := { t.dbg with stopped := SMap.write false t.dbg.stopped page false } }
  else s

/-- What a write of `SCTL_CAP_CTL` does (R517, R518, R523). -/
def capWritten (s : State) (page : Nat) (o : Origin) (w : Nat) : State :=
  let t := if bit w 16 then s.captureResume page else s
  let t := t.set page Sctl.SCTL_CAP_STAT_ARMED (b2n (bit w 0))
  { t with dbg := { t.dbg with
    armer := SMap.write false t.dbg.armer page (bit w 0 && o = .debug), fired := SMap.write false t.dbg.fired page false } }

/-- `SCTL_CAP_DATA` (R519, R520). -/
def capData (s : State) (page : Nat) : Nat :=
  SMap.read 0 s.dbg.shadow (shadowKey page (s.get page Sctl.SCTL_CAP_ADDR_UNIT) (s.get page Sctl.SCTL_CAP_ADDR_WORD))

end State
end Sys2Proof.Machine
end

