-- ==== Sys2Proof/Machine/Mailbox.lean ====
section
/-! DEFINITION. Debug sessions and the mailbox (spec/17_debug_run_control.md R496 to R509): the request and response buffers, the key
session, authorization, the end of a session, and the debug master's transfers (R516). -/

namespace Sys2Proof.Machine

open Reg

/-! `STATUS` of a response (R503). -/
namespace MbStatus
def ok : Nat := 0
def badCmd : Nat := 1
def level : Nat := 2
def auth : Nat := 3
def tag : Nat := 4
def seq : Nat := 5
def busy : Nat := 6
def skein : Nat := 7
def locked : Nat := 8
def noSession : Nat := 9
end MbStatus

/-- Whether a body has the layout of its command (R502). -/
def mbLayout (cmd : Nat) (b : List Byte) : Bool :=
  let at_ := fun i => (b.getD i 0).toNat
  let len := at_ 8 + 256 * at_ 9
  if cmd = 0x01 then b.length = 2 && 1 ≤ at_ 0 && at_ 0 ≤ 3 && (at_ 1 = 1 || at_ 1 = 2)
  else if cmd = 0x02 then b.length = 512
  else if cmd = 0x03 then b.length = 32
  else if cmd = 0x04 then b.length = 1
  else if cmd = 0x10 then b.length = 5 && 1 ≤ at_ 4 && at_ 4 ≤ 64
  else if cmd = 0x11 then b.length % 8 = 0 && 1 ≤ b.length / 8 && b.length / 8 ≤ 64
  else if cmd = 0x12 then b.length = 10 && 1 ≤ len && len ≤ 256 && at_ 0 + 256 * at_ 1 < 2048
  else if cmd = 0x13 then 1 ≤ len && len ≤ 256 && b.length = 10 + len && at_ 0 + 256 * at_ 1 < 2048
  else false

namespace State

/-! ## The buffers (R500, R501) -/

/-- The first `n` bytes of the request buffer. -/
def mbReq (s : State) (n : Nat) : List Byte :=
  ((List.range ((min n 1024 + 3) / 4)).flatMap (fun i => leBytes 4 (s.get Pg.monitor Monitor.DBG_MB_REQ_DATA i))).take n

/-- The response in its buffer. -/
def mbRsp (s : State) : List Byte :=
  let n := s.get Pg.monitor Monitor.DBG_MB_STAT_RLEN
  ((List.range ((n + 3) / 4)).flatMap (fun i => leBytes 4 (s.get Pg.monitor Monitor.DBG_MB_RSP_DATA i))).take n

/-- Store bytes in a buffer from its start. -/
def putBuffer (s : State) (f : RegField) (bs : List Byte) : State :=
  forEach (List.range ((bs.length + 3) / 4)) (fun i t => t.set Pg.monitor f (leNat ((bs.drop (4 * i)).take 4)) i) s

/-- Store one byte of a buffer (R500). -/
def putByte (s : State) (page : Nat) (f : RegField) (k : Nat) (b : Byte) : State :=
  let w := s.get page f (k / 4)
  s.set page f (w - bits w (8 * (k % 4) + 7) (8 * (k % 4)) * 2 ^ (8 * (k % 4)) + b.toNat * 2 ^ (8 * (k % 4))) (k / 4)

def mbBusy (s : State) : Bool := s.flag Pg.monitor Monitor.DBG_MB_STAT_BUSY

/-- `CMD`, `FLAGS`, `BLEN` and `SEQ` of the request in the buffer (R501). -/
def mbHead (s : State) (i : Nat) : Nat := ((s.mbReq 8).getD i 0).toNat
def mbCmd (s : State) : Nat := s.mbHead 0
def mbBlen (s : State) : Nat := s.mbHead 2 + 256 * s.mbHead 3
def mbSeq (s : State) : Nat := leNat ((s.mbReq 8).drop 4)

/-- `DBG_SESSION` as a word: the detail of the session's events (R530). -/
def sessionWord (s : State) : Nat := s.storedWord Pg.monitor 0x108

/-- Place a response: the header, then the body, encrypted and with a tag under a key (R501, R506). -/
def mbPlace (s : State) (key : Option (BitVec 256)) (status detail : Nat) (body : List Byte) : State :=
  let seq := s.mbSeq
  let head := leBytes 1 status ++ leBytes 1 detail ++ leBytes 2 body.length ++ leBytes 4 seq
  let iv := leBytes 4 1 ++ leBytes 4 seq ++ leBytes 4 0
  let msg := match key with
    | none => head ++ body
    | some k => let ct := Gcm.crypt k iv body; head ++ ct ++ Gcm.tag k iv head ct
  (s.putBuffer Monitor.DBG_MB_RSP_DATA msg).set Pg.monitor Monitor.DBG_MB_STAT_RLEN msg.length

/-- A response is in place: `BUSY` clears; one to a DEBUG_REQ returns to the manager (R501, R555). -/
def mbDone (s : State) : State :=
  let t := ((s.set Pg.monitor Monitor.DBG_MB_STAT_BUSY 0).set Pg.monitor Monitor.DBG_MB_STAT_RESP 1).setInt Pg.monitor Monitor.INT_MB_RESP
  if s.dbg.origin = .ply then t.plySend 0 { type := 0x51, dst := 0, src := s.plySelf, payload := s.mbRsp } else t

/-- Answer the request under the session's key. -/
def mbAnswer (s : State) (status detail : Nat) (body : List Byte) : State := (s.mbPlace s.dbg.key status detail body).mbDone

/-- `GO` (R501): with a request in the buffer and `BUSY` at 0. -/
def mbGo (s : State) (o : Origin) : State :=
  if s.mbBusy then s
  else
    let t := (s.set Pg.monitor Monitor.DBG_MB_STAT_BUSY 1).set Pg.monitor Monitor.DBG_MB_STAT_RESP 0
    let t := if s.flag Pg.ply Ply.PLY_DBG_FWD_EN ∧ o ≠ .ply then
        let u := t.plySend 0 { type := 0x50, dst := s.get Pg.ply Ply.PLY_DBG_FWD_DST, src := s.plySelf, payload := s.mbReq (min 1024 (24 + s.mbBlen)) }
        { u with dbg := { u.dbg with forwarded := true } }
      else t
    let t := if s.sessionOpen then t.set Pg.monitor Monitor.DBG_SESSION_IDLE_S 0 else t
    { t with dbg := { t.dbg with origin := o } }

/-- Whether an origin may write the buffers and `GO` (R500). -/
def mbAdmits (s : State) (o : Origin) : Bool := !s.sessionOpen || s.get Pg.monitor Monitor.DBG_SESSION_ORIGIN = originCode o

/-! ## The end of a session (R509) -/

/-- Pages that a session unlocked are locked again (R50). -/
def relock (s : State) : State :=
  let mine := (s.hub.expertOrigin.filter (fun e => e.2 = some .debug)).map Prod.fst
  let t := forEach mine (fun p u => u.set p Hdr.EXPERT_KEY_STATE 0) s
  { t with hub := { t.hub with expertOrigin := SMap.keep (fun p => !(mine.elem p)) t.hub.expertOrigin } }

/-- What a session stopped goes on: engines halted by it, and tracks its captures hold. -/
def releaseStopped (s : State) : State :=
  let t := forEach ((List.range 64).filter (fun e => s.flag (Pg.eng e 0) Eng0.ENG_DBG_STAT_BY_SESSION)) (fun e u =>
    if u.engState e = 3 then
      ((u.setEngine e { u.engine e with haltCause := 0, stepping := false }).setEngState e 2).dbgStat e 0 0 false
    else u.dbgRun e) s
  forEach (s.dbg.stopped.map Prod.fst) (fun p u => u.captureResume p) t

/-- Endpoint 0x610 (R516). -/
def debugEp : Nat := 0x610

/-- The command of the debug master's requests has ended: what they bring is discarded (R523). -/
def dmForget (s : State) : State :=
  let x := s.skEnd debugEp
  s.setSkEnd debugEp { x with outstanding := x.outstanding.map (fun r => { r with use := .forgotten }) }

/-- A session ends; without `KEEP` nothing stays frozen (R509). Requests in flight complete and are discarded (R523). -/
def sessionEnd (s : State) (keep : Bool) : State :=
  if s.sessionOpen then
    let m := Pg.monitor
    let t := ((s.relock.setInt m Monitor.INT_SESSION_END).event 0xA003 1 m s.sessionWord)
    let t := if keep then t else t.releaseStopped
    let t := forEach [Monitor.DBG_SESSION_OPEN, Monitor.DBG_SESSION_LEVEL, Monitor.DBG_SESSION_ORIGIN, Monitor.DBG_SESSION_PASSWORD,
      Monitor.DBG_SESSION_IDLE_S] (fun f u => u.set m f 0) t
    let t := if t.dbg.transfer.isSome then (t.set m Monitor.DBG_MB_STAT_BUSY 0).dmForget else t
    { t with dbg := { t.dbg with key := none, lastSeq := 0, tagFails := 0, transfer := none } }
  else s

/-- The domain of the interface a session came in by is dropped (R509). -/
def sessionDropped (s : State) (dom : Nat) : State :=
  let o := s.get Pg.monitor Monitor.DBG_SESSION_ORIGIN
  if (dom = 0x02 ∧ (o = 0 ∨ o = 1)) ∨ (dom = 0x03 ∧ o = 5) then s.sessionEnd false else s

/-! ## Serving a request (R502, R503, R506) -/

/-- What the monitor makes of the request in the buffer: an answer at once, or the command's body. -/
inductive MbIn
  | answer (t : State)
  | body (t : State) (b : List Byte)

/-- Check a request in a key session: its tag, then its `SEQ`; other requests are plain (R503, R506). -/
def mbOpen (s : State) : MbIn :=
  let n := s.mbBlen
  match s.dbg.key with
  | none => .body s (if n ≤ 1016 then (s.mbReq (8 + n)).drop 8 else [])
  | some k =>
    let head := s.mbReq 8
    let ct := (s.mbReq (8 + n)).drop 8
    let iv := leBytes 4 0 ++ leBytes 4 s.mbSeq ++ leBytes 4 0
    if 1000 < n ∨ Gcm.tag k iv head ct ≠ (s.mbReq (24 + n)).drop (8 + n) then
      let t := { s with dbg := { s.dbg with tagFails := s.dbg.tagFails + 1 } }
      let t := if 3 ≤ t.dbg.tagFails then t.sessionEnd false else t
      .answer ((t.mbPlace none MbStatus.tag 0 []).mbDone)
    else if s.mbSeq ≠ s.dbg.lastSeq + 1 then .answer (s.mbAnswer MbStatus.seq 0 [])
    else .body { s with dbg := { s.dbg with lastSeq := s.mbSeq } } (Gcm.crypt k iv ct)

/-- Serve the request in the buffer if it is one of a command: `f` performs it on its body. -/
def mbServe (s : State) (cmd : Nat) (f : State → List Byte → State) : State :=
  if s.mbBusy = false ∨ s.dbg.forwarded = true ∨ s.dbg.transfer.isSome = true ∨ s.mbCmd ≠ cmd then s
  else match s.mbOpen with
    | .answer t => t
    | .body t b => if mbLayout cmd b then f t b else s

/-- Serve a request whose `CMD` is not listed or whose body breaks its layout (R502). -/
def mbBad (s : State) : State :=
  if s.mbBusy = false ∨ s.dbg.forwarded = true ∨ s.dbg.transfer.isSome = true then s
  else match s.mbOpen with
    | .answer t => t
    | .body t b => if mbLayout s.mbCmd b then s else t.mbAnswer MbStatus.badCmd 0 []

/-- A command that needs a session. -/
def mbSession (s : State) (f : State → State) : State :=
  if s.sessionOpen then f s else s.mbAnswer MbStatus.noSession 0 []

/-! ## Authorization (R504 to R508) -/

def authFails (s : State) : Nat := s.get Pg.monitor Monitor.DBG_STATUS_AUTH_FAILS

/-- Operating seconds of lockout that remain (R508). -/
def lockout (s : State) : Nat :=
  if s.authFails < 3 then 0 else s.dbg.failedAt + min 1280 (10 * 2 ^ (s.authFails - 3)) - s.events.opsec

/-- `OPEN`. The nonce is a free value (R505). -/
def mbOpenCmd (s : State) (b : List Byte) : State :=
  if s.sessionOpen then s.mbAnswer MbStatus.busy 0 []
  else if s.lockout ≠ 0 then s.mbAnswer MbStatus.locked 0 []
  else
    let nonce := BitVec.ofNat 256 s.freeVal
    let t := { s.took with dbg := { s.dbg with
      opening := some { level := (b.getD 0 0).toNat, method := (b.getD 1 0).toNat, nonce := nonce } } }
    t.mbAnswer MbStatus.ok 0 (leBytes 32 nonce.toNat)

/-- A failed authorization (R508). -/
def authFailed (s : State) : State :=
  let m := Pg.monitor
  let t := ((s.count m Monitor.DBG_STATUS_AUTH_FAILS).setInt m Monitor.INT_AUTH_FAIL).event 0xA001 1 m s.sessionWord
  { t with dbg := { t.dbg with failedAt := t.events.opsec } }.mbAnswer MbStatus.auth 0 []

/-- A successful one: the session opens at a level, with its key (R497, R505, R507). -/
def authPassed (s : State) (level : Nat) (key : Option (BitVec 256)) : State :=
  let m := Pg.monitor
  let t := s.mbAnswer MbStatus.ok 0 []
  let t := (((t.set m Monitor.DBG_SESSION_OPEN 1).set m Monitor.DBG_SESSION_LEVEL level).set m Monitor.DBG_SESSION_ORIGIN
    (originCode s.dbg.origin)).set m Monitor.DBG_SESSION_PASSWORD (b2n key.isNone)
  let t := (t.set m Monitor.DBG_SESSION_IDLE_S 0).set m Monitor.DBG_STATUS_AUTH_FAILS 0
  let t := t.event 0xA002 1 m t.sessionWord
  { t with dbg := { t.dbg with key := key, lastSeq := 0, tagFails := 0 } }

/-- The checks of R505 on the fields of a certificate; its `MAX_LEVEL` is one of R504's. -/
def certOk (s : State) (cert : List Byte) : Bool :=
  let field := fun (o n : Nat) => leNat ((cert.drop o).take n)
  field 0 4 = 0x4342444B && field 4 2 = 1 && 1 ≤ field 6 1 && field 6 1 ≤ 3 && field 8 8 = Config.hallmarkId.toNat &&
  s.get Pg.monitor Monitor.DBG_CERT_FLOOR_FLOOR ≤ field 16 4 && s.get Pg.time Time.TIME_PCC_PCC ≤ field 20 4

/-- The checks of R505 on the body of an `AUTH_KEY` to the nonce of its `OPEN`: the certificate, the hash of the owner's key, the owner's
signature, and the body's own, which the debugger's key makes over the nonce and the host's ephemeral key. -/
def authKeyOk (s : State) (nonce b : List Byte) : Bool :=
  let owner := (b.drop 32).take 96
  s.certOk b && beNat (Sha.sha384 owner) = Config.ownerKeyHash.toNat && P384.verify owner ((b.drop 224).take 96) (b.take 224) &&
  P384.verify ((b.drop 128).take 96) ((b.drop 416).take 96) (nonce ++ (b.drop 320).take 96)

/-- The session key SK of an `AUTH_KEY`'s body; none where the host's ephemeral key is no point of the curve (R505). -/
def sessionKey (nonce b : List Byte) : Option (BitVec 256) :=
  P384.agreedKey 1 Config.hallmarkKey.toNat ((b.drop 320).take 96) ([0x4B#8, 0x53#8, 0x44#8, 0x42#8, 0x47#8] ++ nonce)

/-- What a method authorizes by a body: the highest level it permits, with the session's key (R497, R505, R507). -/
def authorized (s : State) (method : Nat) (nonce b : List Byte) : Option (Nat × Option (BitVec 256)) :=
  if method = 1 then
    (if s.authKeyOk nonce b then (sessionKey nonce b).map (fun k => ((b.getD 6 0).toNat, some k)) else none)
  else if Config.fuseLab = true ∧ beNat (Sha.sha384 (b ++ leBytes 8 Config.hallmarkId.toNat)) = Config.passwordHash.toNat then some (3, none)
  else none

/-- `AUTH_KEY` (method 1) and `AUTH_PW` (method 2): an `OPEN` for the method is pending, and its nonce serves once (R503, R505). -/
def mbAuth (s : State) (method : Nat) (b : List Byte) : State :=
  match s.dbg.opening with
  | some x =>
    if x.method ≠ method then s.mbAnswer MbStatus.noSession 0 []
    else
      let t := { s with dbg := { s.dbg with opening := none } }
      match t.authorized method (leBytes 32 x.nonce.toNat) b with
      | some (most, key) => t.authPassed (min x.level most) key
      | none => t.authFailed
  | none => s.mbAnswer MbStatus.noSession 0 []

/-- `CLOSE`: the response is the session's last message. -/
def mbClose (s : State) (b : List Byte) : State :=
  s.mbSession (fun t => (t.mbAnswer MbStatus.ok 0 []).sessionEnd (bit (b.getD 0 0).toNat 0))

/-- `DBG_IDLE_LIMIT` seconds without a request (R509). -/
def sessionIdle (s : State) : State := s.sessionEnd false

/-! ## The debug master (R516) -/

/-- The bytes of the next request from a place: no request crosses a 64-byte boundary, and a WRS carries at most 56. -/
def dmChunk (x : DbgTransfer) : Nat :=
  min (x.length - x.issued) (min (64 - (x.offset + x.issued) % 64) (if x.write then 56 else 64))

/-- Issue requests in ascending order, at most 64 at a time. -/
def dmPump : Nat → State → State
  | 0, s => s
  | n + 1, s =>
    match s.dbg.transfer with
    | none => s
    | some x =>
      if x.fail.isSome ∨ 64 ≤ x.outstanding ∨ x.length ≤ x.issued then s
      else
        let k := x.issued
        let len := dmChunk x
        let use := ReqUse.debug k len
        let at_ := (x.offset + k) % 2 ^ 48
        match s.issue debugEp 1 use (fun t =>
          [if x.write then wrsFlit x.ep debugEp 1 t at_ ((x.data.drop k).take len) else rdFlit x.ep debugEp 1 t at_ len]) with
        | (none, _) => s
        | (some _, t) =>
          dmPump n { t with dbg := { t.dbg with transfer := some { x with issued := k + len, outstanding := x.outstanding + 1 } } }

/-- The leading bytes that have come back. -/
def dmPrefix : Nat → Nat → List (Nat × List Byte) → List Byte
  | 0, _, _ => []
  | n + 1, k, got =>
    match got.find? (fun g => g.1 = k) with
    | some (_, bs) => if bs = [] then [] else bs ++ dmPrefix n (k + bs.length) got
    | none => []

/-- The command ends when its last request has ended. -/
def dmEnd (s : State) : State :=
  match s.dbg.transfer with
  | none => s
  | some x =>
    if x.outstanding = 0 ∧ (x.fail.isSome ∨ x.issued = x.length) then
      let t := { s with dbg := { s.dbg with transfer := none } }
      let body := if x.write then [] else dmPrefix 300 0 x.got
      match x.fail with
      | some c => t.mbAnswer MbStatus.skein c body
      | none => t.mbAnswer MbStatus.ok 0 body
    else s

/-- `MEMRD` and `MEMWR` (R498, R503, R516). -/
def mbMem (s : State) (write : Bool) (b : List Byte) : State :=
  s.mbSession (fun t =>
    let field := fun (o n : Nat) => leNat ((b.drop o).take n)
    if field 0 2 = 0x600 then t.mbAnswer MbStatus.badCmd 0 []
    else if write = true ∧ t.sessionLevel < 2 then t.mbAnswer MbStatus.level 0 []
    else
      let x : DbgTransfer := { write := write, ep := field 0 2, offset := field 2 6, length := field 8 2, data := b.drop 10 }
      dmPump 64 { t with dbg := { t.dbg with transfer := some x } })

/-- A response to the debug master. -/
def dmCode (s : State) (code : Nat) : State := s.set Pg.monitor Monitor.DBG_DM_STAT_LAST_RESP code

/-- A response to request `k` of the debug master's command (R516): a read's bytes, or a Skein code. -/
def dmResponse (s : State) (k n code : Nat) (bs : List Byte) : State :=
  let t := s.dmCode code
  match t.dbg.transfer with
  | none => t
  | some x =>
    let y := { x with outstanding := x.outstanding - 1 }
    let y := if y.fail.isSome then y else if code ≠ 0 then { y with fail := some code }
      else { y with got := y.got ++ [(k, if x.write then List.replicate n 0 else bs)] }
    (dmPump 64 { t with dbg := { t.dbg with transfer := some y } }).dmEnd

end State
end Sys2Proof.Machine
end

