-- ==== Sys2Proof/Machine/Recorder.lean ====
section
/-! DEFINITION. The event recorder's ring and buckets and elapsed time (spec/18_event_recorder_time.md), and what the ledger and
the sensors do (spec/20_safety_latency_limits.md R563, R569). Staging and suppression of a record are in Machine/Ops.lean. -/

namespace Sys2Proof.Machine

open Reg

/-- The size of the ring in bytes (R531). -/
def ringSize : Nat := 2 ^ 18

namespace State

/-! ## The ring (R531) -/

def ringByte (s : State) (o : Nat) : Byte := SMap.read 0 s.events.ring (o % ringSize)

/-- Bytes written from an offset on, past the end of the ring to its start. -/
def putRing (s : State) (o : Nat) (bs : List Byte) : State :=
  { s with events := { s.events with
    ring := forEach (List.range bs.length) (fun i m => SMap.write 0 m ((o + i) % ringSize) (bs[i]?.getD 0)) s.events.ring } }

/-- The size of the oldest record of the ring, by its `LENGTH` (R527). -/
def oldestSize (s : State) : Nat := 24 + padded (s.ringByte (s.get Pg.recorder Recorder.EVT_OLDEST_OLDEST + 6)).toNat

/-- `EVT_OLDEST` passes every record that `n` more bytes would touch: at most eleven, the shortest having 24 bytes. -/
def makeRoom (s : State) (n : Nat) : Nat → State
  | 0 => s
  | fuel + 1 =>
    if s.events.ringUsed + n ≤ ringSize ∨ s.events.ringUsed = 0 then s
    else
      let z := min s.oldestSize s.events.ringUsed
      let t := s.set Pg.recorder Recorder.EVT_OLDEST_OLDEST (s.get Pg.recorder Recorder.EVT_OLDEST_OLDEST + z)
      (({ t with events := { t.events with ringUsed := t.events.ringUsed - z } }).setInt Pg.recorder Recorder.INT_WRAP).makeRoom n fuel

/-- Write one record into the ring: `EVT_HEAD` advances past it, and it may notify. -/
def ringWrite (s : State) (r : EvRec) : State :=
  let t := s.makeRoom r.size 16
  let h := t.get Pg.recorder Recorder.EVT_HEAD_HEAD
  let t := (t.putRing h r.bytes).set Pg.recorder Recorder.EVT_HEAD_HEAD (h + r.size)
  let t := { t with events := { t.events with ringUsed := t.events.ringUsed + r.size } }
  if t.get Pg.recorder Recorder.EVT_NOTIFY_SEV ≤ r.severity then t.setInt Pg.recorder Recorder.INT_NOTIFY else t

/-- The oldest staged record goes into the ring. -/
def recordToRing (s : State) : State :=
  match s.events.stage with
  | [] => s
  | r :: rs => ({ s with events := { s.events with stage := rs } }).ringWrite r

/-- Every staged record goes into the ring, in `SEQ` order (R486, R588). -/
def stageToRing (s : State) : State :=
  forEach s.events.stage (fun r t => t.ringWrite r) { s with events := { s.events with stage := [] } }

/-! ## Buckets (R533) -/

/-- A class gains a token; one that returns to an empty bucket brings the suppression summary of what it holds back. -/
def tokenReturns (s : State) (cls : Nat) : State :=
  let b := s.bucket cls
  let burst := s.get Pg.recorder Recorder.EVT_RATE_BURST
  let held := min b.tokens burst
  if held = 0 ∧ b.pending ≠ 0 then
    let t := s.storeRec (256 * cls) b.sev Pg.recorder b.pending false []
    if s.stageRoom b.sev 0 then (t.setInt Pg.recorder Recorder.INT_SUPPRESSED).setBucket cls { b with tokens := 1, pending := 0, sev := 0 }
    else t.setBucket cls { b with tokens := 1 }
  else s.setBucket cls { b with tokens := min (held + 1) burst }

/-! ## Software records (R535) -/

/-- The code with which a write of `EVT_SW_CMD` is dropped. -/
def swGuard (s : State) (w : Nat) : Option Nat :=
  if bits w 31 24 < 0xF0 ∨ 56 < bits w 15 8 ∨ 4 < bits w 2 0 then some 0x8
  else if s.flag Pg.recorder Recorder.EVT_SW_STAT_BUSY then some 0x9 else none

/-- A software record. -/
def swRecord (s : State) (o : Origin) (w : Nat) : State :=
  let payload := ((List.range 14).flatMap (fun k => leBytes 4 (s.get Pg.recorder Recorder.EVT_SW_PAYLOAD_DATA k))).take (bits w 15 8)
  s.record (bits w 31 16) (bits w 2 0) (0x4000 + originCode o) true payload

/-! ## Temperatures (R569, R584) -/

/-- Sensors of a die that are not retired. -/
def sensorsLeft (s : State) (d : Nat) : List Nat :=
  (List.range 3).filter (fun i => !(bit (s.get Pg.safety Safety.SAF_TEMP_SENS_RETIRED) (3 * d + i)))

/-- The temperature of a die by its sensors' readings, in 1/16 °C: the median, the higher of two, the last one's own; a die without a sensor
has none. The readings are those of sensor `3d + s` for every die `d`. -/
def dieTemp (s : State) (d : Nat) (readings : List (BitVec 16)) : Option Int :=
  match (s.sensorsLeft d).map (fun i => (readings.getD (3 * d + i) 0).toInt) with
  | [a, b, c] => some (max (min a b) (min (max a b) c))
  | [a, b] => some (max a b)
  | [a] => some a
  | _ => none

/-- The temperatures are sampled into `THM_DIE`; a die without a sensor shows its last. -/
def temps (s : State) (readings : List (BitVec 16)) : State :=
  forEach (List.range 7) (fun d t => match s.dieTemp d readings with
    | some v => t.set Pg.thermal Thermal.THM_DIE_TEMP (BitVec.ofInt 16 v).toNat d
    | none => t) s

/-- The die with the highest temperature that `THM_DIE` shows, the lowest of equals, and that temperature. -/
def hottest (s : State) : Nat × Int :=
  let at_ := fun (d : Nat) => signed 16 (s.get Pg.thermal Thermal.THM_DIE_TEMP d)
  (List.range 7).foldl (fun m d => if m.2 < at_ d then (d, at_ d) else m) (0, at_ 0)

/-- The junction temperature (R584). -/
def junction (s : State) : Int := s.hottest.2

/-! ## Time (R524 to R526, R585, R586) -/

/-- The weight of an operating second by the highest junction temperature, in 1/16 °C (R585). -/
def lifeWeight (tj : Int) : Nat := if tj ≤ 1600 then 1 else if tj ≤ 1680 then 2 else if tj ≤ 1760 then 4 else 16

/-- The life budget (R585). -/
def lifeBudget : Nat := 788400000

/-- An operating second passes, with the sensors' readings. -/
def secondPasses (s : State) (readings : List (BitVec 16)) : State :=
  let s := s.temps readings
  let n := min (s.events.life + lifeWeight s.junction) (2 ^ 48 - 1)
  let t := { s with events := { s.events with opsec := (s.events.opsec + 1) % 2 ^ 48, life := n } }
  if lifeBudget ≤ n ∧ t.flag Pg.thermal Thermal.THM_STAT_LIFE_OVER = false then
    (t.set Pg.thermal Thermal.THM_STAT_LIFE_OVER 1).setInt Pg.thermal Thermal.INT_LIFE_OVER
  else t

/-- Operating seconds and the life count are written to MRAM (R526, R585). -/
def checkpoint (s : State) : State :=
  let t := (s.set Pg.time Time.TIME_CKPT_LO_CKPT s.events.opsec).set Pg.time Time.TIME_CKPT_HI_CKPT (s.events.opsec / 2 ^ 32)
  { t.set Pg.time Time.TIME_STAT_RESUMED 0 with events := { s.events with lifeCkpt := s.events.life } }

/-- The operating second of the last checkpoint. -/
def lastCheckpoint (s : State) : Nat :=
  s.get Pg.time Time.TIME_CKPT_LO_CKPT + 2 ^ 32 * s.get Pg.time Time.TIME_CKPT_HI_CKPT

/-- A read of `TIME_OPS_LO` shows the count and latches its high half. -/
def timeRead (s : State) : State :=
  (s.set Pg.time Time.TIME_OPS_LO_OPS s.events.opsec).set Pg.time Time.TIME_OPS_HI_OPS (s.events.opsec / 2 ^ 32)

/-- A read of `THM_LIFE_LO` likewise. -/
def lifeRead (s : State) : State :=
  (s.set Pg.thermal Thermal.THM_LIFE_LO_LIFE s.events.life).set Pg.thermal Thermal.THM_LIFE_HI_LIFE (s.events.life / 2 ^ 32)

/-! ## Sensors (R569) -/

def sensorSuspected (s : State) (d i : Nat) : State :=
  let k := 3 * d + i
  if bit (s.get Pg.safety Safety.SAF_TEMP_SENS_RETIRED) k ∨ s.safety.suspects.elem k = true then s
  else { s with safety := { s.safety with suspects := s.safety.suspects ++ [k] } }

/-- Whether a sensor differs by more than 5 °C from its die's temperature; of the last one left the manual says no more than that it fails, and
`failed` tells. -/
def sensorDiffers (s : State) (d i : Nat) (failed : Bool) (readings : List (BitVec 16)) : Bool :=
  match s.dieTemp d readings with
  | some v => if (s.sensorsLeft d).length = 1 then failed else 80 < ((readings.getD (3 * d + i) 0).toInt - v).natAbs
  | none => false

/-- The re-read of a suspect sensor: it is cleared, or classed lasting and retired; with none left the condition is fatal. What remains decides
at once (R595). -/
def sensorReread (s : State) (d i : Nat) (failed : Bool) (readings : List (BitVec 16)) : State :=
  let k := 3 * d + i
  if s.safety.suspects.elem k = false then s
  else
    let t := { s with safety := { s.safety with suspects := s.safety.suspects.filter (· ≠ k) } }
    if s.sensorDiffers d i failed readings = false then t.temps readings
    else
      let t := t.setBit Pg.safety Safety.SAF_TEMP_SENS_RETIRED k true
      let left := (t.sensorsLeft d).length
      let t := t.temps readings
      let t := (t.history 10 Pg.safety k left).warn Safety.SAF_WARN_SPARE
      if left = 0 then (t.fatal Safety.SAF_FATAL_TEMP 0xC004 Pg.safety).event 0xC004 4 Pg.safety k
      else if left = 1 then (t.event 0xC004 3 Pg.safety k).event 0xC005 3 Pg.safety k
      else t.event 0xC004 3 Pg.safety k

/-! ## The data windows (R568, R597) -/

/-- The bytes of a history entry (R565). -/
def historyBytes (e : HistEntry) : List Byte :=
  let b := leBytes 1 e.kind ++ [0] ++ leBytes 2 e.page ++ leBytes 4 e.location ++ leBytes 4 e.what ++ leBytes 4 0 ++
    leBytes 8 (e.opsec % 2 ^ 48) ++ leBytes 4 e.pcc
  b ++ leBytes 4 (crc32 b)

/-- The word of a data window at a window offset. -/
def windowWord (s : State) (w : DataWindow) (off : Nat) : Word :=
  match w with
  | .ledger =>
    match s.safety.history[off / 32]? with
    | some e => BitVec.ofNat 32 (leNat (((historyBytes e).drop (off % 32)).take 4))
    | none => 0
  | .ring => BitVec.ofNat 32 (leNat ((List.range 4).map (fun i => s.ringByte (off + i))))

end State
end Sys2Proof.Machine
end

