-- ==== Sys2Proof/Machine/Power.lean ====
section
/-! DEFINITION. Power domains, votes, device states and supply monitors (spec/16_power_supplies.md R474 to R495), and the thermal
warning and trip that shed domains as they do (spec/21_electrical_package.md R587, R588). -/

namespace Sys2Proof.Machine

open Reg

/-- The parent of a domain (R474); AON has none and stands as its own. -/
def domParent (d : Nat) : Nat := if d ≤ 1 then 0 else if d < 0x10 ∨ d % 16 = 0 then 1 else d / 16 * 16

/-- The domains whose parent a domain is, lowest first. -/
def domChildren (d : Nat) : List Nat := domains.filter (fun c => c ≠ 0 && c ≠ d && domParent c = d)

/-- Domains that take votes (R475). -/
def votable (d : Nat) : Bool := isDomain d && 2 ≤ d

/-- The channel of a DDR domain. -/
def domChannel (d : Nat) : Option Nat :=
  if 1 ≤ d / 16 ∧ d / 16 ≤ 4 ∧ 2 ≤ d % 16 then some (2 * (d / 16 - 1) + (d % 16 - 2)) else none

/-- The die and octet of an octet domain. -/
def domOctet (d : Nat) : Option (Nat × Nat) := if 5 ≤ d / 16 ∧ 1 ≤ d % 16 then some (d / 16, d % 16 - 1) else none

/-- The Skein endpoints of a domain (R474). -/
def domEnds (d : Nat) : List Nat :=
  let k := d / 16
  if d = 0x02 then [epOf 0 3 0 3]
  else if 1 ≤ k ∧ k ≤ 4 then
    (if d % 16 = 0 then
      ([1, 3, 5, 7].flatMap (fun y => [1, 3, 5, 7].map (fun x => epOf k x y 1))) ++ [cryptoEp (2 * (k - 1)), cryptoEp (2 * (k - 1) + 1)]
     else if d % 16 = 1 then attachEnds k else [])
  else if 5 ≤ k ∧ d % 16 = 0 then (List.range 8).map (adapterEp k) else []

/-- Whether an origin may cast (`true`) or withdraw a client's vote (R476). -/
def voteAllowed (o : Origin) (client : Nat) (cast : Bool) : Bool :=
  let host := o = .pcie || o = .i2c
  if client = 0 then host
  else if client = 1 then o = .monitor
  else if client = 2 then o = .debug
  else if client = 3 then o = .ply
  else if client = 4 then o = .config || (!cast && (host || o = .monitor))
  else if client = 5 then !cast && (host || o = .monitor)
  else o ≠ .debug

namespace State

def votes (s : State) (d : Nat) : Nat := s.get Pg.powerDom PowerDom.DOM_VOTES_VOTES d
def setDom (s : State) (d v : Nat) : State := s.set Pg.powerDom PowerDom.DOM_STATE_STATE v d

/-- Whether a domain is wanted (R475): it holds a vote, or one whose parent it is is wanted. -/
def wanted (s : State) (d : Nat) : Bool := d ≤ 1 || s.votes d ≠ 0 || (domChildren d).any (fun c => s.votes c ≠ 0)

/-- A supply warning holds (R493). -/
def supplyWarning (s : State) : Bool := s.power.vaonWarn || s.power.railWarn ≠ 0

/-- A warning that sheds holds: of a supply, or of the temperature with `SHED_EN` (R493, R587). -/
def shedding (s : State) : Bool := s.supplyWarning || (s.flag Pg.thermal Thermal.THM_STAT_WARN && s.flag Pg.thermal Thermal.THM_CTL_SHED_EN)

def shedBit (s : State) (d : Nat) : Bool := s.flag Pg.powerDom PowerDom.DOM_STATE_SHED d

/-- Whether a warning holds a domain down: it or one above it is marked `SHED` (R493). -/
def heldDown (s : State) (d : Nat) : Bool := s.shedding && (s.shedBit d || (domParent d ≠ 1 && s.shedBit (domParent d)))

def isForced (s : State) (d : Nat) : Bool := SMap.read false s.power.forced d
def setForced (s : State) (d : Nat) (b : Bool) : State :=
  { s with power := { s.power with forced := SMap.write false s.power.forced d b } }
def setAborted (s : State) (d : Nat) (b : Bool) : State :=
  { s with power := { s.power with aborted := SMap.write false s.power.aborted d b } }

/-- A Skein port changes state (R317): 0 ACTIVE, 1 DRAINING, 2 ASLEEP. No request has found a port asleep that was not (R318). -/
def setPort (s : State) (e v : Nat) : State :=
  let t := if v = 2 ∧ s.portState' e ≠ 2 then { s with skein := { s.skein with asked := SMap.write false s.skein.asked e false } } else s
  t.set (epPage e) Router.SKR_PORT_PSTATE v (epPort e)

/-- The Skein ports of a domain change state. -/
def setPorts (s : State) (d v : Nat) : State := forEach (domEnds d) (fun e t => t.setPort e v) s

/-- The refuser of an entry is recorded (R481). -/
def refuser (s : State) (d kind id : Nat) : State :=
  ((s.set Pg.powerDom PowerDom.DOM_REF_VALID 1 d).set Pg.powerDom PowerDom.DOM_REF_KIND kind d).set Pg.powerDom PowerDom.DOM_REF_ID id d

/-- A record of the power controller about a domain: its word +0xC is the detail (R530). -/
def domEvent (s : State) (d code sev : Nat) : State := s.event code sev Pg.powerCtl (s.storedWord Pg.powerDom (0x100 + 0x10 * d + 0xC))

/-! ## Raising (R483) -/

/-- Whether a domain's rail can switch on now. -/
def canRaise (s : State) (d : Nat) : Bool :=
  votable d && s.domState d = 0 && s.wanted d && !(s.heldDown d) && s.power.hibernate = 0 && !s.power.tripped &&
  s.domState (domParent d) = 2

/-- The rail switches on. -/
def domainRaise (s : State) (d : Nat) : State := if s.canRaise d then s.setDom d 1 else s

/-- A wanted domain is raised, its parent first. -/
def raiseUp (s : State) (d : Nat) : State := if s.domState (domParent d) = 0 then s.domainRaise (domParent d) else s.domainRaise d

/-- Every wanted domain that nothing holds down is raised. -/
def raiseAll (s : State) : State := forEach (domains.filter (2 ≤ ·)) (fun d t => t.domainRaise d) s

/-! ## Dropping (R478, R482) -/

/-- A domain enters DRAINING: it is UP, not wanted or forced, no abort bars it, and each of its children is OFF. -/
def domainDrop (s : State) (d : Nat) : State :=
  if votable d = true ∧ s.domState d = 2 ∧ (s.isForced d ∨ (s.wanted d = false ∧ SMap.read false s.power.aborted d = false)) ∧
      (domChildren d).all (fun c => s.domState c = 0) = true then
    let t := ((s.sessionDropped d).setDom d 3).setPorts d 1
    match domOctet d with
    | some (die, o) => forEach (List.range 8) (fun i u => u.laneStop (octetLane die o i)) t
    | none => t
  else s

/-- A drop ends with the domain UP again. -/
def drainEnds (s : State) (d : Nat) : State :=
  let t := (s.setDom d 2).setPorts d 0
  match domOctet d with
  | some (die, o) =>
    forEach ((List.range 8).map (octetLane die o)) (fun p u => if u.flag p Lane.CTL_EN then u.laneStart p else u) t
  | none => t

/-- Whether an endpoint has its responses and has answered what it took, the fabric behind an attach port included (R317). Requests that it
has not injected wait for no response. -/
def endDrained (s : State) (e : Nat) : Bool :=
  let x := s.skEnd e
  s.inFlight e = [] && x.respQ = [] && x.urgQ = [] && x.reqQ = [] && x.owed = [] && x.tDue = none && x.swap = none &&
  x.txQ.all (fun f => !(s.mayInject e f))

/-- The endpoints of a draining domain that have not finished, lowest first. -/
def undrained (s : State) (d : Nat) : List Nat := (domEnds d).filter (fun e => !(s.endDrained e))

/-- A domain isolates: its sectors take GSR, its channel enters self-refresh or is reset, its ports sleep (R478). -/
def isolate (s : State) (d : Nat) : State :=
  let t := (s.setDom d 4).setPorts d 2
  match domChannel d with
  | some c =>
    if s.flag Pg.powerDom PowerDom.DOM_STATE_KEEP_DRAM d ∧ s.ddrState c = 3 then (t.cryptoSettles c).ddrSelfRefresh c
    else if s.ddrState c = 4 then t else (t.ddrComplete c).ddrOff c
  | none => if 1 ≤ d / 16 ∧ d / 16 ≤ 4 ∧ d % 16 = 1 then t.logicHeld (d / 16) else t

/-- All parts have drained: the domain isolates. -/
def domainIsolate (s : State) (d : Nat) : State :=
  if s.domState d = 3 ∧ s.undrained d = [] then s.isolate d else s

/-- The drain bound of a forced drop expires: the domain isolates anyway (R482). -/
def forcedDrop (s : State) (d : Nat) : State :=
  if s.domState d = 3 ∧ s.isForced d = true then
    ((s.count Pg.powerDom PowerDom.DOM_STATE_FORCED 1 d).setInt Pg.powerCtl PowerCtl.INT_FORCED).isolate d
  else s

/-- The rail is off: a domain wanted again is raised at once, else its parent may follow (R478, R495). -/
def domainOff (s : State) (d : Nat) : State :=
  if s.domState d = 4 then
    let t := (((s.domainLoss d).setDom d 0).setForced d false).setAborted d false
    if t.canRaise d then t.domainRaise d else t.domainDrop (domParent d)
  else s

/-- The drain bound expires on a part that has not finished: the entry is aborted (R480). -/
def abortDrop (s : State) (d kind id : Nat) : State :=
  let t := ((s.drainEnds d).setAborted d true).count Pg.powerDom PowerDom.DOM_CNT_ABORTED 1 d
  ((t.refuser d kind id).setInt Pg.powerCtl PowerCtl.INT_ABORTED).domEvent d 0x9002 2

/-- PWR_ABORTED: the lowest endpoint that has not finished, or the controller or Ply page that missed its bound, is the refuser. -/
def drainTimeout (s : State) (d : Nat) : State :=
  if s.domState d = 3 ∧ s.isForced d = false then
    match s.undrained d, domChannel d with
    | e :: _, _ => s.abortDrop d 2 e
    | [], some c => s.abortDrop d 3 (Pg.ddr c)
    | [], none => if d = 0x03 then s.abortDrop d 3 Pg.ply else s
  else s

/-- A port's wait of R317 times out: its domain's entry is aborted with it as the refuser. -/
def portTimeout (s : State) (e : Nat) : State :=
  match (domains.find? (fun d => (domEnds d).elem e)) with
  | some d => if s.domState d = 3 ∧ s.isForced d = false ∧ s.portState' e = 1 ∧ s.endDrained e = false then s.abortDrop d 2 e else s
  | none => s

/-- A draining port has finished: it enters ASLEEP (R317). -/
def portDrained (s : State) (e : Nat) : State :=
  if s.portState' e = 1 ∧ s.endDrained e = true then s.setPort e 2 else s

/-! ## Votes (R476, R479, R480, R495) -/

/-- A vote is cast: a drain of the domain or of its parent ends, or the domain is raised. -/
def castVote (s : State) (d client : Nat) : State :=
  if bit (s.votes d) client then s
  else
    let t := (s.setBit Pg.powerDom PowerDom.DOM_VOTES_VOTES client true d).setAborted d false
    let t := t.setAborted (domParent d) false
    let t := if t.domState (domParent d) = 3 ∧ t.isForced (domParent d) = false ∧ 2 ≤ domParent d then t.drainEnds (domParent d) else t
    if t.domState d = 3 ∧ t.isForced d = false then t.drainEnds d else t.raiseUp d

/-- A domain has lost its last vote while a child is wanted: the entry is refused (R479). -/
def entryRefused (s : State) (d : Nat) : State :=
  match (domChildren d).find? (fun c => s.wanted c) with
  | some c =>
    (((s.count Pg.powerDom PowerDom.DOM_CNT_REFUSED 1 d).refuser d 1 c).setInt Pg.powerCtl PowerCtl.INT_REFUSED).domEvent d 0x9001 2
  | none => s

/-- A vote is withdrawn. -/
def withdrawVote (s : State) (d client : Nat) : State :=
  if bit (s.votes d) client = false then s
  else
    let t := s.setBit Pg.powerDom PowerDom.DOM_VOTES_VOTES client false d
    if t.votes d ≠ 0 then t
    else if t.wanted d then t.entryRefused d
    else (t.domainDrop d).domainDrop (domParent d)

/-- The codes with which a write of `PWR_VOTE` is dropped. -/
def voteGuard (s : State) (o : Origin) (w : Nat) : Option Nat :=
  let client := bits w 20 16
  if votable (bits w 6 0) = false then some 0x9
  else if 6 ≤ client ∧ client < 16 then some Err.reservedEncoding
  else if voteAllowed o client (bit w 31) = false then some 0x8
  else none

def voteWritten (s : State) (w : Nat) : State :=
  if bit w 31 then s.castVote (bits w 6 0) (bits w 20 16) else s.withdrawVote (bits w 6 0) (bits w 20 16)

/-- `PWR_DOM_CMD.DROP` (R480). -/
def dropWritten (s : State) (w : Nat) : State :=
  let d := bits w 6 0
  if bit w 8 = true ∧ s.wanted d = false ∧ s.domState d = 2 then (s.setAborted d false).domainDrop d else s

/-! ## The domain is up (R469, R483) -/

/-- What a power-up or a DOMAIN_RESET starts in a domain. -/
def domainStarts (s : State) (d : Nat) : State :=
  let t := s.setPorts d 0
  if d = 0x03 then t.plyStarts
  else if 0x10 ≤ d ∧ d % 16 = 0 then t.startTraining (d / 16)
  else match domChannel d with
    | some c => if t.flag (Pg.ddr c) Ddr.CTL_EN then t.ddrResumes c else t
    | none => t

/-- Isolation is released and the domain enters UP; domains below it that are wanted follow, and one no longer wanted is
dropped, as is one that a warning has come to hold down (R483, R493, R495). -/
def domainUp (s : State) (d : Nat) : State :=
  if s.domState d = 1 then
    let t := (s.setDom d 2).domainStarts d
    let t := forEach (domChildren d) (fun c u => u.domainRaise c) t
    (if t.heldDown d then t.setForced d true else t).domainDrop d
  else s

/-- `WAKE_HOLD` ms after UP the WAKE vote ends (R484). -/
def wakeHoldEnds (s : State) (d : Nat) : State := if s.domState d = 2 then s.withdrawVote d 5 else s

/-- The domain of an endpoint. -/
def endDomain (e : Nat) : Nat := (domains.find? (fun d => (domEnds d).elem e)).getD 1

/-- A request finds a port ASLEEP with `WAKE_ON_PKT` (R484): whether the WAKE vote is cast. -/
def packetWake (s : State) (e : Nat) : Bool × State :=
  let d := endDomain e
  if s.flag Pg.powerDom PowerDom.DOM_STATE_PKT_WAKE d = true ∧ s.supplyWarning = false then
    (true, (s.castVote d 5).setInt Pg.powerCtl PowerCtl.INT_PKT_WAKE)
  else (false, s)

/-! ## Sheds (R493) -/

/-- A domain takes a forced drop: one that is DRAINING goes on as forced, one that ramps or is UP follows its children. -/
def forceDrop (s : State) (d : Nat) : State :=
  if s.domState d = 0 ∨ s.domState d = 4 then s else (s.setForced d true).domainDrop d

/-- A shed takes a domain with every descendant. -/
def shed (s : State) (d : Nat) : State := (forEach (domChildren d) (fun c t => t.forceDrop c) s).forceDrop d

/-- Every UP or DRAINING domain marked `SHED` is shed. -/
def shedAll (s : State) : State :=
  forEach (domains.filter (fun d => votable d && s.shedBit d && s.domOn d)) (fun d t => t.shed d) s

/-- `PWR_VAON` as a word: the last sample is a free value (R492). -/
def vaonWord (s : State) : Nat := b2n s.power.vaonWarn * 2 ^ 31 + s.freeVal % 4096

def warnEvent (s : State) (code sev : Nat) : State := (s.event code sev Pg.powerCtl s.vaonWord).took

/-- A supply warning begins (R493): on VAON, or on the main rails of a mask, whose monitors are disarmed in HIBERNATE (R492); another supply
joins a warning that holds. -/
def warningBegins (s : State) (vaon : Bool) (mask : Nat) : State :=
  let rails := if s.power.hibernate = 2 then 0 else mask
  let t := { s with power := { s.power with vaonWarn := s.power.vaonWarn || vaon, railWarn := (s.power.railWarn ||| rails) % 65536 } }
  if s.supplyWarning = true ∨ t.supplyWarning = false then t
  else
    let t := ((t.count Pg.supply Supply.PWR_WARN_CNT_COUNT).setInt Pg.powerCtl PowerCtl.INT_WARN).warnEvent 0x9004 3
    (t.warn Safety.SAF_WARN_SUPPLY).checkpoint.shedAll

/-- Every supply has recovered, and nothing forces the warning (R493). -/
def warningClears (s : State) : State :=
  if s.supplyWarning = false ∨ s.flag Pg.supply Supply.PWR_SUPPLY_TEST_FORCE_WARN = true then s
  else
    let t := { s with power := { s.power with vaonWarn := false, railWarn := 0 } }
    let t := (t.setInt Pg.powerCtl PowerCtl.INT_WARN_CLEAR).warnEvent 0x9005 1
    (t.set Pg.safety Safety.SAF_WARN_SUPPLY 0).raiseAll

/-- A domain whose `SHED` is written 1 while a warning holds is shed at once. -/
def shedWritten (s : State) (d : Nat) : State := if s.shedding = true ∧ s.shedBit d = true ∧ s.domOn d = true then s.shed d else s

/-! ## The thermal warning and the thermal trip (R587, R588) -/

/-- `WARN_C` in 1/16 °C. -/
def warnTemp (s : State) : Int := 16 * (s.get Pg.thermal Thermal.THM_CTL_WARN_C : Int)

/-- A thermal warning begins once the junction temperature has reached `WARN_C`. -/
def thermalWarnBegins (s : State) : State :=
  if s.flag Pg.thermal Thermal.THM_STAT_WARN = true ∨ s.junction < s.warnTemp then s
  else
    let t := (s.set Pg.thermal Thermal.THM_STAT_WARN 1).setInt Pg.thermal Thermal.INT_THERM_WARN
    if t.flag Pg.thermal Thermal.THM_CTL_SHED_EN then t.shedAll else t

def thermalWarns (s : State) (readings : List (BitVec 16)) : State := (s.temps readings).thermalWarnBegins

/-- It ends at 5 °C below that; after a trip it holds. -/
def thermalWarnEnds (s : State) (readings : List (BitVec 16)) : State :=
  let t := s.temps readings
  if t.flag Pg.thermal Thermal.THM_STAT_WARN = true ∧ t.junction ≤ t.warnTemp - 80 ∧ t.power.tripped = false then
    ((t.set Pg.thermal Thermal.THM_STAT_WARN 0).setInt Pg.thermal Thermal.INT_THERM_CLEAR).raiseAll
  else t

/-- A write of `THM_CTL` while a thermal warning holds: `SHED_EN` decides whether it sheds. -/
def thermCtlWritten (s : State) : State :=
  if s.flag Pg.thermal Thermal.THM_STAT_WARN = false then s
  else if s.flag Pg.thermal Thermal.THM_CTL_SHED_EN then s.shedAll else s.raiseAll

/-- Every domain but AON and HUB takes a forced drop. -/
def forceAll (s : State) : State :=
  forEach ((domains.filter (fun d => 2 ≤ d && d % 16 ≠ 0)) ++ [0x10, 0x20, 0x30, 0x40, 0x50, 0x60]) (fun d t => t.forceDrop d) s

/-- A thermal trip, at 125 °C: records, checkpoints, and a forced drop of every domain but AON, HUB last. -/
def thermalTrip (s : State) (readings : List (BitVec 16)) : State :=
  let t := s.temps readings
  if t.power.tripped = true ∨ t.junction < 2000 then t
  else
    let h := t.hottest
    let t := (t.fatal Safety.SAF_FATAL_THERMAL 0xC006 Pg.thermal).event 0xC006 4 Pg.thermal ((BitVec.ofInt 16 h.2).toNat + h.1 * 2 ^ 16)
    let t := t.stageToRing.checkpoint
    let t := (t.set Pg.thermal Thermal.THM_STAT_TRIPPED 1).set Pg.thermal Thermal.THM_STAT_WARN 1
    { t with power := { t.power with tripped := true } }.forceAll

/-- After a thermal trip HUB drops last, once every other domain is OFF. -/
def tripHub (s : State) : State :=
  if s.power.tripped = true ∧ (domains.filter (2 ≤ ·)).all (fun d => s.domState d = 0) = true then s.setDom 1 0 else s

/-! ## HIBERNATE (R485 to R489) -/

/-- Whether start-up allows HIBERNATE entry: at DONE, or in minimal mode. -/
def hibernateAllowed (s : State) : Bool := s.bootPhase = 6 || s.minimal

/-- The code with which a write of `PWR_STATE_CTL` is dropped. -/
def hibGuard (s : State) (w : Nat) : Option Nat :=
  if bits w 31 16 ≠ 0x4849 then some 0x8
  else if bit w 0 = true ∧ (s.get Pg.powerCtl PowerCtl.PWR_WAKE_EN_EN = 0 ∨ s.resets.device = true ∨ s.resets.warm = true ∨
      s.resets.pin = true ∨ s.hibernateAllowed = false) then some 0xA
  else none

/-- HIBERNATE entry begins: a worker announces it (R549), READY channels that keep their DRAM enter self-refresh, one that is there already
is reset cold as every other is, and every domain but AON and HUB takes a forced drop. -/
def hibernate (s : State) : State :=
  if s.power.hibernate ≠ 0 then s
  else
    let t := if s.get Pg.ply Ply.STATUS_ROLE = 2 then s.plySend 0 { type := 0x60, dst := 0, src := s.plySelf, payload := leBytes 1 4 } else s
    let t := forEach (List.range 8) (fun c u =>
      if u.flag Pg.powerDom PowerDom.DOM_STATE_KEEP_DRAM (ddrDom c) = true ∧ u.ddrState c = 3 then
        ((u.cryptoSettles c).ddrSelfRefresh c).setBit Pg.powerCtl PowerCtl.PWR_HIB_STAT_SR_HELD c true
      else if u.ddrState c = 4 then u.ddrOff c else u) t
    { t with power := { t.power with hibernate := 1 } }.forceAll

def hibWritten (s : State) (w : Nat) : State := if bit w 0 then s.hibernate else s

/-- HUB is off and the regulator in low-power mode (R486). -/
def hibernated (s : State) : State :=
  if s.power.hibernate = 1 ∧ (domains.filter (2 ≤ ·)).all (fun d => s.domState d = 0) = true then
    let t := s.stageToRing.checkpoint
    let t := ((t.setDom 1 0).set Pg.supply Supply.PWR_REG_STAT_LOW_POWER 1).set Pg.time Time.TIME_STAT_SOURCE 2
    { t with power := { t.power with hibernate := 2 } }
  else s

/-! ## Wake sources (R487, R488) -/

/-- A wake source occurs. -/
def wakeCause (s : State) (k : Nat) : State := s.setBit Pg.powerCtl PowerCtl.PWR_WAKE_CAUSE_CAUSE k true

def alarmAt (s : State) : Nat := s.get Pg.powerCtl PowerCtl.PWR_ALARM_LO_ALARM + s.get Pg.powerCtl PowerCtl.PWR_ALARM_HI_ALARM * 2 ^ 32

/-- The alarm fires once operating seconds have reached `ALARM` (R488). -/
def alarm (s : State) : State :=
  if s.flag Pg.powerCtl PowerCtl.PWR_ALARM_CTL_EN = true ∧ s.alarmAt ≤ s.events.opsec then
    let t := ((s.set Pg.powerCtl PowerCtl.PWR_ALARM_CTL_FIRED 1).set Pg.powerCtl PowerCtl.PWR_ALARM_CTL_EN 0).wakeCause 0
    let t := if s.power.hibernate = 2 then t else t.setInt Pg.powerCtl PowerCtl.INT_ALARM
    t.warnEvent 0x9003 1
  else s

/-- WAKE_N has been low for 10 µs. -/
def wakePin (s : State) : State :=
  if s.power.hibernate = 2 then s.wakeCause 1 else (s.wakeCause 1).setInt Pg.powerCtl PowerCtl.INT_WAKE_PIN

end State
end Sys2Proof.Machine
end

