-- ==== Sys2Proof/Machine/Resets.lean ====
section
/-! DEFINITION. The resets (spec/15_clocks_resets.md R464 to R473, R600): what each keeps by the retention table of R470, how each
begins and ends, and the wake from HIBERNATE, which starts the device as a DEVICE_RESET does (R471, R489). -/

namespace Sys2Proof.Machine

open Reg

/-- Domains that a DOMAIN_RESET may name (R464): the DDR domains, the octets, HOST and PLY. -/
def resettable (d : Nat) : Bool := isDomain d && (d = 0x02 || d = 0x03 || (domChannel d).isSome || (domOctet d).isSome)

/-- Fields of a crypto page that show the root state (R415). -/
def rootField (f : RegField) : Bool :=
  f.off = 0x10C || f.off = 0x304 || (f.stride = 0x20 && (f.off = 0x200 || f.off = 0x218 || f.off = 0x21C)) || (f.off = 0x014 && 16 ≤ f.lo && f.lo ≤ 20)

namespace State

/-- Whether a root state is kept by a WARM_RESET or DIE_RESET (R467, R470). -/
def keepsKeys (s : State) (p : Nat) : Bool := pageKind p = some .crypto && s.flag p Crypto.CTL_KEEP_KEYS

/-- What a die's crossing port page keeps through a WARM_RESET and a DIE_RESET: the HOLD that R130 forces, which only a DEVICE_RESET or POR
ends (R158), and which ports the crossing map has joined, since nothing loads the map again (DEDUCED; log entry 78). -/
def crossKept (p : Nat) (f : RegField) : Bool :=
  pageKind p = some .xport &&
    (f = Xport.STATUS_FORCED_HOLD || f = Xport.SFIFO_CTL_EN || f = Xport.SFIFO_CTL_PEER_DIE || f = Xport.SFIFO_CTL_PEER_PORT)

/-- RO, W1C and PK fields of the outer dies that `mine` names are lost, but what a channel in self-refresh, a kept root state and the crossing
map show (R470); a test access in progress goes with its `BUSY`, the span channels' FIFOs with their levels, a capture with its `ARMED` and
`STOPPED`. -/
def loseDieStatus (s : State) (mine : Nat → Bool) : State :=
  let t := s.loseRegs (fun p f => mine (pageDie p) && pageDie p ≠ 0 && !f.kept && !(s.ddrKept p f) && !(s.keepsKeys p && rootField f) && !(crossKept p f))
  { t with
    mem := { t.mem with test := SMap.keep (fun p => !(mine (pageDie p) && pageDie p ≠ 0)) t.mem.test }
    span := { t.span with channels := SMap.keep (fun k => !(mine (k / 16))) t.span.channels }
    dbg := unarmed t.dbg mine }

/-- The ports of domains that are off sleep, whatever their pages' reset values (R319). -/
def sleepPorts (s : State) (mine : Nat → Bool) : State :=
  forEach (domains.filter (fun d => mine (d / 16) && !(s.domOn d))) (fun d t => t.setPorts d 2) s

/-- Every crypto engine of the channels given that does not keep its keys zeroizes (R467). -/
def zeroizeUnkept (s : State) (cs : List Nat) : State :=
  forEach cs (fun c t => if t.flag (Pg.crypto c) Crypto.CTL_KEEP_KEYS then t else t.cryptoZeroize c) s

/-- A channel in READY enters self-refresh; any other but one that is there already is reset cold (R467). -/
def channelSettles (s : State) (c : Nat) : State :=
  if s.ddrState c = 3 then (s.cryptoSettles c).ddrSelfRefresh c else if s.ddrState c = 4 then s else s.ddrOff c

/-- The engines of a die enter RESET. -/
def enginesReset (s : State) (d : Nat) : State :=
  forEach (List.range 16) (fun i t => (t.setEngState (16 * (d - 1) + i) 0).engClear (16 * (d - 1) + i)) s

/-! ## DEVICE_RESET, POR and the wake from HIBERNATE (R466, R470, R471) -/

/-- The span clock takes the rate that MRAM holds; 3 is used as 0 (R454). -/
def spanRateTakes (s : State) : State :=
  let rate := s.get Pg.clock Clock.CLK_SPAN_RATE
  s.set Pg.clock Clock.CLK_SPAN_ACTIVE (if rate = 3 then 0 else rate)

/-- The memories after all of the device but the MRAM is lost: the words of its sectors (R470). -/
def mramKept (s : State) : MemState :=
  { cells := SMap.keep (fun k => pageDie (k / 65536) = 0) s.mem.cells
    parity := SMap.keep (fun k => pageDie (k / 2048) = 0) s.mem.parity }

/-- What survives everything but POR: MRAM, the AON island with the staging buffer, the ledger. `sr` keeps the channels held in
self-refresh with their DRAM. -/
def deviceLoss (s : State) (sr : Bool) : State :=
  let kept := fun (p : Nat) (f : RegField) =>
    f.home = .aon || (sr && s.ddrKept p f)
  let t := (s.loseRegs (fun p f => !(kept p f))).spanRateTakes
  let held := if sr then (List.range 8).filter (fun c => s.ddrState c = 4) else []
  { State.reset with
    pending := s.pending, fresh := s.fresh, regs := t.regs, events := { s.events with buckets := [] }
    safety := { s.safety with suspects := [] }
    mem := s.mramKept
    power := { vaonWarn := s.power.vaonWarn, railWarn := s.power.railWarn }
    dbg := { failedAt := s.dbg.failedAt }
    ply := { wakes := s.ply.wakes }
    ddr := { units := SMap.keep (fun c => held.elem c) s.ddr.units, lines := SMap.keep (fun k => held.elem (k / 2 ^ 40)) s.ddr.lines }
    resets := s.resets }

/-- A DEVICE_RESET begins (R466, R472): `cause` is its `RST_CAUSE`. -/
def deviceResets (s : State) (cause : Nat) : State :=
  let t := ((s.sessionEnd false).deviceLoss false).count Pg.reset Reset.RST_COUNT_DEVICE
  let t := t.set Pg.reset Reset.RST_CAUSE_CAUSE cause
  if t.supplyWarning then t.warn Safety.SAF_WARN_SUPPLY else t

/-- A DEVICE_RESET of the chip's own making lasts 10 µs (R465); none ends a thermal trip (R588). -/
def deviceResetStarts (s : State) (cause : Nat) : State :=
  let t := s.deviceResets cause
  if s.power.tripped then s else
  { t with resets := { t.resets with device := true, warm := false, hold := 0 } }

/-- POR (R464, R470): only MRAM, the ledger and the fuses keep what they hold; counts are reloaded (R524, R526, R585); a thermal trip that it
ends shows in `TRIPPED` (R588). -/
def powerOn (s : State) : State :=
  let pcc := s.get Pg.time Time.TIME_PCC_PCC
  let t := s.loseRegs (fun _ _ => true)
  let t := { State.reset with
    pending := s.pending, fresh := s.fresh, regs := t.regs
    events :=
      { ring := s.events.ring, ringUsed := s.events.ringUsed, opsec := s.lastCheckpoint, life := s.events.lifeCkpt, lifeCkpt := s.events.lifeCkpt }
    safety := { s.safety with suspects := [] }
    mem := s.mramKept
    dbg := { failedAt := min s.dbg.failedAt s.lastCheckpoint } }
  let t := (t.set Pg.time Time.TIME_PCC_PCC (satAdd 32 pcc 1)).set Pg.time Time.TIME_STAT_PCC_SAT (b2n (2 ^ 32 ≤ pcc + 2))
  let t := (t.set Pg.time Time.TIME_STAT_RESUMED 1).set Pg.reset Reset.RST_CAUSE_CAUSE 1
  let t := t.set Pg.thermal Thermal.THM_STAT_TRIPPED (b2n s.power.tripped)
  let t := t.spanRateTakes.pllRolesAtPor
  (t.event 0x0102 1 Pg.recorder 1).startUp false

/-- RESET_N is accepted low (R600): a DEVICE_RESET, which ends a thermal trip (R588). -/
def resetNLow (s : State) : State :=
  if s.resets.pin then s
  else
    let t := s.deviceResets 2
    { t with resets := { t.resets with pin := true, warm := false, hold := 0 } }

/-- No reset of the device is left: start-up begins (R441, R465, R600). -/
def resetsEnd (s : State) : State :=
  if s.resets.device ∨ s.resets.pin ∨ s.resets.warm then s else s.startUp false

/-- RESET_N has risen, and 10 µs have passed. -/
def resetNHigh (s : State) : State :=
  if s.resets.pin then { s with resets := { s.resets with pin := false } }.resetsEnd else s

/-- The 10 µs of a register-initiated reset end. -/
def registerResetEnds (s : State) : State :=
  if s.resets.device then { s with resets := { s.resets with device := false } }.resetsEnd
  else if s.resets.warm then { s with resets := { s.resets with warm := false } }.startUp true
  else s

/-- An enabled wake source restarts a device in HIBERNATE (R487, R489). -/
def wakes (s : State) : State :=
  if s.power.hibernate = 2 ∧ s.power.tripped = false ∧
      s.get Pg.powerCtl PowerCtl.PWR_WAKE_CAUSE_CAUSE &&& s.get Pg.powerCtl PowerCtl.PWR_WAKE_EN_EN ≠ 0 then
    let t := (s.deviceLoss true).set Pg.reset Reset.RST_CAUSE_CAUSE 7
    let t := if t.supplyWarning then t.warn Safety.SAF_WARN_SUPPLY else t
    t.startUp false
  else s

/-! ## WARM_RESET (R467) -/

def fabricDies : List Nat := [1, 2, 3, 4]

/-- A WARM_RESET begins; none during a thermal trip (R588). -/
def warmResets (s : State) (cause : Nat) : State :=
  if s.power.tripped then s else
  let t := forEach fabricDies (fun d u => (u.logicHeld d).enginesReset d) (s.sessionEnd false)
  let t := (forEach (List.range 8) (fun c u => u.channelSettles c) t).zeroizeUnkept (List.range 8)
  let onFabric := fun p => 1 ≤ pageDie p && pageDie p ≤ 4
  let t := t.loseMem (fun p => onFabric p && (pageKind p = some .mi || pageKind p = some .eng3))
  let t := { t with
    fabric := {}, dsp := {}, eng := {}
    span := { t.span with slices := SMap.keep (fun k => 5 ≤ k / 16) t.span.slices }
    boot := { t.boot with references := [], heldEn := [], loaded := 0 }
    dbg := { failedAt := t.dbg.failedAt, ptr := t.dbg.ptr, origin := t.dbg.origin, forwarded := t.dbg.forwarded } }
  let t := forEach fabricDies (fun d u => (u.dropNet d).portsAsReset d) t
  let t := t.loseRegs (fun p f => onFabric p && f.kept && pageKind p ≠ some .ddr && pageKind p ≠ some .crypto)
  let t := (t.loseDieStatus (fun d => d ≤ 4)).sleepPorts (fun d => d ≤ 4)
  let t := (t.set Pg.reset Reset.RST_CAUSE_CAUSE cause).count Pg.reset Reset.RST_COUNT_WARM
  { t with resets := { t.resets with warm := true } }

/-! ## DIE_RESET (R468) -/

/-- The domains of a die. -/
def dieDomains (d : Nat) : List Nat := domains.filter (fun x => x / 16 = d)

/-- The blocks of a die are held: GSR, engines in RESET, lanes OFF, channels in self-refresh (R468, R470). -/
def dieHeld (s : State) (d : Nat) : State :=
  let t := forEach ((dieDomains d).filter (fun x => s.domState x = 3)) (fun x u => u.drainEnds x) s
  let t := if d ≤ 4 then
      let u := forEach [2 * (d - 1), 2 * (d - 1) + 1] (fun c v => v.channelSettles c) ((t.gsrDie d).enginesReset d)
      { u.zeroizeUnkept [2 * (d - 1), 2 * (d - 1) + 1] with
        dbg := { u.dbg with passed := SMap.keep (fun e => e / 16 + 1 ≠ d) u.dbg.passed } }
    else
      let u := forEach (List.range 64) (fun i v => v.laneStop (Pg.dieBase d + 0x40 + i)) t
      { u with lanes :=
        { lanes := SMap.keep (fun p => pageDie p ≠ d) u.lanes.lanes, adapters := SMap.keep (fun p => pageDie p ≠ d) u.lanes.adapters } }
  ((t.dropNet d).loseDieStatus (· = d)).sleepPorts (· = d)

/-- A DIE_RESET begins: port n goes DOWN, the die is held for 10 µs. -/
def dieResets (s : State) (d : Nat) : State :=
  let t := (((s.setBit Pg.reset Reset.RST_DIE_STAT_IN_RESET d true).dieHeld d).portDown d)
  { t with resets := { t.resets with hold := withBit t.resets.hold d true } }

/-- The hold ends: port n trains (R119, R122). -/
def dieHoldEnds (s : State) (d : Nat) : State :=
  if bit s.resets.hold d then { s with resets := { s.resets with hold := withBit s.resets.hold d false } }.startTraining d else s

/-- A sector that kept its configuration through a DIE_RESET shows `CONFIGURED` again when the die is released (R468, R470). -/
def configuredAgain (s : State) (d sec : Nat) : State :=
  s.set (Pg.sctl d sec) Sctl.STATUS_CONFIGURED
    (b2n (SMap.read false s.fabric.released (sectorKey d sec) && s.tilesWritten d sec))

/-- Port n has been ACTIVE for 1 µs: the die is released alone; an enabled channel leaves self-refresh, or trains cold where it was reset cold
(R382, R468, R495). -/
def dieReleases (s : State) (d : Nat) : State :=
  if bit (s.get Pg.reset Reset.RST_DIE_STAT_IN_RESET) d = true ∧ bit s.resets.hold d = false ∧ s.portActive d = true then
    let t := (s.setBit Pg.reset Reset.RST_DIE_STAT_IN_RESET d false).setBit Pg.reset Reset.RST_DIE_STAT_HELD d false
    let t := if 5 ≤ d then
        forEach (List.range 64) (fun i u => if u.flag (Pg.dieBase d + 0x40 + i) Lane.CTL_EN then u.laneStart (Pg.dieBase d + 0x40 + i) else u) t
      else if bit t.boot.loaded d then
        let u := forEach (List.range 96) (fun sec v => v.configuredAgain d sec) t
        let u := forEach (List.range 16) (fun i v => v.engRelease (16 * (d - 1) + i)) u
        forEach [2 * (d - 1), 2 * (d - 1) + 1] (fun c v =>
          if v.flag (Pg.ddr c) Ddr.CTL_EN then v.ddrResumes c else v) u
      else t
    forEach (dieDomains d) (fun x u => u.domainDrop x) t
  else s

/-- Dies that the hub has come to hold since `old` under R121 take the same effects (R464, R468). -/
def newlyHeld (old s : State) : State :=
  forEach [1, 2, 3, 4, 5, 6] (fun d t =>
    if bit (s.get Pg.reset Reset.RST_DIE_STAT_HELD) d && !(bit (old.get Pg.reset Reset.RST_DIE_STAT_HELD) d) &&
        !(bit (old.get Pg.reset Reset.RST_DIE_STAT_IN_RESET) d) then t.dieHeld d else t) s

/-! ## DOMAIN_RESET (R469) -/

/-- A DOMAIN_RESET: what power-down loses, without removing power; a READY channel keeps its DRAM in self-refresh first. -/
def domainResets (s : State) (d : Nat) : State :=
  let t := match domChannel d with
    | some c => if s.ddrState c = 3 then (s.cryptoSettles c).ddrSelfRefresh c else s
    | none => s
  let t := (t.sessionDropped d).domainLoss d
  if t.domState d = 2 then t.domainStarts d else t

/-! ## RST_CTL (R465) -/

/-- The code with which a write of `RST_CTL` is dropped. -/
def resetGuard (s : State) (w : Nat) : Option Nat :=
  let d := bits w 10 8
  let inReset := s.resets.device || s.resets.pin
  if bits w 31 16 ≠ 0x5253 ∨ popcount 4 (bits w 3 0) ≠ 1 then some 0x8
  else if bit w 0 then (if inReset then some 0x9 else none)
  else if inReset ∨ s.resets.warm then some 0x9
  else if bit w 1 then none
  else if bit w 2 then
    if d = 0 ∨ d = 7 then some Err.reservedEncoding
    else if bit (s.get Pg.reset Reset.RST_DIE_STAT_IN_RESET) d ∨ bit (s.get Pg.reset Reset.RST_DIE_STAT_HELD) d ∨ s.bootPhase = 3 then some 0x9
    else none
  else if resettable (16 * d + bits w 15 12) then none else some Err.reservedEncoding

/-- What an accepted write of `RST_CTL` does. -/
def resetWritten (s : State) (w : Nat) : State :=
  if bit w 0 then s.deviceResetStarts 3
  else if bit w 1 then s.warmResets 4
  else if bit w 2 then s.dieResets (bits w 10 8)
  else s.domainResets (16 * bits w 10 8 + bits w 15 12)

end State
end Sys2Proof.Machine
end

