-- ==== Sys2Proof/Machine/PlyRing.lean ====
section
/-! DEFINITION. The Ply ring (spec/19_ply_cascade.md R537 to R556): link keys, frames with their acknowledgement and resend, discovery
and numbering, member failure and wrap, and the traffic that crosses the ring. -/

namespace Sys2Proof.Machine

open Reg

/-- The number that addresses every device (R542). -/
def plyAll : Nat := 0x3F

/-- Whether a frame has a header and a payload that R542 allows, on one of the two ports. -/
def frameOk (f : PlyRx) : Bool :=
  f.port < 2 && f.flags < 256 && f.dst < 64 && f.src < 64 && f.ack < 2 ^ 16 && f.fctr < 2 ^ 64 && f.payload.length ≤ 1024

namespace State

def plyPowered (s : State) : Bool := s.domState 0x03 = 2
def isManager (s : State) : Bool := s.get Pg.ply Ply.STATUS_ROLE = 1
def plyRing (s : State) : Nat := s.get Pg.ply Ply.STATUS_RING
def setPlyRing (s : State) (v : Nat) : State := s.set Pg.ply Ply.STATUS_RING v
def plyLink (s : State) (p : Nat) : Nat := s.get Pg.ply Ply.PLY_LINK_STATE p
def setPlyLink (s : State) (p v : Nat) : State := s.set Pg.ply Ply.PLY_LINK_STATE v p

/-- A record of the Ply class: the detail holds a member number, or 0xFF, and a port (R555). -/
def plyRecord (s : State) (code sev member port : Nat) : State := s.event code sev Pg.ply (member * 256 + port)

/-- A frame of this device to another. -/
def plyFrom (s : State) (type dst : Nat) (payload : List Byte) : State :=
  s.plySend 0 { type := type, dst := dst, src := s.plySelf, payload := payload }

/-! ## The ring's formation (R545, R546, R548) -/

def members (s : State) : Nat := s.get Pg.ply Ply.PLY_MEMBERS_MEMBERS 0 + s.get Pg.ply Ply.PLY_MEMBERS_MEMBERS 1 * 2 ^ 32
def setMembers (s : State) (m : Nat) : State := (s.set Pg.ply Ply.PLY_MEMBERS_MEMBERS m 0).set Pg.ply Ply.PLY_MEMBERS_MEMBERS (m / 2 ^ 32) 1
def asleepBit (s : State) (n : Nat) : Bool := bit (s.get Pg.ply Ply.PLY_ASLEEP_ASLEEP (n / 32)) (n % 32)

/-- The numbers admitted of those reached: no number twice, none without a number; the manager is member 0. -/
def admitted (reached : List Nat) : Nat := reached.foldl (fun m n => if n < 63 then m ||| 2 ^ n else m) 1

/-- The manager's operating time for the workers (R554). -/
def epochSent (s : State) : State :=
  s.plyFrom 0x40 plyAll (leBytes 8 s.events.opsec ++ leBytes 4 (s.get Pg.time Time.TIME_PCC_PCC) ++ leBytes 8 Config.hallmarkId.toNat)

/-- The manager sends DISCOVER. -/
def discovers (s : State) : State := (s.setPlyRing (if s.plyRing = 3 then 3 else 1)).plyFrom 0x05 plyAll [0]

/-- A formation: members no longer reached are lost, unless they sleep; the ring is closed or wrapped; the formation is recorded and
the time broadcast (R545, R546, R548, R549, R554). -/
def formed (s : State) (m ring : Nat) : State :=
  let old := s.members
  let lost := (List.range 63).filter (fun n => bit old n && !(bit m n))
  let t := if ring = 3 ∧ s.plyRing ≠ 3 then (s.setInt Pg.ply Ply.INT_WRAP).plyRecord 0xB002 1 0xFF 0 else s
  let t := forEach (lost.filter (fun n => !(s.asleepBit n))) (fun n u =>
    ((u.setInt Pg.ply Ply.INT_MEMBER_LOST).warn Safety.SAF_WARN_PLY).plyRecord 0xB003 3 n 0) (t.setMembers m)
  let t := if s.plyRing = 3 ∧ ring = 2 then t.plyRecord 0xB008 1 0xFF 0 else t
  let t := forEach ((List.range 63).filter (fun n => bit m n && s.asleepBit n)) (fun n u => u.setBit Pg.ply Ply.PLY_ASLEEP_ASLEEP (n % 32) false (n / 32)) t
  (((t.setPlyRing ring).setInt Pg.ply Ply.INT_RING_UP).plyRecord 0xB001 1 0xFF 0).epochSent

/-! ## Links (R540, R541, R543, R547) -/

/-- An exchange begins: HELLO goes out with a fresh ephemeral key and nonce of the Hallmark random source, which are free values (R540). -/
def plyKeying (s : State) (p : Nat) : State :=
  let eph := 1 + s.freeVal % (P384.n - 1)
  let t := s.took
  let own := PlyWire.hello eph (leBytes 32 t.freeVal)
  (t.took.setPlyLink p 2).setPlyPort p { t.plyPort p with eph := eph, helloOut := own, sigOut := [], hello := none }

/-- A link has trained: keys are exchanged (R540). -/
def plyTrained (s : State) (p : Nat) : State :=
  if s.plyPowered = true ∧ (s.plyLink p = 0 ∨ s.plyLink p = 1) ∧ (s.plyPort p).held = false then s.plyKeying p else s

/-- The peer's HELLO (R540): HELLO_SIG goes out, this device's signature over both; its random number is a free value. -/
def helloReceived (s : State) (p : Nat) (payload : List Byte) : State :=
  let x := s.plyPort p
  if s.plyLink p = 2 ∧ payload.length = 376 then
    s.took.setPlyPort p { x with
      hello := some payload, sigOut := P384.sign Config.hallmarkKey.toNat (1 + s.freeVal % (P384.n - 1)) (x.helloOut ++ payload) }
  else s

/-- What a link that is up again makes of the ring: with both links up the manager discovers, a worker's wrap ends, and one that was cut off
waits for DISCOVER (R545, R548). -/
def plyRejoins (s : State) (p : Nat) : State :=
  if s.plyUp (1 - p) = false then s
  else if s.isManager then (if s.plyRing = 5 then s else s.discovers)
  else if s.plyRing = 3 then s.setPlyRing 2
  else if s.plyRing = 0 ∨ s.plyRing = 4 then s.setPlyRing 1 else s

/-- A link is keyed (R541): it carries frames from `FCTR` 1 on. -/
def plyKeyed (s : State) (p : Nat) (keys : BitVec 256 × BitVec 256) : State :=
  let x := s.plyPort p
  let t := s.setPlyLink p 3
  (t.plyPumped p { queue := x.queue, keyTx := keys.1, keyRx := keys.2 }).plyRejoins p

/-- An exchange has failed: the failure is recorded, and the second is lasting (R540). -/
def plyAuthFails (s : State) (p : Nat) : State :=
  let x := s.plyPort p
  let n := x.authFails + 1
  let t := (s.setPlyPort p { x with authFails := n, hello := none, held := 2 ≤ n }).setPlyLink p 0
  let t := if 2 ≤ n then t.setInt Pg.ply Ply.INT_LINK_FAIL else t
  t.plyRecord 0xB005 (if 2 ≤ n then 3 else 2) 0xFF p

/-- HELLO_SIG is checked: the peer is accepted and the keys are formed, or the exchange fails (R540, R541). -/
def helloChecked (s : State) (p : Nat) (sig : List Byte) : State :=
  let x := s.plyPort p
  match (if s.plyLink p = 2 then x.hello else none) with
  | none => s
  | some peer =>
    match (if PlyWire.accepts x.helloOut peer sig then PlyWire.linkKeys p x.eph x.helloOut peer else none) with
    | some keys => s.plyKeyed p keys
    | none => s.plyAuthFails p

/-- One second after the first failure the exchange runs again (R540). -/
def plyAuthAgain (s : State) (p : Nat) : State :=
  if s.plyPowered = true ∧ s.plyLink p = 0 ∧ (s.plyPort p).authFails = 1 ∧ (s.plyPort p).held = false then s.plyKeying p else s

/-- `CTL.RESTART` (R540): both links retrain, and the ring is down, but for a conflict. -/
def plyRestarts (s : State) : State :=
  let t := forEach [0, 1] (fun p t => (t.setPlyPort p { queue := (t.plyPort p).queue }).setPlyLink p 1) s
  if s.plyRing = 5 then t else t.setPlyRing 0

/-- A link is down: frames it had not sent leave on the other port, and the ring wraps (R547). -/
def plyLinkFails (s : State) (p : Nat) : State :=
  let x := s.plyPort p
  let t := ((s.setPlyPort p {}).setPlyLink p 0).setInt Pg.ply Ply.INT_LINK_FAIL
  let t := forEach x.queue (fun f u => u.plySend p f) t
  let t := match t.plyVia p with | some q => t.plyPumped q (t.plyPort q) | none => t
  if s.plyRing = 2 ∨ s.plyRing = 3 ∨ s.plyRing = 1 then
    let t := ((t.setPlyRing 3).setInt Pg.ply Ply.INT_WRAP).plyRecord 0xB002 1 0xFF p
    if t.isManager then t.discovers else t
  else t

/-- No frame has been accepted for 10 µs (R543). -/
def plySilent (s : State) (p : Nat) : State := if s.plyUp p then s.plyLinkFails p else s

/-- The second failure of one `FCTR`: the link goes DOWN, and retrains (R543). -/
def plyLasting (s : State) (p : Nat) : State :=
  (((s.count Pg.ply Ply.PLY_LINK_LASTING 1 p).plyRecord 0xB004 3 0xFF p).plyLinkFails p).setPlyLink p 1

/-- An acknowledgement covers frames up to a counter (R543). -/
def plyAcked (s : State) (p ack : Nat) : State :=
  let x := s.plyPort p
  s.plyPumped p { x with sent := x.sent.filter (fun e => !((ack + 65536 - e.1 % 65536) % 65536 < 32768)) }

/-- NAK is sent: its payload is the expected `FCTR`. -/
def plyNaks (s : State) (p : Nat) : State :=
  s.plyOn p { type := 0x04, dst := s.plySelf, src := s.plySelf, payload := leBytes 8 ((s.plyPort p).last + 1) }

/-- A frame of a type arrives (R542, R543): in order and with a good tag it is accepted, and `f` acts on its payload; else it is discarded and
NAKed. The expected frame has failed where its tag has, or where a later one arrives first; its second failure is lasting. -/
def plyReceives (s : State) (x : PlyRx) (type : Nat) (f : List Byte → State → State) : State :=
  let p := x.port
  let y := s.plyPort p
  if s.plyPowered = false ∨ s.plyUp p = false then s
  else if x.fctr ≠ y.last + 1 then (s.setPlyPort p { y with failed := y.failed || decide (y.last < x.fctr) }).plyNaks p
  else
    match PlyWire.opened y.keyRx type x with
    | none => if y.failed then s.plyLasting p else (s.setPlyPort p { y with failed := true }).plyNaks p
    | some payload =>
      let t := if y.failed then s.count Pg.ply Ply.PLY_LINK_TRANSIENT 1 p else s
      f payload ((t.setPlyPort p { y with last := x.fctr, failed := false }).plyAcked p x.ack)

/-- NAK (R543): frames from the expected counter on are sent again as they were; those before it have been accepted. -/
def plyNaked (s : State) (p expected : Nat) : State :=
  let y := s.plyPort p
  let again := y.sent.filter (fun e => expected ≤ e.1)
  if y.sent.any (fun e => e.1 = expected) then
    s.setPlyPort p { y with sent := again, out := ((again.getLast?).map (·.2)).getD y.out } else s

/-- Whether this device takes a frame (R544, R545): an unadmitted or conflicting one takes none, and none takes its own. -/
def plyTakes (s : State) (x : PlyRx) : Bool :=
  (x.dst = s.plySelf || x.dst = plyAll) && x.src ≠ s.plySelf && s.plyRing ≠ 6 && s.plyRing ≠ 5

/-- Forward a frame (R544): not one for this device alone, and not one that has returned to its source. -/
def plyForwards (s : State) (x : PlyRx) (type : Nat) (payload : List Byte) : State :=
  if x.src = s.plySelf ∨ (x.dst = s.plySelf ∧ x.dst ≠ plyAll) then s
  else s.plySend (1 - x.port) { type := type, flags := x.flags, dst := x.dst, src := x.src, payload := payload }

/-- A routed frame: accepted, taken or forwarded (R543, R544). -/
def plyRouted (s : State) (x : PlyRx) (type : Nat) (f : List Byte → State → State) : State :=
  s.plyReceives x type (fun payload t =>
    let u := t.plyForwards x type payload
    if u.plyTakes x then f payload u else u)

/-! ## Discovery (R545, R546, R548) -/

/-- What a worker that DISCOVER or EPOCH reaches again makes of the ring: closed, or wrapped while one of its links is down. -/
def plyJoins (s : State) : State := s.setPlyRing (if s.plyUp 0 && s.plyUp 1 then 2 else 3)

/-- DISCOVER at a worker: on the primary ring the hop count is its number; a chain leaves it the number it holds, and one that holds none is
unadmitted (R545, R546). -/
def workerDiscovered (s : State) (port hops : Nat) : State :=
  if port = 0 ∨ s.plyRing = 3 then
    (if s.get Pg.ply Ply.PLY_NUMBER_NUM = 0x3F then s.setPlyRing 6
     else if s.plyRing = 4 ∨ s.plyRing = 1 then s.plyJoins else s)
  else if hops ≤ 62 then ((s.set Pg.ply Ply.PLY_NUMBER_NUM hops).setPlyRing 2).setInt Pg.ply Ply.INT_RING_UP
  else (s.setPlyRing 6).plyRecord 0xB007 1 0xFF port

/-- DISCOVER arrives; byte 0 of its payload is the hop count. -/
def discovered (s : State) (x : PlyRx) (own : Bool) (reached : List Nat) : State :=
  s.plyReceives x 0x05 (fun payload t =>
    let hops := (payload.getD 0 0).toNat
    if t.isManager then
      (if own then
        (if t.plyRing = 5 then t
         else if t.plyUp 0 ∧ t.plyUp 1 ∧ x.port = 1 then t.formed (2 ^ (min hops 62 + 1) - 1) 2 else t.formed (admitted reached) 3)
       else (((t.setPlyRing 5).setInt Pg.ply Ply.INT_CONFLICT).warn Safety.SAF_WARN_PLY).plyRecord 0xB006 3 0xFF x.port)
    else (t.workerDiscovered x.port (hops + 1)).plySend (1 - x.port) { type := 0x05, dst := plyAll, src := x.src, payload := leBytes 1 (hops + 1) })

/-- The ring has not closed in 2 s: the manager discovers on both ports as two chains (R546). -/
def ringOpen (s : State) (reached : List Nat) : State :=
  if s.isManager = true ∧ (s.plyRing = 1 ∨ s.plyRing = 3) then
    let t := forEach [0, 1] (fun p u => if u.plyUp p then u.plyOn p { type := 0x05, dst := plyAll, src := 0, payload := [0] } else u) s
    t.formed (admitted reached) 3
  else s

/-- A worker has had neither DISCOVER nor EPOCH for 2 s (R548). -/
def plyIsolated (s : State) : State :=
  if s.get Pg.ply Ply.STATUS_ROLE = 2 ∧ s.plyRing ≠ 4 then
    let t := s.setPlyRing 4
    if t.get Pg.monitor Monitor.DBG_SESSION_ORIGIN = 5 then t.sessionEnd false else t
  else s

/-! ## The manager's requests (R550) -/

def mgmtBusy (s : State) : Bool := s.flag Pg.ply Ply.PLY_MGMT_STAT_BUSY

/-- The request as the buffer holds it, under a tag; `NOPS` 0 stands for 64, which its six bits cannot say (DEDUCED; log entry 75). -/
def mgmtPayload (s : State) (tag : Nat) : List Byte :=
  let k := s.get Pg.ply Ply.PLY_MGMT_CTL_NOPS
  let n := if k = 0 then 64 else k
  leBytes 2 tag ++ leBytes 1 n ++ leBytes 1 0 ++
  ((List.range (2 * n)).flatMap (fun i => leBytes 4 (s.get Pg.ply Ply.PLY_MGMT_BUF_DATA i)))

/-- The request is sent, as a retry or the first time. -/
def mgmtSends (s : State) (retry : Bool) : State :=
  s.plySend 0 { type := 0x20, flags := b2n retry, dst := s.ply.request.1, src := 0, payload := s.ply.request.2 }

/-- `GO`: the buffer is sent under a new tag. -/
def mgmtStarts (s : State) : State :=
  let tag := (s.ply.tag + 1) % 65536
  let t := { s with ply := { s.ply with tag := tag, retried := false, request := (s.get Pg.ply Ply.PLY_MGMT_CTL_DST, s.mgmtPayload tag) } }
  ((t.set Pg.ply Ply.PLY_MGMT_STAT_BUSY 1).set Pg.ply Ply.PLY_MGMT_STAT_RESULT 0).mgmtSends false

/-- `PLY_MGMT_TMO` expires: the request goes out once more, or ends timed out. -/
def mgmtExpires (s : State) : State :=
  if s.mgmtBusy = false then s
  else if s.ply.retried then
    (((s.set Pg.ply Ply.PLY_MGMT_STAT_BUSY 0).set Pg.ply Ply.PLY_MGMT_STAT_RESULT 2)).plyRecord 0xB004 3 0xFF 0
  else { s with ply := { s.ply with retried := true } }.mgmtSends true

/-- The response replaces the buffer; one for another tag is discarded. -/
def mgmtAnswered (s : State) (payload : List Byte) : State :=
  if s.mgmtBusy = true ∧ leNat (payload.take 2) = s.ply.tag then
    let body := payload.drop 2
    let t := forEach (List.range (min 128 (body.length / 4))) (fun i u => u.set Pg.ply Ply.PLY_MGMT_BUF_DATA (leNat ((body.drop (4 * i)).take 4)) i) s
    (t.set Pg.ply Ply.PLY_MGMT_STAT_BUSY 0).set Pg.ply Ply.PLY_MGMT_STAT_RESULT 1
  else s

/-- The operations of a request: address, write, value. -/
def mgmtOps (payload : List Byte) : List (Nat × Bool × Word) :=
  (List.range (min 64 (payload.getD 2 0).toNat)).map (fun i =>
    let a := leNat ((payload.drop (4 + 8 * i)).take 4)
    (a % 2 ^ 31, bit a 31, BitVec.ofNat 32 (leNat ((payload.drop (8 + 8 * i)).take 4))))

/-- A worker keeps its answer to the last eight requests and sends it (R550). -/
def mgmtAnswers (s : State) (src tag : Nat) (body : List Byte) : State :=
  let payload := leBytes 2 tag ++ body
  let t := { s with ply := { s.ply with answers := (s.ply.answers ++ [(src, tag, payload)]).drop (s.ply.answers.length - 7) } }
  t.plyFrom 0x21 src payload

/-- The stored answer to a retry. -/
def mgmtStored (s : State) (src tag : Nat) : Option (List Byte) :=
  (s.ply.answers.find? (fun a => a.1 = src && a.2.1 = tag)).map (fun a => a.2.2)

/-! ## Streams (R552) -/

/-- A worker's stream begins, gains bytes, and closes; an attempt whose stream closes short ends (R424, R547). -/
def streamBegins (s : State) (payload : List Byte) : State :=
  { s with ply := { s.ply with stream := some (leNat (payload.take 4), leNat ((payload.drop 4).take 8), 0) } }
def streamData (s : State) (payload : List Byte) : State :=
  match s.ply.stream with
  | some (n, total, got) => { s with ply := { s.ply with stream := some (n, total, min total (got + payload.length)) } }
  | none => s
def streamEnds (s : State) : State :=
  match s.ply.stream with
  | some (_, total, got) =>
    let t := { s with ply := { s.ply with stream := none } }
    if got < total ∧ s.bootSource = 5 ∧ s.boot.running = true then t.bootFail 0x07 0 0 else t
  | none => s

/-! ## Events, time, debug, control (R548, R549, R551, R553 to R555) -/

/-- A worker's record, stored with the manager's own stamps; it takes no token (R553). -/
def workerRecord (s : State) (src : Nat) (payload : List Byte) : State :=
  if s.isManager then
    s.storeRec (leNat ((payload.drop 4).take 2)) ((payload.getD 10 0).toNat) (2 ^ 15 + src) 0 false payload
  else s

/-- EPOCH: the manager's time beside this device's own. -/
def epochTaken (s : State) (payload : List Byte) : State :=
  if s.isManager then s
  else
    let ops := leNat (payload.take 8)
    let t := (s.set Pg.ply Ply.PLY_EPOCH_MGR_LO_OPS ops).set Pg.ply Ply.PLY_EPOCH_MGR_HI_OPS (ops / 2 ^ 32)
    let t := t.set Pg.ply Ply.PLY_EPOCH_PCC_PCC (leNat ((payload.drop 8).take 4))
    let t := (t.set Pg.ply Ply.PLY_EPOCH_LOCAL_LO_OPS s.events.opsec).set Pg.ply Ply.PLY_EPOCH_LOCAL_HI_OPS (s.events.opsec / 2 ^ 32)
    if t.plyRing = 4 then t.plyJoins else t

/-- Every 60 s the manager broadcasts its time. -/
def epochDue (s : State) : State := if s.isManager = true ∧ (s.plyRing = 2 ∨ s.plyRing = 3) then s.epochSent else s

/-- A mailbox message from the manager (R555): the buffer takes it and it is submitted, from the origin `PLY`. -/
def debugTaken (s : State) (payload : List Byte) : State :=
  if s.mbBusy = true ∨ s.mbAdmits .ply = false then s else (s.putBuffer Monitor.DBG_MB_REQ_DATA payload).mbGo .ply

/-- The worker's answer comes back to the manager's buffer. -/
def debugAnswered (s : State) (payload : List Byte) : State :=
  if s.mbBusy = true ∧ s.dbg.forwarded = true then
    let t := (s.putBuffer Monitor.DBG_MB_RSP_DATA payload).set Pg.monitor Monitor.DBG_MB_STAT_RLEN payload.length
    let t := ((t.set Pg.monitor Monitor.DBG_MB_STAT_BUSY 0).set Pg.monitor Monitor.DBG_MB_STAT_RESP 1).setInt Pg.monitor Monitor.INT_MB_RESP
    { t with dbg := { t.dbg with forwarded := false } }
  else s

/-- CTRL byte 0 = 3: the device upstream of member n sends the wake pattern on PLY_N_TX (R549). -/
def wakeMember (s : State) (n : Nat) : State :=
  if s.plySelf + 1 = n then { s with ply := { s.ply with wakes := s.ply.wakes + 1 } } else s

/-- CTRL byte 0 = 4: a worker enters HIBERNATE (R549). -/
def memberSleeps (s : State) (src : Nat) : State := if s.isManager then s.setBit Pg.ply Ply.PLY_ASLEEP_ASLEEP (src % 32) true (src / 32) else s

/-- BOOT_REPORT (R552). -/
def bootReported (s : State) (src : Nat) (payload : List Byte) : State :=
  if s.isManager then
    ((s.set Pg.ply Ply.PLY_BOOT_STATUS_STATUS (leNat (payload.take 4)) src).set Pg.ply Ply.PLY_BOOT_FAIL_FAIL (leNat ((payload.drop 4).take 4)) src).setInt
      Pg.ply Ply.INT_BOOT_REPORT
  else s

/-! ## The page's own rules at a bus access -/

/-- Codes of dropped writes: `NOT_MANAGER`, `MGMT_BUSY`, and a reserved `OP`. -/
def plyGuard (s : State) (off w : Nat) : Option Nat :=
  if off = 0x170 ∨ off = 0x17C ∨ off = 0x180 then
    if s.isManager = false then some 0x8
    else if off = 0x170 ∧ bit w 31 = true ∧ s.mgmtBusy = true then some 0x9
    else if off = 0x180 ∧ (bits w 7 0 = 0 ∨ 3 < bits w 7 0) then some Err.reservedEncoding
    else none
  else none

/-- What a write of the Ply page does: `CTL`, `PLY_MGMT_CTL`, `PLY_CTRL`. -/
def plyWritten (s : State) (off w : Nat) : State :=
  if off = 0x010 then (if bit w 0 then s.plyRestarts else s)
  else if off = 0x170 then (if bit w 31 then s.mgmtStarts else s)
  else if off = 0x180 then
    let f : List Byte := leBytes 1 (bits w 7 0) ++ leBytes 1 (bits w 15 8)
    if bits w 7 0 = 3 ∧ s.plySelf + 1 = bits w 15 8 then s.wakeMember (bits w 15 8) else s.plyFrom 0x60 (bits w 21 16) f
  else s

end State
end Sys2Proof.Machine
end

