-- ==== Sys2Proof/Machine/Flags.lean ====
section
/-! DEFINITION. What a register shows when it is read: fields that follow a condition, a queue or a counter and that the register
store does not hold. Every other field shows what it holds. -/

namespace Sys2Proof.Machine

open Reg

namespace State

/-! ## Interrupts (R54) -/

/-- A word of `INT_PENDING` of a die: bit b for page 32w + b of its window. A page that is off shows no request (DESIGN CHOICE: the manual
does not say whether an isolated page's request is still seen; log entry 97). -/
def intPending (s : State) (d w : Nat) : Nat :=
  (List.range 32).foldl (fun m b =>
    let q := 32 * w + b
    let p := Pg.dieBase d + q
    if pageDie p = d && (pageKind p).isSome && s.pageOn p && s.requests p then m + 2 ^ b else m) 0

/-- Whether a page of a die requests an interrupt from the bits of a mask of `INT_STATUS`. -/
def dieRequests (s : State) (d mask : Nat) : Bool :=
  (List.range (if d = 0 then 0x1000 else if d ≤ 4 then 0x800 else 0x400)).any (fun q =>
    let p := Pg.dieBase d + q
    (pageKind p).isSome && s.pageOn p && s.intStatus p &&& s.intEnable p &&& mask ≠ 0)

/-- Whether MSI-X vector `v` carries a request: vector 2d those of die d from bits [1:0], vector 2d + 1 those from `BLOCK`; vectors 14 to
63 are never signalled (R55). -/
def vectorRequests (s : State) (v : Nat) : Bool := v < 14 && s.dieRequests (v / 2) (if v % 2 = 0 then 3 else 0xFFFF0000)

/-! ## The header (R45, R46) -/

/-- `CAPS.EXPERT_DIFF`: the store holds no field at its reset value (R46). -/
def expertDiff (s : State) (page : Nat) : Nat :=
  (List.range 16).foldl (fun m g =>
    if s.regs.any (fun e => e.1 / 32768 = page && (e.1 / 8 % 4096 - 0x800) / 0x80 = g && 0x800 ≤ e.1 / 8 % 4096) then m + 2 ^ g else m) 0

/-- `CAPS.FEATURES`, where a chapter gives it. -/
def featuresOf (page : Nat) : Nat :=
  match pageKind page with
  | some .eng0 => 1
  | some .eng1 | some .eng2 | some .eng3 | some .sctl => 0
  | some .time => (Config.features page).toNat / 2 * 2 + 1
  | _ => (Config.features page).toNat

def headerView (s : State) (page : Nat) (f : RegField) : Option Nat :=
  if f = Hdr.ID_TYPE then some (pageType page)
  else if f = Hdr.ID_INSTANCE then some (if pageKind page = some .dieSide then 0 else pageInstance page)
  else if f = Hdr.VERSION_MAJOR then some ((Config.version page).toNat / 256)
  else if f = Hdr.VERSION_MINOR then some ((Config.version page).toNat % 256)
  else if f = Hdr.CAPS_FEATURES then some (featuresOf page)
  else if f = Hdr.CAPS_EXPERT_DIFF then some (s.expertDiff page)
  else none

/-! ## Hub pages -/

def hubGlobalView (s : State) (f : RegField) (i : Nat) : Option Nat :=
  if f = HubGlobal.HUB_DEVICE_ID_TEMP then some Config.fuseTemp.toNat
  else if f = HubGlobal.HUB_DEVICE_ID_SPEED then some Config.fuseSpeed.toNat
  else if f = HubGlobal.INT_PENDING_PEND then some (s.intPending 0 i)
  else none

/-- `SAF_PINS` reads the pin levels as this device drives them (R560, R561). -/
def safetyView (s : State) (f : RegField) : Option Nat :=
  if f = Safety.SAF_PINS_WARN_N then some (b2n (!s.warnN))
  else if f = Safety.SAF_PINS_ERR_N then some (b2n (!s.errN))
  else if f = Safety.SAF_WARN_FORCED ∨ f = Safety.SAF_WARN_TEMP_HIGH then some (b2n (s.warnBit f))
  else none

def supplyView (s : State) (f : RegField) : Option Nat :=
  if f = Supply.PWR_VAON_WARN then some (b2n s.power.vaonWarn)
  else if f = Supply.PWR_RAIL_WARN_WARN then some s.power.railWarn
  else none

def recorderView (s : State) (f : RegField) : Option Nat :=
  let b := s.bucket (s.get Pg.recorder Recorder.EVT_CLASS_SEL_CLASS)
  if f = Recorder.EVT_STAGE_LEVEL then some s.stageLevel
  else if f = Recorder.EVT_CLASS_STAT_TOTAL then some b.total
  else if f = Recorder.EVT_CLASS_STAT_TOKENS then some (min b.tokens (s.get Pg.recorder Recorder.EVT_RATE_BURST))
  else if f = Recorder.EVT_CLASS_STAT_PENDING then some b.pending
  else none

def configView (s : State) (f : RegField) : Option Nat :=
  if f = Cfg.STATUS_BUSY then some (b2n s.loadBusy)
  else if f = Cfg.STATUS_PHASE then some s.bootPhase
  else none

/-- The Hallmark fuses (R434). -/
def hallmarkView (f : RegField) (i : Nat) : Option Nat :=
  if f = Hallmark.HM_ID_LO_ID then some (Config.hallmarkId.toNat % 2 ^ 32)
  else if f = Hallmark.HM_ID_HI_ID then some (Config.hallmarkId.toNat / 2 ^ 32)
  else if f = Hallmark.HM_OKH_PROGRAMMED then some (b2n Config.hallmarkOkh)
  else if f = Hallmark.HM_PUB_PUB then some (Config.hallmarkPub.toNat / 2 ^ (32 * i) % 2 ^ 32)
  else none

def monitorView (s : State) (f : RegField) : Option Nat :=
  if f = Monitor.DBG_STATUS_LAB then some (b2n Config.fuseLab)
  else if f = Monitor.DBG_LOCKOUT_SECONDS then some s.lockout
  else if f = Monitor.DBG_DM_STAT_TAGS then some (s.inFlight debugEp).length
  else none

/-! ## Routers (R295, R305, R308, R319) -/

/-- `SKR_PORT.PSTATE`: CLOSED in BYPASS, while the applied enable is 0, and at a closed gateway (R316). -/
def pstate (s : State) (page p : Nat) : Nat :=
  let d := pageDie page
  let x := routerX d (routerIndex page)
  let y := routerY d (routerIndex page)
  let shut := match gatewayAt d x y p with
    | some (dd, g) => !(s.gwOpen dd g)
    | none => false
  if s.bypass d x y || SMap.read false s.skein.off (epOf d x y p) || shut then 3 else s.get page Router.SKR_PORT_PSTATE p

/-- `SKR_NET.GW_OPEN`. -/
def gwOpenMask (s : State) (d : Nat) : Nat :=
  if d = 0 then [1, 2, 3, 4, 5, 6].foldl (fun m e => if s.anyGwOpen e then m + 2 ^ (e - 1) else m) 0
  else (List.range (gwCount d)).foldl (fun m g => if s.gwOpen d g then m + 2 ^ g else m) 0

def routerView (s : State) (page : Nat) (f : RegField) (i : Nat) : Option Nat :=
  let d := pageDie page
  let x := routerX d (routerIndex page)
  let y := routerY d (routerIndex page)
  let e := s.skEnd (epOf d x y i)
  let gw := (gatewayAt d x y 3).map (fun g => gwModule d g.2)
  if f = Router.STATUS_PRESENT then some (routerPresent d x y)
  else if f = Router.SKR_NET_SAT_HELD then some (b2n (SMap.read false s.skein.taken d && (SMap.read none s.skein.granted d).isNone))
  else if f = Router.SKR_NET_GW_OPEN then some (s.gwOpenMask d)
  else if f = Router.SKR_PORT_ETYPE then some (endpointType d x y i)
  else if f = Router.SKR_PORT_PSTATE then some (s.pstate page i)
  else if f = Router.SKR_EP_STAT_TAGS then some (s.inFlight (epOf d x y i)).length
  else if f = Router.SKR_EP_STAT_P3_BUSY then some (b2n ((s.inFlight (epOf d x y i)).any (fun r => r.prio = 3)))
  else if f = Router.SKR_EP_STAT_SWAP_FULL then some (b2n e.swap.isSome)
  else if f = Router.SKR_EP_STAT_URG_LEVEL then some e.urgQ.length
  else match gw with
    | some m =>
      if f = Router.SKR_GW_OPEN then some (b2n (s.skeinOpen d m))
      else if f = Router.SKR_GW_HALF then some (b2n ((s.physOf d m).any (fun p => s.modState d p = 3)))
      else if f = Router.SKR_GW_REPLAY then some (s.linkDir d m (gwDir d)).buffer.length
      else none
    | none => none

/-! ## Die pages -/

/-- The die-side port page reads what the hub-side page holds, its maps apart (R138). -/
def dieSideView (s : State) (page : Nat) (f : RegField) (i : Nat) : Option Nat :=
  if (0x200 ≤ f.off ∧ f.off < 0x600) ∨ f.off = 0x800 ∨ (f.off < 0x100 ∧ f.off ≠ 0x010 ∧ f.off ≠ 0x014) then none
  else some (s.get (Pg.port (pageDie page)) f i)

def xportView (s : State) (page : Nat) (f : RegField) (i : Nat) : Option Nat :=
  if f = Xport.SFIFO_STATUS_RX_LEVEL then some (s.side (pageDie page) i).rx.length
  else if f = Xport.SFIFO_STATUS_TX_LEVEL then some (s.side (pageDie page) i).tx.length
  else if f = Xport.SFIFO_STATUS_READY then some (b2n (s.sideReady (pageDie page) i))
  else none

/-- A sector control page: while Fk_LOGIC is off its memory and slice status read their reset values (R97, R191, R250). -/
def sctlView (s : State) (page : Nat) (f : RegField) (i : Nat) : Option Nat :=
  let d := pageDie page
  let sec := pageInDie page - 0x200
  let on := s.domOn (16 * d + 1)
  let slices := fun (p : Nat → Bool) => (List.range 32).foldl (fun m j => if p j then m + 2 ^ j else m) 0
  if f = Sctl.STATUS_GSR_ACTIVE then some (b2n (s.gsrActive d sec))
  else if f = Sctl.STATUS_CONFIGURED ∨ f = Sctl.STATUS_TRACK_RUN then (if on then none else some 0)
  else if f = Sctl.SCTL_TRACK_RUNNING then some (b2n (on && bit (s.get page Sctl.STATUS_TRACK_RUN) i))
  else if f = Sctl.SCTL_CAP_DATA_DATA then some (s.capData page)
  else if 0x500 ≤ f.off ∧ f.off < 0x700 ∧ on = false then some (f.reset page i)
  else if f = Sctl.SCTL_QSTAT_EMPTY then some (b2n (s.qMode d sec i ≠ 0 && s.qEmpty d sec i))
  else if f = Sctl.SCTL_QSTAT_FULL then some (b2n (s.qMode d sec i ≠ 0 && s.qFull d sec i))
  else if f = Sctl.SCTL_QSTAT_LEVEL then some (if s.qMode d sec i = 0 then 0 else (s.queue d sec i).rLevel)
  else if f = Sctl.SCTL_DPB_BUSY_COMPAT_OFF then
    some (b2n (s.dpbCompat d sec i && s.dpbTrack d sec i 0 ≠ s.dpbTrack d sec i 1))
  else if f = Sctl.SCTL_DSP_OV_OV then some (slices (fun j => s.dspOpen d sec j && (s.dspSlice d sec j).two.acc.ov))
  else if f = Sctl.SCTL_DSP_ACTIVE_USE then some (slices (fun j => s.dspRec d sec j 24 24 = 1))
  else none

/-- An integrity page: while Fk_LOGIC is off its block fields read their reset values (R225). -/
def miView (s : State) (page : Nat) (f : RegField) (i : Nat) : Option Nat :=
  if 0x200 ≤ f.off ∧ f.off < 0x300 ∧ s.domOn (16 * pageDie page + 1) = false then some (f.reset page i) else none

/-- The engine of an engine page. -/
def engOf (page : Nat) : Nat := 16 * (pageDie page - 1) + (pageInDie page - 0x80) / 4

/-- Page 3 of an engine: the virtual terminal (R281). -/
def eng3View (s : State) (page : Nat) (f : RegField) : Option Nat :=
  let x := s.engine (s.shownEngine (engOf page))
  if f = Eng3.VT_OUT_DATA_DATA then some (leNat (x.vtOut.take 4))
  else if f = Eng3.VT_OUT_LEVEL_LEVEL then some x.vtOut.length
  else if f = Eng3.VT_IN_LEVEL_LEVEL then some x.vtIn.length
  else if f = Eng3.VT_RX_BYTE then some (s.vtGet (s.shownEngine (engOf page)) true).1
  else none

/-- What a checker's page `k` shows of the registers it holds as 2j's does (R285). -/
def pairView (s : State) (page k : Nat) (f : RegField) (i : Nat) : Option Nat :=
  let e := engOf page
  if s.isChecker e = true ∧ pairFields.elem (k, f) = true then some (s.get (Pg.eng (e - 1) k) f i) else none

/-- A DDR page: while DDRc is off `STATUS.STATE` reads OFF (R354). -/
def ddrView (s : State) (page : Nat) (f : RegField) : Option Nat :=
  if f = Ddr.STATUS_STATE ∧ s.domOn (ddrDom (pageInstance page)) = false then some 0 else none

/-- A crypto engine's page: the requests it holds, and the metadata lines of a region (R389, R399). -/
def cryptoView (s : State) (page : Nat) (f : RegField) (i : Nat) : Option Nat :=
  if f = Crypto.REG_META_LINES_LINES then some (s.regMetaLines (pageInstance page) i)
  else if f = Crypto.STATUS_INFLIGHT then some (s.heldRequests (cryptoEp (pageInstance page))).length
  else none

/-! ## All pages -/

/-- What element `i` of a field shows. -/
def view (s : State) (page : Nat) (f : RegField) (i : Nat) : Nat :=
  let own := match pageKind page with
    | some .hubGlobal => s.hubGlobalView f i
    | some .dieCtl => if f = DieCtl.INT_PENDING_PEND then some (s.intPending (pageDie page) i) else none
    | some .safety => s.safetyView f
    | some .powerDom => if f = PowerDom.DOM_STATE_WANTED then some (b2n (s.wanted i)) else none
    | some .supply => s.supplyView f
    | some .clock => if f = Clock.CLK_SYNCE_SQUELCHED then some (b2n (s.squelched i)) else none
    | some .recorder => s.recorderView f
    | some .config => s.configView f
    | some .hallmark => hallmarkView f i
    | some .monitor => s.monitorView f
    | some .router => s.routerView page f i
    | some .dieSide => s.dieSideView page f i
    | some .xport => s.xportView page f i
    | some .sctl => s.sctlView page f i
    | some .mi => s.miView page f i
    | some .eng0 => if f = Eng0.STATUS_PHYS then some (s.engPhys (engOf page)) else s.pairView page 0 f i
    | some .eng1 => if f = Eng1.ICTL_PENDING_PEND then some (s.pendingSources (s.shownEngine (engOf page))) else s.pairView page 1 f i
    | some .eng2 => s.pairView page 2 f i
    | some .eng3 => (s.eng3View page f).orElse (fun _ => s.pairView page 3 f i)
    | some .lane => s.laneView page f
    | some .ddr => s.ddrView page f
    | some .crypto => s.cryptoView page f i
    | _ => none
  match s.headerView page f with
  | some v => v
  | none => own.getD (s.get page f i)

/-- The word a read of an offset shows: its fields that are not write only; every other bit reads 0 (R14, R16, R57). -/
def wordAt (s : State) (page off : Nat) : Word :=
  BitVec.ofNat 32 (((fieldsAt page off).filter (fun fi => fi.1.ty ≠ .wo)).foldl (fun w fi => w + s.view page fi.1 fi.2 % 2 ^ fi.1.width * 2 ^ fi.1.lo) 0)

end State
end Sys2Proof.Machine
end

