-- ==== Sys2Proof/Machine/Operands.lean ====
section
/-! DEFINITION. What decides whether a written word takes effect: the access rules of the common header (R42, R47 to R51, R60), the
locks that the chapters put on single registers, and the reserved encodings of fields (R16). -/

namespace Sys2Proof.Machine

open Reg

namespace State

/-! ## Who may write -/

/-- An OBSERVE session only reads (R60). -/
def observes (s : State) (o : Origin) : Bool := o = .debug && s.sessionLevel < 2

/-- Whether an origin may unlock an expert area (R49). -/
def mayUnlock (s : State) (o : Origin) : Bool := o = .pcie || o = .i2c || (o = .debug && s.sessionLevel = 3)

def expertState (s : State) (page : Nat) : Nat := s.get page Hdr.EXPERT_KEY_STATE

/-- The origin that moved `STATE` out of LOCKED (R48). -/
def expertHolder (s : State) (page : Nat) : Option Origin := SMap.read none s.hub.expertOrigin page

/-- `STATE` and its holder change. -/
def setExpert (s : State) (page v : Nat) (o : Option Origin) : State :=
  { s.set page Hdr.EXPERT_KEY_STATE v with hub := { s.hub with expertOrigin := SMap.write none s.hub.expertOrigin page o } }

/-- The outcome of a write of `EXPERT_KEY`, by the table of R51. -/
def keyWritten (s : State) (page : Nat) (o : Origin) (w : Nat) : State :=
  let same := s.expertHolder page = some o
  if s.expertState page = 0 then
    (if w = 0x4B530001 then
      (if s.mayUnlock o then s.setExpert page 1 (some o) else s.capture page Err.level o 0x0F0)
     else if w = 0 then s else s.capture page Err.unlockSequence o 0x0F0)
  else if s.expertState page = 1 then
    (if w = 0x4B530002 ∧ same then s.setExpert page 2 (some o)
     else if w = 0 ∧ same then s.setExpert page 0 none
     else (s.setExpert page 0 none).capture page Err.unlockSequence o 0x0F0)
  else
    (if same = false then s.capture page Err.expertLocked o 0x0F0
     else if w = 0 then s.setExpert page 0 none else s.capture page Err.unlockSequence o 0x0F0)

/-- Whether a write of the expert area takes effect: unlocked, by the origin that unlocked it; the configuration controller needs no
unlock (R48, R432). -/
def expertOpen (s : State) (page : Nat) (o : Origin) : Bool :=
  o = .config || (s.expertState page = 2 && s.expertHolder page = some o)

/-! ## Locks of single registers -/

def monitorGuard (s : State) (o : Origin) (off w : Nat) : Option Nat :=
  if off = 0x100 ∨ (0x200 ≤ off ∧ off < 0x600) then (if s.mbAdmits o then none else some Err.level)
  else if off = 0x114 then
    (if o = .pcie ∨ o = .i2c ∨ (o = .debug ∧ s.sessionLevel = 3) then
      (if w < s.get Pg.monitor Monitor.DBG_CERT_FLOOR_FLOOR then some 0x9 else none)
     else some Err.level)
  else none

def sctlGuard (s : State) (page : Nat) (o : Origin) (off w : Nat) : Option Nat :=
  if 0x100 ≤ off ∧ off < 0x140 then (if s.trackWriteRefused page ((off - 0x100) / 4) w then some 0x9 else none)
  else if 0x400 ≤ off ∧ off ≤ 0x427 then (if s.runControlOrigin o then none else some Err.level)
  else none

/-- The locks of an engine's pages: those of a checker, run control, `LOCKSTEP`, `ENG_CLK` and the test port (R226, R284, R285,
R290, R499). -/
def engGuard (s : State) (page : Nat) (o : Origin) (off w : Nat) : Option Nat :=
  let e := engOf page
  let k := pageKind page
  if k = some .eng0 then
    (if 0x400 ≤ off ∧ off ≤ 0x447 ∧ s.runControlOrigin o = false then some Err.level
     else if off = 0x400 then s.engDbgGuard e w
     else if off = 0x010 ∧ e % 2 = 0 ∧ s.lockstepAllowed e (b2n (bit w 8)) = false then some 0xA
     else if off = 0x110 ∧ s.engState e ≠ 1 then some 0xA
     else none)
  else if k = some .eng3 ∧ off = 0x80C ∧ s.flag page Eng3.MI_TEST_STAT_BUSY = true then some 0x8
  else none

/-- Whether a write of a page meets a checker, whose only register that can be written is `CTL.SUBST` (R285, R291). -/
def checkerDrops (s : State) (page off w : Nat) : Bool :=
  match pageKind page with
  | some .eng0 => s.isChecker (engOf page) && !(off = 0x010 && bit w 9)
  | some .eng1 | some .eng2 | some .eng3 => s.isChecker (engOf page)
  | _ => false

/-- The code with which a page drops a write of one of its registers. -/
def pageGuard (s : State) (page : Nat) (o : Origin) (off w : Nat) : Option Nat :=
  match pageKind page with
  | some .hubGlobal => if off = 0x11C then s.confirmGuard else none
  | some .powerCtl =>
    if off = 0x100 then s.voteGuard o w
    else if off = 0x104 then (if votable (bits w 6 0) then none else some 0x9)
    else if off = 0x108 then s.hibGuard w else none
  | some .clock => if off = 0x140 ∨ off = 0x144 then s.lrefGuard ((off - 0x140) / 4) w else none
  | some .reset => if off = 0x100 then s.resetGuard w else none
  | some .recorder => if off = 0x120 then s.swGuard w else none
  | some .config => s.configGuard off w
  | some .monitor => s.monitorGuard o off w
  | some .ply => s.plyGuard off w
  | some .router => if off = 0x010 ∧ bit w 0 = true ∧ s.flag page Router.STATUS_BYPASS = true then some 0x8 else none
  | some .port =>
    if off = 0x010 ∧ bits w 5 4 ≠ s.get page Port.CTL_SPLIT ∧ s.portState (portOf page) ≠ 0 then some 0x9 else none
  | some .xbar => if 0x100 ≤ off ∧ s.xbarLocked page = true then some 0x8 else none
  | some .sctl => s.sctlGuard page o off w
  | some .mi => if off = 0x80C ∧ s.flag page Mi.MI_TEST_STAT_BUSY = true then some 0x8 else none
  | some .eng0 | some .eng1 | some .eng2 | some .eng3 => s.engGuard page o off w
  | some .lane => s.laneGuard page off w
  | some .opll => s.opllGuard page off
  | some .ddr => s.ddrGuard (pageInstance page) off w
  | some .crypto => s.cryptoGuard (pageInstance page) off w
  | _ => none

/-- Whether a value is a reserved encoding of a field of a page (R16); `SPLIT` of a fabric die has two, of a lane die three (R139). -/
def reservedIn (page : Nat) (f : RegField) (v : Nat) : Bool :=
  f.reserved v || (pageKind page = some .port && f = Port.CTL_SPLIT && (if portOf page ≤ 4 then 2 ≤ v else v = 3))

/-- Whether a written word makes a reserved encoding of two fields together: `RESP_LEN` with `LEN` + 4 × `FCS_GEN` > 64. -/
def reservedPair (page : Nat) (f : RegField) (w : Nat) : Bool :=
  pageKind page = some .adapter && (f = Adapter.RESP_LEN_LEN || f = Adapter.RESP_LEN_FCS_GEN) && decide (64 < bits w 6 0 + 4 * b2n (bit w 8))

end State
end Sys2Proof.Machine
end

