-- ==== Sys2Proof/Machine/Bus.lean ====
section
/-! DEFINITION. Register accesses (spec/02_register_conventions.md R37 to R62): reading and writing one word of the management
aperture, and what the pages do then. -/

namespace Sys2Proof.Machine

open Reg

/-- What a word access answers: data of a read, whether the page was off (R61), whether an expert or level rule dropped it (R64),
whether a PCIe access of it ends as Unsupported Request (R41, R61). -/
structure BusOut where
  st : State
  data : Word := 0
  off : Bool := false
  denied : Bool := false
  ur : Bool := false

namespace State

def pageAt (addr : Nat) : Nat := addr / 4096
def offAt (addr : Nat) : Nat := addr % 4096 / 4 * 4

/-- Whether `STRICT` makes an access that `HUB_ACCESS_FAULT` records an Unsupported Request (R41, R61). -/
def strictUr (s : State) (o : Origin) : Bool := o = .pcie && s.flag Pg.hubGlobal HubGlobal.HUB_ACCESS_CTL_STRICT

/-- Whether an origin's path to the aperture is up: the hub, and the interface's domain (R474). -/
def pathUp (s : State) (o : Origin) : Bool :=
  s.domOn 0x01 && (match o with
    | .pcie | .i2c => s.domOn 0x02
    | .ply => s.domOn 0x03
    | _ => true)

/-- Whether an offset of a populated page is assigned; `CTL` and `STATUS` are so in every page (R44, R57). -/
def assigned (page off : Nat) : Bool := off = 0x010 || off = 0x014 || !(fieldsAt page off).isEmpty

/-- An access that meets no running page: recorded, dropped or answered with the fixed word (R41, R61). -/
def offAccess (s : State) (o : Origin) (page : Nat) (write unpopulated : Bool) : BusOut :=
  { st := s.accessFault o page write unpopulated, data := if unpopulated then 0 else 0xD0FFD0FF
    off := !unpopulated, ur := s.strictUr o }

/-! ## Reads -/

/-- Registers that run between commands are brought up to the read: how far is free within their range. -/
def settle (s : State) (page off : Nat) : State :=
  match pageKind page with
  | some .supply =>
    if off = 0x104 then (s.set page Supply.PWR_VAON_MV s.freeVal).took
    else if off = 0x108 then (s.set page Supply.PWR_REG_STAT_LOAD_MA s.freeVal).took else s
  | some .clock => if off = 0x110 then s.spanCountRead else s
  | some .time =>
    if off = 0x100 then s.timeRead
    else if off = 0x118 then (s.set page Time.TIME_SUBSEC_US (s.freeVal % 1000000)).took else s
  | some .thermal => if off = 0x128 then s.lifeRead else s
  | some .eng1 =>
    let e := s.shownEngine (engOf page)
    if off = 0x204 ∨ off = 0x224 then s.timerSettle e ((off - 0x204) / 0x20) else if off = 0x308 then s.wdtSettle e else s
  | some .lane => s.laneSettle page off
  | _ => s

/-- What a read without PEEK pops or clears (R14, R56). -/
def popped (s : State) (page off : Nat) : State :=
  match pageKind page with
  | some .dieSide => if off = 0x034 then s.set page Hdr.ERR_COUNT_COUNT 0 else s
  | some .lane =>
    if off = 0x12C ∨ off = 0x174 then s.lanePop page off
    else forEach (fieldsAt page off) (fun fi t => if fi.1.ty = .pk then t.set page fi.1 0 fi.2 else t) s
  | some .eng3 =>
    if s.isChecker (engOf page) = true ∧ (off = 0x118 ∨ off = 0x184) then s
    else if off = 0x184 then (s.vtGet (engOf page) false).2
    else forEach (fieldsAt page off) (fun fi t => if fi.1.ty = .pk then t.set page fi.1 0 fi.2 else t) s
  | some .recorder =>
    if off = 0x11C then
      let c := s.get page Recorder.EVT_CLASS_SEL_CLASS
      s.setBucket c { s.bucket c with total := 0 }
    else forEach (fieldsAt page off) (fun fi t => if fi.1.ty = .pk then t.set page fi.1 0 fi.2 else t) s
  | _ => forEach (fieldsAt page off) (fun fi t => if fi.1.ty = .pk then t.set page fi.1 0 fi.2 else t) s

/-- Read one word (R41, R57, R58, R61, R597). -/
def busRead (s : State) (o : Origin) (addr : Nat) (peek : Bool) : BusOut :=
  let page := pageAt addr
  let off := offAt addr
  match pageWindow page with
  | some w => if s.pageOn page then { st := s, data := s.windowWord w (addr % 262144 / 4 * 4 - (if w = .ledger then 0x8000 else 0)) }
      else s.offAccess o page false false
  | none =>
    if (pageKind page).isNone then s.offAccess o page false true
    else if s.pageOn page = false then s.offAccess o page false false
    else if assigned page off = false then { st := s.capture page Err.unmapped o off }
    else if pageKind page = some .eng0 ∧ off = 0x444 then
      let r := s.regDataRead (engOf page) o
      { st := r.2, data := BitVec.ofNat 32 r.1 }
    else
      let t := s.settle page off
      { st := if peek then t else t.popped page off, data := t.wordAt page off }

/-! ## Writes -/

/-- Whether a field keeps what it holds at a write although its type would store it: `CTL` of a die-side port page, `LOCKSTEP` of
an odd engine, the data port of run control, and what is RO at times: `LANE_RATE.MOD` of an L lane, and `LANE_TXEQ.TAPS` while
`LT_EN` = 1. -/
def unstored (s : State) (page : Nat) (f : RegField) : Bool :=
  match pageKind page with
  | some .lane => (f = Lane.LANE_RATE_MOD && laneIsL page) || (f = Lane.LANE_TXEQ_TAPS && s.flag page Lane.LANE_LT_LT_EN)
  | some .dieSide => f.off = 0x010
  | some .eng0 => (f = Eng0.CTL_LOCKSTEP && engOf page % 2 = 1) || f = Eng0.ENG_DBG_REGDATA_DATA
  | _ => false

/-- Clear the bits of a W1C field, and what goes with them: `ERR_CAPTURE.VALID` (R56), `HUB_ACCESS_FAULT.OVERFLOW`. -/
def clearField (s : State) (page : Nat) (f : RegField) (i v : Nat) : State :=
  let t := s.clearBits page f v i
  if f = Hdr.INT_STATUS_ERR_CAPTURED ∧ v = 1 then t.set page Hdr.ERR_CAPTURE_VALID 0
  else if page = Pg.hubGlobal ∧ f = HubGlobal.HUB_ACCESS_FAULT_VALID ∧ v = 1 then t.set page HubGlobal.HUB_ACCESS_FAULT_OVERFLOW 0
  else t

/-- `INT_FORCE` sets bits of `INT_STATUS`. -/
def forceField (s : State) (page : Nat) (f : RegField) (v : Nat) : State :=
  if f = Hdr.INT_FORCE_BLOCK then s.setBits page Hdr.INT_STATUS_BLOCK v
  else if f = Hdr.INT_FORCE_ERR_LOST then s.setBits page Hdr.INT_STATUS_ERR_LOST v
  else if f = Hdr.INT_FORCE_ERR_CAPTURED then s.setBits page Hdr.INT_STATUS_ERR_CAPTURED v
  else s

/-- Store a written word's part of one field by its type (R14, R16). A reserved encoding of `RESP_LEN.LEN` with `FCS_GEN` leaves both as
they were, with one capture (log entry 97). -/
def storeField (page : Nat) (o : Origin) (off w : Nat) (fi : RegField × Nat) (s : State) : State :=
  let f := fi.1
  let v := bits w f.hi f.lo
  match f.ty with
  | .ro | .pk => s
  | .w1c => s.clearField page f fi.2 v
  | .wo => if reservedIn page f v then s.capture page Err.reservedEncoding o off else s.forceField page f v
  | .rw | .rwx =>
    if s.unstored page f then s
    else if reservedPair page f w then (if f = Adapter.RESP_LEN_LEN then s.capture page Err.reservedEncoding o off else s)
    else if reservedIn page f v then s.capture page Err.reservedEncoding o off
    else if f = Eng1.WDT_CTL_EN ∧ pageKind page = some .eng1 then s.setBits page f v fi.2
    else s.set page f v fi.2

/-- `CTL` of an engine (R283, R284, R288, R289): `RESET` first, then `HALT`, `RUN` and `SUBST`. -/
def engCtlWritten (s old : State) (e : Nat) (o : Origin) (w : Nat) : State :=
  let p := Pg.eng e 0
  let w := if s.isChecker e then w &&& 0x200 else w
  let t := if bit w 2 then s.engReset e else s
  let t := if bit w 1 then t.haltRequest e 1 else t
  let t := if bit w 0 then (if t.engState e = 1 then (t.setPassed e true).engRun e else t) else t
  let t := if bit w 9 then t.substitute e o false else t
  if e % 2 = 0 ∧ old.flag p Eng0.CTL_LOCKSTEP = true ∧ s.flag p Eng0.CTL_LOCKSTEP = false then t.lockstepEnd e else t

def eng0Written (s old : State) (e : Nat) (o : Origin) (off w : Nat) : State :=
  if off = 0x010 then s.engCtlWritten old e o w
  else if off = 0x400 then s.engDbgWritten e o w
  else if off = 0x444 then s.regDataWrite e o (BitVec.ofNat 32 w)
  else s

def eng1Written (s : State) (e off w : Nat) : State :=
  if off = 0x184 then s.setBits (Pg.eng e 1) Eng1.ICTL_DOORBELL_BELL (bits w 23 16)
  else if off = 0x30C then s.wdtKick e w
  else s

/-- `DMA_CTL.RESUME` (R279). -/
def eng2Written (s : State) (e off w : Nat) : State :=
  if off = 0x010 ∧ bit w 1 = true then s.set (Pg.eng e 2) Eng2.DMA_STATUS_STOPPED 0 else s

def eng3Written (s : State) (page e off w : Nat) : State :=
  if off = 0x108 then s.vtAck e (bits w 2 0)
  else if off = 0x10C then s.vtInput e (BitVec.ofNat 8 w)
  else if off = 0x180 then s.vtPut e (BitVec.ofNat 8 w)
  else if off = 0x80C ∧ (bits w 1 0 = 1 ∨ bits w 1 0 = 2) then s.testStart page (bits w 1 0 = 2)
  else s

def sctlWritten (s old : State) (page : Nat) (o : Origin) (off w : Nat) : State :=
  if off = 0x010 then
    (if bit w 0 = true ∧ old.flag page Sctl.CTL_GSR_FORCE = false then s.gsrSector (pageDie page) (pageInDie page - 0x200) else s)
  else if 0x100 ≤ off ∧ off < 0x140 then s.trackWritten old page ((off - 0x100) / 4)
  else if off = 0x400 then s.capWritten page o w
  else s

/-- `CTL` of a port: a changed split gives the modules their roles, `TRAIN` starts a new set of attempts (R121, R139). -/
def portWritten (s old : State) (page off w : Nat) : State :=
  if off ≠ 0x010 then s
  else
    let d := portOf page
    let t := if s.get page Port.CTL_SPLIT ≠ old.get page Port.CTL_SPLIT then s.setRoles d else s
    if bit w 0 then newlyHeld t (t.startTraining d) else t

/-- An entry of a crossbar page: one that is on and names a module that is no crossing module sets `XBAR_BAD` of its port (R137). -/
def xbarWritten (s : State) (page off : Nat) : State :=
  let g := (off - 0x100) / 4
  if 0x100 ≤ off ∧ off < 0x400 ∧ s.flag page Xbar.XBAR_ENTRY_EN g = true ∧
      (isPort (s.get page Xbar.XBAR_ENTRY_SRC_DIE g) = false ∨
        s.crossModules (s.get page Xbar.XBAR_ENTRY_SRC_DIE g) ≤ s.get page Xbar.XBAR_ENTRY_SRC_MOD g) then
    s.set (Pg.port ((page - 0x820) / 16 + 1)) Port.STATUS_XBAR_BAD 1
  else s

def powerCtlWritten (s : State) (off w : Nat) : State :=
  if off = 0x100 then s.voteWritten w
  else if off = 0x104 then s.dropWritten w
  else if off = 0x108 then s.hibWritten w
  else if 0x118 ≤ off ∧ off ≤ 0x120 then s.alarm
  else s

/-- What a write does beyond its fields; `old` is the state before they were stored. -/
def pageWritten (s old : State) (page : Nat) (o : Origin) (off w : Nat) : State :=
  match pageKind page with
  | some .hubGlobal => if off = 0x11C then s.confirmWritten w else s
  | some .safety =>
    if off = 0x800 ∧ bit w 1 = true ∧ old.flag page Safety.SAF_TEST_FORCE_WARN = false then s.setInt page Safety.INT_WARN else s
  | some .powerCtl => s.powerCtlWritten off w
  | some .powerDom => if 0x104 ≤ off ∧ off < 0x800 ∧ off % 16 = 4 then s.shedWritten ((off - 0x104) / 16) else s
  | some .supply =>
    if off = 0x800 ∧ bit w 0 = true ∧ old.flag page Supply.PWR_SUPPLY_TEST_FORCE_WARN = false then s.warningBegins true 0 else s
  | some .thermal => if off = 0x120 then s.thermCtlWritten else s
  | some .reset => if off = 0x100 then s.resetWritten w else s
  | some .recorder =>
    if off = 0x120 then s.swRecord o w else if off = 0x800 then s.set page Recorder.EVT_NEXT_SEQ_SEQ w else s
  | some .config => s.configWritten off w
  | some .monitor => if off = 0x100 ∧ bit w 0 = true then s.mbGo o else s
  | some .ply => s.plyWritten off w
  | some .router => if off = 0x010 ∧ bit w 0 = true then s.reconfStart page else s
  | some .port => s.portWritten old page off w
  | some .xbar => s.xbarWritten page off
  | some .xport =>
    if 0x200 ≤ off ∧ off < 0x240 ∧ bit w 1 = true then s.channelResync (pageDie page) ((off - 0x200) / 4) else s
  | some .sctl => s.sctlWritten old page o off w
  | some .mi => if off = 0x80C ∧ (bits w 1 0 = 1 ∨ bits w 1 0 = 2) then s.testStart page (bits w 1 0 = 2) else s
  | some .eng0 => s.eng0Written old (engOf page) o off w
  | some .eng1 => s.eng1Written (engOf page) off w
  | some .eng2 => s.eng2Written (engOf page) off w
  | some .eng3 => s.eng3Written page (engOf page) off w
  | some .lane => s.laneWritten old page off w
  | some .opll => s.opllPageWritten old page off
  | some .adapter => s.adapterWritten page off w
  | some .ddr =>
    let c := pageInstance page
    (if off = 0x010 ∧ bit w 0 = false ∧ s.ddrState c = 3 then s.cryptoSettles c else s).ddrWritten c off w
  | some .crypto => s.cryptoWritten old (pageInstance page) o off w
  | _ => s

/-- A checker's only register that can be written is `CTL.SUBST` (R285, R291). -/
def storedFields (s : State) (page off : Nat) : List (RegField × Nat) :=
  if pageKind page = some .eng0 ∧ s.isChecker (engOf page) = true then [] else fieldsAt page off

/-- What counts of its own is brought up to the moment before a write of the page that could stop or change it (R274 to R276). -/
def beforeWrite (s : State) (page off : Nat) : State :=
  if (pageKind page = some .eng1 ∧ 0x200 ≤ off ∧ off < 0x314) ∨ (pageKind page = some .eng0 ∧ off = 0x10C) then s.engSettle (engOf page) else s

/-- A whole word written to an assigned register by an origin that may: the page's lock, then its fields, then its effect. -/
def wordWritten (s : State) (page : Nat) (o : Origin) (off w : Nat) : BusOut :=
  match s.pageGuard page o off w with
  | some code => { st := s.capture page code o off, denied := code = Err.level }
  | none =>
    let u := s.beforeWrite page off
    let t := forEach (u.storedFields page off) (storeField page o off w) u
    { st := t.pageWritten u page o off w }

/-- A write that reaches a page. While it is ARMED, any write but a whole and permitted one of `EXPERT_KEY` first returns it to
LOCKED (R48). A write of `EXPERT_KEY` that is captured with EXPERT_LOCKED is no dropped expert access of R64 (DESIGN CHOICE: the manual
does not say whether DENIED shows it; log entry 97). -/
def pageWrite (s : State) (page : Nat) (o : Origin) (off w : Nat) (be : BitVec 4) : BusOut :=
  let key := off = 0x0F0 ∧ be = 0xF ∧ s.observes o = false
  let s := if s.expertState page = 1 ∧ ¬key then (s.setExpert page 0 none).capture page Err.unlockSequence o off else s
  if be ≠ 0xF then { st := s.capture page Err.width o off }
  else if s.observes o then { st := s.capture page Err.level o off, denied := true }
  else if s.checkerDrops page off w then { st := s.capture page 0x8 o off }
  else if off = 0x0F0 then { st := s.keyWritten page o w }
  else if assigned page off = false then { st := s.capture page Err.unmapped o off }
  else if 0x800 ≤ off ∧ s.expertOpen page o = false then { st := s.capture page Err.expertLocked o off, denied := true }
  else s.wordWritten page o off w

/-- Write one word (R41, R42, R57, R61, R597). -/
def busWrite (s : State) (o : Origin) (addr : Nat) (w : Word) (be : BitVec 4 := 0xF) : BusOut :=
  let page := pageAt addr
  match pageWindow page with
  | some x =>
    if s.pageOn page then { st := s.capture (if x = .ledger then Pg.safety else Pg.recorder) Err.unmapped o (offAt addr) }
    else s.offAccess o page true false
  | none =>
    if (pageKind page).isNone then s.offAccess o page true true
    else if s.pageOn page = false then s.offAccess o page true false
    else s.pageWrite page o (offAt addr) w.toNat be

/-- The attribute PEEK of a read: `ask` is what an I²C command or a debug session asks for. -/
def peekOf (s : State) (o : Origin) (ask : Bool) : Bool :=
  match o with
  | .pcie => s.flag Pg.hubGlobal HubGlobal.HUB_ACCESS_CTL_HOST_PEEK
  | .i2c => ask
  | .monitor => true
  | .debug => ask || s.sessionLevel ≠ 3
  | _ => false

/-- The page that records an error of an access. -/
def recorderOf (page : Nat) : Nat :=
  match pageWindow page with
  | some .ledger => Pg.safety
  | some .ring => Pg.recorder
  | none => page

/-- Whether a word access is faulted, dropped or captured: seen on the page's error count, from zero. -/
def accessFails (s : State) (addr : Nat) (run : State → BusOut) : Bool :=
  let p := recorderOf (pageAt addr)
  let r := run (s.set p Hdr.ERR_COUNT_COUNT 0)
  r.off || r.denied || r.st.get p Hdr.ERR_COUNT_COUNT ≠ 0

def wordWriteFails (s : State) (o : Origin) (addr : Nat) (w : Word) : Bool := s.accessFails addr (fun t => t.busWrite o addr w)
def wordReadFails (s : State) (o : Origin) (addr : Nat) : Bool := s.accessFails addr (fun t => t.busRead o addr (t.peekOf o false))

/-! ## Requests (R42, R59) -/

/-- Whether an access is one that a request can make: aligned, within the aperture. -/
def inAperture (addr n : Nat) : Bool := addr % 4 = 0 && addr + 4 * n ≤ 0x4000000

/-- Read `n` words in ascending order. -/
def readWords (s : State) (o : Origin) (addr : Nat) (peek : Bool) : Nat → List Word × Bool × State
  | 0 => ([], false, s)
  | n + 1 =>
    let r := s.busRead o addr peek
    let rest := r.st.readWords o (addr + 4) peek n
    (r.data :: rest.1, r.ur || rest.2.1, rest.2.2)

/-- Write words in ascending order. -/
def writeWords (s : State) (o : Origin) (addr : Nat) : List WriteWord → Bool × State
  | [] => (false, s)
  | x :: xs =>
    let r := s.busWrite o addr x.data x.be
    let rest := r.st.writeWords o (addr + 4) xs
    (r.ur || rest.1, rest.2)

/-- The byte enables of `n` words of which the first are given. -/
def byteEnables (n : Nat) (be : List (BitVec 4)) : List (BitVec 4) := (be ++ List.replicate n 0xF).take n

/-- A read request: BAR0 requests of more than two dwords are not performed; a word with partial byte enables is read whole, with the
whole word's side effects (R42). -/
def readRequest (s : State) (o : Origin) (addr n : Nat) (ask : Bool) (be : List (BitVec 4) := []) : State :=
  if s.pathUp o = false then s
  else if o = .pcie ∧ 2 < n then { s with hub := { s.hub with completion := .ur, readData := [], readEnables := [] } }
  else
    let r := s.readWords o addr (s.peekOf o ask) n
    { r.2.2 with hub := { r.2.2.hub with
      readData := if r.2.1 then [] else r.1, readEnables := if r.2.1 then [] else byteEnables n be
      completion := if r.2.1 then .ur else .sc } }

/-- The bytes a completed read returns: of each word its enabled bytes, lowest first (R42). -/
def readBytes (s : State) : List (Option Byte) :=
  (s.hub.readData.zip s.hub.readEnables).flatMap (fun x =>
    (List.range 4).map (fun i => if x.2.getLsbD i then some (x.1.extractLsb' (8 * i) 8) else none))

/-- A write request; one that ends as Unsupported Request is logged (R41, R42, R61). -/
def writeRequest (s : State) (o : Origin) (addr : Nat) (xs : List WriteWord) : State :=
  if s.pathUp o = false then s
  else if o = .pcie ∧ 2 < xs.length then { s with hub := { s.hub with urLogged := s.hub.urLogged + 1 } }
  else
    let r := s.writeWords o addr xs
    if r.1 then { r.2 with hub := { r.2.hub with urLogged := r.2.hub.urLogged + 1 } } else r.2

/-- One whole word written to a register by an origin: the form of every command that is a write of one register. -/
def writeReg (s : State) (o : Origin) (page off : Nat) (w : Word) : State := s.writeRequest o (page * 4096 + off) [{ data := w }]

/-- One word read. -/
def readReg (s : State) (o : Origin) (page off : Nat) (ask : Bool) : State := s.readRequest o (page * 4096 + off) 1 ask

end State
end Sys2Proof.Machine
end

