-- ==== Sys2Proof/Machine/BootCmds.lean ====
section
/-! DEFINITION. The meanings of the configuration controller's commands (spec/14_configuration_boot.md). -/

namespace Sys2Proof.Machine

open Reg

namespace State

/-! ## REGWRITE (R432) -/

/-- Whether a REGWRITE pair of a die's section may name an address. -/
def regwriteReaches (die addr : Nat) : Bool :=
  addr % 4 = 0 && addr < 0x4000000 &&
  ((1 ≤ die && pageDie (pageAt addr) = die) || (pageAt addr < 0x1000 && !(0x0400000 ≤ addr && addr ≤ 0x05FFFFF)))

/-- Whether a write is one of 1 to `CTL.EN` of a lane or a DDR controller: held until its die's release. -/
def holdsEnable (addr : Nat) (w : Word) : Bool :=
  offAt addr = 0x010 && (pageKind (pageAt addr) = some .lane || pageKind (pageAt addr) = some .ddr) && bit w.toNat 0

/-- The value a write of such a `CTL` stores now: `EN` as it stands. -/
def heldValue (s : State) (page : Nat) (w : Word) : Word :=
  if s.flag page (if pageKind page = some .lane then Lane.CTL_EN else Ddr.CTL_EN) then w else w &&& 0xFFFFFFFE#32

/-- One pair of a REGWRITE body, and whether it ends the load: an address out of reach is not accessed, and a write that a page drops or
captures leaves its capture with origin CONFIG (R432, R596). -/
def regwritePair (s : State) (addr : Nat) (w : Word) : State × Bool :=
  let page := pageAt addr
  if regwriteReaches s.sectionDie addr = false then (s, true)
  else
    let hold := holdsEnable addr w
    let v := if hold then s.heldValue page w else w
    let t := (s.busWrite .config addr v).st
    let mine : Bool := offAt addr = 0x010 && (pageKind page = some .lane || pageKind page = some .ddr)
    if s.wordWriteFails .config addr v then (t, true)
    else
      (if mine then
        { t with boot := { t.boot with heldEn := t.boot.heldEn.filter (· ≠ page) ++ (if hold then [page] else []) } } else t, false)

/-- The pairs of a body in order; the entry at which one fails. -/
def regwritePairs (s : State) (k : Nat) : List (Word × Word) → State × Option Nat
  | [] => (s, none)
  | (a, w) :: rest =>
    match s.regwritePair a.toNat w with
    | (t, false) => t.regwritePairs (k + 1) rest
    | (t, true) => (t, some k)

/-- A REGWRITE body. -/
def regwriteRead (s : State) (pairs : List (Word × Word)) : State :=
  s.atSection 5 (fun t =>
    let d := t.sectionDie
    let t := t.keepBody (pairs.flatMap (fun p => leBytes 4 p.1.toNat ++ leBytes 4 p.2.toNat))
    match (if 1 ≤ d ∧ d ≤ 4 then t.touchDie d else t).regwritePairs 0 pairs with
    | (u, some k) => u.failHere 0x05 k
    | (u, none) => u.bodyEnds)

end State

/-- BOOT_ATTEMPT (R436). -/
def execBootAttempt (t : State) : Out := done t t.ownAttempt

/-- IMAGE_HEADER (R420, R421, R423). -/
def execImageHeader (image : List Byte) (t : State) : Out := done t (t.imageHeaderRead image)

/-- STAGE1 (R423, R441). -/
def execStage1 (body : List Byte) (t : State) : Out := done t (t.stage1Read body)

/-- FRAMES (R424, R427). -/
def execFrames (ends : Bool) (t : State) : Out := done t (if ends then t.framesEnd else t.framesBegin)

/-- LITERAL (R426). -/
def execLiteral (addr second : Word) (data : BitVec 1024) (check : Word) (t : State) : Out :=
  done t (t.frameRecord 1 addr second check (some data))

/-- ZERO (R426). -/
def execZero (addr second check : Word) (t : State) : Out := done t (t.frameRecord 2 addr second check none)

/-- REPEAT (R426). -/
def execRepeatFrames (addr second check : Word) (t : State) : Out := done t (t.frameRecord 3 addr second check none)

/-- ENGINES (R431). -/
def execEngines (records : List EngineImage) (t : State) : Out := done t (t.enginesRead records)

/-- XMAP (R160 to R162). -/
def execXmap (body : List Byte) (t : State) : Out := done t (t.xmapRead body)

/-- REGWRITE (R432). -/
def execRegwrite (pairs : List (Word × Word)) (t : State) : Out := done t (t.regwriteRead pairs)

/-- SECTOR_CRC (R433). -/
def execSectorCrc (values : List Word) (t : State) : Out := done t (t.sectorCrcRead values)

/-- CFG_BOOT_FAIL (R437, R448). -/
def execCfgBootFail (reason : Byte) (die : BitVec 3) (at_ : Word) (t : State) : Out := done t (t.bootFail reason.toNat die.toNat at_.toNat)

/-- LOAD_STALL_TIMEOUT (R435): the image that is being read stalls. -/
def execLoadStallTimeout (t : State) : Out := done t (if t.loadBusy then t.failHere 0x07 t.boot.entry else t)

/-- STARTUP_PHASE_DONE (R441). -/
def execStartupPhaseDone (refA refB : Bool) (t : State) : Out :=
  done t (t.phaseDone (fun u => if u.boot.warm then u else u.clocksStart refA refB))

/-- STARTUP_PHASE_TIMEOUT (R441). -/
def execStartupPhaseTimeout (t : State) : Out := done t t.phaseTimeout

/-- DIE_RELEASE (R443). -/
def execDieRelease (t : State) : Out := done t t.nextRelease

/-- HOST_LOAD (R439). -/
def execHostLoad (o : Origin) (value : Word) (t : State) : Out := done t (t.writeReg o Pg.config 0x010 value)

/-- RELOAD (R448). -/
def execReload (o : Origin) (value : Word) (t : State) : Out := done t (t.writeReg o Pg.config 0x010 value)

/-- HUB_BOOT_CONFIRM (R436). -/
def execHubBootConfirm (o : Origin) (value : Word) (t : State) : Out := done t (t.writeReg o Pg.hubGlobal 0x11C value)

/-- AUDIT_LAP_DONE (R445). -/
def execAuditLapDone (d s us : Nat) (t : State) : Out := onPart (isSector d s) t (t.auditLap d s us)

/-- AUDIT_MISMATCH (R447). -/
def execAuditMismatch (d s tile : Nat) (clean : Bool) (t : State) : Out :=
  onPart (isSector d s && tile ≤ 128) t (t.auditDiffers d s tile clean)

end Sys2Proof.Machine
end

