-- ==== Sys2Proof/Machine/ClockCmds.lean ====
section
/-! DEFINITION. The meanings of the clock and reset commands (spec/15_clocks_resets.md). -/

namespace Sys2Proof.Machine

open Reg

/-- A command of a hub PLL, a write of `RST_CTL`. -/
def onPll (p : Nat) (t u : State) : Out := onPart (p < 4) t u
def rstWrite (o : Origin) (value : Word) (t : State) : Out := done t (t.writeReg o Pg.reset 0x100 value)

/-- REFCLK_BAD (R459, R460). -/
def execRefclkBad (b : Bool) (t : State) : Out := done t (t.refGoesBad b)

/-- REF_REVERT (R459). -/
def execRefRevert (t : State) : Out := done t t.refReverts

/-- REF_HOLDOVER_END (R460). -/
def execRefHoldoverEnd (t : State) : Out := done t t.refLost

/-- REF_RECOVER (R460). -/
def execRefRecover (b : Bool) (t : State) : Out := done t (t.refRecovers b)

/-- PLL_FAIL (R461, R463). -/
def execPllFail (p : Nat) (t : State) : Out := onPll p t (State.newlyHeld t (t.pllFails p))

/-- PLL_RELOCK_DONE (R462). -/
def execPllRelockDone (p : Nat) (holds : Bool) (t : State) : Out := onPll p t (t.pllRelocked p holds)

/-- SPARE_PLL_LOCK (R461). -/
def execSparePllLock (p : Nat) (t : State) : Out := onPll p t (t.spareLocks p)

/-- DIE_PLL_HOLDOVER_END (R463). -/
def execDiePllHoldoverEnd (t : State) : Out := done t t.holdoverEnds

/-- POR (R464, R470). -/
def execPor (t : State) : Out := done t t.powerOn

/-- RESET_N_ASSERT (R466, R600). -/
def execResetNAssert (t : State) : Out := done t t.resetNLow

/-- RESET_N_RELEASE (R600). -/
def execResetNRelease (t : State) : Out := done t t.resetNHigh

/-- DEVICE (R465, R466). -/
def execDeviceReset (o : Origin) (value : Word) (t : State) : Out := rstWrite o value t

/-- WARM (R465, R467). -/
def execWarmReset (o : Origin) (value : Word) (t : State) : Out := rstWrite o value t

/-- DIE (R465, R468). -/
def execDieReset (o : Origin) (value : Word) (t : State) : Out := rstWrite o value t

/-- DOMAIN (R465, R469). -/
def execDomainReset (o : Origin) (value : Word) (t : State) : Out := rstWrite o value t

/-- REGISTER_RESET_END (R465). -/
def execRegisterResetEnd (t : State) : Out := done t t.registerResetEnds

/-- DIE_RESET_HOLD_END (R468). -/
def execDieResetHoldEnd (d : Nat) (t : State) : Out := onPart (isPort d) t (t.dieHoldEnds d)

/-- DIE_RESET_RELEASE (R468). -/
def execDieResetRelease (d : Nat) (t : State) : Out := onPart (isPort d) t (t.dieReleases d)

/-- CLK_SPAN_COUNT_READ (R456). -/
def execClkSpanCountRead (o : Origin) (peek : Bool) (t : State) : Out := done t (t.readReg o Pg.clock 0x110 peek)

end Sys2Proof.Machine
end

