-- ==== Sys2Proof/Machine/CryptoCmds.lean ====
section
/-! DEFINITION. The meanings of the crypto engines' commands (spec/13_memory_encryption.md). -/

namespace Sys2Proof.Machine

open Reg

/-- A command of the crypto engine of channel `c`. -/
def onCrypto (c : Nat) (t u : State) : Out := onPart (c < 8) t u

/-- A command of a region. -/
def onRegion (c r : Nat) (t u : State) : Out := onPart (c < 8 && r < 16) t u

/-- A write of a crypto page's register by an origin. -/
def cryptoWrite (o : Origin) (c off : Nat) (value : Word) (t : State) : Out := onCrypto c t (t.writeReg o (Pg.crypto c) off value)

/-- A request at the engine's endpoint is taken while the networks run and the port is not ASLEEP (R317, R463). -/
def onCryptoNet (c : Nat) (t u : State) : Out :=
  onCrypto c t (if t.clock.stopped ∨ t.portState' (cryptoEp c) = 2 then t else u)

/-- A write of `CRY_KEY_CMD` that names a command and a slot. -/
def keyCmdWrite (o : Origin) (c op slot : Nat) (t : State) : Out :=
  onPart (c < 8 && slot < 32) t (t.writeReg o (Pg.crypto c) 0x100 (BitVec.ofNat 32 (op * 2 ^ 28 + slot)))

/-- CRYPTO_READ (R387 to R407). -/
def execCryptoRead (c : Nat) (upsets : List Nat) (t : State) : Out := onCryptoNet c t (t.cryptoRead c upsets)

/-- CRYPTO_PARTIAL_WRITE (R387, R403). -/
def execCryptoPartialWrite (c : Nat) (upsets : List Nat) (t : State) : Out := onCryptoNet c t (t.cryptoPartial c upsets)

/-- CRYPTO_FULL_WRITE (R387, R403). -/
def execCryptoFullWrite (c : Nat) (upsets : List Nat) (t : State) : Out := onCryptoNet c t (t.cryptoFull c upsets)

/-- REGION_ENABLE (R393). -/
def execRegionEnable (o : Origin) (c r : Nat) (value : Word) (t : State) : Out :=
  onRegion c r t (t.writeReg o (Pg.crypto c) (0x200 + 0x20 * r) value)

/-- REGION_CLOSE (R394). -/
def execRegionClose (o : Origin) (c r : Nat) (value : Word) (t : State) : Out :=
  onRegion c r t (t.writeReg o (Pg.crypto c) (0x200 + 0x20 * r) value)

/-- REGION_CLOSE_DONE (R394). -/
def execRegionCloseDone (c r : Nat) (t : State) : Out := onRegion c r t (t.regionClosed c r)

/-- CRY_INIT (R408). -/
def execCryInit (o : Origin) (c : Nat) (value : Word) (t : State) : Out := cryptoWrite o c 0x30C value t

/-- INIT_DONE (R408). -/
def execInitDone (c : Nat) (t : State) : Out := onCrypto c t (t.initEnds c)

/-- GENERATE (R409). -/
def execGenerate (o : Origin) (c slot : Nat) (t : State) : Out := keyCmdWrite o c 1 slot t

/-- DERIVE (R409, R434). -/
def execDerive (o : Origin) (c slot : Nat) (t : State) : Out := keyCmdWrite o c 2 slot t

/-- RETIRE (R410). -/
def execRetire (o : Origin) (c slot : Nat) (t : State) : Out := keyCmdWrite o c 3 slot t

/-- KEY_CMD_DONE (R409, R410). -/
def execKeyCmdDone (c : Nat) (t : State) : Out := onCrypto c t (t.keyCmdEnds c)

/-- ANNEAL_START (R411). -/
def execAnnealStart (o : Origin) (c : Nat) (value : Word) (t : State) : Out := cryptoWrite o c 0x300 value t

/-- ANNEAL_LINE (R412). -/
def execAnnealLine (c : Nat) (upsets : List Nat) (t : State) : Out := onCrypto c t (t.annealMoves c upsets)

/-- CRY_ANNEAL_DONE (R414). -/
def execCryAnnealDone (c : Nat) (t : State) : Out := onCrypto c t (t.annealEnds c)

/-- CTR_PRESET (R417). -/
def execCtrPreset (o : Origin) (c : Nat) (value : Word) (t : State) : Out := cryptoWrite o c 0x810 value t

end Sys2Proof.Machine
end

