-- ==== Sys2Proof/Machine/DdrCmds.lean ====
section
/-! DEFINITION. The meanings of the DDR5 controllers' commands (spec/12_ddr5_controllers.md). -/

namespace Sys2Proof.Machine

open Reg

/-- A command of channel `c`. -/
def onChannel (c : Nat) (t u : State) : Out := onPart (c < 8) t u

/-- A command of a bank, numbered as R364 does: two subchannels, four ranks, eight bank groups of four banks. -/
def onDdrBank (c b : Nat) (t u : State) : Out := onPart (c < 8 && b < 256) t u

/-- A write of the controller's `CTL` by an origin. -/
def ddrCtlWrite (o : Origin) (c : Nat) (value : Word) (t : State) : Out := onChannel c t (t.writeReg o (Pg.ddr c) 0x010 value)

/-- DDR_ENABLE (R360). -/
def execDdrEnable (o : Origin) (c : Nat) (value : Word) (t : State) : Out := ddrCtlWrite o c value t

/-- DDR_DISABLE (R360). -/
def execDdrDisable (o : Origin) (c : Nat) (value : Word) (t : State) : Out := ddrCtlWrite o c value t

/-- DDR_TRAIN_STEP_DONE (R360). -/
def execDdrTrainStepDone (c : Nat) (dimm : Dimm) (t : State) : Out := onChannel c t (t.ddrStepDone c dimm)

/-- DDR_TRAIN_TIMEOUT (R361). -/
def execDdrTrainTimeout (c : Nat) (crc : Bool) (t : State) : Out := onChannel c t (t.ddrStepFails c crc)

/-- ZERO_FILL_DONE (R362). -/
def execZeroFillDone (c : Nat) (t : State) : Out := onChannel c t (t.ddrFilled c)

/-- DDR_RETRAIN (R361). -/
def execDdrRetrain (o : Origin) (c : Nat) (value : Word) (t : State) : Out := ddrCtlWrite o c value t

/-- DDR_LINE_READ (R355, R363, R371, R372). -/
def execDdrLineRead (c id line prio : Nat) (t : State) : Out := onChannel c t (t.ddrPresentRead c id line prio)

/-- DDR_LINE_WRITE (R355, R363, R371). -/
def execDdrLineWrite (c id line prio : Nat) (data : BitVec 512) (t : State) : Out := onChannel c t (t.ddrPresentWrite c id line prio data)

/-- DDR_COMMAND_ISSUE (R373 to R375). -/
def execDdrCommandIssue (c aged : Nat) (wait : List Nat) (t : State) : Out := onChannel c t (t.ddrIssue c aged wait)

/-- DDR_READ_DATA (R367). -/
def execDdrReadData (c : Nat) (err : BitVec 640) (t : State) : Out := onChannel c t (t.ddrReturns c err)

/-- DDR_READ_RETRY (R368 to R370). -/
def execDdrReadRetry (c : Nat) (err : BitVec 640) (t : State) : Out := onChannel c t (t.ddrRetried c err)

/-- ROW_OPEN_TIMEOUT (R375). -/
def execRowOpenTimeout (c b : Nat) (t : State) : Out := onDdrBank c b t (t.ddrRowTimeout c b)

/-- REFRESH_DEBT_TICK (R376, R379). -/
def execRefreshDebtTick (c rank : Nat) (t : State) : Out := onPart (c < 8 && rank < 4) t (t.ddrTick c rank)

/-- REFSB_ISSUE (R376). -/
def execRefsbIssue (c rank b : Nat) (all : Bool) (t : State) : Out := onPart (c < 8 && rank < 4 && b < 4) t (t.ddrRefresh c rank b all)

/-- TEMP_RATE_POLL (R377). -/
def execTempRatePoll (c : Nat) (rates : List Nat) (t : State) : Out := onChannel c t (t.ddrPoll c rates)

/-- RFM_ISSUE (R378). -/
def execRfmIssue (c b : Nat) (t : State) : Out := onDdrBank c b t (t.ddrRfm c b)

/-- DRFM_ISSUE (R379): on a READY channel. -/
def execDrfmIssue (c b : Nat) (t : State) : Out := onDdrBank c b t (if t.ddrState c = 3 then t.ddrDrfm c b else t)

/-- DDR_ALERT (R381). -/
def execDdrAlert (c recent : Nat) (again : Bool) (t : State) : Out := onChannel c t (t.ddrAlert c recent again)

/-- SELF_REFRESH_ENTRY (R382, R402). -/
def execSelfRefreshEntry (c : Nat) (t : State) : Out :=
  onChannel c t ((if t.ddrState c = 3 then t.cryptoSettles c else t).ddrSelfRefresh c)

/-- SELF_REFRESH_EXIT (R383). -/
def execSelfRefreshExit (c : Nat) (t : State) : Out := onChannel c t (t.ddrWake c)

end Sys2Proof.Machine
end

