-- ==== Sys2Proof/Machine/HubCmds.lean ====
section
/-! DEFINITION. The meanings of the register access commands (spec/02_register_conventions.md): requests of the origins, and the indirect
access of the I²C target. -/

namespace Sys2Proof.Machine

open Reg

namespace State

/-! ## The I²C target's index registers (R63, R64) -/

/-- Whether the I²C target answers: its domain is up (R474). -/
def i2cUp (s : State) : Bool := s.pathUp .i2c

/-- The target does not take a transaction: it NACKs it. -/
def nacked (s : State) : State := { s with hub := { s.hub with nack := true } }

/-- Whether the target takes a write of indices 0x00 to 0x09. -/
def iaTakes (s : State) : Bool := s.i2cUp && s.hub.iaOp.isNone

/-- A word with byte `i` replaced (R11). -/
def byteInto (w : Word) (i : Nat) (b : Byte) : Word :=
  BitVec.ofNat 32 (w.toNat - bits w.toNat (8 * i + 7) (8 * i) * 2 ^ (8 * i) + b.toNat * 2 ^ (8 * i))

/-- One byte is written to an index of 0x00 to 0x07: `IA_ADDR` or `IA_DATA`, least significant byte first (R63). -/
def iaByteWritten (x : BitVec 3 × Byte) (s : State) : State :=
  if x.1.toNat < 4 then { s with hub := { s.hub with iaAddr := byteInto s.hub.iaAddr x.1.toNat x.2 } }
  else { s with hub := { s.hub with iaData := byteInto s.hub.iaData (x.1.toNat - 4) x.2 } }

/-- The bytes written before `IA_CMD`, in order. -/
def iaIndex (s : State) (bytes : List (BitVec 3 × Byte)) : State :=
  forEach bytes iaByteWritten { s with hub := { s.hub with nack := false } }

/-- The byte an I²C read of an index of 0x00 to 0x09 returns (R63). -/
def iaByte (s : State) (index : Nat) : Byte :=
  if index < 4 then BitVec.ofNat 8 (s.hub.iaAddr.toNat / 256 ^ index)
  else if index < 8 then BitVec.ofNat 8 (s.hub.iaData.toNat / 256 ^ (index - 4))
  else if index = 8 then s.hub.iaCmd
  else BitVec.ofNat 8 (b2n s.hub.iaOp.isSome + 2 * b2n s.hub.iaFault + 4 * b2n s.hub.iaDenied)

/-- `IA_CMD` is written: READ or WRITE clears FAULT and DENIED and starts an access; both set DENIED and start nothing. -/
def iaCommand (s : State) (cmd : Nat) : State :=
  let s := { s with hub := { s.hub with iaCmd := BitVec.ofNat 8 cmd % 16 } }
  if bit cmd 0 = false ∧ bit cmd 1 = false then s
  else if bit cmd 0 && bit cmd 1 then { s with hub := { s.hub with iaFault := false, iaDenied := true } }
  else
    { s with hub := { s.hub with
      iaFault := false, iaDenied := false,
      iaOp := some { write := bit cmd 1, peek := bit cmd 2, autoInc := bit cmd 3 } } }

/-- Write bytes of the index registers and then `IA_CMD`. -/
def iaStart (s : State) (bytes : List (BitVec 3 × Byte)) (cmd : Nat) : State :=
  if s.iaTakes then (s.iaIndex bytes).iaCommand cmd else s.nacked

/-- The aperture address that `IA_ADDR` names; its low two bits are ignored. -/
def iaTarget (s : State) : Nat := s.hub.iaAddr.toNat / 4 * 4

/-- The access in progress is performed: what the word access answers, none above the aperture. -/
def iaAccess (s : State) (op : IaOp) : Option BusOut :=
  if 0x3FFFFFF < s.iaTarget then none
  else if op.write then some (s.busWrite .i2c s.iaTarget s.hub.iaData)
  else some (s.busRead .i2c s.iaTarget op.peek)

/-- The access completes: BUSY clears, `IA_DATA` takes a read's word, FAULT and DENIED say how it went, and AUTO_INC advances the
address. -/
def iaDone (s : State) : State :=
  match s.hub.iaOp with
  | none => s
  | some op =>
    let r : BusOut := (s.iaAccess op).getD { st := s, off := true }
    let h := r.st.hub
    { r.st with hub := { h with
      iaOp := none,
      iaData := if op.write then h.iaData else r.data,
      iaFault := h.iaFault || r.off, iaDenied := h.iaDenied || r.denied,
      iaAddr := if op.autoInc then h.iaAddr + 4 else h.iaAddr } }

/-! ## Happenings in the cycle of an access (R52, R56) -/

/-- Events set their bits in the cycle of the write, and an error arrives in it: both after the clear. -/
def sameCycle (s : State) (page : Nat) (o : Origin) (events : BitVec 16) (err : Option (Nat × Nat)) : State :=
  if (pageKind page).isSome && s.pageOn page then
    let t := s.setBits page Hdr.INT_STATUS_BLOCK events.toNat
    match err with
    | some (code, word) => t.capture page code o (4 * word)
    | none => t
  else s

end State

/-- Whether a number is that of a page of the aperture (R37). -/
def isPage (page : Nat) : Bool := page < 0x4000

/-- REGISTER_WRITE (R42, R43). -/
def execRegisterWrite (o : Origin) (addr : Nat) (words : List WriteWord) (t : State) : Out :=
  onPart (State.inAperture addr words.length) t (t.writeRequest o addr words)

/-- EXPERT_KEY_WRITE (R48 to R51). -/
def execExpertKeyWrite (o : Origin) (page : Nat) (value : Word) (t : State) : Out :=
  onPart (isPage page) t (t.writeReg o page 0x0F0 value)

/-- INT_STATUS_CLEAR (R52, R56). -/
def execIntStatusClear (o : Origin) (page : Nat) (value : Word) (events : BitVec 16) (err : Option (Nat × Nat)) (t : State) : Out :=
  onPart (isPage page) t ((t.writeReg o page 0x020 value).sameCycle page o events err)

/-- INT_FORCE_WRITE (R52): a clear in the same cycle comes first. -/
def execIntForceWrite (o : Origin) (page : Nat) (value clear : Word) (t : State) : Out :=
  onPart (isPage page) t ((if clear = 0 then t else t.writeReg o page 0x020 clear).writeReg o page 0x028 value)

/-- ERR_COUNT_READ (R56, R58): an error in the cycle of a clearing read leaves the count at 1. -/
def execErrCountRead (o : Origin) (page : Nat) (peek : Bool) (increment : Option Nat) (t : State) : Out :=
  onPart (isPage page) t ((t.readReg o page 0x034 peek).sameCycle page o 0 (increment.map (fun code => (code, 0xD))))

/-- HUB_ACCESS_FAULT_CLEAR (R41, R61). -/
def execHubAccessFaultClear (o : Origin) (value : Word) (t : State) : Out :=
  done t (t.writeReg o Pg.hubGlobal 0x108 value)

/-- IA_CMD_READ (R64). -/
def execIaCmdRead (bytes : List (BitVec 3 × Byte)) (cmd : Byte) (t : State) : Out :=
  done t (t.iaStart bytes cmd.toNat)

/-- IA_CMD_WRITE (R64). -/
def execIaCmdWrite (bytes : List (BitVec 3 × Byte)) (cmd : Byte) (t : State) : Out :=
  done t (t.iaStart bytes cmd.toNat)

/-- IA_ACCESS_DONE (R64). -/
def execIaAccessDone (t : State) : Out := done t t.iaDone

/-- IA_STAT_WRITE (R63, R64): the target NACKs it while BUSY is 1. -/
def execIaStatWrite (value : Byte) (t : State) : Out :=
  done t (if t.iaTakes then
      { t with hub := { t.hub with
        nack := false, iaFault := t.hub.iaFault && !(bit value.toNat 1), iaDenied := t.hub.iaDenied && !(bit value.toNat 2) } }
    else t.nacked)

/-- REGISTER_READ (R42, R57 to R59). -/
def execRegisterRead (o : Origin) (addr count : Nat) (peek : Bool) (be : List (BitVec 4)) (t : State) : Out :=
  onPart (State.inAperture addr count) t (t.readRequest o addr count peek (if o = .pcie then be else []))

end Sys2Proof.Machine
end

