-- ==== Sys2Proof/Machine/DebugCmds.lean ====
section
/-! DEFINITION. The meanings of the mailbox commands (spec/17_debug_run_control.md R500 to R509, R516). -/

namespace Sys2Proof.Machine

open Reg

namespace State

/-- The words of an `RD`, each a word access with origin DEBUG. -/
def mbWords (s : State) (addr : Nat) (peek : Bool) : Nat → List Byte × State
  | 0 => ([], s)
  | n + 1 =>
    let r := s.busRead .debug addr peek
    let rest := r.st.mbWords (addr + 4) peek n
    (leBytes 4 r.data.toNat ++ rest.1, rest.2)

/-- `RD` (R497, R502): without PEEK only at level FULL. -/
def mbReads (s : State) (b : List Byte) : State :=
  s.mbSession (fun t =>
    let noPeek := bit (t.mbHead 1) 0
    if noPeek = true ∧ t.sessionLevel ≠ 3 then t.mbAnswer MbStatus.level 0 []
    else
      let r := t.mbWords (leNat (b.take 4)) (t.peekOf .debug (!noPeek)) ((b.getD 4 0).toNat)
      r.2.mbAnswer MbStatus.ok 0 r.1)

/-- The pairs of a `WR`, in order. -/
def mbPairs (s : State) (b : List Byte) : Nat → State
  | 0 => s
  | n + 1 => ((s.busWrite .debug (leNat (b.take 4)) (BitVec.ofNat 32 (leNat ((b.drop 4).take 4)))).st).mbPairs (b.drop 8) n

/-- Whether a pair is a write that only a FULL session may make: expert unlock, expert writes, `DBG_CERT_FLOOR` (R497). -/
def needsFull (addr value : Nat) : Bool :=
  (pageKind (pageAt addr)).isSome && (pageWindow (pageAt addr)).isNone &&
  ((offAt addr = 0x0F0 && value ≠ 0) || 0x800 ≤ offAt addr || (pageAt addr = Pg.monitor && offAt addr = 0x114))

/-- `WR` (R498, R503): every pair reaches its page; a session whose level is too low for one of them is answered `LEVEL`. -/
def mbWrites (s : State) (b : List Byte) : State :=
  s.mbSession (fun t =>
    let full := (List.range (b.length / 8)).any (fun i => needsFull (leNat ((b.drop (8 * i)).take 4)) (leNat ((b.drop (8 * i + 4)).take 4)))
    let status := if t.sessionLevel < 2 ∨ (full = true ∧ t.sessionLevel < 3) then MbStatus.level else MbStatus.ok
    (t.mbPairs b (b.length / 8)).mbAnswer status 0 [])

/-! ## The I²C path (R500) -/

/-- A write of `MB_REQ_DATA`. -/
def mbPutByte (s : State) (b : Byte) : State :=
  if s.i2cUp = false ∨ s.mbAdmits .i2c = false then s.nacked
  else
    let t := s.putByte Pg.monitor Monitor.DBG_MB_REQ_DATA s.dbg.ptr b
    { t with dbg := { t.dbg with ptr := (s.dbg.ptr + 1) % 1024 }, hub := { t.hub with nack := false } }

/-- A read of `MB_RSP_DATA`: beyond the 512 bytes of the buffer the byte is a free value. -/
def mbGetByte (s : State) : State :=
  if s.i2cUp = false then s.nacked
  else
    let k := s.dbg.ptr
    let w := s.get Pg.monitor Monitor.DBG_MB_RSP_DATA (k / 4)
    let b := if k < 512 then bits w (8 * (k % 4) + 7) (8 * (k % 4)) else s.freeVal % 256
    let t := if k < 512 then s else s.took
    { t with
      dbg := { t.dbg with ptr := (k + 1) % 1024 }
      hub := { t.hub with readData := [BitVec.ofNat 32 b], completion := .sc, nack := false } }

/-- A write of `MB_CMD`: `PTR_RESET`, and `GO` from an origin that may. -/
def mbCommand (s : State) (cmd : Byte) : State :=
  let go := bit cmd.toNat 0
  if s.i2cUp = false ∨ (go = true ∧ s.mbAdmits .i2c = false) then s.nacked
  else
    let t := { s with hub := { s.hub with nack := false } }
    let t := if bit cmd.toNat 1 then { t with dbg := { t.dbg with ptr := 0 } } else t
    if go then t.mbGo .i2c else t

/-- A session that has been idle for `DBG_IDLE_LIMIT` seconds ends (R509). -/
def sessionIdles (s : State) : State :=
  if s.get Pg.monitor Monitor.DBG_IDLE_LIMIT_LIMIT ≤ s.get Pg.monitor Monitor.DBG_SESSION_IDLE_S then s.sessionIdle else s

end State

/-- OPEN (R502, R505, R508). -/
def execOpenSession (t : State) : Out := done t (t.mbServe 0x01 State.mbOpenCmd)

/-- AUTH_KEY (R505, R508). -/
def execAuthKey (t : State) : Out := done t (t.mbServe 0x02 (fun u b => u.mbAuth 1 b))

/-- AUTH_PW (R507, R508). -/
def execAuthPw (t : State) : Out := done t (t.mbServe 0x03 (fun u b => u.mbAuth 2 b))

/-- CLOSE (R502, R509). -/
def execCloseSession (t : State) : Out := done t (t.mbServe 0x04 State.mbClose)

/-- RD (R502, R503). -/
def execMbRd (t : State) : Out := done t (t.mbServe 0x10 State.mbReads)

/-- WR (R502, R503). -/
def execMbWr (t : State) : Out := done t (t.mbServe 0x11 State.mbWrites)

/-- MEMRD (R502, R516). -/
def execMemrd (t : State) : Out := done t (t.mbServe 0x12 (fun u b => u.mbMem false b))

/-- MEMWR (R502, R516). -/
def execMemwr (t : State) : Out := done t (t.mbServe 0x13 (fun u b => u.mbMem true b))

/-- MB_REQ_DATA (R500). -/
def execMbReqData (b : Byte) (t : State) : Out := done t (t.mbPutByte b)

/-- MB_RSP_DATA (R500). -/
def execMbRspData (t : State) : Out := done t t.mbGetByte

/-- PTR_RESET (R500). -/
def execPtrReset (cmd : Byte) (t : State) : Out := done t (t.mbCommand cmd)

/-- SESSION_IDLE_TIMEOUT (R509). -/
def execSessionIdleTimeout (t : State) : Out := done t t.sessionIdles

/-- BAD_CMD (R502). -/
def execBadCmd (t : State) : Out := done t t.mbBad

end Sys2Proof.Machine
end

