-- ==== Sys2Proof/Machine/EngineDma.lean ====
section
/-! DEFINITION. Remote windows and the Skein DMA of an engine (spec/09_spindle_engines.md R265, R266, R276 to R280): what they issue, and
what their responses do. The DMA holds one request on the network for each descriptor in progress. -/

namespace Sys2Proof.Machine

open Reg

namespace State

/-! ## Counters and the end of an instruction (R257) -/

/-- An instruction took some clocks: how many beyond one is free, since stalls come from other ports. -/
def ticked (s : State) (e : Nat) : State :=
  let c := s.core e
  (s.setCore e { c with mcycle := c.mcycle + BitVec.ofNat 64 s.freeVal + 1 }).took

/-- An instruction of `len` bytes has executed: the next one follows at `target`, or after it. -/
def retire (s : State) (e : Nat) (target : Word) : State :=
  let c := s.core e
  (s.setCore e { c with pc := target, minstret := c.minstret + 1 }).ticked e

def retireLen (s : State) (e len : Nat) : State := s.retire e ((s.core e).pc + BitVec.ofNat 32 len)

/-- An instruction ends in an exception. -/
def except (s : State) (e cause tval : Nat) : State := (s.trap e cause tval).ticked e

/-- `ENG_TEST.RF_FLIP` inverts a bit of the stored copy at the next register write, and clears (R290). -/
def flipNext (s : State) (e r : Nat) : State :=
  let x := s.engine e
  if s.flag (Pg.eng e 0) Eng0.ENG_TEST_RF_FLIP then
    (s.setEngine e { x with
      rfFlipped := (r, s.get (Pg.eng e 0) Eng0.ENG_TEST_RF_BIT) :: x.rfFlipped.filter (fun y => y.1 ≠ r) }).set (Pg.eng e 0)
      Eng0.ENG_TEST_RF_FLIP 0
  else s.setEngine e { x with rfFlipped := x.rfFlipped.filter (fun y => y.1 ≠ r) }

/-- An instruction writes an integer register; x0 is not writable. -/
def writeX (s : State) (e r : Nat) (v : Word) : State :=
  if r = 0 then s else (s.setCore e (setXreg (s.core e) r v)).flipNext e r

/-! ## Remote windows (R265, R266) -/

/-- The window of a local address and the offset at its target. -/
def windowOf (addr : Nat) : Option Nat := if 0x80000000 ≤ addr ∧ addr < 0xC0000000 then some (addr / 2 ^ 28 % 4) else none
def windowOffset (s : State) (e w addr : Nat) : Nat := s.get (Pg.eng e 0) Eng0.ENG_WIN_BASE_BASE w * 2 ^ 28 + addr % 2 ^ 28

/-- The first window error is recorded. -/
def winError (s : State) (e w code : Nat) (store : Bool) : State :=
  let p := Pg.eng e 0
  if s.flag p Eng0.ENG_WIN_ERR_VALID then s
  else (((s.set p Eng0.ENG_WIN_ERR_VALID 1).set p Eng0.ENG_WIN_ERR_RESP code).set p Eng0.ENG_WIN_ERR_WIN w).set p
    Eng0.ENG_WIN_ERR_STORE (b2n store)

/-- The part of a loaded word that a load of `funct3` takes at an address, extended. -/
def loadPart (funct3 addr word : Nat) : Word :=
  let v := word >>> (8 * (addr % 4))
  if funct3 = 0 then sext 8 (v % 256)
  else if funct3 = 1 then sext 16 (v % 65536)
  else if funct3 = 4 then BitVec.ofNat 32 (v % 256)
  else if funct3 = 5 then BitVec.ofNat 32 (v % 65536)
  else BitVec.ofNat 32 v

/-- A load issues its request and blocks the engine; none while it must wait for earlier stores of its window or for the
endpoint. -/
def remoteLoads (s : State) (e funct3 rd w addr len : Nat) : Option State :=
  let p := Pg.eng e 0
  let prio := s.get p Eng0.ENG_WIN_CTL_PRIO w
  if (s.engine e).stores.any (fun x => x.2 = w) ∨ (s.engine e).posted.any (fun x => x.win = w) = true then none
  else
    let r := s.issue (engEndpoint e) prio .load (fun tag =>
      [rdFlit (s.get p Eng0.ENG_WIN_CTL_DEST w) (engEndpoint e) prio tag (s.windowOffset e w (addr / 4 * 4)) 4])
    r.1.map (fun tag => r.2.setEngine e { r.2.engine e with
      load := some { rd := rd, funct3 := funct3, win := w, tag := tag, addr := BitVec.ofNat 32 addr, len := len } })

/-- A posted store goes onto the network; none while the endpoint takes none. -/
def sendStore (s : State) (e : Nat) (x : PostedStore) : Option State :=
  let r := s.issue (engEndpoint e) x.prio (.store x.win) (fun tag => [wrsFlit x.dst (engEndpoint e) x.prio tag x.offset x.bytes])
  r.1.map (fun tag => r.2.setEngine e { r.2.engine e with stores := (r.2.engine e).stores ++ [(tag, x.win)] })

/-- A store is posted; none while eight are outstanding or the endpoint takes none. One through a window that has a store outstanding waits
for it, so that the stores of a window are delivered in program order (log entry 104). -/
def remoteStores (s : State) (e w addr : Nat) (bs : List Byte) : Option State :=
  let p := Pg.eng e 0
  let y := s.engine e
  let x : PostedStore :=
    { win := w, prio := s.get p Eng0.ENG_WIN_CTL_PRIO w, dst := s.get p Eng0.ENG_WIN_CTL_DEST w, offset := s.windowOffset e w addr, bytes := bs }
  if 8 ≤ y.stores.length + y.posted.length then none
  else if y.stores.any (fun z => z.2 = w) ∨ y.posted.any (fun z => z.win = w) = true then some (s.setEngine e { y with posted := y.posted ++ [x] })
  else s.sendStore e x

/-- Posted stores that wait go onto the network, each window's in order and one at a time. -/
def storesGo (s : State) (e : Nat) : State :=
  forEach (s.engine e).posted (fun x t =>
    if (t.engine e).stores.any (fun z => z.2 = x.win) then t
    else if (t.engine e).posted.find? (fun z => z.win = x.win) = some x then
      match t.sendStore e x with
      | some u => u.setEngine e { u.engine e with posted := (u.engine e).posted.erase x }
      | none => t
    else t) s

/-- The response to a remote load: the instruction completes, or ends in a load access fault (R266). -/
def loadAnswered (s : State) (e tag code : Nat) (bs : List Byte) : State :=
  match (s.engine e).load with
  | none => s
  | some l =>
    if l.tag ≠ tag then s
    else
      let t := s.setEngine e { s.engine e with load := none }
      if code = 0 then
        ((t.writeX e l.rd (loadPart l.funct3 l.addr.toNat (leNat (bs.take 4)))).retireLen e l.len).dbgStepped e
      else ((t.winError e l.win code false).except e 5 l.addr.toNat).dbgStepped e

/-- The response to a posted store. -/
def storeAnswered (s : State) (e tag w code : Nat) : State :=
  let x := s.engine e
  if x.stores.elem (tag, w) then
    let t := s.setEngine e { x with stores := x.stores.filter (· ≠ (tag, w)), storeErr := x.storeErr || code ≠ 0 }
    if code = 0 then t else t.winError e w code true
  else s

/-! ## The Skein DMA (R277 to R280) -/

/-- The SPAD address of descriptor `i`, and the number of ring entries. -/
def dmaAt (s : State) (e i : Nat) : Nat := 0x10000000 + s.get (Pg.eng e 2) Eng2.DMA_RING_BASE_BASE * 32 + 32 * i
def dmaEntries (s : State) (e : Nat) : Nat := 2 ^ s.get (Pg.eng e 2) Eng2.DMA_RING_LOG2_LOG2

/-- `DMA_STATUS.ACTIVE`. -/
def dmaActive (s : State) (e : Nat) : State := s.set (Pg.eng e 2) Eng2.DMA_STATUS_ACTIVE (s.engine e).dma.length

def setDma (s : State) (e : Nat) (l : List DmaDesc) : State := (s.setEngine e { s.engine e with dma := l }).dmaActive e

/-- Replace a descriptor in progress. -/
def putDma (s : State) (e : Nat) (d : DmaDesc) : State :=
  s.setDma e ((s.engine e).dma.map (fun x => if x.index = d.index then d else x))

/-- The bytes of a descriptor's next request: none crosses a 64-byte boundary of source or destination. -/
def dmaChunk (d : DmaDesc) : Nat := min (d.len - d.moved) (min (64 - (d.src + d.moved) % 64) (64 - (d.dst + d.moved) % 64))

/-- A write request of `bs`, as WRS or as a line-write pair. -/
def writeFlits (dst src prio tag offset : Nat) (bs : List Byte) : List Flit :=
  if bs.length ≤ 56 then [wrsFlit dst src prio tag offset bs]
  else
    let lead := offset % 64
    let mask := (2 ^ bs.length - 1) * 2 ^ lead
    [{ hdr := mkHdr dst src prio 0 3 tag, data := BitVec.ofNat 512 (cmdWord (offset / 64 * 64) 64 + mask * 2 ^ 64) },
     { hdr := mkHdr dst src prio 0 4 tag, data := BitVec.ofNat 512 (leNat bs * 2 ^ (8 * lead)) }]

/-- Whether the DMA may issue: not frozen, no substitution waits (R276, R287). -/
def dmaIssues (s : State) (e : Nat) : Bool := !(s.frozen e 3) && (s.engine e).subst.isNone && s.engState e ≠ 4

/-- A descriptor completes with a code. -/
def dmaCompletes (s : State) (e : Nat) (d : DmaDesc) (code : Nat) : State :=
  s.putDma e { d with resp := code, done := true, tag := none, held := [] }

/-- Write the bytes a descriptor holds to its destination; a local write is done at once. Answers the descriptor after it. -/
def dmaPuts (s : State) (e : Nat) (d : DmaDesc) : DmaDesc × State :=
  let n := d.held.length
  let at_ := d.dst + d.moved
  if d.dstLocal then
    (if (engMem at_).isSome ∧ (engMem (at_ + n - 1)).isSome then
      let d' := { d with moved := d.moved + n, held := [] }
      (d', (s.portBWrite e at_ (d.held.map some)).putDma e d')
    else ({ d with done := true }, s.dmaCompletes e d 3))
  else
    let r := s.issue (engEndpoint e) d.prio (.dmaWrite d.index n)
      (fun tag => writeFlits d.dstEp (engEndpoint e) d.prio tag (at_ % 2 ^ 48) d.held)
    match r.1 with
    | some tag => let d' := { d with tag := some tag }; (d', r.2.putDma e d')
    | none => (d, s)

/-- Read the next bytes of a descriptor; a local read is done at once. -/
def dmaGets (s : State) (e : Nat) (d : DmaDesc) : DmaDesc × State :=
  let n := dmaChunk d
  let at_ := d.src + d.moved
  if d.srcLocal then
    (if (engMem at_).isSome ∧ (engMem (at_ + n - 1)).isSome then
      let r := s.portBRead e at_ n
      match r.1 with
      | some bs => let d' := { d with held := bs }; (d', r.2.putDma e d')
      | none => ({ d with done := true }, r.2.dmaCompletes e d 4)
    else ({ d with done := true }, s.dmaCompletes e d 3))
  else
    let r := s.issue (engEndpoint e) d.prio (.dmaRead d.index n)
      (fun tag => [rdFlit d.srcEp (engEndpoint e) d.prio tag (at_ % 2 ^ 48) n])
    match r.1 with
    | some tag => let d' := { d with tag := some tag }; (d', r.2.putDma e d')
    | none => (d, s)

/-- A descriptor goes on until it waits for the network or completes. -/
def dmaMoves : Nat → State → Nat → DmaDesc → State
  | 0, s, _, _ => s
  | n + 1, s, e, d =>
    if d.done ∨ d.tag.isSome ∨ s.dmaIssues e = false then s
    else if d.held ≠ [] then
      let r := s.dmaPuts e d
      if r.1 = d then r.2 else dmaMoves n r.2 e r.1
    else if d.len ≤ d.moved then s.dmaCompletes e d 0
    else
      let r := s.dmaGets e d
      if r.1 = d then r.2 else dmaMoves n r.2 e r.1

/-- Steps that move a descriptor to its end at most: every two move at least 4 bytes. -/
def dmaFuel (d : DmaDesc) : Nat := d.len + 4

/-- Every descriptor in progress goes on. -/
def dmaPump (s : State) (e : Nat) : State :=
  forEach (s.engine e).dma (fun d t => dmaMoves (dmaFuel d) t e d) s

/-- A descriptor's 32 bytes as the DMA takes them; none for a reserved encoding, a reserved bit or a bad length (R278, R279). -/
def dmaDecode (i : Nat) (bs : List Byte) : Option DmaDesc :=
  let w := fun k => leNat ((bs.drop (4 * k)).take 4)
  if bits (w 0) 1 0 = 3 ∨ bits (w 0) 31 6 ≠ 0 ∨ bits (w 1) 31 24 ≠ 0 ∨ w 1 % 4 ≠ 0 ∨ bits (w 3) 31 27 ≠ 0 ∨ bits (w 5) 31 27 ≠ 0 ∨
      bits (w 6) 30 27 ≠ 0 ∨ w 7 ≠ 0 then none
  else
    let srcLocal := bit (w 0) 4
    let dstLocal := bit (w 0) 5
    some { index := i, prio := bits (w 0) 1 0, irq := bit (w 0) 2, srcLocal := srcLocal, dstLocal := dstLocal,
           src := w 2 + (if srcLocal then 0 else bits (w 3) 15 0 * 2 ^ 32), srcEp := bits (w 3) 26 16,
           dst := w 4 + (if dstLocal then 0 else bits (w 5) 15 0 * 2 ^ 32), dstEp := bits (w 5) 26 16,
           len := bits (w 1) 23 0 }

/-- Whether the DMA takes a further descriptor. -/
def dmaMayStart (s : State) (e : Nat) : Bool :=
  let p2 := Pg.eng e 2
  let x := s.engine e
  s.flag p2 Eng2.DMA_CTL_EN && !(s.flag p2 Eng2.DMA_STATUS_STOPPED) && !x.dmaStopping && x.dma.all (fun d => !(d.done && d.resp ≠ 0)) &&
  x.dma.length < 16 && s.get p2 Eng2.DMA_TAIL_TAIL ≠ s.get p2 Eng2.DMA_HEAD_HEAD % s.dmaEntries e && s.dmaIssues e &&
  s.engState e ≠ 0 && s.hasUnits e

/-- The descriptor at `DMA_TAIL` starts; one with `FENCE` only after every earlier one (R277, R279). Descriptors that wait go on. -/
def dmaStart (s : State) (e : Nat) : State :=
  let p2 := Pg.eng e 2
  let t :=
    if s.dmaMayStart e then
      let i := s.get p2 Eng2.DMA_TAIL_TAIL
      let r := s.portBRead e (s.dmaAt e i) 32
      let bs := r.1.getD []
      let d := dmaDecode i (if bs = [] then List.replicate 32 0 else bs)
      let fence := bit ((bs.getD 0 0).toNat) 3
      if fence ∧ (s.engine e).dma.any (fun d => !d.done) = true then s
      else
        let bad : DmaDesc := { index := i, prio := 0, irq := bit ((bs.getD 0 0).toNat) 2, srcLocal := true, dstLocal := true, src := 0,
                               srcEp := 0, dst := 0, dstEp := 0, len := 0, resp := if r.1.isNone then 4 else 3, done := true }
        let d := if r.1.isNone then bad else d.getD bad
        (r.2.set p2 Eng2.DMA_TAIL_TAIL ((i + 1) % s.dmaEntries e)).setDma e ((s.engine e).dma ++ [d])
    else s
  t.dmaPump e

/-- The response to a read of descriptor `i`. -/
def dmaReadAnswered (s : State) (e i n tag code : Nat) (bs : List Byte) : State :=
  match (s.engine e).dma.find? (fun d => d.index = i && d.tag = some tag) with
  | none => s
  | some d =>
    if code ≠ 0 then s.dmaCompletes e d code
    else (s.putDma e { d with tag := none, held := bs.take n }).dmaPump e

/-- The response to a write of descriptor `i`. -/
def dmaWriteAnswered (s : State) (e i n tag code : Nat) : State :=
  match (s.engine e).dma.find? (fun d => d.index = i && d.tag = some tag) with
  | none => s
  | some d =>
    if code ≠ 0 then s.dmaCompletes e d code
    else (s.putDma e { d with tag := none, held := [], moved := d.moved + n }).dmaPump e

/-- Word 6 of a descriptor at completion (R278). -/
def dmaStatusWord (d : DmaDesc) : Nat := 2 ^ 31 + d.resp * 2 ^ 24 + d.moved

/-- The oldest descriptor's status is written back: `DMA_DONE` advances, source 3 is raised with `IRQ`, and after a failure the last
one stops the DMA (R277, R279). -/
def dmaDone (s : State) (e : Nat) : State :=
  let p2 := Pg.eng e 2
  let x := s.engine e
  match x.dma with
  | [] => s
  | d :: rest =>
    if d.done = false ∨ s.engState e = 4 then s
    else
      let t := s.portBWrite e (s.dmaAt e d.index + 24) ((leBytes 4 (dmaStatusWord d)).map some)
      let stopping := x.dmaStopping || d.resp ≠ 0
      let stopped := stopping && rest.isEmpty
      let t := t.setEngine e { t.engine e with dmaIrq := x.dmaIrq || d.irq, dmaStopping := stopping && !stopped }
      let t := (t.set p2 Eng2.DMA_DONE_DONE ((d.index + 1) % s.dmaEntries e)).setDma e rest
      if stopped then t.set p2 Eng2.DMA_STATUS_STOPPED 1 else t

end State
end Sys2Proof.Machine
end

