-- ==== Sys2Proof/Machine/EngineRun.lean ====
section
/-! DEFINITION. How an engine executes (spec/09_spindle_engines.md R255 to R273, spec/17_debug_run_control.md R511, R512): fetch, the
integer instructions of RV32IMAC, local memory, atomics, CSR instructions and the DSP extension. A function that answers none
leaves the instruction waiting: it has not executed. -/

namespace Sys2Proof.Machine

open Reg

/-! ## Integer arithmetic (RISC-V unprivileged specification; PRESUMED, log entry 24) -/

/-- The ALU operations of `funct3`; `alt` is bit 30 of the instruction. -/
def aluOf (funct3 : Nat) (alt : Bool) (a b : Word) : Word :=
  match funct3 with
  | 0 => if alt then a - b else a + b
  | 1 => a <<< (b.toNat % 32)
  | 2 => if a.toInt < b.toInt then 1 else 0
  | 3 => if a.toNat < b.toNat then 1 else 0
  | 4 => a ^^^ b
  | 5 => if alt then a.sshiftRight (b.toNat % 32) else a >>> (b.toNat % 32)
  | 6 => a ||| b
  | _ => a &&& b

/-- The M operations of `funct3`, with the results the RISC-V specification gives for a zero divisor and for overflow. -/
def mulOf (funct3 : Nat) (a b : Word) : Word :=
  let wide := fun (x y : Int) => BitVec.ofInt 64 (x * y)
  match funct3 with
  | 0 => a * b
  | 1 => ((wide a.toInt b.toInt) >>> 32).setWidth 32
  | 2 => ((wide a.toInt b.toNat) >>> 32).setWidth 32
  | 3 => ((wide a.toNat b.toNat) >>> 32).setWidth 32
  | 4 => if b = 0 then BitVec.allOnes 32 else BitVec.ofInt 32 (a.toInt.tdiv b.toInt)
  | 5 => if b = 0 then BitVec.allOnes 32 else BitVec.ofNat 32 (a.toNat / b.toNat)
  | 6 => if b = 0 then a else BitVec.ofInt 32 (a.toInt.tmod b.toInt)
  | _ => if b = 0 then a else BitVec.ofNat 32 (a.toNat % b.toNat)

/-- Whether a branch is taken. -/
def branchTaken (funct3 : Nat) (a b : Word) : Bool :=
  match funct3 with
  | 0 => a = b
  | 1 => a ≠ b
  | 4 => a.toInt < b.toInt
  | 5 => b.toInt ≤ a.toInt
  | 6 => a.toNat < b.toNat
  | _ => b.toNat ≤ a.toNat

/-- The AMO operations of funct5. -/
def amoOf (funct5 : Nat) (old x : Word) : Word :=
  match funct5 with
  | 0 => old + x
  | 1 => x
  | 4 => old ^^^ x
  | 8 => old ||| x
  | 12 => old &&& x
  | 16 => if old.toInt ≤ x.toInt then old else x
  | 20 => if old.toInt ≤ x.toInt then x else old
  | 24 => if old.toNat ≤ x.toNat then old else x
  | _ => if old.toNat ≤ x.toNat then x else old

/-- Bytes a load or store of `funct3` touches. -/
def accessSize (funct3 : Nat) : Nat := 2 ^ (funct3 % 4)

/-- Whether an address lies in the SPAD, and in the engine's own pages (R255). -/
def inSpad (addr : Nat) : Bool := 0x10000000 ≤ addr && addr < 0x10040000
def inPages (addr : Nat) : Bool := 0x20000000 ≤ addr && addr < 0x20004000

/-- `VT_TX` and `VT_RX` as the engine addresses them. -/
def vtTxAddr : Nat := 0x20003180
def vtRxAddr : Nat := 0x20003184

namespace State

/-- An integer register of an engine. -/
def xr (s : State) (e r : Nat) : Word := xreg (s.core e) r

/-- The address of a load or store. -/
def effAddr (s : State) (e rs1 : Nat) (off : Word) : Nat := (s.xr e rs1 + off).toNat

/-! ## Fetch (R255, R258, R262, R263) -/

/-- The halfword that fetch sees at an address of the IMEM; none where there is none or its word is not readable. -/
def fetchHalf (s : State) (e addr : Nat) : Option Nat :=
  if 0x10000 ≤ addr then none
  else
    let r := s.fetchWord e (addr / 8)
    if r.cls = .uncorrectable ∨ r.cls = .poison then none else some (bits r.data (8 * (addr % 8) + 15) (8 * (addr % 8)))

/-- What lies at the program counter: an instruction and its length, or the address at which its fetch faults. -/
def fetched (s : State) (e : Nat) : Except Nat (EngInstr × Nat) :=
  let pc := (s.core e).pc.toNat
  match s.fetchHalf e pc with
  | none => .error pc
  | some lo =>
    if lo % 4 ≠ 3 then .ok (decodeEng lo)
    else match s.fetchHalf e ((pc + 2) % 2 ^ 32) with
      | none => .error ((pc + 2) % 2 ^ 32)
      | some hi => .ok (decodeEng (lo + 65536 * hi))

/-- A fetch is a detecting read of the words it meets (R203, R262). -/
def fetchDetect (s : State) (e : Nat) : State :=
  let pc := (s.core e).pc.toNat
  forEach ((if pc / 8 = (pc + 2) / 8 then [pc / 8] else [pc / 8, (pc + 2) / 8]).filter (· < 8192)) (fun i t =>
    let k := wordKey (Pg.eng e 3) (engAt e 0 i).1 (engAt e 0 i).2
    if (SMap.read none t.eng.fetchOld k).isNone then (t.engRead e 0 i).2 else t) s

/-! ## Local memory (R255, R258, R261, R262) -/

/-- What a local read answers: the bytes, or the cause of its exception. -/
inductive Local
  | ok (v : Nat) (s : State)
  | fault (cause : Nat) (s : State)

/-- Read `n` bytes at an aligned local address. -/
def localRead (s : State) (e addr n : Nat) : Local :=
  match engMem addr with
  | some (b, i) =>
    let r := s.engRead e b i
    if r.1.cls = .uncorrectable ∨ r.1.cls = .poison then .fault 5 r.2
    else .ok (bits r.1.data (8 * (addr % 8) + 8 * n - 1) (8 * (addr % 8))) r.2
  | none =>
    if inPages addr then
      let r := s.busRead .skein (Pg.eng e 0 * 4096 + (addr - 0x20000000)) false
      .ok (bits r.data.toNat (8 * (addr % 4) + 8 * n - 1) (8 * (addr % 4))) r.st
    else .fault 5 s

/-- Store the low `n` bytes of a word at an aligned local address; none while `VT_TX` waits for room (R281). -/
def localStore (s : State) (e addr n : Nat) (v : Nat) : Option Local :=
  match engMem addr with
  | some (b, i) =>
    if b = 0 ∧ s.flag (Pg.eng e 0) Eng0.CTL_IMEM_WR = false then some (.fault 7 s)
    else some (.ok 0 (s.engMerge e b i ((2 ^ n - 1) * 2 ^ (addr % 8)) (BitVec.ofNat 64 (v % 2 ^ (8 * n) * 2 ^ (8 * (addr % 8)))) false))
  | none =>
    if inPages addr then
      (if addr / 4 * 4 = vtTxAddr ∧ s.flag (Pg.eng e 3) Eng3.VT_CTL_BLOCK = true ∧ 16 ≤ (s.engine e).vtOut.length then none
       else some (.ok 0 (s.busWrite .skein (Pg.eng e 0 * 4096 + (addr - 0x20000000))
          (BitVec.ofNat 32 (v % 2 ^ (8 * n) * 2 ^ (8 * (addr % 4)))) (BitVec.ofNat 4 ((2 ^ n - 1) * 2 ^ (addr % 4)))).st))
    else some (.fault 7 s)

/-- A watchpoint that an access has touched halts the engine after it (R511). -/
def watched (s : State) (e addr n : Nat) (store : Bool) : State :=
  match s.wpAt e addr n store with
  | some w => s.dbgHit e 4 w
  | none => s

/-! ## Instructions -/

/-- Loads (R258, R265). -/
def exLoad (s : State) (e len funct3 rd rs1 : Nat) (off : Word) : Option State :=
  let addr := s.effAddr e rs1 off
  let n := accessSize funct3
  if addr % n ≠ 0 then some (s.except e 4 addr)
  else match windowOf addr with
    | some w =>
      if s.flag (Pg.eng e 0) Eng0.ENG_WIN_CTL_EN w = false then some (s.except e 5 addr)
      else (s.remoteLoads e funct3 rd w addr len).map (fun t => t.watched e addr n false)
    | none =>
      match s.localRead e addr n with
      | .ok v t => some (((t.writeX e rd (loadPart (if funct3 = 2 then 2 else funct3) 0 v)).retireLen e len).watched e addr n false)
      | .fault c t => some (t.except e c addr)

/-- Stores (R255, R258, R265). -/
def exStore (s : State) (e len funct3 rs1 rs2 : Nat) (off : Word) : Option State :=
  let addr := s.effAddr e rs1 off
  let n := accessSize funct3
  let v := (s.xr e rs2).toNat
  if addr % n ≠ 0 then some (s.except e 6 addr)
  else match windowOf addr with
    | some w =>
      if s.flag (Pg.eng e 0) Eng0.ENG_WIN_CTL_EN w = false then some (s.except e 7 addr)
      else (s.remoteStores e w addr (leBytes n v)).map (fun t => (t.retireLen e len).watched e addr n true)
    | none =>
      (s.localStore e addr n v).map (fun r => match r with
        | .ok _ t => (t.retireLen e len).watched e addr n true
        | .fault c t => t.except e c addr)

/-- LR.W (R259). -/
def exLr (s : State) (e len rd rs1 : Nat) : State :=
  let addr := (s.xr e rs1).toNat
  if addr % 4 ≠ 0 then s.except e 4 addr
  else if inSpad addr = false then s.except e 5 addr
  else match s.localRead e addr 4 with
    | .ok v t =>
      let t := t.writeX e rd (BitVec.ofNat 32 v)
      ((t.setCore e { t.core e with resv := some ((addr - 0x10000000) / 8) }).retireLen e len).watched e addr 4 false
    | .fault c t => t.except e c addr

/-- SC.W: 0 in rd when it stores, 1 when it fails; the reservation ends (R259). -/
def exSc (s : State) (e len rd rs1 rs2 : Nat) : State :=
  let addr := (s.xr e rs1).toNat
  if addr % 4 ≠ 0 then s.except e 6 addr
  else if inSpad addr = false then s.except e 7 addr
  else
    let i := (addr - 0x10000000) / 8
    let good := (s.core e).resv = some i
    let t := s.setCore e { s.core e with resv := none }
    let t := if good then
        t.engMerge e 1 i (15 * 2 ^ (addr % 8)) (BitVec.ofNat 64 ((s.xr e rs2).toNat * 2 ^ (8 * (addr % 8)))) false
      else t
    let t := (t.writeX e rd (if good then 0 else 1)).retireLen e len
    if good then t.watched e addr 4 true else t

/-- The AMO instructions, never split (R260). -/
def exAmo (s : State) (e len funct5 rd rs1 rs2 : Nat) : State :=
  let addr := (s.xr e rs1).toNat
  if addr % 4 ≠ 0 then s.except e 6 addr
  else if inSpad addr = false then s.except e 7 addr
  else match s.localRead e addr 4 with
    | .ok v t =>
      let new := amoOf funct5 (BitVec.ofNat 32 v) (s.xr e rs2)
      let t := t.engMerge e 1 ((addr - 0x10000000) / 8) (15 * 2 ^ (addr % 8)) (BitVec.ofNat 64 (new.toNat * 2 ^ (8 * (addr % 8)))) false
      ((t.writeX e rd (BitVec.ofNat 32 v)).retireLen e len).watched e addr 4 true
    | .fault _ t => t.except e 7 addr

/-- An illegal instruction. -/
def exIllegal (s : State) (e : Nat) : State := s.except e 2 (Config.illegalTval e)

/-- CSR instructions (R257, R268, R272): read, then written. `ICLAIM` acts when it is read, `ICOMPLETE` when it is written. -/
def exCsr (s : State) (e len funct3 rd src num : Nat) : State :=
  let writes := funct3 % 4 = 1 ∨ src ≠ 0
  match s.csrGet e num with
  | none => s.exIllegal e
  | some old =>
    if writes ∧ bits num 11 10 = 3 then s.exIllegal e
    else
      let x : Word := if 4 ≤ funct3 then BitVec.ofNat 32 src else s.xr e src
      let new : Word := if funct3 % 4 = 1 then x else if funct3 % 4 = 2 then old ||| x else old &&& ~~~x
      let reads := !(funct3 % 4 = 1 && rd = 0)
      let t := if num = 0x7E0 ∧ reads = true then s.iclaim e else s
      let t := (t.writeX e rd old).retireLen e len
      if writes then t.csrPut e num new else t

/-- EBREAK (R283). -/
def exEbreak (s : State) (e len : Nat) : State :=
  if s.flag (Pg.eng e 0) Eng0.CTL_EBREAK_HALT then (s.retireLen e len).haltRequest e 2
  else s.except e 3 (Config.ebreakTval e)

/-! ## The DSP extension (R267 to R270) -/

/-- An operand of a fractional operation. -/
def fracOf (x : Word) : Int := signed 27 ((x.sshiftRight 5).toNat)

/-- The address generator's pointer after a post-modify; free where its mode's conditions on `L` and `B` fail (R270). -/
def agNext (s : State) (e n : Nat) : Word × State :=
  let c := s.core e
  let p := (c.wordCsr (0x7C4 + n)).toNat
  let b := 0x10000000 + (c.wordCsr (0x7C8 + n)).toNat
  let len := (c.wordCsr (0x7CC + n)).toNat
  let l := len % 2 ^ 18
  let step := (c.wordCsr (0x7D0 + n)).toInt
  let mode := len / 2 ^ 30
  let k := Nat.log2 (l / 4)
  if mode = 0 then (BitVec.ofInt 32 (p + step), s)
  else if mode = 1 ∧ l ≠ 0 then (BitVec.ofInt 32 (b + ((p : Int) - b + step) % l), s)
  else if mode = 2 ∧ l ≠ 0 ∧ l = 4 * 2 ^ k ∧ b % l = 0 then
    let o := wrap k (((p : Int) - b) / 4)
    (BitVec.ofNat 32 (b + 4 * rev (wrap k ((rev o k : Nat) + step / 4)) k), s)
  else (BitVec.ofNat 32 s.freeVal, s.took)

/-- Post-modify pointer `n`. -/
def postModify (s : State) (e n : Nat) : State :=
  let r := s.agNext e n
  r.2.setCore e ((r.2.core e).setWordCsr (0x7C4 + n) r.1)

def setAcc (s : State) (e a : Nat) (x : Acc) : State := s.setCore e ((s.core e).setAcc a x)

/-- `SCALE`, `RND_POS`, `SAT_W` and `ACC_WRAP` of `DSPCFGa`. -/
def dspcfg (s : State) (e a : Nat) : Nat := ((s.core e).wordCsr (0x7C0 + a)).toNat

/-- `DMOV`: the move of an accumulator, with its `EXPC` and `LIM` (R237, R240). -/
def dspMove (s : State) (e a : Nat) : MoveOut :=
  let g := s.dspcfg e a
  ((s.core e).acc a).move (bits g 7 6) (bits g 5 0) (bits g 12 8)

def setMoved (s : State) (e a : Nat) (m : MoveOut) : State :=
  let c := s.core e
  s.setCore e (if a = 0 then { c with expc0 := m.expc, lim0 := m.lim } else { c with expc1 := m.expc, lim1 := m.lim })

/-- Accumulate a product: 0 loads it, 1 adds, 2 subtracts (R235, R236). -/
def accumulate (s : State) (e a kind : Nat) (p : Int) : State :=
  let x := (s.core e).acc a
  let w := bit (s.dspcfg e a) 13
  s.setAcc e a (if kind = 0 then Acc.load p else if kind = 1 then x.put w (x.value + p) else x.put w (x.value - p))

/-- The product operations with rs1 and the word at pointer `n`. -/
def dspFromMemory (s : State) (e len a kind rs1 n : Nat) : State :=
  let addr := ((s.core e).wordCsr (0x7C4 + n)).toNat
  if inSpad addr = false then s.except e 5 addr
  else if addr % 4 ≠ 0 then s.except e 4 addr
  else match s.localRead e addr 4 with
    | .ok v t =>
      let p := product false (fracOf (s.xr e rs1)) (fracOf (BitVec.ofNat 32 v))
      (((t.accumulate e a kind p).postModify e n).retireLen e len).watched e addr 4 false
    | .fault c t => t.except e c addr

def dspFrac (s : State) (e len a kind rs1 rs2 : Nat) : State :=
  (s.accumulate e a kind (product false (fracOf (s.xr e rs1)) (fracOf (s.xr e rs2)))).retireLen e len

def dspInt (s : State) (e len a kind rs1 rs2 : Nat) : State :=
  (s.accumulate e a kind ((s.xr e rs1).toInt * (s.xr e rs2).toInt)).retireLen e len

/-- A DSP instruction (R269). -/
def exDsp (s : State) (e len : Nat) (op : DspInstr) (a rd rs1 rs2 n : Nat) : State :=
  let c := s.core e
  let x := c.acc a
  match op with
  | .dmul => s.dspFrac e len a 0 rs1 rs2
  | .dmac => s.dspFrac e len a 1 rs1 rs2
  | .dmsu => s.dspFrac e len a 2 rs1 rs2
  | .dmuli => s.dspInt e len a 0 rs1 rs2
  | .dmaci => s.dspInt e len a 1 rs1 rs2
  | .dmsui => s.dspInt e len a 2 rs1 rs2
  | .dclr => (s.setAcc e a {}).retireLen e len
  | .dnorm => (s.setAcc e a x.norm).retireLen e len
  | .dmov =>
    let m := s.dspMove e a
    ((s.setMoved e a m).writeX e rd (m.y.setWidth 32)).retireLen e len
  | .dexpc => (s.writeX e rd (BitVec.ofNat 32 (redundant x.acc.toNat))).retireLen e len
  | .drdlo => (s.writeX e rd (x.acc.setWidth 32)).retireLen e len
  | .drdhi => (s.writeX e rd ((x.acc >>> 32).setWidth 32)).retireLen e len
  | .dwracc =>
    (s.setAcc e a { x with acc := BitVec.ofNat 64 ((s.xr e rs2).toNat * 2 ^ 32 + (s.xr e rs1).toNat), ov := false }).retireLen e len
  | .dadda => (s.setAcc e a (x.put (bit (s.dspcfg e a) 13) (x.value + (c.acc (1 - a)).value))).retireLen e len
  | .dldp =>
    let addr := (c.wordCsr (0x7C4 + n)).toNat
    if inSpad addr = false then s.except e 5 addr
    else if addr % 4 ≠ 0 then s.except e 4 addr
    else match s.localRead e addr 4 with
      | .ok v t => (((t.writeX e rd (BitVec.ofNat 32 v)).postModify e n).retireLen e len).watched e addr 4 false
      | .fault c t => t.except e c addr
  | .dstp =>
    let addr := (c.wordCsr (0x7C4 + n)).toNat
    if inSpad addr = false then s.except e 7 addr
    else if addr % 4 ≠ 0 then s.except e 6 addr
    else
      let t := s.engMerge e 1 ((addr - 0x10000000) / 8) (15 * 2 ^ (addr % 8)) (BitVec.ofNat 64 ((s.xr e rs1).toNat * 2 ^ (8 * (addr % 8)))) false
      ((t.postModify e n).retireLen e len).watched e addr 4 true
  | .dmacl => s.dspFromMemory e len a 1 rs1 n
  | .dmsul => s.dspFromMemory e len a 2 rs1 n
  | .dmull => s.dspFromMemory e len a 0 rs1 n

/-! ## One instruction -/

/-- An integer instruction that touches no memory and no CSR. -/
def exInt (s : State) (e len : Nat) (i : EngInstr) : State :=
  let c := s.core e
  let next := c.pc + BitVec.ofNat 32 len
  match i with
  | .lui rd imm => (s.writeX e rd imm).retire e next
  | .auipc rd imm => (s.writeX e rd (c.pc + imm)).retire e next
  | .jal rd off => (s.writeX e rd next).retire e (c.pc + off)
  | .jalr rd rs1 off =>
    let target := BitVec.ofNat 32 ((s.xr e rs1 + off).toNat / 2 * 2)
    (s.writeX e rd next).retire e target
  | .branch f3 rs1 rs2 off => s.retire e (if branchTaken f3 (s.xr e rs1) (s.xr e rs2) then c.pc + off else next)
  | .alu f3 alt rd rs1 rs2 => (s.writeX e rd (aluOf f3 alt (s.xr e rs1) (s.xr e rs2))).retire e next
  | .aluImm f3 alt rd rs1 imm => (s.writeX e rd (aluOf f3 alt (s.xr e rs1) imm)).retire e next
  | .mul f3 rd rs1 rs2 => (s.writeX e rd (mulOf f3 (s.xr e rs1) (s.xr e rs2))).retire e next
  | .ecall => s.except e 11 0
  | .mret => (s.setCore e { c with mie := c.mpie, mpie := true }).retire e c.mepc
  | .wfi => s.retire e next
  | _ => s.exIllegal e

/-- Execute an instruction of `len` bytes; none while it must wait. -/
def exInstr (s : State) (e len : Nat) (i : EngInstr) : Option State :=
  match i with
  | .load f3 rd rs1 off => s.exLoad e len f3 rd rs1 off
  | .store f3 rs1 rs2 off => s.exStore e len f3 rs1 rs2 off
  | .lr rd rs1 => some (s.exLr e len rd rs1)
  | .sc rd rs1 rs2 => some (s.exSc e len rd rs1 rs2)
  | .amo f5 rd rs1 rs2 => some (s.exAmo e len f5 rd rs1 rs2)
  | .fence => if (s.engine e).stores = [] ∧ (s.engine e).posted = [] then some (s.retireLen e len) else none
  | .fenceI => some ((s.fenceI e).retireLen e len)
  | .ebreak => some (s.exEbreak e len)
  | .csr f3 rd src num => some (s.exCsr e len f3 rd src num)
  | .dsp op a rd rs1 rs2 n => some (s.exDsp e len op a rd rs1 rs2 n)
  | i => some (s.exInt e len i)

/-- Whether an engine can execute its next instruction now (R282, R463). -/
def mayRun (s : State) (e : Nat) : Bool :=
  isEngine e && s.engState e = 2 && (s.engine e).load.isNone && !s.clock.stopped && s.domOn (pageDomain (Pg.eng e 0))

/-- After an instruction: a breakpoint passed at the start may hit again, and a step ends (R511, R512). -/
def executed (s : State) (e : Nat) : State := (s.setPassed e false).dbgStepped e

/-- The integer registers that an instruction reads. -/
def regsRead (i : EngInstr) : List Nat :=
  match i with
  | .jalr _ rs1 _ | .load _ _ rs1 _ | .aluImm _ _ _ rs1 _ | .lr _ rs1 => [rs1]
  | .branch _ rs1 rs2 _ | .store _ rs1 rs2 _ | .alu _ _ _ rs1 rs2 | .mul _ _ rs1 rs2 | .sc _ rs1 rs2 | .amo _ _ rs1 rs2 => [rs1, rs2]
  | .csr f3 _ src _ => if f3 < 4 then [src] else []
  | .dsp _ _ _ rs1 rs2 _ => [rs1, rs2]
  | _ => []

/-- The local address whose word an instruction reads into a register or an accumulator, if any. -/
def wordRead (s : State) (e : Nat) (i : EngInstr) : Option Nat :=
  match i with
  | .load _ _ rs1 off => some (s.effAddr e rs1 off)
  | .lr _ rs1 | .amo _ _ rs1 _ => some (s.xr e rs1).toNat
  | .dsp .dldp _ _ _ _ n | .dsp .dmacl _ _ _ _ n | .dsp .dmsul _ _ _ _ n | .dsp .dmull _ _ _ _ n =>
    some ((s.core e).wordCsr (0x7C4 + n)).toNat
  | _ => none

/-- What an engine makes of a word read: its data, or nothing for one that is not readable. -/
def seenWord (r : WordRead) : Option Nat := if r.cls = .uncorrectable ∨ r.cls = .poison then none else some r.data

/-- Whether the two engines of a pair differ at the next commit: `LS_INJECT` forces it, or a word that both fetch or read is not the same to
both (R285, R286). A mismatch of any other cause is a LOCKSTEP_MISMATCH of its own. -/
def commitDiffers (s : State) (e : Nat) : Bool :=
  match s.checkerOf e with
  | none => false
  | some c =>
    let pc := (s.core e).pc.toNat
    let fetches := [pc / 8, (pc + 2) % 2 ^ 32 / 8].filter (· < 8192)
    let reads := match s.fetched e with
      | .ok (i, _) => (match s.wordRead e i with | some a => (engMem a).toList | none => [])
      | .error _ => []
    s.flag (Pg.eng e 0) Eng0.ENG_TEST_LS_INJECT || s.flag (Pg.eng c 0) Eng0.ENG_TEST_LS_INJECT ||
    fetches.any (fun i => seenWord (s.fetchWord e i) ≠ seenWord (s.fetchWord c i)) ||
    reads.any (fun x => seenWord (s.look (Pg.eng e 3) (engAt e x.1 x.2).1 (engAt e x.1 x.2).2) ≠
      seenWord (s.look (Pg.eng c 3) (engAt c x.1 x.2).1 (engAt c x.1 x.2).2))

/-- The engine executes the instruction at its program counter if `p` admits it: a breakpoint there comes first; a fetch that
fails raises an instruction access fault, which `p` sees as an illegal instruction. What the engines of a pair differ in does not
commit (R286). -/
def engStep (s : State) (e : Nat) (p : EngInstr → Bool) : State :=
  if s.mayRun e = false ∨ (s.bpAt e).isSome ∨ s.commitDiffers e = true then s
  else
    match s.fetched e with
    | .error addr => if p .illegal then ((s.fetchDetect e).except e 1 addr).executed e else s
    | .ok (i, len) =>
      if p i then
        match (forEach (regsRead i) (fun r u => u.rfRead e r) (s.fetchDetect e)).exInstr e len i with
        | some t => t.executed e
        | none => s
      else s

/-! ## Which row of the table an instruction is -/

/-- A load or store through a remote window. -/
def isRemote (s : State) (e : Nat) (i : EngInstr) : Bool :=
  match i with
  | .load _ _ rs1 off => (windowOf (s.effAddr e rs1 off)).isSome
  | .store _ rs1 _ off => (windowOf (s.effAddr e rs1 off)).isSome
  | _ => false

def isLoad (i : EngInstr) : Bool := match i with | .load .. => true | _ => false
def isStore (i : EngInstr) : Bool := match i with | .store .. => true | _ => false

/-- INTEGER_INSTRUCTION: none of the other rows. -/
def isInteger (i : EngInstr) : Bool :=
  match i with
  | .load .. | .store .. | .lr .. | .sc .. | .amo .. | .fence | .fenceI | .ebreak | .csr .. | .dsp .. => false
  | _ => true

/-- A DSP instruction of an operation. -/
def isDsp (op : DspInstr) (i : EngInstr) : Bool := match i with | .dsp o .. => o = op | _ => false

/-- Whether an instruction is a load or store whose access a watchpoint watches. -/
def isWatched (s : State) (e : Nat) (i : EngInstr) : Bool :=
  match i with
  | .load f3 _ rs1 off => (s.wpAt e (s.effAddr e rs1 off) (accessSize f3) false).isSome
  | .store f3 rs1 _ off => (s.wpAt e (s.effAddr e rs1 off) (accessSize f3) true).isSome
  | .lr _ rs1 => (s.wpAt e (s.xr e rs1).toNat 4 false).isSome
  | .sc _ rs1 _ | .amo _ _ rs1 _ => (s.wpAt e (s.xr e rs1).toNat 4 true).isSome
  | .dsp .dldp _ _ _ _ n | .dsp .dmacl _ _ _ _ n | .dsp .dmsul _ _ _ _ n | .dsp .dmull _ _ _ _ n =>
    (s.wpAt e ((s.core e).wordCsr (0x7C4 + n)).toNat 4 false).isSome
  | .dsp .dstp _ _ _ _ n => (s.wpAt e ((s.core e).wordCsr (0x7C4 + n)).toNat 4 true).isSome
  | _ => false

/-- Whether the engine takes an interrupt now; a step admits one only with `STEP_IRQ` (R272, R512). -/
def takesIrq (s : State) (e : Nat) : Bool :=
  s.mayRun e && (s.core e).mie && (s.core e).meie && s.meip e &&
  (!(s.engine e).stepping || s.flag (Pg.eng e 0) Eng0.ENG_DBG_CTL_STEP_IRQ)

/-- The interrupt is taken (R272). -/
def irqTaken (s : State) (e : Nat) : State := if s.takesIrq e then (s.except e 0x8000000B 0).executed e else s

/-- One step of an engine that steps: a pending interrupt that the step admits, or the instruction (R512). -/
def stepOnce (s : State) (e : Nat) : State :=
  if (s.engine e).stepping = false then s
  else if s.takesIrq e then s.irqTaken e
  else s.engStep e (fun _ => true)

end State
end Sys2Proof.Machine
end

