-- ==== Sys2Proof/Machine/SkeinTargets.lean ====
section
/-! DEFINITION. What endpoints do with requests and responses (spec/10_skein_network.md R298 to R300, R307 to R310): engine memories, the
aperture target, crypto engines, lane adapters, and the receivers of messages; and what a source does with an answer or with an
expiry. -/

namespace Sys2Proof.Machine

open Reg

/-- Classes that R298 lists. -/
def classListed (c : Nat) : Bool := (1 ≤ c && c ≤ 6) || c = 8 || c = 9

namespace State

/-- Refuse a request with a Skein code. -/
def nak (s : State) (e : Nat) (f : Flit) (code : Nat) : State := s.respond e (statusTo f code false)

/-- Whether a hard endpoint serves now: networks run, its port is not ASLEEP, and an engine is not being copied (R287, R317, R463). -/
def serves (s : State) (e : Nat) : Bool :=
  isEndpoint e && epType e ≠ 1 && !s.clock.stopped && s.portState' e ≠ 2 && !(epType e = 2 && s.engState (epEngine e) = 4)

/-! ## Reads and writes at a target (R299) -/

/-- Whether an engine's memories hold `n` bytes from an offset (R255, R262; log entry 26). -/
def engHolds (off n : Nat) : Bool := (engMem off).isSome && (engMem (off + n - 1)).isSome

/-- An RD at an engine: port B reads; an unreadable word answers `ERR_POISON` (R262). -/
def engineServesRead (s : State) (e : Nat) (f : Flit) : State :=
  let off := cmdOffset f
  if engHolds off (cmdLen f) then
    let r := s.portBRead (epEngine e) off (cmdLen f)
    match r.1 with
    | some bs => r.2.respond e (rdataTo f bs)
    | none => r.2.nak e f 4
  else s.nak e f 3

/-- Whether the aperture target performs an access: none, or the code it answers (R299). -/
def apertureCode (off n : Nat) : Option Nat :=
  if 0x3FFFFFF < off then some 2 else if (n = 4 ∧ off % 4 = 0) ∨ (n = 8 ∧ off % 8 = 0) then none else some 3

/-- An RD at the aperture target: one or two word accesses, never with PEEK (R59, R61, R299). -/
def apertureServesRead (s : State) (e : Nat) (f : Flit) : State :=
  let off := cmdOffset f
  match apertureCode off (cmdLen f) with
  | some code => s.nak e f code
  | none =>
    let a := s.busRead .skein off false
    let b := if cmdLen f = 8 then a.st.busRead .skein (off + 4) false else { st := a.st, off := a.off }
    if a.off || b.off then b.st.nak e f 1
    else b.st.respond e (rdataTo f ((leBytes 4 a.data.toNat ++ leBytes 4 b.data.toNat).take (cmdLen f)))

/-- A WRS at the aperture target. -/
def apertureServesWrite (s : State) (e : Nat) (f : Flit) : State :=
  let off := cmdOffset f
  match apertureCode off (cmdLen f) with
  | some code => s.nak e f code
  | none =>
    let a := s.busWrite .skein off (BitVec.ofNat 32 (bits f.data.toNat 95 64))
    let b := if cmdLen f = 8 then a.st.busWrite .skein (off + 4) (BitVec.ofNat 32 (bits f.data.toNat 127 96)) else { st := a.st, off := a.off }
    if a.off || b.off then b.st.nak e f 1 else b.st.nak e f 0

/-- Serve an RD. -/
def servesRead (s : State) (e : Nat) (f : Flit) (upsets : List Nat) : State :=
  if cmdReserved f ≠ 0 ∨ 64 < cmdOffset f % 64 + cmdLen f then s.nak e f 3
  else if epType e = 2 then s.engineServesRead e f
  else if epType e = 3 then s.cryptoServesRead (cryptoChannel e) f upsets
  else if epType e = 6 then s.apertureServesRead e f
  else s.nak e f 3

/-- A write at an engine: port B takes it. A merge write that finds its word unreadable presents that read, which answers `ERR_POISON` (R184,
R185, R262). -/
def engineServesWrite (s : State) (e : Nat) (f : Flit) (bs : List (Option Byte)) : State :=
  let k := epEngine e
  if engHolds (cmdOffset f) bs.length then
    (s.portBWrite k (cmdOffset f) bs).nak e f (if s.portBMergeBad k (cmdOffset f) bs then 4 else 0)
  else s.nak e f 3

/-- Serve a WRS. -/
def servesShort (s : State) (e : Nat) (f : Flit) (upsets : List Nat) : State :=
  if cmdReserved f ≠ 0 ∨ 56 < cmdLen f then s.nak e f 3
  else if epType e = 2 then s.engineServesWrite e f ((((leBytes 64 f.data.toNat).drop 8).take (cmdLen f)).map some)
  else if epType e = 3 then s.cryptoServesShort (cryptoChannel e) f upsets
  else if epType e = 6 then s.apertureServesWrite e f
  else s.nak e f 3

/-- The 64 bytes of a line write, each with its enable. -/
def maskedBytes (mask data : Nat) : List (Option Byte) :=
  (List.range 64).map (fun k => if bit mask k then some (BitVec.ofNat 8 (data / 2 ^ (8 * k))) else none)

/-- Serve a line write: its WRA and its WRD. -/
def servesPair (s : State) (e : Nat) (a d : Flit) (upsets : List Nat) : State :=
  if cmdReserved a ≠ 0 ∨ cmdLen a ≠ 64 ∨ cmdOffset a % 64 ≠ 0 then s.nak e a 3
  else if epType e = 2 then s.engineServesWrite e a (maskedBytes (pairMask a).toNat d.data.toNat)
  else if epType e = 3 then s.cryptoServesPair (cryptoChannel e) a d upsets
  else if epType e = 6 then s.nak e a (if 0x3FFFFFF < cmdOffset a then 2 else 3)
  else s.nak e a 3

/-! ## A target takes the request at the head of its queue -/

/-- The head request if it is of a class and the endpoint serves. -/
def headOf (s : State) (e : Nat) (p : Nat → Bool) : Option Flit :=
  if s.serves e then (s.headRequest e).filter (fun f => p (hdrClass f)) else none

/-- SKEIN_RD; a request of a reserved class at the head is answered here (R298). -/
def takeRead (s : State) (e : Nat) (upsets : List Nat) : State :=
  match s.headOf e (fun c => c = 1 || !(classListed c)) with
  | none => s
  | some f => if hdrClass f = 1 then (s.popRequest e).servesRead e f upsets else (s.popRequest e).nak e f 3

/-- SKEIN_WRS. -/
def takeShort (s : State) (e : Nat) (upsets : List Nat) : State :=
  match s.headOf e (fun c => c = 2) with
  | none => s
  | some f => (s.popRequest e).servesShort e f upsets

/-- SKEIN_WRA and SKEIN_WRD: the first flit of a pair is held, the second makes it whole; two of one kind under one tag are a
malformed request (R298, R299). -/
def takePart (s : State) (e cls : Nat) (upsets : List Nat) : State :=
  match s.headOf e (fun c => c = cls) with
  | none => s
  | some f =>
    let t := s.popRequest e
    match t.pairPartner e f with
    | some g => if hdrClass f = 3 then (t.dropPartner e f).servesPair e f g upsets else (t.dropPartner e f).servesPair e g f upsets
    | none =>
      if (s.skEnd e).lone.any (fun l => l.src = hdrSrc f && l.tag = hdrTag f) then (t.dropPartner e f).nak e f 3 else t.holdLone e f

/-- SKEIN_MSG and SKEIN_MSG_RETRY: a lane adapter takes a RELEASE, engines and the management cores receive the message, marked when
it is a retry, other targets refuse it (R298, R309, R345). -/
def takeMessage (s : State) (e : Nat) (retry : Bool) : State :=
  match s.headOf e (fun c => c = if retry then 6 else 5) with
  | none => s
  | some f =>
    let t := s.popRequest e
    if epType e = 5 then t.releaseArrives (epDie e) (epX e) f retry
    else if epType e = 2 ∨ epType e = 10 then
      (t.setSkEnd e { t.skEnd e with inbox := (t.skEnd e).inbox ++ [(retry, f)] }).nak e f 0
    else t.nak e f 3

/-! ## Responses and expiries at a source (R266, R279, R309, R310, R347, R516) -/

/-- A request has ended with a code and, for a read, its bytes: what its source does. -/
def answered (s : State) (e : Nat) (r : SkReq) (code : Nat) (bs : List Byte) (timedOut : Bool) : State :=
  match r.use with
  | .load => (s.loadAnswered (epEngine e) r.tag code bs).storesGo (epEngine e)
  | .store w => (s.storeAnswered (epEngine e) r.tag w code).storesGo (epEngine e)
  | .dmaRead i n => (s.dmaReadAnswered (epEngine e) i n r.tag code bs).storesGo (epEngine e)
  | .dmaWrite i n => (s.dmaWriteAnswered (epEngine e) i n r.tag code).storesGo (epEngine e)
  | .fabric => s
  | .debug k n => s.dmResponse k n code (bs.take n)
  | .forgotten => s.dmCode code
  | .release => s.releaseEnds (Pg.adapter (epDie e) (epX e)) code timedOut

/-- The response at the head of an endpoint's queue, if the endpoint is a hard one that takes it. -/
def headResponse (s : State) (e : Nat) : Option (Bool × Flit) :=
  if isEndpoint e && epType e ≠ 1 && !s.clock.stopped then (s.skEnd e).respQ.head? else none

/-- The endpoint takes the response at the head of its queue. -/
def takeAnswer (s : State) (e : Nat) (p : Flit → Bool) : State :=
  match s.headResponse e with
  | none => s
  | some (ok, f) =>
    if p f then
      let r := s.takeResponse e (ok, f)
      match r.1 with
      | some q => r.2.answered e q (if hdrClass f = 8 then 0 else f.data.toNat % 8) (leBytes 64 f.data.toNat) false
      | none => r.2
    else s

/-- Whether a flit answers a window access of the engine's core. -/
def answersWindow (s : State) (e : Nat) (f : Flit) : Bool :=
  match (s.skEnd e).outstanding.find? (fun r => r.tag = hdrTag f) with
  | some r => (match r.use with | .load | .store _ => true | _ => false)
  | none => false

/-- An outstanding request expires: a hard endpoint sends it once more, and at the second expiry it ends; a fabric attach port delivers
the expiry (R309, R312). -/
def requestExpires (s : State) (e tag : Nat) : State :=
  let x := s.skEnd e
  match (s.inFlight e).find? (fun r => r.tag = tag), s.clock.stopped with
  | some r, false =>
    if epType e = 1 then
      let t := s.endRequest e r true
      match r.flits.head? with
      | some f => t.setSkEnd e { t.skEnd e with respQ := (t.skEnd e).respQ ++ [(true, statusTo f 5 false)] }
      | none => t
    else if r.retried = false then
      s.setSkEnd e { x with
        txQ := x.txQ ++ r.flits.map retryOf
        outstanding := x.outstanding.map (fun q => if q.tag = tag then { q with retried := true } else q) }
    else
      let page := epPage e
      let t := ((s.endRequest e r true).count page Router.SKR_EP_ERR_LASTING 1 (epPort e)).setInt page Router.INT_TIMEOUT_LASTING
      let t := t.event 0x4002 3 page (((r.flits.head?.map (fun f => f.hdr.toNat)).getD 0) % 2 ^ 32)
      t.answered e r 5 [] true
  | _, _ => s

end State
end Sys2Proof.Machine
end

