-- ==== Sys2Proof/Machine/EngineCmds.lean ====
section
/-! DEFINITION. The meanings of the Spindle engines' commands (spec/09_spindle_engines.md, spec/17_debug_run_control.md R511 to R515).
An instruction's command executes the instruction at the engine's program counter when it is one of its row (`engStep`). -/

namespace Sys2Proof.Machine

open Reg

namespace State

/-- Whether the engine is at an instruction that accesses `addr` as a load, or as a store with this low byte (R281). -/
def atVtRx (s : State) (e : Nat) (i : EngInstr) : Bool :=
  match i with
  | .load _ _ rs1 off => s.effAddr e rs1 off = vtRxAddr
  | _ => false
def atVtTx (s : State) (e : Nat) (b : Byte) (i : EngInstr) : Bool :=
  match i with
  | .store _ rs1 rs2 off => s.effAddr e rs1 off = vtTxAddr && (s.xr e rs2).setWidth 8 = b
  | _ => false

/-- A breakpoint halts the engine before the instruction at its program counter (R511). -/
def breaks (s : State) (e : Nat) : State :=
  match s.bpAt e with
  | some n => if s.mayRun e then s.dbgHit e 3 n else s
  | none => s

/-- The file's code of a register reads wrong: its flip ends with the rewrite (R264). -/
def rfFails (s : State) (e reg : Nat) (correctable clean : Bool) : State :=
  let t := s.rfError e correctable clean
  t.setEngine e { t.engine e with rfFlipped := (t.engine e).rfFlipped.filter (fun y => y.1 ≠ reg) }

/-- `ENG_DBG_REGDATA` is written, or read (R513). -/
def regData (s : State) (o : Origin) (e : Nat) : Option Word → State
  | some v => s.writeReg o (Pg.eng e 0) 0x444 v
  | none => s.readReg o (Pg.eng e 0) 0x444 false

/-- A substitution is asked for: by a write of `ENG_CTL`, or by self-test (R287, R288, R571). -/
def substAsked (s : State) (e : Nat) : Option (Origin × Word) → State
  | some (o, w) => s.writeReg o (Pg.eng e 0) 0x010 w
  | none => s.substitute e .config false

end State

/-- A command of an engine. -/
def onEngine (e : Nat) (t u : State) : Out := onPart (isEngine e) t u

/-- A write of an engine page's register by an origin. -/
def engWrite (o : Origin) (e k off : Nat) (value : Word) (t : State) : Out := onEngine e t (t.writeReg o (Pg.eng e k) off value)

/-- INTEGER_INSTRUCTION (R256, R257; RV32IMAC). -/
def execIntegerInstruction (e : Nat) (t : State) : Out := onEngine e t (t.engStep e State.isInteger)

/-- ENGINE_LOAD (R258). -/
def execEngineLoad (e : Nat) (t : State) : Out := onEngine e t (t.engStep e (fun i => State.isLoad i && !(t.isRemote e i)))

/-- ENGINE_STORE (R258). -/
def execEngineStore (e : Nat) (t : State) : Out := onEngine e t (t.engStep e (fun i => State.isStore i && !(t.isRemote e i)))

/-- LR_W (R259). -/
def execLrW (e : Nat) (t : State) : Out := onEngine e t (t.engStep e (fun i => match i with | .lr .. => true | _ => false))

/-- SC_W (R259). -/
def execScW (e : Nat) (t : State) : Out := onEngine e t (t.engStep e (fun i => match i with | .sc .. => true | _ => false))

/-- AMOADD_W (R260). -/
def execAmoaddW (e : Nat) (t : State) : Out := onEngine e t (t.engStep e (fun i => match i with | .amo f _ _ _ => f = 0 | _ => false))

/-- AMO (R260). -/
def execAmo (e : Nat) (t : State) : Out := onEngine e t (t.engStep e (fun i => match i with | .amo f _ _ _ => f ≠ 0 | _ => false))

/-- FENCE (R261). -/
def execFence (e : Nat) (t : State) : Out := onEngine e t (t.engStep e (fun i => i = .fence))

/-- FENCE_I (R263). -/
def execFenceI (e : Nat) (t : State) : Out := onEngine e t (t.engStep e (fun i => i = .fenceI))

/-- EBREAK (R283). -/
def execEbreak (e : Nat) (t : State) : Out := onEngine e t (t.engStep e (fun i => i = .ebreak))

/-- CSR_ACCESS (R257): a CSR other than `ICLAIM` and `ICOMPLETE`. -/
def execCsrAccess (e : Nat) (t : State) : Out :=
  onEngine e t (t.engStep e (fun i => match i with | .csr _ _ _ n => n ≠ 0x7E0 && n ≠ 0x7E1 | _ => false))

/-- ICLAIM (R272). -/
def execIclaim (e : Nat) (t : State) : Out :=
  onEngine e t (t.engStep e (fun i => match i with | .csr _ _ _ n => n = 0x7E0 | _ => false))

/-- ICOMPLETE (R272). -/
def execIcomplete (e : Nat) (t : State) : Out :=
  onEngine e t (t.engStep e (fun i => match i with | .csr _ _ _ n => n = 0x7E1 | _ => false))

/-- INTERRUPT_TAKE (R273). -/
def execInterruptTake (e : Nat) (t : State) : Out := onEngine e t (t.irqTaken e)

/-- DOORBELL_SET (R272). -/
def execDoorbellSet (o : Origin) (e : Nat) (value : Word) (t : State) : Out := engWrite o e 1 0x184 value t

/-- DMUL (R269). -/
def execDmul (e : Nat) (t : State) : Out := onEngine e t (t.engStep e (State.isDsp .dmul))

/-- DMAC (R269). -/
def execDmac (e : Nat) (t : State) : Out := onEngine e t (t.engStep e (State.isDsp .dmac))

/-- DMSU (R269). -/
def execDmsu (e : Nat) (t : State) : Out := onEngine e t (t.engStep e (State.isDsp .dmsu))

/-- DMULI (R269). -/
def execDmuli (e : Nat) (t : State) : Out := onEngine e t (t.engStep e (State.isDsp .dmuli))

/-- DMACI (R269). -/
def execDmaci (e : Nat) (t : State) : Out := onEngine e t (t.engStep e (State.isDsp .dmaci))

/-- DMSUI (R269). -/
def execDmsui (e : Nat) (t : State) : Out := onEngine e t (t.engStep e (State.isDsp .dmsui))

/-- DCLR (R269). -/
def execDclr (e : Nat) (t : State) : Out := onEngine e t (t.engStep e (State.isDsp .dclr))

/-- DNORM (R269). -/
def execDnorm (e : Nat) (t : State) : Out := onEngine e t (t.engStep e (State.isDsp .dnorm))

/-- DMOV (R267, R269). -/
def execDmov (e : Nat) (t : State) : Out := onEngine e t (t.engStep e (State.isDsp .dmov))

/-- DEXPC (R269). -/
def execDexpc (e : Nat) (t : State) : Out := onEngine e t (t.engStep e (State.isDsp .dexpc))

/-- DRDLO (R269). -/
def execDrdlo (e : Nat) (t : State) : Out := onEngine e t (t.engStep e (State.isDsp .drdlo))

/-- DRDHI (R269). -/
def execDrdhi (e : Nat) (t : State) : Out := onEngine e t (t.engStep e (State.isDsp .drdhi))

/-- DWRACC (R269). -/
def execDwracc (e : Nat) (t : State) : Out := onEngine e t (t.engStep e (State.isDsp .dwracc))

/-- DADDA (R269). -/
def execDadda (e : Nat) (t : State) : Out := onEngine e t (t.engStep e (State.isDsp .dadda))

/-- DLDP (R269, R270). -/
def execDldp (e : Nat) (t : State) : Out := onEngine e t (t.engStep e (State.isDsp .dldp))

/-- DSTP (R269, R270). -/
def execDstp (e : Nat) (t : State) : Out := onEngine e t (t.engStep e (State.isDsp .dstp))

/-- DMACL (R269, R270). -/
def execDmacl (e : Nat) (t : State) : Out := onEngine e t (t.engStep e (State.isDsp .dmacl))

/-- DMSUL (R269, R270). -/
def execDmsul (e : Nat) (t : State) : Out := onEngine e t (t.engStep e (State.isDsp .dmsul))

/-- DMULL (R269, R270). -/
def execDmull (e : Nat) (t : State) : Out := onEngine e t (t.engStep e (State.isDsp .dmull))

/-- REMOTE_LOAD (R265). -/
def execRemoteLoad (e : Nat) (t : State) : Out := onEngine e t (t.engStep e (fun i => State.isLoad i && t.isRemote e i))

/-- REMOTE_STORE (R265). -/
def execRemoteStore (e : Nat) (t : State) : Out := onEngine e t (t.engStep e (fun i => State.isStore i && t.isRemote e i))

/-- REMOTE_RESPONSE (R266). -/
def execRemoteResponse (e : Nat) (t : State) : Out :=
  onEngine e t (if t.clock.stopped then t else t.takeAnswer (engEndpoint e) (t.answersWindow e))

/-- RF_ERROR (R264). -/
def execRfError (e reg : Nat) (correctable clean : Bool) (t : State) : Out :=
  onPart (isEngine e && reg < 36) t (t.rfFails e reg correctable clean)

/-- TIMER_HIT (R274). -/
def execTimerHit (e n : Nat) (t : State) : Out := onPart (isEngine e && n < 2) t (t.timerHit e n)

/-- WDT_EXPIRY (R275). -/
def execWdtExpiry (e : Nat) (t : State) : Out := onEngine e t (t.wdtExpires e)

/-- WDT_KICK (R275). -/
def execWdtKick (o : Origin) (e : Nat) (value : Word) (t : State) : Out := engWrite o e 1 0x30C value t

/-- DMA_HEAD_WRITE (R277). -/
def execDmaHeadWrite (o : Origin) (e : Nat) (value : Word) (t : State) : Out := engWrite o e 2 0x108 value t

/-- DMA_DESCRIPTOR_START (R276, R277). -/
def execDmaDescriptorStart (e : Nat) (t : State) : Out := onEngine e t (if t.clock.stopped then t else t.dmaStart e)

/-- DMA_DESCRIPTOR_DONE (R279). -/
def execDmaDescriptorDone (e : Nat) (t : State) : Out := onEngine e t (if t.clock.stopped then t else t.dmaDone e)

/-- DMA_RESUME (R279). -/
def execDmaResume (o : Origin) (e : Nat) (value : Word) (t : State) : Out := engWrite o e 2 0x010 value t

/-- VT_TX (R281): the engine stores this byte to `VT_TX`. -/
def execVtTx (e : Nat) (b : Byte) (t : State) : Out := onEngine e t (t.engStep e (t.atVtTx e b))

/-- VT_RX (R281): the engine loads `VT_RX`. -/
def execVtRx (e : Nat) (t : State) : Out := onEngine e t (t.engStep e (t.atVtRx e))

/-- VT_OUT_ACK (R281). -/
def execVtOutAck (o : Origin) (e : Nat) (value : Word) (t : State) : Out := engWrite o e 3 0x108 value t

/-- VT_IN_DATA (R281). -/
def execVtInData (o : Origin) (e : Nat) (value : Word) (t : State) : Out := engWrite o e 3 0x10C value t

/-- ENG_HALT (R283). -/
def execEngHalt (o : Origin) (e : Nat) (value : Word) (t : State) : Out := engWrite o e 0 0x010 value t

/-- HALT_DONE (R283). -/
def execHaltDone (e : Nat) (t : State) : Out := onEngine e t (t.haltDone e)

/-- ENG_RUN (R283). -/
def execEngRun (o : Origin) (e : Nat) (value : Word) (t : State) : Out := engWrite o e 0 0x010 value t

/-- ENG_RESET (R289). -/
def execEngReset (o : Origin) (e : Nat) (value : Word) (t : State) : Out := engWrite o e 0 0x010 value t

/-- LOCKSTEP (R284). -/
def execLockstep (o : Origin) (e : Nat) (value : Word) (t : State) : Out := engWrite o e 0 0x010 value t

/-- LOCKSTEP_COPY_DONE (R284). -/
def execLockstepCopyDone (e : Nat) (t : State) : Out := onEngine e t (t.lockstepCopied e)

/-- LOCKSTEP_MISMATCH (R286). -/
def execLockstepMismatch (e : Nat) (again bad0 bad1 : Bool) (t : State) : Out := onEngine e t (t.lockstepMismatch e again bad0 bad1)

/-- SUBST (R287, R288). -/
def execSubst (e : Nat) (write : Option (Origin × Word)) (t : State) : Out := onEngine e t (t.substAsked e write)

/-- SUBST_COPY_START (R287). -/
def execSubstCopyStart (e : Nat) (timedOut : Bool) (t : State) : Out := onEngine e t (t.substStart e timedOut)

/-- SUBST_COPY_DONE (R287). -/
def execSubstCopyDone (e : Nat) (t : State) : Out := onEngine e t (t.substDone e)

/-- STEP (R512): the write of `ENG_DBG_CTL.STEP`, and the one instruction it lets execute. -/
def execStep (o : Origin) (e : Nat) (value : Word) (t : State) : Out :=
  onEngine e t ((t.writeReg o (Pg.eng e 0) 0x400 value).stepOnce e)

/-- DBG_HALT (R512). -/
def execDbgHalt (o : Origin) (e : Nat) (value : Word) (t : State) : Out := engWrite o e 0 0x400 value t

/-- DBG_RUN (R512). -/
def execDbgRun (o : Origin) (e : Nat) (value : Word) (t : State) : Out := engWrite o e 0 0x400 value t

/-- BREAKPOINT (R511). -/
def execBreakpoint (e : Nat) (t : State) : Out := onEngine e t (t.breaks e)

/-- WATCHPOINT (R511): the access executes, and the engine halts after it. -/
def execWatchpoint (e : Nat) (t : State) : Out := onEngine e t (t.engStep e (t.isWatched e))

/-- CROSS_TRIGGER (R515). -/
def execCrossTrigger (e : Nat) (t : State) : Out := onEngine e t (t.crossTrigger e)

/-- ENG_DBG_REGDATA (R513). -/
def execEngDbgRegdata (o : Origin) (e : Nat) (value : Option Word) (t : State) : Out := onEngine e t (t.regData o e value)

end Sys2Proof.Machine
end

