-- ==== Sys2Proof/Machine/FabricCmds.lean ====
section
/-! DEFINITION. The meanings of the fabric's commands (spec/03_logic_fabric.md) and of the captures (spec/17_debug_run_control.md R517, R518). -/

namespace Sys2Proof.Machine

open Reg

def isTrack (d s n : Nat) : Bool := isSector d s && n < 16
def isCluster (d s t c : Nat) : Bool := isSector d s && t < 128 && c < 16

namespace State

/-- Whether an edge reaches what a track clocks: its source gives one, `TRACK_CE` (attach input 11,600 + n) lets it pass, and no capture holds
the track (R95, R429, R517). -/
def rises (s : State) (d sec n span : Nat) : Bool :=
  s.trackPasses d sec n span (s.attachIn d sec (11600 + n)) && !(bit (s.capHeld (Pg.sctl d sec)) n)

/-- What an edge of one track does, everything it clocks taking what it read in `s` (R71, R97, R171, R192, R231, R517). -/
def edgeOf (s : State) (late : List (Nat × Nat × Nat × Nat)) (x : Nat × Nat × Nat) (t : State) : State :=
  let d := x.1
  let sec := x.2.1
  let n := x.2.2
  let here := (late.filter (fun l => l.1 = d && l.2.1 = sec)).map (·.2.2)
  let t := (((t.trackEdge d sec n (s.samples d sec n here)).queueEdges d sec n).portEdges d sec n).dspEdges d sec n
  (s.takes d sec n t).captureLater d sec n

/-- Tracks rise together, as tracks of the SPAN family with aligned sources do (R93): of those that an edge reaches at span cycle count
`span`, all sample before any of them changes anything. -/
def trackRises (s : State) (xs : List (Nat × Nat × Nat)) (span : Nat) (late : List (Nat × Nat × Nat × Nat)) : State :=
  if span < s.clock.span then s
  else
    let f := forEach xs (fun x t => t.flush x.1 x.2.1 x.2.2) (s.spanTo span)
    (forEach (xs.filter (fun x => f.rises x.1 x.2.1 x.2.2 span)) (f.edgeOf late) f).took

/-- The third edge after the last GSR cause ended (R99). -/
def gsrThird (s : State) (d sec n span : Nat) : State :=
  if s.gsrActive d sec = false ∧ SMap.read 0 s.fabric.edges (trackKey d sec n) = 2 then s.trackRises [(d, sec, n)] span [] else s

/-- The switch of a track's source completes, once the new source gives edges (R96). -/
def switchDone (s : State) (d sec n : Nat) : State :=
  let p := Pg.sctl d sec
  if s.flag p Sctl.SCTL_TRACK_SWITCHING n && s.sourceRuns d sec (s.get p Sctl.SCTL_TRACK_SRC n) then
    { s.set p Sctl.SCTL_TRACK_SWITCHING 0 n with
      fabric := { s.fabric with oldEdge := SMap.write none s.fabric.oldEdge (trackKey d sec n) none } }
  else s

/-- A track has shown no edge for 2 µs: `TRACK_RUN` clears, and one that is enabled and has a source is reported (R97), unless a
capture holds it (R518) or Fk_LOGIC is off (DESIGN CHOICE: the manual does not say whether it is reported then; log entry 98). A release of
R99 in progress waits for the third edge after the track runs again (R111). The tracks that still run may all have completed it (R109). -/
def trackStopped (s : State) (d sec n : Nat) : State :=
  let p := Pg.sctl d sec
  let key := trackKey d sec n
  let t := s.setBit p Sctl.STATUS_TRACK_RUN n false
  let t := if SMap.read 0 t.fabric.edges key < 3 then
    { t with fabric := { t.fabric with edges := SMap.write 0 t.fabric.edges key 0 } } else t
  let t := if s.gsrActive d sec = false ∧ s.allReleased d sec = false ∧ t.allReleased d sec = true ∧ t.get p Sctl.STATUS_TRACK_RUN ≠ 0 then
    t.setInt p Sctl.INT_GSR_RELEASED else t
  if s.domOn (16 * d + 1) = true ∧ s.flag p Sctl.SCTL_TRACK_EN n = true ∧ s.get p Sctl.SCTL_TRACK_SRC n ≠ 0 ∧
      bit (s.capHeld p) n = false then t.setInt p Sctl.INT_TRACK_STOP
  else t

/-- The controller writes one tile frame, or rejects it and ends the load (R84, R107, R430). -/
def tileFrame (s : State) (d sec t f : Nat) (x : BitVec 1024) : State :=
  let at_ := (FrameAddr.mk d 0 sec t f).word
  let r := if s.gsrActive d sec ∧ s.trackContention d sec t f x.toNat then (s, some 0x06) else s.writeTileFrame d sec t f x
  match r.2 with
  | some reason => r.1.bootFail reason d at_
  | none => r.1.auditRestart d sec

/-- Flops of a cluster take `INIT` when its asynchronous SR rises (R72). -/
def asyncSr (s : State) (d sec t c : Nat) : State :=
  let X := tileX sec t
  let Y := tileY sec t
  if bit (s.clusterCtl d X Y c) 4 && s.clusterSR d X Y c then
    forEach (List.range 16) (fun i u =>
      let w := u.leSlot d X Y c i
      let put := fun (b : Bool) (v : State) =>
        if bit w (if b then 61 else 60) then
          { v with fabric := { v.fabric with
            flops := SMap.write false v.fabric.flops (flopKey d X Y c i b) (bit w (if b then 55 else 54)) } }
        else v
      put true (put false u)) s.took
  else s.took

end State

/-- GSR_FORCE_WRITE (R100): a start-up release in the same cycle comes first. -/
def execGsrForceWrite (o : Origin) (d s : Nat) (value : Word) (release : Bool) (t : State) : Out :=
  onPart (isSector d s) t ((if release then t.startRelease d s else t).writeReg o (Pg.sctl d s) 0x010 value)

/-- GSR_RELEASE (R99). -/
def execGsrRelease (d s n : Nat) (span : DWord) (t : State) : Out := onPart (isTrack d s n) t (t.gsrThird d s n span.toNat)

/-- SCTL_TRACK_WRITE (R92, R95, R96). -/
def execSctlTrackWrite (o : Origin) (d s n : Nat) (value : Word) (t : State) : Out :=
  onPart (isTrack d s n) t (t.writeReg o (Pg.sctl d s) (0x100 + 4 * n) value)

/-- TRACK_SWITCH_DONE (R96). -/
def execTrackSwitchDone (d s n : Nat) (t : State) : Out := onPart (isTrack d s n) t (t.switchDone d s n)

/-- TRACK_STOP (R97). -/
def execTrackStop (d s n : Nat) (t : State) : Out := onPart (isTrack d s n) t (t.trackStopped d s n)

/-- TILE_FRAME_WRITE (R84, R107). -/
def execTileFrameWrite (d s tile f : Nat) (bits : BitVec 1024) (t : State) : Out :=
  onPart (isSector d s && tile < 128 && f < 48) t (t.tileFrame d s tile f bits)

/-- Tracks that one command names: each exists, and none twice. -/
def areTracks (xs : List (Nat × Nat × Nat)) : Bool := xs.all (fun x => isTrack x.1 x.2.1 x.2.2) && decide xs.Nodup

/-- TRACK_RISING_EDGE (R71, R72, R93). -/
def execTrackRisingEdge (tracks : List (Nat × Nat × Nat)) (span : DWord) (late : List (Nat × Nat × Nat × Nat)) (t : State) : Out :=
  onPart (areTracks tracks) t (t.trackRises tracks span.toNat late)

/-- SR_ASYNC_ASSERT (R72). -/
def execSrAsyncAssert (d s tile c : Nat) (t : State) : Out := onPart (isCluster d s tile c) t (t.asyncSr d s tile c)

/-- ARM (R517, R522). -/
def execArmCapture (o : Origin) (d s : Nat) (value : Word) (t : State) : Out :=
  onPart (isSector d s) t (t.writeReg o (Pg.sctl d s) 0x400 value)

/-- CAPTURE (R517, R519). -/
def execCapture (d s : Nat) (span : DWord) (t : State) : Out := onPart (isSector d s) t (t.captureEdge d s span.toNat)

/-- RESUME (R518). -/
def execResume (o : Origin) (d s : Nat) (value : Word) (t : State) : Out :=
  onPart (isSector d s) t (t.writeReg o (Pg.sctl d s) 0x400 value)

end Sys2Proof.Machine
end

