-- ==== Sys2Proof/Machine/LaneCmds.lean ====
section
/-! DEFINITION. The meanings of the serial lanes' commands (spec/11_serial_lanes.md). -/

namespace Sys2Proof.Machine

open Reg

/-- A command of lane `n` of a kind. -/
def onLane (n : Nat) (t u : State) : Out := onPart (n < 64) t u

/-- A command of an octet of a lane die. -/
def isOctet (d q : Nat) : Bool := (d = 5 || d = 6) && q < 8
def onOctet (d q : Nat) (t u : State) : Out := onPart (isOctet d q) t u

/-- A write of a lane page's register by an origin. -/
def laneWrite (o : Origin) (l : Bool) (n off : Nat) (value : Word) (t : State) : Out := onLane n t (t.writeReg o (Pg.lane l n) off value)

/-- A command of an adapter's network: it waits while the networks are stopped (R463). -/
def onAdapterNet (d q : Nat) (t u : State) : Out := onOctet d q t (if t.clock.stopped then t else u)

/-- LANE_EN (R335). -/
def execLaneEn (o : Origin) (l : Bool) (n : Nat) (value : Word) (t : State) : Out := laneWrite o l n 0x010 value t

/-- LANE_PLL_READY (R326). -/
def execLanePllReady (l : Bool) (n : Nat) (t : State) : Out := onLane n t (t.laneLeavesPllWait (Pg.lane l n))

/-- SIGNAL_PRESENT (R326). -/
def execSignalPresent (l : Bool) (n : Nat) (t : State) : Out := onLane n t (t.laneSignal (Pg.lane l n))

/-- LINK_TRAINING_DONE (R329). -/
def execLinkTrainingDone (l : Bool) (n : Nat) (fields : List (BitVec 16)) (t : State) : Out :=
  onLane n t (t.laneTrained (Pg.lane l n) fields)

/-- LT_TIMEOUT (R326). -/
def execLtTimeout (l : Bool) (n : Nat) (t : State) : Out := onLane n t (t.laneTimeout (Pg.lane l n) 3)

/-- ADAPT_DONE (R326). -/
def execAdaptDone (l : Bool) (n : Nat) (eye : BitVec 16) (ctle : BitVec 6) (t : State) : Out :=
  onLane n t (t.laneAdapted (Pg.lane l n) eye.toNat ctle.toNat)

/-- ADAPT_TIMEOUT (R326). -/
def execAdaptTimeout (l : Bool) (n : Nat) (t : State) : Out := onLane n t (t.laneTimeout (Pg.lane l n) 4)

/-- ALIGN_DONE (R326, R328). -/
def execAlignDone (l : Bool) (n : Nat) (t : State) : Out := onLane n t (t.laneAligned (Pg.lane l n))

/-- ALIGN_TIMEOUT (R326). -/
def execAlignTimeout (l : Bool) (n : Nat) (t : State) : Out := onLane n t (t.laneTimeout (Pg.lane l n) 5)

/-- LOSS_OF_SIGNAL (R327). -/
def execLossOfSignal (l : Bool) (n : Nat) (t : State) : Out := onLane n t (t.laneLos (Pg.lane l n))

/-- LOCK_LOSS (R328). -/
def execLockLoss (l : Bool) (n : Nat) (fec : Bool) (t : State) : Out := onLane n t (t.laneLockLost (Pg.lane l n) fec)

/-- LANE_RETRAIN (R328). -/
def execLaneRetrain (o : Origin) (l : Bool) (n : Nat) (value : Word) (t : State) : Out := laneWrite o l n 0x010 value t

/-- DOWN_SIGNAL_RETURN (R328). -/
def execDownSignalReturn (l : Bool) (n : Nat) (t : State) : Out := onLane n t (t.laneReturns (Pg.lane l n))

/-- OPLL_ENABLE (R324). -/
def execOpllEnable (o : Origin) (d q : Nat) (value : Word) (t : State) : Out := onOctet d q t (t.writeReg o (Pg.opll d q) 0x010 value)

/-- OPLL_LOCK (R324). -/
def execOpllLock (d q : Nat) (b : Bool) (t : State) : Out := onOctet d q t (t.opllLocks d q b)

/-- OPLL_LOCK_FAIL (R324). -/
def execOpllLockFail (d q : Nat) (b : Bool) (t : State) : Out := onOctet d q t (t.opllLockFails d q b)

/-- LANE_PLL_UNLOCK (R325). -/
def execLanePllUnlock (d q : Nat) (b : Bool) (t : State) : Out := onOctet d q t (t.opllUnlocks d q b)

/-- PRBS_ERR_READ (R337). -/
def execPrbsErrRead (o : Origin) (l : Bool) (n : Nat) (peek : Bool) (t : State) : Out := onLane n t (t.readReg o (Pg.lane l n) 0x12C peek)

/-- PRBS_ONE (R337). -/
def execPrbsOne (o : Origin) (l : Bool) (n : Nat) (value : Word) (t : State) : Out := laneWrite o l n 0x124 value t

/-- SLIP (R338). -/
def execSlip (o : Origin) (l : Bool) (n : Nat) (value : Word) (t : State) : Out := laneWrite o l n 0x148 value t

/-- TS_INFO_READ (R340). -/
def execTsInfoRead (o : Origin) (l : Bool) (n : Nat) (peek : Bool) (t : State) : Out := onLane n t (t.readReg o (Pg.lane l n) 0x174 peek)

/-- RX_FRAME_END (R340, R342, R343). -/
def execRxFrameEnd (l : Bool) (n : Nat) (time : DWord) (held : BitVec 16) (t : State) : Out :=
  onLane n t (t.frameEnds (Pg.lane l n) time held)

/-- RELEASE_SEND (R344, R345). -/
def execReleaseSend (d q : Nat) (t : State) : Out := onAdapterNet d q t (t.sendRelease d q)

/-- RELEASE (R345 to R347). -/
def execRelease (d q : Nat) (t : State) : Out :=
  onAdapterNet d q t (match t.headRequest (adapterEp d q) with
    | some f =>
      if hdrClass f = 5 ∨ hdrClass f = 6 then (t.popRequest (adapterEp d q)).releaseArrives d q f (hdrClass f = 6) else t
    | none => t)

/-- RESPONSE_INSERT (R346). -/
def execResponseInsert (d q : Nat) (t : State) : Out := onOctet d q t (t.insertResponse d q)

/-- RELEASE_RESPONSE (R347). -/
def execReleaseResponse (d q : Nat) (t : State) : Out := onAdapterNet d q t (t.adapterResponse d q)

/-- RFX_COMMIT (R348). -/
def execRfxCommit (o : Origin) (d q : Nat) (value : Word) (t : State) : Out :=
  onOctet d q t (t.writeReg o (Pg.adapter d q) 0x108 value)

/-- PRBS_LOCK_GAIN (R337). -/
def execPrbsLockGain (l : Bool) (n : Nat) (t : State) : Out := onLane n t (t.prbsGain (Pg.lane l n))

/-- PRBS_LOCK_LOSS (R337). -/
def execPrbsLockLoss (l : Bool) (n : Nat) (t : State) : Out := onLane n t (t.prbsLoss (Pg.lane l n))

/-- UNCORRECTABLE_CODEWORD (R330). -/
def execUncorrectableCodeword (l : Bool) (n : Nat) (blocks : List (BitVec 66)) (t : State) : Out :=
  onLane n t (t.codewordFails (Pg.lane l n) blocks)

/-- TX_UNDERRUN (R334). -/
def execTxUnderrun (l : Bool) (n : Nat) (t : State) : Out := onLane n t (t.txRunsShort (Pg.lane l n))

end Sys2Proof.Machine
end

