-- ==== Sys2Proof/Machine/Launch.lean ====
section
/-! DEFINITION. One SPAN_CLK edge of a crossing module (spec/05_span_crossings.md R141 to R146, R149 to R151, R164): what its launch registers
sample, the frame that carries it, and the value that its arrival registers present. -/

namespace Sys2Proof.Machine

open Reg

namespace State

/-- What the launch registers of a fabric die's slice sample: the fabric, but the groups of the span channel ports in use; 0 while the GSR holds
them, and what they held while their SPAN_CLK is gated (R141, R146, R149, R455). -/
def fabricLaunch (s : State) (d m : Nat) : BitVec 1536 :=
  if s.gsrActive d m then 0
  else if s.spanGated d m then (s.slice d m).launch
  else
    let x := BitVec.ofNat 1536 (s.attachNum d m 8192 1536)
    let lo := m < 8 && s.channelOn d (2 * m)
    let hi := m < 8 && s.channelOn d (2 * m + 1)
    if lo || hi then
      ofGroups (fun g =>
        if lo && 174 ≤ g && g < 183 then s.channelSends d (2 * m) (g - 174)
        else if hi && 183 ≤ g then s.channelSends d (2 * m + 1) (g - 183) else group x g)
    else x

/-- What the span channel ports of a slice have laid on a frame is sent (R151). -/
def channelsSent (s : State) (d m : Nat) : State :=
  if d ≤ 4 ∧ m < 8 ∧ s.gsrActive d m = false ∧ s.spanGated d m = false then (s.channelSent d (2 * m)).channelSent d (2 * m + 1) else s

/-- A module's data frame of span cycle `n` goes out to the hub while the port is ACTIVE, poisoned while the poison test counts down (R143,
R164). -/
def launchSent (s : State) (d m n : Nat) (x : BitVec 1536) : State :=
  if s.portActive d = true ∧ m < s.crossModules d then
    let page := Pg.xport d
    let c := s.get page Xport.XP_POISON_TEST_COUNT
    let test := s.get page Xport.XP_POISON_TEST_MOD = m && c ≠ 0
    (if test then s.set page Xport.XP_POISON_TEST_COUNT (c - 1) else s).sendCycle d m 1 { payload := x, poisoned := test, cycle := n }
  else s

/-- A SPAN_CLK edge of a crossing module, at span cycle count `n`: each has one such edge in a span cycle, and none in a past one (R143, R456). The
launch registers sample what stood before it. -/
def presented (s : State) (d m n : Nat) (line : List LaneLine) : State :=
  if n < s.clock.span ∨ n < (s.slice d m).edge then s
  else
    let x := s.slice d m
    let t := s.spanTo n
    let t := if 5 ≤ d then (forEach line (fun l u => u.laneReceives (Pg.dieBase d + 0x40 + l.lane) l) t).laneWords d n else t
    let y := if d ≤ 4 then s.fabricLaunch d m else t.laneLaunch d m
    let t := (t.deliver d m n).channelsSent d m
    let t := t.setSlice d m { t.slice d m with launch := y, old := x.arrival, oldErr := x.crossErr, edge := n + 1 }
    (if 5 ≤ d then t.lanesTake d m n else t).launchSent d m n y

end State
end Sys2Proof.Machine
end

