-- ==== Sys2Proof/Machine/LinkCmds.lean ====
section
/-! DEFINITION. The meanings of the commands of Lomum ports (spec/04_lomum_links.md) and of span crossings (spec/05_span_crossings.md). -/

namespace Sys2Proof.Machine

open Reg

/-- Whether numbers name a logical module direction, and a fabric die's span channel port (R112, R149). -/
def isLogicalDir (d m dir : Nat) : Bool := isPort d && m < logicalModules d && dir < 2
def isChannelPort (d f : Nat) : Bool := 1 ≤ d && d ≤ 4 && f < 16

namespace State

/-- A training state of a port overruns (R119). -/
def trainingTimesOut (s : State) (d : Nat) : State :=
  if 1 ≤ s.portState d ∧ s.portState d ≤ 5 then newlyHeld s (s.attemptFail d) else s

/-- Whether a physical module is in service: its port ACTIVE, its state FULL, HALF or MOVING. -/
def inService (s : State) (d p : Nat) : Bool := s.portActive d && 2 ≤ s.modState d p && s.modRole d p ≠ 3

/-- The free spares of a module direction in service go on to their next positions (R125). -/
def auditStep (s : State) (d p dir : Nat) : State :=
  let m := s.linkMod d p
  if s.inService d p then s.setLinkMod d p { m with auditPos := putDir dir ((ofDir dir m.auditPos + 1) % 16) m.auditPos } else s

/-- Whether the audit compares a wire now: the own wire of a position 4p + k at rotation step p, by a spare k that is free and usable (R125, R598). -/
def audited (s : State) (d p dir w : Nat) : Bool :=
  let page := Pg.port d
  let assign := s.wireAssign page p dir
  w < 64 && w / 4 = ofDir dir (s.linkMod d p).auditPos && spareOf assign (w % 4) = 0x7F && bit (s.wireMask page p dir) (64 + w % 4) &&
  !(served assign w)

/-- A usable wire of a module in service becomes suspect, by its compare or by its margin monitor (R126, R598). -/
def wireSuspected (s : State) (d p dir w : Nat) (compare : Bool) : State :=
  let m := s.linkMod d p
  if s.inService d p = true ∧ bit (s.wireMask (Pg.port d) p dir) w = true ∧ m.suspects.elem (dir, w) = false ∧
      (compare = true → s.audited d p dir w = true) then
    s.setLinkMod d p { m with suspects := m.suspects ++ [(dir, w)] }
  else s

/-- A crossing module direction fails with no reserve that could take it; the reserve in use is such a module too (R129, R130). -/
def serviceLost (s : State) (d p dir : Nat) : State :=
  let crossing : Bool := s.modRole d p = 0 || (s.modRole d p = 2 && s.modLogical d p ≠ 0xF)
  if s.portActive d = true ∧ crossing = true ∧ s.reserveFree d = false then s.crossLost d p (s.modLogical d p) dir else s

/-- The next flit slot of an open Skein module direction arrives (R131 to R133). -/
def skeinReceived (s : State) (d m dir : Nat) (err : BitVec 1700) : State :=
  match s.physOf d m with
  | some p => if s.skeinOpen d m then s.slotReceived d m dir p err else s
  | none => s

/-- A frame of a crossing module arrives (R117, R145). -/
def crossingReceived (s : State) (d m dir : Nat) (err : BitVec 1700) : State :=
  match s.physOf d m with
  | some p => if s.portActive d = true ∧ m < s.crossModules d then s.frameArrives d m p dir err else s
  | none => s

end State

/-- LOMUM_TRAIN (R121): `TRAIN` with the split as it stands. -/
def execLomumTrain (o : Origin) (d : Nat) (t : State) : Out :=
  onPart (isPort d) t (t.writeReg o (Pg.port d) 0x010 (BitVec.ofNat 32 (t.storedWord (Pg.port d) 0x010 ||| 1)))

/-- LSB_HELLO (R119). -/
def execLsbHello (d : Nat) (t : State) : Out := onPart (isPort d) t (t.helloDone d)

/-- CLK_LOCK_DONE (R119). -/
def execClkLockDone (d : Nat) (fails : List (Nat × Nat)) (t : State) : Out :=
  onPart (isPort d && fails.all (fun f => isModuleDir d f.1 f.2)) t (t.clkLocked d fails)

/-- WIRE_TEST_DONE (R120, R128). -/
def execWireTestDone (d : Nat) (bad : List (Nat × Nat × Nat)) (t : State) : Out :=
  onPart (isPort d && bad.all (fun b => isModuleDir d b.1 b.2.1 && b.2.2 < 68)) t ((t.wiresTested d bad).reserveTested d bad)

/-- MASK_REPORT (R122). -/
def execMaskReport (d p dir : Nat) (mask : BitVec 68) (t : State) : Out :=
  onPart (isModuleDir d p dir) t (t.maskReported d p dir mask.toNat)

/-- MAP_ASSIGN (R122). -/
def execMapAssign (d p dir : Nat) (map : WireMap) (t : State) : Out := onPart (isModuleDir d p dir) t (t.mapAssigned d p dir map)

/-- TRAIN_DONE (R122). -/
def execTrainDone (d p dir : Nat) (map : WireMap) (t : State) : Out :=
  onPart (isModuleDir d p dir) t (State.newlyHeld t (t.trainDoneReceived d p dir map))

/-- FRAME_LOCK_DONE (R119, R129). -/
def execFrameLockDone (d : Nat) (t : State) : Out := onPart (isPort d) t (t.frameLocked d)

/-- TRAINING_TIMEOUT (R119, R121). -/
def execTrainingTimeout (d : Nat) (t : State) : Out := onPart (isPort d) t (t.trainingTimesOut d)

/-- SIDEBAND_MESSAGE_FAIL (R124). -/
def execSidebandMessageFail (d : Nat) (first second : List Byte) (t : State) : Out :=
  onPart (isPort d) t (State.newlyHeld t (t.sidebandFails d first second))

/-- WIRE_AUDIT_STEP (R125). -/
def execWireAuditStep (d p dir : Nat) (t : State) : Out := onPart (isModuleDir d p dir) t (t.auditStep d p dir)

/-- WIRE_SUSPECT (R126, R598). -/
def execWireSuspect (d p dir wire : Nat) (compare : Bool) (t : State) : Out :=
  onPart (isModuleDir d p dir && wire < 68) t (t.wireSuspected d p dir wire compare)

/-- WIRE_RETRY (R126, R598). -/
def execWireRetry (d p dir wire : Nat) (clean : Bool) (t : State) : Out :=
  onPart (isModuleDir d p dir && wire < 68) t (t.wireRetried d p dir wire clean)

/-- SWAP_NEXT (R127). -/
def execSwapNext (d p : Nat) (t : State) : Out := onPart (isModuleDir d p 0) t (t.swapDone d p)

/-- MOVE_NEXT (R128). -/
def execMoveNext (d : Nat) (t : State) : Out := onPart (isPort d) t (t.moveDone d)

/-- SUDDEN_MOVE (R128, R129). -/
def execSuddenMove (d p dir : Nat) (t : State) : Out := onPart (isModuleDir d p dir) t (t.suddenFailure d p dir)

/-- CROSS_SERVICE_LOST (R130). -/
def execCrossServiceLost (d p dir : Nat) (t : State) : Out := onPart (isModuleDir d p dir) t (t.serviceLost d p dir)

/-- SKEIN_SLOT_RECEIVE (R131 to R133). -/
def execSkeinSlotReceive (d m dir : Nat) (err : BitVec 1700) (t : State) : Out :=
  onPart (isLogicalDir d m dir) t (t.skeinReceived d m dir err)

/-- REPLAY (R132). -/
def execReplay (d m dir : Nat) (t : State) : Out :=
  onPart (isLogicalDir d m dir) t (if t.portActive d then t.linkReplay d m dir else t)

/-- MODULE_RETRAIN (R133). -/
def execModuleRetrain (d m : Nat) (t : State) : Out := onPart (isLogicalDir d m 0) t (t.moduleRetrain d m)

/-- MODULE_RETRAIN_DONE (R129, R133). -/
def execModuleRetrainDone (d m : Nat) (die0 hub0 die1 hub1 : BitVec 68) (done0 done1 : WireMap) (locked : Bool) (t : State) : Out :=
  onPart (isLogicalDir d m 0) t (t.moduleRetrained d m die0.toNat hub0.toNat die1.toNat hub1.toNat done0 done1 locked)

/-- CROSSING_FRAME_RECEIVE (R117). -/
def execCrossingFrameReceive (d m dir : Nat) (err : BitVec 1700) (t : State) : Out :=
  onPart (isLogicalDir d m dir) t (t.crossingReceived d m dir err)

/-- XBAR_ENTRY_WRITE (R136, R137). -/
def execXbarEntryWrite (o : Origin) (d m g : Nat) (value : Word) (t : State) : Out :=
  onPart (isLogicalDir d m 0 && g < 192) t (t.writeReg o (Pg.xbar d m) (0x100 + 4 * g) value)

/-- SPLIT_WRITE (R139). -/
def execSplitWrite (o : Origin) (d : Nat) (value : Word) (t : State) : Out := onPart (isPort d) t (t.writeReg o (Pg.port d) 0x010 value)

/-- RESERVE_MODULE_FAILS (R129). -/
def execReserveModuleFails (d : Nat) (t : State) : Out := onPart (isPort d) t (t.reserveFails d)

/-- HUB_FRAME_POISON (R155). -/
def execHubFramePoison (cycle : DWord) (t : State) : Out := done t (t.switchCycle cycle.toNat)

/-- Whether every item of what reaches a die's lanes names one of them. -/
def areLanes (xs : List LaneLine) : Bool := xs.all (fun l => l.lane < 64)

/-- CROSS_FRAME_DELIVER (R143, R156). -/
def execCrossFrameDeliver (d m : Nat) (span : DWord) (line : List LaneLine) (t : State) : Out :=
  onPart (isLogicalDir d m 0 && areLanes line) t (t.presented d m span.toNat line)

/-- CROSS_AUDIT_LAP (R157). -/
def execCrossAuditLap (d m dir : Nat) (bad : List Nat) (t : State) : Out :=
  onPart (isLogicalDir d m dir && bad.all (· < 68)) t (t.auditLapDone d m dir bad)

/-- SFIFO_WRITE (R150). -/
def execSfifoWrite (d f : Nat) (t : State) : Out := onPart (isChannelPort d f) t (t.channelWrite d f)

/-- SFIFO_SEND (R151). -/
def execSfifoSend (d f : Nat) (t : State) : Out := onPart (isChannelPort d f) t (t.channelSend d f)

/-- SFIFO_READ (R151). -/
def execSfifoRead (d f : Nat) (t : State) : Out := onPart (isChannelPort d f) t (t.channelRead d f)

/-- SPAN_CHANNEL_ERR (R152). -/
def execSpanChannelErr (d f : Nat) (t : State) : Out := onPart (isChannelPort d f) t (t.channelFails d f)

/-- RESYNC (R164): with `SFIFO_CTL` as it stands. -/
def execResync (o : Origin) (d f : Nat) (t : State) : Out :=
  onPart (isChannelPort d f) t
    (t.writeReg o (Pg.xport d) (0x200 + 4 * f) (BitVec.ofNat 32 (t.storedWord (Pg.xport d) (0x200 + 4 * f) ||| 2)))

/-- CHANNEL_RESTART (R164). -/
def execChannelRestart (d f : Nat) (t : State) : Out := onPart (isChannelPort d f) t (t.channelRestarts d f)

end Sys2Proof.Machine
end

