-- ==== Sys2Proof/Machine/MemoryCmds.lean ====
section
/-! DEFINITION. The meanings of the memory commands (spec/06_on_chip_memories.md, spec/07_memory_integrity.md). -/

namespace Sys2Proof.Machine

/-- Whether an integrity page and bank, or block, name one (R200, R225, R262). -/
def isMiPage (page : Nat) : Bool := pageKind page = some .mi || pageKind page = some .eng3
def isMiBank (page q : Nat) : Bool := isMiPage page && q < bankCount page
/-- A bank with a scrubber: of an integrity page, or an MRAM sector (R214, R226). -/
def isScrubBank (page q : Nat) : Bool := isMiBank page q || isMram page && q < mramSectors
def isMiBlock (page b : Nat) : Bool := isMiPage page && b < (if isEngPage page then 2 else 15)

/-- DPB_READ (R171 to R177): the read that the last edge has taken. -/
def execDpbRead (d s i b : Nat) (far : Bool) (flip : BitVec 72) (t : State) : Out :=
  onPart (isDpb d s i b) t (t.dpbTake d s i b false far flip)

/-- DPB_WRITE (R172, R173, R175, R176): the write that the last edge has taken. -/
def execDpbWrite (d s i b : Nat) (far : Bool) (flip : BitVec 72) (t : State) : Out :=
  onPart (isDpb d s i b) t (t.dpbTake d s i b true far flip)

/-- MERGE_WRITE_STORE (R173): it follows even when GSR asserts. -/
def execMergeWriteStore (d s i b : Nat) (far : Bool) (t : State) : Out := onPart (isDpb d s i b) t (t.mergeStore d s i b far)

/-- BKB_READ (R180 to R182). -/
def execBkbRead (d s k b : Nat) (flip : BitVec 72) (t : State) : Out :=
  onPart (isBkb d s k b) t (t.bkbTake d s k b 0 (fun u x => u.bkbRead d s k b x.addr flip))

/-- BKB_WRITE (R181, R184). -/
def execBkbWrite (d s k b : Nat) (flip : BitVec 72) (t : State) : Out :=
  onPart (isBkb d s k b) t (t.bkbTake d s k b 1 (fun u x => u.bkbWrite d s k b x.addr x.be x.din flip))

/-- BKB_ADD (R183, R184). -/
def execBkbAdd (d s k b : Nat) (flip : BitVec 72) (t : State) : Out :=
  onPart (isBkb d s k b) t (t.bkbTake d s k b 2 (fun u x => u.bkbAdd d s k b x.addr x.din flip))

/-- BKB_SWAP (R183, R184). -/
def execBkbSwap (d s k b : Nat) (flip : BitVec 72) (t : State) : Out :=
  onPart (isBkb d s k b) t (t.bkbTake d s k b 3 (fun u x => u.bkbSwap d s k b x.addr x.din flip))

/-- BANK_STORE (R184). -/
def execBankStore (d s k n : Nat) (t : State) : Out :=
  onPart (isBkb d s k 0 && n < 8) t
    (t.bankStores (Pg.mi d s) (10 + 8 * k + n) ((t.bankBusy (Pg.mi d s) (10 + 8 * k + n)).any (·.portB) && t.bankYields d s k 1))

/-- QUEUE_WRITE (R188, R191): the write that the last edge has taken. -/
def execQueueWrite (d s b : Nat) (flip : BitVec 72) (t : State) : Out := onPart (isBlock d s b) t (t.queueWrite d s b flip)

/-- QUEUE_READ (R188, R191): the read that the last edge has taken. -/
def execQueueRead (d s b : Nat) (flip : BitVec 72) (t : State) : Out := onPart (isBlock d s b) t (t.queueRead d s b flip)

/-- QUEUE_LEVEL_SYNC (R189, R190). -/
def execQueueLevelSync (d s b : Nat) (readSide : Bool) (t : State) : Out :=
  onPart (isBlock d s b) t (t.levelSync d s b readSide)

/-- QRST (R192): it acts as its attach input stands. -/
def execQrst (d s b : Nat) (t : State) : Out :=
  onPart (isBlock d s b) t (if t.gsrActive d s then t else t.queueReset d s b (t.attachIn d s (State.blockBase b + 97)))

/-- SCRUB_RETRY (R210, R212, R213, R219): served in idle cycles while the block runs. -/
def execScrubRetry (page q : Nat) (again : BitVec 72) (t : State) : Out :=
  onPart (isScrubBank page q) t (if t.scrubRuns page q && t.bankIdle page q then t.scrubRetry page q again else t)

/-- SCRUB_PAGE_STEP (R215). -/
def execScrubPageStep (page q : Nat) (upsets : List (Nat × BitVec 72)) (written second : Bool) (again : BitVec 72) (t : State) : Out :=
  onPart (isScrubBank page q) t (if t.bankIdle page q then t.walkStep page q upsets written second again else t)

/-- SCRUB_LAP_DONE (R216). -/
def execScrubLapDone (page q us : Nat) (t : State) : Out := onPart (isScrubBank page q) t (t.lapDone page q us)

/-- MEM_SLOW_LAP (R216): a running lap has taken `us` microseconds. -/
def execMemSlowLap (page q us : Nat) (t : State) : Out := onPart (isMiBank page q) t (t.slowLap page q us)

/-- TMR_FIX (R222). -/
def execTmrFix (page b : Nat) (t : State) : Out := onPart (isMiBlock page b) t (t.tmrFixed page b)

/-- MI_TEST_READ (R223): an origin writes `READ` to `MI_TEST_CMD`. -/
def execMiTestRead (o : Origin) (page : Nat) (t : State) : Out := onPart (isMiPage page) t (t.writeReg o page 0x80C 1)

/-- MI_TEST_WRITE (R223): an origin writes `WRITE` to `MI_TEST_CMD`. -/
def execMiTestWrite (o : Origin) (page : Nat) (t : State) : Out := onPart (isMiPage page) t (t.writeReg o page 0x80C 2)

/-- MI_TEST_DONE (R223, R224). -/
def execMiTestDone (page : Nat) (timedOut : Bool) (t : State) : Out := onPart (isMiPage page) t (t.testDone page timedOut)

end Sys2Proof.Machine
end

