-- ==== Sys2Proof/Machine/PlyCmds.lean ====
section
/-! DEFINITION. The meanings of the Ply commands (spec/19_ply_cascade.md). -/

namespace Sys2Proof.Machine

open Reg

namespace State

/-! ## MGMT_REQ (R550) -/

/-- One operation with origin PLY: the value read, or 0, and the status word. -/
def mgmtOp (s : State) (op : Nat × Bool × Word) : List Byte × State :=
  let fails := if op.2.1 then s.wordWriteFails .ply op.1 op.2.2 else s.wordReadFails .ply op.1
  let r := if op.2.1 then s.busWrite .ply op.1 op.2.2 else s.busRead .ply op.1 (s.peekOf .ply false)
  (leBytes 4 (if op.2.1 then 0 else r.data.toNat) ++ leBytes 4 (b2n fails), r.st)

/-- The operations in order; one whose bytes the payload does not hold is not performed. -/
def mgmtPerform (s : State) (held : Nat) : List (Nat × Bool × Word) → List Byte × State
  | [] => ([], s)
  | op :: rest =>
    let r := if held = 0 then (leBytes 4 0 ++ leBytes 4 2, s) else s.mgmtOp op
    let q := r.2.mgmtPerform (held - 1) rest
    (r.1 ++ q.1, q.2)

/-- A worker performs a request and answers it; a retry of one of its last eight gets the stored answer. -/
def mgmtTaken (s : State) (f : PlyRx) (payload : List Byte) : State :=
  if s.isManager then s
  else
    let tag := leNat (payload.take 2)
    match (if bit f.flags 0 then s.mgmtStored f.src tag else none) with
    | some a => s.plyFrom 0x21 f.src a
    | none =>
      let r := s.mgmtPerform ((payload.length - 4) / 8) (mgmtOps payload)
      r.2.mgmtAnswers f.src tag r.1

/-! ## CTRL (R549, R551) -/

/-- A CTRL frame whose byte 0 is `op`; for another it is none of this command. -/
def plyCtrl (s : State) (f : PlyRx) (op : Nat) (g : List Byte → State → State) : State :=
  match PlyWire.opened (s.plyPort f.port).keyRx 0x60 f with
  | some payload => if (payload.getD 0 0).toNat = op then s.plyRouted f 0x60 g else s
  | none => s.plyRouted f 0x60 g

end State

/-- Ply port 0 (N) or 1 (P), and a frame that arrives on one. -/
def onPly (p : Nat) (t u : State) : Out := onPart (p < 2) t u
def onFrame (f : PlyRx) (t u : State) : Out := onPart (frameOk f) t u

/-- PLY_LINK_TRAINED (R537, R540). -/
def execPlyLinkTrained (p : Nat) (t : State) : Out := onPly p t (t.plyTrained p)

/-- HELLO (R540). -/
def execHello (p : Nat) (payload : List Byte) (t : State) : Out := onPly p t (t.helloReceived p payload)

/-- HELLO_SIG (R540, R541). -/
def execHelloSig (p : Nat) (sig : List Byte) (t : State) : Out := onPart (p < 2 && sig.length = 96) t (t.helloChecked p sig)

/-- PLY_AUTH_RETRY (R540). -/
def execPlyAuthRetry (p : Nat) (t : State) : Out := onPly p t (t.plyAuthAgain p)

/-- IDLE (R543). -/
def execPlyIdle (f : PlyRx) (t : State) : Out := onFrame f t (t.plyReceives f 0x03 (fun _ u => u))

/-- NAK (R543). -/
def execPlyNak (f : PlyRx) (t : State) : Out := onFrame f t (t.plyReceives f 0x04 (fun b u => u.plyNaked f.port (leNat (b.take 8))))

/-- PLY_LINK_SILENCE (R543, R547). -/
def execPlyLinkSilence (p : Nat) (t : State) : Out := onPly p t (t.plySilent p)

/-- DISCOVER (R545, R546). -/
def execDiscover (f : PlyRx) (own : Bool) (reached : List Nat) (t : State) : Out :=
  onFrame f t (t.discovered f own reached)

/-- RING_CLOSE_TIMEOUT (R546). -/
def execRingCloseTimeout (reached : List Nat) (t : State) : Out := done t (t.ringOpen reached)

/-- PLY_ISOLATE (R548). -/
def execPlyIsolate (t : State) : Out := done t t.plyIsolated

/-- MGMT_REQ (R550). -/
def execMgmtReq (f : PlyRx) (t : State) : Out := onFrame f t (t.plyRouted f 0x20 (fun b u => u.mgmtTaken f b))

/-- MGMT_RSP (R550). -/
def execMgmtRsp (f : PlyRx) (t : State) : Out := onFrame f t (t.plyRouted f 0x21 (fun b u => u.mgmtAnswered b))

/-- MGMT_TIMEOUT (R550). -/
def execMgmtTimeout (t : State) : Out := done t t.mgmtExpires

/-- PLY_MGMT_GO (R550). -/
def execPlyMgmtGo (o : Origin) (value : Word) (t : State) : Out := done t (t.writeReg o Pg.ply 0x170 value)

/-- CFG_START (R552). -/
def execCfgStart (f : PlyRx) (t : State) : Out := onFrame f t (t.plyRouted f 0x10 (fun b u => u.streamBegins b))

/-- CFG_DATA (R552). -/
def execCfgData (f : PlyRx) (t : State) : Out := onFrame f t (t.plyRouted f 0x11 (fun b u => u.streamData b))

/-- CFG_END (R552). -/
def execCfgEnd (f : PlyRx) (t : State) : Out := onFrame f t (t.plyRouted f 0x12 (fun _ u => u.streamEnds))

/-- CFG_REQ (R552). -/
def execCfgReq (f : PlyRx) (t : State) : Out := onFrame f t (t.plyRouted f 0x13 (fun _ u => u.streamAsked))

/-- EVENT (R553). -/
def execPlyEvent (f : PlyRx) (t : State) : Out := onFrame f t (t.plyRouted f 0x30 (fun b u => u.workerRecord f.src b))

/-- EPOCH (R554). -/
def execEpoch (f : PlyRx) (t : State) : Out := onFrame f t (t.plyRouted f 0x40 (fun b u => u.epochTaken b))

/-- EPOCH_BROADCAST (R554). -/
def execEpochBroadcast (t : State) : Out := done t t.epochDue

/-- DEBUG_REQ (R555). -/
def execDebugReq (f : PlyRx) (t : State) : Out := onFrame f t (t.plyRouted f 0x50 (fun b u => u.debugTaken b))

/-- DEBUG_RSP (R555). -/
def execDebugRsp (f : PlyRx) (t : State) : Out := onFrame f t (t.plyRouted f 0x51 (fun b u => u.debugAnswered b))

/-- CTRL_DEVICE_RESET (R551). -/
def execCtrlDeviceReset (f : PlyRx) (t : State) : Out := onFrame f t (t.plyCtrl f 1 (fun _ u => u.deviceResetStarts 5))

/-- CTRL_WARM_RESET (R551). -/
def execCtrlWarmReset (f : PlyRx) (t : State) : Out := onFrame f t (t.plyCtrl f 2 (fun _ u => u.warmResets 6))

/-- CTRL_WAKE (R549). -/
def execCtrlWake (f : PlyRx) (t : State) : Out := onFrame f t (t.plyCtrl f 3 (fun b u => u.wakeMember (b.getD 1 0).toNat))

/-- HIBERNATING (R549). -/
def execHibernating (f : PlyRx) (t : State) : Out := onFrame f t (t.plyCtrl f 4 (fun _ u => u.memberSleeps f.src))

/-- BOOT_REPORT (R552). -/
def execBootReport (f : PlyRx) (t : State) : Out := onFrame f t (t.plyRouted f 0x61 (fun b u => u.bootReported f.src b))

/-- PLY_RESTART (R540). -/
def execPlyRestart (o : Origin) (value : Word) (t : State) : Out := done t (t.writeReg o Pg.ply 0x010 value)

end Sys2Proof.Machine
end

