-- ==== Sys2Proof/Machine/PowerCmds.lean ====
section
/-! DEFINITION. The meanings of the power controller's commands (spec/16_power_supplies.md), and of the thermal ones
(spec/21_electrical_package.md R587, R588, R595). -/

namespace Sys2Proof.Machine

open Reg

/-- A command of a power domain (R474). -/
def onDomain (d : Nat) (t u : State) : Out := onPart (isDomain d) t u

/-- A write of the power control page by an origin. -/
def pwrWrite (o : Origin) (off : Nat) (value : Word) (t : State) : Out := done t (t.writeReg o Pg.powerCtl off value)

/-- VOTE_CAST (R476, R479). -/
def execVoteCast (o : Origin) (value : Word) (t : State) : Out := pwrWrite o 0x100 value t

/-- VOTE_WITHDRAW (R476, R479). -/
def execVoteWithdraw (o : Origin) (value : Word) (t : State) : Out := pwrWrite o 0x100 value t

/-- DROP (R480). -/
def execDrop (o : Origin) (value : Word) (t : State) : Out := pwrWrite o 0x104 value t

/-- DOMAIN_DROP (R478). -/
def execDomainDrop (d : Nat) (t : State) : Out := onDomain d t (t.domainDrop d)

/-- DOMAIN_ISOLATE (R478). -/
def execDomainIsolate (d : Nat) (t : State) : Out := onDomain d t (t.domainIsolate d)

/-- DOMAIN_OFF (R478); after a thermal trip the last one lets HUB drop (R588). -/
def execDomainOff (d : Nat) (t : State) : Out := onDomain d t (t.domainOff d).tripHub

/-- PWR_ABORTED (R480). -/
def execPwrAborted (d : Nat) (t : State) : Out := onDomain d t (t.drainTimeout d)

/-- FORCED_DROP (R482). -/
def execForcedDrop (d : Nat) (t : State) : Out := onDomain d t (t.forcedDrop d)

/-- DOMAIN_RAISE (R483). -/
def execDomainRaise (d : Nat) (t : State) : Out := onDomain d t (t.domainRaise d)

/-- DOMAIN_UP (R483). -/
def execDomainUp (d : Nat) (t : State) : Out := onDomain d t (t.domainUp d)

/-- WAKE_HOLD_EXPIRE (R484). -/
def execWakeHoldExpire (d : Nat) (t : State) : Out := onDomain d t (t.wakeHoldEnds d)

/-- HIBERNATE (R486). -/
def execHibernate (o : Origin) (value : Word) (t : State) : Out := pwrWrite o 0x108 value t

/-- HIBERNATE_ENTRY_DONE (R486). -/
def execHibernateEntryDone (t : State) : Out := done t t.hibernated

/-- ALARM (R488). -/
def execAlarm (t : State) : Out := done t t.alarm

/-- WAKE_PIN (R487, R488). -/
def execWakePin (t : State) : Out := done t t.wakePin

/-- I2C_WAKE (R487). -/
def execI2cWake (t : State) : Out := done t (t.wakeCause 2)

/-- PLY_WAKE (R487, R549). -/
def execPlyWake (t : State) : Out := done t (t.wakeCause 3)

/-- WAKE (R487, R489). -/
def execWake (t : State) : Out := done t t.wakes

/-- BROWN_OUT (R492): it causes POR. -/
def execBrownOut (t : State) : Out := done t t.powerOn

/-- PWR_WARN (R493). -/
def execPwrWarn (vaon : Bool) (rails : BitVec 16) (t : State) : Out := done t (t.warningBegins vaon rails.toNat)

/-- PWR_WARN_CLEAR (R493). -/
def execPwrWarnClear (t : State) : Out := done t t.warningClears

/-- Readings of the 21 temperature sensors (R569). -/
def onReadings (readings : List (BitVec 16)) (t u : State) : Out := onPart (readings.length = 21) t u

/-- THERMAL_WARNING (R587). -/
def execThermalWarning (readings : List (BitVec 16)) (t : State) : Out := onReadings readings t (t.thermalWarns readings)

/-- THERMAL_WARNING_END (R587). -/
def execThermalWarningEnd (readings : List (BitVec 16)) (t : State) : Out := onReadings readings t (t.thermalWarnEnds readings)

/-- SAF_THERMAL_TRIP (R588); with every other domain OFF already, HUB drops at once. -/
def execSafThermalTrip (readings : List (BitVec 16)) (t : State) : Out := onReadings readings t (t.thermalTrip readings).tripHub

/-- VCCO_BAD (R595). -/
def execVccoBad (d g : Nat) (bad : Bool) (t : State) : Out :=
  onPart (1 ≤ d && d ≤ 4 && g < 4) t (t.set (Pg.dieCtl d) DieCtl.GPIO_BANK_VCCO_BAD (b2n bad) g)

end Sys2Proof.Machine
end

