-- ==== Sys2Proof/Machine/RecorderCmds.lean ====
section
/-! DEFINITION. The meanings of the event recorder's and the time's commands (spec/18_event_recorder_time.md), and of the sensors'
(spec/20_safety_latency_limits.md R569). -/

namespace Sys2Proof.Machine

open Reg

namespace State

/-- An operating second passes; an open session counts its idle seconds (R509, R524, R585). -/
def second (s : State) (readings : List (BitVec 16)) : State :=
  let t := s.secondPasses readings
  if t.sessionOpen then t.count Pg.monitor Monitor.DBG_SESSION_IDLE_S else t

end State

/-- A sensor of a die (R569). -/
def isSensor (d s : Nat) : Bool := d < 7 && s < 3

/-- EVENT_STAGE (R527 to R535). -/
def execEventStage (code : BitVec 16) (severity : BitVec 3) (page : Nat) (detail : Word) (t : State) : Out :=
  onPart ((pageKind page).isSome && severity.toNat ≤ 4) t (t.event code.toNat severity.toNat page detail.toNat)

/-- RECORD_TO_RING (R531, R532). -/
def execRecordToRing (t : State) : Out := done t t.recordToRing

/-- TOKEN_REFILL (R533). -/
def execTokenRefill (cls : Byte) (t : State) : Out := done t (t.tokenReturns cls.toNat)

/-- EVT_SW_CMD (R535). -/
def execEvtSwCmd (o : Origin) (value : Word) (t : State) : Out := done t (t.writeReg o Pg.recorder 0x120 value)

/-- OPERATING_SECOND (R524, R585). -/
def execOperatingSecond (readings : List (BitVec 16)) (t : State) : Out :=
  onPart (readings.length = 21) t (t.second readings)

/-- CHECKPOINT (R526, R585). -/
def execCheckpoint (t : State) : Out := done t t.checkpoint

/-- TIME_OPS_READ (R524). -/
def execTimeOpsRead (o : Origin) (peek : Bool) (t : State) : Out := done t (t.readReg o Pg.time 0x100 peek)

/-- SENSOR_SUSPECT (R569). -/
def execSensorSuspect (d s : Nat) (t : State) : Out := onPart (isSensor d s) t (t.sensorSuspected d s)

/-- SENSOR_RETRY (R569). -/
def execSensorRetry (d s : Nat) (failed : Bool) (readings : List (BitVec 16)) (t : State) : Out :=
  onPart (isSensor d s && readings.length = 21) t
    (if t.safety.suspects.elem (3 * d + s) then (t.sensorReread d s failed readings).thermalWarnBegins else t)

end Sys2Proof.Machine
end

