-- ==== Sys2Proof/Machine/SkeinCmds.lean ====
section
/-! DEFINITION. The meanings of the Skein's commands (spec/10_skein_network.md). While the networks are stopped (R463) nothing moves on
them. -/

namespace Sys2Proof.Machine

open Reg

/-- A command of the networks, at a part that exists. -/
def onNet (ok : Bool) (t u : State) : Out := onPart ok t (if t.clock.stopped then t else u)

/-- ROUTER_HOP (R301 to R304, R307). -/
def execRouterHop (d x y : Nat) (bad : List Nat) (t : State) : Out := onNet (isRouter d x y) t (t.routerHop State.packetWake d x y bad)

/-- PACKET_INJECT (R306). -/
def execPacketInject (d x y : Nat) (t : State) : Out := onNet (isRouter d x y) t (t.inject d x y)

/-- SATURATION_TOKEN_GRANT (R305). -/
def execSaturationTokenGrant (d : Nat) (t : State) : Out := onNet (d ≤ 6) t (t.grantToken d)

/-- SKEIN_RD (R298, R299). -/
def execSkeinRd (e : Nat) (upsets : List Nat) (t : State) : Out := onNet (isEndpoint e) t (t.takeRead e upsets)

/-- SKEIN_WRS (R298, R299). -/
def execSkeinWrs (e : Nat) (upsets : List Nat) (t : State) : Out := onNet (isEndpoint e) t (t.takeShort e upsets)

/-- SKEIN_WRA (R298, R299). -/
def execSkeinWra (e : Nat) (upsets : List Nat) (t : State) : Out := onNet (isEndpoint e) t (t.takePart e 3 upsets)

/-- SKEIN_WRD (R298, R299). -/
def execSkeinWrd (e : Nat) (upsets : List Nat) (t : State) : Out := onNet (isEndpoint e) t (t.takePart e 4 upsets)

/-- WRITE_PAIR_TIMEOUT (R299). -/
def execWritePairTimeout (e src tag : Nat) (t : State) : Out := onNet (isEndpoint e) t (t.pairTimeout e src tag)

/-- SKEIN_MSG (R298). -/
def execSkeinMsg (e : Nat) (t : State) : Out := onNet (isEndpoint e) t (t.takeMessage e false)

/-- SKEIN_MSG_RETRY (R298, R309). -/
def execSkeinMsgRetry (e : Nat) (t : State) : Out := onNet (isEndpoint e) t (t.takeMessage e true)

/-- SKEIN_RDATA (R300). -/
def execSkeinRdata (e : Nat) (t : State) : Out := onNet (isEndpoint e) t (t.takeAnswer e (fun f => hdrClass f = 8))

/-- SKEIN_STATUS (R300). -/
def execSkeinStatus (e : Nat) (t : State) : Out := onNet (isEndpoint e) t (t.takeAnswer e (fun f => hdrClass f = 9))

/-- REQUEST_TIMEOUT (R309). -/
def execRequestTimeout (e tag : Nat) (t : State) : Out := onNet (isEndpoint e) t (t.requestExpires e tag)

/-- TAG_QUARANTINE_END (R310). -/
def execTagQuarantineEnd (e tag : Nat) (t : State) : Out := onNet (isEndpoint e) t (t.unquarantine e tag)

/-- Whether a router has a fabric attach port (R314). -/
def hasAttach (d x y : Nat) : Bool := isRouter d x y && epType (attachEp d x y) = 1

/-- ATTACH_TRANSMIT (R311): the flit that the last edge of the port's track has taken at `TVALID` and `TREADY`. -/
def execAttachTransmit (d x y : Nat) (t : State) : Out := onNet (hasAttach d x y) t (t.attachTransmit (attachEp d x y))

/-- ATTACH_DELIVER (R312): the flit that the last edge of the port's track has taken at `RVALID` and `RREADY`. -/
def execAttachDeliver (d x y : Nat) (t : State) : Out := onNet (hasAttach d x y) t (t.attachDeliver (attachEp d x y))

/-- APPLY (R316). -/
def execApply (o : Origin) (d x y : Nat) (value : Word) (t : State) : Out :=
  onPart (isRouter d x y) t (t.writeReg o (routerPage d x y) 0x010 value)

/-- RECONF_DONE (R316). -/
def execReconfDone (d x y : Nat) (t : State) : Out := onNet (isRouter d x y) t (t.reconfDone d x y)

/-- DRAIN_COMPLETE (R317). -/
def execDrainComplete (e : Nat) (t : State) : Out := onPart (isEndpoint e) t (t.portDrained e)

/-- DRAIN_TIMEOUT (R317). -/
def execDrainTimeout (e : Nat) (t : State) : Out := onPart (isEndpoint e) t (t.portTimeout e)

end Sys2Proof.Machine
end

