-- ==== Sys2Proof/Machine/Dispatch.lean ====
section
/-! DEFINITION. The dispatch of a command to its meaning: one arm for each row of spec/opcode_table.json. -/

namespace Sys2Proof.Machine

/-- What a command does to everything but the queue. -/
def exec (i : Instr) (s : State) : Host.Outcome State Fault Refusal :=
  match i with
  | .registerWrite o addr words => Sys2Proof.Machine.execRegisterWrite o addr words s
  | .expertKeyWrite o page value => Sys2Proof.Machine.execExpertKeyWrite o page value s
  | .intStatusClear o page value events err => Sys2Proof.Machine.execIntStatusClear o page value events err s
  | .intForceWrite o page value clear => Sys2Proof.Machine.execIntForceWrite o page value clear s
  | .errCountRead o page peek increment => Sys2Proof.Machine.execErrCountRead o page peek increment s
  | .hubAccessFaultClear o value => Sys2Proof.Machine.execHubAccessFaultClear o value s
  | .iaCmdRead bytes cmd => Sys2Proof.Machine.execIaCmdRead bytes cmd s
  | .iaCmdWrite bytes cmd => Sys2Proof.Machine.execIaCmdWrite bytes cmd s
  | .iaAccessDone => Sys2Proof.Machine.execIaAccessDone s
  | .iaStatWrite value => Sys2Proof.Machine.execIaStatWrite value s
  | .gsrForceWrite o d sec value release => Sys2Proof.Machine.execGsrForceWrite o d sec value release s
  | .gsrRelease d sec n span => Sys2Proof.Machine.execGsrRelease d sec n span s
  | .sctlTrackWrite o d sec n value => Sys2Proof.Machine.execSctlTrackWrite o d sec n value s
  | .trackSwitchDone d sec n => Sys2Proof.Machine.execTrackSwitchDone d sec n s
  | .trackStop d sec n => Sys2Proof.Machine.execTrackStop d sec n s
  | .tileFrameWrite d sec t f bits => Sys2Proof.Machine.execTileFrameWrite d sec t f bits s
  | .lomumTrain o d => Sys2Proof.Machine.execLomumTrain o d s
  | .lsbHello d => Sys2Proof.Machine.execLsbHello d s
  | .clkLockDone d fails => Sys2Proof.Machine.execClkLockDone d fails s
  | .wireTestDone d bad => Sys2Proof.Machine.execWireTestDone d bad s
  | .maskReport d p dir mask => Sys2Proof.Machine.execMaskReport d p dir mask s
  | .mapAssign d p dir map => Sys2Proof.Machine.execMapAssign d p dir map s
  | .trainDone d p dir map => Sys2Proof.Machine.execTrainDone d p dir map s
  | .frameLockDone d => Sys2Proof.Machine.execFrameLockDone d s
  | .trainingTimeout d => Sys2Proof.Machine.execTrainingTimeout d s
  | .sidebandMessageFail d first second => Sys2Proof.Machine.execSidebandMessageFail d first second s
  | .wireAuditStep d p dir => Sys2Proof.Machine.execWireAuditStep d p dir s
  | .wireSuspect d p dir wire compare => Sys2Proof.Machine.execWireSuspect d p dir wire compare s
  | .wireRetry d p dir wire clean => Sys2Proof.Machine.execWireRetry d p dir wire clean s
  | .swapNext d p => Sys2Proof.Machine.execSwapNext d p s
  | .moveNext d => Sys2Proof.Machine.execMoveNext d s
  | .suddenMove d p dir => Sys2Proof.Machine.execSuddenMove d p dir s
  | .crossServiceLost d p dir => Sys2Proof.Machine.execCrossServiceLost d p dir s
  | .skeinSlotReceive d m dir err => Sys2Proof.Machine.execSkeinSlotReceive d m dir err s
  | .replay d m dir => Sys2Proof.Machine.execReplay d m dir s
  | .moduleRetrain d m => Sys2Proof.Machine.execModuleRetrain d m s
  | .moduleRetrainDone d m die0 hub0 die1 hub1 done0 done1 locked => Sys2Proof.Machine.execModuleRetrainDone d m die0 hub0 die1 hub1 done0 done1 locked s
  | .crossingFrameReceive d m dir err => Sys2Proof.Machine.execCrossingFrameReceive d m dir err s
  | .xbarEntryWrite o d m g value => Sys2Proof.Machine.execXbarEntryWrite o d m g value s
  | .splitWrite o d value => Sys2Proof.Machine.execSplitWrite o d value s
  | .hubFramePoison cycle => Sys2Proof.Machine.execHubFramePoison cycle s
  | .crossFrameDeliver d m span line => Sys2Proof.Machine.execCrossFrameDeliver d m span line s
  | .crossAuditLap d m dir bad => Sys2Proof.Machine.execCrossAuditLap d m dir bad s
  | .sfifoWrite d f => Sys2Proof.Machine.execSfifoWrite d f s
  | .sfifoSend d f => Sys2Proof.Machine.execSfifoSend d f s
  | .sfifoRead d f => Sys2Proof.Machine.execSfifoRead d f s
  | .spanChannelErr d f => Sys2Proof.Machine.execSpanChannelErr d f s
  | .resync o d f => Sys2Proof.Machine.execResync o d f s
  | .channelRestart d f => Sys2Proof.Machine.execChannelRestart d f s
  | .dpbRead d sec bank b far flip => Sys2Proof.Machine.execDpbRead d sec bank b far flip s
  | .dpbWrite d sec bank b far flip => Sys2Proof.Machine.execDpbWrite d sec bank b far flip s
  | .mergeWriteStore d sec bank b far => Sys2Proof.Machine.execMergeWriteStore d sec bank b far s
  | .bkbRead d sec k b flip => Sys2Proof.Machine.execBkbRead d sec k b flip s
  | .bkbWrite d sec k b flip => Sys2Proof.Machine.execBkbWrite d sec k b flip s
  | .bkbAdd d sec k b flip => Sys2Proof.Machine.execBkbAdd d sec k b flip s
  | .bkbSwap d sec k b flip => Sys2Proof.Machine.execBkbSwap d sec k b flip s
  | .bankStore d sec k n => Sys2Proof.Machine.execBankStore d sec k n s
  | .queueWrite d sec b flip => Sys2Proof.Machine.execQueueWrite d sec b flip s
  | .queueRead d sec b flip => Sys2Proof.Machine.execQueueRead d sec b flip s
  | .queueLevelSync d sec b readSide => Sys2Proof.Machine.execQueueLevelSync d sec b readSide s
  | .qrst d sec b => Sys2Proof.Machine.execQrst d sec b s
  | .scrubRetry page q again => Sys2Proof.Machine.execScrubRetry page q again s
  | .scrubPageStep page q upsets written second again => Sys2Proof.Machine.execScrubPageStep page q upsets written second again s
  | .scrubLapDone page q us => Sys2Proof.Machine.execScrubLapDone page q us s
  | .memSlowLap page q us => Sys2Proof.Machine.execMemSlowLap page q us s
  | .tmrFix page b => Sys2Proof.Machine.execTmrFix page b s
  | .miTestRead o page => Sys2Proof.Machine.execMiTestRead o page s
  | .miTestWrite o page => Sys2Proof.Machine.execMiTestWrite o page s
  | .miTestDone page timedOut => Sys2Proof.Machine.execMiTestDone page timedOut s
  | .dspHold d sec j => Sys2Proof.Machine.execDspHold d sec j s
  | .dspLoad d sec j => Sys2Proof.Machine.execDspLoad d sec j s
  | .dspMac d sec j => Sys2Proof.Machine.execDspMac d sec j s
  | .dspMsu d sec j => Sys2Proof.Machine.execDspMsu d sec j s
  | .dspCasc d sec j => Sys2Proof.Machine.execDspCasc d sec j s
  | .dspNorm d sec j => Sys2Proof.Machine.execDspNorm d sec j s
  | .dspClear d sec j => Sys2Proof.Machine.execDspClear d sec j s
  | .dspCload d sec j => Sys2Proof.Machine.execDspCload d sec j s
  | .dspCwe d sec j => Sys2Proof.Machine.execDspCwe d sec j s
  | .dspCrst d sec j => Sys2Proof.Machine.execDspCrst d sec j s
  | .dspCnext d sec j => Sys2Proof.Machine.execDspCnext d sec j s
  | .integerInstruction e => Sys2Proof.Machine.execIntegerInstruction e s
  | .engineLoad e => Sys2Proof.Machine.execEngineLoad e s
  | .engineStore e => Sys2Proof.Machine.execEngineStore e s
  | .lrW e => Sys2Proof.Machine.execLrW e s
  | .scW e => Sys2Proof.Machine.execScW e s
  | .amoaddW e => Sys2Proof.Machine.execAmoaddW e s
  | .amo e => Sys2Proof.Machine.execAmo e s
  | .fence e => Sys2Proof.Machine.execFence e s
  | .fenceI e => Sys2Proof.Machine.execFenceI e s
  | .ebreak e => Sys2Proof.Machine.execEbreak e s
  | .csrAccess e => Sys2Proof.Machine.execCsrAccess e s
  | .iclaim e => Sys2Proof.Machine.execIclaim e s
  | .icomplete e => Sys2Proof.Machine.execIcomplete e s
  | .interruptTake e => Sys2Proof.Machine.execInterruptTake e s
  | .doorbellSet o e value => Sys2Proof.Machine.execDoorbellSet o e value s
  | .dmul e => Sys2Proof.Machine.execDmul e s
  | .dmac e => Sys2Proof.Machine.execDmac e s
  | .dmsu e => Sys2Proof.Machine.execDmsu e s
  | .dmuli e => Sys2Proof.Machine.execDmuli e s
  | .dmaci e => Sys2Proof.Machine.execDmaci e s
  | .dmsui e => Sys2Proof.Machine.execDmsui e s
  | .dclr e => Sys2Proof.Machine.execDclr e s
  | .dnorm e => Sys2Proof.Machine.execDnorm e s
  | .dmov e => Sys2Proof.Machine.execDmov e s
  | .dexpc e => Sys2Proof.Machine.execDexpc e s
  | .drdlo e => Sys2Proof.Machine.execDrdlo e s
  | .drdhi e => Sys2Proof.Machine.execDrdhi e s
  | .dwracc e => Sys2Proof.Machine.execDwracc e s
  | .dadda e => Sys2Proof.Machine.execDadda e s
  | .dldp e => Sys2Proof.Machine.execDldp e s
  | .dstp e => Sys2Proof.Machine.execDstp e s
  | .dmacl e => Sys2Proof.Machine.execDmacl e s
  | .dmsul e => Sys2Proof.Machine.execDmsul e s
  | .dmull e => Sys2Proof.Machine.execDmull e s
  | .remoteLoad e => Sys2Proof.Machine.execRemoteLoad e s
  | .remoteStore e => Sys2Proof.Machine.execRemoteStore e s
  | .remoteResponse e => Sys2Proof.Machine.execRemoteResponse e s
  | .rfError e reg correctable clean => Sys2Proof.Machine.execRfError e reg correctable clean s
  | .timerHit e t => Sys2Proof.Machine.execTimerHit e t s
  | .wdtExpiry e => Sys2Proof.Machine.execWdtExpiry e s
  | .wdtKick o e value => Sys2Proof.Machine.execWdtKick o e value s
  | .dmaHeadWrite o e value => Sys2Proof.Machine.execDmaHeadWrite o e value s
  | .dmaDescriptorStart e => Sys2Proof.Machine.execDmaDescriptorStart e s
  | .dmaDescriptorDone e => Sys2Proof.Machine.execDmaDescriptorDone e s
  | .dmaResume o e value => Sys2Proof.Machine.execDmaResume o e value s
  | .vtTx e b => Sys2Proof.Machine.execVtTx e b s
  | .vtRx e => Sys2Proof.Machine.execVtRx e s
  | .vtOutAck o e value => Sys2Proof.Machine.execVtOutAck o e value s
  | .vtInData o e value => Sys2Proof.Machine.execVtInData o e value s
  | .engHalt o e value => Sys2Proof.Machine.execEngHalt o e value s
  | .haltDone e => Sys2Proof.Machine.execHaltDone e s
  | .engRun o e value => Sys2Proof.Machine.execEngRun o e value s
  | .engReset o e value => Sys2Proof.Machine.execEngReset o e value s
  | .lockstep o e value => Sys2Proof.Machine.execLockstep o e value s
  | .lockstepCopyDone e => Sys2Proof.Machine.execLockstepCopyDone e s
  | .lockstepMismatch e again bad0 bad1 => Sys2Proof.Machine.execLockstepMismatch e again bad0 bad1 s
  | .subst e write => Sys2Proof.Machine.execSubst e write s
  | .substCopyStart e timedOut => Sys2Proof.Machine.execSubstCopyStart e timedOut s
  | .substCopyDone e => Sys2Proof.Machine.execSubstCopyDone e s
  | .routerHop d x y bad => Sys2Proof.Machine.execRouterHop d x y bad s
  | .packetInject d x y => Sys2Proof.Machine.execPacketInject d x y s
  | .saturationTokenGrant d => Sys2Proof.Machine.execSaturationTokenGrant d s
  | .skeinRd e upsets => Sys2Proof.Machine.execSkeinRd e upsets s
  | .skeinWrs e upsets => Sys2Proof.Machine.execSkeinWrs e upsets s
  | .skeinWra e upsets => Sys2Proof.Machine.execSkeinWra e upsets s
  | .skeinWrd e upsets => Sys2Proof.Machine.execSkeinWrd e upsets s
  | .writePairTimeout e src tag => Sys2Proof.Machine.execWritePairTimeout e src tag s
  | .skeinMsg e => Sys2Proof.Machine.execSkeinMsg e s
  | .skeinMsgRetry e => Sys2Proof.Machine.execSkeinMsgRetry e s
  | .skeinRdata e => Sys2Proof.Machine.execSkeinRdata e s
  | .skeinStatus e => Sys2Proof.Machine.execSkeinStatus e s
  | .requestTimeout e tag => Sys2Proof.Machine.execRequestTimeout e tag s
  | .tagQuarantineEnd e tag => Sys2Proof.Machine.execTagQuarantineEnd e tag s
  | .attachTransmit d x y => Sys2Proof.Machine.execAttachTransmit d x y s
  | .attachDeliver d x y => Sys2Proof.Machine.execAttachDeliver d x y s
  | .apply o d x y value => Sys2Proof.Machine.execApply o d x y value s
  | .reconfDone d x y => Sys2Proof.Machine.execReconfDone d x y s
  | .drainComplete e => Sys2Proof.Machine.execDrainComplete e s
  | .drainTimeout e => Sys2Proof.Machine.execDrainTimeout e s
  | .laneEn o l n value => Sys2Proof.Machine.execLaneEn o l n value s
  | .lanePllReady l n => Sys2Proof.Machine.execLanePllReady l n s
  | .signalPresent l n => Sys2Proof.Machine.execSignalPresent l n s
  | .linkTrainingDone l n fields => Sys2Proof.Machine.execLinkTrainingDone l n fields s
  | .ltTimeout l n => Sys2Proof.Machine.execLtTimeout l n s
  | .adaptDone l n eye ctle => Sys2Proof.Machine.execAdaptDone l n eye ctle s
  | .adaptTimeout l n => Sys2Proof.Machine.execAdaptTimeout l n s
  | .alignDone l n => Sys2Proof.Machine.execAlignDone l n s
  | .alignTimeout l n => Sys2Proof.Machine.execAlignTimeout l n s
  | .lossOfSignal l n => Sys2Proof.Machine.execLossOfSignal l n s
  | .lockLoss l n fec => Sys2Proof.Machine.execLockLoss l n fec s
  | .laneRetrain o l n value => Sys2Proof.Machine.execLaneRetrain o l n value s
  | .downSignalReturn l n => Sys2Proof.Machine.execDownSignalReturn l n s
  | .opllEnable o d q value => Sys2Proof.Machine.execOpllEnable o d q value s
  | .opllLock d q b => Sys2Proof.Machine.execOpllLock d q b s
  | .opllLockFail d q b => Sys2Proof.Machine.execOpllLockFail d q b s
  | .lanePllUnlock d q b => Sys2Proof.Machine.execLanePllUnlock d q b s
  | .prbsErrRead o l n peek => Sys2Proof.Machine.execPrbsErrRead o l n peek s
  | .prbsOne o l n value => Sys2Proof.Machine.execPrbsOne o l n value s
  | .slip o l n value => Sys2Proof.Machine.execSlip o l n value s
  | .tsInfoRead o l n peek => Sys2Proof.Machine.execTsInfoRead o l n peek s
  | .rxFrameEnd l n time held => Sys2Proof.Machine.execRxFrameEnd l n time held s
  | .releaseSend d q => Sys2Proof.Machine.execReleaseSend d q s
  | .release d q => Sys2Proof.Machine.execRelease d q s
  | .responseInsert d q => Sys2Proof.Machine.execResponseInsert d q s
  | .releaseResponse d q => Sys2Proof.Machine.execReleaseResponse d q s
  | .rfxCommit o d q value => Sys2Proof.Machine.execRfxCommit o d q value s
  | .ddrEnable o c value => Sys2Proof.Machine.execDdrEnable o c value s
  | .ddrDisable o c value => Sys2Proof.Machine.execDdrDisable o c value s
  | .ddrTrainStepDone c dimm => Sys2Proof.Machine.execDdrTrainStepDone c dimm s
  | .ddrTrainTimeout c crc => Sys2Proof.Machine.execDdrTrainTimeout c crc s
  | .zeroFillDone c => Sys2Proof.Machine.execZeroFillDone c s
  | .ddrRetrain o c value => Sys2Proof.Machine.execDdrRetrain o c value s
  | .ddrLineRead c id line prio => Sys2Proof.Machine.execDdrLineRead c id line prio s
  | .ddrLineWrite c id line prio data => Sys2Proof.Machine.execDdrLineWrite c id line prio data s
  | .ddrCommandIssue c aged wait => Sys2Proof.Machine.execDdrCommandIssue c aged wait s
  | .ddrReadData c err => Sys2Proof.Machine.execDdrReadData c err s
  | .ddrReadRetry c err => Sys2Proof.Machine.execDdrReadRetry c err s
  | .rowOpenTimeout c b => Sys2Proof.Machine.execRowOpenTimeout c b s
  | .refreshDebtTick c rank => Sys2Proof.Machine.execRefreshDebtTick c rank s
  | .refsbIssue c rank b all => Sys2Proof.Machine.execRefsbIssue c rank b all s
  | .tempRatePoll c rates => Sys2Proof.Machine.execTempRatePoll c rates s
  | .rfmIssue c b => Sys2Proof.Machine.execRfmIssue c b s
  | .drfmIssue c b => Sys2Proof.Machine.execDrfmIssue c b s
  | .ddrAlert c recent again => Sys2Proof.Machine.execDdrAlert c recent again s
  | .selfRefreshEntry c => Sys2Proof.Machine.execSelfRefreshEntry c s
  | .selfRefreshExit c => Sys2Proof.Machine.execSelfRefreshExit c s
  | .cryptoRead c upsets => Sys2Proof.Machine.execCryptoRead c upsets s
  | .cryptoPartialWrite c upsets => Sys2Proof.Machine.execCryptoPartialWrite c upsets s
  | .cryptoFullWrite c upsets => Sys2Proof.Machine.execCryptoFullWrite c upsets s
  | .regionEnable o c r value => Sys2Proof.Machine.execRegionEnable o c r value s
  | .regionClose o c r value => Sys2Proof.Machine.execRegionClose o c r value s
  | .regionCloseDone c r => Sys2Proof.Machine.execRegionCloseDone c r s
  | .cryInit o c value => Sys2Proof.Machine.execCryInit o c value s
  | .initDone c => Sys2Proof.Machine.execInitDone c s
  | .generate o c slot => Sys2Proof.Machine.execGenerate o c slot s
  | .derive o c slot => Sys2Proof.Machine.execDerive o c slot s
  | .retire o c slot => Sys2Proof.Machine.execRetire o c slot s
  | .keyCmdDone c => Sys2Proof.Machine.execKeyCmdDone c s
  | .annealStart o c value => Sys2Proof.Machine.execAnnealStart o c value s
  | .annealLine c upsets => Sys2Proof.Machine.execAnnealLine c upsets s
  | .cryAnnealDone c => Sys2Proof.Machine.execCryAnnealDone c s
  | .ctrPreset o c value => Sys2Proof.Machine.execCtrPreset o c value s
  | .bootAttempt => Sys2Proof.Machine.execBootAttempt s
  | .imageHeader image => Sys2Proof.Machine.execImageHeader image s
  | .stage1 body => Sys2Proof.Machine.execStage1 body s
  | .frames ends => Sys2Proof.Machine.execFrames ends s
  | .literal addr second data check => Sys2Proof.Machine.execLiteral addr second data check s
  | .zero addr second check => Sys2Proof.Machine.execZero addr second check s
  | .repeatFrames addr second check => Sys2Proof.Machine.execRepeatFrames addr second check s
  | .engines records => Sys2Proof.Machine.execEngines records s
  | .xmap body => Sys2Proof.Machine.execXmap body s
  | .regwrite pairs => Sys2Proof.Machine.execRegwrite pairs s
  | .sectorCrc values => Sys2Proof.Machine.execSectorCrc values s
  | .cfgBootFail reason die at_ => Sys2Proof.Machine.execCfgBootFail reason die at_ s
  | .loadStallTimeout => Sys2Proof.Machine.execLoadStallTimeout s
  | .startupPhaseDone refA refB => Sys2Proof.Machine.execStartupPhaseDone refA refB s
  | .startupPhaseTimeout => Sys2Proof.Machine.execStartupPhaseTimeout s
  | .dieRelease => Sys2Proof.Machine.execDieRelease s
  | .hostLoad o value => Sys2Proof.Machine.execHostLoad o value s
  | .reload o value => Sys2Proof.Machine.execReload o value s
  | .hubBootConfirm o value => Sys2Proof.Machine.execHubBootConfirm o value s
  | .auditLapDone d sec us => Sys2Proof.Machine.execAuditLapDone d sec us s
  | .auditMismatch d sec tile clean => Sys2Proof.Machine.execAuditMismatch d sec tile clean s
  | .refclkBad b => Sys2Proof.Machine.execRefclkBad b s
  | .refRevert => Sys2Proof.Machine.execRefRevert s
  | .refHoldoverEnd => Sys2Proof.Machine.execRefHoldoverEnd s
  | .refRecover b => Sys2Proof.Machine.execRefRecover b s
  | .pllFail p => Sys2Proof.Machine.execPllFail p s
  | .pllRelockDone p holds => Sys2Proof.Machine.execPllRelockDone p holds s
  | .por => Sys2Proof.Machine.execPor s
  | .resetNAssert => Sys2Proof.Machine.execResetNAssert s
  | .resetNRelease => Sys2Proof.Machine.execResetNRelease s
  | .deviceReset o value => Sys2Proof.Machine.execDeviceReset o value s
  | .warmReset o value => Sys2Proof.Machine.execWarmReset o value s
  | .dieReset o value => Sys2Proof.Machine.execDieReset o value s
  | .domainReset o value => Sys2Proof.Machine.execDomainReset o value s
  | .registerResetEnd => Sys2Proof.Machine.execRegisterResetEnd s
  | .dieResetRelease d => Sys2Proof.Machine.execDieResetRelease d s
  | .clkSpanCountRead o peek => Sys2Proof.Machine.execClkSpanCountRead o peek s
  | .voteCast o value => Sys2Proof.Machine.execVoteCast o value s
  | .voteWithdraw o value => Sys2Proof.Machine.execVoteWithdraw o value s
  | .drop o value => Sys2Proof.Machine.execDrop o value s
  | .domainDrop d => Sys2Proof.Machine.execDomainDrop d s
  | .domainIsolate d => Sys2Proof.Machine.execDomainIsolate d s
  | .domainOff d => Sys2Proof.Machine.execDomainOff d s
  | .pwrAborted d => Sys2Proof.Machine.execPwrAborted d s
  | .forcedDrop d => Sys2Proof.Machine.execForcedDrop d s
  | .domainRaise d => Sys2Proof.Machine.execDomainRaise d s
  | .domainUp d => Sys2Proof.Machine.execDomainUp d s
  | .wakeHoldExpire d => Sys2Proof.Machine.execWakeHoldExpire d s
  | .hibernate o value => Sys2Proof.Machine.execHibernate o value s
  | .hibernateEntryDone => Sys2Proof.Machine.execHibernateEntryDone s
  | .alarm => Sys2Proof.Machine.execAlarm s
  | .wakePin => Sys2Proof.Machine.execWakePin s
  | .i2cWake => Sys2Proof.Machine.execI2cWake s
  | .plyWake => Sys2Proof.Machine.execPlyWake s
  | .wake => Sys2Proof.Machine.execWake s
  | .brownOut => Sys2Proof.Machine.execBrownOut s
  | .pwrWarn vaon rails => Sys2Proof.Machine.execPwrWarn vaon rails s
  | .pwrWarnClear => Sys2Proof.Machine.execPwrWarnClear s
  | .openSession => Sys2Proof.Machine.execOpenSession s
  | .authKey => Sys2Proof.Machine.execAuthKey s
  | .authPw => Sys2Proof.Machine.execAuthPw s
  | .closeSession => Sys2Proof.Machine.execCloseSession s
  | .mbRd => Sys2Proof.Machine.execMbRd s
  | .mbWr => Sys2Proof.Machine.execMbWr s
  | .memrd => Sys2Proof.Machine.execMemrd s
  | .memwr => Sys2Proof.Machine.execMemwr s
  | .mbReqData b => Sys2Proof.Machine.execMbReqData b s
  | .mbRspData => Sys2Proof.Machine.execMbRspData s
  | .ptrReset cmd => Sys2Proof.Machine.execPtrReset cmd s
  | .sessionIdleTimeout => Sys2Proof.Machine.execSessionIdleTimeout s
  | .step o e value => Sys2Proof.Machine.execStep o e value s
  | .dbgHalt o e value => Sys2Proof.Machine.execDbgHalt o e value s
  | .dbgRun o e value => Sys2Proof.Machine.execDbgRun o e value s
  | .breakpoint e => Sys2Proof.Machine.execBreakpoint e s
  | .watchpoint e => Sys2Proof.Machine.execWatchpoint e s
  | .crossTrigger e => Sys2Proof.Machine.execCrossTrigger e s
  | .engDbgRegdata o e value => Sys2Proof.Machine.execEngDbgRegdata o e value s
  | .armCapture o d sec value => Sys2Proof.Machine.execArmCapture o d sec value s
  | .capture d sec span => Sys2Proof.Machine.execCapture d sec span s
  | .resume o d sec value => Sys2Proof.Machine.execResume o d sec value s
  | .eventStage code severity page detail => Sys2Proof.Machine.execEventStage code severity page detail s
  | .recordToRing => Sys2Proof.Machine.execRecordToRing s
  | .tokenRefill cls => Sys2Proof.Machine.execTokenRefill cls s
  | .evtSwCmd o value => Sys2Proof.Machine.execEvtSwCmd o value s
  | .operatingSecond readings => Sys2Proof.Machine.execOperatingSecond readings s
  | .checkpoint => Sys2Proof.Machine.execCheckpoint s
  | .timeOpsRead o peek => Sys2Proof.Machine.execTimeOpsRead o peek s
  | .plyLinkTrained p => Sys2Proof.Machine.execPlyLinkTrained p s
  | .hello p payload => Sys2Proof.Machine.execHello p payload s
  | .helloSig p sig => Sys2Proof.Machine.execHelloSig p sig s
  | .plyAuthRetry p => Sys2Proof.Machine.execPlyAuthRetry p s
  | .plyIdle f => Sys2Proof.Machine.execPlyIdle f s
  | .plyNak f => Sys2Proof.Machine.execPlyNak f s
  | .plyLinkSilence p => Sys2Proof.Machine.execPlyLinkSilence p s
  | .discover f own reached => Sys2Proof.Machine.execDiscover f own reached s
  | .ringCloseTimeout reached => Sys2Proof.Machine.execRingCloseTimeout reached s
  | .plyIsolate => Sys2Proof.Machine.execPlyIsolate s
  | .mgmtReq f => Sys2Proof.Machine.execMgmtReq f s
  | .mgmtRsp f => Sys2Proof.Machine.execMgmtRsp f s
  | .mgmtTimeout => Sys2Proof.Machine.execMgmtTimeout s
  | .plyMgmtGo o value => Sys2Proof.Machine.execPlyMgmtGo o value s
  | .cfgStart f => Sys2Proof.Machine.execCfgStart f s
  | .cfgData f => Sys2Proof.Machine.execCfgData f s
  | .cfgEnd f => Sys2Proof.Machine.execCfgEnd f s
  | .cfgReq f => Sys2Proof.Machine.execCfgReq f s
  | .plyEvent f => Sys2Proof.Machine.execPlyEvent f s
  | .epoch f => Sys2Proof.Machine.execEpoch f s
  | .epochBroadcast => Sys2Proof.Machine.execEpochBroadcast s
  | .debugReq f => Sys2Proof.Machine.execDebugReq f s
  | .debugRsp f => Sys2Proof.Machine.execDebugRsp f s
  | .ctrlDeviceReset f => Sys2Proof.Machine.execCtrlDeviceReset f s
  | .ctrlWarmReset f => Sys2Proof.Machine.execCtrlWarmReset f s
  | .ctrlWake f => Sys2Proof.Machine.execCtrlWake f s
  | .hibernating f => Sys2Proof.Machine.execHibernating f s
  | .bootReport f => Sys2Proof.Machine.execBootReport f s
  | .plyRestart o value => Sys2Proof.Machine.execPlyRestart o value s
  | .sensorSuspect d k => Sys2Proof.Machine.execSensorSuspect d k s
  | .sensorRetry d k failed readings => Sys2Proof.Machine.execSensorRetry d k failed readings s
  | .thermalWarning readings => Sys2Proof.Machine.execThermalWarning readings s
  | .thermalWarningEnd readings => Sys2Proof.Machine.execThermalWarningEnd readings s
  | .safThermalTrip readings => Sys2Proof.Machine.execSafThermalTrip readings s
  | .registerRead o addr count peek be => Sys2Proof.Machine.execRegisterRead o addr count peek be s
  | .trackRisingEdge tracks span late => Sys2Proof.Machine.execTrackRisingEdge tracks span late s
  | .srAsyncAssert d sec t c => Sys2Proof.Machine.execSrAsyncAssert d sec t c s
  | .prbsLockGain l n => Sys2Proof.Machine.execPrbsLockGain l n s
  | .prbsLockLoss l n => Sys2Proof.Machine.execPrbsLockLoss l n s
  | .uncorrectableCodeword l n blocks => Sys2Proof.Machine.execUncorrectableCodeword l n blocks s
  | .txUnderrun l n => Sys2Proof.Machine.execTxUnderrun l n s
  | .reserveModuleFails d => Sys2Proof.Machine.execReserveModuleFails d s
  | .sparePllLock p => Sys2Proof.Machine.execSparePllLock p s
  | .diePllHoldoverEnd => Sys2Proof.Machine.execDiePllHoldoverEnd s
  | .dieResetHoldEnd d => Sys2Proof.Machine.execDieResetHoldEnd d s
  | .badCmd => Sys2Proof.Machine.execBadCmd s
  | .vccoBad d g bad => Sys2Proof.Machine.execVccoBad d g bad s

end Sys2Proof.Machine
end

