-- ==== Sys2Proof/WellFormed.lean ====
section
/-! DEFINITION. Well-formed commands: those whose operands name parts of the device, in the ranges the manual gives. A command that
names no part cannot be given to the hardware; its meaning faults (`Fault.noSuchPart`). -/

namespace Sys2Proof

open Machine

/-- Whether the parts a command names exist. -/
def Instr.wellFormed (i : Instr) : Bool :=
  match i with
  | .registerWrite _ addr words => State.inAperture addr words.length
  | .expertKeyWrite _ page _ => isPage page
  | .intStatusClear _ page _ _ _ => isPage page
  | .intForceWrite _ page _ _ => isPage page
  | .errCountRead _ page _ _ => isPage page
  | .hubAccessFaultClear _ _ => true
  | .iaCmdRead _ _ => true
  | .iaCmdWrite _ _ => true
  | .iaAccessDone => true
  | .iaStatWrite _ => true
  | .gsrForceWrite _ d s _ _ => isSector d s
  | .gsrRelease d s n _ => isTrack d s n
  | .sctlTrackWrite _ d s n _ => isTrack d s n
  | .trackSwitchDone d s n => isTrack d s n
  | .trackStop d s n => isTrack d s n
  | .tileFrameWrite d s tile f _ => isSector d s && tile < 128 && f < 48
  | .lomumTrain _ d => isPort d
  | .lsbHello d => isPort d
  | .clkLockDone d fails => isPort d && fails.all (fun f => isModuleDir d f.1 f.2)
  | .wireTestDone d bad => isPort d && bad.all (fun b => isModuleDir d b.1 b.2.1 && b.2.2 < 68)
  | .maskReport d p dir _ => isModuleDir d p dir
  | .mapAssign d p dir _ => isModuleDir d p dir
  | .trainDone d p dir _ => isModuleDir d p dir
  | .frameLockDone d => isPort d
  | .trainingTimeout d => isPort d
  | .sidebandMessageFail d _ _ => isPort d
  | .wireAuditStep d p dir => isModuleDir d p dir
  | .wireSuspect d p dir wire _ => isModuleDir d p dir && wire < 68
  | .wireRetry d p dir wire _ => isModuleDir d p dir && wire < 68
  | .swapNext d p => isModuleDir d p 0
  | .moveNext d => isPort d
  | .suddenMove d p dir => isModuleDir d p dir
  | .crossServiceLost d p dir => isModuleDir d p dir
  | .skeinSlotReceive d m dir _ => isLogicalDir d m dir
  | .replay d m dir => isLogicalDir d m dir
  | .moduleRetrain d m => isLogicalDir d m 0
  | .moduleRetrainDone d m _ _ _ _ _ _ _ => isLogicalDir d m 0
  | .crossingFrameReceive d m dir _ => isLogicalDir d m dir
  | .xbarEntryWrite _ d m g _ => isLogicalDir d m 0 && g < 192
  | .splitWrite _ d _ => isPort d
  | .hubFramePoison _ => true
  | .crossFrameDeliver d m _ line => isLogicalDir d m 0 && areLanes line
  | .crossAuditLap d m dir bad => isLogicalDir d m dir && bad.all (· < 68)
  | .sfifoWrite d f => isChannelPort d f
  | .sfifoSend d f => isChannelPort d f
  | .sfifoRead d f => isChannelPort d f
  | .spanChannelErr d f => isChannelPort d f
  | .resync _ d f => isChannelPort d f
  | .channelRestart d f => isChannelPort d f
  | .dpbRead d s i b _ _ => isDpb d s i b
  | .dpbWrite d s i b _ _ => isDpb d s i b
  | .mergeWriteStore d s i b _ => isDpb d s i b
  | .bkbRead d s k b _ => isBkb d s k b
  | .bkbWrite d s k b _ => isBkb d s k b
  | .bkbAdd d s k b _ => isBkb d s k b
  | .bkbSwap d s k b _ => isBkb d s k b
  | .bankStore d s k n => isBkb d s k 0 && n < 8
  | .queueWrite d s b _ => isBlock d s b
  | .queueRead d s b _ => isBlock d s b
  | .queueLevelSync d s b _ => isBlock d s b
  | .qrst d s b => isBlock d s b
  | .scrubRetry page q _ => isScrubBank page q
  | .scrubPageStep page q _ _ _ _ => isScrubBank page q
  | .scrubLapDone page q _ => isScrubBank page q
  | .memSlowLap page q _ => isMiBank page q
  | .tmrFix page b => isMiBlock page b
  | .miTestRead _ page => isMiPage page
  | .miTestWrite _ page => isMiPage page
  | .miTestDone page _ => isMiPage page
  | .dspHold d s j => isSlice d s j
  | .dspLoad d s j => isSlice d s j
  | .dspMac d s j => isSlice d s j
  | .dspMsu d s j => isSlice d s j
  | .dspCasc d s j => isSlice d s j
  | .dspNorm d s j => isSlice d s j
  | .dspClear d s j => isSlice d s j
  | .dspCload d s j => isSlice d s j
  | .dspCwe d s j => isSlice d s j
  | .dspCrst d s j => isSlice d s j
  | .dspCnext d s j => isSlice d s j
  | .integerInstruction e => isEngine e
  | .engineLoad e => isEngine e
  | .engineStore e => isEngine e
  | .lrW e => isEngine e
  | .scW e => isEngine e
  | .amoaddW e => isEngine e
  | .amo e => isEngine e
  | .fence e => isEngine e
  | .fenceI e => isEngine e
  | .ebreak e => isEngine e
  | .csrAccess e => isEngine e
  | .iclaim e => isEngine e
  | .icomplete e => isEngine e
  | .interruptTake e => isEngine e
  | .doorbellSet _ e _ => isEngine e
  | .dmul e => isEngine e
  | .dmac e => isEngine e
  | .dmsu e => isEngine e
  | .dmuli e => isEngine e
  | .dmaci e => isEngine e
  | .dmsui e => isEngine e
  | .dclr e => isEngine e
  | .dnorm e => isEngine e
  | .dmov e => isEngine e
  | .dexpc e => isEngine e
  | .drdlo e => isEngine e
  | .drdhi e => isEngine e
  | .dwracc e => isEngine e
  | .dadda e => isEngine e
  | .dldp e => isEngine e
  | .dstp e => isEngine e
  | .dmacl e => isEngine e
  | .dmsul e => isEngine e
  | .dmull e => isEngine e
  | .remoteLoad e => isEngine e
  | .remoteStore e => isEngine e
  | .remoteResponse e => isEngine e
  | .rfError e reg _ _ => isEngine e && reg < 36
  | .timerHit e n => isEngine e && n < 2
  | .wdtExpiry e => isEngine e
  | .wdtKick _ e _ => isEngine e
  | .dmaHeadWrite _ e _ => isEngine e
  | .dmaDescriptorStart e => isEngine e
  | .dmaDescriptorDone e => isEngine e
  | .dmaResume _ e _ => isEngine e
  | .vtTx e _ => isEngine e
  | .vtRx e => isEngine e
  | .vtOutAck _ e _ => isEngine e
  | .vtInData _ e _ => isEngine e
  | .engHalt _ e _ => isEngine e
  | .haltDone e => isEngine e
  | .engRun _ e _ => isEngine e
  | .engReset _ e _ => isEngine e
  | .lockstep _ e _ => isEngine e
  | .lockstepCopyDone e => isEngine e
  | .lockstepMismatch e _ _ _ => isEngine e
  | .subst e _ => isEngine e
  | .substCopyStart e _ => isEngine e
  | .substCopyDone e => isEngine e
  | .routerHop d x y _ => isRouter d x y
  | .packetInject d x y => isRouter d x y
  | .saturationTokenGrant d => d ≤ 6
  | .skeinRd e _ => isEndpoint e
  | .skeinWrs e _ => isEndpoint e
  | .skeinWra e _ => isEndpoint e
  | .skeinWrd e _ => isEndpoint e
  | .writePairTimeout e _ _ => isEndpoint e
  | .skeinMsg e => isEndpoint e
  | .skeinMsgRetry e => isEndpoint e
  | .skeinRdata e => isEndpoint e
  | .skeinStatus e => isEndpoint e
  | .requestTimeout e _ => isEndpoint e
  | .tagQuarantineEnd e _ => isEndpoint e
  | .attachTransmit d x y => hasAttach d x y
  | .attachDeliver d x y => hasAttach d x y
  | .apply _ d x y _ => isRouter d x y
  | .reconfDone d x y => isRouter d x y
  | .drainComplete e => isEndpoint e
  | .drainTimeout e => isEndpoint e
  | .laneEn _ _ n _ => n < 64
  | .lanePllReady _ n => n < 64
  | .signalPresent _ n => n < 64
  | .linkTrainingDone _ n _ => n < 64
  | .ltTimeout _ n => n < 64
  | .adaptDone _ n _ _ => n < 64
  | .adaptTimeout _ n => n < 64
  | .alignDone _ n => n < 64
  | .alignTimeout _ n => n < 64
  | .lossOfSignal _ n => n < 64
  | .lockLoss _ n _ => n < 64
  | .laneRetrain _ _ n _ => n < 64
  | .downSignalReturn _ n => n < 64
  | .opllEnable _ d q _ => isOctet d q
  | .opllLock d q _ => isOctet d q
  | .opllLockFail d q _ => isOctet d q
  | .lanePllUnlock d q _ => isOctet d q
  | .prbsErrRead _ _ n _ => n < 64
  | .prbsOne _ _ n _ => n < 64
  | .slip _ _ n _ => n < 64
  | .tsInfoRead _ _ n _ => n < 64
  | .rxFrameEnd _ n _ _ => n < 64
  | .releaseSend d q => isOctet d q
  | .release d q => isOctet d q
  | .responseInsert d q => isOctet d q
  | .releaseResponse d q => isOctet d q
  | .rfxCommit _ d q _ => isOctet d q
  | .ddrEnable _ c _ => c < 8
  | .ddrDisable _ c _ => c < 8
  | .ddrTrainStepDone c _ => c < 8
  | .ddrTrainTimeout c _ => c < 8
  | .zeroFillDone c => c < 8
  | .ddrRetrain _ c _ => c < 8
  | .ddrLineRead c _ _ _ => c < 8
  | .ddrLineWrite c _ _ _ _ => c < 8
  | .ddrCommandIssue c _ _ => c < 8
  | .ddrReadData c _ => c < 8
  | .ddrReadRetry c _ => c < 8
  | .rowOpenTimeout c b => c < 8 && b < 256
  | .refreshDebtTick c rank => c < 8 && rank < 4
  | .refsbIssue c rank b _ => c < 8 && rank < 4 && b < 4
  | .tempRatePoll c _ => c < 8
  | .rfmIssue c b => c < 8 && b < 256
  | .drfmIssue c b => c < 8 && b < 256
  | .ddrAlert c _ _ => c < 8
  | .selfRefreshEntry c => c < 8
  | .selfRefreshExit c => c < 8
  | .cryptoRead c _ => c < 8
  | .cryptoPartialWrite c _ => c < 8
  | .cryptoFullWrite c _ => c < 8
  | .regionEnable _ c r _ => c < 8 && r < 16
  | .regionClose _ c r _ => c < 8 && r < 16
  | .regionCloseDone c r => c < 8 && r < 16
  | .cryInit _ c _ => c < 8
  | .initDone c => c < 8
  | .generate _ c slot => c < 8 && slot < 32
  | .derive _ c slot => c < 8 && slot < 32
  | .retire _ c slot => c < 8 && slot < 32
  | .keyCmdDone c => c < 8
  | .annealStart _ c _ => c < 8
  | .annealLine c _ => c < 8
  | .cryAnnealDone c => c < 8
  | .ctrPreset _ c _ => c < 8
  | .bootAttempt => true
  | .imageHeader _ => true
  | .stage1 _ => true
  | .frames _ => true
  | .literal _ _ _ _ => true
  | .zero _ _ _ => true
  | .repeatFrames _ _ _ => true
  | .engines _ => true
  | .xmap _ => true
  | .regwrite _ => true
  | .sectorCrc _ => true
  | .cfgBootFail _ _ _ => true
  | .loadStallTimeout => true
  | .startupPhaseDone _ _ => true
  | .startupPhaseTimeout => true
  | .dieRelease => true
  | .hostLoad _ _ => true
  | .reload _ _ => true
  | .hubBootConfirm _ _ => true
  | .auditLapDone d s _ => isSector d s
  | .auditMismatch d s tile _ => isSector d s && tile ≤ 128
  | .refclkBad _ => true
  | .refRevert => true
  | .refHoldoverEnd => true
  | .refRecover _ => true
  | .pllFail p => p < 4
  | .pllRelockDone p _ => p < 4
  | .por => true
  | .resetNAssert => true
  | .resetNRelease => true
  | .deviceReset _ _ => true
  | .warmReset _ _ => true
  | .dieReset _ _ => true
  | .domainReset _ _ => true
  | .registerResetEnd => true
  | .dieResetRelease d => isPort d
  | .clkSpanCountRead _ _ => true
  | .voteCast _ _ => true
  | .voteWithdraw _ _ => true
  | .drop _ _ => true
  | .domainDrop d => isDomain d
  | .domainIsolate d => isDomain d
  | .domainOff d => isDomain d
  | .pwrAborted d => isDomain d
  | .forcedDrop d => isDomain d
  | .domainRaise d => isDomain d
  | .domainUp d => isDomain d
  | .wakeHoldExpire d => isDomain d
  | .hibernate _ _ => true
  | .hibernateEntryDone => true
  | .alarm => true
  | .wakePin => true
  | .i2cWake => true
  | .plyWake => true
  | .wake => true
  | .brownOut => true
  | .pwrWarn _ _ => true
  | .pwrWarnClear => true
  | .openSession => true
  | .authKey => true
  | .authPw => true
  | .closeSession => true
  | .mbRd => true
  | .mbWr => true
  | .memrd => true
  | .memwr => true
  | .mbReqData _ => true
  | .mbRspData => true
  | .ptrReset _ => true
  | .sessionIdleTimeout => true
  | .step _ e _ => isEngine e
  | .dbgHalt _ e _ => isEngine e
  | .dbgRun _ e _ => isEngine e
  | .breakpoint e => isEngine e
  | .watchpoint e => isEngine e
  | .crossTrigger e => isEngine e
  | .engDbgRegdata _ e _ => isEngine e
  | .armCapture _ d s _ => isSector d s
  | .capture d s _ => isSector d s
  | .resume _ d s _ => isSector d s
  | .eventStage _ severity page _ => (pageKind page).isSome && severity.toNat ≤ 4
  | .recordToRing => true
  | .tokenRefill _ => true
  | .evtSwCmd _ _ => true
  | .operatingSecond r => r.length = 21
  | .checkpoint => true
  | .timeOpsRead _ _ => true
  | .plyLinkTrained p => p < 2
  | .hello p _ => p < 2
  | .helloSig p sig => p < 2 && sig.length = 96
  | .plyAuthRetry p => p < 2
  | .plyIdle f => frameOk f
  | .plyNak f => frameOk f
  | .plyLinkSilence p => p < 2
  | .discover f _ _ => frameOk f
  | .ringCloseTimeout _ => true
  | .plyIsolate => true
  | .mgmtReq f => frameOk f
  | .mgmtRsp f => frameOk f
  | .mgmtTimeout => true
  | .plyMgmtGo _ _ => true
  | .cfgStart f => frameOk f
  | .cfgData f => frameOk f
  | .cfgEnd f => frameOk f
  | .cfgReq f => frameOk f
  | .plyEvent f => frameOk f
  | .epoch f => frameOk f
  | .epochBroadcast => true
  | .debugReq f => frameOk f
  | .debugRsp f => frameOk f
  | .ctrlDeviceReset f => frameOk f
  | .ctrlWarmReset f => frameOk f
  | .ctrlWake f => frameOk f
  | .hibernating f => frameOk f
  | .bootReport f => frameOk f
  | .plyRestart _ _ => true
  | .sensorSuspect d s => isSensor d s
  | .sensorRetry d s _ r => isSensor d s && r.length = 21
  | .thermalWarning r => r.length = 21
  | .thermalWarningEnd r => r.length = 21
  | .safThermalTrip r => r.length = 21
  | .registerRead _ addr count _ _ => State.inAperture addr count
  | .trackRisingEdge tracks _ _ => areTracks tracks
  | .srAsyncAssert d s tile c => isCluster d s tile c
  | .prbsLockGain _ n => n < 64
  | .prbsLockLoss _ n => n < 64
  | .uncorrectableCodeword _ n _ => n < 64
  | .txUnderrun _ n => n < 64
  | .reserveModuleFails d => isPort d
  | .sparePllLock p => p < 4
  | .diePllHoldoverEnd => true
  | .dieResetHoldEnd d => isPort d
  | .badCmd => true
  | .vccoBad d g _ => 1 ≤ d && d ≤ 4 && g < 4

end Sys2Proof
end

