-- ==== Sys2Proof/Safety.lean ====
section
/-! DEFINITION. What counts as a safe run, and the words the statements are written in. -/

namespace Sys2Proof

open Machine Reg

/-- A state is ready when every command that waits names parts of the device: a run from it never stops. -/
def Ready (s : State) : Prop := ∀ c ∈ s.pending, c.wellFormed = true

/-- A command completes from a state, in a state of which a property holds. -/
def Completes (i : Instr) (s : State) (p : State → Prop) : Prop := ∃ t, exec i s = .next t ∧ p t

/-- The write of one whole word by an origin. -/
def oneWord (o : Origin) (page off : Nat) (w : Word) : Instr := .registerWrite o (page * 4096 + off) [{ data := w }]

/-! ## Stored words -/

/-- No stored word, parity word or spare word changes. -/
def StoresSame (s t : State) : Prop :=
  t.mem.cells = s.mem.cells ∧ t.mem.parity = s.mem.parity ∧ t.mem.spares = s.mem.spares

/-- Every data word of every bank but one stands in `t` as in `s`, remap tables included. -/
def WordsSameBut (s t : State) (page q w : Nat) : Prop :=
  ∀ p r v, isMiBank p r = true → v < 1024 → ¬(p = page ∧ r = q ∧ v = w) → t.raw p r false v = s.raw p r false v

/-- Whether a read found no good word (R204). -/
def badRead (r : WordRead) : Bool := r.cls = .uncorrectable || r.cls = .poison

/-! ## Engines -/

/-- An engine commits its next instruction when it comes to it: it may run, no breakpoint stops it, it does not step, and its checker, if it
has one, does not differ. -/
def Commits (s : State) (e : Nat) : Prop :=
  s.mayRun e = true ∧ s.bpAt e = none ∧ (s.engine e).stepping = false ∧ s.commitDiffers e = false

/-- An engine executes next the instruction `i` of `len` bytes, which fetch finds. -/
def NextIs (s : State) (e : Nat) (i : EngInstr) (len : Nat) : Prop := Commits s e ∧ s.fetched e = .ok (i, len)

/-- No other engine changes. -/
def OtherEngines (s t : State) (e : Nat) : Prop := ∀ g, g < 64 → g ≠ e → t.engine g = s.engine g

/-- From `s` to `t` an instruction of engine `e` has executed, leaving the core `c` but for the counters, with the next at
`target`. -/
def Retired (s t : State) (e : Nat) (c : EngCore) (target : Word) : Prop :=
  (∃ m, t.core e = { c with pc := target, minstret := (s.core e).minstret + 1, mcycle := m }) ∧ OtherEngines s t e

/-- From `s` to `t` engine `e` has taken a trap: the machine-mode entry of the RISC-V privileged specification (R257, R259). -/
def Trapped (s t : State) (e cause tval : Nat) : Prop :=
  (∃ m, t.core e = { s.core e with
    mepc := (s.core e).pc, mcause := BitVec.ofNat 32 cause, mtval := BitVec.ofNat 32 tval, mpie := (s.core e).mie, mie := false,
    pc := (s.core e).mtvec, resv := none, mcycle := m }) ∧ OtherEngines s t e

/-- The stored bits and the read of the 64-bit word of an engine memory at a local address. -/
def localLook (s : State) (e addr : Nat) : WordRead :=
  match engMem addr with
  | some (b, i) => s.look (Pg.eng e 3) (State.engAt e b i).1 (State.engAt e b i).2
  | none => readWord 0

/-- The engines whose memories an engine's store reaches: its own and its checker's (R285). -/
def members (s : State) (e : Nat) : List Nat := e :: (s.checkerOf e).toList

/-- From `s` to `t` the low `n` bytes of `v`, fewer than eight, are merged into the word of an engine at a local address: a word that is not
readable stays as it is (R262), any other has its code, where no test flips a bit of it. -/
def Merged (s t : State) (e b i addr n v : Nat) : Prop :=
  let at_ := State.engAt e b i
  if badRead (localLook s e addr) then t.raw (Pg.eng e 3) at_.1 false at_.2 = s.raw (Pg.eng e 3) at_.1 false at_.2
  else s.flips (Pg.eng e 3) b false = false → t.raw (Pg.eng e 3) at_.1 false at_.2 =
    codeWord (mergeBytes ((2 ^ n - 1) * 2 ^ (addr % 8)) (localLook s e addr).data (v % 2 ^ (8 * n) * 2 ^ (8 * (addr % 8))))

/-- From `s` to `t` the low `n` bytes of `v` are stored at a local address of an engine's memories, and its checker's, and no other stored
word changes. -/
def LocalStored (s t : State) (e addr n v : Nat) : Prop :=
  ∀ b i, engMem addr = some (b, i) →
    (∀ x ∈ members s e, Merged s t x b i addr n v) ∧
    (∀ p r w, isMiBank p r = true → w < 1024 →
      (∀ x ∈ members s e, ¬(p = Pg.eng x 3 ∧ r = (State.engAt x b i).1 ∧ w = (State.engAt x b i).2)) →
      t.raw p r false w = s.raw p r false w)

/-! ## When an access reaches a register -/

/-- An access of an origin reaches a populated page that is on (R41, R61). -/
def Reaches (s : State) (o : Origin) (page : Nat) : Bool := s.pathUp o && (pageKind page).isSome && s.pageOn page

/-- A whole word that an origin writes to a register takes effect: it reaches the page, the page has the register and is not
ARMED, the origin may write it, and neither a checker engine nor a lock of the register drops it (R48, R57, R60, R285). -/
def Accepts (s : State) (o : Origin) (page off : Nat) (w : Word) : Bool :=
  Reaches s o page && s.expertState page ≠ 1 && !(s.observes o) && off ≠ 0x0F0 && !(s.checkerDrops page off w.toNat) &&
  State.assigned page off && (off < 0x800 || s.expertOpen page o) && (s.pageGuard page o off w.toNat).isNone

/-- A whole word that an origin writes is judged by the lock of the register alone: it reaches the page, which has the register and
is not ARMED, and the origin may write it (R48, R57, R60); it is no page of a checker engine (R285). -/
def Opens (s : State) (o : Origin) (page off : Nat) : Bool :=
  Reaches s o page && s.expertState page ≠ 1 && !(s.observes o) && off ≠ 0x0F0 && !(s.checkerDrops page off 0) &&
  State.assigned page off &&
  (off < 0x800 || s.expertOpen page o)

/-! ## What a step changes in the registers -/

/-- Every register field reads in `t` as in `s`, but for those at the bit addresses listed. -/
def RegsSameBut (s t : State) (keys : List Nat) : Prop :=
  ∀ p f i, fieldKey p f i ∉ keys → t.get p f i = s.get p f i

/-- Every register field of every other page reads in `t` as in `s`. -/
def PageOnly (s t : State) (page : Nat) : Prop :=
  ∀ p f i, (f.off + i * f.stride) * 8 + f.lo < 32768 → p ≠ page → t.get p f i = s.get p f i

/-- Bit `b`, 16 to 31, of a page's `INT_STATUS` is 1. -/
def Raised (t : State) (page b : Nat) : Prop := bit (t.get page Hdr.INT_STATUS_BLOCK) (b - 16) = true

/-- The bit addresses of the fields that an error of a page changes. -/
def errKeys (page : Nat) : List Nat :=
  [fieldKey page Hdr.ERR_COUNT_COUNT 0, fieldKey page Hdr.INT_STATUS_ERR_LOST 0, fieldKey page Hdr.INT_STATUS_ERR_CAPTURED 0,
   fieldKey page Hdr.ERR_CAPTURE_VALID 0, fieldKey page Hdr.ERR_CAPTURE_CODE 0, fieldKey page Hdr.ERR_CAPTURE_ORIGIN 0,
   fieldKey page Hdr.ERR_CAPTURE_DETAIL 0, fieldKey page Hdr.ERR_CAPTURE_WORD 0]

/-- `ERR_CAPTURE` of a page holds this error. -/
def Holds (t : State) (page code : Nat) (o : Origin) (off : Nat) : Prop :=
  t.get page Hdr.ERR_CAPTURE_VALID = 1 ∧ t.get page Hdr.ERR_CAPTURE_CODE = code ∧
  t.get page Hdr.ERR_CAPTURE_ORIGIN = originCode o ∧ t.get page Hdr.ERR_CAPTURE_WORD = off / 4 ∧
  (code < 8 → t.get page Hdr.ERR_CAPTURE_DETAIL = 0)

/-- From `s` to `t` one error of a page arrives (R56): it is counted; it is captured, or lost while an earlier one is held. -/
def Captures (s t : State) (page code : Nat) (o : Origin) (off : Nat) : Prop :=
  t.get page Hdr.ERR_COUNT_COUNT = min (s.get page Hdr.ERR_COUNT_COUNT + 1) 0xFFFF ∧
  (if s.flag page Hdr.ERR_CAPTURE_VALID then
    t.get page Hdr.INT_STATUS_ERR_LOST = 1 ∧
    RegsSameBut s t [fieldKey page Hdr.ERR_COUNT_COUNT 0, fieldKey page Hdr.INT_STATUS_ERR_LOST 0]
   else Holds t page code o off ∧ t.get page Hdr.INT_STATUS_ERR_CAPTURED = 1 ∧ RegsSameBut s t (errKeys page))

/-- `HUB_ACCESS_FAULT` holds this access as its first (R41, R61). -/
def Faulted (t : State) (o : Origin) (page : Nat) (write unpopulated : Bool) : Prop :=
  t.get Pg.hubGlobal HubGlobal.HUB_ACCESS_FAULT_VALID = 1 ∧
  t.get Pg.hubGlobal HubGlobal.HUB_ACCESS_FAULT_ORIGIN = originCode o ∧
  t.get Pg.hubGlobal HubGlobal.HUB_ACCESS_FAULT_WRITE = b2n write ∧
  t.get Pg.hubGlobal HubGlobal.HUB_ACCESS_FAULT_UNPOPULATED = b2n unpopulated ∧
  t.get Pg.hubGlobal HubGlobal.HUB_ACCESS_FAULT_PAGE = page ∧ Raised t Pg.hubGlobal HubGlobal.INT_ACCESS_FAULT

/-- Whether `SRC` of a word written to `SCTL_TRACK` is a reserved encoding (R92). -/
def reservedTrackSource (w : Word) : Bool := 0x11 ≤ bits w.toNat 4 0

/-- Whether a crossing frame passes its receiver's checks: `MARK`, the `SEQ4` expected, and `FCRC` (R117). -/
def frameGood (want payload framing : Nat) : Bool :=
  bits framing 7 0 = 0xB4 && bits framing 11 8 = want && bits framing 31 16 = fcrc payload framing

/-- The table of R51: the new `STATE` of a page and the code captured, by the old `STATE`, the value written, whether the origin is
the one that moved `STATE` out of LOCKED, and whether R49 allows it to unlock a page. -/
def keyOutcome (state : Nat) (v : Word) (same allowed : Bool) : Nat × Option Nat :=
  if state = 0 then
    (if v = 0x4B530001 then (if allowed then (1, none) else (0, some 0x4)) else if v = 0 then (0, none) else (0, some 0x3))
  else if state = 1 then
    (if v = 0x4B530002 ∧ same = true then (2, none) else if v = 0 ∧ same = true then (0, none) else (0, some 0x3))
  else if same = true then (if v = 0 then (0, none) else (state, some 0x3))
  else (state, some 0x2)

end Sys2Proof
end

