-- ==== Sys2Proof/Certificates/Slice0/Obligations.lean ====
section
/-! DEFINITION. The statements for the provers, chapter by chapter. -/

open Sys2Proof

open Machine Reg

/-- A step takes the command at the front of the queue and runs it with the rest; on an empty queue the block idles (log entry 8). -/
def Obligations.StepRunsTheFrontCommand : Prop :=
  (∀ (c : Instr) (rest : List Instr) (s : State), s.pending = c :: rest → Machine.step s = exec c { s with pending := rest }) ∧
  ∀ s : State, s.pending = [] → Machine.step s = .next s

/-- A well-formed command completes, from every state, and any other faults. -/
def Obligations.WellFormedCommandsComplete : Prop :=
  ∀ (i : Instr) (s : State), (i.wellFormed = true → ∃ t, exec i s = .next t) ∧ (i.wellFormed = false → exec i s = .fault .noSuchPart)

/-- No command changes what waits behind it. -/
def Obligations.CommandsKeepTheQueue : Prop :=
  ∀ (i : Instr) (s t : State), exec i s = .next t → t.pending = s.pending

/-- A step from a ready state completes, in a ready state, and takes one command off the queue. -/
def Obligations.ReadyIsKept : Prop :=
  ∀ s : State, Ready s → ∃ t, Machine.step s = .next t ∧ Ready t ∧ t.pending = s.pending.drop 1

/-- A run from a ready state serves every waiting command. -/
def Obligations.ReadyRunsToTheEnd : Prop :=
  ∀ s : State, Ready s → ∃ t, core.run s.pending.length s = .next t ∧ t.pending = []

/-- Right after reset: nothing waits, no error is held, and registers read their reset values. -/
def Obligations.ResetIsReadyWithTheResetValues : Prop :=
  Ready State.reset ∧ State.reset.pending = [] ∧
  (∀ p f i, State.reset.get p f i = f.reset p i) ∧
  (∀ p, State.reset.get p Hdr.ERR_CAPTURE_VALID = 0 ∧ State.reset.get p Hdr.ERR_COUNT_COUNT = 0 ∧
    State.reset.intStatus p = 0 ∧ State.reset.expertState p = 0) ∧
  (∀ d s, State.reset.gsrActive d s = true) ∧ (∀ d, State.reset.portState d = 0) ∧ State.reset.sessionOpen = false ∧
  State.reset.get Pg.hubGlobal HubGlobal.HUB_DEVICE_ID_PART = 0xE909 ∧
  State.reset.get Pg.recorder Recorder.EVT_RATE_BURST = 0x10 ∧ State.reset.get Pg.powerCtl PowerCtl.PWR_WAKE_EN_EN = 0x2

/-- The outcome of a write of `EXPERT_KEY` by the table of R51: the new `STATE` and the code captured. -/
def Obligations.ExpertKeyFollowsItsTable : Prop :=
  ∀ (s : State) (o : Origin) (page : Nat) (v : Word), Reaches s o page = true →
    (s.observes o = false → s.checkerDrops page 0x0F0 v.toNat = true → Completes (.expertKeyWrite o page v) s (fun t =>
      Captures s t page 0x8 o 0x0F0)) ∧
    (s.observes o = false → s.checkerDrops page 0x0F0 v.toNat = false → Completes (.expertKeyWrite o page v) s (fun t =>
      let r := keyOutcome (s.expertState page) v (s.expertHolder page = some o) (s.mayUnlock o)
      t.expertState page = r.1 ∧
      (s.expertState page = 0 ∧ r.1 ≠ 0 → t.expertHolder page = some o) ∧
      (s.expertState page ≠ 0 ∧ r.1 ≠ 0 → t.expertHolder page = s.expertHolder page) ∧
      match r.2 with
      | some code => ∃ u : State, RegsSameBut s u [fieldKey page Hdr.EXPERT_KEY_STATE 0] ∧ Captures u t page code o 0x0F0
      | none => RegsSameBut s t [fieldKey page Hdr.EXPERT_KEY_STATE 0])) ∧
    (s.observes o = true → Completes (.expertKeyWrite o page v) s (fun t =>
      t.expertState page = (if s.expertState page = 1 then 0 else s.expertState page) ∧
      (s.expertState page ≠ 1 → Captures s t page 0x4 o 0x0F0) ∧
      (s.expertState page = 1 → ∃ u w : State, RegsSameBut s u [fieldKey page Hdr.EXPERT_KEY_STATE 0] ∧
        Captures u w page 0x3 o 0x0F0 ∧ Captures w t page 0x4 o 0x0F0)))

/-- An OBSERVE session's write changes nothing but the page's error registers (R60). -/
def Obligations.ObserveSessionsOnlyRead : Prop :=
  ∀ (s : State) (page off : Nat) (v : Word), Reaches s .debug page = true → s.observes .debug = true → off < 0x1000 → off % 4 = 0 →
    s.expertState page ≠ 1 →
    Completes (oneWord .debug page off v) s (fun t =>
      Captures s t page 0x4 .debug off ∧ RegsSameBut s t (errKeys page) ∧ t.hub = s.hub ∧ t.eng = s.eng ∧ t.mem = s.mem ∧
      t.fabric = s.fabric ∧ t.crypto = s.crypto ∧ t.dbg = s.dbg ∧ t.boot = s.boot ∧ t.power = s.power)

/-- The interrupt and error registers of every page (R52, R56). -/
def Obligations.ErrorsAreCapturedCountedAndCleared : Prop :=
  ∀ (s : State) (o : Origin) (page : Nat) (v w : Word),
    (Accepts s o page 0x020 v = true → ∀ events : BitVec 16,
      Completes (.intStatusClear o page v events none) s (fun t =>
        t.get page Hdr.INT_STATUS_BLOCK =
          ((s.get page Hdr.INT_STATUS_BLOCK - (s.get page Hdr.INT_STATUS_BLOCK &&& bits v.toNat 31 16)) ||| events.toNat) % 2 ^ 16 ∧
        (bit v.toNat 0 = true → t.get page Hdr.ERR_CAPTURE_VALID = 0 ∧ t.get page Hdr.INT_STATUS_ERR_CAPTURED = 0) ∧
        (bit v.toNat 1 = true → t.get page Hdr.INT_STATUS_ERR_LOST = 0) ∧
        RegsSameBut s t [fieldKey page Hdr.INT_STATUS_BLOCK 0, fieldKey page Hdr.INT_STATUS_ERR_LOST 0,
          fieldKey page Hdr.INT_STATUS_ERR_CAPTURED 0, fieldKey page Hdr.ERR_CAPTURE_VALID 0]) ∧
      (bit v.toNat 0 = true → ∀ code word : Nat, code < 16 → word < 1024 →
        Completes (.intStatusClear o page v events (some (code, word))) s (fun t =>
          Holds t page code o (4 * word) ∧ t.get page Hdr.INT_STATUS_ERR_CAPTURED = 1))) ∧
    (Accepts s o page 0x028 v = true → Completes (.intForceWrite o page v 0) s (fun t =>
      t.get page Hdr.INT_STATUS_BLOCK = (s.get page Hdr.INT_STATUS_BLOCK ||| bits v.toNat 31 16) % 2 ^ 16 ∧
      t.get page Hdr.INT_STATUS_ERR_LOST = (s.get page Hdr.INT_STATUS_ERR_LOST ||| bits v.toNat 1 1) % 2 ∧
      t.get page Hdr.INT_STATUS_ERR_CAPTURED = (s.get page Hdr.INT_STATUS_ERR_CAPTURED ||| bits v.toNat 0 0) % 2)) ∧
    (Accepts s o page 0x020 w = true → Accepts s o page 0x028 v = true → Completes (.intForceWrite o page v w) s (fun t =>
      t.get page Hdr.INT_STATUS_BLOCK = ((s.get page Hdr.INT_STATUS_BLOCK -
        (s.get page Hdr.INT_STATUS_BLOCK &&& bits w.toNat 31 16)) ||| bits v.toNat 31 16) % 2 ^ 16)) ∧
    (Reaches s o page = true → ∀ ask : Bool,
      Completes (.errCountRead o page ask none) s (fun t =>
        t.get page Hdr.ERR_COUNT_COUNT = (if s.peekOf o ask then s.get page Hdr.ERR_COUNT_COUNT else 0) ∧
        t.hub.readData = [BitVec.ofNat 32 (s.get page Hdr.ERR_COUNT_COUNT % 65536)]) ∧
      (∀ code : Nat, s.peekOf o ask = false → Completes (.errCountRead o page ask (some code)) s (fun t =>
        t.get page Hdr.ERR_COUNT_COUNT = 1 ∧ t.hub.readData = [BitVec.ofNat 32 (s.get page Hdr.ERR_COUNT_COUNT % 65536)])))

/-- Word requests (R41, R42, R61). -/
def Obligations.RequestsReachPagesOrAreRecorded : Prop :=
  ∀ (s : State) (o : Origin) (page : Nat) (v : Word),
    (Accepts s o page 0x024 v = true → Completes (oneWord o page 0x024 v) s (fun t =>
      t.get page Hdr.INT_ENABLE_BLOCK = bits v.toNat 31 16 ∧ t.get page Hdr.INT_ENABLE_ERR_LOST = bits v.toNat 1 1 ∧
      t.get page Hdr.INT_ENABLE_ERR_CAPTURED = bits v.toNat 0 0 ∧
      RegsSameBut s t [fieldKey page Hdr.INT_ENABLE_BLOCK 0, fieldKey page Hdr.INT_ENABLE_ERR_LOST 0,
        fieldKey page Hdr.INT_ENABLE_ERR_CAPTURED 0])) ∧
    (Reaches s o page = true → s.expertState page ≠ 1 → ∀ (off : Nat) (be : BitVec 4), off < 0x1000 → off % 4 = 0 → be ≠ 0xF →
      Completes (.registerWrite o (page * 4096 + off) [{ data := v, be := be }]) s (fun t => Captures s t page 0x5 o off)) ∧
    (Reaches s o page = true → ∀ (ask : Bool) (be : List (BitVec 4)),
      Completes (.registerRead o (page * 4096 + 0x024) 1 ask be) s (fun t =>
        t.hub.readEnables = (if o = .pcie then (be ++ [0xF]).take 1 else [0xF]) ∧
        t.hub.readData = [BitVec.ofNat 32 (s.get page Hdr.INT_ENABLE_ERR_CAPTURED % 2 + s.get page Hdr.INT_ENABLE_ERR_LOST % 2 * 2 +
          s.get page Hdr.INT_ENABLE_BLOCK % 65536 * 65536)] ∧ t.hub.completion = .sc ∧ RegsSameBut s t [])) ∧
    (s.pathUp o = true → page < 0x4000 → pageWindow page = none → (pageKind page = none ∨ s.pageOn page = false) →
      s.strictUr o = false → s.flag Pg.hubGlobal HubGlobal.HUB_ACCESS_FAULT_VALID = false → ∀ (ask : Bool) (be : List (BitVec 4)),
      Completes (oneWord o page 0x024 v) s (fun t => Faulted t o page true (pageKind page).isNone ∧ PageOnly s t Pg.hubGlobal) ∧
      Completes (.registerRead o (page * 4096 + 0x024) 1 ask be) s (fun t =>
        t.hub.readData = [if (pageKind page).isNone then 0 else 0xD0FFD0FF] ∧ Faulted t o page false (pageKind page).isNone ∧
        PageOnly s t Pg.hubGlobal)) ∧
    (Accepts s o Pg.hubGlobal 0x108 v = true → bit v.toNat 31 = true → Completes (.hubAccessFaultClear o v) s (fun t =>
      t.get Pg.hubGlobal HubGlobal.HUB_ACCESS_FAULT_VALID = 0 ∧ t.get Pg.hubGlobal HubGlobal.HUB_ACCESS_FAULT_OVERFLOW = 0))

/-- Indirect access over I²C (R63, R64). -/
def Obligations.IndirectAccessFollowsItsRules : Prop :=
  ∀ (s : State) (c : Byte) (bytes : List (BitVec 3 × Byte)),
    (∀ (i : BitVec 3) (b : Byte), let u := s.iaIndex [(i, b)]
      (i.toNat < 4 → u.hub.iaData = s.hub.iaData ∧ ∀ k < 4, bits u.hub.iaAddr.toNat (8 * k + 7) (8 * k) =
        if k = i.toNat then b.toNat else bits s.hub.iaAddr.toNat (8 * k + 7) (8 * k)) ∧
      (4 ≤ i.toNat → u.hub.iaAddr = s.hub.iaAddr ∧ ∀ k < 4, bits u.hub.iaData.toNat (8 * k + 7) (8 * k) =
        if k + 4 = i.toNat then b.toNat else bits s.hub.iaData.toNat (8 * k + 7) (8 * k))) ∧
    (s.i2cUp = true → s.hub.iaOp = none → let u := s.iaIndex bytes
      (∀ i : Instr, i = .iaCmdRead bytes c ∨ i = .iaCmdWrite bytes c →
        (bit c.toNat 0 ≠ bit c.toNat 1 → Completes i s (fun t => t.hub.iaAddr = u.hub.iaAddr ∧ t.hub.iaData = u.hub.iaData ∧
          t.hub.iaFault = false ∧ t.hub.iaDenied = false ∧ t.hub.nack = false ∧ t.regs = s.regs ∧
          t.hub.iaCmd.toNat = c.toNat % 16 ∧
          t.hub.iaOp = some { write := bit c.toNat 1, peek := bit c.toNat 2, autoInc := bit c.toNat 3 })) ∧
        (bit c.toNat 0 = true → bit c.toNat 1 = true → Completes i s (fun t =>
          t.hub.iaOp = none ∧ t.hub.iaDenied = true ∧ t.hub.iaAddr = u.hub.iaAddr ∧ t.hub.iaData = u.hub.iaData)) ∧
        (bit c.toNat 0 = false → bit c.toNat 1 = false → Completes i s (fun t =>
          t.hub.iaOp = none ∧ t.hub.iaDenied = s.hub.iaDenied ∧ t.hub.iaFault = s.hub.iaFault ∧ t.hub.iaAddr = u.hub.iaAddr))) ∧
      Completes (.iaStatWrite c) s (fun t => t.hub.iaFault = (s.hub.iaFault && !(bit c.toNat 1)) ∧
        t.hub.iaDenied = (s.hub.iaDenied && !(bit c.toNat 2)) ∧ t.hub.iaOp = none ∧ t.regs = s.regs)) ∧
    (s.i2cUp = false ∨ s.hub.iaOp ≠ none → ∀ i : Instr, i = .iaCmdRead bytes c ∨ i = .iaCmdWrite bytes c ∨ i = .iaStatWrite c →
      Completes i s (fun t => t = { s with hub := { s.hub with nack := true } })) ∧
    (∀ op : IaOp, s.hub.iaOp = some op →
      (0x3FFFFFF < s.hub.iaAddr.toNat / 4 * 4 → Completes .iaAccessDone s (fun t =>
        t.hub.iaOp = none ∧ t.hub.iaFault = true ∧ t.hub.iaData = (if op.write then s.hub.iaData else 0) ∧
        t.hub.iaAddr = (if op.autoInc then s.hub.iaAddr + 4 else s.hub.iaAddr) ∧ t.regs = s.regs)) ∧
      (s.hub.iaAddr.toNat / 4 * 4 ≤ 0x3FFFFFF → op.write = false → Completes .iaAccessDone s (fun t =>
        let r := s.busRead .i2c (s.hub.iaAddr.toNat / 4 * 4) op.peek
        t.hub.iaOp = none ∧ t.hub.iaData = r.data ∧ t.regs = r.st.regs ∧
        t.hub.iaAddr = (if op.autoInc then r.st.hub.iaAddr + 4 else r.st.hub.iaAddr))) ∧
      (s.hub.iaAddr.toNat / 4 * 4 ≤ 0x3FFFFFF → op.write = true → Completes .iaAccessDone s (fun t =>
        let r := s.busWrite .i2c (s.hub.iaAddr.toNat / 4 * 4) s.hub.iaData
        t.hub.iaOp = none ∧ t.regs = r.st.regs ∧ t.hub.iaDenied = (r.st.hub.iaDenied || r.denied) ∧
        t.hub.iaFault = (r.st.hub.iaFault || r.off))))

/-- Clock tracks (R92 to R97). -/
def Obligations.ClockTracksSwitchAndStop : Prop :=
  ∀ (s : State) (o : Origin) (d sec n : Nat) (v : Word), isTrack d sec n = true →
    let p := Pg.sctl d sec
    (Accepts s o p (0x100 + 4 * n) v = true → reservedTrackSource v = false → Completes (.sctlTrackWrite o d sec n v) s (fun t =>
      t.get p Sctl.SCTL_TRACK_EN n = bits v.toNat 8 8 ∧ t.get p Sctl.SCTL_TRACK_SRC n = bits v.toNat 4 0 ∧
      t.get p Sctl.SCTL_TRACK_FABRIC_CE n = bits v.toNat 9 9 ∧
      t.get p Sctl.SCTL_TRACK_SWITCHING n =
        (if bit v.toNat 8 = false then 0
         else if s.flag p Sctl.SCTL_TRACK_EN n = true ∧ s.get p Sctl.SCTL_TRACK_SRC n ≠ bits v.toNat 4 0 then 1
         else s.get p Sctl.SCTL_TRACK_SWITCHING n) ∧
      t.fabric.flops = s.fabric.flops ∧ t.fabric.wires = s.fabric.wires)) ∧
    Completes (.trackSwitchDone d sec n) s (fun t =>
      (s.flag p Sctl.SCTL_TRACK_SWITCHING n = true → s.sourceRuns d sec (s.get p Sctl.SCTL_TRACK_SRC n) = true →
        t.get p Sctl.SCTL_TRACK_SWITCHING n = 0 ∧ RegsSameBut s t [fieldKey p Sctl.SCTL_TRACK_SWITCHING n] ∧
        t.trackSourceNow d sec n = some (s.get p Sctl.SCTL_TRACK_SRC n) ∧ t.fabric.flops = s.fabric.flops) ∧
      (s.flag p Sctl.SCTL_TRACK_SWITCHING n = false ∨ s.sourceRuns d sec (s.get p Sctl.SCTL_TRACK_SRC n) = false → t = s)) ∧
    (let runs : Bool := s.domOn (16 * d + 1) && s.flag p Sctl.SCTL_TRACK_EN n && s.get p Sctl.SCTL_TRACK_SRC n ≠ 0 && !(bit (s.capHeld p) n)
     Completes (.trackStop d sec n) s (fun t =>
      bit (t.get p Sctl.STATUS_TRACK_RUN) n = false ∧ (runs = true → Raised t p Sctl.INT_TRACK_STOP) ∧
      (∀ m < 16, m ≠ n → bit (t.get p Sctl.STATUS_TRACK_RUN) m = bit (s.get p Sctl.STATUS_TRACK_RUN) m) ∧
      (runs = false → s.allReleased d sec = true → RegsSameBut s t [fieldKey p Sctl.STATUS_TRACK_RUN 0]) ∧
      (let k := trackKey d sec n
       SMap.read 0 t.fabric.edges k = (if SMap.read 0 s.fabric.edges k < 3 then 0 else SMap.read 0 s.fabric.edges k) ∧
       ∀ j, j ≠ k → SMap.read 0 t.fabric.edges j = SMap.read 0 s.fabric.edges j) ∧
      t.fabric = { s.fabric with edges := t.fabric.edges } ∧ t.dsp = s.dsp ∧ t.mem = s.mem))

/-- The global set/reset and the edges of a track (R71, R93, R95, R98 to R100): whatever the last edge has taken is performed first, then
everything on the track takes what it read before the edge. -/
def Obligations.GlobalSetResetAssertsAndReleases : Prop :=
  ∀ (s : State) (o : Origin) (d sec n : Nat) (v : Word) (span : DWord) (late : List (Nat × Nat × Nat × Nat)), isTrack d sec n = true →
    let p := Pg.sctl d sec
    let edges := fun u : State => SMap.read 0 u.fabric.edges (trackKey d sec n)
    (∀ release : Bool, Accepts s o p 0x010 v = true → Accepts (s.startRelease d sec) o p 0x010 v = true →
      Completes (.gsrForceWrite o d sec v release) s (fun t =>
        (bit v.toNat 0 = true → t.gsrActive d sec = true ∧ (s.flag p Sctl.CTL_GSR_FORCE = false → edges t = 0)) ∧
        (bit v.toNat 0 = false → t.flag p Sctl.CTL_GSR_FORCE = false ∧ edges t = edges s ∧
          (release = false → SMap.read false s.fabric.released (sectorKey d sec) = false → t.gsrActive d sec = true)))) ∧
    (let f := (s.spanTo span.toNat).flush d sec n
     let here := (late.filter (fun l => l.1 = d && l.2.1 = sec)).map (·.2.2)
     let edge := fun (x : List (Nat × Nat)) (t : State) =>
       let g := f.samples d sec n x
       let u := f.trackEdge d sec n g
       bit (u.get p Sctl.STATUS_TRACK_RUN) n = true ∧
       edges u = (if f.gsrActive d sec ∨ 3 ≤ edges f then edges f else edges f + 1) ∧
       (f.gsrActive d sec = true ∨ edges f < 2 → u.fabric.flops = f.fabric.flops ∧ u.fabric.wires = f.fabric.wires) ∧
       (f.gsrActive d sec = false → 2 ≤ edges f →
         u.fabric.flops = (f.putSamples g).fabric.flops ∧ u.fabric.wires = (f.putSamples g).fabric.wires) ∧
       (f.gsrActive d sec = false → edges f = 2 →
         (∀ m < 16, m ≠ n → bit (f.get p Sctl.STATUS_TRACK_RUN) m = true → 3 ≤ SMap.read 0 f.fabric.edges (trackKey d sec m)) →
         Raised u p Sctl.INT_GSR_RELEASED) ∧
       t = ((f.takes d sec n (((u.queueEdges d sec n).portEdges d sec n).dspEdges d sec n)).captureLater d sec n).took
     Completes (.trackRisingEdge [(d, sec, n)] span late) s (fun t =>
       (span.toNat < s.clock.span → t = s) ∧ (s.clock.span ≤ span.toNat → f.rises d sec n span.toNat = true → edge here t) ∧
       (s.clock.span ≤ span.toNat → f.rises d sec n span.toNat = false → t = f.took)) ∧
     Completes (.gsrRelease d sec n span) s (fun t =>
       (s.clock.span ≤ span.toNat → s.gsrActive d sec = false → edges s = 2 → f.rises d sec n span.toNat = true → edge [] t) ∧
       (s.gsrActive d sec = true ∨ edges s ≠ 2 → t = s))) ∧
    (∀ d2 sec2 n2 : Nat, isTrack d2 sec2 n2 = true → (d2, sec2, n2) ≠ (d, sec, n) →
      let f := ((s.spanTo span.toNat).flush d sec n).flush d2 sec2 n2
      Completes (.trackRisingEdge [(d, sec, n), (d2, sec2, n2)] span late) s (fun t => s.clock.span ≤ span.toNat →
        f.rises d sec n span.toNat = true → f.rises d2 sec2 n2 span.toNat = true →
        t = (f.edgeOf late (d2, sec2, n2) (f.edgeOf late (d, sec, n) f)).took))

/-- The priority of a flop's controls, and the asynchronous SR (R71, R72). -/
def Obligations.FlopControlsHaveTheirPriority : Prop :=
  (∀ (s : State) (d X Y c i : Nat) (b late : Bool),
    let w := s.leSlot d X Y c i
    (bit w (if b then 61 else 60) = true → s.clusterSR d X Y c = true →
      s.flopNext d X Y c i b late = bit w (if b then 55 else 54)) ∧
    (bit w (if b then 61 else 60) = false ∨ s.clusterSR d X Y c = false → late = false →
      bit w (if b then 59 else 58) = true → s.clusterCE d X Y c = false → s.flopNext d X Y c i b late = s.flopOut d X Y c i b)) ∧
  ∀ (s : State) (d sec t c : Nat), isCluster d sec t c = true →
    Completes (.srAsyncAssert d sec t c) s (fun u =>
      let X := tileX sec t
      let Y := tileY sec t
      u.fabric.wires = s.fabric.wires ∧ u.fabric.frames = s.fabric.frames ∧ u.regs = s.regs ∧
      (bit (s.clusterCtl d X Y c) 4 = true → s.clusterSR d X Y c = true → ∀ i < 16, ∀ b : Bool,
        SMap.read false u.fabric.flops (flopKey d X Y c i b) =
          if bit (s.leSlot d X Y c i) (if b then 61 else 60) then bit (s.leSlot d X Y c i) (if b then 55 else 54)
          else SMap.read false s.fabric.flops (flopKey d X Y c i b)) ∧
      (bit (s.clusterCtl d X Y c) 4 = false ∨ s.clusterSR d X Y c = false → u.fabric.flops = s.fabric.flops))

/-- Tile frames (R84, R107). -/
def Obligations.TileFramesAreWrittenWholeOrNotAtAll : Prop :=
  ∀ (s : State) (d sec t f : Nat) (x : BitVec 1024), isSector d sec = true → t < 128 → f < 48 → s.boot.reload = none →
    s.boot.running = false →
    Completes (.tileFrameWrite d sec t f x) s (fun u =>
      (s.gsrActive d sec = true → (frameContention f x.toNat = true ∨ s.trackContention d sec t f x.toNat = true) → u.fabric = s.fabric) ∧
      (s.gsrActive d sec = true → frameContention f x.toNat = false → s.trackContention d sec t f x.toNat = false →
        SMap.read 0 u.fabric.frames (frameKey d sec t f) = x ∧
        ∀ k, k ≠ frameKey d sec t f → SMap.read 0 u.fabric.frames k = SMap.read 0 s.fabric.frames k) ∧
      (s.gsrActive d sec = false → u.fabric = s.fabric ∧ Captures s u (Pg.sctl d sec) 0x8 .config 0))

/-- Captures of a sector (R517 to R519). -/
def Obligations.CapturesFollowTheirControl : Prop :=
  ∀ (s : State) (o : Origin) (d sec : Nat) (v : Word) (span : DWord), isSector d sec = true →
    let p := Pg.sctl d sec
    (Accepts s o p 0x400 v = true → Completes (.armCapture o d sec v) s (fun t => t.get p Sctl.SCTL_CAP_STAT_ARMED = bits v.toNat 0 0)) ∧
    Completes (.capture d sec span) s (fun t =>
      (s.flag p Sctl.SCTL_CAP_STAT_ARMED = true → s.get p Sctl.SCTL_CAP_CTL_TRIG = 0 →
        t.get p Sctl.SCTL_CAP_STAT_VALID = 1 ∧ t.get p Sctl.SCTL_CAP_STAT_ARMED = 0 ∧ t.get p Sctl.SCTL_CAP_CTL_ARM = 0 ∧
        t.get p Sctl.SCTL_CAP_STAT_GSR = b2n (s.gsrActive d sec) ∧
        t.get p Sctl.SCTL_CAP_SPAN_LO_SPAN = span.toNat % 2 ^ 32 ∧ t.get p Sctl.SCTL_CAP_SPAN_HI_SPAN = span.toNat / 2 ^ 32 ∧
        Raised t p Sctl.INT_CAPTURED) ∧
      (s.flag p Sctl.SCTL_CAP_STAT_ARMED = false → t = s) ∧ t.fabric = s.fabric ∧ t.dsp = s.dsp) ∧
    (Accepts s o p 0x400 v = true → bit v.toNat 16 = true → s.flag p Sctl.SCTL_CAP_STAT_STOPPED = true →
      Completes (.resume o d sec v) s (fun t => t.get p Sctl.SCTL_CAP_STAT_STOPPED = 0 ∧ t.capHeld p = 0))

/-- The training states of a port (R119 to R124). -/
def Obligations.TrainingPassesFromStateToState : Prop :=
  ∀ (s : State) (o : Origin) (d : Nat), isPort d = true →
    let p := Pg.port d
    let w := BitVec.ofNat 32 (s.storedWord p 0x010 ||| 1)
    (Accepts s o p 0x010 w = true → bits w.toNat 5 4 = s.get p Port.CTL_SPLIT → Completes (.lomumTrain o d) s (fun t =>
      t.portState d = 1 ∧ t.get p Port.STATUS_ATTEMPTS = 1 ∧ t.get p Port.CTL_SPLIT = s.get p Port.CTL_SPLIT)) ∧
    Completes (.lsbHello d) s (fun t => t.portState d = (if s.portState d = 1 then 2 else s.portState d) ∧
      RegsSameBut s t [fieldKey p Port.STATUS_STATE 0] ∧ t.link = s.link) ∧
    (∀ fails : List (Nat × Nat), fails.all (fun f => isModuleDir d f.1 f.2) = true → Completes (.clkLockDone d fails) s (fun t =>
      t.portState d = (if s.portState d = 2 then 3 else s.portState d) ∧ RegsSameBut s t [fieldKey p Port.STATUS_STATE 0] ∧
      (s.portState d = 2 → ∀ f ∈ fails, ofDir f.2 (t.linkMod d f.1).clkFail = true) ∧ (s.portState d ≠ 2 → t = s))) ∧
    (∀ bad : List (Nat × Nat × Nat), bad.all (fun b => isModuleDir d b.1 b.2.1 && b.2.2 < 68) = true →
      Completes (.wireTestDone d bad) s (fun t =>
        let r := State.reserveOf d
        let training := s.portActive d = true ∧ SMap.read 0 s.link.background d = 1
        let used := bad.any (fun b => b.1 = r &&
          (frameWires false (s.wireMask p r b.2.1) (s.wireAssign p r b.2.1)).elem (some b.2.2))
        t.portState d = (if s.portState d = 3 then 4 else s.portState d) ∧
        (s.portState d = 3 → RegsSameBut s t [fieldKey p Port.STATUS_STATE 0] ∧
          ∀ b ∈ bad, bit (ofDir b.2.1 (t.linkMod d b.1).hubBad) b.2.2 = true) ∧
        (training → used = false → SMap.read 0 t.link.background d = 2 ∧ t.regs = s.regs) ∧
        (training → used = true → SMap.read false t.link.reserveBad d = true ∧ Raised t p Port.INT_MODULE_DOWN ∧ t.modState d r = 0) ∧
        (s.portState d ≠ 3 → ¬training → t = s))) ∧
    Completes (.frameLockDone d) s (fun t => t.portState d = (if s.portState d = 5 then 6 else s.portState d) ∧
      (s.portState d = 5 → Raised t p Port.INT_ACTIVE) ∧
      (s.portActive d = true → SMap.read 0 s.link.background d = 2 → t.modState d (State.reserveOf d) = 2 ∧
        SMap.read 0 t.link.background d = 0) ∧
      (s.portState d ≠ 5 → ¬(s.portActive d = true ∧ SMap.read 0 s.link.background d = 2) → t = s)) ∧
    (∀ first second : List Byte, sidebandGood first = false → sidebandGood second = false →
      (∀ i : Instr, i = .trainingTimeout d ∨ i = .sidebandMessageFail d first second → Completes i s (fun t =>
        (1 ≤ s.portState d → s.portState d ≤ 5 → Raised t p Port.INT_ATTEMPT_FAIL ∧
          (s.get p Port.STATUS_ATTEMPTS < 4 → t.portState d = 1 ∧
            t.get p Port.STATUS_ATTEMPTS = s.get p Port.STATUS_ATTEMPTS + 1) ∧
          (4 ≤ s.get p Port.STATUS_ATTEMPTS → t.portState d = 0 ∧ bit (t.get Pg.reset Reset.RST_DIE_STAT_HELD) d = true)) ∧
        (s.portState d = 0 → t = s))) ∧
      (s.portActive d = true → Completes (.sidebandMessageFail d first second) s (fun t =>
          t.get p Port.STATUS_SB_FAULT = 1 ∧ t.portActive d = true) ∧
        Completes (.trainingTimeout d) s (fun t => t = s))) ∧
    (∀ first second : List Byte, sidebandGood first = true ∨ sidebandGood second = true →
      Completes (.sidebandMessageFail d first second) s (fun t => t = s))

/-- The agreement of R122. -/
def Obligations.HubAndDieAgreeOnTheMap : Prop :=
  ∀ (s : State) (d p dir : Nat), isModuleDir d p dir = true →
    let page := Pg.port d
    (∀ mask : BitVec 68, Completes (.maskReport d p dir mask) s (fun t =>
      (s.portState d = 4 → s.modRole d p ≠ 3 →
        let die := if ofDir dir (s.linkMod d p).clkFail then 0 else mask.toNat
        let agreed := die &&& s.hubMask d p dir &&& s.wireMask page p dir
        ofDir dir (t.linkMod d p).sent = some (WireMap.mk (BitVec.ofNat 68 agreed)
          (BitVec.ofNat 28 (assignSpares agreed (s.wireAssign page p dir))))) ∧
      (s.portState d ≠ 4 → t = s))) ∧
    (∀ w : WireMap, Completes (.mapAssign d p dir w) s (fun t => t.regs = s.regs ∧
      (s.portState d = 4 → (ofDir dir (s.linkMod d p).sent).isSome = true → ofDir dir (t.linkMod d p).applied = some w) ∧
      (s.portState d ≠ 4 → t = s))) ∧
    (∀ w : WireMap, Completes (.trainDone d p dir w) s (fun t =>
      (s.portState d = 4 → ofDir dir (s.linkMod d p).sent = some w →
        ofDir dir (t.linkMod d p).agreed = true ∧ t.wireMask (Pg.dieSide d) p dir = w.mask.toNat ∧
        t.wireAssign (Pg.dieSide d) p dir = w.assign.toNat ∧ (t.portState d = 4 ∨ t.portState d = 5)) ∧
      (s.portState d = 4 → (∃ w', ofDir dir (s.linkMod d p).sent = some w' ∧ w' ≠ w) → s.get page Port.STATUS_ATTEMPTS < 4 →
        t.portState d = 1 ∧ Raised t page Port.INT_ATTEMPT_FAIL) ∧
      (s.portState d ≠ 4 → t = s)))

/-- Wires in service (R125 to R127). -/
def Obligations.WiresAreAuditedSuspectedAndSwapped : Prop :=
  ∀ (s : State) (d p dir w : Nat), isModuleDir d p dir = true → w < 68 →
    let page := Pg.port d
    let m := s.linkMod d p
    Completes (.wireAuditStep d p dir) s (fun t => t.regs = s.regs ∧
      ofDir dir (t.linkMod d p).auditPos = (if s.inService d p then (ofDir dir m.auditPos + 1) % 16 else ofDir dir m.auditPos)) ∧
    (∀ compare : Bool, Completes (.wireSuspect d p dir w compare) s (fun t => t.regs = s.regs ∧
      (s.inService d p = true → bit (s.wireMask page p dir) w = true → (compare = true → s.audited d p dir w = true) →
        (dir, w) ∈ (t.linkMod d p).suspects) ∧
      (s.inService d p = false ∨ bit (s.wireMask page p dir) w = false ∨ (compare = true ∧ s.audited d p dir w = false) → t = s))) ∧
    Completes (.wireRetry d p dir w true) s (fun t =>
      (m.suspects.elem (dir, w) = true → t.get page Port.LMH_ERRS_TRANSIENT p = min (s.get page Port.LMH_ERRS_TRANSIENT p + 1) 0xFFFF ∧
        (dir, w) ∉ (t.linkMod d p).suspects ∧ RegsSameBut s t [fieldKey page Port.LMH_ERRS_TRANSIENT p]) ∧
      (m.suspects.elem (dir, w) = false → t = s)) ∧
    Completes (.wireRetry d p dir w false) s (fun t =>
      (m.suspects.elem (dir, w) = true → w < 64 → bit (s.wireMask page p dir) w = true → served (s.wireAssign page p dir) w = false →
        m.swap = none → s.modState d p ≠ 3 → ∀ k, freeSpare (s.wireMask page p dir) (s.wireAssign page p dir) = some k →
        (t.linkMod d p).swap = some { dir := dir, pos := w, old := w, spare := k } ∧ t.regs = s.regs) ∧
      (m.suspects.elem (dir, w) = false → t = s)) ∧
    Completes (.swapNext d p) s (fun t =>
      (∀ x, m.swap = some x → m.waiting = [] → x.dir < 2 → x.old < 64 → x.spare < 4 →
        (t.linkMod d p).swap = none ∧ Raised t page Port.INT_SPARE_USED ∧
        t.wireAssign page p x.dir = setSpare (s.wireAssign page p x.dir) x.spare x.pos % 2 ^ 28 ∧
        bit (t.wireMask page p x.dir) x.old = false ∧
        ∀ v < 68, v ≠ x.old → bit (t.wireMask page p x.dir) v = bit (s.wireMask page p x.dir) v) ∧
      (m.swap = none → t = s))

/-- The reserve, and the loss of crossing service (R128 to R130). -/
def Obligations.TheReserveTakesAFailedModule : Prop :=
  ∀ (s : State) (d p dir : Nat), isModuleDir d p dir = true → p + 1 ≠ portModules d →
    let page := Pg.port d
    let r := State.reserveOf d
    let moved := fun t : State => t.modLogical d r = s.modLogical d p % 16 ∧ t.modState d r = 2 ∧ t.modRole d p = 3 ∧ t.modState d p = 0 ∧
      t.get page Port.STATUS_RESERVE_IN_USE = 1 ∧ Raised t page Port.INT_RESERVE_USED
    Completes (.moveNext d) s (fun t => (SMap.read none s.link.move d = some (p, dir) → moved t ∧ SMap.read none t.link.move d = none) ∧
      (SMap.read none s.link.move d = none → t = s)) ∧
    (s.portActive d = true → s.modRole d p = 0 → s.reserveFree d = true → Completes (.suddenMove d p dir) s moved) ∧
    Completes (.reserveModuleFails d) s (fun t =>
      s.portActive d = true → s.modRole d r = 2 → s.modLogical d r = 0xF → SMap.read false s.link.reserveBad d = false →
        t.modState d r = 0 ∧ SMap.read false t.link.reserveBad d = true ∧ Raised t page Port.INT_MODULE_DOWN) ∧
    (s.portActive d = true → s.modRole d p = 0 → s.reserveFree d = false →
      SMap.read false s.link.lost (spanDirKey d (s.modLogical d p) dir) = false → Completes (.crossServiceLost d p dir) s (fun t =>
        t.get Pg.safety Safety.SAF_FATAL_CROSS_LOST = 1 ∧ t.errN = true ∧ Raised t page Port.INT_CROSS_LOST ∧
        SMap.read false t.link.lost (spanDirKey d (s.modLogical d p) dir) = true ∧
        (dir = 0 → s.modLogical d p < 12 → bit (t.get (Pg.xport d) Xport.STATUS_FORCED_HOLD) (s.modLogical d p) = true)))

/-- Flits over a Skein module (R131 to R133). -/
def Obligations.SkeinModulesAcceptFlitsInOrder : Prop :=
  ∀ (s : State) (d m dir : Nat), isLogicalDir d m dir = true → ∀ p, s.physOf d m = some p →
    (s.portActive d = true → s.skeinOpen d m = true → ∀ err : BitVec 1700,
      let l := s.linkDir d m dir
      let half := ofDir dir (s.linkMod d p).half
      let k := spanDirKey d m dir
      let sent := s.skeinFrame d m dir half
      let wires := frameWires half (s.wireMask (Pg.port d) p dir) (s.wireAssign (Pg.port d) p dir)
      let r := offWires wires (onWires wires sent.1 (frameHead (SMap.read 0 s.span.txSeq k) 0) ^^^ err.toNat)
      let framed := headGood r.2 (SMap.read 0 s.span.seq4 k)
      let x := match l.second with | some y => y.1.toNat | none => r.1 % 2 ^ 640
      let good := (match l.second with | some y => y.2.2 | none => framed) && slotGood x
      Completes (.skeinSlotReceive d m dir err) s (fun t =>
        let n := t.linkDir d m dir
        let back := s.linkDir d m (1 - dir)
        (good = true → slotValid x = true → slotSeq x = l.expected →
          n.rx = l.rx ++ [slotFlit x] ∧ n.expected = (l.expected + 1) % 1024 ∧ n.nak = false) ∧
        (good = false → n.rx = l.rx ∧ n.expected = l.expected ∧ n.nak = true ∧
          t.get (Pg.port d) Port.LMH_ERRS_FAILED_FRAMES p = min (s.get (Pg.port d) Port.LMH_ERRS_FAILED_FRAMES p + 1) 0xFFFF) ∧
        (good = true → slotValid x = true → slotSeq x ≠ l.expected → n.rx = l.rx ∧ n.expected = l.expected) ∧
        (good = true → slotValid x = false → n.rx = l.rx ∧ n.expected = l.expected ∧ n.nak = l.nak) ∧
        (l.second = none → n.second.isSome = !half ∧ SMap.read 0 t.span.seq4 k = (SMap.read 0 s.span.seq4 k + 1) % 16) ∧
        (∀ y, l.second = some y → n.second = none ∧ t.linkDir d m (1 - dir) = back) ∧
        (∀ c, l.second = none → framed = true → controlOf half r.1 = some c →
          (bit c 10 = true → back.buffer.any (fun e => e.1 = bits c 9 0) = true →
            (t.linkDir d m (1 - dir)).buffer = (back.buffer.dropWhile (fun e => e.1 ≠ bits c 9 0)).drop 1) ∧
          (bit c 21 = true → (t.linkDir d m (1 - dir)).nakIn = some (bits c 20 11))))) ∧
    Completes (.replay d m dir) s (fun t => (t.linkDir d m dir).buffer = (s.linkDir d m dir).buffer ∧ t.regs = s.regs ∧
      (∀ nak, s.portActive d = true → (s.linkDir d m dir).nakIn = some nak → (t.linkDir d m dir).nakIn = none ∧
        (t.linkDir d m dir).sendSeq =
          (if (s.linkDir d m dir).buffer.any (fun e => e.1 = nak) = true then nak else (s.linkDir d m dir).sendSeq)) ∧
      (s.portActive d = false ∨ (s.linkDir d m dir).nakIn = none → t = s)) ∧
    Completes (.moduleRetrain d m) s (fun t =>
      (s.modState d p = 2 ∨ s.modState d p = 3 → s.modRole d p = 1 → (s.linkDir d m dir).failedTwice = true → t.modState d p = 1) ∧
      ((s.linkDir d m 0).failedTwice = false → (s.linkDir d m 1).failedTwice = false → t = s)) ∧
    (∀ (d0 h0 d1 h1 : BitVec 68) (w0 w1 : WireMap) (locked : Bool), s.portActive d = true → s.modRole d p = 1 → s.modState d p = 1 →
      let u := (s.agreeMap d p 0 d0.toNat h0.toNat).agreeMap d p 1 d1.toNat h1.toNat
      Completes (.moduleRetrainDone d m d0 h0 d1 h1 w0 w1 locked) s (fun t =>
        (t.modState d p = 2 ∨ t.modState d p = 3 ∨ t.modState d p = 0) ∧ (locked = false → t.modState d p ≠ 2) ∧
        (w0 ≠ u.mapOf d p 0 ∨ w1 ≠ u.mapOf d p 1 → t.modState d p = 0) ∧
        (t.linkDir d m dir).failedTwice = false ∧ (t.linkDir d m dir).nak = false))

/-- The split and the crossbar (R136 to R139). -/
def Obligations.SplitAndCrossbarEntriesAreStored : Prop :=
  ∀ (s : State) (o : Origin) (d m g : Nat) (v : Word), isLogicalDir d m 0 = true → g < 192 →
    (Accepts s o (Pg.port d) 0x010 v = true → State.reservedIn (Pg.port d) Port.CTL_SPLIT (bits v.toNat 5 4) = false → bit v.toNat 0 = false →
      Completes (.splitWrite o d v) s (fun t => t.get (Pg.port d) Port.CTL_SPLIT = bits v.toNat 5 4 ∧
        (s.get (Pg.port d) Port.CTL_SPLIT ≠ bits v.toNat 5 4 → ∀ p, p + 1 < portModules d → s.modRole d p ≠ 3 →
          t.modRole d p = if s.modLogical d p < crossCount d (bits v.toNat 5 4) then 0 else 1))) ∧
    (let x := Pg.xbar d m
     let ks := [fieldKey x Xbar.XBAR_ENTRY_EN g, fieldKey x Xbar.XBAR_ENTRY_SRC_DIE g, fieldKey x Xbar.XBAR_ENTRY_SRC_MOD g,
       fieldKey x Xbar.XBAR_ENTRY_SRC_GROUP g]
     let bad := bits v.toNat 31 31 = 1 ∧ s.crossModules (bits v.toNat 26 24) ≤ bits v.toNat 23 20
     Accepts s o x (0x100 + 4 * g) v = true → 1 ≤ bits v.toNat 26 24 → bits v.toNat 26 24 ≤ 6 → bits v.toNat 7 0 < 192 →
      Completes (.xbarEntryWrite o d m g v) s (fun t => t.get x Xbar.XBAR_ENTRY_EN g = bits v.toNat 31 31 ∧
        t.get x Xbar.XBAR_ENTRY_SRC_DIE g = bits v.toNat 26 24 ∧ t.get x Xbar.XBAR_ENTRY_SRC_MOD g = bits v.toNat 23 20 ∧
        t.get x Xbar.XBAR_ENTRY_SRC_GROUP g = bits v.toNat 7 0 ∧
        (bad → t.flag (Pg.port d) Port.STATUS_XBAR_BAD = true) ∧
        RegsSameBut s t (if bad then ks ++ [fieldKey (Pg.port d) Port.STATUS_XBAR_BAD 0] else ks)))

/-- Crossing frames (R117, R155 to R157). -/
def Obligations.CrossingFramesAreCheckedSwitchedAndPresented : Prop :=
  ∀ (s : State) (d m dir p : Nat), isLogicalDir d m dir = true → s.physOf d m = some p →
    let x := s.slice d m
    let xp := Pg.xport d
    let k := spanDirKey d m dir
    (∀ (tx : TxFrame) (rest : List TxFrame) (err : BitVec 1700), s.portActive d = true → m < s.crossModules d →
      SMap.read [] s.span.flight k = tx :: rest →
      let w := frameWires false tx.map.mask.toNat tx.map.assign.toNat
      let r := offWires w (onWires w tx.payload.toNat tx.framing.toNat ^^^ err.toNat)
      let poison : Bool := dir = 0 && tx.poisoned
      let failed := !(frameGood (SMap.read 0 s.span.seq4 k) r.1 r.2 && !tx.lost) || poison
      Completes (.crossingFrameReceive d m dir err) s (fun t =>
        SMap.read 0 t.span.seq4 k = (SMap.read 0 s.span.seq4 k + 1) % 16 ∧ SMap.read [] t.span.flight k = rest ∧
        t.get (Pg.port d) Port.LMH_ERRS_FAILED_FRAMES p =
          (if failed then min (s.get (Pg.port d) Port.LMH_ERRS_FAILED_FRAMES p + 1) 0xFFFF
           else s.get (Pg.port d) Port.LMH_ERRS_FAILED_FRAMES p) ∧
        (dir = 1 → tx.data = true → ∃ f, SMap.read none t.span.hubRx (spanKey d m) = some f ∧ f.payload = BitVec.ofNat 1536 r.1 ∧
          f.failed = failed ∧ f.cycle = tx.cycle) ∧
        (dir = 0 → tx.data = true → ∃ f, (t.slice d m).landing = x.landing ++ [f] ∧ f.payload = BitVec.ofNat 1536 r.1 ∧
          f.failed = failed ∧ f.poisoned = poison ∧ f.cycle = tx.cycle) ∧
        (tx.data = false → t.span.hubRx = s.span.hubRx ∧ t.slice d m = x))) ∧
    (∀ err : BitVec 1700, s.portActive d = false ∨ s.crossModules d ≤ m ∨ SMap.read [] s.span.flight k = [] →
      Completes (.crossingFrameReceive d m dir err) s (fun t => t = s)) ∧
    (∀ n : DWord, Completes (.hubFramePoison n) s (fun t => t.span.hubRx = [] ∧ (s.portActive d = true → m < s.crossModules d →
      let k := spanDirKey d m 0
      ∃ f i, SMap.read [] t.span.flight k = SMap.read [] s.span.flight k ++ f :: (if s.idleFollows n.toNat then [i] else []) ∧
        f.data = true ∧ i.data = false ∧ f.cycle = n.toNat ∧
        f.poisoned = (List.range 192).any (fun g => (s.switchGroup d m n.toNat g).poison) ∧
        f.framing = BitVec.ofNat 64 (crossFraming f.payload.toNat (SMap.read 0 s.span.txSeq k) 0 f.poisoned) ∧
        ∀ g < 192, group f.payload g = (s.switchGroup d m n.toNat g).byte % 256))) ∧
    (∀ (n : DWord) (line : List LaneLine), areLanes line = true →
      (n.toNat < s.clock.span ∨ n.toNat < x.edge → Completes (.crossFrameDeliver d m n line) s (fun t => t = s)) ∧
      (s.clock.span ≤ n.toNat → x.edge ≤ n.toNat → Completes (.crossFrameDeliver d m n line) s (fun t =>
        let y := t.slice d m
        let v := s.spanTo n.toNat
        (5 ≤ d → let u := (forEach line (fun l u => u.laneReceives (Pg.dieBase d + 0x40 + l.lane) l) v).laneWords d n.toNat
          let z := (u.deliver d m n.toNat).channelsSent d m
          t = ((z.setSlice d m { z.slice d m with
            launch := u.laneLaunch d m, old := x.arrival, oldErr := x.crossErr, edge := n.toNat + 1 }).lanesTake d m n.toNat).launchSent d m n.toNat (u.laneLaunch d m)) ∧
        (d ≤ 4 → y.launch = s.fabricLaunch d m ∧ y.old = x.arrival ∧ y.oldErr = x.crossErr ∧ y.edge = n.toNat + 1 ∧
          (s.sliceHeld d m = true → y.arrival = 0 ∧ y.crossErr = false ∧ y.lastGood = 0) ∧
          (s.sliceHeld d m = false → s.crossModules d ≤ m → y.arrival = 0 ∧ y.crossErr = false) ∧
          (s.sliceHeld d m = false → m < s.crossModules d → s.spanGated d m = true → y.arrival = x.arrival ∧ y.crossErr = x.crossErr) ∧
          (s.sliceHeld d m = false → m < s.crossModules d → s.spanGated d m = false →
            (s.portActive d = false → y.arrival = s.failedPayload d m 0 ∧ y.crossErr = true ∧ Raised t xp Xport.INT_CROSS_FAIL) ∧
            (s.portActive d = true → x.landing.find? (fun f => f.cycle + 9 = n.toNat) = none →
              y.arrival = x.arrival ∧ y.crossErr = false) ∧
            (s.portActive d = true → ∀ f, x.landing.find? (fun f => f.cycle + 9 = n.toNat) = some f →
              y.landing = x.landing.filter (fun f => n.toNat < f.cycle + 9) ∧ y.crossErr = f.failed ∧
              y.arrival = (if f.failed then s.failedPayload d m f.payload else f.payload) ∧
              y.lastGood = (if f.failed then x.lastGood else f.payload) ∧
              (f.failed = true → Raised t xp Xport.INT_CROSS_FAIL ∧
                t.get xp Xport.XP_FAIL_FRAMES m = min (s.get xp Xport.XP_FAIL_FRAMES m + 1) 0xFFFF) ∧
              (f.failed = false → t.get xp Xport.XP_FAIL_RUN m = 0))) ∧
          (s.portActive d = true → m < s.crossModules d → ∃ f i,
            SMap.read [] t.span.flight (spanDirKey d m 1) = SMap.read [] s.span.flight (spanDirKey d m 1) ++
              f :: (if s.idleFollows n.toNat then [i] else []) ∧
            f.payload = s.fabricLaunch d m ∧ f.cycle = n.toNat ∧ f.data = true ∧ i.data = false ∧
            f.poisoned = (s.get xp Xport.XP_POISON_TEST_MOD = m && s.get xp Xport.XP_POISON_TEST_COUNT ≠ 0)))))) ∧
    (∀ bad : List Nat, bad.all (· < 68) = true → Completes (.crossAuditLap d m dir bad) s (fun t =>
      SMap.read none t.span.laps (spanDirKey d m dir) = none ∧ (SMap.read none s.span.laps (spanDirKey d m dir) = none → t = s)))

/-- Span channels (R149 to R152, R164). -/
def Obligations.SpanChannelsCarryEntriesAgainstCredits : Prop :=
  ∀ (s : State) (o : Origin) (d f : Nat), isChannelPort d f = true →
    let c := s.side d f
    let p := Pg.xport d
    let e := s.peerDie d f
    let g := s.peerPort d f
    let open_ : Bool := s.channelOn d f && !(s.channelError d f)
    (c.wDue = none → Completes (.sfifoWrite d f) s (fun t => t = s)) ∧
    (∀ x, c.wDue = some x → Completes (.sfifoWrite d f) s (fun t => t.regs = s.regs ∧ (t.side d f).wDue = none ∧
      (t.side d f).tx = (if open_ && c.tx.length ≠ 16 then c.tx ++ [x] else c.tx) ∧ (t.side d f).rx = c.rx)) ∧
    (∀ x rest, c.tx = x :: rest → c.out = none → open_ = true → s.get p Xport.SFIFO_STATUS_CREDITS f ≠ 0 →
      s.get p Xport.SFIFO_STATUS_CREDITS f < 64 →
      Completes (.sfifoSend d f) s (fun t => (t.side d f).tx = rest ∧ (t.side d f).out = some x ∧
        t.get p Xport.SFIFO_STATUS_CREDITS f = s.get p Xport.SFIFO_STATUS_CREDITS f - 1)) ∧
    (c.tx = [] ∨ c.out ≠ none ∨ open_ = false ∨ s.get p Xport.SFIFO_STATUS_CREDITS f = 0 → Completes (.sfifoSend d f) s (fun t => t = s)) ∧
    (c.rDue = true → ∀ x rest, c.rx = x :: rest → Completes (.sfifoRead d f) s (fun t => (t.side d f).rx = rest ∧ (t.side d f).rdata = x ∧
      (t.side d f).rDue = false ∧ (t.side d f).owed = (if open_ then c.owed + 1 else c.owed) ∧ t.regs = s.regs)) ∧
    (c.rDue = true → c.rx = [] → Completes (.sfifoRead d f) s (fun t => t.side d f = { c with rDue := false } ∧ t.regs = s.regs)) ∧
    (c.rDue = false → Completes (.sfifoRead d f) s (fun t => t = s)) ∧
    Completes (.spanChannelErr d f) s (fun t => (open_ = true →
        t.channelError d f = true ∧ t.channelError e g = true ∧ t.get p Xport.SFIFO_STATUS_READY f = 0 ∧
        t.get (Pg.xport e) Xport.SFIFO_STATUS_READY g = 0 ∧ Raised t p Xport.INT_SFIFO_ERR ∧ Raised t (Pg.xport e) Xport.INT_SFIFO_ERR) ∧
      (open_ = false → t = s)) ∧
    (let w := BitVec.ofNat 32 (s.storedWord p (0x200 + 4 * f) ||| 2)
     Accepts s o p (0x200 + 4 * f) w = true → Completes (.resync o d f) s (fun t => s.channelError d f = true →
      (t.side d f).tx = [] ∧ (t.side d f).rx = [] ∧ (t.side d f).out = none ∧ (t.side d f).owed = 0 ∧ t.get p Xport.SFIFO_STATUS_READY f = 1)) ∧
    Completes (.channelRestart d f) s (fun t => s.channelOn d f = true → s.channelError d f = true →
      s.sideReady d f = true → s.sideReady e g = true →
      t.channelError d f = false ∧ t.channelError e g = false ∧ t.get p Xport.SFIFO_STATUS_CREDITS f = 32 ∧
      t.get (Pg.xport e) Xport.SFIFO_STATUS_CREDITS g = 32)

/-- Dual-port blocks (R167 to R177): an edge of a port's track takes its inputs, and a command performs what it took. -/
def Obligations.DualPortBlocksReadMergeAndStore : Prop :=
  ∀ (s : State) (d sec i b : Nat) (far : Bool), isDpb d sec i b = true →
    let page := Pg.mi d sec
    let w := s.dpbWidth d sec i b
    let p := s.dpbPort d sec i b
    let o := s.dpbPort d sec i (1 - b)
    let busy := Sctl.SCTL_DPB_BUSY_COUNT
    let counted : State → Prop := fun t => t.get (Pg.sctl d sec) busy i = satAdd busy.width (s.get (Pg.sctl d sec) busy i) 1
    (∀ t : State, t.dpbOpen d sec i b = true → s.attachIn d sec (192 * i + 96 * b) = true →
      ((s.dpbTakes d sec (t.dpbTrack d sec i b) t).dpbPort d sec i b).due =
        some { we := s.attachIn d sec (192 * i + 96 * b + 1), addr := s.attachNum d sec (192 * i + 96 * b + 2) 15
               din := BitVec.ofNat 64 (s.attachNum d sec (192 * i + 96 * b + 17) 64) }) ∧
    (∀ flip, p.due = none → Completes (.dpbRead d sec i b far flip) s (fun t => t = s) ∧
      Completes (.dpbWrite d sec i b far flip) s (fun t => t = s)) ∧
    ((∀ m, p.merge = some m → m.ripe = false) → Completes (.mergeWriteStore d sec i b far) s (fun t => t = s)) ∧
    (∀ x, p.due = some x → p.merge = none →
      let word := entryWord w x.addr
      let r := s.look page i word
      let met := s.dpbMet d sec i (1 - b) word far
      (∀ flip, x.we = true → Completes (.dpbRead d sec i b far flip) s (fun t => t = s)) ∧
      (∀ flip, x.we = false → Completes (.dpbWrite d sec i b far flip) s (fun t => t = s)) ∧
      (s.dpbMetStore d sec i (1 - b) word far = none → met.any (·.write) = false →
        (x.we = false → Completes (.dpbRead d sec i b far 0) s (fun t =>
          let y := t.dpbPort d sec i b
          y.dout = BitVec.ofNat 64 (entryOf w x.addr r.data) ∧ y.cstat = BitVec.ofNat 2 r.cls.code ∧ y.busy = false ∧ y.due = none ∧
          t.dpbPort d sec i (1 - b) = o ∧ StoresSame s t))) ∧
      (s.dpbMetStore d sec i (1 - b) word far = none → met = none → x.we = true →
        (w = 6 → s.flips page i false = false → Completes (.dpbWrite d sec i b far 0) s (fun t =>
          t.raw page i false word = codeWord x.din.toNat ∧ WordsSameBut s t page i word ∧
          SMap.read false t.mem.stale (pageKey page i (word / 64)) = true ∧
          let y := t.dpbPort d sec i b
          y.busy = false ∧ y.merge = none ∧ y.due = none ∧ y.dout = (match s.dpbWmode d sec i b with
            | 1 => x.din
            | 2 => BitVec.ofNat 64 r.data
            | _ => p.dout))) ∧
        (w < 6 → Completes (.dpbWrite d sec i b far 0) s (fun t => StoresSame s t ∧
          let y := t.dpbPort d sec i b
          y.busy = false ∧ y.due = none ∧
          (badRead r = false → y.merge =
            some { word := word, value := BitVec.ofNat 64 (withEntry w x.addr r.data x.din.toNat), ripe := false }) ∧
          (badRead r = true →
            y.merge = none ∧ y.dout = BitVec.ofNat 64 (entryOf w x.addr r.data) ∧ y.cstat = BitVec.ofNat 2 r.cls.code)))) ∧
      (∀ a, met = some a → a.write = true →
        (x.we = false → s.compatOn d sec i = false → Completes (.dpbRead d sec i b far 0) s (fun t =>
          (t.dpbPort d sec i b).busy = true ∧ counted t ∧ StoresSame s t)) ∧
        (x.we = true → b = 1 → s.dpbTrack d sec i 0 = s.dpbTrack d sec i 1 → Completes (.dpbWrite d sec i b far 0) s (fun t =>
          (t.dpbPort d sec i 1).busy = true ∧ counted t ∧ StoresSame s t)) ∧
        (x.we = true → b = 0 → s.dpbTrack d sec i 0 = s.dpbTrack d sec i 1 → s.dpbMetStore d sec i 1 word far = none →
          a.masked = false → w = 6 → s.flips page i false = false → Completes (.dpbWrite d sec i b far 0) s (fun t =>
            t.raw page i false word = codeWord x.din.toNat ∧ (t.dpbPort d sec i 1).busy = true ∧ counted t)))) ∧
    (∀ m, p.merge = some m → m.ripe = true → m.word < 512 → s.flips page i false = false →
      let met := s.dpbMet d sec i (1 - b) m.word far
      Completes (.mergeWriteStore d sec i b far) s (fun t =>
        (met = none → WordsSameBut s t page i m.word ∧ (t.dpbPort d sec i b).dout = p.dout) ∧
        (met.any (fun a => a.write && a.masked) = false →
          t.raw page i false m.word = codeWord m.value.toNat ∧ (t.dpbPort d sec i b).merge = none) ∧
        (∀ a, met = some a → a.write = true ∨ s.compatOn d sec i = false → (t.dpbPort d sec i (1 - b)).busy = true ∧ counted t)))

/-- Banked blocks (R178 to R184): an edge takes the request presented unless it stalls, and a command performs what it took. -/
def Obligations.BankedBlocksReadWriteAddAndSwap : Prop :=
  ∀ (s : State) (d sec k b : Nat), isBkb d sec k b = true →
    let page := Pg.mi d sec
    let p := s.bkbPort d sec k b
    let mode := s.bkbRec d sec k 4 3
    let f := if b = 0 then Sctl.SCTL_BKB_STALL_A_STALLS else Sctl.SCTL_BKB_STALL_B_STALLS
    (∀ (t : State) (x : BkbIn), t.bkbPresented d sec k b (s.attachIn d sec) = some x →
      let u := s.bkbTakes d sec (t.bkbTrack d sec k) t
      (t.bkbStall d sec k b (s.attachIn d sec) = true → u.bkbPort d sec k b = t.bkbPort d sec k b ∧
        u.get (Pg.sctl d sec) f k = satAdd f.width (t.get (Pg.sctl d sec) f k) 1) ∧
      (t.bkbStall d sec k b (s.attachIn d sec) = false → (u.bkbPort d sec k b).due = some x ∧
        u.get (Pg.sctl d sec) f k = t.get (Pg.sctl d sec) f k)) ∧
    (∀ op c, (op, c) ∈ [(0, Instr.bkbRead d sec k b 0), (1, .bkbWrite d sec k b 0), (2, .bkbAdd d sec k b 0), (3, .bkbSwap d sec k b 0)] →
      p.due = none ∨ (∃ x, p.due = some x ∧ x.op ≠ op) → Completes c s (fun t => t = s)) ∧
    (∀ x, p.due = some x →
      let q := (s.bkbAt d sec k x.addr).1
      let w := (s.bkbAt d sec k x.addr).2
      let r := s.look page q w
      let held : State → DWord → Prop := fun t v => StoresSame s t ∧ t.bankBusy page q = some { word := w, value := some v, portB := b = 1 }
      let shows : State → Nat → Prop := fun t v => (t.bkbPort d sec k b).dvalid = true ∧ (t.bkbPort d sec k b).due = none ∧
        (t.bkbPort d sec k b).dout = BitVec.ofNat 64 r.data ∧ (t.bkbPort d sec k b).cstat = BitVec.ofNat 2 r.cls.code ∧
        (t.bkbPort d sec k b).aovf = BitVec.ofNat 2 v
      (x.op = 0 → Completes (.bkbRead d sec k b 0) s (fun t => shows t 0 ∧ StoresSame s t ∧ t.mem.busy = s.mem.busy)) ∧
      (x.op = 1 → x.be = 0xFF → s.flips page (10 + k) false = false → Completes (.bkbWrite d sec k b 0) s (fun t =>
        t.raw page q false w = codeWord x.din.toNat ∧ WordsSameBut s t page q w ∧ t.mem.busy = s.mem.busy ∧
        t.bkbPort d sec k b = { p with due := none })) ∧
      (badRead r = false →
        (x.op = 1 → x.be ≠ 0xFF → Completes (.bkbWrite d sec k b 0) s (fun t =>
          held t (BitVec.ofNat 64 (mergeBytes x.be r.data x.din.toNat)) ∧ t.bkbPort d sec k b = { p with due := none })) ∧
        (x.op = 2 → Completes (.bkbAdd d sec k b 0) s (fun t =>
          held t (BitVec.ofNat 64 (bankAdd mode r.data x.din.toNat).1) ∧ shows t (bankAdd mode r.data x.din.toNat).2)) ∧
        (x.op = 3 → Completes (.bkbSwap d sec k b 0) s (fun t => held t x.din ∧ shows t 0))) ∧
      (badRead r = true → ∀ op c, (op, c) ∈ [(1, Instr.bkbWrite d sec k b 0), (2, .bkbAdd d sec k b 0), (3, .bkbSwap d sec k b 0)] →
        x.op = op → (op = 1 → x.be ≠ 0xFF) → Completes c s (fun t => StoresSame s t ∧ shows t 0 ∧
          t.bankBusy page q = some { word := w, value := none, portB := b = 1 }))) ∧
    (∀ n < 8, let m := 10 + 8 * k + n
      ((∀ x, s.bankBusy page m = some x → x.ripe = false) → Completes (.bankStore d sec k n) s (fun t => t = s)) ∧
      (∀ x, s.bankBusy page m = some x → x.ripe = true → x.word < 1024 → s.flips page (10 + k) false = false →
        Completes (.bankStore d sec k n) s (fun t => t.bankBusy page m = none ∧ match x.value with
          | some v => t.raw page m false x.word = codeWord v.toNat ∧ WordsSameBut s t page m x.word
          | none => StoresSame s t)))

/-- Queue controllers (R186 to R192): an edge takes a write or a read, or refuses it; a command performs what it took. -/
def Obligations.QueueControllersKeepTheirTwoLevels : Prop :=
  ∀ (s : State) (d sec b : Nat), isBlock d sec b = true →
    let page := Pg.mi d sec
    let sctl := Pg.sctl d sec
    let q := s.queue d sec b
    let cap := s.qCapacity d sec b
    let wa := s.qAt d sec b q.wptr
    let ra := s.qAt d sec b q.rptr
    let old := s.look page wa.1 wa.2
    let r := s.look page ra.1 ra.2
    let base := State.blockBase b
    let rst := s.attachIn d sec (base + 97)
    (∀ (t : State) (n : Nat), t.isQueue d sec b = true → rst = (t.queue d sec b).qrst → t.qFree d sec b n = true →
      let u := s.queueTakes d sec n t
      (t.qWriteTrack d sec b = n → s.attachIn d sec base = true → t.qWriteOpen d sec b = false ∨ q.wLevel = cap →
        (u.queue d sec b).ovf = true ∧ u.get sctl Sctl.SCTL_QSTAT_OVF b = 1 ∧ (u.queue d sec b).wDue = (t.queue d sec b).wDue) ∧
      (t.qWriteTrack d sec b = n → s.attachIn d sec base = true → t.qWriteOpen d sec b = true → q.wLevel ≠ cap →
        (u.queue d sec b).wDue = some (BitVec.ofNat 64 (s.attachNum d sec (base + (if b < 10 then 17 else 24)) 64))) ∧
      (t.qReadTrack d sec b = n → s.attachIn d sec (base + 96) = true → t.qReadOpen d sec b = false ∨ q.rLevel = 0 →
        (u.queue d sec b).udf = true ∧ u.get sctl Sctl.SCTL_QSTAT_UDF b = 1 ∧ (u.queue d sec b).rDue = (t.queue d sec b).rDue) ∧
      (t.qReadTrack d sec b = n → s.attachIn d sec (base + 96) = true → t.qReadOpen d sec b = true → q.rLevel ≠ 0 →
        (u.queue d sec b).rDue = true)) ∧
    (∀ flip, q.wDue = none → Completes (.queueWrite d sec b flip) s (fun t => t = s)) ∧
    (∀ flip, q.rDue = false → Completes (.queueRead d sec b flip) s (fun t => t = s)) ∧
    (∀ data, q.wDue = some data →
      let q' := { q with wDue := none, wptr := (q.wptr + 1) % cap, wLevel := q.wLevel + 1, wPend := q.wPend ++ [0] }
      (s.qMode d sec b ≠ 2 ∨ b < 10 → s.flips page b false = false → s.qWidth d sec b = 6 ∨ badRead old = false →
        Completes (.queueWrite d sec b 0) s (fun t => t.queue d sec b = q' ∧ WordsSameBut s t page wa.1 wa.2 ∧
          t.raw page wa.1 false wa.2 = codeWord (if s.qWidth d sec b = 6 then data.toNat
            else withEntry (s.qWidth d sec b) q.wptr old.data data.toNat % 2 ^ 64))) ∧
      (s.qMode d sec b = 2 → 10 ≤ b → q.stage.length < 16 → Completes (.queueWrite d sec b 0) s (fun t =>
        t.queue d sec b = { q' with stage := q.stage ++ [(q.wptr, data)] } ∧ StoresSame s t))) ∧
    (q.rDue = true → Completes (.queueRead d sec b 0) s (fun t =>
      t.queue d sec b = { q with rDue := false, rptr := (q.rptr + 1) % cap, rLevel := q.rLevel - 1, rPend := q.rPend ++ [0] } ∧
      StoresSame s t ∧
      (b < 10 → (t.dpbPort d sec b 1).dout = BitVec.ofNat 64 (entryOf (s.qWidth d sec b) q.rptr r.data) ∧
        (t.dpbPort d sec b 1).cstat = BitVec.ofNat 2 r.cls.code) ∧
      (10 ≤ b → (t.bkbPort d sec (b - 10) 1).dout = BitVec.ofNat 64 r.data ∧ (t.bkbPort d sec (b - 10) 1).dvalid = true))) ∧
    Completes (.queueLevelSync d sec b true) s (fun t =>
      (∀ a rest, q.wPend = a :: rest → s.syncFrom d sec b ≤ a → t.queue d sec b = { q with wPend := rest, rLevel := q.rLevel + 1 }) ∧
      (q.wPend = [] ∨ (∃ a ∈ q.wPend.head?, a < s.syncFrom d sec b) → t = s)) ∧
    Completes (.queueLevelSync d sec b false) s (fun t =>
      (∀ a rest, q.rPend = a :: rest → s.syncFrom d sec b ≤ a → t.queue d sec b = { q with rPend := rest, wLevel := q.wLevel - 1 }) ∧
      (q.rPend = [] ∨ (∃ a ∈ q.rPend.head?, a < s.syncFrom d sec b) → t = s)) ∧
    Completes (.qrst d sec b) s (fun t =>
      (s.gsrActive d sec = true ∨ s.isQueue d sec b = false ∨ (rst = false ∧ q.qrst = false) → t = s) ∧
      (s.gsrActive d sec = false → s.isQueue d sec b = true → rst = true → t.queue d sec b = { qrst := true } ∧
        (q.wDue = none → q.stage = [] → StoresSame s t) ∧
        t.qFull d sec b = true ∧ t.qEmpty d sec b = true ∧ t.qAFull d sec b = true ∧ t.qAEmpty d sec b = true) ∧
      (s.gsrActive d sec = false → s.isQueue d sec b = true → rst = false → q.qrst = true →
        t.queue d sec b = { wWait := 3, rWait := 3 } ∧ StoresSame s t))

/-- Memory integrity (R208 to R224). -/
def Obligations.ScrubbersRetryRepairAndRemap : Prop :=
  ∀ (s : State) (o : Origin) (page q b : Nat), isMiBank page q = true → isMiBlock page b = true →
    let k := bankKey page q
    let block := blockOf page q
    let c := fun (t : State) (f : RegField) => t.get page f block = satAdd f.width (s.get page f block) 1
    let walk := SMap.read 0 s.mem.walk k
    (∀ again, s.scrubRuns page q = false ∨ s.bankIdle page q = false ∨ SMap.read [] s.mem.repair k = [] →
      Completes (.scrubRetry page q again) s (fun t => t = s)) ∧
    (∀ w rest, s.scrubRuns page q = true → s.bankIdle page q = true → SMap.read [] s.mem.repair k = w :: rest → w < 1024 →
      let r := s.look page q w
      (SMap.read false s.mem.superseded (wordKey page q w) = true → ∀ again, Completes (.scrubRetry page q again) s (fun t =>
        SMap.read [] t.mem.repair k = rest ∧ c t (miTransient page) ∧ StoresSame s t)) ∧
      (SMap.read false s.mem.superseded (wordKey page q w) = false →
        Completes (.scrubRetry page q 0) s (fun t => SMap.read [] t.mem.repair k = rest ∧
          (r.cls = .clean → c t (miTransient page) ∧ StoresSame s t) ∧
          (r.cls = .corrected → c t (miTransient page) ∧ t.raw page q false w = codeWord r.data ∧ WordsSameBut s t page q w) ∧
          (r.cls = .poison → StoresSame s t ∧ t.regs = s.regs) ∧
          (r.cls = .uncorrectable → SMap.read false s.mem.stale (pageKey page q (w / 64)) = true →
            t.raw page q false w = poisonWord r.data ∧ WordsSameBut s t page q w ∧ c t (miLost page) ∧ Raised t page Mi.INT_WORD_LOST ∧
            t.get Pg.safety Safety.SAF_FATAL_MEMORY = 1)) ∧
        (∀ again : BitVec 72, r.cls = .corrected → (readWord (codeWord r.data ^^^ again)).cls ≠ .clean →
          s.remapOf page q false w = none → s.freeEntry page q ≠ none → Completes (.scrubRetry page q again) s (fun t =>
            t.raw page q false w = codeWord r.data ∧ t.remapOf page q false w = s.freeEntry page q ∧
            c t (miLasting page) ∧ Raised t page Mi.INT_LASTING)))) ∧
    (∀ i rest, s.scrubRuns page q = true → s.bankIdle page q = true → SMap.read [] s.mem.repair k = (1024 + i) :: rest →
      let x := readWord (s.raw page q true i)
      let par := pageParity ((s.pageReads page q (i / 2)).map (·.data))
      Completes (.scrubRetry page q 0) s (fun t => SMap.read [] t.mem.repair k = rest ∧ t.mem.cells = s.mem.cells ∧
        (x.cls = .clean → c t (miTransient page) ∧ StoresSame s t) ∧ (x.cls = .poison → StoresSame s t ∧ t.regs = s.regs) ∧
        (x.cls = .corrected ∨ x.cls = .uncorrectable → (readWord (codeWord (if i % 2 = 0 then par.1 else par.2))).cls = .clean →
          c t (miTransient page) ∧ t.raw page q true i = codeWord (if i % 2 = 0 then par.1 else par.2)))) ∧
    (∀ ups written second again, s.scrubRuns page q = false ∨ s.bankIdle page q = false ∨ s.flag page (miScrEn page) = false ∨
        SMap.read [] s.mem.repair k ≠ [] ∨ pagesOf page q ≤ walk →
      Completes (.scrubPageStep page q ups written second again) s (fun t => t = s)) ∧
    (s.scrubRuns page q = true → s.bankIdle page q = true → s.flag page (miScrEn page) = true → SMap.read [] s.mem.repair k = [] →
      walk < pagesOf page q → ∀ second again, SMap.read false s.mem.stale (pageKey page q walk) = true →
      let par := pageParity ((s.pageReads page q walk).map (·.data))
      Completes (.scrubPageStep page q [] false second again) s (fun t => SMap.read 0 t.mem.walk k = walk + 1 ∧
        SMap.read false t.mem.stale (pageKey page q walk) = false ∧ t.mem.cells = s.mem.cells ∧
        t.raw page q true (2 * walk) = codeWord par.1 ∧ t.raw page q true (2 * walk + 1) = codeWord par.2) ∧
      Completes (.scrubPageStep page q [] true second again) s (fun t => SMap.read 0 t.mem.walk k = walk + 1 ∧
        SMap.read false t.mem.stale (pageKey page q walk) = true ∧ StoresSame s t)) ∧
    (∀ us, Completes (.scrubLapDone page q us) s (fun t => if walk = pagesOf page q then SMap.read 0 t.mem.walk k = 0 ∧
      SMap.read 0 t.mem.lapLast k = min us (2 ^ 24 - 1) ∧ SMap.read false t.mem.slowed k = false else t = s)) ∧
    (∀ us, Completes (.memSlowLap page q us) s (fun t =>
      if SMap.read false s.mem.slowed k = true ∨ s.scrubRuns page q = false ∨ us ≤ s.get page (miLimit page) then t = s
      else SMap.read false t.mem.slowed k = true ∧ Raised t page Mi.INT_SLOW_LAP ∧ t.get page (miSlow page) block = 1 ∧
        t.flag Pg.safety Safety.SAF_WARN_MEM = true)) ∧
    Completes (.tmrFix page b) s (fun t => Raised t page Mi.INT_TMR_FIX ∧
      t.get page (miTmrFix page) = satAdd (miTmrFix page).width (s.get page (miTmrFix page)) 1) ∧
    (∀ write : Bool, Accepts s o page 0x80C (if write then 2 else 1) = true →
      Completes (if write then .miTestWrite o page else .miTestRead o page) s (fun t =>
        if s.testAllowed page then t.get page (miTestBusy page) = 1 ∧ t.get page (miTestFault page) = 0 ∧
          SMap.read none t.mem.test page = some write
        else t.get page (miTestFault page) = 1)) ∧
    (let at_ := locate page (s.get page (miTestBlock page)) (s.get page (miTestAddr page)) (s.bankMapOf page (s.get page (miTestBlock page)))
     let r := s.look page at_.1 at_.2
     (SMap.read none s.mem.test page = none → ∀ late, Completes (.miTestDone page late) s (fun t => t = s)) ∧
     (∀ write, SMap.read none s.mem.test page = some write →
       Completes (.miTestDone page true) s (fun t => t.get page (miTestBusy page) = 0 ∧ t.get page (miTestFault page) = 1 ∧ StoresSame s t) ∧
       (s.testAllowed page = true → Completes (.miTestDone page false) s (fun t => t.get page (miTestBusy page) = 0 ∧
         SMap.read none t.mem.test page = none ∧
         (write = false → t.get page (miTestLo page) = r.data % 2 ^ 32 ∧ t.get page (miTestHi page) = r.data / 2 ^ 32 % 2 ^ 32 ∧
           t.get page (miTestCstat page) = r.cls.code ∧ StoresSame s t) ∧
         (write = true → s.flips page (blockOf page at_.1) true = false →
           t.raw page at_.1 false at_.2 = codeWord (s.get page (miTestLo page) + 2 ^ 32 * s.get page (miTestHi page)))))))

/-- DSP slices (R231 to R247, R250): an edge takes the inputs and moves the pipeline on, and a command performs what it took. -/
def Obligations.DspOperationsAccumulateMoveAndAdvance : Prop :=
  ∀ (s : State) (d sec j : Nat), isSlice d sec j = true →
    let y := s.dspSlice d sec j
    let a := y.acc
    let sum : Int → Bool → Acc := fun z ov =>
      { acc := BitVec.ofInt 64 (if s.dspRec d sec j 3 3 = 1 then z else max (-(2 ^ 63)) (min (2 ^ 63 - 1) z)), nexp := a.nexp,
        ov := ov || decide (z < -(2 ^ 63)) || decide (2 ^ 63 ≤ z) }
    let load : Int → Acc := fun z => { acc := BitVec.ofInt 64 z }
    let others : State → Prop := fun t => ∀ e r k, isSlice e r k = true → ¬(e = d ∧ r = sec ∧ k = j) → t.dspSlice e r k = s.dspSlice e r k
    let next := advance (s.dspRec d sec j 27 26) (s.dspRec d sec j 31 28) (s.dspRec d sec j 35 32) (s.dspRec d sec j 39 36)
      (s.coefPtr d sec j) % 16
    let cadv : Bool := s.dspRec d sec j 25 25 = 1
    let page := Pg.sctl d sec
    (let t := s.dspStep d sec j
     let z := t.dspSlice d sec j
     z.acc = a ∧ z.one.acc = a ∧ z.two = y.one ∧ z.three = y.two ∧ others t ∧
     (y.psat = true → bit (t.get page Sctl.SCTL_DSP_PSAT_PSAT) j = true) ∧
     (y.two.moved = true → y.two.out.lim = true → bit (t.get page Sctl.SCTL_DSP_LIM_LIM) j = true)) ∧
    (∀ x, s.dspDue d sec j = some x →
      let p := s.dspProduct d sec j x
      (s.dspRec d sec j 1 0 = 0 →
        p = ((if s.dspRec d sec j 2 2 = 1 then 1 else 2) *
          (x.a.toInt * (if s.dspRec d sec j 18 18 = 1 then x.coef.toInt else x.b.toInt)), false)) ∧
      (∀ c op new, (c, op, new) ∈ [(Instr.dspHold d sec j, 0, a), (.dspLoad d sec j, 1, load p.1),
          (.dspMac d sec j, 2, sum (a.value + p.1) a.ov), (.dspMsu d sec j, 3, sum (a.value - p.1) a.ov),
          (.dspCasc d sec j, 4, { sum (x.cin + p.1) false with nexp := 0 }), (.dspNorm d sec j, 5, a.norm),
          (.dspClear d sec j, 6, {}), (.dspCload d sec j, 7, load x.cin)] →
        Completes c s (fun t =>
          (x.op = false ∨ x.aop ≠ op → t = s) ∧
          (x.op = true → x.aop = op →
            let z := t.dspSlice d sec j
            z.acc = new ∧ z.p = BitVec.ofInt 64 p.1 ∧ z.psat = p.2 ∧ z.moved = x.move ∧ z.due = some { x with op := false } ∧
            z.out = (if x.move then new.move (s.dspRec d sec j 5 4) (s.dspRec d sec j 11 6) (s.dspRec d sec j 17 12) else y.out) ∧
            t.coefPtr d sec j = (if 1 ≤ op ∧ op ≤ 4 ∧ cadv = true ∧ x.rst = false then next else s.coefPtr d sec j) ∧
            others t ∧ t.dsp.coef = s.dsp.coef ∧ t.mem = s.mem ∧ t.regs = s.regs))) ∧
      Completes (.dspCwe d sec j) s (fun t => if x.cwe then t.coef d sec j x.cwaddr = x.cwdata ∧
        t.dspSlice d sec j = { y with due := some { x with cwe := false } } ∧ others t ∧ t.regs = s.regs ∧
        (∀ g, g ≠ x.cwaddr → t.coef d sec j g = s.coef d sec j g) else t = s) ∧
      Completes (.dspCrst d sec j) s (fun t => if x.crst then
        t.coefPtr d sec j = s.dspRec d sec j 43 40 ∧ (t.dspSlice d sec j).acc = a ∧ others t else t = s) ∧
      Completes (.dspCnext d sec j) s (fun t => if x.cnext then
        t.coefPtr d sec j = (if cadv = false ∧ x.rst = false then next else s.coefPtr d sec j) ∧
        (t.dspSlice d sec j).acc = a ∧ others t else t = s)) ∧
    (s.dspDue d sec j = none → ∀ c ∈ [Instr.dspHold d sec j, .dspLoad d sec j, .dspMac d sec j, .dspMsu d sec j, .dspCasc d sec j,
      .dspNorm d sec j, .dspClear d sec j, .dspCload d sec j, .dspCwe d sec j, .dspCrst d sec j, .dspCnext d sec j],
      Completes c s (fun t => t = s))

/-- A move (R237). -/
def Obligations.MovesRoundConvergentlyAndLimit : Prop :=
  ∀ (s : State) (d sec j : Nat) (x : DspDue), isSlice d sec j = true → s.dspDue d sec j = some x → x.op = true → x.aop = 0 →
    x.move = true → s.dspRec d sec j 5 4 ≠ 3 → Completes (.dspHold d sec j) s (fun t =>
      let y := t.dspSlice d sec j
      let v := (s.dspSlice d sec j).acc.acc.toInt
      let scale := s.dspRec d sec j 5 4
      let e : Int := s.dspRec d sec j 11 6 - (if scale = 1 then 1 else if scale = 2 then -1 else 0)
      let n := s.dspRec d sec j 17 12 + 1
      let top : Int := 2 ^ (n - 1) - 1
      let low : Int := -(2 ^ (n - 1))
      let f := v / 2 ^ e.toNat
      let r := v - f * 2 ^ e.toNat
      let h : Int := 2 ^ (e.toNat - 1)
      let q := if e ≤ 0 then v * 2 ^ (-e).toNat else if h < r ∨ (r = h ∧ f % 2 = 1) then f + 1 else f
      (-1 : Int) ≤ e ∧ e ≤ 64 ∧ y.acc = (s.dspSlice d sec j).acc ∧
      y.out.y = BitVec.ofInt 64 (if top < q then top else if q < low then low else q) ∧
      y.out.lim = decide (top < q ∨ q < low))

/-- NORM (R239). -/
def Obligations.NormPerformsOneNormalizationStep : Prop :=
  (∀ (s : State) (d sec j : Nat) (x : DspDue), isSlice d sec j = true → s.dspDue d sec j = some x → x.op = true → x.aop = 5 →
    let a := (s.dspSlice d sec j).acc
    let top := a.acc.toNat / 2 ^ 53
    Completes (.dspNorm d sec j) s (fun t =>
      let b := (t.dspSlice d sec j).acc
      b.ov = a.ov ∧
      (top ≠ 0 → top ≠ 2047 → a.nexp.toInt ≠ 127 → b.acc.toInt = a.acc.toInt / 2 ∧ b.nexp.toInt = a.nexp.toInt + 1) ∧
      (top ≠ 0 → top ≠ 2047 → a.nexp.toInt = 127 → b = a) ∧
      ((top = 0 ∨ top = 2047) → a.acc ≠ 0 → bit a.acc.toNat 53 = bit a.acc.toNat 52 →
        (a.nexp.toInt ≠ -128 → b.acc.toInt = 2 * a.acc.toInt ∧ b.nexp.toInt = a.nexp.toInt - 1) ∧
        (a.nexp.toInt = -128 → b = a)) ∧
      ((top = 0 ∨ top = 2047) → (a.acc = 0 ∨ bit a.acc.toNat 53 ≠ bit a.acc.toNat 52) → b = a))) ∧
  (∀ a : Acc, a.nexp = 0 → a.acc ≠ 0 → ∃ n, n ≤ 53 ∧
    let b := Acc.norm^[n] a
    bit b.acc.toNat 53 ≠ bit b.acc.toNat 52 ∧ nominal b.acc.toNat = true ∧
    (nominal a.acc.toNat = false → n ≤ 10 ∧ b.nexp.toInt = n) ∧ (nominal a.acc.toNat = true → b.nexp.toInt = -n)) ∧
  (∀ ov, Acc.norm^[53] { acc := BitVec.ofInt 64 (-1), nexp := 0, ov := ov } =
    { acc := BitVec.ofInt 64 (-(2 ^ 53)), nexp := BitVec.ofInt 8 (-53), ov := ov }) ∧
  (∀ a : Acc, a.acc = 0 → a.norm = a)

/-- Integer instructions (R256, R257; the RISC-V arithmetic and decoding are PRESUMED, log entry 24). -/
def Obligations.EnginesExecuteIntegerInstructions : Prop :=
  ∀ (s : State) (e : Nat), e < 64 →
    let c := s.core e
    let x := fun r => s.xr e r
    let run := Instr.integerInstruction e
    (s.mayRun e = false → Completes run s (fun t => t = s)) ∧
    (s.commitDiffers e = true → Completes run s (fun t => t = s)) ∧
    (∀ a, Commits s e → s.fetched e = .error a → Completes run s (fun t => Trapped s t e 1 a)) ∧
    (∀ i len, NextIs s e i len →
      let next := c.pc + BitVec.ofNat 32 len
      let gives : EngCore → Word → Prop := fun d target => Completes run s (fun t => Retired s t e d target ∧ StoresSame s t)
      (State.isInteger i = false → Completes run s (fun t => t = s)) ∧
      (∀ f alt rd r1 r2, i = .alu f alt rd r1 r2 → gives (State.setXreg c rd (aluOf f alt (x r1) (x r2))) next) ∧
      (∀ f alt rd r1 imm, i = .aluImm f alt rd r1 imm → gives (State.setXreg c rd (aluOf f alt (x r1) imm)) next) ∧
      (∀ f rd r1 r2, i = .mul f rd r1 r2 → gives (State.setXreg c rd (mulOf f (x r1) (x r2))) next) ∧
      (∀ rd imm, i = .lui rd imm → gives (State.setXreg c rd imm) next) ∧
      (∀ rd imm, i = .auipc rd imm → gives (State.setXreg c rd (c.pc + imm)) next) ∧
      (∀ rd off, i = .jal rd off → gives (State.setXreg c rd next) (c.pc + off)) ∧
      (∀ rd r1 off, i = .jalr rd r1 off → gives (State.setXreg c rd next) ((x r1 + off) &&& ~~~1)) ∧
      (∀ f r1 r2 off, i = .branch f r1 r2 off → gives c (if branchTaken f (x r1) (x r2) then c.pc + off else next)) ∧
      (i = .wfi → gives c next) ∧
      (i = .mret → gives { c with mie := c.mpie, mpie := true } c.mepc) ∧
      (i = .ecall → Completes run s (fun t => Trapped s t e 11 0)) ∧
      (i = .illegal → Completes run s (fun t => Trapped s t e 2 (Config.illegalTval e))))

/-- Local loads, stores and atomics (R258 to R263). The causes of a misaligned access are PRESUMED with RV32IMAC (log entry 24). -/
def Obligations.EnginesLoadStoreAndExchangeLocalWords : Prop :=
  ∀ (s : State) (e : Nat) (i : EngInstr) (len : Nat), e < 64 → NextIs s e i len →
    let c := s.core e
    let next := c.pc + BitVec.ofNat 32 len
    let traps : Instr → Nat → Nat → Prop := fun cmd cause addr => Completes cmd s (fun t => Trapped s t e cause addr ∧ StoresSame s t)
    (∀ f rd r1 off, i = .load f rd r1 off →
      let a := s.effAddr e r1 off
      let n := accessSize f
      State.windowOf a = none → s.wpAt e a n false = none →
        (a % n ≠ 0 → traps (.engineLoad e) 4 a) ∧
        (a % n = 0 → engMem a = none → inPages a = false → traps (.engineLoad e) 5 a) ∧
        (a % n = 0 → engMem a ≠ none → badRead (localLook s e a) = true → traps (.engineLoad e) 5 a) ∧
        (a % n = 0 → engMem a ≠ none → badRead (localLook s e a) = false → Completes (.engineLoad e) s (fun t => StoresSame s t ∧
          Retired s t e (State.setXreg c rd (State.loadPart f 0 (bits (localLook s e a).data (8 * (a % 8) + 8 * n - 1) (8 * (a % 8))))) next))) ∧
    (∀ f r1 r2 off, i = .store f r1 r2 off →
      let a := s.effAddr e r1 off
      let n := accessSize f
      let locked := a < 0x10000 ∧ s.get (Pg.eng e 0) Eng0.CTL_IMEM_WR = 0
      State.windowOf a = none → s.wpAt e a n true = none →
        (a % n ≠ 0 → traps (.engineStore e) 6 a) ∧
        (a % n = 0 → locked ∨ (engMem a = none ∧ inPages a = false) → traps (.engineStore e) 7 a) ∧
        (a % n = 0 → engMem a ≠ none → ¬locked →
          Completes (.engineStore e) s (fun t => Retired s t e c next ∧ LocalStored s t e a n (s.xr e r2).toNat))) ∧
    (∀ rd r1, i = .lr rd r1 →
      let a := (s.xr e r1).toNat
      s.wpAt e a 4 false = none →
        (a % 4 ≠ 0 → traps (.lrW e) 4 a) ∧ (a % 4 = 0 → inSpad a = false → traps (.lrW e) 5 a) ∧
        (a % 4 = 0 → inSpad a = true → badRead (localLook s e a) = true → traps (.lrW e) 5 a) ∧
        (a % 4 = 0 → inSpad a = true → badRead (localLook s e a) = false → Completes (.lrW e) s (fun t => StoresSame s t ∧
          Retired s t e { State.setXreg c rd (BitVec.ofNat 32 ((localLook s e a).data >>> (8 * (a % 8)))) with
            resv := some ((a - 0x10000000) / 8) } next))) ∧
    (∀ rd r1 r2, i = .sc rd r1 r2 →
      let a := (s.xr e r1).toNat
      s.wpAt e a 4 true = none →
        (a % 4 ≠ 0 → traps (.scW e) 6 a) ∧ (a % 4 = 0 → inSpad a = false → traps (.scW e) 7 a) ∧
        (a % 4 = 0 → inSpad a = true → c.resv ≠ some ((a - 0x10000000) / 8) → Completes (.scW e) s (fun t => StoresSame s t ∧
          Retired s t e { State.setXreg c rd 1 with resv := none } next)) ∧
        (a % 4 = 0 → inSpad a = true → c.resv = some ((a - 0x10000000) / 8) → Completes (.scW e) s (fun t => LocalStored s t e a 4 (s.xr e r2).toNat ∧
            Retired s t e { State.setXreg c rd 0 with resv := none } next))) ∧
    (∀ f rd r1 r2, i = .amo f rd r1 r2 →
      let a := (s.xr e r1).toNat
      let old : Word := BitVec.ofNat 32 ((localLook s e a).data >>> (8 * (a % 8)))
      let cmd := if f = 0 then Instr.amoaddW e else .amo e
      s.wpAt e a 4 true = none →
        (a % 4 ≠ 0 → traps cmd 6 a) ∧ (a % 4 = 0 → inSpad a = false → traps cmd 7 a) ∧
        (a % 4 = 0 → inSpad a = true → badRead (localLook s e a) = true → traps cmd 7 a) ∧
        (a % 4 = 0 → inSpad a = true → badRead (localLook s e a) = false → Completes cmd s (fun t =>
          LocalStored s t e a 4 (amoOf f old (s.xr e r2)).toNat ∧ Retired s t e (State.setXreg c rd old) next))) ∧
    (i = .fence → Completes (.fence e) s (fun t =>
      if (s.engine e).stores = [] ∧ (s.engine e).posted = [] then Retired s t e c next ∧ StoresSame s t else t = s)) ∧
    (i = .fenceI → Completes (.fenceI e) s (fun t => Retired s t e c next ∧ StoresSame s t ∧
      ∀ w < 8192, t.fetchWord e w = t.look (Pg.eng e 3) (w % 8) (w / 8)))

/-- The DSP extension (R267 to R270). -/
def Obligations.EnginesExecuteTheDspExtension : Prop :=
  ∀ (s : State) (e len a rd r1 r2 n : Nat) (op : DspInstr), e < 64 → a < 2 → NextIs s e (.dsp op a rd r1 r2 n) len →
    let c := s.core e
    let next := c.pc + BitVec.ofNat 32 len
    let x := c.acc a
    let g := (c.wordCsr (0x7C0 + a)).toNat
    let u := s.xr e r1
    let v := s.xr e r2
    let frac : Word → Int := fun y => ((y.sshiftRight 5).setWidth 27).toInt
    let sum : Int → Acc := fun z => x.put (bit g 13) (x.value + z)
    let set : Acc → EngCore := fun y => c.setAcc a y
    let gives : Instr → EngCore → Prop := fun cmd d => Completes cmd s (fun t => Retired s t e d next ∧ StoresSame s t)
    let p := (c.wordCsr (0x7C4 + n)).toNat
    let ptr : EngCore → EngCore := fun d => d.setWordCsr (0x7C4 + n) (s.agNext e n).1
    let y := x.move (bits g 7 6) (bits g 5 0) (bits g 12 8)
    let word : Word := BitVec.ofNat 32 ((localLook s e p).data >>> (8 * (p % 8)))
    (op = .dmul → gives (.dmul e) (set (Acc.load (2 * (frac u * frac v))))) ∧
    (op = .dmac → gives (.dmac e) (set (sum (2 * (frac u * frac v))))) ∧
    (op = .dmsu → gives (.dmsu e) (set (sum (-(2 * (frac u * frac v)))))) ∧
    (op = .dmuli → gives (.dmuli e) (set (Acc.load (u.toInt * v.toInt)))) ∧
    (op = .dmaci → gives (.dmaci e) (set (sum (u.toInt * v.toInt)))) ∧
    (op = .dmsui → gives (.dmsui e) (set (sum (-(u.toInt * v.toInt))))) ∧
    (op = .dclr → gives (.dclr e) (set {})) ∧
    (op = .dnorm → gives (.dnorm e) (set x.norm)) ∧
    (op = .dadda → gives (.dadda e) (set (sum (c.acc (1 - a)).value))) ∧
    (op = .dwracc → gives (.dwracc e) (set { x with acc := v ++ u, ov := false })) ∧
    (op = .dmov → gives (.dmov e) (State.setXreg (if a = 0 then { c with expc0 := y.expc, lim0 := y.lim }
      else { c with expc1 := y.expc, lim1 := y.lim }) rd (y.y.setWidth 32))) ∧
    (op = .dexpc → gives (.dexpc e) (State.setXreg c rd (BitVec.ofNat 32 (redundant x.acc.toNat)))) ∧
    (op = .drdlo → gives (.drdlo e) (State.setXreg c rd (x.acc.setWidth 32))) ∧
    (op = .drdhi → gives (.drdhi e) (State.setXreg c rd ((x.acc >>> 32).setWidth 32))) ∧
    (s.wpAt e p 4 false = none → ∀ cmd d, (cmd, op, d) ∈ [(Instr.dldp e, DspInstr.dldp, State.setXreg c rd word),
        (.dmull e, .dmull, set (Acc.load (2 * (frac u * frac word)))), (.dmacl e, .dmacl, set (sum (2 * (frac u * frac word)))),
        (.dmsul e, .dmsul, set (sum (-(2 * (frac u * frac word)))))] →
      (inSpad p = false → Completes cmd s (fun t => Trapped s t e 5 p)) ∧
      (inSpad p = true → p % 4 ≠ 0 → Completes cmd s (fun t => Trapped s t e 4 p)) ∧
      (inSpad p = true → p % 4 = 0 → badRead (localLook s e p) = true → Completes cmd s (fun t => Trapped s t e 5 p)) ∧
      (inSpad p = true → p % 4 = 0 → badRead (localLook s e p) = false → gives cmd (ptr d))) ∧
    (s.wpAt e p 4 true = none → op = .dstp →
      (inSpad p = false → Completes (.dstp e) s (fun t => Trapped s t e 7 p)) ∧
      (inSpad p = true → p % 4 ≠ 0 → Completes (.dstp e) s (fun t => Trapped s t e 6 p)) ∧
      (inSpad p = true → p % 4 = 0 →
        Completes (.dstp e) s (fun t => LocalStored s t e p 4 u.toNat ∧ Retired s t e (ptr c) next)))

/-- CSRs, interrupts, timers and the watchdog (R257, R271 to R276). -/
def Obligations.EnginesTakeInterruptsAndKeepTime : Prop :=
  ∀ (s : State) (o : Origin) (e : Nat), e < 64 →
    let c := s.core e
    let p0 := Pg.eng e 0
    let p1 := Pg.eng e 1
    let w := s.engine e
    (∀ f rd src num len, NextIs s e (.csr f rd src num) len →
      let next := c.pc + BitVec.ofNat 32 len
      let writes : Prop := f % 4 = 1 ∨ src ≠ 0
      let operand : Word := if 4 ≤ f then BitVec.ofNat 32 src else s.xr e src
      let new : Word → Word := fun old => if f % 4 = 1 then operand else if f % 4 = 2 then old ||| operand else old &&& ~~~operand
      let u := if f < 4 then (s.fetchDetect e).rfRead e src else s.fetchDetect e
      (num ≠ 0x7E0 → num ≠ 0x7E1 →
        (u.csrGet e num = none ∨ (writes ∧ bits num 11 10 = 3) → Completes (.csrAccess e) s (fun t =>
          Trapped s t e 2 (Config.illegalTval e))) ∧
        (∀ old, u.csrGet e num = some old → ¬(writes ∧ bits num 11 10 = 3) → Completes (.csrAccess e) s (fun t =>
          (t.core e).pc = next ∧ (t.core e).regs = (State.setXreg c rd old).regs ∧ (¬writes → Retired s t e (State.setXreg c rd old) next) ∧
          (writes → num = 0x340 → Retired s t e { State.setXreg c rd old with mscratch := new old } next)))) ∧
      (∀ l k, num = 0x7E0 → rd ≠ 0 → src = 0 → f = 2 → u.bestSource e = some (l, k) →
        Completes (.iclaim e) s (fun t => Retired s t e { State.setXreg c rd (BitVec.ofNat 32 (2 ^ 31 + l * 256 + k)) with
          level := some l, stack := (c.level :: c.stack).take 4 } next)) ∧
      (∀ l ls, num = 0x7E1 → f = 1 → rd = 0 → c.stack = l :: ls → Completes (.icomplete e) s (fun t =>
        Retired s t e { c with level := l, stack := ls } next))) ∧
    (∀ len, NextIs s e .ebreak len → Completes (.ebreak e) s (fun t => if s.flag p0 Eng0.CTL_EBREAK_HALT then
      t.engState e = 3 ∧ (t.engine e).haltCause = 2 ∧ Retired s t e c (c.pc + BitVec.ofNat 32 len)
      else Trapped s t e 3 (Config.ebreakTval e))) ∧
    (w.stepping = false → Completes (.interruptTake e) s (fun t =>
      if s.takesIrq e then Trapped s t e 0x8000000B 0 ∧ StoresSame s t else t = s)) ∧
    (∀ v : Word, Accepts s o p1 0x184 v = true → Completes (.doorbellSet o e v) s (fun t => ∀ k < 8,
      bit (t.get p1 Eng1.ICTL_DOORBELL_BELL) k = (bit (s.get p1 Eng1.ICTL_DOORBELL_BELL) k || bit v.toNat (16 + k)))) ∧
    (∀ n < 2, Completes (.timerHit e n) s (fun t =>
      if s.flag p1 Eng1.TMR_CTL_EN n = true ∧ s.frozen e n = false ∧ s.hasUnits e = true then
        t.get p1 Eng1.TMR_STAT_HIT n = 1 ∧ t.get p1 Eng1.TMR_COUNT_COUNT n = s.get p1 Eng1.TMR_COMPARE_COMPARE n % 2 ^ 32 ∧
        t.get p1 Eng1.TMR_CTL_EN n = (if s.flag p1 Eng1.TMR_CTL_PERIODIC n then s.get p1 Eng1.TMR_CTL_EN n else 0) ∧ t.engine e = w
      else t = s)) ∧
    (let live := s.flag p1 Eng1.WDT_CTL_EN = true ∧ s.frozen e 2 = false ∧ s.hasUnits e = true
     let warns := s.flag p1 Eng1.WDT_CTL_WARN_EN = true ∧ w.wdtWarned = false
     let loaded := fun t : State => t.get p1 Eng1.WDT_COUNT_COUNT = s.get p1 Eng1.WDT_LOAD_LOAD % 2 ^ 32
     Completes (.wdtExpiry e) s (fun t => (¬live → t = s) ∧
       (live → t.get p1 Eng1.WDT_STAT_EXPIRIES = satAdd 8 (s.get p1 Eng1.WDT_STAT_EXPIRIES) 1) ∧
       (live → warns → (t.engine e).wdtWarned = true ∧ loaded t) ∧
       (live → ¬warns → s.engStopped e = true → t.get p1 Eng1.WDT_STAT_PENDING = 1 ∧ t.engine e = w) ∧
       (live → ¬warns → s.engStopped e = false → loaded t ∧ Raised t p0 Eng0.INT_WDT_ACTION ∧
         (if s.flag p1 Eng1.WDT_CTL_ACTION then t.core e = c ∧ (s.engState e = 2 → t.engState e = 3 ∧ (t.engine e).haltCause = 4)
          else (s.engState e ≠ 0 → t.engState e = 2) ∧ t.core e = { pc := BitVec.ofNat 32 (2 * s.get p0 Eng0.ENG_BOOT_PC_PC) }))) ∧
     (∀ v : Word, Accepts s o p1 0x30C v = true → Completes (.wdtKick o e v) s (fun t =>
       (v = 0x574B0001 → (t.engine e).wdtWarned = false ∧ loaded t ∧ t.core e = c) ∧
       (v ≠ 0x574B0001 → t.get p1 Eng1.WDT_STAT_EXPIRIES = satAdd 8 (s.get p1 Eng1.WDT_STAT_EXPIRIES) 1 ∧
         (warns → (t.engine e).wdtWarned = true ∧ loaded t)))))

/-- Windows, DMA and virtual terminal (R265, R266, R276 to R281). -/
def Obligations.EnginesReachOutThroughWindowsDmaAndTerminal : Prop :=
  ∀ (s : State) (o : Origin) (e : Nat), e < 64 →
    let c := s.core e
    let w := s.engine e
    let p0 := Pg.eng e 0
    let p2 := Pg.eng e 2
    let p3 := Pg.eng e 3
    let ep := engEndpoint e
    let q := s.skEnd ep
    let dest := fun k => s.get p0 Eng0.ENG_WIN_CTL_DEST k
    let prio := fun k => s.get p0 Eng0.ENG_WIN_CTL_PRIO k
    let waits : Nat → Bool := fun k => w.stores.any (fun x => x.2 = k) || w.posted.any (fun x => x.win = k)
    (∀ f rd r1 off len k, NextIs s e (.load f rd r1 off) len →
      let a := s.effAddr e r1 off
      State.windowOf a = some k → a % accessSize f = 0 → s.wpAt e a (accessSize f) false = none →
      (s.flag p0 Eng0.ENG_WIN_CTL_EN k = false → Completes (.remoteLoad e) s (fun t => Trapped s t e 5 a)) ∧
      (∀ tag, s.flag p0 Eng0.ENG_WIN_CTL_EN k = true → waits k = false → s.freeTag ep = some tag → s.mayIssue ep = true →
        Completes (.remoteLoad e) s (fun t => t.core e = c ∧
          (t.engine e).load = some { rd := rd, funct3 := f, win := k, tag := tag, addr := BitVec.ofNat 32 a, len := len } ∧
          (t.skEnd ep).txQ = q.txQ ++ [rdFlit (dest k) ep (prio k) tag (s.windowOffset e k (a / 4 * 4)) 4] ∧
          (t.skEnd ep).outstanding.length = q.outstanding.length + 1)) ∧
      (waits k = true ∨ s.mayIssue ep = false → s.flag p0 Eng0.ENG_WIN_CTL_EN k = true → Completes (.remoteLoad e) s (fun t => t = s))) ∧
    (∀ f r1 r2 off len k, NextIs s e (.store f r1 r2 off) len →
      let a := s.effAddr e r1 off
      State.windowOf a = some k → a % accessSize f = 0 → s.wpAt e a (accessSize f) true = none →
      (s.flag p0 Eng0.ENG_WIN_CTL_EN k = false → Completes (.remoteStore e) s (fun t => Trapped s t e 7 a)) ∧
      (∀ tag, s.flag p0 Eng0.ENG_WIN_CTL_EN k = true → w.stores.length + w.posted.length < 8 → waits k = false → s.freeTag ep = some tag →
        s.mayIssue ep = true → Completes (.remoteStore e) s (fun t => Retired s t e c (c.pc + BitVec.ofNat 32 len) ∧ (t.engine e).stores = w.stores ++ [(tag, k)] ∧
          (t.skEnd ep).txQ = q.txQ ++ [wrsFlit (dest k) ep (prio k) tag (s.windowOffset e k a) (leBytes (accessSize f) (s.xr e r2).toNat)])) ∧
      (s.flag p0 Eng0.ENG_WIN_CTL_EN k = true → w.stores.length + w.posted.length < 8 → waits k = true →
        Completes (.remoteStore e) s (fun t => Retired s t e c (c.pc + BitVec.ofNat 32 len) ∧ (t.skEnd ep).txQ = q.txQ ∧
          (t.engine e).posted = w.posted ++ [PostedStore.mk k (prio k) (dest k) (s.windowOffset e k a)
            (leBytes (accessSize f) (s.xr e r2).toNat)])) ∧
      (s.flag p0 Eng0.ENG_WIN_CTL_EN k = true → 8 ≤ w.stores.length + w.posted.length → Completes (.remoteStore e) s (fun t => t = s))) ∧
    (∀ f r, s.clock.stopped = false → w.stepping = false → q.respQ.head? = some (true, f) →
      q.outstanding.find? (fun r => r.tag = hdrTag f) = some r →
      let code := if hdrClass f = 8 then 0 else f.data.toNat % 8
      (∀ l, r.use = .load → w.load = some l → l.tag = r.tag → Completes (.remoteResponse e) s (fun t => (t.engine e).load = none ∧
        (t.skEnd ep).respQ = q.respQ.drop 1 ∧
        (code = 0 → Retired s t e (State.setXreg c l.rd (State.loadPart l.funct3 l.addr.toNat (f.data.toNat % 2 ^ 32)))
          (c.pc + BitVec.ofNat 32 l.len)) ∧
        (code ≠ 0 → Trapped s t e 5 l.addr.toNat ∧ t.flag p0 Eng0.ENG_WIN_ERR_VALID = true))) ∧
      (∀ k, r.use = .store k → (r.tag, k) ∈ w.stores → Completes (.remoteResponse e) s (fun t => t.core e = c ∧
        (w.posted = [] → (t.engine e).stores = w.stores.filter (· ≠ (r.tag, k))) ∧
        (∀ x, w.posted = [x] → x.win = k → s.mayIssue ep = true → (w.stores.filter (· ≠ (r.tag, k))).all (fun y => y.2 ≠ k) = true →
          (t.engine e).posted = [] ∧ ∃ tag, (t.engine e).stores = w.stores.filter (· ≠ (r.tag, k)) ++ [(tag, k)] ∧
            (t.skEnd ep).txQ = q.txQ ++ [wrsFlit x.dst ep x.prio tag x.offset x.bytes]) ∧
        (code = 0 → (t.engine e).storeErr = w.storeErr) ∧
        (code ≠ 0 → (t.engine e).storeErr = true ∧ t.flag p0 Eng0.ENG_WIN_ERR_VALID = true)))) ∧
    (s.clock.stopped = false → s.dmaMayStart e = true → w.dma = [] →
      let i := s.get p2 Eng2.DMA_TAIL_TAIL
      let ring := (s.portBRead e (s.dmaAt e i) 32).1
      ∀ bs, ring = some bs → bs.length = 32 → Completes (.dmaDescriptorStart e) s (fun t =>
        t.get p2 Eng2.DMA_TAIL_TAIL = (i + 1) % s.dmaEntries e % 1024 ∧ t.get p2 Eng2.DMA_STATUS_ACTIVE = 1 ∧
        ∃ d, (t.engine e).dma = [d] ∧ d.index = i ∧ d.irq = bit (leNat (bs.take 4)) 2 ∧
          (State.dmaDecode i bs = none → d.done = true ∧ d.resp = 3 ∧ d.moved = 0) ∧
          (∀ x, State.dmaDecode i bs = some x → x.len = 0 → d = { x with done := true }) ∧
          (∀ x tag, State.dmaDecode i bs = some x → x.len ≠ 0 → x.srcLocal = false → s.freeTag ep = some tag → s.mayIssue ep = true →
            d = { x with tag := some tag } ∧
            (t.skEnd ep).txQ = q.txQ ++ [rdFlit x.srcEp ep x.prio tag (x.src % 2 ^ 48) (State.dmaChunk x)]))) ∧
    (s.clock.stopped = true ∨ (s.dmaMayStart e = false ∧ w.dma = []) → Completes (.dmaDescriptorStart e) s (fun t => t = s)) ∧
    (∀ d rest, s.clock.stopped = false → w.dma = d :: rest →
      (d.done = false ∨ s.engState e = 4 → Completes (.dmaDescriptorDone e) s (fun t => t = s)) ∧
      (d.done = true → s.engState e ≠ 4 → Completes (.dmaDescriptorDone e) s (fun t =>
        (t.engine e).dma = rest ∧ t.get p2 Eng2.DMA_DONE_DONE = (d.index + 1) % s.dmaEntries e % 1024 ∧
        (t.engine e).dmaIrq = (w.dmaIrq || d.irq) ∧
        (rest = [] → d.resp ≠ 0 → t.get p2 Eng2.DMA_STATUS_STOPPED = 1) ∧
        LocalStored s t e (s.dmaAt e d.index + 24) 4 (State.dmaStatusWord d)))) ∧
    (∀ v : Word, Accepts s o p2 0x108 v = true → Completes (.dmaHeadWrite o e v) s (fun t =>
      t.get p2 Eng2.DMA_HEAD_HEAD = v.toNat % 1024 ∧ t.engine e = w)) ∧
    (∀ v : Word, Accepts s o p2 0x010 v = true → bit v.toNat 1 = true → Completes (.dmaResume o e v) s (fun t =>
      t.get p2 Eng2.DMA_STATUS_STOPPED = 0 ∧ t.get p2 Eng2.DMA_CTL_EN = v.toNat % 2 ∧ t.engine e = w)) ∧
    (∀ r1 r2 off len, NextIs s e (.store 2 r1 r2 off) len → s.effAddr e r1 off = vtTxAddr → s.wpAt e vtTxAddr 4 true = none →
      s.isChecker e = false →
      let b : Byte := (s.xr e r2).setWidth 8
      Completes (.vtTx e b) s (fun t =>
        (w.vtOut.length < 16 → (t.engine e).vtOut = w.vtOut ++ [b] ∧ Retired s t e c (c.pc + BitVec.ofNat 32 len)) ∧
        (16 ≤ w.vtOut.length → s.flag p3 Eng3.VT_CTL_BLOCK = true → t = s) ∧
        (16 ≤ w.vtOut.length → s.flag p3 Eng3.VT_CTL_BLOCK = false → (t.engine e).vtOut = w.vtOut ∧
          t.get p3 Eng3.VT_DROPS_COUNT = satAdd Eng3.VT_DROPS_COUNT.width (s.get p3 Eng3.VT_DROPS_COUNT) 1))) ∧
    (∀ rd r1 off len, NextIs s e (.load 2 rd r1 off) len → s.effAddr e r1 off = vtRxAddr → s.wpAt e vtRxAddr 4 false = none →
      s.isChecker e = false → Completes (.vtRx e) s (fun t => (t.engine e).vtIn = w.vtIn.drop 1 ∧
        Retired s t e (State.setXreg c rd (match w.vtIn with | [] => 0 | b :: _ => BitVec.ofNat 32 (256 + b.toNat))) (c.pc + BitVec.ofNat 32 len))) ∧
    (∀ v : Word, Accepts s o p3 0x108 v = true → Completes (.vtOutAck o e v) s (fun t => 
      (t.engine e).vtOut = (if v.toNat % 8 ≤ 4 then w.vtOut.drop (v.toNat % 8) else []))) ∧
    (∀ v : Word, Accepts s o p3 0x10C v = true → Completes (.vtInData o e v) s (fun t =>
      (t.engine e).vtIn = if w.vtIn.length < 16 then w.vtIn ++ [v.setWidth 8] else w.vtIn))

/-- Run states (R282 to R289, R264). -/
def Obligations.EngineRunStatesFollowTheirCauses : Prop :=
  ∀ (s : State) (o : Origin) (e : Nat), e < 64 →
    let c := s.core e
    let w := s.engine e
    let p0 := Pg.eng e 0
    let partnerPage := Pg.eng (State.partner e) 0
    let st := s.engState e
    let boot : EngCore := { pc := BitVec.ofNat 32 (2 * s.get p0 Eng0.ENG_BOOT_PC_PC) }
    (∀ v : Word, Accepts s o p0 0x010 v = true → bit v.toNat 8 = s.flag p0 Eng0.CTL_LOCKSTEP → bit v.toNat 9 = false →
      (bits v.toNat 2 0 = 2 → st = 2 → Completes (.engHalt o e v) s (fun t => t.engState e = 3 ∧ (t.engine e).haltCause = 1 ∧ t.core e = c)) ∧
      (bits v.toNat 2 0 = 1 → st = 1 → w.subst = none → s.get (Pg.eng e 1) Eng1.WDT_STAT_PENDING = 0 → Completes (.engRun o e v) s (fun t =>
        t.engState e = 2 ∧ t.get p0 Eng0.ENG_CAUSE_CAUSE = 0 ∧ t.core e = c)) ∧
      (bits v.toNat 2 0 = 4 → st ≠ 0 → Completes (.engReset o e v) s (fun t => t.core e = boot ∧
        (t.engine e).dma = [] ∧ (t.engine e).vtOut = [] ∧ (t.engine e).vtIn = [] ∧ StoresSame s t ∧
        t.engState e = (if t.flag p0 Eng0.CTL_AUTORUN then 2 else 1)))) ∧
    Completes (.haltDone e) s (fun t =>
      if st = 3 ∧ w.load = none then t.engState e = 1 ∧ t.get p0 Eng0.ENG_PC_PC = c.pc.toNat ∧
        t.get p0 Eng0.ENG_CAUSE_CAUSE = w.haltCause % 2 ^ Eng0.ENG_CAUSE_CAUSE.width ∧ Raised t p0 Eng0.INT_HALTED ∧
        t.core e = { c with resv := none } ∧
        (w.haltCause = 5 → ∀ k, s.checkerOf e = some k → s.engState k = 5 → t.engState k = 1)
      else t = s) ∧
    (∀ v : Word, e % 2 = 0 → Accepts s o p0 0x010 v = true → bits v.toNat 2 0 = 0 → bit v.toNat 9 = false → bit v.toNat 8 = false →
      s.get p0 Eng0.CTL_LOCKSTEP = 1 → s.get p0 Eng0.STATUS_PAIRED = 1 → Completes (.lockstep o e v) s (fun t =>
        t.engState (e + 1) = 1 ∧ t.core (e + 1) = c ∧ t.core e = c ∧ t.get p0 Eng0.STATUS_PAIRED = 0 ∧
        t.get partnerPage Eng0.STATUS_PAIRED = 0 ∧ t.get p0 Eng0.CTL_LOCKSTEP = 0)) ∧
    Completes (.lockstepCopyDone e) s (fun t =>
      if e % 2 = 0 ∧ s.flag p0 Eng0.CTL_LOCKSTEP = true ∧ st = 1 ∧ s.engState (e + 1) = 1 ∧ s.flag p0 Eng0.STATUS_PAIRED = false then
        t.engState (e + 1) = 5 ∧ t.core (e + 1) = c ∧ t.core e = c ∧ t.get p0 Eng0.STATUS_PAIRED = 1 ∧ t.get partnerPage Eng0.STATUS_PAIRED = 1
      else t = s) ∧
    (∀ again bad0 bad1, Completes (.lockstepMismatch e again bad0 bad1) s (fun t =>
      if s.checkerOf e = none then t = s
      else Raised t p0 Eng0.INT_LOCKSTEP ∧ t.core e = c ∧ (again = false → t.engState e = st) ∧
        (again = true → st = 2 ∨ st = 3 → (bad0 = true → bad1 = false → s.spareServes e = false) →
          t.engState e = 3 ∧ (t.engine e).haltCause = 5) ∧
        (again = true → ∀ m, bad0 ≠ bad1 → m = (if bad0 then e else e + 1) → s.spareServes e = false → s.engState m ≠ 6 →
          (s.engine m).subst = none → (t.engine m).subst = some (Subst.mk (if bad0 then 2 else 5) true .skein (State.partner m) true)) ∧
        (again = true → bad0 = bad1 → t.get Pg.safety Safety.SAF_FATAL_SPINDLE = 1))) ∧
    Completes (.subst e none) s (fun t =>
      if st = 6 then t = s
      else if s.spareServes e then Captures s t p0 0x9 .config 0x010
      else if w.subst.isSome then t = s
      else (t.engine e).subst = some (Subst.mk (if st = 3 then 1 else st) false .config (if s.isChecker e then State.partner e else e) false) ∧ t.core e = c ∧
        (st = 2 → t.engState e = 3 ∧ (t.engine e).haltCause = 7) ∧ (st ≠ 2 → t.engState e = st)) ∧
    (∀ v : Word, Accepts s o p0 0x010 v = true → bits v.toNat 2 0 = 0 → bit v.toNat 9 = true → bit v.toNat 8 = s.flag p0 Eng0.CTL_LOCKSTEP →
      st ≠ 6 → s.spareServes e = false → w.subst = none → Completes (.subst e (some (o, v))) s (fun t =>
        (t.engine e).subst = some (Subst.mk (if st = 3 then 1 else st) false o (if s.isChecker e then State.partner e else e) false) ∧
        t.core e = c ∧ (st = 2 → t.engState e = 3 ∧ (t.engine e).haltCause = 7) ∧ (st ≠ 2 → t.engState e = st))) ∧
    (∀ x, w.subst = some x →
      let returns : State → Prop := fun t => x.pair = false → x.back < 8 → (x.back = 2 → s.get (Pg.eng e 1) Eng1.WDT_STAT_PENDING = 0) →
        t.engState e = x.back ∧ (t.engine e).subst = none ∧ t.core e = c
      let rests := s.substRests e x = true
      (¬rests → ∀ late, Completes (.substCopyStart e late) s (fun t => t = s)) ∧
      (rests → s.spareServes e = true → ∀ late, Completes (.substCopyStart e late) s (fun t =>
        if x.lasting then t.engState e = 6 ∧ t.get Pg.safety Safety.SAF_FATAL_SPINDLE = 1
        else returns t ∧ t.get p0 Hdr.ERR_COUNT_COUNT = min (s.get p0 Hdr.ERR_COUNT_COUNT + 1) 0xFFFF)) ∧
      (rests → s.spareServes e = false → Completes (.substCopyStart e true) s returns ∧
        ((∃ g ∈ State.dieEngines e, s.engState g = 4) → Completes (.substCopyStart e false) s (fun t => t = s)) ∧
        ((∀ g ∈ State.dieEngines e, s.engState g ≠ 4) → w.load = none → w.stores = [] → w.dma.all (fun d => d.tag = none) = true →
          Completes (.substCopyStart e false) s (fun t => t.engState e = 4 ∧ t.engine e = w))) ∧
      (st = 4 → Completes (.substCopyDone e) s (fun t => returns t ∧ t.get p0 Eng0.STATUS_PHYS = 16 ∧ Raised t p0 Eng0.INT_SUBST_DONE)) ∧
      (st ≠ 4 → Completes (.substCopyDone e) s (fun t => t = s))) ∧
    (w.subst = none → (∀ late, Completes (.substCopyStart e late) s (fun t => t = s)) ∧ Completes (.substCopyDone e) s (fun t => t = s)) ∧
    (∀ r < 36, st ≠ 0 → st ≠ 6 →
      Completes (.rfError e r true true) s (fun t => Raised t p0 Eng0.INT_RF_CORRECTED ∧ (∀ y ∈ (t.engine e).rfFlipped, y.1 ≠ r) ∧
        t.core e = c ∧
        t.get p0 Eng0.ENG_RF_ERR_TRANSIENT = satAdd Eng0.ENG_RF_ERR_TRANSIENT.width (s.get p0 Eng0.ENG_RF_ERR_TRANSIENT) 1) ∧
      (s.spareServes e = false → w.subst = none → Completes (.rfError e r true false) s (fun t =>
        (t.engine e).subst = some (Subst.mk (if st = 3 then 1 else st) true .skein (if s.isChecker e then State.partner e else e) false) ∧ t.core e = c ∧
        t.get p0 Eng0.ENG_RF_ERR_LASTING = satAdd Eng0.ENG_RF_ERR_LASTING.width (s.get p0 Eng0.ENG_RF_ERR_LASTING) 1)) ∧
      (s.spareServes e = true → Completes (.rfError e r true false) s (fun t => t.engState e = 6 ∧ Raised t p0 Eng0.INT_LOST ∧
        t.get Pg.safety Safety.SAF_FATAL_SPINDLE = 1)) ∧
      Completes (.rfError e r false true) s (fun t => t.core e = c ∧ t.engState e = st ∧
        t.get p0 Eng0.ENG_RF_ERR_TRANSIENT = satAdd Eng0.ENG_RF_ERR_TRANSIENT.width (s.get p0 Eng0.ENG_RF_ERR_TRANSIENT) 1) ∧
      Completes (.rfError e r false false) s (fun t => Raised t p0 Eng0.INT_FATAL ∧ t.get Pg.safety Safety.SAF_FATAL_SPINDLE = 1 ∧
        (st = 2 → t.engState e = 3 ∧ (t.engine e).haltCause = 6)))

/-- Run control (R499, R510 to R515). -/
def Obligations.RunControlHaltsStepsAndTriggers : Prop :=
  ∀ (s : State) (o : Origin) (e : Nat), e < 64 →
    let c := s.core e
    let w := s.engine e
    let p0 := Pg.eng e 0
    let st := s.engState e
    let why : State → Nat := fun t => t.get p0 Eng0.ENG_DBG_STAT_WHY
    (∀ v : Word, Accepts s o p0 0x400 v = true →
      (bits v.toNat 2 0 = 1 → Completes (.dbgHalt o e v) s (fun t => t.engState e = 3 ∧ (t.engine e).haltCause = 3 ∧ why t = 1 ∧ t.core e = c)) ∧
      (bits v.toNat 2 0 = 2 → w.subst = none → s.get (Pg.eng e 1) Eng1.WDT_STAT_PENDING = 0 → Completes (.dbgRun o e v) s (fun t =>
        t.engState e = 2 ∧ why t = 0 ∧ t.core e = c ∧ t.bpAt e = none)) ∧
      (∀ f alt rd r1 imm len, bits v.toNat 2 0 = 4 → w.subst = none → w.load = none → c.mie = false → s.commitDiffers e = false →
        s.get (Pg.eng e 1) Eng1.WDT_STAT_PENDING = 0 → s.clock.stopped = false → s.fetched e = .ok (.aluImm f alt rd r1 imm, len) →
        Completes (.step o e v) s (fun t => t.engState e = 1 ∧ why t = 2 ∧
          Retired s t e { State.setXreg c rd (aluOf f alt (s.xr e r1) imm) with resv := none } (c.pc + BitVec.ofNat 32 len) ∧
          t.get p0 Eng0.ENG_PC_PC = (c.pc + BitVec.ofNat 32 len).toNat ∧ t.get p0 Eng0.ENG_CAUSE_CAUSE = 3 ∧ (t.engine e).stepping = false))) ∧
    Completes (.breakpoint e) s (fun t =>
      if s.mayRun e = true ∧ s.bpAt e ≠ none then t.engState e = 3 ∧ (t.engine e).haltCause = 3 ∧ why t = 3 ∧ t.core e = c else t = s) ∧
    (∀ f rd r1 off len k, NextIs s e (.load f rd r1 off) len →
      let a := s.effAddr e r1 off
      let n := accessSize f
      State.windowOf a = none → a % n = 0 → engMem a ≠ none → badRead (localLook s e a) = false → s.wpAt e a n false = some k →
      Completes (.watchpoint e) s (fun t => t.engState e = 3 ∧ (t.engine e).haltCause = 3 ∧ why t = 4 ∧
        Retired s t e (State.setXreg c rd (State.loadPart f 0 (bits (localLook s e a).data (8 * (a % 8) + 8 * n - 1) (8 * (a % 8)))))
          (c.pc + BitVec.ofNat 32 len))) ∧
    (∀ i len, NextIs s e i len → s.isWatched e i = false → Completes (.watchpoint e) s (fun t => t = s)) ∧
    Completes (.crossTrigger e) s (fun t =>
      if e ∈ s.dbg.line then t.dbg.line = s.dbg.line.filter (· ≠ e) ∧
        ∀ g < 64, s.engState g ≠ 4 →
          (g ≠ e → bit (s.get Pg.monitor Monitor.DBG_XTRIG_MASK (g / 32)) (g % 32) = true → s.engState g = 2 →
            t.engState g = 3 ∧ (t.engine g).haltCause = 3) ∧
          (g = e ∨ bit (s.get Pg.monitor Monitor.DBG_XTRIG_MASK (g / 32)) (g % 32) = false ∨ s.engState g ≠ 2 →
            t.engState g = s.engState g ∧ t.engine g = s.engine g)
      else t = s) ∧
    (st = 1 → s.get p0 Eng0.ENG_DBG_REGSEL_CSR = 0 →
      let num := s.get p0 Eng0.ENG_DBG_REGSEL_NUM
      num < 32 →
      (∀ v : Word, Accepts s o p0 0x444 v = true → Completes (.engDbgRegdata o e (some v)) s (fun t =>
        t.core e = State.setXreg c num v)) ∧
      (Reaches s o p0 = true → Completes (.engDbgRegdata o e none) s (fun t => t.hub.readData = [State.xreg (s.core (s.shownEngine e)) num] ∧ t.core e = c)))

/-- Routers (R297 to R307). The order in which outputs are tried is the model's reading (log entry 25). -/
def Obligations.RoutersDiscardAnswerEjectAndRoute : Prop :=
  ∀ (s : State) (d x y : Nat), isRouter d x y = true →
    let page := routerPage d x y
    let inLink := fun o => linkKey d (neighbor d x y o).1 (neighbor d x y o).2 (opposite d o)
    let outLink := fun o => linkKey d x y o
    let counted := fun (t : State) (f : RegField) => t.get page f = satAdd f.width (s.get page f) 1
    let outSame : State → Prop := fun t => ∀ o ∈ outputs d, t.skLink (outLink o) = s.skLink (outLink o)
    (s.clock.stopped = true → (∀ bad, Completes (.routerHop d x y bad) s (fun t => t = s)) ∧
      Completes (.packetInject d x y) s (fun t => t = s) ∧ Completes (.saturationTokenGrant d) s (fun t => t = s)) ∧
    (s.clock.stopped = false →
      (∀ bad o p rest, s.bypass d x y = false → o ∈ outputs d → s.skLink (inLink o) = p :: rest →
        (∀ q ∈ outputs d, q ≠ o → s.skLink (inLink q) = []) →
        let f := p.flit
        let good := f.good && !(bad.elem o)
        let e := hdrDst f
        let here := epDie e = d ∧ epX e = x ∧ epY e = y
        Completes (.routerHop d x y bad) s (fun t =>
          (good = false → t.skLink (inLink o) = rest ∧ counted t Router.SKR_DISCARD_HDR ∧ Raised t page Router.INT_DISCARD ∧
            outSame t ∧ t.skein.ends = s.skein.ends) ∧
          (good = true → s.noRoute d x y f = true → isResponse f = true → t.skLink (inLink o) = rest ∧ counted t Router.SKR_DISCARD_RSP ∧
            outSame t ∧ t.skein.ends = s.skein.ends) ∧
          (good = true → s.noRoute d x y f = true → isResponse f = false → counted t Router.SKR_NAK_CNT_NOROUTE ∧
            Raised t page Router.INT_NOROUTE) ∧
          (good = true → s.noRoute d x y f = false → s.asleepHere d x y f = true → isResponse f = false →
            s.flag page Router.SKR_PORT_WAKE_ON_PKT (epPort e) = false → counted t Router.SKR_NAK_CNT_ASLEEP ∧ Raised t page Router.INT_ASLEEP) ∧
          (good = true → s.noRoute d x y f = false → s.asleepHere d x y f = false → here → gatewayAt d x y (epPort e) = none →
            s.canTake d x y (epPort e) p = true → t.skLink (inLink o) = rest ∧ outSame t ∧
              (let q := s.skEnd e
               (isResponse f = false → t.skEnd e =
                 if hdrPrio f = 3 then { q with urgQ := q.urgQ ++ [f] } else { q with reqQ := q.reqQ ++ [f] }) ∧
               (isResponse f = true → epType e = 1 →
                 (s.liveReq e (hdrTag f) = none → t.skEnd e = q) ∧
                 (s.liveReq e (hdrTag f) ≠ none → (t.skEnd e).respQ = q.respQ ++ [(true, f)] ∧
                   ∀ r ∈ (t.skEnd e).outstanding, r.tag ≠ hdrTag f)) ∧
               (isResponse f = true → epType e ≠ 1 → (t.skEnd e).respQ = q.respQ ++ [((s.liveReq e (hdrTag f)).isSome, f)] ∧
                 t.liveReq e (hdrTag f) = none))) ∧
          (∀ n more, good = true → s.noRoute d x y f = false → s.asleepHere d x y f = false → epDie e = d → ¬here → hdrAge f < 254 →
            State.towards d x y (epX e) (epY e) = n :: more → t.skLink (inLink o) = rest ∧
              t.skLink (outLink n) = s.skLink (outLink n) ++ [{ p with flit := f.aged (hdrAge f + 1) }] ∧ t.skein.ends = s.skein.ends))) ∧
      (s.bypass d x y = true ∨ s.nextInject d x y = none → Completes (.packetInject d x y) s (fun t => t = s)) ∧
      (∀ p f, s.bypass d x y = false → s.nextInject d x y = some (.other p f) → gatewayAt d x y p = none → hdrAge f < 254 →
        s.flag page Router.SKR_TEST_HCHK_FLIP = false →
        let free := s.freeOutputs d x y
        let n := ((s.productive d x y f).find? (fun o => free.elem o)).getD (free.headD 0)
        Completes (.packetInject d x y) s (fun t => (t.skEnd (epOf d x y p)).txQ = (s.skEnd (epOf d x y p)).txQ.erase f ∧
          t.skLink (outLink n) = s.skLink (outLink n) ++ [{ flit := f.aged (hdrAge f + 1) }] ∧
          (isResponse f = false → ∀ r ∈ (t.skEnd (epOf d x y p)).outstanding, r.tag = hdrTag f → r.answered = false → r.sent = true) ∧
          p ∈ (t.skRouter d x y).injected)) ∧
      Completes (.saturationTokenGrant d) s (fun t =>
        let wanted := SMap.read [] s.skein.wanted d
        (SMap.read false s.skein.taken d = true ∨ (∀ v ∈ wanted, 64 ≤ v.1) → t = s) ∧
        (∀ i < 64, ∀ v, SMap.read false s.skein.taken d = false → wanted.find? (fun v => v.1 = i) = some v →
          (∀ w ∈ wanted, i ≤ w.1) → SMap.read none t.skein.granted d = some v.2 ∧ SMap.read false t.skein.taken d = true ∧
          SMap.read [] t.skein.wanted d = wanted.filter (· ≠ v))))

/-- Targets (R298 to R300). What an engine's offset names is the model's reading (log entry 26). -/
def Obligations.TargetsTakeRequestsFromTheirQueues : Prop :=
  ∀ (s : State) (e : Nat) (upsets : List Nat), isEndpoint e = true →
    let q := s.skEnd e
    let head := s.headRequest e
    let n := State.epEngine e
    let answers : State → Flit → Prop := fun t f => (t.skEnd e).txQ = q.txQ ++ [f] ∧
      (t.skEnd e).urgQ = (if q.urgQ = [] then [] else q.urgQ.drop 1) ∧ (t.skEnd e).reqQ = (if q.urgQ = [] then q.reqQ.drop 1 else q.reqQ)
    (∀ c k, (c, k) ∈ [(Instr.skeinRd e upsets, 1), (.skeinWrs e upsets, 2), (.skeinWra e upsets, 3), (.skeinWrd e upsets, 4),
        (.skeinMsg e, 5), (.skeinMsgRetry e, 6)] →
      s.serves e = false ∨ head = none ∨ (∃ f, head = some f ∧ hdrClass f ≠ k ∧ classListed (hdrClass f) = true) →
      Completes c s (fun t => t = s)) ∧
    (∀ f, s.serves e = true → head = some f →
      (classListed (hdrClass f) = false → Completes (.skeinRd e upsets) s (fun t => answers t (statusTo f 3 false))) ∧
      (hdrClass f = 1 →
        (cmdReserved f ≠ 0 ∨ 64 < cmdOffset f % 64 + cmdLen f → Completes (.skeinRd e upsets) s (fun t => answers t (statusTo f 3 false))) ∧
        (cmdReserved f = 0 → cmdOffset f % 64 + cmdLen f ≤ 64 →
          (epType e = 2 → Completes (.skeinRd e upsets) s (fun t => StoresSame s t ∧
            answers t (if State.engHolds (cmdOffset f) (cmdLen f) then (match (s.portBRead n (cmdOffset f) (cmdLen f)).1 with
              | some bs => rdataTo f bs
              | none => statusTo f 4 false) else statusTo f 3 false))) ∧
          (epType e = 6 → 0x3FFFFFF < cmdOffset f → Completes (.skeinRd e upsets) s (fun t => answers t (statusTo f 2 false))) ∧
          (epType e = 6 → cmdOffset f ≤ 0x3FFFFFF → ¬(cmdLen f = 4 ∧ cmdOffset f % 4 = 0) → ¬(cmdLen f = 8 ∧ cmdOffset f % 8 = 0) →
            Completes (.skeinRd e upsets) s (fun t => answers t (statusTo f 3 false))))) ∧
      (hdrClass f = 2 → epType e = 2 → Completes (.skeinWrs e upsets) s (fun t =>
        let ok := cmdReserved f = 0 ∧ cmdLen f ≤ 56 ∧ State.engHolds (cmdOffset f) (cmdLen f) = true
        let bs := (((leBytes 64 f.data.toNat).drop 8).take (cmdLen f)).map some
        (ok → answers t (statusTo f (if s.portBMergeBad n (cmdOffset f) bs then 4 else 0) false)) ∧ (¬ok → answers t (statusTo f 3 false) ∧ StoresSame s t))) ∧
      (∀ k c, (k, c) ∈ [(3, Instr.skeinWra e upsets), (4, .skeinWrd e upsets)] → hdrClass f = k →
        ((∀ l ∈ q.lone, ¬(l.src = hdrSrc f ∧ l.tag = hdrTag f)) → Completes c s (fun t =>
          (t.skEnd e).lone = q.lone ++ [{ src := hdrSrc f, tag := hdrTag f, flit := f }] ∧ (t.skEnd e).txQ = q.txQ ∧ StoresSame s t)) ∧
        (∀ g, q.lone = [{ src := hdrSrc f, tag := hdrTag f, flit := g }] → hdrClass g + hdrClass f = 7 → epType e = 2 →
          let a := if k = 3 then f else g
          let b := if k = 3 then g else f
          let bs := State.maskedBytes (State.pairMask a).toNat b.data.toNat
          cmdReserved a = 0 → cmdLen a = 64 → cmdOffset a % 64 = 0 → State.engHolds (cmdOffset a) 64 = true → Completes c s (fun t =>
            answers t (statusTo a (if s.portBMergeBad n (cmdOffset a) bs then 4 else 0) false) ∧ (t.skEnd e).lone = []))) ∧
      (∀ retry : Bool, hdrClass f = (if retry then 6 else 5) →
        Completes (if retry then .skeinMsgRetry e else .skeinMsg e) s (fun t =>
          (epType e = 2 ∨ epType e = 10 → answers t (statusTo f 0 false) ∧ (t.skEnd e).inbox = q.inbox ++ [(retry, f)]) ∧
          (epType e ≠ 2 → epType e ≠ 10 → epType e ≠ 5 → answers t (statusTo f 3 false) ∧ (t.skEnd e).inbox = q.inbox)))) ∧
    (∀ src tag, s.clock.stopped = false → Completes (.writePairTimeout e src tag) s (fun t =>
      t.skEnd e = { q with lone := q.lone.filter (fun l => !(l.src = src && l.tag = tag)) } ∧ t.regs = s.regs ∧ t.mem = s.mem))

/-- Sources, attach ports, reconfiguration and drains (R300, R308 to R312, R316, R317). -/
def Obligations.SourcesEndRetryAndQuarantineRequests : Prop :=
  ∀ (s : State) (o : Origin) (e d x y : Nat), isEndpoint e = true → e = epOf d x y (epPort e) → isRouter d x y = true →
    let q := s.skEnd e
    let page := routerPage d x y
    let port := epPort e
    let counted := fun (t : State) (f : RegField) => t.get page f port = satAdd f.width (s.get page f port) 1
    (∀ ok f c, s.clock.stopped = false → epType e ≠ 1 → q.respQ.head? = some (ok, f) →
      (c, hdrClass f) ∈ [(Instr.skeinRdata e, 8), (.skeinStatus e, 9)] →
      (ok = false ∨ (∀ r ∈ q.outstanding, r.tag ≠ hdrTag f) → Completes c s (fun t => counted t Router.SKR_EP_ERR_LATE ∧
        t.skEnd e = { q with respQ := q.respQ.drop 1 })) ∧
      (∀ r, ok = true → q.outstanding.find? (fun r => r.tag = hdrTag f) = some r → (r.use = .load ∨ ∃ w, r.use = .store w) →
        epType e = 2 → Completes c s (fun t => (t.skEnd e).respQ = q.respQ.drop 1 ∧
          (∀ k ∈ (t.skEnd e).outstanding, k.tag = hdrTag f → k.sent = false) ∧
          (r.retried = true → counted t Router.SKR_EP_ERR_TRANSIENT ∧ r.tag ∈ (t.skEnd e).quarantine)))) ∧
    (s.clock.stopped = false → ∀ tag,
      ((∀ r ∈ s.inFlight e, r.tag ≠ tag) → Completes (.requestTimeout e tag) s (fun t => t = s)) ∧
      (∀ r, (s.inFlight e).find? (fun r => r.tag = tag) = some r →
        (epType e ≠ 1 → r.retried = false → Completes (.requestTimeout e tag) s (fun t =>
          (t.skEnd e).txQ = q.txQ ++ r.flits.map retryOf ∧ (∀ k ∈ (t.skEnd e).outstanding, k.tag = tag → k.retried = true) ∧
          (t.skEnd e).outstanding.length = q.outstanding.length ∧ t.regs = s.regs)) ∧
        (epType e = 2 → r.retried = true → (∃ w, r.use = .store w) → Completes (.requestTimeout e tag) s (fun t =>
          (∀ k ∈ (t.skEnd e).outstanding, k.tag ≠ tag) ∧ (t.skEnd e).quarantine = q.quarantine ++ [r.tag] ∧
          counted t Router.SKR_EP_ERR_LASTING ∧ Raised t page Router.INT_TIMEOUT_LASTING)) ∧
        (∀ f more, epType e = 1 → r.flits = f :: more → Completes (.requestTimeout e tag) s (fun t =>
          (∀ k ∈ (t.skEnd e).outstanding, k.tag ≠ tag) ∧ (t.skEnd e).quarantine = q.quarantine ++ [r.tag] ∧
          (t.skEnd e).respQ = q.respQ ++ [(true, statusTo f 5 false)]))) ∧
      Completes (.tagQuarantineEnd e tag) s (fun t => t.skEnd e = { q with quarantine := q.quarantine.filter (· ≠ tag) })) ∧
    (s.clock.stopped = false → epType e = 1 → e = attachEp d x y →
      Completes (.attachTransmit d x y) s (fun t =>
        (q.tDue = none → t = s) ∧
        (∀ f, q.tDue = some f →
          let sent : Flit := { f with hdr := mkHdr (hdrDst f) e (hdrPrio f) 0 (hdrClass f) (hdrTag f) }
          (t.skEnd e).tDue = none ∧ (t.skEnd e).txQ = q.txQ ++ [sent] ∧
          (isResponse f = true → (t.skEnd e).owed = q.owed.filter (· ≠ (hdrDst f, hdrTag f)) ∧ (t.skEnd e).outstanding = q.outstanding) ∧
          (isResponse f = false → ∃ r ∈ (t.skEnd e).outstanding, r.tag = hdrTag f ∧ sent ∈ r.flits))) ∧
      Completes (.attachDeliver d x y) s (fun t =>
        (q.rDue = none → t = s) ∧
        (q.rDue = some 2 → t.skEnd e = { q with rDue := none, respQ := q.respQ.drop 1 }) ∧
        (∀ f rest, q.rDue = some 1 → q.urgQ = f :: rest → (t.skEnd e).rDue = none ∧ (t.skEnd e).urgQ = rest ∧
          (hdrSrc f, hdrTag f) ∈ (t.skEnd e).owed ∧ (t.skEnd e).reqQ = q.reqQ) ∧
        (∀ f rest, q.rDue = some 0 → q.reqQ = f :: rest → (t.skEnd e).rDue = none ∧ (t.skEnd e).reqQ = rest ∧
          (hdrSrc f, hdrTag f) ∈ (t.skEnd e).owed ∧ (t.skEnd e).urgQ = q.urgQ))) ∧
    (∀ v : Word, Accepts s o page 0x010 v = true → bit v.toNat 0 = true → Completes (.apply o d x y v) s (fun t =>
      t.bypass d x y = true ∧
      ∀ p < 4, bit (SMap.read 0 t.skein.latched (routerKey d x y)) p = s.flag page Router.SKR_PORT_EN p)) ∧
    (s.clock.stopped = false → Completes (.reconfDone d x y) s (fun t => if s.bypass d x y then t.bypass d x y = false ∧
      Raised t page Router.INT_RECONF_DONE ∧
      ∀ p < 4, SMap.read false t.skein.off (epOf d x y p) = !(bit (SMap.read 0 s.skein.latched (routerKey d x y)) p) else t = s)) ∧
    Completes (.drainComplete e) s (fun t =>
      if s.portState' e = 1 ∧ s.endDrained e = true then t.portState' e = 2 ∧ t.skEnd e = q else t = s) ∧
    (s.portState' e ≠ 1 ∨ s.endDrained e = true → Completes (.drainTimeout e) s (fun t => t = s)) ∧
    (∀ m, domains.find? (fun m => (domEnds m).elem e) = some m → s.domState m = 3 → s.isForced m = false → s.portState' e = 1 →
      s.endDrained e = false → Completes (.drainTimeout e) s (fun t => t.domState m = 2 ∧ t.portState' e = 0 ∧ t.skEnd e = q ∧
        t.get Pg.powerDom PowerDom.DOM_REF_VALID m = 1 ∧ t.get Pg.powerDom PowerDom.DOM_REF_KIND m = 2 ∧
        t.get Pg.powerDom PowerDom.DOM_REF_ID m = e % 2 ^ PowerDom.DOM_REF_ID.width ∧ Raised t Pg.powerCtl PowerCtl.INT_ABORTED))

/-- Lane states (R326 to R335, R339). -/
def Obligations.LanesFollowTheStatesOfR326 : Prop :=
  ∀ (s : State) (o : Origin) (l : Bool) (n : Nat), n < 64 →
    let p := Pg.lane l n
    let st := s.laneState p
    let step := s.laneStep p
    let looped := s.laneLooped p
    let counted := fun (t : State) (f : RegField) => t.get p f = satAdd f.width (s.get p f) 1
    (∀ v : Word, Accepts s o p 0x010 v = true →
      (bits v.toNat 1 0 = 1 → s.get p Lane.CTL_EN = 0 → st = 0 → Completes (.laneEn o l n v) s (fun t => t.laneState p = 1 ∧ t.get p Lane.CTL_EN = 1)) ∧
      (bits v.toNat 1 0 = 0 → s.get p Lane.CTL_EN = 1 → Completes (.laneEn o l n v) s (fun t => t.laneState p = 0 ∧ t.get p Lane.CTL_EN = 0 ∧
        t.get p Lane.STATUS_PCS_LOCK = 0 ∧ t.get p Lane.STATUS_SIGNAL = 0 ∧ (t.laneUnit p).txLen = 0)) ∧
      (bits v.toNat 1 0 = 3 → s.get p Lane.CTL_EN = 1 → Completes (.laneRetrain o l n v) s (fun t =>
        (st = 6 → t.laneState p = 7 ∧ Raised t p Lane.INT_RETRAIN ∧ (t.laneUnit p).counted = false ∧ t.laneStep p = s.firstStep p) ∧
        (st = 8 → t.laneState p = if looped then 4 else 2)))) ∧
    Completes (.lanePllReady l n) s (fun t =>
      if st = 1 ∧ s.lanePllLocked p = true then t.laneState p = if looped then 4 else 2 else t = s) ∧
    Completes (.signalPresent l n) s (fun t =>
      t.get p Lane.STATUS_SIGNAL = (if st = 0 then s.get p Lane.STATUS_SIGNAL else 1) ∧ t.laneState p = if st = 2 then s.firstStep p else st) ∧
    (∀ fields, Completes (.linkTrainingDone l n fields) s (fun t =>
      if step = 3 ∧ s.laneTrainOk p = true then t.laneStep p = 4 ∧
        (fields = [] → t.get p Lane.LANE_TXEQ_TAPS = s.get p Lane.LANE_TXEQ_TAPS) ∧
        (∀ x, fields = [x] →
          let r := trainRequest (s.get p Lane.LANE_LT_MODE) (s.get p Lane.LANE_TXEQ_TAPS) x.toNat
          (t.laneUnit p).ltStatus = BitVec.ofNat 16 r.status ∧
          (∀ v, r.taps = some v → t.get p Lane.LANE_TXEQ_TAPS = v % 2 ^ Lane.LANE_TXEQ_TAPS.width) ∧
          (∀ b, r.precode = some b → s.flag p Lane.LANE_RATE_MOD = true → t.get p Lane.LANE_RATE_PRECODE = b2n b))
      else t = s)) ∧
    (∀ eye ctle, Completes (.adaptDone l n eye ctle) s (fun t =>
      if step = 4 ∧ s.laneRateOk p = true then t.laneStep p = 5 ∧ t.get p Lane.STATUS_CDR_LOCK = 1 ∧
        (s.flag p Lane.LANE_EQ_OVR_CTLE_MAN = false → t.get p Lane.LANE_RXEQ_CTLE = ctle.toNat % 2 ^ Lane.LANE_RXEQ_CTLE.width)
      else t = s)) ∧
    (step = 5 → Completes (.alignDone l n) s (fun t => t.laneState p = 6 ∧ t.get p Lane.STATUS_PCS_LOCK = 1 ∧ Raised t p Lane.INT_UP ∧
      t.get p Lane.STATUS_FEC_LOCK = b2n (s.get p Lane.LANE_RATE_FEC ≠ 0) ∧ (t.laneUnit p).firstDue = true ∧
      (st = 7 → (s.laneUnit p).counted = true → counted t Lane.LANE_RETRY_TRANSIENT))) ∧
    (∀ c k, (c, k) ∈ [(Instr.ltTimeout l n, 3), (.adaptTimeout l n, 4), (.alignTimeout l n, 5)] → Completes c s (fun t =>
      if step = k then t.laneState p = 8 ∧ Raised t p Lane.INT_DOWN ∧ t.get p Lane.STATUS_CDR_LOCK = 0 ∧
        (st = 7 → (s.laneUnit p).counted = true → counted t Lane.LANE_RETRY_LASTING)
      else t = s)) ∧
    Completes (.lossOfSignal l n) s (fun t => t.get p Lane.STATUS_SIGNAL = 0 ∧
      if 3 ≤ st ∧ st ≤ 7 ∧ looped = false then t.laneState p = 2 ∧ counted t Lane.LANE_RETRY_LOS ∧ Raised t p Lane.INT_LOS
      else t.laneState p = st) ∧
    (∀ fec, Completes (.lockLoss l n fec) s (fun t =>
      if st = 6 then counted t Lane.PCS_ERR_LOCK_LOSS ∧
        (if fec = false ∧ s.flag p Lane.PRBS_CTL_CHK_EN = true then t.laneState p = 6 ∧ t.get p Lane.STATUS_PCS_LOCK = 0
         else t.laneState p = 7 ∧ (t.laneUnit p).counted = true ∧ Raised t p Lane.INT_RETRAIN)
      else t = s)) ∧
    Completes (.downSignalReturn l n) s (fun t =>
      if st = 8 ∧ looped = false then t.laneState p = 2 ∧ t.get p Lane.STATUS_SIGNAL = 1 else t = s) ∧
    (∀ blocks, Completes (.uncorrectableCodeword l n blocks) s (fun t =>
      if s.flag p Lane.STATUS_FEC_LOCK then counted t Lane.FEC_UNCORR_COUNT ∧ Raised t p Lane.INT_FEC_UNCORR ∧
        (st ≠ 6 → t.laneUnit p = s.laneUnit p) ∧
        (st = 6 → (t.laneUnit p).rxLen = (s.laneUnit p).rxLen + 66 * blocks.length ∧ ∀ b, blocks = [b] →
          (t.laneUnit p).rxBits = (s.laneUnit p).rxBits + (b.toNat / 4 * 4 + 3) * 2 ^ (s.laneUnit p).rxLen)
      else t = s)) ∧
    Completes (.txUnderrun l n) s (fun t =>
      if st = 6 ∧ (s.laneUnit p).aligned = true then counted t Lane.LANE_FIFO_TX_UNDERRUN ∧ Raised t p Lane.INT_TX_FIFO else t = s)

/-- Octet PLLs, PRBS, bit-slip and timestamps (R324, R325, R336 to R340). -/
def Obligations.OctetPllsCheckersAndTimestampsReport : Prop :=
  (∀ (s : State) (o : Origin) (d q : Nat) (b : Bool), isOctet d q = true →
    let pg := Pg.opll d q
    let en := State.opllEnField b
    let lock := State.opllLockField b
    let fail := State.opllFailField b
    (∀ v : Word, Accepts s o pg 0x010 v = true → Completes (.opllEnable o d q v) s (fun t => t.flag pg en = bit v.toNat en.lo ∧
      (s.flag pg en ≠ bit v.toNat en.lo → t.get pg lock = 0 ∧ t.get pg fail = 0))) ∧
    Completes (.opllLock d q b) s (fun t =>
      if s.flag pg en && s.rateClockOk pg (b2n b) && !(s.clock.unserved.elem 2) then t.get pg lock = 1 ∧ t.get pg fail = 0 else t = s) ∧
    Completes (.opllLockFail d q b) s (fun t =>
      if s.flag pg en && !(s.flag pg lock) then t.get pg fail = 1 ∧ t.get pg lock = 0 else t = s) ∧
    Completes (.lanePllUnlock d q b) s (fun t =>
      if s.flag pg lock then t.get pg lock = 0 ∧ Raised t pg Opll.INT_UNLOCK ∧
        ∀ i < 8, let p := octetLane d q i
          if s.flag p Lane.CTL_EN = true ∧ s.flag p Lane.LANE_RATE_PLL = b then t.laneState p = 1 ∧ t.get p Lane.STATUS_CDR_LOCK = 0
          else t.laneState p = s.laneState p
      else t = s)) ∧
  (∀ (s : State) (o : Origin) (l : Bool) (n : Nat), n < 64 →
    let p := Pg.lane l n
    let u := s.laneUnit p
    Completes (.prbsLockGain l n) s (fun t => if s.prbsActs p then t.get p Lane.PRBS_STAT_LOCK = 1 else t = s) ∧
    Completes (.prbsLockLoss l n) s (fun t => if s.flag p Lane.PRBS_STAT_LOCK then t.get p Lane.PRBS_STAT_LOCK = 0 ∧
      t.get p Lane.PRBS_STAT_RELOCKS = satAdd Lane.PRBS_STAT_RELOCKS.width (s.get p Lane.PRBS_STAT_RELOCKS) 1 ∧
      Raised t p Lane.INT_PRBS_UNLOCK else t = s) ∧
    (∀ peek, Reaches s o p = true → s.get p Lane.PRBS_STAT_LOCK = 0 → Completes (.prbsErrRead o l n peek) s (fun t =>
      t.hub.readData = [BitVec.ofNat 32 u.prbsErr] ∧
      (s.peekOf o peek = false → (t.laneUnit p).prbsErr = 0 ∧ (t.laneUnit p).prbsBits = 0 ∧
        t.get p Lane.PRBS_BITS_LO_BITS = u.prbsBits % 2 ^ 32) ∧
      (s.peekOf o peek = true → t.laneUnit p = u))) ∧
    (∀ v : Word, Accepts s o p 0x124 v = true → Completes (.prbsOne o l n v) s (fun t => t.laneUnit p =
      if bit v.toNat 0 = false then u
      else if s.flag p Lane.PRBS_CTL_GEN_EN = false then { u with inject := true }
      else if s.get p Lane.CTL_LOOP = 1 ∧ s.flag p Lane.PRBS_STAT_LOCK = true then { u with prbsErr := satAdd 48 u.prbsErr 1 } else u)) ∧
    (∀ v : Word, Accepts s o p 0x148 v = true → bit v.toNat 0 = true → Completes (.slip o l n v) s (fun t =>
      t.get p Lane.BITSLIP_POS = (s.get p Lane.BITSLIP_POS + 1) % (32 * 2 ^ s.get p Lane.LANE_RATE_PCS) ∧
      (t.laneUnit p).firstDue = true ∧ t.get p Lane.PRBS_STAT_LOCK = 0)) ∧
    (∀ peek, Reaches s o p = true → Completes (.tsInfoRead o l n peek) s (fun t =>
      (t.laneUnit p).stamps = if s.peekOf o peek then u.stamps else u.stamps.drop 1)))

/-- Reflex tables (R342 to R348). -/
def Obligations.ReflexTablesFireReleaseAndRespond : Prop :=
  (∀ (s : State) (l : Bool) (n : Nat) (time : DWord) (held : BitVec 16), n < 64 → (s.laneUnit (Pg.lane l n)).rxFrames = [] →
    Completes (.rxFrameEnd l n time held) s (fun t => t = s)) ∧
  (∀ (s : State) (l : Bool) (n : Nat) (frame : List Byte) (rest : List (List Byte)) (time : DWord) (held : BitVec 16), n < 64 →
    (s.laneUnit (Pg.lane l n)).rxFrames = frame :: rest →
    let p := Pg.lane l n
    let a := laneAdapter p
    let u := s.adapter a
    let good := State.fcsGood frame
    let hit := fun k => State.rfxMatches (s.rfxActive a k) (laneIndex p) frame
    let takes := fun k => hit k && (!(s.rfxActive a k).checkFcs || good)
    let counted := fun (t : State) (f : RegField) (i : Nat) => t.get a f i = satAdd f.width (s.get a f i) 1
    Completes (.rxFrameEnd l n time held) s (fun t => (t.laneUnit p).rxFrames = rest ∧
        (((∀ k < 16, takes k = false) → t.adapter a = u ∧ ((∃ k, k < 16 ∧ hit k = true ∧ (s.rfxActive a k).checkFcs = true) →
          good = false → counted t Adapter.RFX_DROPS_BAD_FCS 0)) ∧
        (∀ k < 16, takes k = true → (∀ j < k, takes j = false) → (s.rfxActive a k).holdoff = 0 →
          let x := s.rfxActive a k
          (x.once = true → (t.rfxActive a k).en = false) ∧
          (u.queue.length < 16 → counted t Adapter.RFX_HITS_HITS k ∧ Raised t a Adapter.INT_FIRED ∧
            ∃ f, (t.adapter a).queue = u.queue ++ [f] ∧ f.entry = k ∧ f.laneL = laneIsL p ∧ f.lane = laneNumber p ∧ f.act = x ∧
              (x.copySrc + x.copyLen ≤ frame.length → f.copy = (frame.drop x.copySrc).take x.copyLen)) ∧
          (16 ≤ u.queue.length → (t.adapter a).queue = u.queue ∧ counted t Adapter.RFX_DROPS_FULL 0 ∧ Raised t a Adapter.INT_DROP))))) ∧
  (∀ (s : State) (o : Origin) (d q : Nat), isOctet d q = true →
    let a := Pg.adapter d q
    let e := adapterEp d q
    let u := s.adapter a
    let w := s.skEnd e
    (s.clock.stopped = true ∨ u.queue = [] ∨ u.flight ≠ none → Completes (.releaseSend d q) s (fun t => t = s)) ∧
    (∀ f rest tag, s.clock.stopped = false → u.queue = f :: rest → u.flight = none → s.freeTag e = some tag → s.mayIssue e = true →
      Completes (.releaseSend d q) s (fun t => (t.adapter a).queue = rest ∧ (t.adapter a).flight = some f ∧
        t.get a Adapter.STATUS_IN_FLIGHT = 1 ∧
        let p := State.lanePage f.act.egrL f.act.egrLane
        (t.skEnd e).txQ = w.txQ ++ [msgFlit (adapterEp (laneDie p) (laneOctet p)) e 3 tag (payloadOf (State.releaseBytes f))])) ∧
    (∀ f, s.clock.stopped = false → s.headRequest e = some f → hdrClass f = 5 ∨ hdrClass f = 6 →
      let b := fun k => bits f.data.toNat (8 * k + 7) (8 * k)
      let known := decide (hdrClass f = 6) && u.recent.elem (hdrSrc f, hdrTag f)
      let refused : Prop := b 0 ≠ 1 ∨ (epType (hdrSrc f) ≠ 5 ∧ s.flag a Adapter.AD_CTL_SW_RELEASE = false)
      let why := s.releaseReason d q (b 1) (b 2) (b 3) (b 4)
      Completes (.release d q) s (fun t =>
        (known = true → t.adapter a = u ∧ (t.skEnd e).txQ = w.txQ ++ [statusTo f 0 false]) ∧
        (known = false → refused → t.adapter a = u ∧ (t.skEnd e).txQ = w.txQ ++ [statusTo f 3 false]) ∧
        (known = false → ¬refused → why ≠ none → t.adapter a = u ∧ (t.skEnd e).txQ = w.txQ ++ [statusTo f 3 false] ∧
          t.flag a Adapter.RFX_LAST_FAIL_VALID = true) ∧
        (known = false → ¬refused → why = none → (t.skEnd e).txQ = w.txQ ++ [statusTo f 0 false] ∧
          (t.adapter a).responses = u.responses ++ [(b 1, s.buildResponse a (b 2) (b 3) (b 4) ((leBytes 16 f.data.toNat).drop 8))] ∧
          (t.adapter a).recent = ((hdrSrc f, hdrTag f) :: u.recent).take 16))) ∧
    Completes (.responseInsert d q) s (fun t =>
      (u.responses = [] → t = s) ∧
      (∀ i bytes rest, u.responses = (i, bytes) :: rest → s.laneState (octetLane d q i) ≠ 6 → t = s) ∧
      (∀ i bytes rest, u.responses = (i, bytes) :: rest → s.laneState (octetLane d q i) = 6 → (t.adapter a).responses = rest ∧
        t.get a Adapter.RFX_INSERTED_COUNT = satAdd Adapter.RFX_INSERTED_COUNT.width (s.get a Adapter.RFX_INSERTED_COUNT) 1 ∧
        Raised t a Adapter.INT_INSERTED)) ∧
    (∀ f rest, s.clock.stopped = false → w.respQ = (true, f) :: rest → (∃ r ∈ w.outstanding, r.tag = hdrTag f) → u.flight ≠ none →
      Completes (.releaseResponse d q) s (fun t => (t.adapter a).flight = none ∧ (t.adapter a).queue = u.queue ∧ (t.skEnd e).respQ = rest ∧
        t.get a Adapter.STATUS_IN_FLIGHT = 0 ∧
        (f.data.toNat % 8 ≠ 0 → t.flag a Adapter.RFX_LAST_FAIL_VALID = true ∧ Raised t a Adapter.INT_RELEASE_FAIL))) ∧
    (∀ v : Word, Accepts s o a 0x108 v = true → Completes (.rfxCommit o d q v) s (fun t => ∀ k < 16,
      t.rfxActive a k = if bit v.toNat k then s.rfxShadow a k else s.rfxActive a k)))

/-- Bring-up of a channel (R356 to R362). -/
def Obligations.DdrBringUpTrainsRetriesAndFills : Prop :=
  ∀ (s : State) (o : Origin) (c : Nat), c < 8 →
    let p := Pg.ddr c
    let st := s.ddrState c
    let u := s.ddrUnit c
    let steps : Prop := (st = 1 ∨ st = 5) ∧ u.step ≠ 0
    let counted := fun (t : State) (f : RegField) => t.get p f = satAdd f.width (s.get p f) 1
    let lost := fun (t : State) => ∀ a < 2 ^ 40, SMap.read none t.ddr.lines (State.ddrLineKey c a) = none
    let starts := fun (t : State) (again : Bool) => t.ddrState c = 1 ∧ (t.ddrUnit c).step = 1 ∧ (t.ddrUnit c).retry = again ∧
      (t.ddrUnit c).onAlert = false ∧ (t.ddrUnit c).queue = [] ∧ (t.ddrUnit c).pending = none ∧ (t.ddrUnit c).filled = false ∧
      lost t ∧ counted t Ddr.DDR_TRAIN_ATTEMPTS ∧ t.get p Ddr.STATUS_REASON = 0
    let fails := fun (t : State) (reason : Nat) => if u.onAlert = false ∧ u.retry = false then starts t true
      else t.ddrState c = 6 ∧ (t.ddrUnit c).step = 0 ∧ (t.ddrUnit c).queue = [] ∧
        t.get p Ddr.STATUS_REASON = (if u.onAlert then 6 else reason) ∧ Raised t p Ddr.INT_DOWN ∧
        t.flag Pg.safety Safety.SAF_WARN_DDR = true
    let serves := fun (t : State) => t.ddrState c = 3 ∧ (t.ddrUnit c).debts = [] ∧ (t.ddrUnit c).banks = [] ∧ (t.ddrUnit c).step = 0
    (∀ v : Word, Accepts s o p 0x010 v = true →
      (bit v.toNat 0 = true → st = 0 → s.domOn (ddrDom c) = true → Completes (.ddrEnable o c v) s (fun t => starts t false ∧ t.get p Ddr.CTL_EN = 1 ∧
        t.get p Ddr.CTL_NO_ZERO = b2n (bit v.toNat 3))) ∧
      (bit v.toNat 0 = false → st = 3 → Completes (.ddrDisable o c v) s (fun t => t.ddrState c = 0 ∧ lost t ∧
        (t.ddrUnit c).queue = [] ∧ (t.ddrUnit c).pending = none ∧ Raised t p Ddr.INT_SR_DONE ∧ t.get p Ddr.CTL_EN = 0)) ∧
      (bits v.toNat 1 0 = 3 → Completes (.ddrRetrain o c v) s (fun t =>
        (st = 6 → starts t false) ∧
        (st = 3 → t.ddrState c = 5 ∧ (t.ddrUnit c).step = 3 ∧ (t.ddrUnit c).retry = false ∧ (t.ddrUnit c).queue = [] ∧
          (t.ddrUnit c).pending = none ∧ t.ddr.lines = s.ddr.lines ∧ counted t Ddr.DDR_TRAIN_ATTEMPTS)))) ∧
    (∀ m, Completes (.ddrTrainStepDone c m) s (fun t =>
      (¬steps → t = s) ∧
      (steps → u.step = 1 →
        (State.dimmOk m = false ∨ s.ddrRate c m = none → fails t 3) ∧
        (∀ r, State.dimmOk m = true → s.ddrRate c m = some r → t.ddrState c = st ∧ t.ddrUnit c = { u with step := 2 } ∧
          t.get p Ddr.DDR_CFG_KIND = m.kind % 2 ^ Ddr.DDR_CFG_KIND.width ∧
          t.get p Ddr.DDR_CFG_RANKS = m.ranks % 2 ^ Ddr.DDR_CFG_RANKS.width ∧ t.get p Ddr.DDR_CFG_X8 = b2n m.x8 ∧
          t.get p Ddr.DDR_CFG_DENSITY = m.density % 2 ^ Ddr.DDR_CFG_DENSITY.width ∧
          t.get p Ddr.DDR_SPEED_ACTUAL = r % 2 ^ Ddr.DDR_SPEED_ACTUAL.width ∧
          t.get p Ddr.DDR_CAP_SIZE = t.ddrCapacity c / 2 ^ 14 % 2 ^ Ddr.DDR_CAP_SIZE.width)) ∧
      (steps → 1 < u.step → u.step < 8 → t.ddrUnit c = { u with step := u.step + 1 } ∧ RegsSameBut s t []) ∧
      (steps → 8 ≤ u.step → t.get p Ddr.DDR_RH_RFM_REQ = b2n m.rfm ∧ t.get p Ddr.DDR_RH_DRFM_OK = b2n m.drfm ∧
        t.get p Ddr.DDR_RH_RAAIMT = m.raaimt % 2 ^ Ddr.DDR_RH_RAAIMT.width ∧
        t.get p Ddr.DDR_RH_RAAMMT = m.raammt % 2 ^ Ddr.DDR_RH_RAAMMT.width ∧
        (u.retry = true → counted t Ddr.DDR_TRAIN_TRANSIENT) ∧
        (st = 5 → serves t) ∧
        (st = 1 → s.flag p Ddr.CTL_NO_ZERO = true → serves t ∧ Raised t p Ddr.INT_READY) ∧
        (st = 1 → s.flag p Ddr.CTL_NO_ZERO = false → t.ddrState c = 2 ∧ (t.ddrUnit c).step = 0)))) ∧
    (∀ crc, Completes (.ddrTrainTimeout c crc) s (fun t =>
      (¬steps → t = s) ∧
      (steps → fails t (if u.step = 1 then (if crc then 2 else 1) else if u.step = 2 then 4 else 5)))) ∧
    Completes (.zeroFillDone c) s (fun t =>
      if st = 2 then serves t ∧ Raised t p Ddr.INT_READY ∧ (∀ a < 2 ^ 40, t.ddrCell c a = (0, t))
      else t = s)

/-- Requests of a channel (R355, R363 to R375). -/
def Obligations.DdrRequestsAreQueuedIssuedAndRetried : Prop :=
  ∀ (s : State) (c : Nat), c < 8 →
    let p := Pg.ddr c
    let st := s.ddrState c
    let u := s.ddrUnit c
    let x8 := s.ddrX8 c
    let held := fun (w : Bool) => (u.queue.filter (fun r => r.write == w)).length
    let counted := fun (t : State) (f : RegField) => t.get p f = satAdd f.width (s.get p f) 1
    let answers := fun (t : State) (id code : Nat) (d : BitVec 512) => (t.ddrUnit c).answers = [(id, code, d)]
    let rests := fun (t : State) => t.ddrUnit c = { u with answers := [] } ∧ t.ddr.lines = s.ddr.lines ∧ RegsSameBut s t []
    let draining := s.domState (ddrDom c) = 3
    (∀ id line prio,
      let away := fun (t : State) => (t.ddrUnit c).queue = u.queue ∧ t.ddr.lines = s.ddr.lines ∧ RegsSameBut s t []
      (∀ i, (i = Instr.ddrLineRead c id line prio ∨ ∃ d, i = Instr.ddrLineWrite c id line prio d) → Completes i s (fun t =>
        (st ≠ 3 ∨ draining → answers t id (if st = 6 then 2 else 1) 0 ∧ away t) ∧
        (st = 3 → ¬draining → s.ddrCapacity c ≤ line → answers t id 2 0 ∧ away t))) ∧
      (st = 3 → ¬draining → line < s.ddrCapacity c →
        Completes (.ddrLineRead c id line prio) s (fun t =>
          (∀ w, s.queuedWrite c line = some w → answers t id 0 w.data ∧ away t) ∧
          (s.queuedWrite c line = none → 128 ≤ held false + b2n u.pending.isSome → rests t) ∧
          (s.queuedWrite c line = none → held false + b2n u.pending.isSome < 128 → t.ddr.lines = s.ddr.lines ∧
            (t.ddrUnit c).queue = u.queue ++ [{ id := id, write := false, line := line, prio := prio }])) ∧
        (∀ d, Completes (.ddrLineWrite c id line prio d) s (fun t =>
          (64 ≤ held true → rests t) ∧
          (held true < 64 → t.ddr.lines = s.ddr.lines ∧
            (t.ddrUnit c).queue = u.queue ++ [{ id := id, write := true, line := line, prio := prio, data := d }] ∧
            (s.get p Ddr.DDR_SCHED_WR_HIGH ≤ held true + 1 → (t.ddrUnit c).drain = true)))))) ∧
    (∀ aged wait, Completes (.ddrCommandIssue c aged wait) s (fun t =>
      (st ≠ 3 → t = s) ∧
      (st = 3 → s.ddrNext c aged wait = none → rests t) ∧
      (∀ r, st = 3 → s.ddrNext c aged wait = some r →
        let b := s.ddrBankOf c r.line
        let row := s.ddrRow c r.line
        let opens := fun (t : State) => (t.ddrUnit c).queue = u.queue.map (fun q => if q = r then { q with opened := true } else q)
        ((s.ddrBank c b).row = some row → (r.opened = false → counted t Ddr.DDR_PAGE_CNT_HIT) ∧
          (r.write = true → (t.ddrUnit c).queue = u.queue.erase r ∧ answers t r.id 0 0 ∧
            (s.flag p Ddr.DDR_ECC_INJ_ARM = false → (t.ddrCell c r.line).1 = ddrEncode r.data) ∧
            (∀ a < 2 ^ 40, a ≠ r.line → r.line < 2 ^ 40 → (t.ddrCell c a).1 = (s.ddrCell c a).1)) ∧
          (r.write = false → t.ddr.lines = s.ddr.lines ∧
            (t.ddrUnit c).queue = u.queue.map (fun q => if q = r then { q with issued := true } else q)) ∧
          (s.get p Ddr.DDR_PAGE_POLICY = 0 → (t.ddrBank c b).row = some row)) ∧
        (∀ other, (s.ddrBank c b).row = some other → other ≠ row → counted t Ddr.DDR_PAGE_CNT_MISS ∧
          (t.ddrBank c b).row = none ∧ opens t) ∧
        ((s.ddrBank c b).row = none → s.flag p Ddr.DDR_NRF_EN = false → (t.ddrBank c b).row = some row ∧
          (t.ddrBank c b).raa = (s.ddrBank c b).raa + 1 ∧ opens t)))) ∧
    (∀ err : BitVec 640, Completes (.ddrReadData c err) s (fun t =>
      let first := u.queue.find? (fun r => r.issued && !r.write)
      (u.pending.isSome = true ∨ first = none → rests t) ∧
      (∀ r, u.pending = none → first = some r → (t.ddrUnit c).queue = u.queue.erase r ∧
        let x := (s.ddrCell c r.line).1 ^^^ err
        (ddrLineClass x x8 = 0 → answers t r.id 0 (ddrLineData x) ∧ (t.ddrUnit c).pending = none) ∧
        (ddrLineClass x x8 = 1 → Raised t p Ddr.INT_ECC_CORR) ∧
        let newer := ∃ q ∈ u.queue, q.line = r.line ∧ q.write = true
        (ddrLineClass x x8 = 1 → newer → answers t r.id 0 (ddrLineData (ddrCorrect x x8)) ∧ (t.ddrUnit c).pending = none ∧
          counted t Ddr.DDR_ECC_CNT_TRANSIENT) ∧
        (ddrLineClass x x8 = 2 ∨ (ddrLineClass x x8 = 1 ∧ ¬newer) → (t.ddrUnit c).pending = some { req := r, burst := x })))) ∧
    (∀ err : BitVec 640, Completes (.ddrReadRetry c err) s (fun t =>
      (u.pending = none → rests t) ∧
      (∀ k, u.pending = some k → (t.ddrUnit c).pending = none ∧ (t.ddrUnit c).queue = u.queue ∧
        let good := ddrCorrect k.burst x8
        let newer := ddrLineClass k.burst x8 = 1 ∧ ∃ q ∈ u.queue, q.line = k.req.line ∧ q.write = true
        (newer → answers t k.req.id 0 (ddrLineData good) ∧ counted t Ddr.DDR_ECC_CNT_TRANSIENT ∧ t.ddr.lines = s.ddr.lines) ∧
        let again := if ddrLineClass k.burst x8 = 1 then good ^^^ err else (s.ddrCell c k.req.line).1 ^^^ err
        (¬newer → ddrLineClass again x8 = 2 → answers t k.req.id 4 0 ∧ counted t Ddr.DDR_ECC_CNT_UNCORR ∧ Raised t p Ddr.INT_ECC_UNCORR ∧
          t.flag Pg.safety Safety.SAF_WARN_DDR = true) ∧
        (¬newer → ddrLineClass k.burst x8 = 1 → ddrLineClass again x8 = 0 →
          answers t k.req.id 0 (ddrLineData good) ∧ counted t Ddr.DDR_ECC_CNT_TRANSIENT ∧ (t.ddrCell c k.req.line).1 = good) ∧
        (¬newer → ddrLineClass k.burst x8 = 1 → ddrLineClass again x8 = 1 →
          answers t k.req.id 0 (ddrLineData good) ∧ counted t Ddr.DDR_ECC_CNT_LASTING ∧ Raised t p Ddr.INT_ECC_LASTING ∧
          t.flag Pg.safety Safety.SAF_WARN_DDR = true) ∧
        (ddrLineClass k.burst x8 ≠ 1 → ddrLineClass again x8 ≠ 2 →
          answers t k.req.id 0 (ddrLineData (ddrCorrect again x8)) ∧ counted t Ddr.DDR_ECC_CNT_TRANSIENT))))

/-- Refresh, row-disturbance defence, ALERT and self-refresh (R375 to R383). -/
def Obligations.DdrRefreshDefenceAlertAndSelfRefresh : Prop :=
  ∀ (s : State) (c : Nat), c < 8 →
    let p := Pg.ddr c
    let st := s.ddrState c
    let u := s.ddrUnit c
    let counted := fun (t : State) (f : RegField) => t.get p f = satAdd f.width (s.get p f) 1
    let linesSame := fun (t : State) => t.ddr.lines = s.ddr.lines ∧ (t.ddrUnit c).queue = u.queue
    (∀ rank b, rank < 4 → b < 4 →
      let closed := fun (t : State) k => ∀ n ∈ State.indexBanks rank k, (t.ddrBank c n).row = none
      Completes (.refsbIssue c rank b false) s (fun t =>
        if st = 3 ∧ 1 ≤ s.ddrDebt c rank b ∧ s.indexIdle c rank b = true then t.ddrDebt c rank b = s.ddrDebt c rank b - 1 ∧ closed t b ∧ linesSame t ∧
          (∀ k < 4, k ≠ b → t.ddrDebt c rank k = s.ddrDebt c rank k)
        else t = s) ∧
      Completes (.refsbIssue c rank b true) s (fun t =>
        if st = 3 ∧ (List.range 4).all (fun k => decide (1 ≤ s.ddrDebt c rank k) && s.indexIdle c rank k) = true then counted t Ddr.DDR_REF_CNT_REFAB ∧ linesSame t ∧
          ∀ k < 4, t.ddrDebt c rank k = s.ddrDebt c rank k - 1 ∧ closed t k
        else t = s) ∧
      Completes (.refreshDebtTick c rank) s (fun t =>
        (st ≠ 3 → t = s) ∧
        (st = 3 → linesSame t ∧ ∀ k < 4, t.ddrDebt c rank k = (if s.ddrDebt c rank k < 3 then s.ddrDebt c rank k + 1 else s.ddrDebt c rank k) ∧
          (3 ≤ s.ddrDebt c rank k → closed t k ∧ Raised t p Ddr.INT_REF_FORCED)))) ∧
    (∀ b, b < 256 →
      let x := s.ddrBank c b
      let idle := s.banksIdle c (State.bankRank b) (State.bankIndex b)
      Completes (.rfmIssue c b) s (fun t =>
        if st = 3 ∧ s.flag p Ddr.DDR_RH_RFM_REQ = true ∧ s.get p Ddr.DDR_RH_RAAIMT ≤ x.raa ∧ idle = true then
          (t.ddrBank c b).raa = x.raa - s.get p Ddr.DDR_RH_RAAIMT ∧ (t.ddrBank c b).row = none ∧ counted t Ddr.DDR_RH_CNT_RFM ∧ linesSame t
        else t = s) ∧
      Completes (.drfmIssue c b) s (fun t =>
        if st = 3 ∧ x.sample.isSome = true then
          t.ddrBank c b = { x with row := none, sample := none } ∧ counted t Ddr.DDR_RH_CNT_DRFM ∧ linesSame t
        else t = s) ∧
      Completes (.rowOpenTimeout c b) s (fun t =>
        if s.get p Ddr.DDR_PAGE_POLICY = 2 ∧ ∀ r ∈ u.queue, s.ddrBankOf c r.line = b → s.rowHit c r = false then
          t.ddrBank c b = { x with row := none } ∧ linesSame t
        else t = s)) ∧
    (∀ rates : List Nat, Completes (.tempRatePoll c rates) s (fun t =>
      if st = 3 then t.get p Ddr.STATUS_TEMP_2X = b2n (rates.any (1 ≤ ·)) ∧ t.get p Ddr.STATUS_TEMP_HIGH = b2n (rates.any (2 ≤ ·)) ∧
        (t.ddrUnit c).rates = rates ∧ (rates.any (2 ≤ ·) = true → t.flag Pg.safety Safety.SAF_WARN_DDR = true)
      else t = s)) ∧
    (∀ recent,
      Completes (.ddrAlert c recent false) s (fun t =>
        if st = 3 then t.ddrState c = 3 ∧ counted t Ddr.DDR_ALERT_TRANSIENT ∧ Raised t p Ddr.INT_ALERT ∧ linesSame t else t = s) ∧
      Completes (.ddrAlert c recent true) s (fun t =>
        if st = 3 then t.ddrState c = 5 ∧ (t.ddrUnit c).step = 3 ∧ (t.ddrUnit c).onAlert = true ∧ (t.ddrUnit c).queue = [] ∧
          (t.ddrUnit c).pending = none ∧ counted t Ddr.DDR_ALERT_LASTING ∧ Raised t p Ddr.INT_ALERT ∧ t.ddr.lines = s.ddr.lines
        else t = s)) ∧
    Completes (.selfRefreshEntry c) s (fun t =>
      (st = 3 → t.ddrState c = 4 ∧ (t.ddrUnit c).queue = [] ∧ (t.ddrUnit c).pending = none ∧ Raised t p Ddr.INT_SR_DONE) ∧
      (st = 2 → t.ddrState c = 4 ∧ t.ddrUnit c = u ∧ t.ddr = s.ddr) ∧
      (st = 1 → t.ddrState c = 0 ∧ (t.ddrUnit c).step = 0 ∧ (t.ddrUnit c).filled = false) ∧
      (st ≠ 1 → st ≠ 2 → st ≠ 3 → t = s)) ∧
    Completes (.selfRefreshExit c) s (fun t =>
      if st = 4 then t.ddrState c = 3 ∧ (t.ddrUnit c).debts = [] ∧ t.ddr.lines = s.ddr.lines ∧ (t.ddrUnit c).filled = u.filled
      else t = s)

/-- Requests of a crypto engine (R387 to R407). -/
def Obligations.CryptoRequestsAreJudgedServedAndAnswered : Prop :=
  ∀ (s : State) (c : Nat) (ups : List Nat), c < 8 →
    let e := cryptoEp c
    let p := Pg.crypto c
    let runs : Prop := s.clock.stopped = false ∧ s.portState' e ≠ 2
    let replies := fun (sp t : State) (r : Flit) => (t.skEnd e).txQ = (sp.skEnd e).txQ ++ [r] ∧
      (t.skEnd e).reqQ = (sp.skEnd e).reqQ ∧ (t.skEnd e).urgQ = (sp.skEnd e).urgQ
    let fails := fun (t : State) => t.flag Pg.safety Safety.SAF_WARN_CRYPTO = true
    let right := fun r src (w : Bool) => bit (s.get p Crypto.REG_RIGHTS_RIGHTS r) (2 * (masterClass src).getD 0 + b2n w) = true
    let judged := fun (sp t : State) (f : Flit) (line : Nat) (w bad : Bool) =>
      (bad = true → replies sp t (statusTo f 3 false) ∧ RegsSameBut s t [] ∧ t.ddr = s.ddr) ∧
      (bad = false → masterClass (hdrSrc f) = none → replies sp t (statusTo f 3 false) ∧ RegsSameBut s t [] ∧ t.ddr = s.ddr) ∧
      (bad = false → masterClass (hdrSrc f) ≠ none →
        (∀ code, s.ddrRefusal c = some code → replies sp t (statusTo f code false) ∧ t.ddr = s.ddr) ∧
        (s.ddrRefusal c = none → s.ddrCapacity c ≤ line → replies sp t (statusTo f 2 false) ∧ t.ddr = s.ddr) ∧
        (s.ddrRefusal c = none → line < s.ddrCapacity c → (∀ r, s.regionAt c line = some r → ¬right r (hdrSrc f) w) →
          replies sp t (statusTo f 3 false) ∧ t.ddr = s.ddr ∧ Raised t p Crypto.INT_RIGHTS ∧
          t.get p Crypto.CRY_REFUSED_COUNT = satAdd Crypto.CRY_REFUSED_COUNT.width (s.get p Crypto.CRY_REFUSED_COUNT) 1))
    (∀ f, s.headRequest e = some f → hdrClass f = 1 → s.slotRetires c f = true → Completes (.cryptoRead c ups) s (fun t => t = s)) ∧
    (∀ f, s.headRequest e = some f → runs → hdrClass f = 1 → s.slotRetires c f = false →
      let sp := s.popRequest e
      let off := cmdOffset f
      let line := off / 64
      let bad := decide (cmdReserved f ≠ 0 ∨ 64 < off % 64 + cmdLen f)
      let data := fun (x : BitVec 512) => rdataTo f (((leBytes 64 x.toNat).drop (off % 64)).take (cmdLen f))
      Completes (.cryptoRead c ups) s (fun t => judged sp t f line false bad ∧
        (∀ r, bad = false → masterClass (hdrSrc f) ≠ none → s.ddrRefusal c = none → line < s.ddrCapacity c →
          s.regionAt c line = some r → right r (hdrSrc f) false →
          (∀ k, s.queuedWrite c line = none → SMap.read none s.ddr.lines (State.ddrLineKey c line) = some k →
            ddrLineClass k (s.ddrX8 c) = 0 →
            (s.regMode c r = 0 → replies sp t (data (ddrLineData k)) ∧ t.ddr = s.ddr) ∧
            (s.regMode c r = 1 → replies sp t (data (decryptLine (s.lineKeys c r line) c line 0 (ddrLineData k))) ∧ t.ddr = s.ddr)) ∧
          (s.regMode c r = 2 → let u := line - s.regBase c r
            (∀ m, sp.walk c r u ups = .poisoned m → replies sp t (statusTo f 4 false)) ∧
            (∀ k m, sp.walk c r u ups = .failed k m → replies sp t (statusTo f 4 false) ∧ fails t ∧ t.ddr = m.ddr ∧
              t.get p Crypto.CRY_ERR_CNT_TAG_FAIL = satAdd Crypto.CRY_ERR_CNT_TAG_FAIL.width (m.get p Crypto.CRY_ERR_CNT_TAG_FAIL) 1) ∧
            (∀ b m, sp.walk c r u ups = .ok b m → let v := slot64 b (u % 8)
              (v = poisonMark → replies sp t (statusTo f 4 false) ∧ t.ddr = m.ddr) ∧
              (∀ y m', v ≠ poisonMark → m.verifyData c r line v (ups.elem 0) = (some y, m') →
                replies sp t (data (decryptLine (s.lineKeys c r line) c line v y)) ∧ t.ddr = m'.ddr) ∧
              (∀ m', v ≠ poisonMark → m.verifyData c r line v (ups.elem 0) = (none, m') →
                replies sp t (statusTo f 4 false) ∧ fails t ∧ Raised t p Crypto.INT_TAG_FAIL ∧ t.ddr = m'.ddr))))) ) ∧
    (¬runs ∨ s.headRequest e = none → ∀ i ∈ [Instr.cryptoRead c ups, .cryptoPartialWrite c ups, .cryptoFullWrite c ups],
      Completes i s (fun t => t = s)) ∧
    (∀ i sp f line x mask bad, runs → s.slotRetires c f = false →
      (i = Instr.cryptoPartialWrite c ups ∧ s.headRequest e = some f ∧ s.headPair e = none ∧ hdrClass f = 2 ∧ sp = s.popRequest e ∧
        line = cmdOffset f / 64 ∧ x = (f.data >>> 64) <<< (8 * (cmdOffset f % 64)) ∧
        mask = BitVec.ofNat 64 ((2 ^ cmdLen f - 1) * 2 ^ (cmdOffset f % 64)) ∧
        bad = decide (cmdReserved f ≠ 0 ∨ 56 < cmdLen f ∨ 64 < cmdOffset f % 64 + cmdLen f)) ∨
      (∃ h d, s.headRequest e = some h ∧ s.headPair e = some (f, d) ∧ sp = (s.popRequest e).dropPartner e h ∧
        i = (if State.pairMask f = BitVec.allOnes 64 then Instr.cryptoFullWrite c ups else .cryptoPartialWrite c ups) ∧
        line = cmdOffset f / 64 ∧ x = d.data ∧ mask = State.pairMask f ∧
        bad = decide (cmdReserved f ≠ 0 ∨ cmdLen f ≠ 64 ∨ cmdOffset f % 64 ≠ 0)) →
      Completes i s (fun t => judged sp t f line true bad ∧
        (∀ r, bad = false → masterClass (hdrSrc f) ≠ none → s.ddrRefusal c = none → line < s.ddrCapacity c →
          s.regionAt c line = some r → right r (hdrSrc f) true →
          let keys := s.lineKeys c r line
          let stores := fun (y : BitVec 512) => s.flag (Pg.ddr c) Ddr.DDR_ECC_INJ_ARM = false →
            replies sp t (statusTo f 0 false) ∧ (t.ddrCell c line).1 = ddrEncode y
          (mask = BitVec.allOnes 64 → s.regMode c r = 0 → stores x) ∧
          (mask = BitVec.allOnes 64 → s.regMode c r = 1 → stores (encryptLine keys c line 0 x)) ∧
          (∀ k, s.queuedWrite c line = none → SMap.read none s.ddr.lines (State.ddrLineKey c line) = some k →
            ddrLineClass k (s.ddrX8 c) = 0 → mask ≠ BitVec.allOnes 64 →
            (s.regMode c r = 0 → stores (State.mergeBytes (ddrLineData k) x mask)) ∧
            (s.regMode c r = 1 →
              stores (encryptLine keys c line 0 (State.mergeBytes (decryptLine keys c line 0 (ddrLineData k)) x mask)))) ∧
          (s.regMode c r = 2 → let u := line - s.regBase c r
            (∀ m, sp.walk c r u ups = .poisoned m → replies sp t (statusTo f 4 false) ∧ t.ddr = m.ddr) ∧
            (∀ k m, sp.walk c r u ups = .failed k m → replies sp t (statusTo f 4 false) ∧ fails t ∧ Raised t p Crypto.INT_POISONED) ∧
            (∀ b m, sp.walk c r u ups = .ok b m → let v := slot64 b (u % 8)
              (v = lastCounter → replies sp t (statusTo f 4 false) ∧ t.ddr = m.ddr) ∧
              (v < lastCounter → mask = BitVec.allOnes 64 → stores (encryptLine keys c line (v + 1) x)) ∧
              (v = poisonMark → mask ≠ BitVec.allOnes 64 → replies sp t (statusTo f 4 false) ∧ t.ddr = m.ddr) ∧
              (v = poisonMark → mask = BitVec.allOnes 64 → m.highWater c r < lastCounter →
                stores (encryptLine keys c line (m.highWater c r + 1) x)) ∧
              (∀ y m', v < lastCounter → mask ≠ BitVec.allOnes 64 → m.verifyData c r line v (ups.elem 0) = (some y, m') →
                stores (encryptLine keys c line (v + 1) (State.mergeBytes (decryptLine keys c line v y) x mask))) ∧
              (∀ m', v < lastCounter → mask ≠ BitVec.allOnes 64 → m.verifyData c r line v (ups.elem 0) = (none, m') →
                replies sp t (statusTo f 4 false) ∧ fails t ∧ Raised t p Crypto.INT_POISONED))))))

/-- Regions, key slots, Anneal and preset (R391 to R417). -/
def Obligations.CryptoRegionsKeysAndAnnealRun : Prop :=
  ∀ (s : State) (o : Origin) (c : Nat), c < 8 →
    let p := Pg.crypto c
    let u := s.cryptoUnit c
    let mayStore := fun line => s.ddrState c = 3 ∧ line < s.ddrCapacity c ∧ s.flag (Pg.ddr c) Ddr.DDR_ECC_INJ_ARM = false
    let clean := fun line (k : BitVec 640) => s.queuedWrite c line = none ∧
      SMap.read none s.ddr.lines (State.ddrLineKey c line) = some k ∧ ddrLineClass k (s.ddrX8 c) = 0
    (∀ (r : Nat) (v : Word), r ∈ regionList →
      let off := 0x200 + 0x20 * r
      let mode := if bits v.toNat 1 0 = 3 then s.regMode c r else bits v.toNat 1 0
      (Accepts s o p off v = true → bit v.toNat 31 = true → Completes (.regionEnable o c r v) s (fun t => t.regState c r = 1 ∧
        t.get p Crypto.REG_CTL_EN r = 1 ∧ t.get p Crypto.REG_CTL_KEY r = bits v.toNat 12 8 ∧ t.regMode c r = mode ∧
        ∀ q ∈ regionList, q ≠ r → t.regState c q = s.regState c q)) ∧
      (Opens s o p off = true → bit v.toNat 31 = true → s.regState c r = 0 → s.annealBusy c = false →
        (s.regionFits c r mode = false ∨ (mode = 2 ∧ s.flag p Crypto.REG_CTL_ROOT_VALID r = false) ∨
          (mode ≠ 0 ∧ s.keySlot c (bits v.toNat 12 8) = none)) →
        Completes (.regionEnable o c r v) s (fun t => Captures s t p 0xB o off)) ∧
      (Accepts s o p off v = true → bit v.toNat 31 = false → Completes (.regionClose o c r v) s (fun t =>
        t.get p Crypto.REG_CTL_EN r = 0 ∧ t.regState c r = if s.flag p Crypto.REG_CTL_EN r then 2 else s.regState c r)) ∧
      Completes (.regionCloseDone c r) s (fun t =>
        if s.regState c r = 2 then t.regState c r = 0 ∧ (∀ x ∈ (t.cryptoUnit c).cache, x.2.region ≠ r) ∧ (t.cryptoUnit c).slots = u.slots
        else t = s)) ∧
    (∀ v : Word, let r := bits v.toNat 3 0
      (Accepts s o p 0x30C v = true → bit v.toNat 31 = true → Completes (.cryInit o c v) s (fun t => t.get p Crypto.STATUS_INIT_BUSY = 1 ∧
        (t.cryptoUnit c).init = some r ∧ t.get p Crypto.REG_CTL_ROOT_VALID r = 0 ∧ t.ddr = s.ddr ∧
        (s.regMode c r = 2 → (t.regionRoot c r).root = 0))) ∧
      (Opens s o p 0x30C = true → bit v.toNat 31 = true → s.initRefused c r = true →
        Completes (.cryInit o c v) s (fun t => Captures s t p 0x8 o 0x30C))) ∧
    Completes (.initDone c) s (fun t =>
      (u.init = none ∨ s.ddrState c ≠ 3 → t = s) ∧
      (∀ r, r < 16 → u.init = some r → s.ddrState c = 3 → t.get p Crypto.STATUS_INIT_BUSY = 0 ∧ Raised t p Crypto.INT_INIT_DONE ∧
        t.get p Crypto.REG_CTL_ROOT_VALID r = 1 ∧ t.highWater c r = 0 ∧ (t.cryptoUnit c).init = none ∧
        (s.regMode c r ≠ 2 → s.regBase c r + s.regN c r ≤ s.ddrCapacity c → s.flag (Pg.ddr c) Ddr.DDR_ECC_INJ_ARM = false →
          ∀ k < s.regN c r, (t.ddrCell c (s.regBase c r + k)).1 =
            ddrEncode (encryptLine (s.lineKeys c r (s.regBase c r)) c (s.regBase c r + k) 0 0)))) ∧
    (∀ k, k < 32 → ∀ x ∈ [(1, Instr.generate o c k), (2, .derive o c k), (3, .retire o c k)],
      (Accepts s o p 0x100 (BitVec.ofNat 32 (x.1 * 2 ^ 28 + k)) = true → Completes x.2 s (fun t => t.get p Crypto.CRY_KEY_STAT_BUSY = 1 ∧
        (t.cryptoUnit c).keyCmd = some (x.1, k, s.get p Crypto.CRY_KEY_CTX_CTX) ∧ (t.cryptoUnit c).slots = u.slots)) ∧
      (Opens s o p 0x100 = true → s.flag p Crypto.CRY_KEY_STAT_BUSY = true → Completes x.2 s (fun t => Captures s t p 0x8 o 0x100)) ∧
      (Opens s o p 0x100 = true → s.flag p Crypto.CRY_KEY_STAT_BUSY = false →
        (if x.1 = 3 then s.slotInUse c k else (s.keySlot c k).isSome) = true →
        Completes x.2 s (fun t => Captures s t p 0xA o 0x100))) ∧
    Completes (.keyCmdDone c) s (fun t =>
      (u.keyCmd = none → t = s) ∧
      (∀ op k ctx, u.keyCmd = some (op, k, ctx) → k < 32 → t.get p Crypto.CRY_KEY_STAT_BUSY = 0 ∧ Raised t p Crypto.INT_KEY_DONE ∧
        (t.cryptoUnit c).keyCmd = none ∧ (t.keySlot c k).isSome = decide (op = 1 ∨ op = 2) ∧
        bit (t.get p Crypto.CRY_KEY_LOADED_LOADED) k = decide (op = 1 ∨ op = 2) ∧
        (op = 2 → ∀ x, t.keySlot c k = some x → x.k1 = (Config.deviceKeys c ctx).setWidth 256 ∧
          x.k2 = (Config.deviceKeys c ctx >>> 256).setWidth 256 ∧ x.kt = (Config.deviceKeys c ctx >>> 512).setWidth 256) ∧
        ∀ j, j ≠ k → t.keySlot c j = s.keySlot c j)) ∧
    (∀ v : Word, let r := bits v.toNat 3 0
      let k := bits v.toNat 12 8
      (Accepts s o p 0x300 v = true → bit v.toNat 31 = true → Completes (.annealStart o c v) s (fun t => t.annealBusy c = true ∧
        t.annealRegion c = r ∧ t.get p Crypto.CRY_ANNEAL_POS_BOUNDARY = s.regBase c r % 2 ^ 32 ∧ (t.cryptoUnit c).annealKey = k)) ∧
      (Opens s o p 0x300 = true → bit v.toNat 31 = true → s.annealRefused c r k = true →
        Completes (.annealStart o c v) s (fun t => Captures s t p 0x9 o 0x300))) ∧
    (∀ ups, let r := s.annealRegion c
      let line := s.get p Crypto.CRY_ANNEAL_POS_BOUNDARY
      let last := s.regBase c r + s.regN c r
      let new := (s.keySlot c u.annealKey).getD { k1 := 0, k2 := 0, kt := 0 }
      let old := s.lineKeys c r line
      Completes (.annealLine c ups) s (fun t =>
        if s.annealBusy c = false ∨ s.ddrState c ≠ 3 ∨ last ≤ line then t = s
        else t.get p Crypto.CRY_ANNEAL_POS_BOUNDARY = (line + 1) % 2 ^ 32 ∧ t.annealBusy c = true ∧
          (∀ k, s.regMode c r = 1 → mayStore line → clean line k →
            (t.ddrCell c line).1 = ddrEncode (encryptLine new c line 0 (decryptLine old c line 0 (ddrLineData k)))) ∧
          (∀ m, s.regMode c r = 2 → s.walk c r (line - s.regBase c r) ups = .poisoned m → t.ddr = m.ddr) ∧
          (∀ b m, s.regMode c r = 2 → s.walk c r (line - s.regBase c r) ups = .ok b m →
            (slot64 b ((line - s.regBase c r) % 8) = poisonMark → t.ddr = m.ddr) ∧
            (slot64 b ((line - s.regBase c r) % 8) = lastCounter → t.ddr = m.ddr ∧ Raised t p Crypto.INT_POISONED))) ∧
      Completes (.cryAnnealDone c) s (fun t =>
        if s.annealBusy c = true ∧ line = last then t.annealBusy c = false ∧ t.get p Crypto.REG_CTL_KEY r = u.annealKey % 32 ∧
          Raised t p Crypto.INT_ANNEAL_DONE
        else t = s)) ∧
    (∀ v : Word, Accepts s o p 0x810 v = true → bit v.toNat 0 = true →
      let line := s.get p Crypto.CRY_CTR_LINE_LINE
      let want := s.get p Crypto.CRY_CTR_VAL_LO_VAL + 2 ^ 32 * s.get p Crypto.CRY_CTR_VAL_HI_VAL
      Completes (.ctrPreset o c v) s (fun t =>
        (s.regionAt c line = none → t.ddr = s.ddr ∧ t.crypto = s.crypto) ∧
        (∀ r b m, s.regionAt c line = some r → s.regMode c r = 2 → mayStore line → s.walk c r (line - s.regBase c r) [] = .ok b m →
          let now := slot64 b ((line - s.regBase c r) % 8)
          (want ≤ now → Captures m t p 0xC o 0x810) ∧
          (now < want → want = poisonMark → t.ddr = m.ddr ∧ Raised t p Crypto.INT_POISONED) ∧
          (∀ y m', now < want → want ≠ poisonMark → m.verifyData c r line now false = (some y, m') →
            (t.ddrCell c line).1 = ddrEncode (encryptLine (s.lineKeys c r line) c line want
              (decryptLine (s.lineKeys c r line) c line now y))))))

/-- Attempts, phases and release (R421 to R448). -/
def Obligations.BootAttemptsPhasesAndReleaseFollowR436 : Prop :=
  ∀ (s : State) (o : Origin),
    let h := Pg.hubGlobal
    let n := s.bootCount
    let ph := s.bootPhase
    let fails := fun (t : State) (reason die place : Nat) => t.bootPhase = 7 ∧ t.boot.running = false ∧ t.boot.checked = false ∧
      t.boot.sections = [] ∧ t.get h HubGlobal.HUB_BOOT_FAIL_REASON = reason % 2 ^ HubGlobal.HUB_BOOT_FAIL_REASON.width ∧
      t.get h HubGlobal.HUB_BOOT_FAIL_DIE = die % 2 ^ HubGlobal.HUB_BOOT_FAIL_DIE.width ∧
      t.get h HubGlobal.HUB_BOOT_WHERE_WHERE = place % 2 ^ 32 ∧ Raised t Pg.config Cfg.INT_LOAD_FAIL
    let normal := fun (t : State) (source : Nat) => t.boot.running = true ∧ t.boot.checked = false ∧ t.boot.sections = [] ∧
      t.bootCount = satAdd 8 n 1 % 2 ^ HubGlobal.HUB_BOOT_STATUS_BOOT_COUNT.width ∧ t.bootSource = source ∧ t.boot.attempt = satAdd 8 n 1
    let minimal := fun (t : State) => t.boot.running = true ∧ t.minimal = true ∧ t.bootSource = 1 ∧ t.boot.attempt = n
    Completes .bootAttempt s (fun t =>
      if s.boot.running = true ∨ s.minimal = true ∨ s.cfgSource = 1 ∨ ph = 4 ∨ ph = 5 ∨ ph = 6 then t = s
      else (if ph = 7 then t.bootPhase = 3 else t.bootPhase = ph) ∧
        (if 3 ≤ n ∨ s.cfgSource = 3 ∨ (s.cfgSource = 2 ∧ s.get Pg.ply Ply.STATUS_ROLE = 1) then minimal t
         else normal t (if s.cfgSource = 2 then 5 else
           if (s.flag Pg.config Cfg.CFG_POLICY_PREFER_B ^^ decide (n % 2 = 1)) = true then 3 else 2))) ∧
    (∀ v : Word, Accepts s o Pg.config 0x010 v = true →
      (bits v.toNat 2 1 = 2 → Completes (.hostLoad o v) s (fun t =>
        if s.minimal = false ∧ (3 ≤ n ∨ s.cfgSource = 3) then minimal t else normal t 4)) ∧
      (bits v.toNat 2 1 = 1 → let d := s.get Pg.config Cfg.CFG_RELOAD_DIE
        Completes (.reload o v) s (fun t =>
          (s.portActive d = true → t.boot.reload = some { die := d, warm := s.flag Pg.config Cfg.CFG_RELOAD_FROM_WARM } ∧
            t.boot.checked = false ∧ t.get Pg.config Cfg.CFG_RELOAD_STAT_FAILED = 0) ∧
          (s.portActive d = false → t.boot.reload = none ∧ t.get Pg.config Cfg.CFG_RELOAD_STAT_FAILED = 1 ∧
            t.get Pg.config Cfg.CFG_RELOAD_STAT_REASON = 8 ∧ Raised t Pg.config Cfg.INT_RELOAD_DONE)))) ∧
    (∀ v : Word, Accepts s o h 0x11C v = true → Completes (.hubBootConfirm o v) s (fun t =>
      if v = 0x424F4F54 then t.bootCount = 0 else t.bootCount = n)) ∧
    (∀ x, Completes (.imageHeader x) s (fun t =>
      (s.loadBusy = false ∨ s.boot.checked = true → t = s) ∧
      (s.boot.running = true → s.boot.reload = none → ph = 3 → s.boot.checked = false →
        let table := tableFault (bit (leAt x 0xB 1) 0) (s.bootSource = 1) (sectionTable x)
        (∀ r, s.headerCheck x = .error r → fails t r 0 0) ∧
        (∀ ik i, s.headerCheck x = .ok ik → table = some i → fails t 5 (sectionAt x i).die (i * 65536)) ∧
        (∀ ik, s.headerCheck x = .ok ik → table = none →
          t.boot.checked = true ∧ t.boot.ik = ik ∧ t.boot.version.toNat = leAt x 0xC 4 ∧ t.boot.running = true ∧ t.bootPhase = 3 ∧
          t.boot.sections = (sectionTable x).filter s.sectionApplies)))) ∧
    (s.boot.reload = none → (∀ (reason : Byte) (die : BitVec 3) (place : Word), Completes (.cfgBootFail reason die place) s (fun t =>
        if s.boot.running then fails t reason.toNat die.toNat place.toNat else t = s)) ∧
      Completes .loadStallTimeout s (fun t =>
        if s.boot.running = true ∧ ph = 3 then fails t 7 s.sectionDie (s.sectionPlace s.boot.entry) else t = s) ∧
      Completes .startupPhaseTimeout s (fun t =>
        (s.boot.running = false ∨ 6 ≤ ph → t = s) ∧
        (s.boot.running = true → (ph = 1 ∨ ph = 2 → fails t 9 0 0) ∧ (ph = 3 → fails t 7 0 0) ∧ (ph = 4 → fails t 0xA 0 0) ∧
          (ph = 0 ∨ ph = 5 → t.bootPhase = 7 ∧ t.boot.running = false)))) ∧
    (∀ r (reason : Byte) (die : BitVec 3) (place : Word), s.boot.reload = some r → Completes (.cfgBootFail reason die place) s (fun t =>
      t.boot.reload = none ∧ t.get Pg.config Cfg.CFG_RELOAD_STAT_FAILED = 1 ∧ Raised t Pg.config Cfg.INT_RELOAD_DONE ∧
      t.get Pg.config Cfg.CFG_RELOAD_STAT_REASON = reason.toNat)) ∧
    (∀ a b, Completes (.startupPhaseDone a b) s (fun t =>
      (ph = 0 ∨ ph = 1 → t.bootPhase = ph + 1) ∧
      (ph = 2 → (∀ d, 1 ≤ d → d ≤ 6 → s.portActive d = true ∨ s.portState d = 0) → t.bootPhase = 3) ∧
      (ph = 2 → (∃ d, 1 ≤ d ∧ d ≤ 6 ∧ s.portActive d = false ∧ s.portState d ≠ 0) → t = s) ∧
      (ph = 3 → (s.boot.running = true ∧ s.boot.checked = true ∧ s.boot.sections = [] →
          if s.pastStream s.boot.totalLen = true then s.boot.reload = none → fails t 1 0 0
          else t.bootPhase = 4 ∧ t.boot.loaded = s.boot.touched) ∧
        (s.boot.running = false ∨ s.boot.checked = false ∨ s.boot.sections ≠ [] → t = s)) ∧
      (ph = 4 → s.boot.running = true → (∀ d, 1 ≤ d → d ≤ 4 → bit s.boot.loaded d = true → s.auditsDone d = true) → t.bootPhase = 5) ∧
      (ph = 4 → s.boot.running = false ∨ (∃ d, 1 ≤ d ∧ d ≤ 4 ∧ bit s.boot.loaded d = true ∧ s.auditsDone d = false) → t = s) ∧
      (ph = 5 → if s.boot.running = true ∧ s.boot.releaseStep = 5 then
        t.bootPhase = 6 ∧ t.boot.running = false ∧ Raised t Pg.config Cfg.INT_LOAD_DONE ∧ (s.bootSource ≠ 1 → t.minimal = false) else t = s) ∧
      (6 ≤ ph → t = s))) ∧
    Completes .dieRelease s (fun t =>
      (s.boot.reload = none → (s.boot.running = false ∨ ph ≠ 5 → t = s) ∧
        (s.boot.running = true → ph = 5 →
          (∀ k, k < 4 → s.boot.releaseStep ≤ k → bit s.boot.loaded (k + 1) = true →
            (∀ j, j < k → s.boot.releaseStep ≤ j → bit s.boot.loaded (j + 1) = false) →
            t.boot.releaseStep = k + 1 ∧ ∀ sec < 96, SMap.read false t.fabric.released (sectorKey (k + 1) sec) = true) ∧
          ((∀ k, k < 4 → s.boot.releaseStep ≤ k → bit s.boot.loaded (k + 1) = false) → t.boot.releaseStep = 5))) ∧
      (∀ r, s.boot.reload = some r →
        if s.boot.checked = true ∧ s.boot.sections = [] ∧ s.auditsDone r.die = true then
          t.boot.reload = none ∧ bit t.boot.loaded r.die = true ∧ t.get Pg.config Cfg.CFG_RELOAD_STAT_DONE = 1 ∧
          Raised t Pg.config Cfg.INT_RELOAD_DONE ∧ ∀ sec < 96, SMap.read false t.fabric.released (sectorKey r.die sec) = true
        else t = s))

/-- Sections of an image, and the audit (R424 to R447). -/
def Obligations.ImageBodiesAreAppliedOrFailTheLoad : Prop :=
  (∀ (s : State) (i : Instr) (type : Nat),
    (type, i) ∈ [(2, Instr.frames false), (2, .frames true)] ∨ (∃ bs, (type = 1 ∧ i = .stage1 bs) ∨ (type = 4 ∧ i = .xmap bs)) ∨
      (∃ rs, type = 3 ∧ i = .engines rs) ∨ (∃ ps, type = 5 ∧ i = .regwrite ps) ∨ (∃ vs, type = 6 ∧ i = .sectorCrc vs) ∨
      (∃ a b c, type = 2 ∧ (i = .zero a b c ∨ i = .repeatFrames a b c ∨ ∃ x, i = .literal a b x c)) →
    Completes i s (fun t => s.loading = false ∨ s.boot.sections = [] ∨ (∃ x rest, s.boot.sections = x :: rest ∧ x.type ≠ type) → t = s) ∧
    (∀ x rest, s.loading = true → s.boot.reload = none → s.boot.sections = x :: rest → x.type = type → x.die ≠ 0 → s.portActive x.die = false →
      Completes i s (fun t => t.bootPhase = 7 ∧ t.boot.running = false ∧ t.get Pg.hubGlobal HubGlobal.HUB_BOOT_FAIL_REASON = 8))) ∧
  (∀ (s : State) (x : BootSection) (rest : List BootSection),
    s.loading = true → s.boot.reload = none → s.boot.sections = x :: rest → x.die = 0 ∨ s.portActive x.die = true →
    let fails := fun (t : State) (reason : Nat) => t.bootPhase = 7 ∧ t.boot.running = false ∧ t.boot.sections = [] ∧
      t.get Pg.hubGlobal HubGlobal.HUB_BOOT_FAIL_REASON = reason ∧ Raised t Pg.config Cfg.INT_LOAD_FAIL
    let verdict := fun (bs : List Byte) =>
      if (s.boot.body ++ bs).length < x.len ∨ s.pastStream (x.offset + x.len) = true then some 1
      else if bodyTagged s.boot.ik x (s.boot.body ++ bs) = false then some 4
      else if bit s.boot.short x.die = true ∧ rest.any (fun y => y.die = x.die) = false then some 1
      else none
    let ends := fun (t : State) (bs : List Byte) => match verdict bs with
      | some r => fails t r
      | none => t.boot.sections = rest ∧ t.boot.opened = false ∧ t.boot.running = true
    (∀ bs, x.type = 1 → Completes (.stage1 bs) s (fun t => ends t bs)) ∧
    (x.type = 2 → s.boot.opened = false → Completes (.frames false) s (fun t => t.boot.opened = true ∧ t.boot.count = 0 ∧
      t.boot.written = [] ∧ t.boot.body = [] ∧ t.mem = s.mem ∧ t.fabric = s.fabric)) ∧
    (x.type = 2 → s.boot.opened = true → Completes (.frames true) s (fun t =>
      if s.boot.count = 609792 then ends t [] else fails t 1)) ∧
    (∀ (op : Nat) (i : Instr) (addr second check : Word) (body : List Byte) (y : BitVec 1024),
      (op = 1 ∧ i = Instr.literal addr second y check ∧ body = leBytes 128 y.toNat) ∨
      (op = 2 ∧ i = .zero addr second check ∧ body = [] ∧ y = 0 ∧ bits second.toNat 27 16 = 0) ∨
      (op = 3 ∧ i = .repeatFrames addr second check ∧ body = [] ∧ s.boot.lastLiteral = some y ∧ bits second.toNat 27 16 = 0) →
      x.type = 2 → s.boot.opened = true →
      let said := bits second.toNat 31 28
      let a := FrameAddr.ofWord addr.toNat
      let good : Prop := check.toNat = crc32 (leBytes 4 addr.toNat ++ leBytes 4 second.toNat ++ body)
      let clash : Prop := frameContention a.index y.toNat = true ∨ s.trackContention a.die a.sector a.unit a.index y.toNat = true
      Completes i s (fun t =>
        (said = 0 ∨ 3 < said → fails t 5) ∧
        (said = op → ¬good ∨ bits second.toNat 15 0 ≠ 0 ∨ a.ok = false ∨ a.die ≠ x.die → fails t 5) ∧
        (said = op → good → bits second.toNat 15 0 = 0 → a.ok = true → a.die = x.die → a.kind = 0 →
          (s.gsrActive a.die a.sector = false ∨ SMap.read false s.boot.written a.word = true → fails t 5) ∧
          (s.gsrActive a.die a.sector = true → SMap.read false s.boot.written a.word = false →
            (clash → fails t 6) ∧
            (¬clash → t.frame a.die a.sector a.unit a.index = y.toNat ∧ t.boot.count = s.boot.count + 1 ∧
              SMap.read false t.boot.written a.word = true ∧ t.boot.sections = s.boot.sections ∧
              (s.boot.written = [] → bit t.boot.touched x.die = true ∧
                ∀ p q v, pageKind p = some .mi → pageDie p = x.die → isMiBank p q = true → v < 1024 → t.raw p q false v = 0) ∧
              ∀ sec u f, sec < 96 → u < 129 → f < (if u < 128 then 48 else 208) → ¬(sec = a.sector ∧ u = a.unit ∧ f = a.index) →
                t.frame a.die sec u f = s.frame a.die sec u f))))) ∧
    (∀ r, x.type = 3 → Completes (.engines [r]) s (fun t =>
      if State.engineRecordBad x.die r then fails t 5
      else ends t (State.engineBytes r) ∧ (verdict (State.engineBytes r) = none →
        t.get (Pg.eng r.engine 0) Eng0.CTL_AUTORUN = b2n r.autorun ∧ t.get (Pg.eng r.engine 0) Eng0.ENG_BOOT_PC_PC = r.bootPc.toNat / 2))) ∧
    (∀ bs : List Byte, x.type = 4 →
      let rate := s.get Pg.clock Clock.CLK_SPAN_ACTIVE
      Completes (.xmap bs) s (fun t =>
        (∀ k, mapFault bs rate = some k → fails t 5) ∧
        (mapFault bs rate = none → ends t bs ∧ (verdict bs = none →
          (∀ d, 1 ≤ d → d ≤ 6 → t.get (Pg.port d) Port.CTL_SPLIT = mapSplit bs d) ∧
          (∀ d f, 1 ≤ d → d ≤ 4 → f < 16 → t.flag (Pg.xport d) Xport.SFIFO_CTL_EN f = (State.mapPeer bs d f).isSome) ∧
          ((∀ d, 1 ≤ d → d ≤ 6 → s.get (Pg.port d) Port.CTL_SPLIT = mapSplit bs d) → ∀ r ∈ mapRoutes bs,
            (∀ q ∈ mapRoutes bs, q.die = r.die → q.mod = r.mod → q.group = r.group → q = r) →
            let p := Pg.xbar r.die r.mod
            let entry := fun (v : State) => [v.get p Xbar.XBAR_ENTRY_EN r.group, v.get p Xbar.XBAR_ENTRY_SRC_DIE r.group,
              v.get p Xbar.XBAR_ENTRY_SRC_MOD r.group, v.get p Xbar.XBAR_ENTRY_SRC_GROUP r.group]
            if s.xbarLocked p then entry t = entry s
            else entry t = [bits r.entry 31 31, bits r.entry 26 24, bits r.entry 23 20, bits r.entry 7 0]))))) ∧
    (∀ ps : List (Word × Word), x.type = 5 →
      let bytes := ps.flatMap (fun p => leBytes 4 p.1.toNat ++ leBytes 4 p.2.toNat)
      let u := if 1 ≤ x.die ∧ x.die ≤ 4 then (s.keepBody bytes).touchDie x.die else s.keepBody bytes
      Completes (.regwrite ps) s (fun t =>
        (ps = [] → ends t []) ∧
        (∀ a w more, ps = (a, w) :: more → State.regwriteReaches x.die a.toNat = false → fails t 5) ∧
        (∀ a w, ps = [(a, w)] → State.regwriteReaches x.die a.toNat = true →
          let page := State.pageAt a.toNat
          let held := State.holdsEnable a.toNat w
          let v := if held then u.heldValue page w else w
          (u.busWrite .config a.toNat v).st.boot = u.boot →
          (u.wordWriteFails .config a.toNat v = true → fails t 5) ∧
          (u.wordWriteFails .config a.toNat v = false → ends t bytes ∧ (verdict bytes = none →
            (held = true → page ∈ t.boot.heldEn) ∧ t = { (u.busWrite .config a.toNat v).st with boot := t.boot }))))) ∧
    (∀ vs : List Word, x.type = 6 → Completes (.sectorCrc vs) s (fun t =>
      let bytes := vs.flatMap (fun v => leBytes 4 v.toNat)
      (vs.length < 96 → fails t 1) ∧
      (96 ≤ vs.length → ends t bytes ∧ (verdict bytes = none →
        ∀ sec < 96, SMap.read none t.boot.sectorCrcs (sectorKey x.die sec) = vs[sec]?))))) ∧
  (∀ (s : State) (d sec us tile : Nat), isSector d sec = true → tile ≤ 128 →
    let p := Pg.sctl d sec
    let lasting := fun (t : State) => Raised t p Sctl.INT_AUDIT_LASTING ∧
      (s.boot.running = true → s.boot.reload = none → t.bootPhase = 7 ∧ t.boot.running = false ∧
        t.get Pg.hubGlobal HubGlobal.HUB_BOOT_FAIL_REASON = 0xA ∧ t.get Pg.hubGlobal HubGlobal.HUB_BOOT_FAIL_DIE = d) ∧
      (s.boot.running = false → s.boot.reload = none → t.get Pg.safety Safety.SAF_FATAL_AUDIT = 1 ∧ t.gsrActive d sec = true ∧
        t.get p Sctl.STATUS_CONFIGURED = 0)
    let transient := fun (t : State) => Raised t p Sctl.INT_AUDIT_TRANSIENT ∧
      t.get p Sctl.SCTL_AUDIT_CNT_TRANSIENT = satAdd Sctl.SCTL_AUDIT_CNT_TRANSIENT.width (s.get p Sctl.SCTL_AUDIT_CNT_TRANSIENT) 1
    let want := SMap.read none s.boot.sectorCrcs (sectorKey d sec)
    (s.auditRuns d sec = false → Completes (.auditLapDone d sec us) s (fun t => t = s)) ∧
    (s.auditRuns d sec = true → Completes (.auditLapDone d sec us) s (fun t =>
      (s.references d sec = [] → t.references d sec = (List.range 129).map (s.auditCrc d sec) ∧
        (want = none ∨ want = some (s.sectorCrc d sec) → t.get p Sctl.SCTL_AUDIT_SIG_SIG = (s.sectorCrc d sec).toNat) ∧
        (∀ x, want = some x → x ≠ s.sectorCrc d sec → lasting t)) ∧
      (s.references d sec ≠ [] → t.references d sec = s.references d sec ∧
        t.get p Sctl.SCTL_AUDIT_CNT_LAPS = satAdd Sctl.SCTL_AUDIT_CNT_LAPS.width (s.get p Sctl.SCTL_AUDIT_CNT_LAPS) 1 ∧
        (s.flag p Sctl.SCTL_AUDIT_TEST_FLIP_ONCE = true → transient t ∧ t.get p Sctl.SCTL_AUDIT_TEST_FLIP_ONCE = 0)))) ∧
    (∀ clean, Completes (.auditMismatch d sec tile clean) s (fun t =>
      if s.auditRuns d sec = false ∨ s.references d sec = [] then t = s else if clean then transient t else lasting t)))

/-- Clocks (R456 to R463). -/
def Obligations.ReferencesAndPllsSwitchHoldOverAndRelock : Prop :=
  ∀ (s : State) (o : Origin),
    let k := Pg.clock
    let saf := fun (t : State) (f : RegField) => t.flag Pg.safety f = true
    let free := s.flag k Clock.STATUS_FREE_RUN
    let ho := s.flag k Clock.STATUS_HOLDOVER
    (∀ b, Completes (.refclkBad b) s (fun t =>
      if s.flag k (State.refOk b) = false then t = s
      else t.flag k (State.refOk b) = false ∧
        t.get k (State.refBad b) = satAdd (State.refBad b).width (s.get k (State.refBad b)) 1 ∧
        (s.refActive ≠ b2n b → t.refActive = s.refActive ∧ t.clock = s.clock) ∧
        (s.refActive = b2n b → t.clock.relock = [] ∧ (∀ x ∈ s.clock.relock, x.1 < 4 → t.get k Clock.CLK_PLL_RETIRED x.1 = 1) ∧
          (s.flag k (State.refOk (!b)) = true → t.refActive = b2n (!b) ∧ t.flag k Clock.STATUS_HOLDOVER = false ∧ Raised t k Clock.INT_REF_SWITCH) ∧
          (s.flag k (State.refOk (!b)) = false → t.refActive = b2n b ∧ t.flag k Clock.STATUS_HOLDOVER = true)))) ∧
    (let b := s.flag k Clock.CLK_REF_PRIMARY
     Completes .refRevert s (fun t => t.flag k (State.refOk b) = true ∧
      if s.flag k Clock.CLK_REF_REVERTIVE = true ∧ s.refActive = b2n (!b) then
        t.refActive = b2n b ∧ t.flag k Clock.STATUS_HOLDOVER = false ∧ Raised t k Clock.INT_REF_SWITCH
      else t.refActive = s.refActive)) ∧
    Completes .refHoldoverEnd s (fun t =>
      if ho = true ∧ s.flag k (State.refOk false) = false ∧ s.flag k (State.refOk true) = false then
        t.flag k Clock.STATUS_HOLDOVER = false ∧ t.flag k Clock.STATUS_FREE_RUN = true ∧ t.refActive = 2 ∧
        t.get Pg.time Time.TIME_STAT_SOURCE = 1 ∧ Raised t k Clock.INT_REF_LOST ∧ saf t Safety.SAF_WARN_FREE_RUN
      else t = s) ∧
    (∀ b, Completes (.refRecover b) s (fun t => t.flag k (State.refOk b) = true ∧
      if ho = true ∨ free = true then t.flag k Clock.STATUS_HOLDOVER = false ∧ t.flag k Clock.STATUS_FREE_RUN = false ∧
        t.refActive = b2n b ∧ ¬saf t Safety.SAF_WARN_FREE_RUN ∧ t.get Pg.time Time.TIME_STAT_SOURCE = 0
      else t.refActive = s.refActive)) ∧
    (∀ p, p < 4 →
      let role := s.pllRole p
      let lock := fun (t : State) q => t.flag k Clock.CLK_PLL_LOCK q
      let relocks := s.clock.relock.any (fun x => x.1 = p)
      Completes (.pllFail p) s (fun t =>
        if lock s p = false then t = s
        else lock t p = false ∧ Raised t k Clock.INT_PLL_FAIL ∧ t.clock.relock = s.clock.relock ++ [(p, role)] ∧
          t.clock.unserved = s.clock.unserved ++ (if role = 0 ∨ role = 3 then [] else [role]) ∧
          (role ≠ 3 → ∀ q, s.sparePll p = some q → t.pllRole q = role % 2 ^ Clock.CLK_PLL_ROLE.width ∧ t.pllRole p = 3 ∧
            Raised t k Clock.INT_SPARE_IN ∧ lock t q = decide (role = 0)) ∧
          (role ≠ 3 → s.sparePll p = none → (role = 2 → saf t Safety.SAF_WARN_CLOCK) ∧
            (role ≠ 2 → t.get Pg.safety Safety.SAF_FATAL_CLOCK = 1) ∧
            (role = 0 → ∀ d, 1 ≤ d → d ≤ 6 → t.portState d = 0))) ∧
      (∀ holds, Completes (.pllRelockDone p holds) s (fun t =>
        if relocks = false then t = s
        else t.clock.relock = s.clock.relock.filter (fun x => x.1 ≠ p) ∧
          if holds then lock t p = true ∧ t.clock.unserved = s.clock.unserved.filter (· ≠ role) ∧
            t.get k Clock.CLK_PLL_UNLOCKS p = satAdd Clock.CLK_PLL_UNLOCKS.width (s.get k Clock.CLK_PLL_UNLOCKS p) 1
          else t.get k Clock.CLK_PLL_RETIRED p = 1 ∧ saf t Safety.SAF_WARN_CLOCK)) ∧
      Completes (.sparePllLock p) s (fun t =>
        if (role = 1 ∨ role = 2) ∧ s.flag k Clock.CLK_PLL_RETIRED p = false ∧ relocks = false then
          lock t p = true ∧ t.clock.unserved = s.clock.unserved.filter (· ≠ role)
        else t = s)) ∧
    Completes .diePllHoldoverEnd s (fun t => if 1 ∈ s.clock.unserved then t.clock = { s.clock with stopped := true } else t = s) ∧
    (∀ peek, Reaches s o k = true → Completes (.clkSpanCountRead o peek) s (fun t =>
      t.clock.span = (s.clock.span + s.freeVal) % 2 ^ 64 ∧ t.hub.readData = [BitVec.ofNat 32 t.clock.span] ∧
      t.get k Clock.CLK_SPAN_COUNT_HI_COUNT = t.clock.span / 2 ^ 32))

/-- Resets (R464 to R471, R600). -/
def Obligations.ResetsLoseAndKeepWhatR470Says : Prop :=
  ∀ (s : State) (o : Origin),
    let cause := fun (t : State) => t.get Pg.reset Reset.RST_CAUSE_CAUSE
    let counts := fun (t : State) (f : RegField) => t.get Pg.reset f = satAdd f.width (s.get Pg.reset f) 1
    let starts := fun (t : State) (warm : Bool) => t.bootPhase = 0 ∧ t.boot.running = false ∧ t.boot.warm = warm ∧ t.boot.reload = none
    let emptied := fun (t : State) => t.fabric = State.reset.fabric ∧ t.mem = s.mramKept ∧ t.eng = State.reset.eng ∧
      t.skein = State.reset.skein ∧ t.lanes = State.reset.lanes ∧ t.link = State.reset.link ∧ t.crypto = State.reset.crypto ∧
      t.ddr = State.reset.ddr ∧ t.clock = State.reset.clock
    let outer := fun (t : State) (aon : Bool) => ∀ p f i, keyField (fieldKey p f i) = some (f, i) → (f.off + i * f.stride) * 8 + f.lo < 32768 →
      1 ≤ pageDie p → f.home ≠ .mram → f.home ≠ .ledger → f.home ≠ .fuse → (aon = true → f.home ≠ .aon) → t.get p f i = f.reset p i
    let pcc := s.get Pg.time Time.TIME_PCC_PCC
    let rate := s.get Pg.clock Clock.CLK_SPAN_RATE
    let spans := fun (t : State) => t.get Pg.clock Clock.CLK_SPAN_ACTIVE = if rate = 3 then 0 else rate
    let sr := s.resets
    (∀ i ∈ [Instr.por, .brownOut], Completes i s (fun t => emptied t ∧ outer t false ∧ cause t = 1 ∧ starts t false ∧
      t.get Pg.time Time.TIME_PCC_PCC = satAdd 32 pcc 1 ∧ spans t ∧ t.resets = State.reset.resets)) ∧
    Completes .resetNAssert s (fun t =>
      if sr.pin then t = s
      else t.resets = { sr with pin := true, warm := false, hold := 0 } ∧ emptied t ∧ outer t true ∧ cause t = 2 ∧
        spans t ∧ counts t Reset.RST_COUNT_DEVICE) ∧
    Completes .resetNRelease s (fun t =>
      if sr.pin then t.resets = { sr with pin := false } ∧
        (sr.device = false → sr.warm = false → starts t false) ∧ (sr.device = true ∨ sr.warm = true → t.boot = s.boot)
      else t = s) ∧
    Completes .registerResetEnd s (fun t =>
      if sr.device then t.resets = { sr with device := false } ∧ (sr.pin = false → sr.warm = false → starts t false)
      else if sr.warm then t.resets = { sr with warm := false } ∧ starts t true
      else t = s) ∧
    (∀ v : Word, Accepts s o Pg.reset 0x100 v = true →
      let d := bits v.toNat 10 8
      let dom := 16 * d + bits v.toNat 15 12
      (s.power.tripped = true → (bits v.toNat 3 0 = 1 → Completes (.deviceReset o v) s (fun t =>
          t.resets = sr ∧ t.fabric = s.fabric ∧ t.mem = s.mem ∧ cause t = cause s)) ∧
        (bits v.toNat 3 0 = 2 → Completes (.warmReset o v) s (fun t =>
          t.resets = sr ∧ t.fabric = s.fabric ∧ t.mem = s.mem ∧ cause t = cause s))) ∧
      (bits v.toNat 3 0 = 1 → s.power.tripped = false → Completes (.deviceReset o v) s (fun t =>
        t.resets = { sr with device := true, warm := false, hold := 0 } ∧
        emptied t ∧ outer t true ∧ cause t = 3 ∧ spans t ∧ counts t Reset.RST_COUNT_DEVICE)) ∧
      (bits v.toNat 3 0 = 2 → s.power.tripped = false → Completes (.warmReset o v) s (fun t => t.resets = { sr with warm := true } ∧ cause t = 4 ∧
        counts t Reset.RST_COUNT_WARM ∧ t.fabric = State.reset.fabric ∧ t.eng = State.reset.eng ∧
        (∀ e < 64, t.engState e = 0) ∧
        (∀ c < 8, (s.ddrState c = 3 → t.ddrState c = 4) ∧ (s.flag (Pg.crypto c) Crypto.CTL_KEEP_KEYS = false → t.cryptoUnit c = {})))) ∧
      (bits v.toNat 3 0 = 4 → Completes (.dieReset o v) s (fun t => bit t.resets.hold d = true ∧ t.portState d = 0 ∧
        bit (t.get Pg.reset Reset.RST_DIE_STAT_IN_RESET) d = true ∧
        (d ≤ 4 → (∀ i < 16, t.engState (16 * (d - 1) + i) = 0) ∧
          ∀ c, c / 2 + 1 = d → (s.ddrState c = 3 → t.ddrState c = 4) ∧
            (s.flag (Pg.crypto c) Crypto.CTL_KEEP_KEYS = false → t.cryptoUnit c = {})) ∧
        (5 ≤ d → ∀ n < 64, t.laneState (Pg.dieBase d + 0x40 + n) = 0))) ∧
      (bits v.toNat 3 0 = 8 → Completes (.domainReset o v) s (fun t =>
        (∀ c, domChannel dom = some c →
          (s.ddrState c = 3 ∨ s.ddrState c = 4 → (t.ddrState c = 3 ∨ t.ddrState c = 4) ∧ (t.ddrUnit c).filled = (s.ddrUnit c).filled) ∧
          (s.ddrState c ≠ 3 → s.ddrState c ≠ 4 → (t.ddrUnit c).filled = false ∧
            t.ddrState c = b2n (s.flag (Pg.ddr c) Ddr.CTL_EN && decide (s.domState dom = 2)))) ∧
        (∀ die oc, domOctet dom = some (die, oc) → ∀ i < 8, t.laneState (octetLane die oc i) = 0)))) ∧
    (∀ d, isPort d = true →
      Completes (.dieResetHoldEnd d) s (fun t =>
        if bit sr.hold d then bit t.resets.hold d = false ∧ t.portState d = 1 else t = s) ∧
      Completes (.dieResetRelease d) s (fun t =>
        if bit (s.get Pg.reset Reset.RST_DIE_STAT_IN_RESET) d = true ∧ bit sr.hold d = false ∧ s.portActive d = true then
          bit (t.get Pg.reset Reset.RST_DIE_STAT_IN_RESET) d = false ∧ bit (t.get Pg.reset Reset.RST_DIE_STAT_HELD) d = false
        else t = s))

/-- Votes and domain states (R474 to R484). -/
def Obligations.PowerDomainsFollowTheirVotes : Prop :=
  ∀ (s : State) (o : Origin),
    let p := Pg.powerCtl
    let dp := Pg.powerDom
    let st := s.domState
    let quiet := s.power.hibernate = 0 ∧ s.power.tripped = false
    let childrenOff := fun d => ∀ c ∈ domChildren d, st c = 0
    let counts := fun (t : State) (f : RegField) d => t.get dp f d = satAdd f.width (s.get dp f d) 1
    let drops := fun d => votable d = true ∧ st d = 2 ∧ (s.isForced d = true ∨ (s.wanted d = false ∧ SMap.read false s.power.aborted d = false)) ∧
      childrenOff d
    (∀ v : Word, Accepts s o p 0x100 v = true →
      let d := bits v.toNat 6 0
      let client := bits v.toNat 20 16
      (bit v.toNat 31 = true → Completes (.voteCast o v) s (fun t => bit (t.votes d) client = true ∧
        (bit (s.votes d) client = false → SMap.read false t.power.aborted d = false ∧
          (st d = 3 → s.isForced d = false → t.domState d = 2) ∧
          (st d = 0 → st (domParent d) = 2 → s.heldDown d = false → quiet → t.domState d = 1)))) ∧
      (bit v.toNat 31 = false → Completes (.voteWithdraw o v) s (fun t => bit (t.votes d) client = false ∧
        (bit (s.votes d) client = true → s.votes d = 2 ^ client →
          ((∀ c ∈ domChildren d, s.wanted c = false) → st d = 2 → childrenOff d → SMap.read false s.power.aborted d = false →
            t.domState d = 3) ∧
          (∀ c, (domChildren d).find? (fun c => s.votes c ≠ 0) = some c → (∀ e ∈ domChildren d, domChildren e = []) →
            counts t PowerDom.DOM_CNT_REFUSED d ∧ Raised t p PowerCtl.INT_REFUSED ∧ t.domState d = st d ∧
            t.get dp PowerDom.DOM_REF_KIND d = 1 ∧ t.get dp PowerDom.DOM_REF_ID d = c % 2 ^ PowerDom.DOM_REF_ID.width))))) ∧
    (∀ v : Word, Accepts s o p 0x104 v = true →
      let d := bits v.toNat 6 0
      Completes (.drop o v) s (fun t =>
        bit v.toNat 8 = true → s.wanted d = false → st d = 2 → childrenOff d → t.domState d = 3)) ∧
    (∀ d, isDomain d = true → 2 ≤ d →
      (drops d → Completes (.domainDrop d) s (fun t => t.domState d = 3)) ∧
      (¬drops d → Completes (.domainDrop d) s (fun t => t = s)) ∧
      Completes (.domainIsolate d) s (fun t => if st d = 3 ∧ s.undrained d = [] then t.domState d = 4 else t = s) ∧
      Completes (.domainOff d) s (fun t =>
        (st d = 4 → SMap.read false t.power.aborted d = false ∧ t.isForced d = false ∧
          (s.wanted d = false ∨ s.heldDown d = true ∨ ¬quiet → t.domState d = 0) ∧
          (t.domState d = 0 ∨ t.domState d = 1)) ∧
        (st d ≠ 4 → s.power.tripped = false → t = s)) ∧
      Completes (.pwrAborted d) s (fun t =>
        (st d ≠ 3 ∨ s.isForced d = true → t = s) ∧
        (∀ e rest, st d = 3 → s.isForced d = false → s.undrained d = e :: rest → t.domState d = 2 ∧
          counts t PowerDom.DOM_CNT_ABORTED d ∧ t.get dp PowerDom.DOM_REF_KIND d = 2 ∧
          t.get dp PowerDom.DOM_REF_ID d = e % 2 ^ PowerDom.DOM_REF_ID.width ∧ Raised t p PowerCtl.INT_ABORTED) ∧
        (∀ id, st d = 3 → s.isForced d = false → s.undrained d = [] → (d = 3 ∧ id = Pg.ply) ∨ (∃ c, domChannel d = some c ∧ id = Pg.ddr c) →
          t.domState d = 2 ∧ counts t PowerDom.DOM_CNT_ABORTED d ∧ t.get dp PowerDom.DOM_REF_KIND d = 3 ∧ t.get dp PowerDom.DOM_REF_ID d = id)) ∧
      Completes (.forcedDrop d) s (fun t =>
        if st d = 3 ∧ s.isForced d = true then t.domState d = 4 ∧ counts t PowerDom.DOM_STATE_FORCED d ∧ Raised t p PowerCtl.INT_FORCED
        else t = s) ∧
      Completes (.domainRaise d) s (fun t =>
        if votable d = true ∧ st d = 0 ∧ s.wanted d = true ∧ s.heldDown d = false ∧ s.power.hibernate = 0 ∧ s.power.tripped = false ∧
          st (domParent d) = 2 then t.domState d = 1 ∧ (∀ e, isDomain e = true → e ≠ d → t.domState e = st e)
        else t = s) ∧
      Completes (.domainUp d) s (fun t =>
        (st d ≠ 1 → t = s) ∧
        (st d = 1 → s.wanted d = true → s.isForced d = false → s.heldDown d = false → t.domState d = 2) ∧
        (st d = 1 → s.heldDown d = true → childrenOff d → t.domState d = 3 ∧ t.isForced d = true)) ∧
      Completes (.wakeHoldExpire d) s (fun t => if st d = 2 then bit (t.votes d) 5 = false else t = s))

/-- HIBERNATE, wakes, warnings and temperatures (R485 to R493, R587, R588, R595). -/
def Obligations.HibernateWakesWarningsAndTemperaturesAct : Prop :=
  ∀ (s : State) (o : Origin),
    let p := Pg.powerCtl
    let st := s.domState
    let allOff := ∀ d ∈ domains, 2 ≤ d → st d = 0
    let forced := fun (t : State) d => t.isForced d = true
    let cause := fun (t : State) k => bit (t.get p PowerCtl.PWR_WAKE_CAUSE_CAUSE) k = true
    let saf := fun (t : State) (f : RegField) => t.flag Pg.safety f = true
    let temps := fun (t : State) (ts : List (BitVec 16)) => ∀ k < 7,
      let x := fun (i : Nat) => (ts.getD (3 * k + i) 0).toInt
      t.get Pg.thermal Thermal.THM_DIE_TEMP k = match s.sensorsLeft k with
        | [a, b, c] => (BitVec.ofInt 16 (max (min (x a) (x b)) (min (max (x a) (x b)) (x c)))).toNat
        | [a, b] => (BitVec.ofInt 16 (max (x a) (x b))).toNat
        | [a] => (BitVec.ofInt 16 (x a)).toNat
        | _ => s.get Pg.thermal Thermal.THM_DIE_TEMP k
    (∀ v : Word, Accepts s o p 0x108 v = true → bit v.toNat 0 = true → Completes (.hibernate o v) s (fun t =>
      (s.power.hibernate = 0 → t.power.hibernate = 1 ∧ (∀ d ∈ domains, 2 ≤ d → st d = 2 → forced t d) ∧
        ∀ c < 8, s.flag Pg.powerDom PowerDom.DOM_STATE_KEEP_DRAM (16 * (c / 2 + 1) + 2 + c % 2) = true → s.ddrState c = 3 →
          t.ddrState c = 4 ∧ bit (t.get p PowerCtl.PWR_HIB_STAT_SR_HELD) c = true) ∧
      (s.power.hibernate ≠ 0 → t.power = s.power))) ∧
    ((s.power.hibernate = 1 ∧ allOff → Completes .hibernateEntryDone s (fun t => t.power.hibernate = 2 ∧ t.domState 1 = 0 ∧
        t.get Pg.supply Supply.PWR_REG_STAT_LOW_POWER = 1 ∧ t.get Pg.time Time.TIME_STAT_SOURCE = 2 ∧ t.events.stage = [])) ∧
      (¬(s.power.hibernate = 1 ∧ allOff) → Completes .hibernateEntryDone s (fun t => t = s))) ∧
    Completes .alarm s (fun t =>
      if s.flag p PowerCtl.PWR_ALARM_CTL_EN = true ∧ s.alarmAt ≤ s.events.opsec then
        t.get p PowerCtl.PWR_ALARM_CTL_FIRED = 1 ∧ t.get p PowerCtl.PWR_ALARM_CTL_EN = 0 ∧ cause t 0 ∧
        (s.power.hibernate ≠ 2 → Raised t p PowerCtl.INT_ALARM)
      else t = s) ∧
    Completes .wakePin s (fun t => cause t 1 ∧ (s.power.hibernate = 0 → Raised t p PowerCtl.INT_WAKE_PIN)) ∧
    Completes .i2cWake s (fun t => cause t 2) ∧
    Completes .plyWake s (fun t => cause t 3) ∧
    Completes .wake s (fun t =>
      if s.power.hibernate = 2 ∧ s.power.tripped = false ∧
        s.get p PowerCtl.PWR_WAKE_CAUSE_CAUSE &&& s.get p PowerCtl.PWR_WAKE_EN_EN ≠ 0 then
        t.power.hibernate = 0 ∧ t.get Pg.reset Reset.RST_CAUSE_CAUSE = 7 ∧ t.bootPhase = 0 ∧ t.fabric = State.reset.fabric ∧
        t.mem = s.mramKept ∧ t.crypto = State.reset.crypto ∧ ∀ c < 8, s.ddrState c = 4 →
          t.ddrState c = 4 ∧ t.ddrUnit c = s.ddrUnit c ∧
          ∀ a < 2 ^ 40, SMap.read none t.ddr.lines (State.ddrLineKey c a) = SMap.read none s.ddr.lines (State.ddrLineKey c a)
      else t = s) ∧
    (∀ vaon (rails : BitVec 16),
      let mask := if s.power.hibernate = 2 then 0 else rails.toNat
      Completes (.pwrWarn vaon rails) s (fun t => t.power.vaonWarn = (s.power.vaonWarn || vaon) ∧
      t.power.railWarn = (s.power.railWarn ||| mask) % 65536 ∧
      (s.supplyWarning = true → RegsSameBut s t []) ∧
      (s.supplyWarning = false → vaon = true ∨ mask ≠ 0 →
        t.get Pg.supply Supply.PWR_WARN_CNT_COUNT = satAdd Supply.PWR_WARN_CNT_COUNT.width (s.get Pg.supply Supply.PWR_WARN_CNT_COUNT) 1 ∧
        Raised t p PowerCtl.INT_WARN ∧ saf t Safety.SAF_WARN_SUPPLY ∧
        ∀ d ∈ domains, votable d = true → s.shedBit d = true → st d = 2 → forced t d))) ∧
    Completes .pwrWarnClear s (fun t =>
      if s.supplyWarning = true ∧ s.flag Pg.supply Supply.PWR_SUPPLY_TEST_FORCE_WARN = false then
        t.supplyWarning = false ∧ ¬saf t Safety.SAF_WARN_SUPPLY ∧ Raised t p PowerCtl.INT_WARN_CLEAR
      else t = s) ∧
    (∀ ts : List (BitVec 16), ts.length = 21 →
      let warn := fun (t : State) => t.flag Pg.thermal Thermal.THM_STAT_WARN
      let now := s.temps ts
      Completes (.thermalWarning ts) s (fun t => temps t ts ∧
        (warn s = true ∨ now.junction < s.warnTemp → t = now) ∧
        (warn s = false → s.warnTemp ≤ now.junction → warn t = true ∧ Raised t Pg.thermal Thermal.INT_THERM_WARN ∧
          (s.flag Pg.thermal Thermal.THM_CTL_SHED_EN = true → ∀ d ∈ domains, votable d = true → s.shedBit d = true → st d = 2 → forced t d))) ∧
      Completes (.thermalWarningEnd ts) s (fun t => temps t ts ∧
        (warn s = true → now.junction ≤ s.warnTemp - 80 → s.power.tripped = false →
          warn t = false ∧ Raised t Pg.thermal Thermal.INT_THERM_CLEAR) ∧
        (warn s = false ∨ s.warnTemp - 80 < now.junction ∨ s.power.tripped = true → t = now)) ∧
      Completes (.safThermalTrip ts) s (fun t => temps t ts ∧
        (s.power.tripped = false → 2000 ≤ now.junction → t.power.tripped = true ∧ t.get Pg.thermal Thermal.THM_STAT_TRIPPED = 1 ∧
          t.get Pg.safety Safety.SAF_FATAL_THERMAL = 1 ∧ ∀ d ∈ domains, 2 ≤ d → st d = 2 → forced t d) ∧
        (now.junction < 2000 → t.power = s.power))) ∧
    (∀ d g bad, 1 ≤ d → d ≤ 4 → g < 4 → Completes (.vccoBad d g bad) s (fun t =>
      t.get (Pg.dieCtl d) DieCtl.GPIO_BANK_VCCO_BAD g = b2n bad ∧ RegsSameBut s t [fieldKey (Pg.dieCtl d) DieCtl.GPIO_BANK_VCCO_BAD g]))

/-- Sessions and the mailbox (R496 to R516). -/
def Obligations.MailboxRequestsAreServedAndSessionsGuarded : Prop :=
  ∀ (s : State),
    let m := Pg.monitor
    let waits := s.mbBusy = true ∧ s.dbg.forwarded = false ∧ s.dbg.transfer = none
    let b := (s.mbReq (8 + s.mbBlen)).drop 8
    let served := fun cmd => waits ∧ s.mbCmd = cmd ∧ s.mbBlen ≤ 1016 ∧ mbLayout cmd b = true ∧ s.dbg.key = none
    let answered := fun (t : State) (status detail n : Nat) => t.get m Monitor.DBG_MB_STAT_BUSY = 0 ∧ t.get m Monitor.DBG_MB_STAT_RESP = 1 ∧
      Raised t m Monitor.INT_MB_RESP ∧ t.get m Monitor.DBG_MB_RSP_DATA 0 = status + 256 * detail + 65536 * n
    let ended := fun (t : State) => t.sessionOpen = false ∧ t.dbg.key = none ∧ t.dbg.transfer = none ∧ Raised t m Monitor.INT_SESSION_END ∧
      ∀ p, SMap.find s.hub.expertOrigin p = some (some .debug) → t.get p Hdr.EXPERT_KEY_STATE = 0
    let failed := fun (t : State) => answered t 3 0 0 ∧ t.dbg.opening = none ∧ t.sessionOpen = s.sessionOpen ∧ t.dbg.failedAt = s.events.opsec ∧
      Raised t m Monitor.INT_AUTH_FAIL ∧
      t.get m Monitor.DBG_STATUS_AUTH_FAILS = satAdd Monitor.DBG_STATUS_AUTH_FAILS.width (s.get m Monitor.DBG_STATUS_AUTH_FAILS) 1
    let opened := fun (t : State) (level : Nat) (key : Option (BitVec 256)) => answered t 0 0 0 ∧ t.sessionOpen = true ∧
      t.get m Monitor.DBG_SESSION_LEVEL = level % 2 ^ Monitor.DBG_SESSION_LEVEL.width ∧
      t.get m Monitor.DBG_SESSION_ORIGIN = originCode s.dbg.origin ∧ t.get m Monitor.DBG_SESSION_PASSWORD = b2n key.isNone ∧
      t.get m Monitor.DBG_STATUS_AUTH_FAILS = 0 ∧ t.dbg.key = key ∧ t.dbg.lastSeq = 0 ∧ t.dbg.opening = none
    let field := fun o n => leNat ((b.drop o).take n)
    (∀ cmd i, (cmd, i) ∈ [(1, Instr.openSession), (2, .authKey), (3, .authPw), (4, .closeSession), (0x10, .mbRd), (0x11, .mbWr), (0x12, .memrd),
        (0x13, .memwr)] →
      (¬waits ∨ s.mbCmd ≠ cmd → Completes i s (fun t => t = s)) ∧
      (cmd ∈ [4, 0x10, 0x11, 0x12, 0x13] → served cmd → s.sessionOpen = false → Completes i s (fun t => answered t 9 0 0)) ∧
      (∀ k, waits → s.mbCmd = cmd → s.dbg.key = some k → s.sessionOpen = true →
        let n := s.mbBlen
        let good := n ≤ 1000 ∧ Gcm.tag k (leBytes 4 0 ++ leBytes 4 s.mbSeq ++ leBytes 4 0) (s.mbReq 8) b = (s.mbReq (24 + n)).drop (8 + n)
        (¬good → Completes i s (fun t => answered t 4 0 0 ∧
          (s.dbg.tagFails + 1 < 3 → t.dbg.tagFails = s.dbg.tagFails + 1 ∧ t.sessionOpen = true) ∧ (3 ≤ s.dbg.tagFails + 1 → ended t))) ∧
        (good → s.mbSeq ≠ s.dbg.lastSeq + 1 → Completes i s (fun t => answered t 5 0 0 ∧ t.dbg.lastSeq = s.dbg.lastSeq)))) ∧
    (served 1 → Completes .openSession s (fun t =>
      (s.sessionOpen = true → answered t 6 0 0) ∧
      (s.sessionOpen = false → s.lockout ≠ 0 → answered t 8 0 0) ∧
      (s.sessionOpen = false → s.lockout = 0 → answered t 0 0 32 ∧ ∃ x, t.dbg.opening = some x ∧ x.level = (b.getD 0 0).toNat ∧
        x.method = (b.getD 1 0).toNat ∧ x.nonce = BitVec.ofNat 256 s.freeVal))) ∧
    (served 2 → Completes .authKey s (fun t =>
      ((∀ a, s.dbg.opening = some a → a.method ≠ 1) → answered t 9 0 0 ∧ t.sessionOpen = s.sessionOpen) ∧
      (∀ a, s.dbg.opening = some a → a.method = 1 →
        let nonce := leBytes 32 a.nonce.toNat
        (s.authKeyOk nonce b = false ∨ State.sessionKey nonce b = none → failed t) ∧
        (∀ k, s.authKeyOk nonce b = true → State.sessionKey nonce b = some k → opened t (min a.level ((b.getD 6 0).toNat)) (some k))))) ∧
    (served 3 → Completes .authPw s (fun t =>
      ((∀ a, s.dbg.opening = some a → a.method ≠ 2) → answered t 9 0 0 ∧ t.sessionOpen = s.sessionOpen) ∧
      (∀ a, s.dbg.opening = some a → a.method = 2 →
        if Config.fuseLab = true ∧ beNat (Sha.sha384 (b ++ leBytes 8 Config.hallmarkId.toNat)) = Config.passwordHash.toNat
        then opened t (min a.level 3) none else failed t))) ∧
    (served 4 → s.sessionOpen = true → Completes .closeSession s (fun t => answered t 0 0 0 ∧ ended t)) ∧
    (served 0x10 → s.sessionOpen = true → Completes .mbRd s (fun t =>
      let noPeek := bit (s.mbHead 1) 0
      (noPeek = true → s.sessionLevel ≠ 3 → answered t 2 0 0) ∧
      (¬(noPeek = true ∧ s.sessionLevel ≠ 3) → answered t 0 0 (4 * (b.getD 4 0).toNat) ∧
        ((b.getD 4 0).toNat = 1 →
          t.get m Monitor.DBG_MB_RSP_DATA 2 = (s.busRead .debug (field 0 4) (s.peekOf .debug (!noPeek))).data.toNat)))) ∧
    (served 0x11 → s.sessionOpen = true →
      let full := (List.range (b.length / 8)).any (fun i => State.needsFull (field (8 * i) 4) (field (8 * i + 4) 4))
      Completes .mbWr s (fun t => answered t (if s.sessionLevel < 2 ∨ (full = true ∧ s.sessionLevel < 3) then 2 else 0) 0 0 ∧
      (b.length = 8 → ∀ p f i, (f.off + i * f.stride) * 8 + f.lo < 32768 → p ≠ m → p ≠ Pg.ply →
        t.get p f i = (s.busWrite .debug (field 0 4) (BitVec.ofNat 32 (field 4 4))).st.get p f i))) ∧
    (∀ w, served (if w then 0x13 else 0x12) → s.sessionOpen = true → Completes (if w then .memwr else .memrd) s (fun t =>
      (field 0 2 = 0x600 → answered t 1 0 0) ∧
      (field 0 2 ≠ 0x600 → w = true → s.sessionLevel < 2 → answered t 2 0 0) ∧
      (field 0 2 ≠ 0x600 → (w = true → 2 ≤ s.sessionLevel) → t.mbBusy = true ∧ ∃ x, t.dbg.transfer = some x ∧ x.write = w ∧
        x.ep = field 0 2 ∧ x.offset = field 2 6 ∧ x.length = field 8 2 ∧ (w = true → x.data = b.drop 10) ∧ x.fail = none))) ∧
    (¬waits → Completes .badCmd s (fun t => t = s)) ∧
    (waits → s.dbg.key = none → s.mbBlen ≤ 1016 → Completes .badCmd s (fun t =>
      (mbLayout s.mbCmd b = false → answered t 1 0 0) ∧ (mbLayout s.mbCmd b = true → t = s))) ∧
    (let ptr := s.dbg.ptr
     let lane := 8 * (ptr % 4)
     (∀ x : Byte, ptr < 1024 → Completes (.mbReqData x) s (fun t =>
        if s.pathUp .i2c = false ∨ s.mbAdmits .i2c = false then t.hub.nack = true ∧ t.dbg = s.dbg ∧ RegsSameBut s t []
        else bits (t.get m Monitor.DBG_MB_REQ_DATA (ptr / 4)) (lane + 7) lane = x.toNat ∧ t.dbg.ptr = (ptr + 1) % 1024 ∧ t.hub.nack = false)) ∧
     Completes .mbRspData s (fun t =>
      (s.pathUp .i2c = false → t.hub.nack = true ∧ t.dbg = s.dbg) ∧
      (s.pathUp .i2c = true → t.dbg.ptr = (ptr + 1) % 1024 ∧ RegsSameBut s t [] ∧
        (ptr < 512 → t.hub.readData = [BitVec.ofNat 32 (bits (s.get m Monitor.DBG_MB_RSP_DATA (ptr / 4)) (lane + 7) lane)])))) ∧
    (∀ cmd : Byte, Completes (.ptrReset cmd) s (fun t =>
      let go := bit cmd.toNat 0
      (s.pathUp .i2c = false ∨ (go = true ∧ s.mbAdmits .i2c = false) → t.hub.nack = true ∧ t.dbg = s.dbg ∧ RegsSameBut s t []) ∧
      (¬(s.pathUp .i2c = false ∨ (go = true ∧ s.mbAdmits .i2c = false)) →
        t.dbg.ptr = (if bit cmd.toNat 1 then 0 else s.dbg.ptr) ∧
        (go = true → s.mbBusy = false → t.mbBusy = true ∧ t.get m Monitor.DBG_MB_STAT_RESP = 0 ∧ t.dbg.origin = .i2c)))) ∧
    Completes .sessionIdleTimeout s (fun t =>
      if s.get m Monitor.DBG_IDLE_LIMIT_LIMIT ≤ s.get m Monitor.DBG_SESSION_IDLE_S ∧ s.sessionOpen = true then ended t else t = s)

/-- The recorder, elapsed time and the sensors (R524 to R535, R569, R585). -/
def Obligations.RecordsAreStagedSuppressedAndWritten : Prop :=
  ∀ (s : State) (o : Origin),
    let q := Pg.recorder
    let next := s.get q Recorder.EVT_NEXT_SEQ_SEQ
    let burst := s.get q Recorder.EVT_RATE_BURST
    let room := fun sev size => s.stageLevel + size ≤ (if sev = 4 then 8192 else 7680)
    (∀ (code : BitVec 16) (sev : BitVec 3) page detail, (pageKind page).isSome = true → sev.toNat ≤ 4 →
      let cls := code.toNat / 256
      let b := s.bucket cls
      let taken := sev.toNat = 4 ∨ cls = 1 ∨ min b.tokens burst ≠ 0
      Completes (.eventStage code sev page detail) s (fun t =>
        (taken → room sev.toNat 32 → ∃ r rest, t.events.stage = s.events.stage ++ r :: rest ∧ r.code = code.toNat ∧ r.severity = sev.toNat ∧
          r.source = page ∧ r.seq = next ∧ r.suppressed = b.pending ∧ r.opsec = s.events.opsec ∧
          r.payload = leBytes 4 (s.intStatus page) ++ leBytes 4 detail.toNat ∧ r.length = 8 ∧
          (next + 1 < 2 ^ 32 → rest = [] ∧ t.get q Recorder.EVT_NEXT_SEQ_SEQ = next + 1) ∧ (t.bucket cls).pending = 0) ∧
        (taken → ¬room sev.toNat 32 → t.events.stage = s.events.stage ∧ t.events.lostBefore = true ∧ Raised t q Recorder.INT_LOST ∧
          t.get q Recorder.EVT_STAGE_LOST = satAdd Recorder.EVT_STAGE_LOST.width (s.get q Recorder.EVT_STAGE_LOST) 1) ∧
        (¬taken → t.events.stage = s.events.stage ∧ RegsSameBut s t [] ∧ (t.bucket cls).pending = satAdd 8 b.pending 1 ∧
          (t.bucket cls).total = satAdd 16 b.total 1 ∧ (t.bucket cls).sev = max b.sev sev.toNat))) ∧
    Completes .recordToRing s (fun t =>
      (s.events.stage = [] → t = s) ∧
      (∀ r rest, s.events.stage = r :: rest →
        let h := s.get q Recorder.EVT_HEAD_HEAD
        t.events.stage = rest ∧ t.get q Recorder.EVT_HEAD_HEAD = (h + r.size) % 2 ^ Recorder.EVT_HEAD_HEAD.width ∧
        (s.get q Recorder.EVT_NOTIFY_SEV ≤ r.severity → Raised t q Recorder.INT_NOTIFY) ∧
        (r.bytes.length ≤ ringSize → ∀ i b, r.bytes[i]? = some b → t.ringByte (h + i) = b))) ∧
    (∀ cls : Byte, let b := s.bucket cls.toNat
      Completes (.tokenRefill cls) s (fun t =>
        (min b.tokens burst = 0 → b.pending ≠ 0 → (t.bucket cls.toNat).tokens = 1 ∧
          (room b.sev 24 → (t.bucket cls.toNat).pending = 0 ∧ Raised t q Recorder.INT_SUPPRESSED ∧
            ∃ r rest, t.events.stage = s.events.stage ++ r :: rest ∧
              r.code = 256 * cls.toNat ∧ r.suppressed = b.pending ∧ r.severity = b.sev ∧ r.length = 0) ∧
          (¬room b.sev 24 → (t.bucket cls.toNat).pending = b.pending ∧ t.events.stage = s.events.stage)) ∧
        (¬(min b.tokens burst = 0 ∧ b.pending ≠ 0) → (t.bucket cls.toNat).tokens = min (min b.tokens burst + 1) burst ∧
          (t.bucket cls.toNat).pending = b.pending ∧ t.events.stage = s.events.stage))) ∧
    (∀ v : Word, Accepts s o q 0x120 v = true →
      let code := bits v.toNat 31 16
      let sev := bits v.toNat 2 0
      let n := bits v.toNat 15 8
      Completes (.evtSwCmd o v) s (fun t =>
        (sev = 4 ∨ min (s.bucket (code / 256)).tokens burst ≠ 0 → room sev (24 + padded n) → next + 1 < 2 ^ 32 →
          ∃ r, t.events.stage = s.events.stage ++ [r] ∧ r.code = code ∧ r.severity = sev ∧ r.source = 0x4000 + originCode o ∧
            r.length = n ∧ r.seq = next ∧ ∀ k < 14, 4 * k + 4 ≤ n →
              (r.payload.drop (4 * k)).take 4 = leBytes 4 (s.get q Recorder.EVT_SW_PAYLOAD_DATA k)))) ∧
    (∀ ts : List (BitVec 16), ts.length = 21 → Completes (.operatingSecond ts) s (fun t =>
      let n := min (s.events.life + State.lifeWeight (s.temps ts).junction) (2 ^ 48 - 1)
      t.events.opsec = (s.events.opsec + 1) % 2 ^ 48 ∧ t.events.life = n ∧
      (State.lifeBudget ≤ n → t.flag Pg.thermal Thermal.THM_STAT_LIFE_OVER = true ∧
        (s.flag Pg.thermal Thermal.THM_STAT_LIFE_OVER = false → Raised t Pg.thermal Thermal.INT_LIFE_OVER)) ∧
      (s.sessionOpen = true → t.get Pg.monitor Monitor.DBG_SESSION_IDLE_S =
        satAdd Monitor.DBG_SESSION_IDLE_S.width (s.get Pg.monitor Monitor.DBG_SESSION_IDLE_S) 1))) ∧
    Completes .checkpoint s (fun t => (s.events.opsec < 2 ^ 48 → t.lastCheckpoint = s.events.opsec) ∧ t.events.lifeCkpt = s.events.life ∧
      t.get Pg.time Time.TIME_STAT_RESUMED = 0) ∧
    (∀ peek, Reaches s o Pg.time = true → Completes (.timeOpsRead o peek) s (fun t =>
      t.hub.readData = [BitVec.ofNat 32 s.events.opsec] ∧
      t.get Pg.time Time.TIME_OPS_HI_OPS = s.events.opsec / 2 ^ 32 % 2 ^ Time.TIME_OPS_HI_OPS.width)) ∧
    (∀ d i, isSensor d i = true →
      let k := 3 * d + i
      let retired := fun (t : State) n => bit (t.get Pg.safety Safety.SAF_TEMP_SENS_RETIRED) n
      Completes (.sensorSuspect d i) s (fun t =>
        if retired s k = true ∨ k ∈ s.safety.suspects then t = s else t.safety.suspects = s.safety.suspects ++ [k]) ∧
      (∀ failed (ts : List (BitVec 16)), ts.length = 21 →
        let differs := ∃ v, s.dieTemp d ts = some v ∧
          if (s.sensorsLeft d).length = 1 then failed = true else 80 < ((ts.getD k 0).toInt - v).natAbs
        Completes (.sensorRetry d i failed ts) s (fun t =>
        (k ∉ s.safety.suspects → t = s) ∧
        (k ∈ s.safety.suspects → k ∉ t.safety.suspects ∧
          (¬differs → ∀ n, retired t n = retired s n) ∧
          (differs → retired t k = true ∧ t.flag Pg.safety Safety.SAF_WARN_SPARE = true ∧
            ((∀ j < 3, j ≠ i → retired s (3 * d + j) = true) → t.get Pg.safety Safety.SAF_FATAL_TEMP = 1))))))

/-- Links and frames (R537 to R547). -/
def Obligations.PlyLinksKeyAcceptInOrderAndFail : Prop :=
  ∀ (s : State),
    let g := Pg.ply
    let has := fun (t : State) p (q : PlyFrame → Prop) => ∃ x, q x ∧
      (x ∈ (t.plyPort p).queue ∨ ∃ n ack, (n, PlyWire.sealed (t.plyPort p).keyTx x ack n) ∈ (t.plyPort p).sent)
    let quiet := fun (t : State) p => t.get g Ply.PLY_LINK_TRANSIENT p = s.get g Ply.PLY_LINK_TRANSIENT p ∧
      t.get g Ply.PLY_LINK_LASTING p = s.get g Ply.PLY_LINK_LASTING p ∧ t.plyLink p = s.plyLink p
    let keying := fun (t : State) p => t.plyLink p = 2 ∧ (t.plyPort p).hello = none ∧ (t.plyPort p).authFails = (s.plyPort p).authFails ∧
      t.plyPort (1 - p) = s.plyPort (1 - p) ∧ RegsSameBut s t [fieldKey g Ply.PLY_LINK_STATE p] ∧
      ∃ k, 1 ≤ (t.plyPort p).eph ∧ (t.plyPort p).eph < P384.n ∧ (t.plyPort p).helloOut = PlyWire.hello (t.plyPort p).eph (leBytes 32 k)
    (∀ p < 2,
      let x := s.plyPort p
      Completes (.plyLinkTrained p) s (fun t =>
        if s.plyPowered = true ∧ s.plyLink p ≤ 1 ∧ x.held = false then keying t p else t = s) ∧
      (∀ payload, Completes (.hello p payload) s (fun t =>
        if s.plyLink p = 2 ∧ payload.length = 376 then (t.plyPort p).hello = some payload ∧ RegsSameBut s t [] ∧
          ∃ k, (t.plyPort p).sigOut = P384.sign Config.hallmarkKey.toNat (1 + k % (P384.n - 1)) (x.helloOut ++ payload)
        else t = s)) ∧
      (∀ sig : List Byte, sig.length = 96 → Completes (.helloSig p sig) s (fun t =>
        let n := x.authFails + 1
        (s.plyLink p ≠ 2 ∨ x.hello = none → t = s) ∧
        (∀ peer, s.plyLink p = 2 → x.hello = some peer →
          (∀ keys, PlyWire.accepts x.helloOut peer sig = true → PlyWire.linkKeys p x.eph x.helloOut peer = some keys →
            t.plyUp p = true ∧ (t.plyPort p).last = 0 ∧ (t.plyPort p).authFails = 0 ∧
            (t.plyPort p).keyTx = keys.1 ∧ (t.plyPort p).keyRx = keys.2 ∧
            (s.plyUp (1 - p) = true → s.isManager = true → s.plyRing ≠ 5 → t.plyRing = if s.plyRing = 3 then 3 else 1) ∧
            (s.plyUp (1 - p) = true → s.isManager = false →
              t.plyRing = if s.plyRing = 3 then 2 else if s.plyRing = 0 ∨ s.plyRing = 4 then 1 else s.plyRing) ∧
            (s.plyUp (1 - p) = false → t.plyRing = s.plyRing)) ∧
          (PlyWire.accepts x.helloOut peer sig = false ∨ PlyWire.linkKeys p x.eph x.helloOut peer = none →
            t.plyLink p = 0 ∧ (t.plyPort p).authFails = n ∧ (t.plyPort p).hello = none ∧
            ((t.plyPort p).held = true ↔ 2 ≤ n) ∧ (2 ≤ n → Raised t g Ply.INT_LINK_FAIL))))) ∧
      Completes (.plyAuthRetry p) s (fun t =>
        if s.plyPowered = true ∧ s.plyLink p = 0 ∧ x.authFails = 1 ∧ x.held = false then keying t p else t = s) ∧
      Completes (.plyLinkSilence p) s (fun t =>
        (s.plyUp p = false → t = s) ∧
        (s.plyUp p = true → t.plyLink p = 0 ∧ t.plyPort p = {} ∧ Raised t g Ply.INT_LINK_FAIL ∧
          (s.plyRing = 1 ∨ s.plyRing = 2 ∨ s.plyRing = 3 → t.plyRing = 3 ∧ Raised t g Ply.INT_WRAP) ∧
          (s.plyUp (1 - p) = true → ∀ y ∈ x.queue, has t (1 - p) (· = y))))) ∧
    (∀ (f : PlyRx), frameOk f = true →
      let x := s.plyPort f.port
      let naks := fun (t : State) => has t f.port (fun y => y.type = 4 ∧ y.payload = leBytes 8 (x.last + 1))
      let ready := s.plyPowered = true ∧ s.plyUp f.port = true
      let good := fun (type : Nat) (b : List Byte) => ready ∧ f.fctr = x.last + 1 ∧ PlyWire.opened x.keyRx type f = some b
      let covered := fun n => ∃ d < 32768, (n + d) % 65536 = f.ack % 65536
      (∀ type i, (type, i) ∈ [(3, Instr.plyIdle f), (4, .plyNak f), (0x20, .mgmtReq f), (0x21, .mgmtRsp f), (0x10, .cfgStart f), (0x11, .cfgData f),
          (0x12, .cfgEnd f), (0x13, .cfgReq f), (0x30, .plyEvent f), (0x40, .epoch f), (0x50, .debugReq f), (0x51, .debugRsp f),
          (0x61, .bootReport f), (5, .discover f true []), (5, .discover f false [])] →
        (¬ready → Completes i s (fun t => t = s)) ∧
        (ready → f.fctr ≠ x.last + 1 → Completes i s (fun t => (t.plyPort f.port).last = x.last ∧
          (t.plyPort f.port).failed = (x.failed || decide (x.last < f.fctr)) ∧ naks t ∧ quiet t f.port)) ∧
        (ready → f.fctr = x.last + 1 → PlyWire.opened x.keyRx type f = none → x.failed = false → Completes i s (fun t =>
          (t.plyPort f.port).last = x.last ∧ (t.plyPort f.port).failed = true ∧ naks t ∧ quiet t f.port)) ∧
        (ready → f.fctr = x.last + 1 → PlyWire.opened x.keyRx type f = none → x.failed = true → Completes i s (fun t => t.plyLink f.port = 1 ∧
          Raised t g Ply.INT_LINK_FAIL ∧
          t.get g Ply.PLY_LINK_LASTING f.port = satAdd Ply.PLY_LINK_LASTING.width (s.get g Ply.PLY_LINK_LASTING f.port) 1))) ∧
      (∀ b, good 3 b → Completes (.plyIdle f) s (fun t => (t.plyPort f.port).last = f.fctr ∧ (t.plyPort f.port).failed = false ∧
        (x.failed = true →
          t.get g Ply.PLY_LINK_TRANSIENT f.port = satAdd Ply.PLY_LINK_TRANSIENT.width (s.get g Ply.PLY_LINK_TRANSIENT f.port) 1) ∧
        (x.failed = false → quiet t f.port) ∧
        (x.queue = [] → s.ply.streamAt = none →
          (t.plyPort f.port).queue = [] ∧ ∀ e, e ∈ (t.plyPort f.port).sent ↔ e ∈ x.sent ∧ ¬covered e.1))) ∧
      (∀ b, good 4 b → Completes (.plyNak f) s (fun t =>
        let n := leNat (b.take 8)
        (t.plyPort f.port).last = f.fctr ∧ ∀ e ∈ x.sent, e.1 = n → ¬covered e.1 →
          e ∈ (t.plyPort f.port).sent ∧ ∀ y ∈ (t.plyPort f.port).sent, n ≤ y.1)) ∧
      (∀ b type i, good type b → f.dst ≠ s.plySelf → f.dst ≠ 0x3F → f.src ≠ s.plySelf → s.plyUp (1 - f.port) = true →
        (type, i) ∈ [(0x20, Instr.mgmtReq f), (0x21, .mgmtRsp f), (0x10, .cfgStart f), (0x11, .cfgData f), (0x12, .cfgEnd f), (0x13, .cfgReq f),
          (0x30, .plyEvent f), (0x40, .epoch f), (0x50, .debugReq f), (0x51, .debugRsp f), (0x61, .bootReport f)] →
        Completes i s (fun t =>
          has t (1 - f.port) (fun y => y = { type := type, flags := f.flags, dst := f.dst, src := f.src, payload := b }) ∧
          RegsSameBut s t [fieldKey g Ply.PLY_TEST_TAG_FLIP 0, fieldKey g Ply.PLY_LINK_TRANSIENT f.port]))) ∧
    (∀ (o : Origin) (v : Word), Accepts s o g 0x010 v = true → Completes (.plyRestart o v) s (fun t =>
      (bit v.toNat 0 = true → t.plyRing = (if s.plyRing = 5 then 5 else 0) ∧ ∀ p < 2, t.plyLink p = 1 ∧ (t.plyPort p).authFails = 0 ∧
        (t.plyPort p).held = false ∧ (t.plyPort p).queue = (s.plyPort p).queue) ∧
      (bit v.toNat 0 = false → t.plyRing = s.plyRing ∧ ∀ p < 2, t.plyLink p = s.plyLink p ∧ t.plyPort p = s.plyPort p)))

/-- The ring's formation, its control frames and its time (R545 to R551, R554); the numbers reached are operands (log entry 73). -/
def Obligations.PlyRingFormsWrapsAndNumbersItsMembers : Prop :=
  ∀ (s : State),
    let g := Pg.ply
    let has := fun (t : State) p (q : PlyFrame → Prop) => ∃ x, q x ∧
      (x ∈ (t.plyPort p).queue ∨ ∃ n ack, (n, PlyWire.sealed (t.plyPort p).keyTx x ack n) ∈ (t.plyPort p).sent)
    let warned := fun (t : State) => t.flag Pg.safety Safety.SAF_WARN_PLY = true
    let joined := if s.plyUp 0 = true ∧ s.plyUp 1 = true then 2 else 3
    let formed := fun (t : State) m ring => t.members = m ∧ t.plyRing = ring ∧ Raised t g Ply.INT_RING_UP ∧
      (∀ n < 63, bit s.members n = true → bit m n = false → s.asleepBit n = false → Raised t g Ply.INT_MEMBER_LOST ∧ warned t) ∧
      (∀ n < 63, bit m n = true → t.asleepBit n = false) ∧ (∀ n < 63, bit m n = false → t.asleepBit n = s.asleepBit n)
    let reaches := fun (reached : List Nat) m => m < 2 ^ 63 ∧ ∀ n < 63, bit m n = true ↔ n = 0 ∨ n ∈ reached
    (∀ (f : PlyRx), frameOk f = true →
      let x := s.plyPort f.port
      let good := fun (type : Nat) (b : List Byte) => s.plyPowered = true ∧ s.plyUp f.port = true ∧ f.fctr = x.last + 1 ∧
        PlyWire.opened x.keyRx type f = some b
      let mine := (f.dst = s.plySelf ∨ f.dst = 0x3F) ∧ f.src ≠ s.plySelf ∧ s.plyRing ≠ 6 ∧ s.plyRing ≠ 5
      (∀ b own reached, good 5 b → Completes (.discover f own reached) s (fun t =>
        let hops := (b.getD 0 0).toNat
        (s.isManager = true → own = true → s.plyRing = 5 → t.plyRing = 5 ∧ t.members = s.members) ∧
        (s.isManager = true → own = true → s.plyRing ≠ 5 →
          (s.plyUp 0 = true ∧ s.plyUp 1 = true ∧ f.port = 1 → formed t (2 ^ (min hops 62 + 1) - 1) 2) ∧
          (¬(s.plyUp 0 = true ∧ s.plyUp 1 = true ∧ f.port = 1) → ∃ m, reaches reached m ∧ formed t m 3)) ∧
        (s.isManager = true → own = false → t.plyRing = 5 ∧ Raised t g Ply.INT_CONFLICT ∧ warned t ∧ t.members = s.members) ∧
        (s.isManager = false →
          (f.port = 0 ∨ s.plyRing = 3 → t.get g Ply.PLY_NUMBER_NUM = s.get g Ply.PLY_NUMBER_NUM ∧
            t.plyRing = if s.get g Ply.PLY_NUMBER_NUM = 0x3F then 6 else if s.plyRing = 4 ∨ s.plyRing = 1 then joined else s.plyRing) ∧
          (f.port = 1 → s.plyRing ≠ 3 → hops + 1 ≤ 62 →
            t.plyRing = 2 ∧ t.get g Ply.PLY_NUMBER_NUM = hops + 1 ∧ Raised t g Ply.INT_RING_UP) ∧
          (f.port = 1 → s.plyRing ≠ 3 → 62 < hops + 1 → t.plyRing = 6 ∧ t.get g Ply.PLY_NUMBER_NUM = s.get g Ply.PLY_NUMBER_NUM) ∧
          (s.plyUp (1 - f.port) = true →
            has t (1 - f.port) (fun y => y.type = 5 ∧ y.dst = 0x3F ∧ y.src = f.src ∧ y.payload = leBytes 1 (hops + 1)))))) ∧
      (∀ op i, (op, i) ∈ [(1, Instr.ctrlDeviceReset f), (2, .ctrlWarmReset f), (3, .ctrlWake f), (4, .hibernating f)] →
        Completes i s (fun t =>
          ((∀ b, good 0x60 b → (b.getD 0 0).toNat ≠ op) → t.resets = s.resets ∧ t.ply.wakes = s.ply.wakes ∧
            (∀ n < 63, t.asleepBit n = s.asleepBit n)) ∧
          (∀ b, PlyWire.opened x.keyRx 0x60 f = some b → (b.getD 0 0).toNat ≠ op → t = s) ∧
          (∀ b, good 0x60 b → mine → (b.getD 0 0).toNat = op →
            (op = 1 → s.power.tripped = false → t.resets.device = true ∧ t.get Pg.reset Reset.RST_CAUSE_CAUSE = 5) ∧
            (op = 2 → s.power.tripped = false → t.resets.warm = true ∧ t.get Pg.reset Reset.RST_CAUSE_CAUSE = 6) ∧
            (op = 3 → t.ply.wakes = s.ply.wakes + if s.plySelf + 1 = (b.getD 1 0).toNat then 1 else 0) ∧
            (op = 4 → f.src < 63 → t.asleepBit f.src = (s.isManager || s.asleepBit f.src))))) ∧
      (∀ b, good 0x40 b → mine → Completes (.epoch f) s (fun t =>
        let ops := leNat (b.take 8)
        (s.isManager = false → t.get g Ply.PLY_EPOCH_MGR_LO_OPS = ops % 2 ^ 32 ∧ t.get g Ply.PLY_EPOCH_MGR_HI_OPS = ops / 2 ^ 32 % 2 ^ 16 ∧
          t.get g Ply.PLY_EPOCH_PCC_PCC = leNat ((b.drop 8).take 4) ∧
          t.get g Ply.PLY_EPOCH_LOCAL_LO_OPS = s.events.opsec % 2 ^ 32 ∧
          t.get g Ply.PLY_EPOCH_LOCAL_HI_OPS = s.events.opsec / 2 ^ 32 % 2 ^ 16 ∧ t.events = s.events ∧
          t.plyRing = if s.plyRing = 4 then joined else s.plyRing) ∧
        (s.isManager = true → RegsSameBut s t [fieldKey g Ply.PLY_TEST_TAG_FLIP 0, fieldKey g Ply.PLY_LINK_TRANSIENT f.port])))) ∧
    (∀ reached, Completes (.ringCloseTimeout reached) s (fun t =>
      (s.isManager = true ∧ (s.plyRing = 1 ∨ s.plyRing = 3) → ∃ m, reaches reached m ∧ formed t m 3) ∧
      (¬(s.isManager = true ∧ (s.plyRing = 1 ∨ s.plyRing = 3)) → t = s))) ∧
    Completes .plyIsolate s (fun t =>
      let worker := s.get g Ply.STATUS_ROLE = 2 ∧ s.plyRing ≠ 4
      let ended := s.get Pg.monitor Monitor.DBG_SESSION_ORIGIN = 5
      (worker → t.plyRing = 4 ∧ (ended → t.sessionOpen = false) ∧ (¬ended → t.ply = s.ply ∧ RegsSameBut s t [fieldKey g Ply.STATUS_RING 0])) ∧
      (¬worker → t = s)) ∧
    Completes .epochBroadcast s (fun t =>
      let due := s.isManager = true ∧ (s.plyRing = 2 ∨ s.plyRing = 3)
      (due → s.plyUp 0 = true → has t 0 (fun y => y.type = 0x40 ∧ y.dst = 0x3F ∧ y.payload =
        leBytes 8 s.events.opsec ++ leBytes 4 (s.get Pg.time Time.TIME_PCC_PCC) ++ leBytes 8 Config.hallmarkId.toNat)) ∧
      (due → RegsSameBut s t [fieldKey g Ply.PLY_TEST_TAG_FLIP 0]) ∧ (¬due → t = s))

/-- Traffic on the ring (R550 to R555). -/
def Obligations.PlyTrafficCrossesTheRing : Prop :=
  ∀ (s : State),
    let g := Pg.ply
    let m := Pg.monitor
    let has := fun (t : State) p (q : PlyFrame → Prop) => ∃ x, q x ∧
      (x ∈ (t.plyPort p).queue ∨ ∃ n ack, (n, PlyWire.sealed (t.plyPort p).keyTx x ack n) ∈ (t.plyPort p).sent)
    let busy := s.flag g Ply.PLY_MGMT_STAT_BUSY = true
    let ended := fun (t : State) r => t.get g Ply.PLY_MGMT_STAT_BUSY = 0 ∧ t.get g Ply.PLY_MGMT_STAT_RESULT = r
    (∀ (o : Origin) (v : Word), Accepts s o g 0x170 v = true → bit v.toNat 31 = true → Completes (.plyMgmtGo o v) s (fun t =>
      let n := if bits v.toNat 13 8 = 0 then 64 else bits v.toNat 13 8
      t.get g Ply.PLY_MGMT_STAT_BUSY = 1 ∧ t.get g Ply.PLY_MGMT_STAT_RESULT = 0 ∧ t.ply.tag = (s.ply.tag + 1) % 65536 ∧
      t.ply.retried = false ∧
      (s.plyUp 0 = true → has t 0 (fun y => y.type = 0x20 ∧ y.flags = 0 ∧ y.dst = bits v.toNat 5 0 ∧
        y.payload.take 4 = leBytes 2 t.ply.tag ++ leBytes 1 n ++ [0] ∧ y.payload.length = 4 + 8 * n)))) ∧
    Completes .mgmtTimeout s (fun t =>
      (¬busy → t = s) ∧
      (busy → s.ply.retried = true → ended t 2) ∧
      (busy → s.ply.retried = false → t.ply.retried = true ∧ t.ply.tag = s.ply.tag ∧
        (s.plyUp 0 = true → has t 0 (fun y => y.type = 0x20 ∧ y.flags = 1 ∧ y.dst = s.ply.request.1 ∧ y.payload = s.ply.request.2)))) ∧
    (∀ (f : PlyRx) (b : List Byte), frameOk f = true →
      let x := s.plyPort f.port
      let mine := fun (type : Nat) => s.plyPowered = true ∧ s.plyUp f.port = true ∧ f.fctr = x.last + 1 ∧
        PlyWire.opened x.keyRx type f = some b ∧ (f.dst = s.plySelf ∨ f.dst = 0x3F) ∧ f.src ≠ s.plySelf ∧ s.plyRing ≠ 6 ∧ s.plyRing ≠ 5
      let field := fun k n => leNat ((b.drop k).take n)
      let unseen := fun (t : State) => RegsSameBut s t [fieldKey g Ply.PLY_TEST_TAG_FLIP 0, fieldKey g Ply.PLY_LINK_TRANSIENT f.port]
      (mine 0x21 → Completes (.mgmtRsp f) s (fun t =>
        (busy → field 0 2 = s.ply.tag → ended t 1 ∧
          ∀ i < 128, 4 * i + 6 ≤ b.length → t.get g Ply.PLY_MGMT_BUF_DATA i = field (2 + 4 * i) 4) ∧
        (¬(busy ∧ field 0 2 = s.ply.tag) → unseen t))) ∧
      (mine 0x20 → Completes (.mgmtReq f) s (fun t =>
        let count := min 64 (b.getD 2 0).toNat
        let stored := bit f.flags 0 = true ∧ ∃ a, (f.src, field 0 2, a) ∈ s.ply.answers
        (s.isManager = true → t.ply.answers = s.ply.answers) ∧
        (s.isManager = false → ¬stored → ∃ a, (f.src, field 0 2, a) ∈ t.ply.answers ∧ a.take 2 = leBytes 2 (field 0 2) ∧
          a.length = 2 + 8 * count) ∧
        (s.isManager = false → stored → t.ply.answers = s.ply.answers ∧ unseen t))) ∧
      (mine 0x10 → Completes (.cfgStart f) s (fun t => t.ply.stream = some (field 0 4, field 4 8, 0) ∧ t.ply.answers = s.ply.answers)) ∧
      (mine 0x11 → Completes (.cfgData f) s (fun t =>
        (s.ply.stream = none → t.ply.stream = none) ∧
        (∀ n total got, s.ply.stream = some (n, total, got) → t.ply.stream = some (n, total, min total (got + b.length))))) ∧
      (mine 0x12 → Completes (.cfgEnd f) s (fun t => t.ply.stream = none ∧
        (∀ n total got, s.ply.stream = some (n, total, got) → got < total → s.bootSource = 5 → s.boot.running = true → s.boot.reload = none →
          t.bootPhase = 7 ∧ t.boot.running = false ∧ t.get Pg.hubGlobal HubGlobal.HUB_BOOT_FAIL_REASON = 7))) ∧
      (mine 0x13 → s.ply.streamAt = none → Completes (.cfgReq f) s (fun t =>
        let served := s.isManager = true ∧ s.flag g Ply.PLY_CFG_BCAST = true ∧ s.ply.imageLen ≠ 0
        let next := (s.ply.streamNo + 1) % 2 ^ 32
        (¬served → t.ply.streamAt = none ∧ t.ply.streamNo = s.ply.streamNo) ∧
        (served → t.ply.streamNo = next ∧ ∀ p, s.plyVia 0 = some p →
          has t p (fun y => y.type = 0x10 ∧ y.dst = 0x3F ∧ y.payload = leBytes 4 next ++ leBytes 8 s.ply.imageLen)))) ∧
      (mine 0x30 → Completes (.plyEvent f) s (fun t =>
        let sev := (b.getD 10 0).toNat
        (s.isManager = false → t.events = s.events) ∧
        (s.isManager = true → s.stageLevel + (24 + padded b.length) ≤ (if sev = 4 then 8192 else 7680) →
          s.get Pg.recorder Recorder.EVT_NEXT_SEQ_SEQ + 1 < 2 ^ 32 →
          t.get Pg.recorder Recorder.EVT_NEXT_SEQ_SEQ = s.get Pg.recorder Recorder.EVT_NEXT_SEQ_SEQ + 1 ∧
          ∃ r, t.events.stage = s.events.stage ++ [r] ∧ r.code = field 4 2 ∧ r.severity = sev ∧ r.source = 2 ^ 15 + f.src ∧
            r.payload = b ∧ r.opsec = s.events.opsec))) ∧
      (mine 0x50 → Completes (.debugReq f) s (fun t =>
        (s.mbBusy = true ∨ s.mbAdmits .ply = false → t.dbg = s.dbg ∧ unseen t) ∧
        (s.mbBusy = false → s.mbAdmits .ply = true → b.length ≤ 1024 → t.mbBusy = true ∧ t.dbg.origin = .ply ∧
          t.get m Monitor.DBG_MB_STAT_RESP = 0 ∧ ∀ i, 4 * i + 4 ≤ b.length → t.get m Monitor.DBG_MB_REQ_DATA i = field (4 * i) 4))) ∧
      (mine 0x51 → Completes (.debugRsp f) s (fun t =>
        (¬(s.mbBusy = true ∧ s.dbg.forwarded = true) → t.dbg = s.dbg) ∧
        (s.mbBusy = true → s.dbg.forwarded = true → b.length ≤ 512 → t.mbBusy = false ∧ t.dbg.forwarded = false ∧
          t.get m Monitor.DBG_MB_STAT_RESP = 1 ∧ t.get m Monitor.DBG_MB_STAT_RLEN = b.length % 2 ^ Monitor.DBG_MB_STAT_RLEN.width ∧
          Raised t m Monitor.INT_MB_RESP ∧ ∀ i, 4 * i + 4 ≤ b.length → t.get m Monitor.DBG_MB_RSP_DATA i = field (4 * i) 4))) ∧
      (mine 0x61 → f.src < 63 → Completes (.bootReport f) s (fun t =>
        (s.isManager = true → t.get g Ply.PLY_BOOT_STATUS_STATUS f.src = field 0 4 ∧ t.get g Ply.PLY_BOOT_FAIL_FAIL f.src = field 4 4 ∧
          Raised t g Ply.INT_BOOT_REPORT) ∧
        (s.isManager = false → unseen t))))
end

