-- ==== Sys2Proof/Laws/Pages.lean ====
section
/-! SUPPORT. The aperture's map: the kind of every page that the chapters place, and that its number names the part back. -/

namespace Sys2Proof.Machine

open Reg

/-! ## Pages of the hub -/

theorem pageKind_port : ∀ d < 7, 1 ≤ d → pageKind (Pg.port d) = some .port ∧ portOf (Pg.port d) = d := by decide
theorem pageKind_xbar : ∀ d < 7, 1 ≤ d → ∀ m < (if d ≤ 4 then 16 else 8), pageKind (Pg.xbar d m) = some .xbar := by decide
theorem pageKind_hubRouter : ∀ i < 16, pageKind (Pg.router 0 i) = some .router := by decide

/-! ## Pages of the dies -/

theorem pageKind_dieCtl : ∀ d < 7, 1 ≤ d → pageKind (Pg.dieCtl d) = some .dieCtl ∧ pageDie (Pg.dieCtl d) = d := by decide
theorem pageKind_dieSide : ∀ d < 7, 1 ≤ d → pageKind (Pg.dieSide d) = some .dieSide ∧ pageDie (Pg.dieSide d) = d := by decide
theorem pageKind_xport : ∀ d < 7, 1 ≤ d → pageKind (Pg.xport d) = some .xport ∧ pageDie (Pg.xport d) = d := by decide
theorem pageKind_sctl : ∀ d < 5, 1 ≤ d → ∀ s < 96, pageKind (Pg.sctl d s) = some .sctl ∧ pageDie (Pg.sctl d s) = d ∧
    pageInDie (Pg.sctl d s) - 0x200 = s := by decide
theorem pageKind_mi : ∀ d < 5, 1 ≤ d → ∀ s < 96, pageKind (Pg.mi d s) = some .mi ∧ pageDie (Pg.mi d s) = d := by decide
theorem pageKind_eng0 : ∀ e < 64, pageKind (Pg.eng e 0) = some .eng0 ∧ State.engOf (Pg.eng e 0) = e := by decide
theorem pageKind_eng1 : ∀ e < 64, pageKind (Pg.eng e 1) = some .eng1 ∧ State.engOf (Pg.eng e 1) = e := by decide
theorem pageKind_eng2 : ∀ e < 64, pageKind (Pg.eng e 2) = some .eng2 ∧ State.engOf (Pg.eng e 2) = e := by decide
theorem pageKind_eng3 : ∀ e < 64, pageKind (Pg.eng e 3) = some .eng3 ∧ State.engOf (Pg.eng e 3) = e := by decide
theorem pageKind_ddr : ∀ c < 8, pageKind (Pg.ddr c) = some .ddr ∧ pageInstance (Pg.ddr c) = c := by decide
theorem pageKind_crypto : ∀ c < 8, pageKind (Pg.crypto c) = some .crypto ∧ pageInstance (Pg.crypto c) = c := by decide
theorem pageKind_lane : ∀ l : Bool, ∀ n < 64, pageKind (Pg.lane l n) = some .lane := by decide
theorem pageKind_opll : ∀ d < 7, 5 ≤ d → ∀ q < 8, pageKind (Pg.opll d q) = some .opll ∧ pageDie (Pg.opll d q) = d := by decide
theorem pageKind_adapter : ∀ d < 7, 5 ≤ d → ∀ q < 8, pageKind (Pg.adapter d q) = some .adapter ∧ pageDie (Pg.adapter d q) = d := by
  decide

/-! ## The data windows of R597 hold no register page -/

theorem pageWindow_of_kind {p : Nat} {k : PageKind} (h : pageKind p = some k) : pageWindow p = none := by
  have h1 : ∀ q < 0x10, 8 ≤ q → pageKind q = none := by decide
  have h2 : ∀ i < 64, pageKind (0x340 + i) = none := by decide
  unfold pageWindow
  split_ifs with ha hb
  · rw [h1 p (by omega) ha.1] at h; cases h
  · obtain ⟨i, rfl⟩ := Nat.exists_eq_add_of_le hb.1
    rw [h2 i (by omega)] at h; cases h
  · rfl

/-! ## The fields of a word -/

/-- The fields of a word of a page whose kind is known. -/
theorem fieldsAt_of_kind {p : Nat} {k : PageKind} (off : Nat) (h : pageKind p = some k) :
    fieldsAt p off = (Hdr.fields ++ kindFields k).filterMap (fun f =>
      match f.indexAt off with
      | some i => if hasElement p k f i then some (f, i) else none
      | none => none) := by
  simp only [fieldsAt, h] <;> rfl

/-! The words of the common header hold the same fields in every page. -/

theorem fieldsAt_intStatus {p : Nat} {k : PageKind} (h : pageKind p = some k) :
    fieldsAt p 0x020 = [(Hdr.INT_STATUS_BLOCK, 0), (Hdr.INT_STATUS_ERR_LOST, 0), (Hdr.INT_STATUS_ERR_CAPTURED, 0)] := by
  rw [fieldsAt_of_kind _ h]
  by_cases h5 : 5 ≤ pageDie p
  · cases k <;> first | rfl | (simp only [hasElement, h5, if_true]; rfl)
  · cases k <;> first | rfl | (simp only [hasElement, h5, if_false]; rfl)

theorem fieldsAt_intEnable {p : Nat} {k : PageKind} (h : pageKind p = some k) :
    fieldsAt p 0x024 = [(Hdr.INT_ENABLE_BLOCK, 0), (Hdr.INT_ENABLE_ERR_LOST, 0), (Hdr.INT_ENABLE_ERR_CAPTURED, 0)] := by
  rw [fieldsAt_of_kind _ h]
  by_cases h5 : 5 ≤ pageDie p
  · cases k <;> first | rfl | (simp only [hasElement, h5, if_true]; rfl)
  · cases k <;> first | rfl | (simp only [hasElement, h5, if_false]; rfl)

theorem fieldsAt_intForce {p : Nat} {k : PageKind} (h : pageKind p = some k) :
    fieldsAt p 0x028 = [(Hdr.INT_FORCE_BLOCK, 0), (Hdr.INT_FORCE_ERR_LOST, 0), (Hdr.INT_FORCE_ERR_CAPTURED, 0)] := by
  rw [fieldsAt_of_kind _ h]
  by_cases h5 : 5 ≤ pageDie p
  · cases k <;> first | rfl | (simp only [hasElement, h5, if_true]; rfl)
  · cases k <;> first | rfl | (simp only [hasElement, h5, if_false]; rfl)

theorem fieldsAt_errCount {p : Nat} {k : PageKind} (h : pageKind p = some k) :
    fieldsAt p 0x034 = [(Hdr.ERR_COUNT_COUNT, 0)] := by
  rw [fieldsAt_of_kind _ h]
  by_cases h5 : 5 ≤ pageDie p
  · cases k <;> first | rfl | (simp only [hasElement, h5, if_true]; rfl)
  · cases k <;> first | rfl | (simp only [hasElement, h5, if_false]; rfl)

theorem fabricPageKind_eng0 {q : Nat} (h : fabricPageKind q = some .eng0) : 0x80 ≤ q ∧ q < 0xC0 ∧ q % 4 = 0 := by
  unfold fabricPageKind at h
  repeat' split at h
  all_goals first | (cases h; done) | omega

theorem ite_ne_of {c : Prop} [Decidable c] {α : Type} {a b z : α} (ha : a ≠ z) (hb : b ≠ z) : (if c then a else b) ≠ z := by
  split <;> assumption

theorem hubPageKind_not_eng0 (q : Nat) : hubPageKind q ≠ some .eng0 := by
  unfold hubPageKind
  repeat' apply ite_ne_of
  all_goals exact nofun

theorem lanePageKind_not_eng0 (q : Nat) : lanePageKind q ≠ some .eng0 := by
  unfold lanePageKind
  repeat' apply ite_ne_of
  all_goals exact nofun

/-- The first page of an engine is that of the engine it names. -/
theorem eng_engOf {p : Nat} (h : pageKind p = some .eng0) : Pg.eng (State.engOf p) 0 = p := by
  unfold pageKind at h
  split at h
  · exact absurd h (hubPageKind_not_eng0 _)
  · next h1 =>
    split at h
    · next h2 =>
      obtain ⟨a, b, c⟩ := fabricPageKind_eng0 h
      unfold pageInDie at a b c
      rw [if_neg h1, if_pos h2] at a b c
      unfold State.engOf Pg.eng Pg.dieBase pageDie pageInDie
      simp only [if_neg h1, if_pos h2]
      have e1 : (16 * ((p - 0x1000) / 0x800 + 1 - 1) + ((p - 0x1000) % 0x800 - 0x80) / 4) / 16 = (p - 0x1000) / 0x800 := by omega
      have e2 : (16 * ((p - 0x1000) / 0x800 + 1 - 1) + ((p - 0x1000) % 0x800 - 0x80) / 4) % 16 = ((p - 0x1000) % 0x800 - 0x80) / 4 := by
        omega
      rw [e1, e2, if_neg (by omega), if_pos (by omega)]
      omega
    · split at h
      · exact absurd h (lanePageKind_not_eng0 _)
      · cases h

end Sys2Proof.Machine
end

