-- ==== Sys2Proof/Laws/State.lean ====
section
/-! SUPPORT. What each update of the state leaves alone: one lemma per field of the state per update, each true by unfolding. No later
proof needs to unfold a record update. -/

namespace Sys2Proof.Machine

variable (s : State)

@[simp] theorem State.took_pending : (s.took).pending = s.pending := rfl
@[simp] theorem State.took_regs : (s.took).regs = s.regs := rfl
@[simp] theorem State.took_hub : (s.took).hub = s.hub := rfl
@[simp] theorem State.took_events : (s.took).events = s.events := rfl
@[simp] theorem State.took_safety : (s.took).safety = s.safety := rfl
@[simp] theorem State.took_fabric : (s.took).fabric = s.fabric := rfl
@[simp] theorem State.took_link : (s.took).link = s.link := rfl
@[simp] theorem State.took_span : (s.took).span = s.span := rfl
@[simp] theorem State.took_mem : (s.took).mem = s.mem := rfl
@[simp] theorem State.took_dsp : (s.took).dsp = s.dsp := rfl
@[simp] theorem State.took_eng : (s.took).eng = s.eng := rfl
@[simp] theorem State.took_skein : (s.took).skein = s.skein := rfl
@[simp] theorem State.took_lanes : (s.took).lanes = s.lanes := rfl
@[simp] theorem State.took_ddr : (s.took).ddr = s.ddr := rfl
@[simp] theorem State.took_crypto : (s.took).crypto = s.crypto := rfl
@[simp] theorem State.took_boot : (s.took).boot = s.boot := rfl
@[simp] theorem State.took_clock : (s.took).clock = s.clock := rfl
@[simp] theorem State.took_power : (s.took).power = s.power := rfl
@[simp] theorem State.took_resets : (s.took).resets = s.resets := rfl
@[simp] theorem State.took_dbg : (s.took).dbg = s.dbg := rfl
@[simp] theorem State.took_ply : (s.took).ply = s.ply := rfl
@[simp] theorem State.took_get (page' : Nat) (f' : RegField) (i' : Nat) : (s.took).get page' f' i' = s.get page' f' i' := rfl
@[simp] theorem State.took_flag (page' : Nat) (f' : RegField) (i' : Nat) : (s.took).flag page' f' i' = s.flag page' f' i' := rfl

@[simp] theorem State.spanTo_pending (c : Nat) : (s.spanTo c).pending = s.pending := rfl
@[simp] theorem State.spanTo_fresh (c : Nat) : (s.spanTo c).fresh = s.fresh := rfl
@[simp] theorem State.spanTo_regs (c : Nat) : (s.spanTo c).regs = s.regs := rfl
@[simp] theorem State.spanTo_hub (c : Nat) : (s.spanTo c).hub = s.hub := rfl
@[simp] theorem State.spanTo_events (c : Nat) : (s.spanTo c).events = s.events := rfl
@[simp] theorem State.spanTo_safety (c : Nat) : (s.spanTo c).safety = s.safety := rfl
@[simp] theorem State.spanTo_fabric (c : Nat) : (s.spanTo c).fabric = s.fabric := rfl
@[simp] theorem State.spanTo_link (c : Nat) : (s.spanTo c).link = s.link := rfl
@[simp] theorem State.spanTo_span (c : Nat) : (s.spanTo c).span = s.span := rfl
@[simp] theorem State.spanTo_mem (c : Nat) : (s.spanTo c).mem = s.mem := rfl
@[simp] theorem State.spanTo_dsp (c : Nat) : (s.spanTo c).dsp = s.dsp := rfl
@[simp] theorem State.spanTo_eng (c : Nat) : (s.spanTo c).eng = s.eng := rfl
@[simp] theorem State.spanTo_skein (c : Nat) : (s.spanTo c).skein = s.skein := rfl
@[simp] theorem State.spanTo_lanes (c : Nat) : (s.spanTo c).lanes = s.lanes := rfl
@[simp] theorem State.spanTo_ddr (c : Nat) : (s.spanTo c).ddr = s.ddr := rfl
@[simp] theorem State.spanTo_crypto (c : Nat) : (s.spanTo c).crypto = s.crypto := rfl
@[simp] theorem State.spanTo_boot (c : Nat) : (s.spanTo c).boot = s.boot := rfl
@[simp] theorem State.spanTo_power (c : Nat) : (s.spanTo c).power = s.power := rfl
@[simp] theorem State.spanTo_resets (c : Nat) : (s.spanTo c).resets = s.resets := rfl
@[simp] theorem State.spanTo_dbg (c : Nat) : (s.spanTo c).dbg = s.dbg := rfl
@[simp] theorem State.spanTo_ply (c : Nat) : (s.spanTo c).ply = s.ply := rfl
@[simp] theorem State.spanTo_get (c : Nat) (page' : Nat) (f' : RegField) (i' : Nat) : (s.spanTo c).get page' f' i' = s.get page' f' i' := rfl
@[simp] theorem State.spanTo_flag (c : Nat) (page' : Nat) (f' : RegField) (i' : Nat) : (s.spanTo c).flag page' f' i' = s.flag page' f' i' := rfl

@[simp] theorem State.set_pending (page : Nat) (f : RegField) (v : Nat) (i : Nat) : (s.set page f v i).pending = s.pending := rfl
@[simp] theorem State.set_fresh (page : Nat) (f : RegField) (v : Nat) (i : Nat) : (s.set page f v i).fresh = s.fresh := rfl
@[simp] theorem State.set_hub (page : Nat) (f : RegField) (v : Nat) (i : Nat) : (s.set page f v i).hub = s.hub := rfl
@[simp] theorem State.set_events (page : Nat) (f : RegField) (v : Nat) (i : Nat) : (s.set page f v i).events = s.events := rfl
@[simp] theorem State.set_safety (page : Nat) (f : RegField) (v : Nat) (i : Nat) : (s.set page f v i).safety = s.safety := rfl
@[simp] theorem State.set_fabric (page : Nat) (f : RegField) (v : Nat) (i : Nat) : (s.set page f v i).fabric = s.fabric := rfl
@[simp] theorem State.set_link (page : Nat) (f : RegField) (v : Nat) (i : Nat) : (s.set page f v i).link = s.link := rfl
@[simp] theorem State.set_span (page : Nat) (f : RegField) (v : Nat) (i : Nat) : (s.set page f v i).span = s.span := rfl
@[simp] theorem State.set_mem (page : Nat) (f : RegField) (v : Nat) (i : Nat) : (s.set page f v i).mem = s.mem := rfl
@[simp] theorem State.set_dsp (page : Nat) (f : RegField) (v : Nat) (i : Nat) : (s.set page f v i).dsp = s.dsp := rfl
@[simp] theorem State.set_eng (page : Nat) (f : RegField) (v : Nat) (i : Nat) : (s.set page f v i).eng = s.eng := rfl
@[simp] theorem State.set_skein (page : Nat) (f : RegField) (v : Nat) (i : Nat) : (s.set page f v i).skein = s.skein := rfl
@[simp] theorem State.set_lanes (page : Nat) (f : RegField) (v : Nat) (i : Nat) : (s.set page f v i).lanes = s.lanes := rfl
@[simp] theorem State.set_ddr (page : Nat) (f : RegField) (v : Nat) (i : Nat) : (s.set page f v i).ddr = s.ddr := rfl
@[simp] theorem State.set_crypto (page : Nat) (f : RegField) (v : Nat) (i : Nat) : (s.set page f v i).crypto = s.crypto := rfl
@[simp] theorem State.set_boot (page : Nat) (f : RegField) (v : Nat) (i : Nat) : (s.set page f v i).boot = s.boot := rfl
@[simp] theorem State.set_clock (page : Nat) (f : RegField) (v : Nat) (i : Nat) : (s.set page f v i).clock = s.clock := rfl
@[simp] theorem State.set_power (page : Nat) (f : RegField) (v : Nat) (i : Nat) : (s.set page f v i).power = s.power := rfl
@[simp] theorem State.set_resets (page : Nat) (f : RegField) (v : Nat) (i : Nat) : (s.set page f v i).resets = s.resets := rfl
@[simp] theorem State.set_dbg (page : Nat) (f : RegField) (v : Nat) (i : Nat) : (s.set page f v i).dbg = s.dbg := rfl
@[simp] theorem State.set_ply (page : Nat) (f : RegField) (v : Nat) (i : Nat) : (s.set page f v i).ply = s.ply := rfl

@[simp] theorem State.setPlyPort_pending (p : Nat) (x : PlyPort) : (s.setPlyPort p x).pending = s.pending := rfl
@[simp] theorem State.setPlyPort_fresh (p : Nat) (x : PlyPort) : (s.setPlyPort p x).fresh = s.fresh := rfl
@[simp] theorem State.setPlyPort_regs (p : Nat) (x : PlyPort) : (s.setPlyPort p x).regs = s.regs := rfl
@[simp] theorem State.setPlyPort_hub (p : Nat) (x : PlyPort) : (s.setPlyPort p x).hub = s.hub := rfl
@[simp] theorem State.setPlyPort_events (p : Nat) (x : PlyPort) : (s.setPlyPort p x).events = s.events := rfl
@[simp] theorem State.setPlyPort_safety (p : Nat) (x : PlyPort) : (s.setPlyPort p x).safety = s.safety := rfl
@[simp] theorem State.setPlyPort_fabric (p : Nat) (x : PlyPort) : (s.setPlyPort p x).fabric = s.fabric := rfl
@[simp] theorem State.setPlyPort_link (p : Nat) (x : PlyPort) : (s.setPlyPort p x).link = s.link := rfl
@[simp] theorem State.setPlyPort_span (p : Nat) (x : PlyPort) : (s.setPlyPort p x).span = s.span := rfl
@[simp] theorem State.setPlyPort_mem (p : Nat) (x : PlyPort) : (s.setPlyPort p x).mem = s.mem := rfl
@[simp] theorem State.setPlyPort_dsp (p : Nat) (x : PlyPort) : (s.setPlyPort p x).dsp = s.dsp := rfl
@[simp] theorem State.setPlyPort_eng (p : Nat) (x : PlyPort) : (s.setPlyPort p x).eng = s.eng := rfl
@[simp] theorem State.setPlyPort_skein (p : Nat) (x : PlyPort) : (s.setPlyPort p x).skein = s.skein := rfl
@[simp] theorem State.setPlyPort_lanes (p : Nat) (x : PlyPort) : (s.setPlyPort p x).lanes = s.lanes := rfl
@[simp] theorem State.setPlyPort_ddr (p : Nat) (x : PlyPort) : (s.setPlyPort p x).ddr = s.ddr := rfl
@[simp] theorem State.setPlyPort_crypto (p : Nat) (x : PlyPort) : (s.setPlyPort p x).crypto = s.crypto := rfl
@[simp] theorem State.setPlyPort_boot (p : Nat) (x : PlyPort) : (s.setPlyPort p x).boot = s.boot := rfl
@[simp] theorem State.setPlyPort_clock (p : Nat) (x : PlyPort) : (s.setPlyPort p x).clock = s.clock := rfl
@[simp] theorem State.setPlyPort_power (p : Nat) (x : PlyPort) : (s.setPlyPort p x).power = s.power := rfl
@[simp] theorem State.setPlyPort_resets (p : Nat) (x : PlyPort) : (s.setPlyPort p x).resets = s.resets := rfl
@[simp] theorem State.setPlyPort_dbg (p : Nat) (x : PlyPort) : (s.setPlyPort p x).dbg = s.dbg := rfl
@[simp] theorem State.setPlyPort_get (p : Nat) (x : PlyPort) (page' : Nat) (f' : RegField) (i' : Nat) : (s.setPlyPort p x).get page' f' i' = s.get page' f' i' := rfl
@[simp] theorem State.setPlyPort_flag (p : Nat) (x : PlyPort) (page' : Nat) (f' : RegField) (i' : Nat) : (s.setPlyPort p x).flag page' f' i' = s.flag page' f' i' := rfl

@[simp] theorem State.setBucket_pending (cls : Nat) (b : Bucket) : (s.setBucket cls b).pending = s.pending := rfl
@[simp] theorem State.setBucket_fresh (cls : Nat) (b : Bucket) : (s.setBucket cls b).fresh = s.fresh := rfl
@[simp] theorem State.setBucket_regs (cls : Nat) (b : Bucket) : (s.setBucket cls b).regs = s.regs := rfl
@[simp] theorem State.setBucket_hub (cls : Nat) (b : Bucket) : (s.setBucket cls b).hub = s.hub := rfl
@[simp] theorem State.setBucket_safety (cls : Nat) (b : Bucket) : (s.setBucket cls b).safety = s.safety := rfl
@[simp] theorem State.setBucket_fabric (cls : Nat) (b : Bucket) : (s.setBucket cls b).fabric = s.fabric := rfl
@[simp] theorem State.setBucket_link (cls : Nat) (b : Bucket) : (s.setBucket cls b).link = s.link := rfl
@[simp] theorem State.setBucket_span (cls : Nat) (b : Bucket) : (s.setBucket cls b).span = s.span := rfl
@[simp] theorem State.setBucket_mem (cls : Nat) (b : Bucket) : (s.setBucket cls b).mem = s.mem := rfl
@[simp] theorem State.setBucket_dsp (cls : Nat) (b : Bucket) : (s.setBucket cls b).dsp = s.dsp := rfl
@[simp] theorem State.setBucket_eng (cls : Nat) (b : Bucket) : (s.setBucket cls b).eng = s.eng := rfl
@[simp] theorem State.setBucket_skein (cls : Nat) (b : Bucket) : (s.setBucket cls b).skein = s.skein := rfl
@[simp] theorem State.setBucket_lanes (cls : Nat) (b : Bucket) : (s.setBucket cls b).lanes = s.lanes := rfl
@[simp] theorem State.setBucket_ddr (cls : Nat) (b : Bucket) : (s.setBucket cls b).ddr = s.ddr := rfl
@[simp] theorem State.setBucket_crypto (cls : Nat) (b : Bucket) : (s.setBucket cls b).crypto = s.crypto := rfl
@[simp] theorem State.setBucket_boot (cls : Nat) (b : Bucket) : (s.setBucket cls b).boot = s.boot := rfl
@[simp] theorem State.setBucket_clock (cls : Nat) (b : Bucket) : (s.setBucket cls b).clock = s.clock := rfl
@[simp] theorem State.setBucket_power (cls : Nat) (b : Bucket) : (s.setBucket cls b).power = s.power := rfl
@[simp] theorem State.setBucket_resets (cls : Nat) (b : Bucket) : (s.setBucket cls b).resets = s.resets := rfl
@[simp] theorem State.setBucket_dbg (cls : Nat) (b : Bucket) : (s.setBucket cls b).dbg = s.dbg := rfl
@[simp] theorem State.setBucket_ply (cls : Nat) (b : Bucket) : (s.setBucket cls b).ply = s.ply := rfl
@[simp] theorem State.setBucket_get (cls : Nat) (b : Bucket) (page' : Nat) (f' : RegField) (i' : Nat) : (s.setBucket cls b).get page' f' i' = s.get page' f' i' := rfl
@[simp] theorem State.setBucket_flag (cls : Nat) (b : Bucket) (page' : Nat) (f' : RegField) (i' : Nat) : (s.setBucket cls b).flag page' f' i' = s.flag page' f' i' := rfl

@[simp] theorem State.putRaw_pending (page q : Nat) (par : Bool) (w : Nat) (x : BitVec 72) : (s.putRaw page q par w x).pending = s.pending := rfl
@[simp] theorem State.putRaw_fresh (page q : Nat) (par : Bool) (w : Nat) (x : BitVec 72) : (s.putRaw page q par w x).fresh = s.fresh := rfl
@[simp] theorem State.putRaw_regs (page q : Nat) (par : Bool) (w : Nat) (x : BitVec 72) : (s.putRaw page q par w x).regs = s.regs := rfl
@[simp] theorem State.putRaw_hub (page q : Nat) (par : Bool) (w : Nat) (x : BitVec 72) : (s.putRaw page q par w x).hub = s.hub := rfl
@[simp] theorem State.putRaw_events (page q : Nat) (par : Bool) (w : Nat) (x : BitVec 72) : (s.putRaw page q par w x).events = s.events := rfl
@[simp] theorem State.putRaw_safety (page q : Nat) (par : Bool) (w : Nat) (x : BitVec 72) : (s.putRaw page q par w x).safety = s.safety := rfl
@[simp] theorem State.putRaw_fabric (page q : Nat) (par : Bool) (w : Nat) (x : BitVec 72) : (s.putRaw page q par w x).fabric = s.fabric := rfl
@[simp] theorem State.putRaw_link (page q : Nat) (par : Bool) (w : Nat) (x : BitVec 72) : (s.putRaw page q par w x).link = s.link := rfl
@[simp] theorem State.putRaw_span (page q : Nat) (par : Bool) (w : Nat) (x : BitVec 72) : (s.putRaw page q par w x).span = s.span := rfl
@[simp] theorem State.putRaw_dsp (page q : Nat) (par : Bool) (w : Nat) (x : BitVec 72) : (s.putRaw page q par w x).dsp = s.dsp := rfl
@[simp] theorem State.putRaw_eng (page q : Nat) (par : Bool) (w : Nat) (x : BitVec 72) : (s.putRaw page q par w x).eng = s.eng := rfl
@[simp] theorem State.putRaw_skein (page q : Nat) (par : Bool) (w : Nat) (x : BitVec 72) : (s.putRaw page q par w x).skein = s.skein := rfl
@[simp] theorem State.putRaw_lanes (page q : Nat) (par : Bool) (w : Nat) (x : BitVec 72) : (s.putRaw page q par w x).lanes = s.lanes := rfl
@[simp] theorem State.putRaw_ddr (page q : Nat) (par : Bool) (w : Nat) (x : BitVec 72) : (s.putRaw page q par w x).ddr = s.ddr := rfl
@[simp] theorem State.putRaw_crypto (page q : Nat) (par : Bool) (w : Nat) (x : BitVec 72) : (s.putRaw page q par w x).crypto = s.crypto := rfl
@[simp] theorem State.putRaw_boot (page q : Nat) (par : Bool) (w : Nat) (x : BitVec 72) : (s.putRaw page q par w x).boot = s.boot := rfl
@[simp] theorem State.putRaw_clock (page q : Nat) (par : Bool) (w : Nat) (x : BitVec 72) : (s.putRaw page q par w x).clock = s.clock := rfl
@[simp] theorem State.putRaw_power (page q : Nat) (par : Bool) (w : Nat) (x : BitVec 72) : (s.putRaw page q par w x).power = s.power := rfl
@[simp] theorem State.putRaw_resets (page q : Nat) (par : Bool) (w : Nat) (x : BitVec 72) : (s.putRaw page q par w x).resets = s.resets := rfl
@[simp] theorem State.putRaw_dbg (page q : Nat) (par : Bool) (w : Nat) (x : BitVec 72) : (s.putRaw page q par w x).dbg = s.dbg := rfl
@[simp] theorem State.putRaw_ply (page q : Nat) (par : Bool) (w : Nat) (x : BitVec 72) : (s.putRaw page q par w x).ply = s.ply := rfl
@[simp] theorem State.putRaw_get (page q : Nat) (par : Bool) (w : Nat) (x : BitVec 72) (page' : Nat) (f' : RegField) (i' : Nat) : (s.putRaw page q par w x).get page' f' i' = s.get page' f' i' := rfl
@[simp] theorem State.putRaw_flag (page q : Nat) (par : Bool) (w : Nat) (x : BitVec 72) (page' : Nat) (f' : RegField) (i' : Nat) : (s.putRaw page q par w x).flag page' f' i' = s.flag page' f' i' := rfl

@[simp] theorem State.setDpbPort_pending (d sec i b : Nat) (p : DpbPort) : (s.setDpbPort d sec i b p).pending = s.pending := rfl
@[simp] theorem State.setDpbPort_fresh (d sec i b : Nat) (p : DpbPort) : (s.setDpbPort d sec i b p).fresh = s.fresh := rfl
@[simp] theorem State.setDpbPort_regs (d sec i b : Nat) (p : DpbPort) : (s.setDpbPort d sec i b p).regs = s.regs := rfl
@[simp] theorem State.setDpbPort_hub (d sec i b : Nat) (p : DpbPort) : (s.setDpbPort d sec i b p).hub = s.hub := rfl
@[simp] theorem State.setDpbPort_events (d sec i b : Nat) (p : DpbPort) : (s.setDpbPort d sec i b p).events = s.events := rfl
@[simp] theorem State.setDpbPort_safety (d sec i b : Nat) (p : DpbPort) : (s.setDpbPort d sec i b p).safety = s.safety := rfl
@[simp] theorem State.setDpbPort_fabric (d sec i b : Nat) (p : DpbPort) : (s.setDpbPort d sec i b p).fabric = s.fabric := rfl
@[simp] theorem State.setDpbPort_link (d sec i b : Nat) (p : DpbPort) : (s.setDpbPort d sec i b p).link = s.link := rfl
@[simp] theorem State.setDpbPort_span (d sec i b : Nat) (p : DpbPort) : (s.setDpbPort d sec i b p).span = s.span := rfl
@[simp] theorem State.setDpbPort_dsp (d sec i b : Nat) (p : DpbPort) : (s.setDpbPort d sec i b p).dsp = s.dsp := rfl
@[simp] theorem State.setDpbPort_eng (d sec i b : Nat) (p : DpbPort) : (s.setDpbPort d sec i b p).eng = s.eng := rfl
@[simp] theorem State.setDpbPort_skein (d sec i b : Nat) (p : DpbPort) : (s.setDpbPort d sec i b p).skein = s.skein := rfl
@[simp] theorem State.setDpbPort_lanes (d sec i b : Nat) (p : DpbPort) : (s.setDpbPort d sec i b p).lanes = s.lanes := rfl
@[simp] theorem State.setDpbPort_ddr (d sec i b : Nat) (p : DpbPort) : (s.setDpbPort d sec i b p).ddr = s.ddr := rfl
@[simp] theorem State.setDpbPort_crypto (d sec i b : Nat) (p : DpbPort) : (s.setDpbPort d sec i b p).crypto = s.crypto := rfl
@[simp] theorem State.setDpbPort_boot (d sec i b : Nat) (p : DpbPort) : (s.setDpbPort d sec i b p).boot = s.boot := rfl
@[simp] theorem State.setDpbPort_clock (d sec i b : Nat) (p : DpbPort) : (s.setDpbPort d sec i b p).clock = s.clock := rfl
@[simp] theorem State.setDpbPort_power (d sec i b : Nat) (p : DpbPort) : (s.setDpbPort d sec i b p).power = s.power := rfl
@[simp] theorem State.setDpbPort_resets (d sec i b : Nat) (p : DpbPort) : (s.setDpbPort d sec i b p).resets = s.resets := rfl
@[simp] theorem State.setDpbPort_dbg (d sec i b : Nat) (p : DpbPort) : (s.setDpbPort d sec i b p).dbg = s.dbg := rfl
@[simp] theorem State.setDpbPort_ply (d sec i b : Nat) (p : DpbPort) : (s.setDpbPort d sec i b p).ply = s.ply := rfl
@[simp] theorem State.setDpbPort_get (d sec i b : Nat) (p : DpbPort) (page' : Nat) (f' : RegField) (i' : Nat) : (s.setDpbPort d sec i b p).get page' f' i' = s.get page' f' i' := rfl
@[simp] theorem State.setDpbPort_flag (d sec i b : Nat) (p : DpbPort) (page' : Nat) (f' : RegField) (i' : Nat) : (s.setDpbPort d sec i b p).flag page' f' i' = s.flag page' f' i' := rfl

@[simp] theorem State.setBkbPort_pending (d sec k b : Nat) (p : BkbPort) : (s.setBkbPort d sec k b p).pending = s.pending := rfl
@[simp] theorem State.setBkbPort_fresh (d sec k b : Nat) (p : BkbPort) : (s.setBkbPort d sec k b p).fresh = s.fresh := rfl
@[simp] theorem State.setBkbPort_regs (d sec k b : Nat) (p : BkbPort) : (s.setBkbPort d sec k b p).regs = s.regs := rfl
@[simp] theorem State.setBkbPort_hub (d sec k b : Nat) (p : BkbPort) : (s.setBkbPort d sec k b p).hub = s.hub := rfl
@[simp] theorem State.setBkbPort_events (d sec k b : Nat) (p : BkbPort) : (s.setBkbPort d sec k b p).events = s.events := rfl
@[simp] theorem State.setBkbPort_safety (d sec k b : Nat) (p : BkbPort) : (s.setBkbPort d sec k b p).safety = s.safety := rfl
@[simp] theorem State.setBkbPort_fabric (d sec k b : Nat) (p : BkbPort) : (s.setBkbPort d sec k b p).fabric = s.fabric := rfl
@[simp] theorem State.setBkbPort_link (d sec k b : Nat) (p : BkbPort) : (s.setBkbPort d sec k b p).link = s.link := rfl
@[simp] theorem State.setBkbPort_span (d sec k b : Nat) (p : BkbPort) : (s.setBkbPort d sec k b p).span = s.span := rfl
@[simp] theorem State.setBkbPort_dsp (d sec k b : Nat) (p : BkbPort) : (s.setBkbPort d sec k b p).dsp = s.dsp := rfl
@[simp] theorem State.setBkbPort_eng (d sec k b : Nat) (p : BkbPort) : (s.setBkbPort d sec k b p).eng = s.eng := rfl
@[simp] theorem State.setBkbPort_skein (d sec k b : Nat) (p : BkbPort) : (s.setBkbPort d sec k b p).skein = s.skein := rfl
@[simp] theorem State.setBkbPort_lanes (d sec k b : Nat) (p : BkbPort) : (s.setBkbPort d sec k b p).lanes = s.lanes := rfl
@[simp] theorem State.setBkbPort_ddr (d sec k b : Nat) (p : BkbPort) : (s.setBkbPort d sec k b p).ddr = s.ddr := rfl
@[simp] theorem State.setBkbPort_crypto (d sec k b : Nat) (p : BkbPort) : (s.setBkbPort d sec k b p).crypto = s.crypto := rfl
@[simp] theorem State.setBkbPort_boot (d sec k b : Nat) (p : BkbPort) : (s.setBkbPort d sec k b p).boot = s.boot := rfl
@[simp] theorem State.setBkbPort_clock (d sec k b : Nat) (p : BkbPort) : (s.setBkbPort d sec k b p).clock = s.clock := rfl
@[simp] theorem State.setBkbPort_power (d sec k b : Nat) (p : BkbPort) : (s.setBkbPort d sec k b p).power = s.power := rfl
@[simp] theorem State.setBkbPort_resets (d sec k b : Nat) (p : BkbPort) : (s.setBkbPort d sec k b p).resets = s.resets := rfl
@[simp] theorem State.setBkbPort_dbg (d sec k b : Nat) (p : BkbPort) : (s.setBkbPort d sec k b p).dbg = s.dbg := rfl
@[simp] theorem State.setBkbPort_ply (d sec k b : Nat) (p : BkbPort) : (s.setBkbPort d sec k b p).ply = s.ply := rfl
@[simp] theorem State.setBkbPort_get (d sec k b : Nat) (p : BkbPort) (page' : Nat) (f' : RegField) (i' : Nat) : (s.setBkbPort d sec k b p).get page' f' i' = s.get page' f' i' := rfl
@[simp] theorem State.setBkbPort_flag (d sec k b : Nat) (p : BkbPort) (page' : Nat) (f' : RegField) (i' : Nat) : (s.setBkbPort d sec k b p).flag page' f' i' = s.flag page' f' i' := rfl

@[simp] theorem State.setBankBusy_pending (page q : Nat) (x : Option BankStore) : (s.setBankBusy page q x).pending = s.pending := rfl
@[simp] theorem State.setBankBusy_fresh (page q : Nat) (x : Option BankStore) : (s.setBankBusy page q x).fresh = s.fresh := rfl
@[simp] theorem State.setBankBusy_regs (page q : Nat) (x : Option BankStore) : (s.setBankBusy page q x).regs = s.regs := rfl
@[simp] theorem State.setBankBusy_hub (page q : Nat) (x : Option BankStore) : (s.setBankBusy page q x).hub = s.hub := rfl
@[simp] theorem State.setBankBusy_events (page q : Nat) (x : Option BankStore) : (s.setBankBusy page q x).events = s.events := rfl
@[simp] theorem State.setBankBusy_safety (page q : Nat) (x : Option BankStore) : (s.setBankBusy page q x).safety = s.safety := rfl
@[simp] theorem State.setBankBusy_fabric (page q : Nat) (x : Option BankStore) : (s.setBankBusy page q x).fabric = s.fabric := rfl
@[simp] theorem State.setBankBusy_link (page q : Nat) (x : Option BankStore) : (s.setBankBusy page q x).link = s.link := rfl
@[simp] theorem State.setBankBusy_span (page q : Nat) (x : Option BankStore) : (s.setBankBusy page q x).span = s.span := rfl
@[simp] theorem State.setBankBusy_dsp (page q : Nat) (x : Option BankStore) : (s.setBankBusy page q x).dsp = s.dsp := rfl
@[simp] theorem State.setBankBusy_eng (page q : Nat) (x : Option BankStore) : (s.setBankBusy page q x).eng = s.eng := rfl
@[simp] theorem State.setBankBusy_skein (page q : Nat) (x : Option BankStore) : (s.setBankBusy page q x).skein = s.skein := rfl
@[simp] theorem State.setBankBusy_lanes (page q : Nat) (x : Option BankStore) : (s.setBankBusy page q x).lanes = s.lanes := rfl
@[simp] theorem State.setBankBusy_ddr (page q : Nat) (x : Option BankStore) : (s.setBankBusy page q x).ddr = s.ddr := rfl
@[simp] theorem State.setBankBusy_crypto (page q : Nat) (x : Option BankStore) : (s.setBankBusy page q x).crypto = s.crypto := rfl
@[simp] theorem State.setBankBusy_boot (page q : Nat) (x : Option BankStore) : (s.setBankBusy page q x).boot = s.boot := rfl
@[simp] theorem State.setBankBusy_clock (page q : Nat) (x : Option BankStore) : (s.setBankBusy page q x).clock = s.clock := rfl
@[simp] theorem State.setBankBusy_power (page q : Nat) (x : Option BankStore) : (s.setBankBusy page q x).power = s.power := rfl
@[simp] theorem State.setBankBusy_resets (page q : Nat) (x : Option BankStore) : (s.setBankBusy page q x).resets = s.resets := rfl
@[simp] theorem State.setBankBusy_dbg (page q : Nat) (x : Option BankStore) : (s.setBankBusy page q x).dbg = s.dbg := rfl
@[simp] theorem State.setBankBusy_ply (page q : Nat) (x : Option BankStore) : (s.setBankBusy page q x).ply = s.ply := rfl
@[simp] theorem State.setBankBusy_get (page q : Nat) (x : Option BankStore) (page' : Nat) (f' : RegField) (i' : Nat) : (s.setBankBusy page q x).get page' f' i' = s.get page' f' i' := rfl
@[simp] theorem State.setBankBusy_flag (page q : Nat) (x : Option BankStore) (page' : Nat) (f' : RegField) (i' : Nat) : (s.setBankBusy page q x).flag page' f' i' = s.flag page' f' i' := rfl

@[simp] theorem State.setQueue_pending (d sec b : Nat) (q : Queue) : (s.setQueue d sec b q).pending = s.pending := rfl
@[simp] theorem State.setQueue_fresh (d sec b : Nat) (q : Queue) : (s.setQueue d sec b q).fresh = s.fresh := rfl
@[simp] theorem State.setQueue_regs (d sec b : Nat) (q : Queue) : (s.setQueue d sec b q).regs = s.regs := rfl
@[simp] theorem State.setQueue_hub (d sec b : Nat) (q : Queue) : (s.setQueue d sec b q).hub = s.hub := rfl
@[simp] theorem State.setQueue_events (d sec b : Nat) (q : Queue) : (s.setQueue d sec b q).events = s.events := rfl
@[simp] theorem State.setQueue_safety (d sec b : Nat) (q : Queue) : (s.setQueue d sec b q).safety = s.safety := rfl
@[simp] theorem State.setQueue_fabric (d sec b : Nat) (q : Queue) : (s.setQueue d sec b q).fabric = s.fabric := rfl
@[simp] theorem State.setQueue_link (d sec b : Nat) (q : Queue) : (s.setQueue d sec b q).link = s.link := rfl
@[simp] theorem State.setQueue_span (d sec b : Nat) (q : Queue) : (s.setQueue d sec b q).span = s.span := rfl
@[simp] theorem State.setQueue_dsp (d sec b : Nat) (q : Queue) : (s.setQueue d sec b q).dsp = s.dsp := rfl
@[simp] theorem State.setQueue_eng (d sec b : Nat) (q : Queue) : (s.setQueue d sec b q).eng = s.eng := rfl
@[simp] theorem State.setQueue_skein (d sec b : Nat) (q : Queue) : (s.setQueue d sec b q).skein = s.skein := rfl
@[simp] theorem State.setQueue_lanes (d sec b : Nat) (q : Queue) : (s.setQueue d sec b q).lanes = s.lanes := rfl
@[simp] theorem State.setQueue_ddr (d sec b : Nat) (q : Queue) : (s.setQueue d sec b q).ddr = s.ddr := rfl
@[simp] theorem State.setQueue_crypto (d sec b : Nat) (q : Queue) : (s.setQueue d sec b q).crypto = s.crypto := rfl
@[simp] theorem State.setQueue_boot (d sec b : Nat) (q : Queue) : (s.setQueue d sec b q).boot = s.boot := rfl
@[simp] theorem State.setQueue_clock (d sec b : Nat) (q : Queue) : (s.setQueue d sec b q).clock = s.clock := rfl
@[simp] theorem State.setQueue_power (d sec b : Nat) (q : Queue) : (s.setQueue d sec b q).power = s.power := rfl
@[simp] theorem State.setQueue_resets (d sec b : Nat) (q : Queue) : (s.setQueue d sec b q).resets = s.resets := rfl
@[simp] theorem State.setQueue_dbg (d sec b : Nat) (q : Queue) : (s.setQueue d sec b q).dbg = s.dbg := rfl
@[simp] theorem State.setQueue_ply (d sec b : Nat) (q : Queue) : (s.setQueue d sec b q).ply = s.ply := rfl
@[simp] theorem State.setQueue_get (d sec b : Nat) (q : Queue) (page' : Nat) (f' : RegField) (i' : Nat) : (s.setQueue d sec b q).get page' f' i' = s.get page' f' i' := rfl
@[simp] theorem State.setQueue_flag (d sec b : Nat) (q : Queue) (page' : Nat) (f' : RegField) (i' : Nat) : (s.setQueue d sec b q).flag page' f' i' = s.flag page' f' i' := rfl

@[simp] theorem State.assertGsr_pending (d sec : Nat) : (s.assertGsr d sec).pending = s.pending := by unfold State.assertGsr; rfl
@[simp] theorem State.assertGsr_fresh (d sec : Nat) : (s.assertGsr d sec).fresh = s.fresh := by unfold State.assertGsr; rfl
@[simp] theorem State.assertGsr_regs (d sec : Nat) : (s.assertGsr d sec).regs = s.regs := by unfold State.assertGsr; rfl
@[simp] theorem State.assertGsr_hub (d sec : Nat) : (s.assertGsr d sec).hub = s.hub := by unfold State.assertGsr; rfl
@[simp] theorem State.assertGsr_events (d sec : Nat) : (s.assertGsr d sec).events = s.events := by unfold State.assertGsr; rfl
@[simp] theorem State.assertGsr_safety (d sec : Nat) : (s.assertGsr d sec).safety = s.safety := by unfold State.assertGsr; rfl
@[simp] theorem State.assertGsr_link (d sec : Nat) : (s.assertGsr d sec).link = s.link := by unfold State.assertGsr; rfl
@[simp] theorem State.assertGsr_span (d sec : Nat) : (s.assertGsr d sec).span = s.span := by unfold State.assertGsr; rfl
@[simp] theorem State.assertGsr_mem (d sec : Nat) : (s.assertGsr d sec).mem = s.mem := by unfold State.assertGsr; rfl
@[simp] theorem State.assertGsr_dsp (d sec : Nat) : (s.assertGsr d sec).dsp = s.dsp := by unfold State.assertGsr; rfl
@[simp] theorem State.assertGsr_eng (d sec : Nat) : (s.assertGsr d sec).eng = s.eng := by unfold State.assertGsr; rfl
@[simp] theorem State.assertGsr_skein (d sec : Nat) : (s.assertGsr d sec).skein = s.skein := by unfold State.assertGsr; rfl
@[simp] theorem State.assertGsr_lanes (d sec : Nat) : (s.assertGsr d sec).lanes = s.lanes := by unfold State.assertGsr; rfl
@[simp] theorem State.assertGsr_ddr (d sec : Nat) : (s.assertGsr d sec).ddr = s.ddr := by unfold State.assertGsr; rfl
@[simp] theorem State.assertGsr_crypto (d sec : Nat) : (s.assertGsr d sec).crypto = s.crypto := by unfold State.assertGsr; rfl
@[simp] theorem State.assertGsr_boot (d sec : Nat) : (s.assertGsr d sec).boot = s.boot := by unfold State.assertGsr; rfl
@[simp] theorem State.assertGsr_clock (d sec : Nat) : (s.assertGsr d sec).clock = s.clock := by unfold State.assertGsr; rfl
@[simp] theorem State.assertGsr_power (d sec : Nat) : (s.assertGsr d sec).power = s.power := by unfold State.assertGsr; rfl
@[simp] theorem State.assertGsr_resets (d sec : Nat) : (s.assertGsr d sec).resets = s.resets := by unfold State.assertGsr; rfl
@[simp] theorem State.assertGsr_dbg (d sec : Nat) : (s.assertGsr d sec).dbg = s.dbg := by unfold State.assertGsr; rfl
@[simp] theorem State.assertGsr_ply (d sec : Nat) : (s.assertGsr d sec).ply = s.ply := by unfold State.assertGsr; rfl
@[simp] theorem State.assertGsr_get (d sec : Nat) (page' : Nat) (f' : RegField) (i' : Nat) : (s.assertGsr d sec).get page' f' i' = s.get page' f' i' := by unfold State.assertGsr; rfl
@[simp] theorem State.assertGsr_flag (d sec : Nat) (page' : Nat) (f' : RegField) (i' : Nat) : (s.assertGsr d sec).flag page' f' i' = s.flag page' f' i' := by unfold State.assertGsr; rfl

@[simp] theorem State.releaseSector_pending (d sec : Nat) : (s.releaseSector d sec).pending = s.pending := rfl
@[simp] theorem State.releaseSector_fresh (d sec : Nat) : (s.releaseSector d sec).fresh = s.fresh := rfl
@[simp] theorem State.releaseSector_regs (d sec : Nat) : (s.releaseSector d sec).regs = s.regs := rfl
@[simp] theorem State.releaseSector_hub (d sec : Nat) : (s.releaseSector d sec).hub = s.hub := rfl
@[simp] theorem State.releaseSector_events (d sec : Nat) : (s.releaseSector d sec).events = s.events := rfl
@[simp] theorem State.releaseSector_safety (d sec : Nat) : (s.releaseSector d sec).safety = s.safety := rfl
@[simp] theorem State.releaseSector_link (d sec : Nat) : (s.releaseSector d sec).link = s.link := rfl
@[simp] theorem State.releaseSector_span (d sec : Nat) : (s.releaseSector d sec).span = s.span := rfl
@[simp] theorem State.releaseSector_mem (d sec : Nat) : (s.releaseSector d sec).mem = s.mem := rfl
@[simp] theorem State.releaseSector_dsp (d sec : Nat) : (s.releaseSector d sec).dsp = s.dsp := rfl
@[simp] theorem State.releaseSector_eng (d sec : Nat) : (s.releaseSector d sec).eng = s.eng := rfl
@[simp] theorem State.releaseSector_skein (d sec : Nat) : (s.releaseSector d sec).skein = s.skein := rfl
@[simp] theorem State.releaseSector_lanes (d sec : Nat) : (s.releaseSector d sec).lanes = s.lanes := rfl
@[simp] theorem State.releaseSector_ddr (d sec : Nat) : (s.releaseSector d sec).ddr = s.ddr := rfl
@[simp] theorem State.releaseSector_crypto (d sec : Nat) : (s.releaseSector d sec).crypto = s.crypto := rfl
@[simp] theorem State.releaseSector_boot (d sec : Nat) : (s.releaseSector d sec).boot = s.boot := rfl
@[simp] theorem State.releaseSector_clock (d sec : Nat) : (s.releaseSector d sec).clock = s.clock := rfl
@[simp] theorem State.releaseSector_power (d sec : Nat) : (s.releaseSector d sec).power = s.power := rfl
@[simp] theorem State.releaseSector_resets (d sec : Nat) : (s.releaseSector d sec).resets = s.resets := rfl
@[simp] theorem State.releaseSector_dbg (d sec : Nat) : (s.releaseSector d sec).dbg = s.dbg := rfl
@[simp] theorem State.releaseSector_ply (d sec : Nat) : (s.releaseSector d sec).ply = s.ply := rfl
@[simp] theorem State.releaseSector_get (d sec : Nat) (page' : Nat) (f' : RegField) (i' : Nat) : (s.releaseSector d sec).get page' f' i' = s.get page' f' i' := rfl
@[simp] theorem State.releaseSector_flag (d sec : Nat) (page' : Nat) (f' : RegField) (i' : Nat) : (s.releaseSector d sec).flag page' f' i' = s.flag page' f' i' := rfl

@[simp] theorem State.unreleaseSector_pending (d sec : Nat) : (s.unreleaseSector d sec).pending = s.pending := rfl
@[simp] theorem State.unreleaseSector_fresh (d sec : Nat) : (s.unreleaseSector d sec).fresh = s.fresh := rfl
@[simp] theorem State.unreleaseSector_regs (d sec : Nat) : (s.unreleaseSector d sec).regs = s.regs := rfl
@[simp] theorem State.unreleaseSector_hub (d sec : Nat) : (s.unreleaseSector d sec).hub = s.hub := rfl
@[simp] theorem State.unreleaseSector_events (d sec : Nat) : (s.unreleaseSector d sec).events = s.events := rfl
@[simp] theorem State.unreleaseSector_safety (d sec : Nat) : (s.unreleaseSector d sec).safety = s.safety := rfl
@[simp] theorem State.unreleaseSector_link (d sec : Nat) : (s.unreleaseSector d sec).link = s.link := rfl
@[simp] theorem State.unreleaseSector_span (d sec : Nat) : (s.unreleaseSector d sec).span = s.span := rfl
@[simp] theorem State.unreleaseSector_mem (d sec : Nat) : (s.unreleaseSector d sec).mem = s.mem := rfl
@[simp] theorem State.unreleaseSector_dsp (d sec : Nat) : (s.unreleaseSector d sec).dsp = s.dsp := rfl
@[simp] theorem State.unreleaseSector_eng (d sec : Nat) : (s.unreleaseSector d sec).eng = s.eng := rfl
@[simp] theorem State.unreleaseSector_skein (d sec : Nat) : (s.unreleaseSector d sec).skein = s.skein := rfl
@[simp] theorem State.unreleaseSector_lanes (d sec : Nat) : (s.unreleaseSector d sec).lanes = s.lanes := rfl
@[simp] theorem State.unreleaseSector_ddr (d sec : Nat) : (s.unreleaseSector d sec).ddr = s.ddr := rfl
@[simp] theorem State.unreleaseSector_crypto (d sec : Nat) : (s.unreleaseSector d sec).crypto = s.crypto := rfl
@[simp] theorem State.unreleaseSector_boot (d sec : Nat) : (s.unreleaseSector d sec).boot = s.boot := rfl
@[simp] theorem State.unreleaseSector_clock (d sec : Nat) : (s.unreleaseSector d sec).clock = s.clock := rfl
@[simp] theorem State.unreleaseSector_power (d sec : Nat) : (s.unreleaseSector d sec).power = s.power := rfl
@[simp] theorem State.unreleaseSector_resets (d sec : Nat) : (s.unreleaseSector d sec).resets = s.resets := rfl
@[simp] theorem State.unreleaseSector_dbg (d sec : Nat) : (s.unreleaseSector d sec).dbg = s.dbg := rfl
@[simp] theorem State.unreleaseSector_ply (d sec : Nat) : (s.unreleaseSector d sec).ply = s.ply := rfl
@[simp] theorem State.unreleaseSector_get (d sec : Nat) (page' : Nat) (f' : RegField) (i' : Nat) : (s.unreleaseSector d sec).get page' f' i' = s.get page' f' i' := rfl
@[simp] theorem State.unreleaseSector_flag (d sec : Nat) (page' : Nat) (f' : RegField) (i' : Nat) : (s.unreleaseSector d sec).flag page' f' i' = s.flag page' f' i' := rfl

@[simp] theorem State.putFrame_pending (d sec t f : Nat) (x : BitVec 1024) : (s.putFrame d sec t f x).pending = s.pending := rfl
@[simp] theorem State.putFrame_fresh (d sec t f : Nat) (x : BitVec 1024) : (s.putFrame d sec t f x).fresh = s.fresh := rfl
@[simp] theorem State.putFrame_regs (d sec t f : Nat) (x : BitVec 1024) : (s.putFrame d sec t f x).regs = s.regs := rfl
@[simp] theorem State.putFrame_hub (d sec t f : Nat) (x : BitVec 1024) : (s.putFrame d sec t f x).hub = s.hub := rfl
@[simp] theorem State.putFrame_events (d sec t f : Nat) (x : BitVec 1024) : (s.putFrame d sec t f x).events = s.events := rfl
@[simp] theorem State.putFrame_safety (d sec t f : Nat) (x : BitVec 1024) : (s.putFrame d sec t f x).safety = s.safety := rfl
@[simp] theorem State.putFrame_link (d sec t f : Nat) (x : BitVec 1024) : (s.putFrame d sec t f x).link = s.link := rfl
@[simp] theorem State.putFrame_span (d sec t f : Nat) (x : BitVec 1024) : (s.putFrame d sec t f x).span = s.span := rfl
@[simp] theorem State.putFrame_mem (d sec t f : Nat) (x : BitVec 1024) : (s.putFrame d sec t f x).mem = s.mem := rfl
@[simp] theorem State.putFrame_dsp (d sec t f : Nat) (x : BitVec 1024) : (s.putFrame d sec t f x).dsp = s.dsp := rfl
@[simp] theorem State.putFrame_eng (d sec t f : Nat) (x : BitVec 1024) : (s.putFrame d sec t f x).eng = s.eng := rfl
@[simp] theorem State.putFrame_skein (d sec t f : Nat) (x : BitVec 1024) : (s.putFrame d sec t f x).skein = s.skein := rfl
@[simp] theorem State.putFrame_lanes (d sec t f : Nat) (x : BitVec 1024) : (s.putFrame d sec t f x).lanes = s.lanes := rfl
@[simp] theorem State.putFrame_ddr (d sec t f : Nat) (x : BitVec 1024) : (s.putFrame d sec t f x).ddr = s.ddr := rfl
@[simp] theorem State.putFrame_crypto (d sec t f : Nat) (x : BitVec 1024) : (s.putFrame d sec t f x).crypto = s.crypto := rfl
@[simp] theorem State.putFrame_boot (d sec t f : Nat) (x : BitVec 1024) : (s.putFrame d sec t f x).boot = s.boot := rfl
@[simp] theorem State.putFrame_clock (d sec t f : Nat) (x : BitVec 1024) : (s.putFrame d sec t f x).clock = s.clock := rfl
@[simp] theorem State.putFrame_power (d sec t f : Nat) (x : BitVec 1024) : (s.putFrame d sec t f x).power = s.power := rfl
@[simp] theorem State.putFrame_resets (d sec t f : Nat) (x : BitVec 1024) : (s.putFrame d sec t f x).resets = s.resets := rfl
@[simp] theorem State.putFrame_dbg (d sec t f : Nat) (x : BitVec 1024) : (s.putFrame d sec t f x).dbg = s.dbg := rfl
@[simp] theorem State.putFrame_ply (d sec t f : Nat) (x : BitVec 1024) : (s.putFrame d sec t f x).ply = s.ply := rfl
@[simp] theorem State.putFrame_get (d sec t f : Nat) (x : BitVec 1024) (page' : Nat) (f' : RegField) (i' : Nat) : (s.putFrame d sec t f x).get page' f' i' = s.get page' f' i' := rfl
@[simp] theorem State.putFrame_flag (d sec t f : Nat) (x : BitVec 1024) (page' : Nat) (f' : RegField) (i' : Nat) : (s.putFrame d sec t f x).flag page' f' i' = s.flag page' f' i' := rfl

@[simp] theorem State.setSlice_pending (d m : Nat) (x : Slice) : (s.setSlice d m x).pending = s.pending := rfl
@[simp] theorem State.setSlice_fresh (d m : Nat) (x : Slice) : (s.setSlice d m x).fresh = s.fresh := rfl
@[simp] theorem State.setSlice_regs (d m : Nat) (x : Slice) : (s.setSlice d m x).regs = s.regs := rfl
@[simp] theorem State.setSlice_hub (d m : Nat) (x : Slice) : (s.setSlice d m x).hub = s.hub := rfl
@[simp] theorem State.setSlice_events (d m : Nat) (x : Slice) : (s.setSlice d m x).events = s.events := rfl
@[simp] theorem State.setSlice_safety (d m : Nat) (x : Slice) : (s.setSlice d m x).safety = s.safety := rfl
@[simp] theorem State.setSlice_fabric (d m : Nat) (x : Slice) : (s.setSlice d m x).fabric = s.fabric := rfl
@[simp] theorem State.setSlice_link (d m : Nat) (x : Slice) : (s.setSlice d m x).link = s.link := rfl
@[simp] theorem State.setSlice_mem (d m : Nat) (x : Slice) : (s.setSlice d m x).mem = s.mem := rfl
@[simp] theorem State.setSlice_dsp (d m : Nat) (x : Slice) : (s.setSlice d m x).dsp = s.dsp := rfl
@[simp] theorem State.setSlice_eng (d m : Nat) (x : Slice) : (s.setSlice d m x).eng = s.eng := rfl
@[simp] theorem State.setSlice_skein (d m : Nat) (x : Slice) : (s.setSlice d m x).skein = s.skein := rfl
@[simp] theorem State.setSlice_lanes (d m : Nat) (x : Slice) : (s.setSlice d m x).lanes = s.lanes := rfl
@[simp] theorem State.setSlice_ddr (d m : Nat) (x : Slice) : (s.setSlice d m x).ddr = s.ddr := rfl
@[simp] theorem State.setSlice_crypto (d m : Nat) (x : Slice) : (s.setSlice d m x).crypto = s.crypto := rfl
@[simp] theorem State.setSlice_boot (d m : Nat) (x : Slice) : (s.setSlice d m x).boot = s.boot := rfl
@[simp] theorem State.setSlice_clock (d m : Nat) (x : Slice) : (s.setSlice d m x).clock = s.clock := rfl
@[simp] theorem State.setSlice_power (d m : Nat) (x : Slice) : (s.setSlice d m x).power = s.power := rfl
@[simp] theorem State.setSlice_resets (d m : Nat) (x : Slice) : (s.setSlice d m x).resets = s.resets := rfl
@[simp] theorem State.setSlice_dbg (d m : Nat) (x : Slice) : (s.setSlice d m x).dbg = s.dbg := rfl
@[simp] theorem State.setSlice_ply (d m : Nat) (x : Slice) : (s.setSlice d m x).ply = s.ply := rfl
@[simp] theorem State.setSlice_get (d m : Nat) (x : Slice) (page' : Nat) (f' : RegField) (i' : Nat) : (s.setSlice d m x).get page' f' i' = s.get page' f' i' := rfl
@[simp] theorem State.setSlice_flag (d m : Nat) (x : Slice) (page' : Nat) (f' : RegField) (i' : Nat) : (s.setSlice d m x).flag page' f' i' = s.flag page' f' i' := rfl

@[simp] theorem State.setLinkMod_pending (d p : Nat) (m : LinkModule) : (s.setLinkMod d p m).pending = s.pending := rfl
@[simp] theorem State.setLinkMod_fresh (d p : Nat) (m : LinkModule) : (s.setLinkMod d p m).fresh = s.fresh := rfl
@[simp] theorem State.setLinkMod_regs (d p : Nat) (m : LinkModule) : (s.setLinkMod d p m).regs = s.regs := rfl
@[simp] theorem State.setLinkMod_hub (d p : Nat) (m : LinkModule) : (s.setLinkMod d p m).hub = s.hub := rfl
@[simp] theorem State.setLinkMod_events (d p : Nat) (m : LinkModule) : (s.setLinkMod d p m).events = s.events := rfl
@[simp] theorem State.setLinkMod_safety (d p : Nat) (m : LinkModule) : (s.setLinkMod d p m).safety = s.safety := rfl
@[simp] theorem State.setLinkMod_fabric (d p : Nat) (m : LinkModule) : (s.setLinkMod d p m).fabric = s.fabric := rfl
@[simp] theorem State.setLinkMod_span (d p : Nat) (m : LinkModule) : (s.setLinkMod d p m).span = s.span := rfl
@[simp] theorem State.setLinkMod_mem (d p : Nat) (m : LinkModule) : (s.setLinkMod d p m).mem = s.mem := rfl
@[simp] theorem State.setLinkMod_dsp (d p : Nat) (m : LinkModule) : (s.setLinkMod d p m).dsp = s.dsp := rfl
@[simp] theorem State.setLinkMod_eng (d p : Nat) (m : LinkModule) : (s.setLinkMod d p m).eng = s.eng := rfl
@[simp] theorem State.setLinkMod_skein (d p : Nat) (m : LinkModule) : (s.setLinkMod d p m).skein = s.skein := rfl
@[simp] theorem State.setLinkMod_lanes (d p : Nat) (m : LinkModule) : (s.setLinkMod d p m).lanes = s.lanes := rfl
@[simp] theorem State.setLinkMod_ddr (d p : Nat) (m : LinkModule) : (s.setLinkMod d p m).ddr = s.ddr := rfl
@[simp] theorem State.setLinkMod_crypto (d p : Nat) (m : LinkModule) : (s.setLinkMod d p m).crypto = s.crypto := rfl
@[simp] theorem State.setLinkMod_boot (d p : Nat) (m : LinkModule) : (s.setLinkMod d p m).boot = s.boot := rfl
@[simp] theorem State.setLinkMod_clock (d p : Nat) (m : LinkModule) : (s.setLinkMod d p m).clock = s.clock := rfl
@[simp] theorem State.setLinkMod_power (d p : Nat) (m : LinkModule) : (s.setLinkMod d p m).power = s.power := rfl
@[simp] theorem State.setLinkMod_resets (d p : Nat) (m : LinkModule) : (s.setLinkMod d p m).resets = s.resets := rfl
@[simp] theorem State.setLinkMod_dbg (d p : Nat) (m : LinkModule) : (s.setLinkMod d p m).dbg = s.dbg := rfl
@[simp] theorem State.setLinkMod_ply (d p : Nat) (m : LinkModule) : (s.setLinkMod d p m).ply = s.ply := rfl
@[simp] theorem State.setLinkMod_get (d p : Nat) (m : LinkModule) (page' : Nat) (f' : RegField) (i' : Nat) : (s.setLinkMod d p m).get page' f' i' = s.get page' f' i' := rfl
@[simp] theorem State.setLinkMod_flag (d p : Nat) (m : LinkModule) (page' : Nat) (f' : RegField) (i' : Nat) : (s.setLinkMod d p m).flag page' f' i' = s.flag page' f' i' := rfl

@[simp] theorem State.setLinkDir_pending (d m dir : Nat) (l : LinkDir) : (s.setLinkDir d m dir l).pending = s.pending := rfl
@[simp] theorem State.setLinkDir_fresh (d m dir : Nat) (l : LinkDir) : (s.setLinkDir d m dir l).fresh = s.fresh := rfl
@[simp] theorem State.setLinkDir_regs (d m dir : Nat) (l : LinkDir) : (s.setLinkDir d m dir l).regs = s.regs := rfl
@[simp] theorem State.setLinkDir_hub (d m dir : Nat) (l : LinkDir) : (s.setLinkDir d m dir l).hub = s.hub := rfl
@[simp] theorem State.setLinkDir_events (d m dir : Nat) (l : LinkDir) : (s.setLinkDir d m dir l).events = s.events := rfl
@[simp] theorem State.setLinkDir_safety (d m dir : Nat) (l : LinkDir) : (s.setLinkDir d m dir l).safety = s.safety := rfl
@[simp] theorem State.setLinkDir_fabric (d m dir : Nat) (l : LinkDir) : (s.setLinkDir d m dir l).fabric = s.fabric := rfl
@[simp] theorem State.setLinkDir_span (d m dir : Nat) (l : LinkDir) : (s.setLinkDir d m dir l).span = s.span := rfl
@[simp] theorem State.setLinkDir_mem (d m dir : Nat) (l : LinkDir) : (s.setLinkDir d m dir l).mem = s.mem := rfl
@[simp] theorem State.setLinkDir_dsp (d m dir : Nat) (l : LinkDir) : (s.setLinkDir d m dir l).dsp = s.dsp := rfl
@[simp] theorem State.setLinkDir_eng (d m dir : Nat) (l : LinkDir) : (s.setLinkDir d m dir l).eng = s.eng := rfl
@[simp] theorem State.setLinkDir_skein (d m dir : Nat) (l : LinkDir) : (s.setLinkDir d m dir l).skein = s.skein := rfl
@[simp] theorem State.setLinkDir_lanes (d m dir : Nat) (l : LinkDir) : (s.setLinkDir d m dir l).lanes = s.lanes := rfl
@[simp] theorem State.setLinkDir_ddr (d m dir : Nat) (l : LinkDir) : (s.setLinkDir d m dir l).ddr = s.ddr := rfl
@[simp] theorem State.setLinkDir_crypto (d m dir : Nat) (l : LinkDir) : (s.setLinkDir d m dir l).crypto = s.crypto := rfl
@[simp] theorem State.setLinkDir_boot (d m dir : Nat) (l : LinkDir) : (s.setLinkDir d m dir l).boot = s.boot := rfl
@[simp] theorem State.setLinkDir_clock (d m dir : Nat) (l : LinkDir) : (s.setLinkDir d m dir l).clock = s.clock := rfl
@[simp] theorem State.setLinkDir_power (d m dir : Nat) (l : LinkDir) : (s.setLinkDir d m dir l).power = s.power := rfl
@[simp] theorem State.setLinkDir_resets (d m dir : Nat) (l : LinkDir) : (s.setLinkDir d m dir l).resets = s.resets := rfl
@[simp] theorem State.setLinkDir_dbg (d m dir : Nat) (l : LinkDir) : (s.setLinkDir d m dir l).dbg = s.dbg := rfl
@[simp] theorem State.setLinkDir_ply (d m dir : Nat) (l : LinkDir) : (s.setLinkDir d m dir l).ply = s.ply := rfl
@[simp] theorem State.setLinkDir_get (d m dir : Nat) (l : LinkDir) (page' : Nat) (f' : RegField) (i' : Nat) : (s.setLinkDir d m dir l).get page' f' i' = s.get page' f' i' := rfl
@[simp] theorem State.setLinkDir_flag (d m dir : Nat) (l : LinkDir) (page' : Nat) (f' : RegField) (i' : Nat) : (s.setLinkDir d m dir l).flag page' f' i' = s.flag page' f' i' := rfl

@[simp] theorem State.dropFlits_pending (d : Nat) : (s.dropFlits d).pending = s.pending := rfl
@[simp] theorem State.dropFlits_fresh (d : Nat) : (s.dropFlits d).fresh = s.fresh := rfl
@[simp] theorem State.dropFlits_regs (d : Nat) : (s.dropFlits d).regs = s.regs := rfl
@[simp] theorem State.dropFlits_hub (d : Nat) : (s.dropFlits d).hub = s.hub := rfl
@[simp] theorem State.dropFlits_events (d : Nat) : (s.dropFlits d).events = s.events := rfl
@[simp] theorem State.dropFlits_safety (d : Nat) : (s.dropFlits d).safety = s.safety := rfl
@[simp] theorem State.dropFlits_fabric (d : Nat) : (s.dropFlits d).fabric = s.fabric := rfl
@[simp] theorem State.dropFlits_span (d : Nat) : (s.dropFlits d).span = s.span := rfl
@[simp] theorem State.dropFlits_mem (d : Nat) : (s.dropFlits d).mem = s.mem := rfl
@[simp] theorem State.dropFlits_dsp (d : Nat) : (s.dropFlits d).dsp = s.dsp := rfl
@[simp] theorem State.dropFlits_eng (d : Nat) : (s.dropFlits d).eng = s.eng := rfl
@[simp] theorem State.dropFlits_skein (d : Nat) : (s.dropFlits d).skein = s.skein := rfl
@[simp] theorem State.dropFlits_lanes (d : Nat) : (s.dropFlits d).lanes = s.lanes := rfl
@[simp] theorem State.dropFlits_ddr (d : Nat) : (s.dropFlits d).ddr = s.ddr := rfl
@[simp] theorem State.dropFlits_crypto (d : Nat) : (s.dropFlits d).crypto = s.crypto := rfl
@[simp] theorem State.dropFlits_boot (d : Nat) : (s.dropFlits d).boot = s.boot := rfl
@[simp] theorem State.dropFlits_clock (d : Nat) : (s.dropFlits d).clock = s.clock := rfl
@[simp] theorem State.dropFlits_power (d : Nat) : (s.dropFlits d).power = s.power := rfl
@[simp] theorem State.dropFlits_resets (d : Nat) : (s.dropFlits d).resets = s.resets := rfl
@[simp] theorem State.dropFlits_dbg (d : Nat) : (s.dropFlits d).dbg = s.dbg := rfl
@[simp] theorem State.dropFlits_ply (d : Nat) : (s.dropFlits d).ply = s.ply := rfl
@[simp] theorem State.dropFlits_get (d : Nat) (page' : Nat) (f' : RegField) (i' : Nat) : (s.dropFlits d).get page' f' i' = s.get page' f' i' := rfl
@[simp] theorem State.dropFlits_flag (d : Nat) (page' : Nat) (f' : RegField) (i' : Nat) : (s.dropFlits d).flag page' f' i' = s.flag page' f' i' := rfl

@[simp] theorem State.setSide_pending (d f : Nat) (x : SpanSide) : (s.setSide d f x).pending = s.pending := rfl
@[simp] theorem State.setSide_fresh (d f : Nat) (x : SpanSide) : (s.setSide d f x).fresh = s.fresh := rfl
@[simp] theorem State.setSide_regs (d f : Nat) (x : SpanSide) : (s.setSide d f x).regs = s.regs := rfl
@[simp] theorem State.setSide_hub (d f : Nat) (x : SpanSide) : (s.setSide d f x).hub = s.hub := rfl
@[simp] theorem State.setSide_events (d f : Nat) (x : SpanSide) : (s.setSide d f x).events = s.events := rfl
@[simp] theorem State.setSide_safety (d f : Nat) (x : SpanSide) : (s.setSide d f x).safety = s.safety := rfl
@[simp] theorem State.setSide_fabric (d f : Nat) (x : SpanSide) : (s.setSide d f x).fabric = s.fabric := rfl
@[simp] theorem State.setSide_link (d f : Nat) (x : SpanSide) : (s.setSide d f x).link = s.link := rfl
@[simp] theorem State.setSide_mem (d f : Nat) (x : SpanSide) : (s.setSide d f x).mem = s.mem := rfl
@[simp] theorem State.setSide_dsp (d f : Nat) (x : SpanSide) : (s.setSide d f x).dsp = s.dsp := rfl
@[simp] theorem State.setSide_eng (d f : Nat) (x : SpanSide) : (s.setSide d f x).eng = s.eng := rfl
@[simp] theorem State.setSide_skein (d f : Nat) (x : SpanSide) : (s.setSide d f x).skein = s.skein := rfl
@[simp] theorem State.setSide_lanes (d f : Nat) (x : SpanSide) : (s.setSide d f x).lanes = s.lanes := rfl
@[simp] theorem State.setSide_ddr (d f : Nat) (x : SpanSide) : (s.setSide d f x).ddr = s.ddr := rfl
@[simp] theorem State.setSide_crypto (d f : Nat) (x : SpanSide) : (s.setSide d f x).crypto = s.crypto := rfl
@[simp] theorem State.setSide_boot (d f : Nat) (x : SpanSide) : (s.setSide d f x).boot = s.boot := rfl
@[simp] theorem State.setSide_clock (d f : Nat) (x : SpanSide) : (s.setSide d f x).clock = s.clock := rfl
@[simp] theorem State.setSide_power (d f : Nat) (x : SpanSide) : (s.setSide d f x).power = s.power := rfl
@[simp] theorem State.setSide_resets (d f : Nat) (x : SpanSide) : (s.setSide d f x).resets = s.resets := rfl
@[simp] theorem State.setSide_dbg (d f : Nat) (x : SpanSide) : (s.setSide d f x).dbg = s.dbg := rfl
@[simp] theorem State.setSide_ply (d f : Nat) (x : SpanSide) : (s.setSide d f x).ply = s.ply := rfl
@[simp] theorem State.setSide_get (d f : Nat) (x : SpanSide) (page' : Nat) (f' : RegField) (i' : Nat) : (s.setSide d f x).get page' f' i' = s.get page' f' i' := rfl
@[simp] theorem State.setSide_flag (d f : Nat) (x : SpanSide) (page' : Nat) (f' : RegField) (i' : Nat) : (s.setSide d f x).flag page' f' i' = s.flag page' f' i' := rfl

@[simp] theorem State.setDspSlice_pending (d sec j : Nat) (x : DspSlice) : (s.setDspSlice d sec j x).pending = s.pending := rfl
@[simp] theorem State.setDspSlice_fresh (d sec j : Nat) (x : DspSlice) : (s.setDspSlice d sec j x).fresh = s.fresh := rfl
@[simp] theorem State.setDspSlice_regs (d sec j : Nat) (x : DspSlice) : (s.setDspSlice d sec j x).regs = s.regs := rfl
@[simp] theorem State.setDspSlice_hub (d sec j : Nat) (x : DspSlice) : (s.setDspSlice d sec j x).hub = s.hub := rfl
@[simp] theorem State.setDspSlice_events (d sec j : Nat) (x : DspSlice) : (s.setDspSlice d sec j x).events = s.events := rfl
@[simp] theorem State.setDspSlice_safety (d sec j : Nat) (x : DspSlice) : (s.setDspSlice d sec j x).safety = s.safety := rfl
@[simp] theorem State.setDspSlice_fabric (d sec j : Nat) (x : DspSlice) : (s.setDspSlice d sec j x).fabric = s.fabric := rfl
@[simp] theorem State.setDspSlice_link (d sec j : Nat) (x : DspSlice) : (s.setDspSlice d sec j x).link = s.link := rfl
@[simp] theorem State.setDspSlice_span (d sec j : Nat) (x : DspSlice) : (s.setDspSlice d sec j x).span = s.span := rfl
@[simp] theorem State.setDspSlice_mem (d sec j : Nat) (x : DspSlice) : (s.setDspSlice d sec j x).mem = s.mem := rfl
@[simp] theorem State.setDspSlice_eng (d sec j : Nat) (x : DspSlice) : (s.setDspSlice d sec j x).eng = s.eng := rfl
@[simp] theorem State.setDspSlice_skein (d sec j : Nat) (x : DspSlice) : (s.setDspSlice d sec j x).skein = s.skein := rfl
@[simp] theorem State.setDspSlice_lanes (d sec j : Nat) (x : DspSlice) : (s.setDspSlice d sec j x).lanes = s.lanes := rfl
@[simp] theorem State.setDspSlice_ddr (d sec j : Nat) (x : DspSlice) : (s.setDspSlice d sec j x).ddr = s.ddr := rfl
@[simp] theorem State.setDspSlice_crypto (d sec j : Nat) (x : DspSlice) : (s.setDspSlice d sec j x).crypto = s.crypto := rfl
@[simp] theorem State.setDspSlice_boot (d sec j : Nat) (x : DspSlice) : (s.setDspSlice d sec j x).boot = s.boot := rfl
@[simp] theorem State.setDspSlice_clock (d sec j : Nat) (x : DspSlice) : (s.setDspSlice d sec j x).clock = s.clock := rfl
@[simp] theorem State.setDspSlice_power (d sec j : Nat) (x : DspSlice) : (s.setDspSlice d sec j x).power = s.power := rfl
@[simp] theorem State.setDspSlice_resets (d sec j : Nat) (x : DspSlice) : (s.setDspSlice d sec j x).resets = s.resets := rfl
@[simp] theorem State.setDspSlice_dbg (d sec j : Nat) (x : DspSlice) : (s.setDspSlice d sec j x).dbg = s.dbg := rfl
@[simp] theorem State.setDspSlice_ply (d sec j : Nat) (x : DspSlice) : (s.setDspSlice d sec j x).ply = s.ply := rfl
@[simp] theorem State.setDspSlice_get (d sec j : Nat) (x : DspSlice) (page' : Nat) (f' : RegField) (i' : Nat) : (s.setDspSlice d sec j x).get page' f' i' = s.get page' f' i' := rfl
@[simp] theorem State.setDspSlice_flag (d sec j : Nat) (x : DspSlice) (page' : Nat) (f' : RegField) (i' : Nat) : (s.setDspSlice d sec j x).flag page' f' i' = s.flag page' f' i' := rfl

@[simp] theorem State.setCoef_pending (d sec j e : Nat) (v : BitVec 27) : (s.setCoef d sec j e v).pending = s.pending := rfl
@[simp] theorem State.setCoef_fresh (d sec j e : Nat) (v : BitVec 27) : (s.setCoef d sec j e v).fresh = s.fresh := rfl
@[simp] theorem State.setCoef_regs (d sec j e : Nat) (v : BitVec 27) : (s.setCoef d sec j e v).regs = s.regs := rfl
@[simp] theorem State.setCoef_hub (d sec j e : Nat) (v : BitVec 27) : (s.setCoef d sec j e v).hub = s.hub := rfl
@[simp] theorem State.setCoef_events (d sec j e : Nat) (v : BitVec 27) : (s.setCoef d sec j e v).events = s.events := rfl
@[simp] theorem State.setCoef_safety (d sec j e : Nat) (v : BitVec 27) : (s.setCoef d sec j e v).safety = s.safety := rfl
@[simp] theorem State.setCoef_fabric (d sec j e : Nat) (v : BitVec 27) : (s.setCoef d sec j e v).fabric = s.fabric := rfl
@[simp] theorem State.setCoef_link (d sec j e : Nat) (v : BitVec 27) : (s.setCoef d sec j e v).link = s.link := rfl
@[simp] theorem State.setCoef_span (d sec j e : Nat) (v : BitVec 27) : (s.setCoef d sec j e v).span = s.span := rfl
@[simp] theorem State.setCoef_mem (d sec j e : Nat) (v : BitVec 27) : (s.setCoef d sec j e v).mem = s.mem := rfl
@[simp] theorem State.setCoef_eng (d sec j e : Nat) (v : BitVec 27) : (s.setCoef d sec j e v).eng = s.eng := rfl
@[simp] theorem State.setCoef_skein (d sec j e : Nat) (v : BitVec 27) : (s.setCoef d sec j e v).skein = s.skein := rfl
@[simp] theorem State.setCoef_lanes (d sec j e : Nat) (v : BitVec 27) : (s.setCoef d sec j e v).lanes = s.lanes := rfl
@[simp] theorem State.setCoef_ddr (d sec j e : Nat) (v : BitVec 27) : (s.setCoef d sec j e v).ddr = s.ddr := rfl
@[simp] theorem State.setCoef_crypto (d sec j e : Nat) (v : BitVec 27) : (s.setCoef d sec j e v).crypto = s.crypto := rfl
@[simp] theorem State.setCoef_boot (d sec j e : Nat) (v : BitVec 27) : (s.setCoef d sec j e v).boot = s.boot := rfl
@[simp] theorem State.setCoef_clock (d sec j e : Nat) (v : BitVec 27) : (s.setCoef d sec j e v).clock = s.clock := rfl
@[simp] theorem State.setCoef_power (d sec j e : Nat) (v : BitVec 27) : (s.setCoef d sec j e v).power = s.power := rfl
@[simp] theorem State.setCoef_resets (d sec j e : Nat) (v : BitVec 27) : (s.setCoef d sec j e v).resets = s.resets := rfl
@[simp] theorem State.setCoef_dbg (d sec j e : Nat) (v : BitVec 27) : (s.setCoef d sec j e v).dbg = s.dbg := rfl
@[simp] theorem State.setCoef_ply (d sec j e : Nat) (v : BitVec 27) : (s.setCoef d sec j e v).ply = s.ply := rfl
@[simp] theorem State.setCoef_get (d sec j e : Nat) (v : BitVec 27) (page' : Nat) (f' : RegField) (i' : Nat) : (s.setCoef d sec j e v).get page' f' i' = s.get page' f' i' := rfl
@[simp] theorem State.setCoef_flag (d sec j e : Nat) (v : BitVec 27) (page' : Nat) (f' : RegField) (i' : Nat) : (s.setCoef d sec j e v).flag page' f' i' = s.flag page' f' i' := rfl

@[simp] theorem State.setEngine_pending (e : Nat) (x : Engine) : (s.setEngine e x).pending = s.pending := rfl
@[simp] theorem State.setEngine_fresh (e : Nat) (x : Engine) : (s.setEngine e x).fresh = s.fresh := rfl
@[simp] theorem State.setEngine_regs (e : Nat) (x : Engine) : (s.setEngine e x).regs = s.regs := rfl
@[simp] theorem State.setEngine_hub (e : Nat) (x : Engine) : (s.setEngine e x).hub = s.hub := rfl
@[simp] theorem State.setEngine_events (e : Nat) (x : Engine) : (s.setEngine e x).events = s.events := rfl
@[simp] theorem State.setEngine_safety (e : Nat) (x : Engine) : (s.setEngine e x).safety = s.safety := rfl
@[simp] theorem State.setEngine_fabric (e : Nat) (x : Engine) : (s.setEngine e x).fabric = s.fabric := rfl
@[simp] theorem State.setEngine_link (e : Nat) (x : Engine) : (s.setEngine e x).link = s.link := rfl
@[simp] theorem State.setEngine_span (e : Nat) (x : Engine) : (s.setEngine e x).span = s.span := rfl
@[simp] theorem State.setEngine_mem (e : Nat) (x : Engine) : (s.setEngine e x).mem = s.mem := rfl
@[simp] theorem State.setEngine_dsp (e : Nat) (x : Engine) : (s.setEngine e x).dsp = s.dsp := rfl
@[simp] theorem State.setEngine_skein (e : Nat) (x : Engine) : (s.setEngine e x).skein = s.skein := rfl
@[simp] theorem State.setEngine_lanes (e : Nat) (x : Engine) : (s.setEngine e x).lanes = s.lanes := rfl
@[simp] theorem State.setEngine_ddr (e : Nat) (x : Engine) : (s.setEngine e x).ddr = s.ddr := rfl
@[simp] theorem State.setEngine_crypto (e : Nat) (x : Engine) : (s.setEngine e x).crypto = s.crypto := rfl
@[simp] theorem State.setEngine_boot (e : Nat) (x : Engine) : (s.setEngine e x).boot = s.boot := rfl
@[simp] theorem State.setEngine_clock (e : Nat) (x : Engine) : (s.setEngine e x).clock = s.clock := rfl
@[simp] theorem State.setEngine_power (e : Nat) (x : Engine) : (s.setEngine e x).power = s.power := rfl
@[simp] theorem State.setEngine_resets (e : Nat) (x : Engine) : (s.setEngine e x).resets = s.resets := rfl
@[simp] theorem State.setEngine_dbg (e : Nat) (x : Engine) : (s.setEngine e x).dbg = s.dbg := rfl
@[simp] theorem State.setEngine_ply (e : Nat) (x : Engine) : (s.setEngine e x).ply = s.ply := rfl
@[simp] theorem State.setEngine_get (e : Nat) (x : Engine) (page' : Nat) (f' : RegField) (i' : Nat) : (s.setEngine e x).get page' f' i' = s.get page' f' i' := rfl
@[simp] theorem State.setEngine_flag (e : Nat) (x : Engine) (page' : Nat) (f' : RegField) (i' : Nat) : (s.setEngine e x).flag page' f' i' = s.flag page' f' i' := rfl

@[simp] theorem State.fetchNew_pending (e : Nat) : (s.fetchNew e).pending = s.pending := rfl
@[simp] theorem State.fetchNew_fresh (e : Nat) : (s.fetchNew e).fresh = s.fresh := rfl
@[simp] theorem State.fetchNew_regs (e : Nat) : (s.fetchNew e).regs = s.regs := rfl
@[simp] theorem State.fetchNew_hub (e : Nat) : (s.fetchNew e).hub = s.hub := rfl
@[simp] theorem State.fetchNew_events (e : Nat) : (s.fetchNew e).events = s.events := rfl
@[simp] theorem State.fetchNew_safety (e : Nat) : (s.fetchNew e).safety = s.safety := rfl
@[simp] theorem State.fetchNew_fabric (e : Nat) : (s.fetchNew e).fabric = s.fabric := rfl
@[simp] theorem State.fetchNew_link (e : Nat) : (s.fetchNew e).link = s.link := rfl
@[simp] theorem State.fetchNew_span (e : Nat) : (s.fetchNew e).span = s.span := rfl
@[simp] theorem State.fetchNew_mem (e : Nat) : (s.fetchNew e).mem = s.mem := rfl
@[simp] theorem State.fetchNew_dsp (e : Nat) : (s.fetchNew e).dsp = s.dsp := rfl
@[simp] theorem State.fetchNew_skein (e : Nat) : (s.fetchNew e).skein = s.skein := rfl
@[simp] theorem State.fetchNew_lanes (e : Nat) : (s.fetchNew e).lanes = s.lanes := rfl
@[simp] theorem State.fetchNew_ddr (e : Nat) : (s.fetchNew e).ddr = s.ddr := rfl
@[simp] theorem State.fetchNew_crypto (e : Nat) : (s.fetchNew e).crypto = s.crypto := rfl
@[simp] theorem State.fetchNew_boot (e : Nat) : (s.fetchNew e).boot = s.boot := rfl
@[simp] theorem State.fetchNew_clock (e : Nat) : (s.fetchNew e).clock = s.clock := rfl
@[simp] theorem State.fetchNew_power (e : Nat) : (s.fetchNew e).power = s.power := rfl
@[simp] theorem State.fetchNew_resets (e : Nat) : (s.fetchNew e).resets = s.resets := rfl
@[simp] theorem State.fetchNew_dbg (e : Nat) : (s.fetchNew e).dbg = s.dbg := rfl
@[simp] theorem State.fetchNew_ply (e : Nat) : (s.fetchNew e).ply = s.ply := rfl
@[simp] theorem State.fetchNew_get (e : Nat) (page' : Nat) (f' : RegField) (i' : Nat) : (s.fetchNew e).get page' f' i' = s.get page' f' i' := rfl
@[simp] theorem State.fetchNew_flag (e : Nat) (page' : Nat) (f' : RegField) (i' : Nat) : (s.fetchNew e).flag page' f' i' = s.flag page' f' i' := rfl

@[simp] theorem State.fetchCopy_pending (a b : Nat) : (s.fetchCopy a b).pending = s.pending := rfl
@[simp] theorem State.fetchCopy_fresh (a b : Nat) : (s.fetchCopy a b).fresh = s.fresh := rfl
@[simp] theorem State.fetchCopy_regs (a b : Nat) : (s.fetchCopy a b).regs = s.regs := rfl
@[simp] theorem State.fetchCopy_hub (a b : Nat) : (s.fetchCopy a b).hub = s.hub := rfl
@[simp] theorem State.fetchCopy_events (a b : Nat) : (s.fetchCopy a b).events = s.events := rfl
@[simp] theorem State.fetchCopy_safety (a b : Nat) : (s.fetchCopy a b).safety = s.safety := rfl
@[simp] theorem State.fetchCopy_fabric (a b : Nat) : (s.fetchCopy a b).fabric = s.fabric := rfl
@[simp] theorem State.fetchCopy_link (a b : Nat) : (s.fetchCopy a b).link = s.link := rfl
@[simp] theorem State.fetchCopy_span (a b : Nat) : (s.fetchCopy a b).span = s.span := rfl
@[simp] theorem State.fetchCopy_mem (a b : Nat) : (s.fetchCopy a b).mem = s.mem := rfl
@[simp] theorem State.fetchCopy_dsp (a b : Nat) : (s.fetchCopy a b).dsp = s.dsp := rfl
@[simp] theorem State.fetchCopy_skein (a b : Nat) : (s.fetchCopy a b).skein = s.skein := rfl
@[simp] theorem State.fetchCopy_lanes (a b : Nat) : (s.fetchCopy a b).lanes = s.lanes := rfl
@[simp] theorem State.fetchCopy_ddr (a b : Nat) : (s.fetchCopy a b).ddr = s.ddr := rfl
@[simp] theorem State.fetchCopy_crypto (a b : Nat) : (s.fetchCopy a b).crypto = s.crypto := rfl
@[simp] theorem State.fetchCopy_boot (a b : Nat) : (s.fetchCopy a b).boot = s.boot := rfl
@[simp] theorem State.fetchCopy_clock (a b : Nat) : (s.fetchCopy a b).clock = s.clock := rfl
@[simp] theorem State.fetchCopy_power (a b : Nat) : (s.fetchCopy a b).power = s.power := rfl
@[simp] theorem State.fetchCopy_resets (a b : Nat) : (s.fetchCopy a b).resets = s.resets := rfl
@[simp] theorem State.fetchCopy_dbg (a b : Nat) : (s.fetchCopy a b).dbg = s.dbg := rfl
@[simp] theorem State.fetchCopy_ply (a b : Nat) : (s.fetchCopy a b).ply = s.ply := rfl
@[simp] theorem State.fetchCopy_get (a b : Nat) (page' : Nat) (f' : RegField) (i' : Nat) : (s.fetchCopy a b).get page' f' i' = s.get page' f' i' := rfl
@[simp] theorem State.fetchCopy_flag (a b : Nat) (page' : Nat) (f' : RegField) (i' : Nat) : (s.fetchCopy a b).flag page' f' i' = s.flag page' f' i' := rfl

@[simp] theorem State.setSkEnd_pending (e : Nat) (x : SkEnd) : (s.setSkEnd e x).pending = s.pending := rfl
@[simp] theorem State.setSkEnd_fresh (e : Nat) (x : SkEnd) : (s.setSkEnd e x).fresh = s.fresh := rfl
@[simp] theorem State.setSkEnd_regs (e : Nat) (x : SkEnd) : (s.setSkEnd e x).regs = s.regs := rfl
@[simp] theorem State.setSkEnd_hub (e : Nat) (x : SkEnd) : (s.setSkEnd e x).hub = s.hub := rfl
@[simp] theorem State.setSkEnd_events (e : Nat) (x : SkEnd) : (s.setSkEnd e x).events = s.events := rfl
@[simp] theorem State.setSkEnd_safety (e : Nat) (x : SkEnd) : (s.setSkEnd e x).safety = s.safety := rfl
@[simp] theorem State.setSkEnd_fabric (e : Nat) (x : SkEnd) : (s.setSkEnd e x).fabric = s.fabric := rfl
@[simp] theorem State.setSkEnd_link (e : Nat) (x : SkEnd) : (s.setSkEnd e x).link = s.link := rfl
@[simp] theorem State.setSkEnd_span (e : Nat) (x : SkEnd) : (s.setSkEnd e x).span = s.span := rfl
@[simp] theorem State.setSkEnd_mem (e : Nat) (x : SkEnd) : (s.setSkEnd e x).mem = s.mem := rfl
@[simp] theorem State.setSkEnd_dsp (e : Nat) (x : SkEnd) : (s.setSkEnd e x).dsp = s.dsp := rfl
@[simp] theorem State.setSkEnd_eng (e : Nat) (x : SkEnd) : (s.setSkEnd e x).eng = s.eng := rfl
@[simp] theorem State.setSkEnd_lanes (e : Nat) (x : SkEnd) : (s.setSkEnd e x).lanes = s.lanes := rfl
@[simp] theorem State.setSkEnd_ddr (e : Nat) (x : SkEnd) : (s.setSkEnd e x).ddr = s.ddr := rfl
@[simp] theorem State.setSkEnd_crypto (e : Nat) (x : SkEnd) : (s.setSkEnd e x).crypto = s.crypto := rfl
@[simp] theorem State.setSkEnd_boot (e : Nat) (x : SkEnd) : (s.setSkEnd e x).boot = s.boot := rfl
@[simp] theorem State.setSkEnd_clock (e : Nat) (x : SkEnd) : (s.setSkEnd e x).clock = s.clock := rfl
@[simp] theorem State.setSkEnd_power (e : Nat) (x : SkEnd) : (s.setSkEnd e x).power = s.power := rfl
@[simp] theorem State.setSkEnd_resets (e : Nat) (x : SkEnd) : (s.setSkEnd e x).resets = s.resets := rfl
@[simp] theorem State.setSkEnd_dbg (e : Nat) (x : SkEnd) : (s.setSkEnd e x).dbg = s.dbg := rfl
@[simp] theorem State.setSkEnd_ply (e : Nat) (x : SkEnd) : (s.setSkEnd e x).ply = s.ply := rfl
@[simp] theorem State.setSkEnd_get (e : Nat) (x : SkEnd) (page' : Nat) (f' : RegField) (i' : Nat) : (s.setSkEnd e x).get page' f' i' = s.get page' f' i' := rfl
@[simp] theorem State.setSkEnd_flag (e : Nat) (x : SkEnd) (page' : Nat) (f' : RegField) (i' : Nat) : (s.setSkEnd e x).flag page' f' i' = s.flag page' f' i' := rfl

@[simp] theorem State.setSkRouter_pending (d x y : Nat) (r : SkRouter) : (s.setSkRouter d x y r).pending = s.pending := rfl
@[simp] theorem State.setSkRouter_fresh (d x y : Nat) (r : SkRouter) : (s.setSkRouter d x y r).fresh = s.fresh := rfl
@[simp] theorem State.setSkRouter_regs (d x y : Nat) (r : SkRouter) : (s.setSkRouter d x y r).regs = s.regs := rfl
@[simp] theorem State.setSkRouter_hub (d x y : Nat) (r : SkRouter) : (s.setSkRouter d x y r).hub = s.hub := rfl
@[simp] theorem State.setSkRouter_events (d x y : Nat) (r : SkRouter) : (s.setSkRouter d x y r).events = s.events := rfl
@[simp] theorem State.setSkRouter_safety (d x y : Nat) (r : SkRouter) : (s.setSkRouter d x y r).safety = s.safety := rfl
@[simp] theorem State.setSkRouter_fabric (d x y : Nat) (r : SkRouter) : (s.setSkRouter d x y r).fabric = s.fabric := rfl
@[simp] theorem State.setSkRouter_link (d x y : Nat) (r : SkRouter) : (s.setSkRouter d x y r).link = s.link := rfl
@[simp] theorem State.setSkRouter_span (d x y : Nat) (r : SkRouter) : (s.setSkRouter d x y r).span = s.span := rfl
@[simp] theorem State.setSkRouter_mem (d x y : Nat) (r : SkRouter) : (s.setSkRouter d x y r).mem = s.mem := rfl
@[simp] theorem State.setSkRouter_dsp (d x y : Nat) (r : SkRouter) : (s.setSkRouter d x y r).dsp = s.dsp := rfl
@[simp] theorem State.setSkRouter_eng (d x y : Nat) (r : SkRouter) : (s.setSkRouter d x y r).eng = s.eng := rfl
@[simp] theorem State.setSkRouter_lanes (d x y : Nat) (r : SkRouter) : (s.setSkRouter d x y r).lanes = s.lanes := rfl
@[simp] theorem State.setSkRouter_ddr (d x y : Nat) (r : SkRouter) : (s.setSkRouter d x y r).ddr = s.ddr := rfl
@[simp] theorem State.setSkRouter_crypto (d x y : Nat) (r : SkRouter) : (s.setSkRouter d x y r).crypto = s.crypto := rfl
@[simp] theorem State.setSkRouter_boot (d x y : Nat) (r : SkRouter) : (s.setSkRouter d x y r).boot = s.boot := rfl
@[simp] theorem State.setSkRouter_clock (d x y : Nat) (r : SkRouter) : (s.setSkRouter d x y r).clock = s.clock := rfl
@[simp] theorem State.setSkRouter_power (d x y : Nat) (r : SkRouter) : (s.setSkRouter d x y r).power = s.power := rfl
@[simp] theorem State.setSkRouter_resets (d x y : Nat) (r : SkRouter) : (s.setSkRouter d x y r).resets = s.resets := rfl
@[simp] theorem State.setSkRouter_dbg (d x y : Nat) (r : SkRouter) : (s.setSkRouter d x y r).dbg = s.dbg := rfl
@[simp] theorem State.setSkRouter_ply (d x y : Nat) (r : SkRouter) : (s.setSkRouter d x y r).ply = s.ply := rfl
@[simp] theorem State.setSkRouter_get (d x y : Nat) (r : SkRouter) (page' : Nat) (f' : RegField) (i' : Nat) : (s.setSkRouter d x y r).get page' f' i' = s.get page' f' i' := rfl
@[simp] theorem State.setSkRouter_flag (d x y : Nat) (r : SkRouter) (page' : Nat) (f' : RegField) (i' : Nat) : (s.setSkRouter d x y r).flag page' f' i' = s.flag page' f' i' := rfl

@[simp] theorem State.setSkLink_pending (k : Nat) (l : List SkFlit) : (s.setSkLink k l).pending = s.pending := rfl
@[simp] theorem State.setSkLink_fresh (k : Nat) (l : List SkFlit) : (s.setSkLink k l).fresh = s.fresh := rfl
@[simp] theorem State.setSkLink_regs (k : Nat) (l : List SkFlit) : (s.setSkLink k l).regs = s.regs := rfl
@[simp] theorem State.setSkLink_hub (k : Nat) (l : List SkFlit) : (s.setSkLink k l).hub = s.hub := rfl
@[simp] theorem State.setSkLink_events (k : Nat) (l : List SkFlit) : (s.setSkLink k l).events = s.events := rfl
@[simp] theorem State.setSkLink_safety (k : Nat) (l : List SkFlit) : (s.setSkLink k l).safety = s.safety := rfl
@[simp] theorem State.setSkLink_fabric (k : Nat) (l : List SkFlit) : (s.setSkLink k l).fabric = s.fabric := rfl
@[simp] theorem State.setSkLink_link (k : Nat) (l : List SkFlit) : (s.setSkLink k l).link = s.link := rfl
@[simp] theorem State.setSkLink_span (k : Nat) (l : List SkFlit) : (s.setSkLink k l).span = s.span := rfl
@[simp] theorem State.setSkLink_mem (k : Nat) (l : List SkFlit) : (s.setSkLink k l).mem = s.mem := rfl
@[simp] theorem State.setSkLink_dsp (k : Nat) (l : List SkFlit) : (s.setSkLink k l).dsp = s.dsp := rfl
@[simp] theorem State.setSkLink_eng (k : Nat) (l : List SkFlit) : (s.setSkLink k l).eng = s.eng := rfl
@[simp] theorem State.setSkLink_lanes (k : Nat) (l : List SkFlit) : (s.setSkLink k l).lanes = s.lanes := rfl
@[simp] theorem State.setSkLink_ddr (k : Nat) (l : List SkFlit) : (s.setSkLink k l).ddr = s.ddr := rfl
@[simp] theorem State.setSkLink_crypto (k : Nat) (l : List SkFlit) : (s.setSkLink k l).crypto = s.crypto := rfl
@[simp] theorem State.setSkLink_boot (k : Nat) (l : List SkFlit) : (s.setSkLink k l).boot = s.boot := rfl
@[simp] theorem State.setSkLink_clock (k : Nat) (l : List SkFlit) : (s.setSkLink k l).clock = s.clock := rfl
@[simp] theorem State.setSkLink_power (k : Nat) (l : List SkFlit) : (s.setSkLink k l).power = s.power := rfl
@[simp] theorem State.setSkLink_resets (k : Nat) (l : List SkFlit) : (s.setSkLink k l).resets = s.resets := rfl
@[simp] theorem State.setSkLink_dbg (k : Nat) (l : List SkFlit) : (s.setSkLink k l).dbg = s.dbg := rfl
@[simp] theorem State.setSkLink_ply (k : Nat) (l : List SkFlit) : (s.setSkLink k l).ply = s.ply := rfl
@[simp] theorem State.setSkLink_get (k : Nat) (l : List SkFlit) (page' : Nat) (f' : RegField) (i' : Nat) : (s.setSkLink k l).get page' f' i' = s.get page' f' i' := rfl
@[simp] theorem State.setSkLink_flag (k : Nat) (l : List SkFlit) (page' : Nat) (f' : RegField) (i' : Nat) : (s.setSkLink k l).flag page' f' i' = s.flag page' f' i' := rfl

@[simp] theorem State.claimAs_pending (d : Nat) (old new : Flit) : (s.claimAs d old new).pending = s.pending := rfl
@[simp] theorem State.claimAs_fresh (d : Nat) (old new : Flit) : (s.claimAs d old new).fresh = s.fresh := rfl
@[simp] theorem State.claimAs_regs (d : Nat) (old new : Flit) : (s.claimAs d old new).regs = s.regs := rfl
@[simp] theorem State.claimAs_hub (d : Nat) (old new : Flit) : (s.claimAs d old new).hub = s.hub := rfl
@[simp] theorem State.claimAs_events (d : Nat) (old new : Flit) : (s.claimAs d old new).events = s.events := rfl
@[simp] theorem State.claimAs_safety (d : Nat) (old new : Flit) : (s.claimAs d old new).safety = s.safety := rfl
@[simp] theorem State.claimAs_fabric (d : Nat) (old new : Flit) : (s.claimAs d old new).fabric = s.fabric := rfl
@[simp] theorem State.claimAs_link (d : Nat) (old new : Flit) : (s.claimAs d old new).link = s.link := rfl
@[simp] theorem State.claimAs_span (d : Nat) (old new : Flit) : (s.claimAs d old new).span = s.span := rfl
@[simp] theorem State.claimAs_mem (d : Nat) (old new : Flit) : (s.claimAs d old new).mem = s.mem := rfl
@[simp] theorem State.claimAs_dsp (d : Nat) (old new : Flit) : (s.claimAs d old new).dsp = s.dsp := rfl
@[simp] theorem State.claimAs_eng (d : Nat) (old new : Flit) : (s.claimAs d old new).eng = s.eng := rfl
@[simp] theorem State.claimAs_lanes (d : Nat) (old new : Flit) : (s.claimAs d old new).lanes = s.lanes := rfl
@[simp] theorem State.claimAs_ddr (d : Nat) (old new : Flit) : (s.claimAs d old new).ddr = s.ddr := rfl
@[simp] theorem State.claimAs_crypto (d : Nat) (old new : Flit) : (s.claimAs d old new).crypto = s.crypto := rfl
@[simp] theorem State.claimAs_boot (d : Nat) (old new : Flit) : (s.claimAs d old new).boot = s.boot := rfl
@[simp] theorem State.claimAs_clock (d : Nat) (old new : Flit) : (s.claimAs d old new).clock = s.clock := rfl
@[simp] theorem State.claimAs_power (d : Nat) (old new : Flit) : (s.claimAs d old new).power = s.power := rfl
@[simp] theorem State.claimAs_resets (d : Nat) (old new : Flit) : (s.claimAs d old new).resets = s.resets := rfl
@[simp] theorem State.claimAs_dbg (d : Nat) (old new : Flit) : (s.claimAs d old new).dbg = s.dbg := rfl
@[simp] theorem State.claimAs_ply (d : Nat) (old new : Flit) : (s.claimAs d old new).ply = s.ply := rfl
@[simp] theorem State.claimAs_get (d : Nat) (old new : Flit) (page' : Nat) (f' : RegField) (i' : Nat) : (s.claimAs d old new).get page' f' i' = s.get page' f' i' := rfl
@[simp] theorem State.claimAs_flag (d : Nat) (old new : Flit) (page' : Nat) (f' : RegField) (i' : Nat) : (s.claimAs d old new).flag page' f' i' = s.flag page' f' i' := rfl

@[simp] theorem State.dropNet_pending (d : Nat) : (s.dropNet d).pending = s.pending := rfl
@[simp] theorem State.dropNet_fresh (d : Nat) : (s.dropNet d).fresh = s.fresh := rfl
@[simp] theorem State.dropNet_regs (d : Nat) : (s.dropNet d).regs = s.regs := rfl
@[simp] theorem State.dropNet_hub (d : Nat) : (s.dropNet d).hub = s.hub := rfl
@[simp] theorem State.dropNet_events (d : Nat) : (s.dropNet d).events = s.events := rfl
@[simp] theorem State.dropNet_safety (d : Nat) : (s.dropNet d).safety = s.safety := rfl
@[simp] theorem State.dropNet_fabric (d : Nat) : (s.dropNet d).fabric = s.fabric := rfl
@[simp] theorem State.dropNet_link (d : Nat) : (s.dropNet d).link = s.link := rfl
@[simp] theorem State.dropNet_span (d : Nat) : (s.dropNet d).span = s.span := rfl
@[simp] theorem State.dropNet_mem (d : Nat) : (s.dropNet d).mem = s.mem := rfl
@[simp] theorem State.dropNet_dsp (d : Nat) : (s.dropNet d).dsp = s.dsp := rfl
@[simp] theorem State.dropNet_eng (d : Nat) : (s.dropNet d).eng = s.eng := rfl
@[simp] theorem State.dropNet_lanes (d : Nat) : (s.dropNet d).lanes = s.lanes := rfl
@[simp] theorem State.dropNet_ddr (d : Nat) : (s.dropNet d).ddr = s.ddr := rfl
@[simp] theorem State.dropNet_crypto (d : Nat) : (s.dropNet d).crypto = s.crypto := rfl
@[simp] theorem State.dropNet_boot (d : Nat) : (s.dropNet d).boot = s.boot := rfl
@[simp] theorem State.dropNet_clock (d : Nat) : (s.dropNet d).clock = s.clock := rfl
@[simp] theorem State.dropNet_power (d : Nat) : (s.dropNet d).power = s.power := rfl
@[simp] theorem State.dropNet_resets (d : Nat) : (s.dropNet d).resets = s.resets := rfl
@[simp] theorem State.dropNet_dbg (d : Nat) : (s.dropNet d).dbg = s.dbg := rfl
@[simp] theorem State.dropNet_ply (d : Nat) : (s.dropNet d).ply = s.ply := rfl
@[simp] theorem State.dropNet_get (d : Nat) (page' : Nat) (f' : RegField) (i' : Nat) : (s.dropNet d).get page' f' i' = s.get page' f' i' := rfl
@[simp] theorem State.dropNet_flag (d : Nat) (page' : Nat) (f' : RegField) (i' : Nat) : (s.dropNet d).flag page' f' i' = s.flag page' f' i' := rfl

@[simp] theorem State.portsAsReset_pending (d : Nat) : (s.portsAsReset d).pending = s.pending := rfl
@[simp] theorem State.portsAsReset_fresh (d : Nat) : (s.portsAsReset d).fresh = s.fresh := rfl
@[simp] theorem State.portsAsReset_regs (d : Nat) : (s.portsAsReset d).regs = s.regs := rfl
@[simp] theorem State.portsAsReset_hub (d : Nat) : (s.portsAsReset d).hub = s.hub := rfl
@[simp] theorem State.portsAsReset_events (d : Nat) : (s.portsAsReset d).events = s.events := rfl
@[simp] theorem State.portsAsReset_safety (d : Nat) : (s.portsAsReset d).safety = s.safety := rfl
@[simp] theorem State.portsAsReset_fabric (d : Nat) : (s.portsAsReset d).fabric = s.fabric := rfl
@[simp] theorem State.portsAsReset_link (d : Nat) : (s.portsAsReset d).link = s.link := rfl
@[simp] theorem State.portsAsReset_span (d : Nat) : (s.portsAsReset d).span = s.span := rfl
@[simp] theorem State.portsAsReset_mem (d : Nat) : (s.portsAsReset d).mem = s.mem := rfl
@[simp] theorem State.portsAsReset_dsp (d : Nat) : (s.portsAsReset d).dsp = s.dsp := rfl
@[simp] theorem State.portsAsReset_eng (d : Nat) : (s.portsAsReset d).eng = s.eng := rfl
@[simp] theorem State.portsAsReset_lanes (d : Nat) : (s.portsAsReset d).lanes = s.lanes := rfl
@[simp] theorem State.portsAsReset_ddr (d : Nat) : (s.portsAsReset d).ddr = s.ddr := rfl
@[simp] theorem State.portsAsReset_crypto (d : Nat) : (s.portsAsReset d).crypto = s.crypto := rfl
@[simp] theorem State.portsAsReset_boot (d : Nat) : (s.portsAsReset d).boot = s.boot := rfl
@[simp] theorem State.portsAsReset_clock (d : Nat) : (s.portsAsReset d).clock = s.clock := rfl
@[simp] theorem State.portsAsReset_power (d : Nat) : (s.portsAsReset d).power = s.power := rfl
@[simp] theorem State.portsAsReset_resets (d : Nat) : (s.portsAsReset d).resets = s.resets := rfl
@[simp] theorem State.portsAsReset_dbg (d : Nat) : (s.portsAsReset d).dbg = s.dbg := rfl
@[simp] theorem State.portsAsReset_ply (d : Nat) : (s.portsAsReset d).ply = s.ply := rfl
@[simp] theorem State.portsAsReset_get (d : Nat) (page' : Nat) (f' : RegField) (i' : Nat) : (s.portsAsReset d).get page' f' i' = s.get page' f' i' := rfl
@[simp] theorem State.portsAsReset_flag (d : Nat) (page' : Nat) (f' : RegField) (i' : Nat) : (s.portsAsReset d).flag page' f' i' = s.flag page' f' i' := rfl

@[simp] theorem State.setLaneUnit_pending (p : Nat) (u : LaneUnit) : (s.setLaneUnit p u).pending = s.pending := rfl
@[simp] theorem State.setLaneUnit_fresh (p : Nat) (u : LaneUnit) : (s.setLaneUnit p u).fresh = s.fresh := rfl
@[simp] theorem State.setLaneUnit_regs (p : Nat) (u : LaneUnit) : (s.setLaneUnit p u).regs = s.regs := rfl
@[simp] theorem State.setLaneUnit_hub (p : Nat) (u : LaneUnit) : (s.setLaneUnit p u).hub = s.hub := rfl
@[simp] theorem State.setLaneUnit_events (p : Nat) (u : LaneUnit) : (s.setLaneUnit p u).events = s.events := rfl
@[simp] theorem State.setLaneUnit_safety (p : Nat) (u : LaneUnit) : (s.setLaneUnit p u).safety = s.safety := rfl
@[simp] theorem State.setLaneUnit_fabric (p : Nat) (u : LaneUnit) : (s.setLaneUnit p u).fabric = s.fabric := rfl
@[simp] theorem State.setLaneUnit_link (p : Nat) (u : LaneUnit) : (s.setLaneUnit p u).link = s.link := rfl
@[simp] theorem State.setLaneUnit_span (p : Nat) (u : LaneUnit) : (s.setLaneUnit p u).span = s.span := rfl
@[simp] theorem State.setLaneUnit_mem (p : Nat) (u : LaneUnit) : (s.setLaneUnit p u).mem = s.mem := rfl
@[simp] theorem State.setLaneUnit_dsp (p : Nat) (u : LaneUnit) : (s.setLaneUnit p u).dsp = s.dsp := rfl
@[simp] theorem State.setLaneUnit_eng (p : Nat) (u : LaneUnit) : (s.setLaneUnit p u).eng = s.eng := rfl
@[simp] theorem State.setLaneUnit_skein (p : Nat) (u : LaneUnit) : (s.setLaneUnit p u).skein = s.skein := rfl
@[simp] theorem State.setLaneUnit_ddr (p : Nat) (u : LaneUnit) : (s.setLaneUnit p u).ddr = s.ddr := rfl
@[simp] theorem State.setLaneUnit_crypto (p : Nat) (u : LaneUnit) : (s.setLaneUnit p u).crypto = s.crypto := rfl
@[simp] theorem State.setLaneUnit_boot (p : Nat) (u : LaneUnit) : (s.setLaneUnit p u).boot = s.boot := rfl
@[simp] theorem State.setLaneUnit_clock (p : Nat) (u : LaneUnit) : (s.setLaneUnit p u).clock = s.clock := rfl
@[simp] theorem State.setLaneUnit_power (p : Nat) (u : LaneUnit) : (s.setLaneUnit p u).power = s.power := rfl
@[simp] theorem State.setLaneUnit_resets (p : Nat) (u : LaneUnit) : (s.setLaneUnit p u).resets = s.resets := rfl
@[simp] theorem State.setLaneUnit_dbg (p : Nat) (u : LaneUnit) : (s.setLaneUnit p u).dbg = s.dbg := rfl
@[simp] theorem State.setLaneUnit_ply (p : Nat) (u : LaneUnit) : (s.setLaneUnit p u).ply = s.ply := rfl
@[simp] theorem State.setLaneUnit_get (p : Nat) (u : LaneUnit) (page' : Nat) (f' : RegField) (i' : Nat) : (s.setLaneUnit p u).get page' f' i' = s.get page' f' i' := rfl
@[simp] theorem State.setLaneUnit_flag (p : Nat) (u : LaneUnit) (page' : Nat) (f' : RegField) (i' : Nat) : (s.setLaneUnit p u).flag page' f' i' = s.flag page' f' i' := rfl

@[simp] theorem State.setAdapter_pending (p : Nat) (u : AdapterUnit) : (s.setAdapter p u).pending = s.pending := rfl
@[simp] theorem State.setAdapter_fresh (p : Nat) (u : AdapterUnit) : (s.setAdapter p u).fresh = s.fresh := rfl
@[simp] theorem State.setAdapter_regs (p : Nat) (u : AdapterUnit) : (s.setAdapter p u).regs = s.regs := rfl
@[simp] theorem State.setAdapter_hub (p : Nat) (u : AdapterUnit) : (s.setAdapter p u).hub = s.hub := rfl
@[simp] theorem State.setAdapter_events (p : Nat) (u : AdapterUnit) : (s.setAdapter p u).events = s.events := rfl
@[simp] theorem State.setAdapter_safety (p : Nat) (u : AdapterUnit) : (s.setAdapter p u).safety = s.safety := rfl
@[simp] theorem State.setAdapter_fabric (p : Nat) (u : AdapterUnit) : (s.setAdapter p u).fabric = s.fabric := rfl
@[simp] theorem State.setAdapter_link (p : Nat) (u : AdapterUnit) : (s.setAdapter p u).link = s.link := rfl
@[simp] theorem State.setAdapter_span (p : Nat) (u : AdapterUnit) : (s.setAdapter p u).span = s.span := rfl
@[simp] theorem State.setAdapter_mem (p : Nat) (u : AdapterUnit) : (s.setAdapter p u).mem = s.mem := rfl
@[simp] theorem State.setAdapter_dsp (p : Nat) (u : AdapterUnit) : (s.setAdapter p u).dsp = s.dsp := rfl
@[simp] theorem State.setAdapter_eng (p : Nat) (u : AdapterUnit) : (s.setAdapter p u).eng = s.eng := rfl
@[simp] theorem State.setAdapter_skein (p : Nat) (u : AdapterUnit) : (s.setAdapter p u).skein = s.skein := rfl
@[simp] theorem State.setAdapter_ddr (p : Nat) (u : AdapterUnit) : (s.setAdapter p u).ddr = s.ddr := rfl
@[simp] theorem State.setAdapter_crypto (p : Nat) (u : AdapterUnit) : (s.setAdapter p u).crypto = s.crypto := rfl
@[simp] theorem State.setAdapter_boot (p : Nat) (u : AdapterUnit) : (s.setAdapter p u).boot = s.boot := rfl
@[simp] theorem State.setAdapter_clock (p : Nat) (u : AdapterUnit) : (s.setAdapter p u).clock = s.clock := rfl
@[simp] theorem State.setAdapter_power (p : Nat) (u : AdapterUnit) : (s.setAdapter p u).power = s.power := rfl
@[simp] theorem State.setAdapter_resets (p : Nat) (u : AdapterUnit) : (s.setAdapter p u).resets = s.resets := rfl
@[simp] theorem State.setAdapter_dbg (p : Nat) (u : AdapterUnit) : (s.setAdapter p u).dbg = s.dbg := rfl
@[simp] theorem State.setAdapter_ply (p : Nat) (u : AdapterUnit) : (s.setAdapter p u).ply = s.ply := rfl
@[simp] theorem State.setAdapter_get (p : Nat) (u : AdapterUnit) (page' : Nat) (f' : RegField) (i' : Nat) : (s.setAdapter p u).get page' f' i' = s.get page' f' i' := rfl
@[simp] theorem State.setAdapter_flag (p : Nat) (u : AdapterUnit) (page' : Nat) (f' : RegField) (i' : Nat) : (s.setAdapter p u).flag page' f' i' = s.flag page' f' i' := rfl

@[simp] theorem State.setDdrUnit_pending (c : Nat) (u : DdrUnit) : (s.setDdrUnit c u).pending = s.pending := rfl
@[simp] theorem State.setDdrUnit_fresh (c : Nat) (u : DdrUnit) : (s.setDdrUnit c u).fresh = s.fresh := rfl
@[simp] theorem State.setDdrUnit_regs (c : Nat) (u : DdrUnit) : (s.setDdrUnit c u).regs = s.regs := rfl
@[simp] theorem State.setDdrUnit_hub (c : Nat) (u : DdrUnit) : (s.setDdrUnit c u).hub = s.hub := rfl
@[simp] theorem State.setDdrUnit_events (c : Nat) (u : DdrUnit) : (s.setDdrUnit c u).events = s.events := rfl
@[simp] theorem State.setDdrUnit_safety (c : Nat) (u : DdrUnit) : (s.setDdrUnit c u).safety = s.safety := rfl
@[simp] theorem State.setDdrUnit_fabric (c : Nat) (u : DdrUnit) : (s.setDdrUnit c u).fabric = s.fabric := rfl
@[simp] theorem State.setDdrUnit_link (c : Nat) (u : DdrUnit) : (s.setDdrUnit c u).link = s.link := rfl
@[simp] theorem State.setDdrUnit_span (c : Nat) (u : DdrUnit) : (s.setDdrUnit c u).span = s.span := rfl
@[simp] theorem State.setDdrUnit_mem (c : Nat) (u : DdrUnit) : (s.setDdrUnit c u).mem = s.mem := rfl
@[simp] theorem State.setDdrUnit_dsp (c : Nat) (u : DdrUnit) : (s.setDdrUnit c u).dsp = s.dsp := rfl
@[simp] theorem State.setDdrUnit_eng (c : Nat) (u : DdrUnit) : (s.setDdrUnit c u).eng = s.eng := rfl
@[simp] theorem State.setDdrUnit_skein (c : Nat) (u : DdrUnit) : (s.setDdrUnit c u).skein = s.skein := rfl
@[simp] theorem State.setDdrUnit_lanes (c : Nat) (u : DdrUnit) : (s.setDdrUnit c u).lanes = s.lanes := rfl
@[simp] theorem State.setDdrUnit_crypto (c : Nat) (u : DdrUnit) : (s.setDdrUnit c u).crypto = s.crypto := rfl
@[simp] theorem State.setDdrUnit_boot (c : Nat) (u : DdrUnit) : (s.setDdrUnit c u).boot = s.boot := rfl
@[simp] theorem State.setDdrUnit_clock (c : Nat) (u : DdrUnit) : (s.setDdrUnit c u).clock = s.clock := rfl
@[simp] theorem State.setDdrUnit_power (c : Nat) (u : DdrUnit) : (s.setDdrUnit c u).power = s.power := rfl
@[simp] theorem State.setDdrUnit_resets (c : Nat) (u : DdrUnit) : (s.setDdrUnit c u).resets = s.resets := rfl
@[simp] theorem State.setDdrUnit_dbg (c : Nat) (u : DdrUnit) : (s.setDdrUnit c u).dbg = s.dbg := rfl
@[simp] theorem State.setDdrUnit_ply (c : Nat) (u : DdrUnit) : (s.setDdrUnit c u).ply = s.ply := rfl
@[simp] theorem State.setDdrUnit_get (c : Nat) (u : DdrUnit) (page' : Nat) (f' : RegField) (i' : Nat) : (s.setDdrUnit c u).get page' f' i' = s.get page' f' i' := rfl
@[simp] theorem State.setDdrUnit_flag (c : Nat) (u : DdrUnit) (page' : Nat) (f' : RegField) (i' : Nat) : (s.setDdrUnit c u).flag page' f' i' = s.flag page' f' i' := rfl

@[simp] theorem State.putDdrCell_pending (c a : Nat) (x : BitVec 640) : (s.putDdrCell c a x).pending = s.pending := rfl
@[simp] theorem State.putDdrCell_fresh (c a : Nat) (x : BitVec 640) : (s.putDdrCell c a x).fresh = s.fresh := rfl
@[simp] theorem State.putDdrCell_regs (c a : Nat) (x : BitVec 640) : (s.putDdrCell c a x).regs = s.regs := rfl
@[simp] theorem State.putDdrCell_hub (c a : Nat) (x : BitVec 640) : (s.putDdrCell c a x).hub = s.hub := rfl
@[simp] theorem State.putDdrCell_events (c a : Nat) (x : BitVec 640) : (s.putDdrCell c a x).events = s.events := rfl
@[simp] theorem State.putDdrCell_safety (c a : Nat) (x : BitVec 640) : (s.putDdrCell c a x).safety = s.safety := rfl
@[simp] theorem State.putDdrCell_fabric (c a : Nat) (x : BitVec 640) : (s.putDdrCell c a x).fabric = s.fabric := rfl
@[simp] theorem State.putDdrCell_link (c a : Nat) (x : BitVec 640) : (s.putDdrCell c a x).link = s.link := rfl
@[simp] theorem State.putDdrCell_span (c a : Nat) (x : BitVec 640) : (s.putDdrCell c a x).span = s.span := rfl
@[simp] theorem State.putDdrCell_mem (c a : Nat) (x : BitVec 640) : (s.putDdrCell c a x).mem = s.mem := rfl
@[simp] theorem State.putDdrCell_dsp (c a : Nat) (x : BitVec 640) : (s.putDdrCell c a x).dsp = s.dsp := rfl
@[simp] theorem State.putDdrCell_eng (c a : Nat) (x : BitVec 640) : (s.putDdrCell c a x).eng = s.eng := rfl
@[simp] theorem State.putDdrCell_skein (c a : Nat) (x : BitVec 640) : (s.putDdrCell c a x).skein = s.skein := rfl
@[simp] theorem State.putDdrCell_lanes (c a : Nat) (x : BitVec 640) : (s.putDdrCell c a x).lanes = s.lanes := rfl
@[simp] theorem State.putDdrCell_crypto (c a : Nat) (x : BitVec 640) : (s.putDdrCell c a x).crypto = s.crypto := rfl
@[simp] theorem State.putDdrCell_boot (c a : Nat) (x : BitVec 640) : (s.putDdrCell c a x).boot = s.boot := rfl
@[simp] theorem State.putDdrCell_clock (c a : Nat) (x : BitVec 640) : (s.putDdrCell c a x).clock = s.clock := rfl
@[simp] theorem State.putDdrCell_power (c a : Nat) (x : BitVec 640) : (s.putDdrCell c a x).power = s.power := rfl
@[simp] theorem State.putDdrCell_resets (c a : Nat) (x : BitVec 640) : (s.putDdrCell c a x).resets = s.resets := rfl
@[simp] theorem State.putDdrCell_dbg (c a : Nat) (x : BitVec 640) : (s.putDdrCell c a x).dbg = s.dbg := rfl
@[simp] theorem State.putDdrCell_ply (c a : Nat) (x : BitVec 640) : (s.putDdrCell c a x).ply = s.ply := rfl
@[simp] theorem State.putDdrCell_get (c a : Nat) (x : BitVec 640) (page' : Nat) (f' : RegField) (i' : Nat) : (s.putDdrCell c a x).get page' f' i' = s.get page' f' i' := rfl
@[simp] theorem State.putDdrCell_flag (c a : Nat) (x : BitVec 640) (page' : Nat) (f' : RegField) (i' : Nat) : (s.putDdrCell c a x).flag page' f' i' = s.flag page' f' i' := rfl

@[simp] theorem State.setCryptoUnit_pending (c : Nat) (u : CryptoUnit) : (s.setCryptoUnit c u).pending = s.pending := rfl
@[simp] theorem State.setCryptoUnit_fresh (c : Nat) (u : CryptoUnit) : (s.setCryptoUnit c u).fresh = s.fresh := rfl
@[simp] theorem State.setCryptoUnit_regs (c : Nat) (u : CryptoUnit) : (s.setCryptoUnit c u).regs = s.regs := rfl
@[simp] theorem State.setCryptoUnit_hub (c : Nat) (u : CryptoUnit) : (s.setCryptoUnit c u).hub = s.hub := rfl
@[simp] theorem State.setCryptoUnit_events (c : Nat) (u : CryptoUnit) : (s.setCryptoUnit c u).events = s.events := rfl
@[simp] theorem State.setCryptoUnit_safety (c : Nat) (u : CryptoUnit) : (s.setCryptoUnit c u).safety = s.safety := rfl
@[simp] theorem State.setCryptoUnit_fabric (c : Nat) (u : CryptoUnit) : (s.setCryptoUnit c u).fabric = s.fabric := rfl
@[simp] theorem State.setCryptoUnit_link (c : Nat) (u : CryptoUnit) : (s.setCryptoUnit c u).link = s.link := rfl
@[simp] theorem State.setCryptoUnit_span (c : Nat) (u : CryptoUnit) : (s.setCryptoUnit c u).span = s.span := rfl
@[simp] theorem State.setCryptoUnit_mem (c : Nat) (u : CryptoUnit) : (s.setCryptoUnit c u).mem = s.mem := rfl
@[simp] theorem State.setCryptoUnit_dsp (c : Nat) (u : CryptoUnit) : (s.setCryptoUnit c u).dsp = s.dsp := rfl
@[simp] theorem State.setCryptoUnit_eng (c : Nat) (u : CryptoUnit) : (s.setCryptoUnit c u).eng = s.eng := rfl
@[simp] theorem State.setCryptoUnit_skein (c : Nat) (u : CryptoUnit) : (s.setCryptoUnit c u).skein = s.skein := rfl
@[simp] theorem State.setCryptoUnit_lanes (c : Nat) (u : CryptoUnit) : (s.setCryptoUnit c u).lanes = s.lanes := rfl
@[simp] theorem State.setCryptoUnit_ddr (c : Nat) (u : CryptoUnit) : (s.setCryptoUnit c u).ddr = s.ddr := rfl
@[simp] theorem State.setCryptoUnit_boot (c : Nat) (u : CryptoUnit) : (s.setCryptoUnit c u).boot = s.boot := rfl
@[simp] theorem State.setCryptoUnit_clock (c : Nat) (u : CryptoUnit) : (s.setCryptoUnit c u).clock = s.clock := rfl
@[simp] theorem State.setCryptoUnit_power (c : Nat) (u : CryptoUnit) : (s.setCryptoUnit c u).power = s.power := rfl
@[simp] theorem State.setCryptoUnit_resets (c : Nat) (u : CryptoUnit) : (s.setCryptoUnit c u).resets = s.resets := rfl
@[simp] theorem State.setCryptoUnit_dbg (c : Nat) (u : CryptoUnit) : (s.setCryptoUnit c u).dbg = s.dbg := rfl
@[simp] theorem State.setCryptoUnit_ply (c : Nat) (u : CryptoUnit) : (s.setCryptoUnit c u).ply = s.ply := rfl
@[simp] theorem State.setCryptoUnit_get (c : Nat) (u : CryptoUnit) (page' : Nat) (f' : RegField) (i' : Nat) : (s.setCryptoUnit c u).get page' f' i' = s.get page' f' i' := rfl
@[simp] theorem State.setCryptoUnit_flag (c : Nat) (u : CryptoUnit) (page' : Nat) (f' : RegField) (i' : Nat) : (s.setCryptoUnit c u).flag page' f' i' = s.flag page' f' i' := rfl

@[simp] theorem State.setPassed_pending (e : Nat) (b : Bool) : (s.setPassed e b).pending = s.pending := rfl
@[simp] theorem State.setPassed_fresh (e : Nat) (b : Bool) : (s.setPassed e b).fresh = s.fresh := rfl
@[simp] theorem State.setPassed_regs (e : Nat) (b : Bool) : (s.setPassed e b).regs = s.regs := rfl
@[simp] theorem State.setPassed_hub (e : Nat) (b : Bool) : (s.setPassed e b).hub = s.hub := rfl
@[simp] theorem State.setPassed_events (e : Nat) (b : Bool) : (s.setPassed e b).events = s.events := rfl
@[simp] theorem State.setPassed_safety (e : Nat) (b : Bool) : (s.setPassed e b).safety = s.safety := rfl
@[simp] theorem State.setPassed_fabric (e : Nat) (b : Bool) : (s.setPassed e b).fabric = s.fabric := rfl
@[simp] theorem State.setPassed_link (e : Nat) (b : Bool) : (s.setPassed e b).link = s.link := rfl
@[simp] theorem State.setPassed_span (e : Nat) (b : Bool) : (s.setPassed e b).span = s.span := rfl
@[simp] theorem State.setPassed_mem (e : Nat) (b : Bool) : (s.setPassed e b).mem = s.mem := rfl
@[simp] theorem State.setPassed_dsp (e : Nat) (b : Bool) : (s.setPassed e b).dsp = s.dsp := rfl
@[simp] theorem State.setPassed_eng (e : Nat) (b : Bool) : (s.setPassed e b).eng = s.eng := rfl
@[simp] theorem State.setPassed_skein (e : Nat) (b : Bool) : (s.setPassed e b).skein = s.skein := rfl
@[simp] theorem State.setPassed_lanes (e : Nat) (b : Bool) : (s.setPassed e b).lanes = s.lanes := rfl
@[simp] theorem State.setPassed_ddr (e : Nat) (b : Bool) : (s.setPassed e b).ddr = s.ddr := rfl
@[simp] theorem State.setPassed_crypto (e : Nat) (b : Bool) : (s.setPassed e b).crypto = s.crypto := rfl
@[simp] theorem State.setPassed_boot (e : Nat) (b : Bool) : (s.setPassed e b).boot = s.boot := rfl
@[simp] theorem State.setPassed_clock (e : Nat) (b : Bool) : (s.setPassed e b).clock = s.clock := rfl
@[simp] theorem State.setPassed_power (e : Nat) (b : Bool) : (s.setPassed e b).power = s.power := rfl
@[simp] theorem State.setPassed_resets (e : Nat) (b : Bool) : (s.setPassed e b).resets = s.resets := rfl
@[simp] theorem State.setPassed_ply (e : Nat) (b : Bool) : (s.setPassed e b).ply = s.ply := rfl
@[simp] theorem State.setPassed_get (e : Nat) (b : Bool) (page' : Nat) (f' : RegField) (i' : Nat) : (s.setPassed e b).get page' f' i' = s.get page' f' i' := rfl
@[simp] theorem State.setPassed_flag (e : Nat) (b : Bool) (page' : Nat) (f' : RegField) (i' : Nat) : (s.setPassed e b).flag page' f' i' = s.flag page' f' i' := rfl

@[simp] theorem State.putShadow_pending (page unit word v : Nat) : (s.putShadow page unit word v).pending = s.pending := rfl
@[simp] theorem State.putShadow_fresh (page unit word v : Nat) : (s.putShadow page unit word v).fresh = s.fresh := rfl
@[simp] theorem State.putShadow_regs (page unit word v : Nat) : (s.putShadow page unit word v).regs = s.regs := rfl
@[simp] theorem State.putShadow_hub (page unit word v : Nat) : (s.putShadow page unit word v).hub = s.hub := rfl
@[simp] theorem State.putShadow_events (page unit word v : Nat) : (s.putShadow page unit word v).events = s.events := rfl
@[simp] theorem State.putShadow_safety (page unit word v : Nat) : (s.putShadow page unit word v).safety = s.safety := rfl
@[simp] theorem State.putShadow_fabric (page unit word v : Nat) : (s.putShadow page unit word v).fabric = s.fabric := rfl
@[simp] theorem State.putShadow_link (page unit word v : Nat) : (s.putShadow page unit word v).link = s.link := rfl
@[simp] theorem State.putShadow_span (page unit word v : Nat) : (s.putShadow page unit word v).span = s.span := rfl
@[simp] theorem State.putShadow_mem (page unit word v : Nat) : (s.putShadow page unit word v).mem = s.mem := rfl
@[simp] theorem State.putShadow_dsp (page unit word v : Nat) : (s.putShadow page unit word v).dsp = s.dsp := rfl
@[simp] theorem State.putShadow_eng (page unit word v : Nat) : (s.putShadow page unit word v).eng = s.eng := rfl
@[simp] theorem State.putShadow_skein (page unit word v : Nat) : (s.putShadow page unit word v).skein = s.skein := rfl
@[simp] theorem State.putShadow_lanes (page unit word v : Nat) : (s.putShadow page unit word v).lanes = s.lanes := rfl
@[simp] theorem State.putShadow_ddr (page unit word v : Nat) : (s.putShadow page unit word v).ddr = s.ddr := rfl
@[simp] theorem State.putShadow_crypto (page unit word v : Nat) : (s.putShadow page unit word v).crypto = s.crypto := rfl
@[simp] theorem State.putShadow_boot (page unit word v : Nat) : (s.putShadow page unit word v).boot = s.boot := rfl
@[simp] theorem State.putShadow_clock (page unit word v : Nat) : (s.putShadow page unit word v).clock = s.clock := rfl
@[simp] theorem State.putShadow_power (page unit word v : Nat) : (s.putShadow page unit word v).power = s.power := rfl
@[simp] theorem State.putShadow_resets (page unit word v : Nat) : (s.putShadow page unit word v).resets = s.resets := rfl
@[simp] theorem State.putShadow_ply (page unit word v : Nat) : (s.putShadow page unit word v).ply = s.ply := rfl
@[simp] theorem State.putShadow_get (page unit word v : Nat) (page' : Nat) (f' : RegField) (i' : Nat) : (s.putShadow page unit word v).get page' f' i' = s.get page' f' i' := rfl
@[simp] theorem State.putShadow_flag (page unit word v : Nat) (page' : Nat) (f' : RegField) (i' : Nat) : (s.putShadow page unit word v).flag page' f' i' = s.flag page' f' i' := rfl

@[simp] theorem State.setCapToCopy_pending (page v : Nat) : (s.setCapToCopy page v).pending = s.pending := rfl
@[simp] theorem State.setCapToCopy_fresh (page v : Nat) : (s.setCapToCopy page v).fresh = s.fresh := rfl
@[simp] theorem State.setCapToCopy_regs (page v : Nat) : (s.setCapToCopy page v).regs = s.regs := rfl
@[simp] theorem State.setCapToCopy_hub (page v : Nat) : (s.setCapToCopy page v).hub = s.hub := rfl
@[simp] theorem State.setCapToCopy_events (page v : Nat) : (s.setCapToCopy page v).events = s.events := rfl
@[simp] theorem State.setCapToCopy_safety (page v : Nat) : (s.setCapToCopy page v).safety = s.safety := rfl
@[simp] theorem State.setCapToCopy_fabric (page v : Nat) : (s.setCapToCopy page v).fabric = s.fabric := rfl
@[simp] theorem State.setCapToCopy_link (page v : Nat) : (s.setCapToCopy page v).link = s.link := rfl
@[simp] theorem State.setCapToCopy_span (page v : Nat) : (s.setCapToCopy page v).span = s.span := rfl
@[simp] theorem State.setCapToCopy_mem (page v : Nat) : (s.setCapToCopy page v).mem = s.mem := rfl
@[simp] theorem State.setCapToCopy_dsp (page v : Nat) : (s.setCapToCopy page v).dsp = s.dsp := rfl
@[simp] theorem State.setCapToCopy_eng (page v : Nat) : (s.setCapToCopy page v).eng = s.eng := rfl
@[simp] theorem State.setCapToCopy_skein (page v : Nat) : (s.setCapToCopy page v).skein = s.skein := rfl
@[simp] theorem State.setCapToCopy_lanes (page v : Nat) : (s.setCapToCopy page v).lanes = s.lanes := rfl
@[simp] theorem State.setCapToCopy_ddr (page v : Nat) : (s.setCapToCopy page v).ddr = s.ddr := rfl
@[simp] theorem State.setCapToCopy_crypto (page v : Nat) : (s.setCapToCopy page v).crypto = s.crypto := rfl
@[simp] theorem State.setCapToCopy_boot (page v : Nat) : (s.setCapToCopy page v).boot = s.boot := rfl
@[simp] theorem State.setCapToCopy_clock (page v : Nat) : (s.setCapToCopy page v).clock = s.clock := rfl
@[simp] theorem State.setCapToCopy_power (page v : Nat) : (s.setCapToCopy page v).power = s.power := rfl
@[simp] theorem State.setCapToCopy_resets (page v : Nat) : (s.setCapToCopy page v).resets = s.resets := rfl
@[simp] theorem State.setCapToCopy_ply (page v : Nat) : (s.setCapToCopy page v).ply = s.ply := rfl
@[simp] theorem State.setCapToCopy_get (page v : Nat) (page' : Nat) (f' : RegField) (i' : Nat) : (s.setCapToCopy page v).get page' f' i' = s.get page' f' i' := rfl
@[simp] theorem State.setCapToCopy_flag (page v : Nat) (page' : Nat) (f' : RegField) (i' : Nat) : (s.setCapToCopy page v).flag page' f' i' = s.flag page' f' i' := rfl

@[simp] theorem State.setCapHeld_pending (page v : Nat) : (s.setCapHeld page v).pending = s.pending := rfl
@[simp] theorem State.setCapHeld_fresh (page v : Nat) : (s.setCapHeld page v).fresh = s.fresh := rfl
@[simp] theorem State.setCapHeld_regs (page v : Nat) : (s.setCapHeld page v).regs = s.regs := rfl
@[simp] theorem State.setCapHeld_hub (page v : Nat) : (s.setCapHeld page v).hub = s.hub := rfl
@[simp] theorem State.setCapHeld_events (page v : Nat) : (s.setCapHeld page v).events = s.events := rfl
@[simp] theorem State.setCapHeld_safety (page v : Nat) : (s.setCapHeld page v).safety = s.safety := rfl
@[simp] theorem State.setCapHeld_fabric (page v : Nat) : (s.setCapHeld page v).fabric = s.fabric := rfl
@[simp] theorem State.setCapHeld_link (page v : Nat) : (s.setCapHeld page v).link = s.link := rfl
@[simp] theorem State.setCapHeld_span (page v : Nat) : (s.setCapHeld page v).span = s.span := rfl
@[simp] theorem State.setCapHeld_mem (page v : Nat) : (s.setCapHeld page v).mem = s.mem := rfl
@[simp] theorem State.setCapHeld_dsp (page v : Nat) : (s.setCapHeld page v).dsp = s.dsp := rfl
@[simp] theorem State.setCapHeld_eng (page v : Nat) : (s.setCapHeld page v).eng = s.eng := rfl
@[simp] theorem State.setCapHeld_skein (page v : Nat) : (s.setCapHeld page v).skein = s.skein := rfl
@[simp] theorem State.setCapHeld_lanes (page v : Nat) : (s.setCapHeld page v).lanes = s.lanes := rfl
@[simp] theorem State.setCapHeld_ddr (page v : Nat) : (s.setCapHeld page v).ddr = s.ddr := rfl
@[simp] theorem State.setCapHeld_crypto (page v : Nat) : (s.setCapHeld page v).crypto = s.crypto := rfl
@[simp] theorem State.setCapHeld_boot (page v : Nat) : (s.setCapHeld page v).boot = s.boot := rfl
@[simp] theorem State.setCapHeld_clock (page v : Nat) : (s.setCapHeld page v).clock = s.clock := rfl
@[simp] theorem State.setCapHeld_power (page v : Nat) : (s.setCapHeld page v).power = s.power := rfl
@[simp] theorem State.setCapHeld_resets (page v : Nat) : (s.setCapHeld page v).resets = s.resets := rfl
@[simp] theorem State.setCapHeld_ply (page v : Nat) : (s.setCapHeld page v).ply = s.ply := rfl
@[simp] theorem State.setCapHeld_get (page v : Nat) (page' : Nat) (f' : RegField) (i' : Nat) : (s.setCapHeld page v).get page' f' i' = s.get page' f' i' := rfl
@[simp] theorem State.setCapHeld_flag (page v : Nat) (page' : Nat) (f' : RegField) (i' : Nat) : (s.setCapHeld page v).flag page' f' i' = s.flag page' f' i' := rfl

@[simp] theorem State.setForced_pending (d : Nat) (b : Bool) : (s.setForced d b).pending = s.pending := rfl
@[simp] theorem State.setForced_fresh (d : Nat) (b : Bool) : (s.setForced d b).fresh = s.fresh := rfl
@[simp] theorem State.setForced_regs (d : Nat) (b : Bool) : (s.setForced d b).regs = s.regs := rfl
@[simp] theorem State.setForced_hub (d : Nat) (b : Bool) : (s.setForced d b).hub = s.hub := rfl
@[simp] theorem State.setForced_events (d : Nat) (b : Bool) : (s.setForced d b).events = s.events := rfl
@[simp] theorem State.setForced_safety (d : Nat) (b : Bool) : (s.setForced d b).safety = s.safety := rfl
@[simp] theorem State.setForced_fabric (d : Nat) (b : Bool) : (s.setForced d b).fabric = s.fabric := rfl
@[simp] theorem State.setForced_link (d : Nat) (b : Bool) : (s.setForced d b).link = s.link := rfl
@[simp] theorem State.setForced_span (d : Nat) (b : Bool) : (s.setForced d b).span = s.span := rfl
@[simp] theorem State.setForced_mem (d : Nat) (b : Bool) : (s.setForced d b).mem = s.mem := rfl
@[simp] theorem State.setForced_dsp (d : Nat) (b : Bool) : (s.setForced d b).dsp = s.dsp := rfl
@[simp] theorem State.setForced_eng (d : Nat) (b : Bool) : (s.setForced d b).eng = s.eng := rfl
@[simp] theorem State.setForced_skein (d : Nat) (b : Bool) : (s.setForced d b).skein = s.skein := rfl
@[simp] theorem State.setForced_lanes (d : Nat) (b : Bool) : (s.setForced d b).lanes = s.lanes := rfl
@[simp] theorem State.setForced_ddr (d : Nat) (b : Bool) : (s.setForced d b).ddr = s.ddr := rfl
@[simp] theorem State.setForced_crypto (d : Nat) (b : Bool) : (s.setForced d b).crypto = s.crypto := rfl
@[simp] theorem State.setForced_boot (d : Nat) (b : Bool) : (s.setForced d b).boot = s.boot := rfl
@[simp] theorem State.setForced_clock (d : Nat) (b : Bool) : (s.setForced d b).clock = s.clock := rfl
@[simp] theorem State.setForced_resets (d : Nat) (b : Bool) : (s.setForced d b).resets = s.resets := rfl
@[simp] theorem State.setForced_dbg (d : Nat) (b : Bool) : (s.setForced d b).dbg = s.dbg := rfl
@[simp] theorem State.setForced_ply (d : Nat) (b : Bool) : (s.setForced d b).ply = s.ply := rfl
@[simp] theorem State.setForced_get (d : Nat) (b : Bool) (page' : Nat) (f' : RegField) (i' : Nat) : (s.setForced d b).get page' f' i' = s.get page' f' i' := rfl
@[simp] theorem State.setForced_flag (d : Nat) (b : Bool) (page' : Nat) (f' : RegField) (i' : Nat) : (s.setForced d b).flag page' f' i' = s.flag page' f' i' := rfl

@[simp] theorem State.setAborted_pending (d : Nat) (b : Bool) : (s.setAborted d b).pending = s.pending := rfl
@[simp] theorem State.setAborted_fresh (d : Nat) (b : Bool) : (s.setAborted d b).fresh = s.fresh := rfl
@[simp] theorem State.setAborted_regs (d : Nat) (b : Bool) : (s.setAborted d b).regs = s.regs := rfl
@[simp] theorem State.setAborted_hub (d : Nat) (b : Bool) : (s.setAborted d b).hub = s.hub := rfl
@[simp] theorem State.setAborted_events (d : Nat) (b : Bool) : (s.setAborted d b).events = s.events := rfl
@[simp] theorem State.setAborted_safety (d : Nat) (b : Bool) : (s.setAborted d b).safety = s.safety := rfl
@[simp] theorem State.setAborted_fabric (d : Nat) (b : Bool) : (s.setAborted d b).fabric = s.fabric := rfl
@[simp] theorem State.setAborted_link (d : Nat) (b : Bool) : (s.setAborted d b).link = s.link := rfl
@[simp] theorem State.setAborted_span (d : Nat) (b : Bool) : (s.setAborted d b).span = s.span := rfl
@[simp] theorem State.setAborted_mem (d : Nat) (b : Bool) : (s.setAborted d b).mem = s.mem := rfl
@[simp] theorem State.setAborted_dsp (d : Nat) (b : Bool) : (s.setAborted d b).dsp = s.dsp := rfl
@[simp] theorem State.setAborted_eng (d : Nat) (b : Bool) : (s.setAborted d b).eng = s.eng := rfl
@[simp] theorem State.setAborted_skein (d : Nat) (b : Bool) : (s.setAborted d b).skein = s.skein := rfl
@[simp] theorem State.setAborted_lanes (d : Nat) (b : Bool) : (s.setAborted d b).lanes = s.lanes := rfl
@[simp] theorem State.setAborted_ddr (d : Nat) (b : Bool) : (s.setAborted d b).ddr = s.ddr := rfl
@[simp] theorem State.setAborted_crypto (d : Nat) (b : Bool) : (s.setAborted d b).crypto = s.crypto := rfl
@[simp] theorem State.setAborted_boot (d : Nat) (b : Bool) : (s.setAborted d b).boot = s.boot := rfl
@[simp] theorem State.setAborted_clock (d : Nat) (b : Bool) : (s.setAborted d b).clock = s.clock := rfl
@[simp] theorem State.setAborted_resets (d : Nat) (b : Bool) : (s.setAborted d b).resets = s.resets := rfl
@[simp] theorem State.setAborted_dbg (d : Nat) (b : Bool) : (s.setAborted d b).dbg = s.dbg := rfl
@[simp] theorem State.setAborted_ply (d : Nat) (b : Bool) : (s.setAborted d b).ply = s.ply := rfl
@[simp] theorem State.setAborted_get (d : Nat) (b : Bool) (page' : Nat) (f' : RegField) (i' : Nat) : (s.setAborted d b).get page' f' i' = s.get page' f' i' := rfl
@[simp] theorem State.setAborted_flag (d : Nat) (b : Bool) (page' : Nat) (f' : RegField) (i' : Nat) : (s.setAborted d b).flag page' f' i' = s.flag page' f' i' := rfl

@[simp] theorem State.putRing_pending (o : Nat) (bs : List Byte) : (s.putRing o bs).pending = s.pending := rfl
@[simp] theorem State.putRing_fresh (o : Nat) (bs : List Byte) : (s.putRing o bs).fresh = s.fresh := rfl
@[simp] theorem State.putRing_regs (o : Nat) (bs : List Byte) : (s.putRing o bs).regs = s.regs := rfl
@[simp] theorem State.putRing_hub (o : Nat) (bs : List Byte) : (s.putRing o bs).hub = s.hub := rfl
@[simp] theorem State.putRing_safety (o : Nat) (bs : List Byte) : (s.putRing o bs).safety = s.safety := rfl
@[simp] theorem State.putRing_fabric (o : Nat) (bs : List Byte) : (s.putRing o bs).fabric = s.fabric := rfl
@[simp] theorem State.putRing_link (o : Nat) (bs : List Byte) : (s.putRing o bs).link = s.link := rfl
@[simp] theorem State.putRing_span (o : Nat) (bs : List Byte) : (s.putRing o bs).span = s.span := rfl
@[simp] theorem State.putRing_mem (o : Nat) (bs : List Byte) : (s.putRing o bs).mem = s.mem := rfl
@[simp] theorem State.putRing_dsp (o : Nat) (bs : List Byte) : (s.putRing o bs).dsp = s.dsp := rfl
@[simp] theorem State.putRing_eng (o : Nat) (bs : List Byte) : (s.putRing o bs).eng = s.eng := rfl
@[simp] theorem State.putRing_skein (o : Nat) (bs : List Byte) : (s.putRing o bs).skein = s.skein := rfl
@[simp] theorem State.putRing_lanes (o : Nat) (bs : List Byte) : (s.putRing o bs).lanes = s.lanes := rfl
@[simp] theorem State.putRing_ddr (o : Nat) (bs : List Byte) : (s.putRing o bs).ddr = s.ddr := rfl
@[simp] theorem State.putRing_crypto (o : Nat) (bs : List Byte) : (s.putRing o bs).crypto = s.crypto := rfl
@[simp] theorem State.putRing_boot (o : Nat) (bs : List Byte) : (s.putRing o bs).boot = s.boot := rfl
@[simp] theorem State.putRing_clock (o : Nat) (bs : List Byte) : (s.putRing o bs).clock = s.clock := rfl
@[simp] theorem State.putRing_power (o : Nat) (bs : List Byte) : (s.putRing o bs).power = s.power := rfl
@[simp] theorem State.putRing_resets (o : Nat) (bs : List Byte) : (s.putRing o bs).resets = s.resets := rfl
@[simp] theorem State.putRing_dbg (o : Nat) (bs : List Byte) : (s.putRing o bs).dbg = s.dbg := rfl
@[simp] theorem State.putRing_ply (o : Nat) (bs : List Byte) : (s.putRing o bs).ply = s.ply := rfl
@[simp] theorem State.putRing_get (o : Nat) (bs : List Byte) (page' : Nat) (f' : RegField) (i' : Nat) : (s.putRing o bs).get page' f' i' = s.get page' f' i' := rfl
@[simp] theorem State.putRing_flag (o : Nat) (bs : List Byte) (page' : Nat) (f' : RegField) (i' : Nat) : (s.putRing o bs).flag page' f' i' = s.flag page' f' i' := rfl

@[simp] theorem State.auditRestart_pending (d sec : Nat) : (s.auditRestart d sec).pending = s.pending := rfl
@[simp] theorem State.auditRestart_fresh (d sec : Nat) : (s.auditRestart d sec).fresh = s.fresh := rfl
@[simp] theorem State.auditRestart_regs (d sec : Nat) : (s.auditRestart d sec).regs = s.regs := rfl
@[simp] theorem State.auditRestart_hub (d sec : Nat) : (s.auditRestart d sec).hub = s.hub := rfl
@[simp] theorem State.auditRestart_events (d sec : Nat) : (s.auditRestart d sec).events = s.events := rfl
@[simp] theorem State.auditRestart_safety (d sec : Nat) : (s.auditRestart d sec).safety = s.safety := rfl
@[simp] theorem State.auditRestart_fabric (d sec : Nat) : (s.auditRestart d sec).fabric = s.fabric := rfl
@[simp] theorem State.auditRestart_link (d sec : Nat) : (s.auditRestart d sec).link = s.link := rfl
@[simp] theorem State.auditRestart_span (d sec : Nat) : (s.auditRestart d sec).span = s.span := rfl
@[simp] theorem State.auditRestart_mem (d sec : Nat) : (s.auditRestart d sec).mem = s.mem := rfl
@[simp] theorem State.auditRestart_dsp (d sec : Nat) : (s.auditRestart d sec).dsp = s.dsp := rfl
@[simp] theorem State.auditRestart_eng (d sec : Nat) : (s.auditRestart d sec).eng = s.eng := rfl
@[simp] theorem State.auditRestart_skein (d sec : Nat) : (s.auditRestart d sec).skein = s.skein := rfl
@[simp] theorem State.auditRestart_lanes (d sec : Nat) : (s.auditRestart d sec).lanes = s.lanes := rfl
@[simp] theorem State.auditRestart_ddr (d sec : Nat) : (s.auditRestart d sec).ddr = s.ddr := rfl
@[simp] theorem State.auditRestart_crypto (d sec : Nat) : (s.auditRestart d sec).crypto = s.crypto := rfl
@[simp] theorem State.auditRestart_clock (d sec : Nat) : (s.auditRestart d sec).clock = s.clock := rfl
@[simp] theorem State.auditRestart_power (d sec : Nat) : (s.auditRestart d sec).power = s.power := rfl
@[simp] theorem State.auditRestart_resets (d sec : Nat) : (s.auditRestart d sec).resets = s.resets := rfl
@[simp] theorem State.auditRestart_dbg (d sec : Nat) : (s.auditRestart d sec).dbg = s.dbg := rfl
@[simp] theorem State.auditRestart_ply (d sec : Nat) : (s.auditRestart d sec).ply = s.ply := rfl
@[simp] theorem State.auditRestart_get (d sec : Nat) (page' : Nat) (f' : RegField) (i' : Nat) : (s.auditRestart d sec).get page' f' i' = s.get page' f' i' := rfl
@[simp] theorem State.auditRestart_flag (d sec : Nat) (page' : Nat) (f' : RegField) (i' : Nat) : (s.auditRestart d sec).flag page' f' i' = s.flag page' f' i' := rfl

@[simp] theorem State.clearLoad_pending : (s.clearLoad).pending = s.pending := rfl
@[simp] theorem State.clearLoad_fresh : (s.clearLoad).fresh = s.fresh := rfl
@[simp] theorem State.clearLoad_regs : (s.clearLoad).regs = s.regs := rfl
@[simp] theorem State.clearLoad_hub : (s.clearLoad).hub = s.hub := rfl
@[simp] theorem State.clearLoad_events : (s.clearLoad).events = s.events := rfl
@[simp] theorem State.clearLoad_safety : (s.clearLoad).safety = s.safety := rfl
@[simp] theorem State.clearLoad_fabric : (s.clearLoad).fabric = s.fabric := rfl
@[simp] theorem State.clearLoad_link : (s.clearLoad).link = s.link := rfl
@[simp] theorem State.clearLoad_span : (s.clearLoad).span = s.span := rfl
@[simp] theorem State.clearLoad_mem : (s.clearLoad).mem = s.mem := rfl
@[simp] theorem State.clearLoad_dsp : (s.clearLoad).dsp = s.dsp := rfl
@[simp] theorem State.clearLoad_eng : (s.clearLoad).eng = s.eng := rfl
@[simp] theorem State.clearLoad_skein : (s.clearLoad).skein = s.skein := rfl
@[simp] theorem State.clearLoad_lanes : (s.clearLoad).lanes = s.lanes := rfl
@[simp] theorem State.clearLoad_ddr : (s.clearLoad).ddr = s.ddr := rfl
@[simp] theorem State.clearLoad_crypto : (s.clearLoad).crypto = s.crypto := rfl
@[simp] theorem State.clearLoad_clock : (s.clearLoad).clock = s.clock := rfl
@[simp] theorem State.clearLoad_power : (s.clearLoad).power = s.power := rfl
@[simp] theorem State.clearLoad_resets : (s.clearLoad).resets = s.resets := rfl
@[simp] theorem State.clearLoad_dbg : (s.clearLoad).dbg = s.dbg := rfl
@[simp] theorem State.clearLoad_ply : (s.clearLoad).ply = s.ply := rfl
@[simp] theorem State.clearLoad_get (page' : Nat) (f' : RegField) (i' : Nat) : (s.clearLoad).get page' f' i' = s.get page' f' i' := rfl
@[simp] theorem State.clearLoad_flag (page' : Nat) (f' : RegField) (i' : Nat) : (s.clearLoad).flag page' f' i' = s.flag page' f' i' := rfl

@[simp] theorem State.keepBody_pending (bs : List Byte) : (s.keepBody bs).pending = s.pending := rfl
@[simp] theorem State.keepBody_fresh (bs : List Byte) : (s.keepBody bs).fresh = s.fresh := rfl
@[simp] theorem State.keepBody_regs (bs : List Byte) : (s.keepBody bs).regs = s.regs := rfl
@[simp] theorem State.keepBody_hub (bs : List Byte) : (s.keepBody bs).hub = s.hub := rfl
@[simp] theorem State.keepBody_events (bs : List Byte) : (s.keepBody bs).events = s.events := rfl
@[simp] theorem State.keepBody_safety (bs : List Byte) : (s.keepBody bs).safety = s.safety := rfl
@[simp] theorem State.keepBody_fabric (bs : List Byte) : (s.keepBody bs).fabric = s.fabric := rfl
@[simp] theorem State.keepBody_link (bs : List Byte) : (s.keepBody bs).link = s.link := rfl
@[simp] theorem State.keepBody_span (bs : List Byte) : (s.keepBody bs).span = s.span := rfl
@[simp] theorem State.keepBody_mem (bs : List Byte) : (s.keepBody bs).mem = s.mem := rfl
@[simp] theorem State.keepBody_dsp (bs : List Byte) : (s.keepBody bs).dsp = s.dsp := rfl
@[simp] theorem State.keepBody_eng (bs : List Byte) : (s.keepBody bs).eng = s.eng := rfl
@[simp] theorem State.keepBody_skein (bs : List Byte) : (s.keepBody bs).skein = s.skein := rfl
@[simp] theorem State.keepBody_lanes (bs : List Byte) : (s.keepBody bs).lanes = s.lanes := rfl
@[simp] theorem State.keepBody_ddr (bs : List Byte) : (s.keepBody bs).ddr = s.ddr := rfl
@[simp] theorem State.keepBody_crypto (bs : List Byte) : (s.keepBody bs).crypto = s.crypto := rfl
@[simp] theorem State.keepBody_clock (bs : List Byte) : (s.keepBody bs).clock = s.clock := rfl
@[simp] theorem State.keepBody_power (bs : List Byte) : (s.keepBody bs).power = s.power := rfl
@[simp] theorem State.keepBody_resets (bs : List Byte) : (s.keepBody bs).resets = s.resets := rfl
@[simp] theorem State.keepBody_dbg (bs : List Byte) : (s.keepBody bs).dbg = s.dbg := rfl
@[simp] theorem State.keepBody_ply (bs : List Byte) : (s.keepBody bs).ply = s.ply := rfl
@[simp] theorem State.keepBody_get (bs : List Byte) (page' : Nat) (f' : RegField) (i' : Nat) : (s.keepBody bs).get page' f' i' = s.get page' f' i' := rfl
@[simp] theorem State.keepBody_flag (bs : List Byte) (page' : Nat) (f' : RegField) (i' : Nat) : (s.keepBody bs).flag page' f' i' = s.flag page' f' i' := rfl

@[simp] theorem State.touchDie_pending (d : Nat) : (s.touchDie d).pending = s.pending := rfl
@[simp] theorem State.touchDie_fresh (d : Nat) : (s.touchDie d).fresh = s.fresh := rfl
@[simp] theorem State.touchDie_regs (d : Nat) : (s.touchDie d).regs = s.regs := rfl
@[simp] theorem State.touchDie_hub (d : Nat) : (s.touchDie d).hub = s.hub := rfl
@[simp] theorem State.touchDie_events (d : Nat) : (s.touchDie d).events = s.events := rfl
@[simp] theorem State.touchDie_safety (d : Nat) : (s.touchDie d).safety = s.safety := rfl
@[simp] theorem State.touchDie_fabric (d : Nat) : (s.touchDie d).fabric = s.fabric := rfl
@[simp] theorem State.touchDie_link (d : Nat) : (s.touchDie d).link = s.link := rfl
@[simp] theorem State.touchDie_span (d : Nat) : (s.touchDie d).span = s.span := rfl
@[simp] theorem State.touchDie_mem (d : Nat) : (s.touchDie d).mem = s.mem := rfl
@[simp] theorem State.touchDie_dsp (d : Nat) : (s.touchDie d).dsp = s.dsp := rfl
@[simp] theorem State.touchDie_eng (d : Nat) : (s.touchDie d).eng = s.eng := rfl
@[simp] theorem State.touchDie_skein (d : Nat) : (s.touchDie d).skein = s.skein := rfl
@[simp] theorem State.touchDie_lanes (d : Nat) : (s.touchDie d).lanes = s.lanes := rfl
@[simp] theorem State.touchDie_ddr (d : Nat) : (s.touchDie d).ddr = s.ddr := rfl
@[simp] theorem State.touchDie_crypto (d : Nat) : (s.touchDie d).crypto = s.crypto := rfl
@[simp] theorem State.touchDie_clock (d : Nat) : (s.touchDie d).clock = s.clock := rfl
@[simp] theorem State.touchDie_power (d : Nat) : (s.touchDie d).power = s.power := rfl
@[simp] theorem State.touchDie_resets (d : Nat) : (s.touchDie d).resets = s.resets := rfl
@[simp] theorem State.touchDie_dbg (d : Nat) : (s.touchDie d).dbg = s.dbg := rfl
@[simp] theorem State.touchDie_ply (d : Nat) : (s.touchDie d).ply = s.ply := rfl
@[simp] theorem State.touchDie_get (d : Nat) (page' : Nat) (f' : RegField) (i' : Nat) : (s.touchDie d).get page' f' i' = s.get page' f' i' := rfl
@[simp] theorem State.touchDie_flag (d : Nat) (page' : Nat) (f' : RegField) (i' : Nat) : (s.touchDie d).flag page' f' i' = s.flag page' f' i' := rfl

@[simp] theorem State.putSamples_pending (x : List (Nat × Bool) × List (Nat × Bool)) : (s.putSamples x).pending = s.pending := rfl
@[simp] theorem State.putSamples_fresh (x : List (Nat × Bool) × List (Nat × Bool)) : (s.putSamples x).fresh = s.fresh := rfl
@[simp] theorem State.putSamples_regs (x : List (Nat × Bool) × List (Nat × Bool)) : (s.putSamples x).regs = s.regs := rfl
@[simp] theorem State.putSamples_hub (x : List (Nat × Bool) × List (Nat × Bool)) : (s.putSamples x).hub = s.hub := rfl
@[simp] theorem State.putSamples_events (x : List (Nat × Bool) × List (Nat × Bool)) : (s.putSamples x).events = s.events := rfl
@[simp] theorem State.putSamples_safety (x : List (Nat × Bool) × List (Nat × Bool)) : (s.putSamples x).safety = s.safety := rfl
@[simp] theorem State.putSamples_link (x : List (Nat × Bool) × List (Nat × Bool)) : (s.putSamples x).link = s.link := rfl
@[simp] theorem State.putSamples_span (x : List (Nat × Bool) × List (Nat × Bool)) : (s.putSamples x).span = s.span := rfl
@[simp] theorem State.putSamples_mem (x : List (Nat × Bool) × List (Nat × Bool)) : (s.putSamples x).mem = s.mem := rfl
@[simp] theorem State.putSamples_dsp (x : List (Nat × Bool) × List (Nat × Bool)) : (s.putSamples x).dsp = s.dsp := rfl
@[simp] theorem State.putSamples_eng (x : List (Nat × Bool) × List (Nat × Bool)) : (s.putSamples x).eng = s.eng := rfl
@[simp] theorem State.putSamples_skein (x : List (Nat × Bool) × List (Nat × Bool)) : (s.putSamples x).skein = s.skein := rfl
@[simp] theorem State.putSamples_lanes (x : List (Nat × Bool) × List (Nat × Bool)) : (s.putSamples x).lanes = s.lanes := rfl
@[simp] theorem State.putSamples_ddr (x : List (Nat × Bool) × List (Nat × Bool)) : (s.putSamples x).ddr = s.ddr := rfl
@[simp] theorem State.putSamples_crypto (x : List (Nat × Bool) × List (Nat × Bool)) : (s.putSamples x).crypto = s.crypto := rfl
@[simp] theorem State.putSamples_boot (x : List (Nat × Bool) × List (Nat × Bool)) : (s.putSamples x).boot = s.boot := rfl
@[simp] theorem State.putSamples_clock (x : List (Nat × Bool) × List (Nat × Bool)) : (s.putSamples x).clock = s.clock := rfl
@[simp] theorem State.putSamples_power (x : List (Nat × Bool) × List (Nat × Bool)) : (s.putSamples x).power = s.power := rfl
@[simp] theorem State.putSamples_resets (x : List (Nat × Bool) × List (Nat × Bool)) : (s.putSamples x).resets = s.resets := rfl
@[simp] theorem State.putSamples_dbg (x : List (Nat × Bool) × List (Nat × Bool)) : (s.putSamples x).dbg = s.dbg := rfl
@[simp] theorem State.putSamples_ply (x : List (Nat × Bool) × List (Nat × Bool)) : (s.putSamples x).ply = s.ply := rfl
@[simp] theorem State.putSamples_get (x : List (Nat × Bool) × List (Nat × Bool)) (page' : Nat) (f' : RegField) (i' : Nat) : (s.putSamples x).get page' f' i' = s.get page' f' i' := rfl
@[simp] theorem State.putSamples_flag (x : List (Nat × Bool) × List (Nat × Bool)) (page' : Nat) (f' : RegField) (i' : Nat) : (s.putSamples x).flag page' f' i' = s.flag page' f' i' := rfl

@[simp] theorem State.nacked_pending : (s.nacked).pending = s.pending := rfl
@[simp] theorem State.nacked_fresh : (s.nacked).fresh = s.fresh := rfl
@[simp] theorem State.nacked_regs : (s.nacked).regs = s.regs := rfl
@[simp] theorem State.nacked_events : (s.nacked).events = s.events := rfl
@[simp] theorem State.nacked_safety : (s.nacked).safety = s.safety := rfl
@[simp] theorem State.nacked_fabric : (s.nacked).fabric = s.fabric := rfl
@[simp] theorem State.nacked_link : (s.nacked).link = s.link := rfl
@[simp] theorem State.nacked_span : (s.nacked).span = s.span := rfl
@[simp] theorem State.nacked_mem : (s.nacked).mem = s.mem := rfl
@[simp] theorem State.nacked_dsp : (s.nacked).dsp = s.dsp := rfl
@[simp] theorem State.nacked_eng : (s.nacked).eng = s.eng := rfl
@[simp] theorem State.nacked_skein : (s.nacked).skein = s.skein := rfl
@[simp] theorem State.nacked_lanes : (s.nacked).lanes = s.lanes := rfl
@[simp] theorem State.nacked_ddr : (s.nacked).ddr = s.ddr := rfl
@[simp] theorem State.nacked_crypto : (s.nacked).crypto = s.crypto := rfl
@[simp] theorem State.nacked_boot : (s.nacked).boot = s.boot := rfl
@[simp] theorem State.nacked_clock : (s.nacked).clock = s.clock := rfl
@[simp] theorem State.nacked_power : (s.nacked).power = s.power := rfl
@[simp] theorem State.nacked_resets : (s.nacked).resets = s.resets := rfl
@[simp] theorem State.nacked_dbg : (s.nacked).dbg = s.dbg := rfl
@[simp] theorem State.nacked_ply : (s.nacked).ply = s.ply := rfl
@[simp] theorem State.nacked_get (page' : Nat) (f' : RegField) (i' : Nat) : (s.nacked).get page' f' i' = s.get page' f' i' := rfl
@[simp] theorem State.nacked_flag (page' : Nat) (f' : RegField) (i' : Nat) : (s.nacked).flag page' f' i' = s.flag page' f' i' := rfl

@[simp] theorem State.moveDiscarded_pending (d : Nat) : (s.moveDiscarded d).pending = s.pending := rfl
@[simp] theorem State.moveDiscarded_fresh (d : Nat) : (s.moveDiscarded d).fresh = s.fresh := rfl
@[simp] theorem State.moveDiscarded_regs (d : Nat) : (s.moveDiscarded d).regs = s.regs := rfl
@[simp] theorem State.moveDiscarded_hub (d : Nat) : (s.moveDiscarded d).hub = s.hub := rfl
@[simp] theorem State.moveDiscarded_events (d : Nat) : (s.moveDiscarded d).events = s.events := rfl
@[simp] theorem State.moveDiscarded_safety (d : Nat) : (s.moveDiscarded d).safety = s.safety := rfl
@[simp] theorem State.moveDiscarded_fabric (d : Nat) : (s.moveDiscarded d).fabric = s.fabric := rfl
@[simp] theorem State.moveDiscarded_span (d : Nat) : (s.moveDiscarded d).span = s.span := rfl
@[simp] theorem State.moveDiscarded_mem (d : Nat) : (s.moveDiscarded d).mem = s.mem := rfl
@[simp] theorem State.moveDiscarded_dsp (d : Nat) : (s.moveDiscarded d).dsp = s.dsp := rfl
@[simp] theorem State.moveDiscarded_eng (d : Nat) : (s.moveDiscarded d).eng = s.eng := rfl
@[simp] theorem State.moveDiscarded_skein (d : Nat) : (s.moveDiscarded d).skein = s.skein := rfl
@[simp] theorem State.moveDiscarded_lanes (d : Nat) : (s.moveDiscarded d).lanes = s.lanes := rfl
@[simp] theorem State.moveDiscarded_ddr (d : Nat) : (s.moveDiscarded d).ddr = s.ddr := rfl
@[simp] theorem State.moveDiscarded_crypto (d : Nat) : (s.moveDiscarded d).crypto = s.crypto := rfl
@[simp] theorem State.moveDiscarded_boot (d : Nat) : (s.moveDiscarded d).boot = s.boot := rfl
@[simp] theorem State.moveDiscarded_clock (d : Nat) : (s.moveDiscarded d).clock = s.clock := rfl
@[simp] theorem State.moveDiscarded_power (d : Nat) : (s.moveDiscarded d).power = s.power := rfl
@[simp] theorem State.moveDiscarded_resets (d : Nat) : (s.moveDiscarded d).resets = s.resets := rfl
@[simp] theorem State.moveDiscarded_dbg (d : Nat) : (s.moveDiscarded d).dbg = s.dbg := rfl
@[simp] theorem State.moveDiscarded_ply (d : Nat) : (s.moveDiscarded d).ply = s.ply := rfl
@[simp] theorem State.moveDiscarded_get (d : Nat) (page' : Nat) (f' : RegField) (i' : Nat) : (s.moveDiscarded d).get page' f' i' = s.get page' f' i' := rfl
@[simp] theorem State.moveDiscarded_flag (d : Nat) (page' : Nat) (f' : RegField) (i' : Nat) : (s.moveDiscarded d).flag page' f' i' = s.flag page' f' i' := rfl

@[simp] theorem State.streamBegins_pending (payload : List Byte) : (s.streamBegins payload).pending = s.pending := rfl
@[simp] theorem State.streamBegins_fresh (payload : List Byte) : (s.streamBegins payload).fresh = s.fresh := rfl
@[simp] theorem State.streamBegins_regs (payload : List Byte) : (s.streamBegins payload).regs = s.regs := rfl
@[simp] theorem State.streamBegins_hub (payload : List Byte) : (s.streamBegins payload).hub = s.hub := rfl
@[simp] theorem State.streamBegins_events (payload : List Byte) : (s.streamBegins payload).events = s.events := rfl
@[simp] theorem State.streamBegins_safety (payload : List Byte) : (s.streamBegins payload).safety = s.safety := rfl
@[simp] theorem State.streamBegins_fabric (payload : List Byte) : (s.streamBegins payload).fabric = s.fabric := rfl
@[simp] theorem State.streamBegins_link (payload : List Byte) : (s.streamBegins payload).link = s.link := rfl
@[simp] theorem State.streamBegins_span (payload : List Byte) : (s.streamBegins payload).span = s.span := rfl
@[simp] theorem State.streamBegins_mem (payload : List Byte) : (s.streamBegins payload).mem = s.mem := rfl
@[simp] theorem State.streamBegins_dsp (payload : List Byte) : (s.streamBegins payload).dsp = s.dsp := rfl
@[simp] theorem State.streamBegins_eng (payload : List Byte) : (s.streamBegins payload).eng = s.eng := rfl
@[simp] theorem State.streamBegins_skein (payload : List Byte) : (s.streamBegins payload).skein = s.skein := rfl
@[simp] theorem State.streamBegins_lanes (payload : List Byte) : (s.streamBegins payload).lanes = s.lanes := rfl
@[simp] theorem State.streamBegins_ddr (payload : List Byte) : (s.streamBegins payload).ddr = s.ddr := rfl
@[simp] theorem State.streamBegins_crypto (payload : List Byte) : (s.streamBegins payload).crypto = s.crypto := rfl
@[simp] theorem State.streamBegins_boot (payload : List Byte) : (s.streamBegins payload).boot = s.boot := rfl
@[simp] theorem State.streamBegins_clock (payload : List Byte) : (s.streamBegins payload).clock = s.clock := rfl
@[simp] theorem State.streamBegins_power (payload : List Byte) : (s.streamBegins payload).power = s.power := rfl
@[simp] theorem State.streamBegins_resets (payload : List Byte) : (s.streamBegins payload).resets = s.resets := rfl
@[simp] theorem State.streamBegins_dbg (payload : List Byte) : (s.streamBegins payload).dbg = s.dbg := rfl
@[simp] theorem State.streamBegins_get (payload : List Byte) (page' : Nat) (f' : RegField) (i' : Nat) : (s.streamBegins payload).get page' f' i' = s.get page' f' i' := rfl
@[simp] theorem State.streamBegins_flag (payload : List Byte) (page' : Nat) (f' : RegField) (i' : Nat) : (s.streamBegins payload).flag page' f' i' = s.flag page' f' i' := rfl

@[simp] theorem State.loseMem_pending (mine : Nat → Bool) : (s.loseMem mine).pending = s.pending := rfl
@[simp] theorem State.loseMem_fresh (mine : Nat → Bool) : (s.loseMem mine).fresh = s.fresh := rfl
@[simp] theorem State.loseMem_regs (mine : Nat → Bool) : (s.loseMem mine).regs = s.regs := rfl
@[simp] theorem State.loseMem_hub (mine : Nat → Bool) : (s.loseMem mine).hub = s.hub := rfl
@[simp] theorem State.loseMem_events (mine : Nat → Bool) : (s.loseMem mine).events = s.events := rfl
@[simp] theorem State.loseMem_safety (mine : Nat → Bool) : (s.loseMem mine).safety = s.safety := rfl
@[simp] theorem State.loseMem_fabric (mine : Nat → Bool) : (s.loseMem mine).fabric = s.fabric := rfl
@[simp] theorem State.loseMem_link (mine : Nat → Bool) : (s.loseMem mine).link = s.link := rfl
@[simp] theorem State.loseMem_span (mine : Nat → Bool) : (s.loseMem mine).span = s.span := rfl
@[simp] theorem State.loseMem_dsp (mine : Nat → Bool) : (s.loseMem mine).dsp = s.dsp := rfl
@[simp] theorem State.loseMem_eng (mine : Nat → Bool) : (s.loseMem mine).eng = s.eng := rfl
@[simp] theorem State.loseMem_skein (mine : Nat → Bool) : (s.loseMem mine).skein = s.skein := rfl
@[simp] theorem State.loseMem_lanes (mine : Nat → Bool) : (s.loseMem mine).lanes = s.lanes := rfl
@[simp] theorem State.loseMem_ddr (mine : Nat → Bool) : (s.loseMem mine).ddr = s.ddr := rfl
@[simp] theorem State.loseMem_crypto (mine : Nat → Bool) : (s.loseMem mine).crypto = s.crypto := rfl
@[simp] theorem State.loseMem_boot (mine : Nat → Bool) : (s.loseMem mine).boot = s.boot := rfl
@[simp] theorem State.loseMem_clock (mine : Nat → Bool) : (s.loseMem mine).clock = s.clock := rfl
@[simp] theorem State.loseMem_power (mine : Nat → Bool) : (s.loseMem mine).power = s.power := rfl
@[simp] theorem State.loseMem_resets (mine : Nat → Bool) : (s.loseMem mine).resets = s.resets := rfl
@[simp] theorem State.loseMem_dbg (mine : Nat → Bool) : (s.loseMem mine).dbg = s.dbg := rfl
@[simp] theorem State.loseMem_ply (mine : Nat → Bool) : (s.loseMem mine).ply = s.ply := rfl
@[simp] theorem State.loseMem_get (mine : Nat → Bool) (page' : Nat) (f' : RegField) (i' : Nat) : (s.loseMem mine).get page' f' i' = s.get page' f' i' := rfl
@[simp] theorem State.loseMem_flag (mine : Nat → Bool) (page' : Nat) (f' : RegField) (i' : Nat) : (s.loseMem mine).flag page' f' i' = s.flag page' f' i' := rfl

@[simp] theorem State.count_pending (page : Nat) (f : RegField) (n i : Nat) : (s.count page f n i).pending = s.pending := rfl
@[simp] theorem State.count_fresh (page : Nat) (f : RegField) (n i : Nat) : (s.count page f n i).fresh = s.fresh := rfl
@[simp] theorem State.count_hub (page : Nat) (f : RegField) (n i : Nat) : (s.count page f n i).hub = s.hub := rfl
@[simp] theorem State.count_events (page : Nat) (f : RegField) (n i : Nat) : (s.count page f n i).events = s.events := rfl
@[simp] theorem State.count_safety (page : Nat) (f : RegField) (n i : Nat) : (s.count page f n i).safety = s.safety := rfl
@[simp] theorem State.count_fabric (page : Nat) (f : RegField) (n i : Nat) : (s.count page f n i).fabric = s.fabric := rfl
@[simp] theorem State.count_link (page : Nat) (f : RegField) (n i : Nat) : (s.count page f n i).link = s.link := rfl
@[simp] theorem State.count_span (page : Nat) (f : RegField) (n i : Nat) : (s.count page f n i).span = s.span := rfl
@[simp] theorem State.count_mem (page : Nat) (f : RegField) (n i : Nat) : (s.count page f n i).mem = s.mem := rfl
@[simp] theorem State.count_dsp (page : Nat) (f : RegField) (n i : Nat) : (s.count page f n i).dsp = s.dsp := rfl
@[simp] theorem State.count_eng (page : Nat) (f : RegField) (n i : Nat) : (s.count page f n i).eng = s.eng := rfl
@[simp] theorem State.count_skein (page : Nat) (f : RegField) (n i : Nat) : (s.count page f n i).skein = s.skein := rfl
@[simp] theorem State.count_lanes (page : Nat) (f : RegField) (n i : Nat) : (s.count page f n i).lanes = s.lanes := rfl
@[simp] theorem State.count_ddr (page : Nat) (f : RegField) (n i : Nat) : (s.count page f n i).ddr = s.ddr := rfl
@[simp] theorem State.count_crypto (page : Nat) (f : RegField) (n i : Nat) : (s.count page f n i).crypto = s.crypto := rfl
@[simp] theorem State.count_boot (page : Nat) (f : RegField) (n i : Nat) : (s.count page f n i).boot = s.boot := rfl
@[simp] theorem State.count_clock (page : Nat) (f : RegField) (n i : Nat) : (s.count page f n i).clock = s.clock := rfl
@[simp] theorem State.count_power (page : Nat) (f : RegField) (n i : Nat) : (s.count page f n i).power = s.power := rfl
@[simp] theorem State.count_resets (page : Nat) (f : RegField) (n i : Nat) : (s.count page f n i).resets = s.resets := rfl
@[simp] theorem State.count_dbg (page : Nat) (f : RegField) (n i : Nat) : (s.count page f n i).dbg = s.dbg := rfl
@[simp] theorem State.count_ply (page : Nat) (f : RegField) (n i : Nat) : (s.count page f n i).ply = s.ply := rfl

@[simp] theorem State.setBits_pending (page : Nat) (f : RegField) (m i : Nat) : (s.setBits page f m i).pending = s.pending := rfl
@[simp] theorem State.setBits_fresh (page : Nat) (f : RegField) (m i : Nat) : (s.setBits page f m i).fresh = s.fresh := rfl
@[simp] theorem State.setBits_hub (page : Nat) (f : RegField) (m i : Nat) : (s.setBits page f m i).hub = s.hub := rfl
@[simp] theorem State.setBits_events (page : Nat) (f : RegField) (m i : Nat) : (s.setBits page f m i).events = s.events := rfl
@[simp] theorem State.setBits_safety (page : Nat) (f : RegField) (m i : Nat) : (s.setBits page f m i).safety = s.safety := rfl
@[simp] theorem State.setBits_fabric (page : Nat) (f : RegField) (m i : Nat) : (s.setBits page f m i).fabric = s.fabric := rfl
@[simp] theorem State.setBits_link (page : Nat) (f : RegField) (m i : Nat) : (s.setBits page f m i).link = s.link := rfl
@[simp] theorem State.setBits_span (page : Nat) (f : RegField) (m i : Nat) : (s.setBits page f m i).span = s.span := rfl
@[simp] theorem State.setBits_mem (page : Nat) (f : RegField) (m i : Nat) : (s.setBits page f m i).mem = s.mem := rfl
@[simp] theorem State.setBits_dsp (page : Nat) (f : RegField) (m i : Nat) : (s.setBits page f m i).dsp = s.dsp := rfl
@[simp] theorem State.setBits_eng (page : Nat) (f : RegField) (m i : Nat) : (s.setBits page f m i).eng = s.eng := rfl
@[simp] theorem State.setBits_skein (page : Nat) (f : RegField) (m i : Nat) : (s.setBits page f m i).skein = s.skein := rfl
@[simp] theorem State.setBits_lanes (page : Nat) (f : RegField) (m i : Nat) : (s.setBits page f m i).lanes = s.lanes := rfl
@[simp] theorem State.setBits_ddr (page : Nat) (f : RegField) (m i : Nat) : (s.setBits page f m i).ddr = s.ddr := rfl
@[simp] theorem State.setBits_crypto (page : Nat) (f : RegField) (m i : Nat) : (s.setBits page f m i).crypto = s.crypto := rfl
@[simp] theorem State.setBits_boot (page : Nat) (f : RegField) (m i : Nat) : (s.setBits page f m i).boot = s.boot := rfl
@[simp] theorem State.setBits_clock (page : Nat) (f : RegField) (m i : Nat) : (s.setBits page f m i).clock = s.clock := rfl
@[simp] theorem State.setBits_power (page : Nat) (f : RegField) (m i : Nat) : (s.setBits page f m i).power = s.power := rfl
@[simp] theorem State.setBits_resets (page : Nat) (f : RegField) (m i : Nat) : (s.setBits page f m i).resets = s.resets := rfl
@[simp] theorem State.setBits_dbg (page : Nat) (f : RegField) (m i : Nat) : (s.setBits page f m i).dbg = s.dbg := rfl
@[simp] theorem State.setBits_ply (page : Nat) (f : RegField) (m i : Nat) : (s.setBits page f m i).ply = s.ply := rfl

@[simp] theorem State.setBit_pending (page : Nat) (f : RegField) (b : Nat) (on : Bool) (i : Nat) : (s.setBit page f b on i).pending = s.pending := rfl
@[simp] theorem State.setBit_fresh (page : Nat) (f : RegField) (b : Nat) (on : Bool) (i : Nat) : (s.setBit page f b on i).fresh = s.fresh := rfl
@[simp] theorem State.setBit_hub (page : Nat) (f : RegField) (b : Nat) (on : Bool) (i : Nat) : (s.setBit page f b on i).hub = s.hub := rfl
@[simp] theorem State.setBit_events (page : Nat) (f : RegField) (b : Nat) (on : Bool) (i : Nat) : (s.setBit page f b on i).events = s.events := rfl
@[simp] theorem State.setBit_safety (page : Nat) (f : RegField) (b : Nat) (on : Bool) (i : Nat) : (s.setBit page f b on i).safety = s.safety := rfl
@[simp] theorem State.setBit_fabric (page : Nat) (f : RegField) (b : Nat) (on : Bool) (i : Nat) : (s.setBit page f b on i).fabric = s.fabric := rfl
@[simp] theorem State.setBit_link (page : Nat) (f : RegField) (b : Nat) (on : Bool) (i : Nat) : (s.setBit page f b on i).link = s.link := rfl
@[simp] theorem State.setBit_span (page : Nat) (f : RegField) (b : Nat) (on : Bool) (i : Nat) : (s.setBit page f b on i).span = s.span := rfl
@[simp] theorem State.setBit_mem (page : Nat) (f : RegField) (b : Nat) (on : Bool) (i : Nat) : (s.setBit page f b on i).mem = s.mem := rfl
@[simp] theorem State.setBit_dsp (page : Nat) (f : RegField) (b : Nat) (on : Bool) (i : Nat) : (s.setBit page f b on i).dsp = s.dsp := rfl
@[simp] theorem State.setBit_eng (page : Nat) (f : RegField) (b : Nat) (on : Bool) (i : Nat) : (s.setBit page f b on i).eng = s.eng := rfl
@[simp] theorem State.setBit_skein (page : Nat) (f : RegField) (b : Nat) (on : Bool) (i : Nat) : (s.setBit page f b on i).skein = s.skein := rfl
@[simp] theorem State.setBit_lanes (page : Nat) (f : RegField) (b : Nat) (on : Bool) (i : Nat) : (s.setBit page f b on i).lanes = s.lanes := rfl
@[simp] theorem State.setBit_ddr (page : Nat) (f : RegField) (b : Nat) (on : Bool) (i : Nat) : (s.setBit page f b on i).ddr = s.ddr := rfl
@[simp] theorem State.setBit_crypto (page : Nat) (f : RegField) (b : Nat) (on : Bool) (i : Nat) : (s.setBit page f b on i).crypto = s.crypto := rfl
@[simp] theorem State.setBit_boot (page : Nat) (f : RegField) (b : Nat) (on : Bool) (i : Nat) : (s.setBit page f b on i).boot = s.boot := rfl
@[simp] theorem State.setBit_clock (page : Nat) (f : RegField) (b : Nat) (on : Bool) (i : Nat) : (s.setBit page f b on i).clock = s.clock := rfl
@[simp] theorem State.setBit_power (page : Nat) (f : RegField) (b : Nat) (on : Bool) (i : Nat) : (s.setBit page f b on i).power = s.power := rfl
@[simp] theorem State.setBit_resets (page : Nat) (f : RegField) (b : Nat) (on : Bool) (i : Nat) : (s.setBit page f b on i).resets = s.resets := rfl
@[simp] theorem State.setBit_dbg (page : Nat) (f : RegField) (b : Nat) (on : Bool) (i : Nat) : (s.setBit page f b on i).dbg = s.dbg := rfl
@[simp] theorem State.setBit_ply (page : Nat) (f : RegField) (b : Nat) (on : Bool) (i : Nat) : (s.setBit page f b on i).ply = s.ply := rfl

@[simp] theorem State.clearBits_pending (page : Nat) (f : RegField) (m i : Nat) : (s.clearBits page f m i).pending = s.pending := rfl
@[simp] theorem State.clearBits_fresh (page : Nat) (f : RegField) (m i : Nat) : (s.clearBits page f m i).fresh = s.fresh := rfl
@[simp] theorem State.clearBits_hub (page : Nat) (f : RegField) (m i : Nat) : (s.clearBits page f m i).hub = s.hub := rfl
@[simp] theorem State.clearBits_events (page : Nat) (f : RegField) (m i : Nat) : (s.clearBits page f m i).events = s.events := rfl
@[simp] theorem State.clearBits_safety (page : Nat) (f : RegField) (m i : Nat) : (s.clearBits page f m i).safety = s.safety := rfl
@[simp] theorem State.clearBits_fabric (page : Nat) (f : RegField) (m i : Nat) : (s.clearBits page f m i).fabric = s.fabric := rfl
@[simp] theorem State.clearBits_link (page : Nat) (f : RegField) (m i : Nat) : (s.clearBits page f m i).link = s.link := rfl
@[simp] theorem State.clearBits_span (page : Nat) (f : RegField) (m i : Nat) : (s.clearBits page f m i).span = s.span := rfl
@[simp] theorem State.clearBits_mem (page : Nat) (f : RegField) (m i : Nat) : (s.clearBits page f m i).mem = s.mem := rfl
@[simp] theorem State.clearBits_dsp (page : Nat) (f : RegField) (m i : Nat) : (s.clearBits page f m i).dsp = s.dsp := rfl
@[simp] theorem State.clearBits_eng (page : Nat) (f : RegField) (m i : Nat) : (s.clearBits page f m i).eng = s.eng := rfl
@[simp] theorem State.clearBits_skein (page : Nat) (f : RegField) (m i : Nat) : (s.clearBits page f m i).skein = s.skein := rfl
@[simp] theorem State.clearBits_lanes (page : Nat) (f : RegField) (m i : Nat) : (s.clearBits page f m i).lanes = s.lanes := rfl
@[simp] theorem State.clearBits_ddr (page : Nat) (f : RegField) (m i : Nat) : (s.clearBits page f m i).ddr = s.ddr := rfl
@[simp] theorem State.clearBits_crypto (page : Nat) (f : RegField) (m i : Nat) : (s.clearBits page f m i).crypto = s.crypto := rfl
@[simp] theorem State.clearBits_boot (page : Nat) (f : RegField) (m i : Nat) : (s.clearBits page f m i).boot = s.boot := rfl
@[simp] theorem State.clearBits_clock (page : Nat) (f : RegField) (m i : Nat) : (s.clearBits page f m i).clock = s.clock := rfl
@[simp] theorem State.clearBits_power (page : Nat) (f : RegField) (m i : Nat) : (s.clearBits page f m i).power = s.power := rfl
@[simp] theorem State.clearBits_resets (page : Nat) (f : RegField) (m i : Nat) : (s.clearBits page f m i).resets = s.resets := rfl
@[simp] theorem State.clearBits_dbg (page : Nat) (f : RegField) (m i : Nat) : (s.clearBits page f m i).dbg = s.dbg := rfl
@[simp] theorem State.clearBits_ply (page : Nat) (f : RegField) (m i : Nat) : (s.clearBits page f m i).ply = s.ply := rfl

@[simp] theorem State.setInt_pending (page b : Nat) : (s.setInt page b).pending = s.pending := rfl
@[simp] theorem State.setInt_fresh (page b : Nat) : (s.setInt page b).fresh = s.fresh := rfl
@[simp] theorem State.setInt_hub (page b : Nat) : (s.setInt page b).hub = s.hub := rfl
@[simp] theorem State.setInt_events (page b : Nat) : (s.setInt page b).events = s.events := rfl
@[simp] theorem State.setInt_safety (page b : Nat) : (s.setInt page b).safety = s.safety := rfl
@[simp] theorem State.setInt_fabric (page b : Nat) : (s.setInt page b).fabric = s.fabric := rfl
@[simp] theorem State.setInt_link (page b : Nat) : (s.setInt page b).link = s.link := rfl
@[simp] theorem State.setInt_span (page b : Nat) : (s.setInt page b).span = s.span := rfl
@[simp] theorem State.setInt_mem (page b : Nat) : (s.setInt page b).mem = s.mem := rfl
@[simp] theorem State.setInt_dsp (page b : Nat) : (s.setInt page b).dsp = s.dsp := rfl
@[simp] theorem State.setInt_eng (page b : Nat) : (s.setInt page b).eng = s.eng := rfl
@[simp] theorem State.setInt_skein (page b : Nat) : (s.setInt page b).skein = s.skein := rfl
@[simp] theorem State.setInt_lanes (page b : Nat) : (s.setInt page b).lanes = s.lanes := rfl
@[simp] theorem State.setInt_ddr (page b : Nat) : (s.setInt page b).ddr = s.ddr := rfl
@[simp] theorem State.setInt_crypto (page b : Nat) : (s.setInt page b).crypto = s.crypto := rfl
@[simp] theorem State.setInt_boot (page b : Nat) : (s.setInt page b).boot = s.boot := rfl
@[simp] theorem State.setInt_clock (page b : Nat) : (s.setInt page b).clock = s.clock := rfl
@[simp] theorem State.setInt_power (page b : Nat) : (s.setInt page b).power = s.power := rfl
@[simp] theorem State.setInt_resets (page b : Nat) : (s.setInt page b).resets = s.resets := rfl
@[simp] theorem State.setInt_dbg (page b : Nat) : (s.setInt page b).dbg = s.dbg := rfl
@[simp] theorem State.setInt_ply (page b : Nat) : (s.setInt page b).ply = s.ply := rfl

end Sys2Proof.Machine
end

