-- ==== Sys2Proof/Laws/Store.lean ====
section
/-! SUPPORT. The laws of the sparse store: a read after a write, at the same key and at another, and that every operation keeps the
canonical form, so that equal contents are equal data. -/

namespace Sys2Proof.Machine

variable {α : Type}

theorem SMap.find_drop_same (m : SMap α) (k : Nat) : SMap.find (SMap.drop m k) k = none := by
  induction m with
  | nil => rfl
  | cons e m ih =>
    obtain ⟨k', v⟩ := e
    by_cases h : k' = k <;> simp [SMap.drop, SMap.find, h, ih]

theorem SMap.find_drop_other (m : SMap α) {k j : Nat} (h : j ≠ k) : SMap.find (SMap.drop m k) j = SMap.find m j := by
  induction m with
  | nil => rfl
  | cons e m ih =>
    obtain ⟨k', v⟩ := e
    by_cases hk : k' = k
    · subst hk
      have hj : k' ≠ j := fun h' => h h'.symm
      simp [SMap.drop, SMap.find, hj, ih]
    · simp only [SMap.drop, SMap.find, if_neg hk, ih]

theorem SMap.find_enter_same (m : SMap α) (k : Nat) (v : α) : SMap.find (SMap.enter m k v) k = some v := by
  induction m with
  | nil => simp [SMap.enter, SMap.find]
  | cons e m ih =>
    obtain ⟨k', v'⟩ := e
    unfold SMap.enter
    by_cases h1 : k < k'
    · simp [h1, SMap.find]
    · by_cases h2 : k' = k <;> simp [h1, h2, SMap.find, ih]

theorem SMap.find_enter_other (m : SMap α) {k j : Nat} (v : α) (h : j ≠ k) : SMap.find (SMap.enter m k v) j = SMap.find m j := by
  have hk : k ≠ j := fun h' => h h'.symm
  induction m with
  | nil => simp [SMap.enter, SMap.find, hk]
  | cons e m ih =>
    obtain ⟨k', v'⟩ := e
    unfold SMap.enter
    by_cases h1 : k < k'
    · simp [h1, SMap.find, hk]
    · by_cases h2 : k' = k
      · subst h2
        simp [SMap.find, hk]
      · simp only [if_neg h1, if_neg h2, SMap.find, ih]

/-- A read after a write of the same key gives the value written. -/
@[simp] theorem SMap.read_write_same [DecidableEq α] (d : α) (m : SMap α) (k : Nat) (v : α) :
    SMap.read d (SMap.write d m k v) k = v := by
  unfold SMap.read SMap.write
  split
  · next h => simp [SMap.find_drop_same, h]
  · simp [SMap.find_enter_same]

/-- A write leaves every other key alone, whatever it reads as when unlisted. -/
theorem SMap.read_write_other [DecidableEq α] (d e : α) (m : SMap α) {k j : Nat} (v : α) (h : j ≠ k) :
    SMap.read e (SMap.write d m k v) j = SMap.read e m j := by
  unfold SMap.read SMap.write
  split
  · rw [SMap.find_drop_other m h]
  · rw [SMap.find_enter_other m v h]

/-! ## The canonical form -/

theorem SMap.risingFrom_weaken {lo k : Nat} {m : SMap α} (hk : lo ≤ k) (h : SMap.risingFrom (some k) m = true) :
    SMap.risingFrom (some lo) m = true := by
  cases m with
  | nil => rfl
  | cons e m =>
    obtain ⟨k', v⟩ := e
    simp only [SMap.risingFrom, Bool.and_eq_true, decide_eq_true_eq] at h ⊢
    exact ⟨by omega, h.2⟩

theorem SMap.risingFrom_drop {lo : Option Nat} {m : SMap α} (k : Nat) (h : SMap.risingFrom lo m = true) :
    SMap.risingFrom lo (SMap.drop m k) = true := by
  induction m generalizing lo with
  | nil => rfl
  | cons e m ih =>
    obtain ⟨k', v⟩ := e
    simp only [SMap.risingFrom, Bool.and_eq_true] at h
    unfold SMap.drop
    split
    · have h' := ih h.2
      cases lo with
      | none =>
        revert h'
        cases SMap.drop m k with
        | nil => intro; rfl
        | cons e' m' => obtain ⟨a, b⟩ := e'; simp [SMap.risingFrom]
      | some b =>
        have hb : b < k' := by simpa using h.1
        exact SMap.risingFrom_weaken (Nat.le_of_lt hb) h'
    · simp only [SMap.risingFrom, Bool.and_eq_true]
      exact ⟨h.1, ih h.2⟩

theorem SMap.risingFrom_enter {lo : Option Nat} {m : SMap α} {k : Nat} (v : α) (h : SMap.risingFrom lo m = true)
    (hk : ∀ b, lo = some b → b < k) : SMap.risingFrom lo (SMap.enter m k v) = true := by
  induction m generalizing lo with
  | nil =>
    cases lo with
    | none => rfl
    | some b => simp [SMap.enter, SMap.risingFrom, hk b rfl]
  | cons e m ih =>
    obtain ⟨k', v'⟩ := e
    simp only [SMap.risingFrom, Bool.and_eq_true] at h
    unfold SMap.enter
    split
    · next h1 =>
      simp only [SMap.risingFrom, Bool.and_eq_true, decide_eq_true_eq]
      refine ⟨?_, h1, h.2⟩
      cases lo with
      | none => rfl
      | some b => simpa using hk b rfl
    · split
      · next h2 =>
        subst h2
        simpa only [SMap.risingFrom, Bool.and_eq_true] using h
      · simp only [SMap.risingFrom, Bool.and_eq_true]
        refine ⟨h.1, ih h.2 ?_⟩
        intro b hb
        cases hb
        omega

theorem SMap.all_drop {m : SMap α} (k : Nat) {p : Nat × α → Bool} (h : m.all p = true) : (SMap.drop m k).all p = true := by
  induction m with
  | nil => rfl
  | cons e m ih =>
    obtain ⟨k', v⟩ := e
    simp only [List.all_cons, Bool.and_eq_true] at h
    unfold SMap.drop
    split
    · exact ih h.2
    · simp only [List.all_cons, Bool.and_eq_true]
      exact ⟨h.1, ih h.2⟩

theorem SMap.all_enter {m : SMap α} {k : Nat} {v : α} {p : Nat × α → Bool} (h : m.all p = true) (hv : p (k, v) = true) :
    (SMap.enter m k v).all p = true := by
  induction m with
  | nil => simp [SMap.enter, hv]
  | cons e m ih =>
    obtain ⟨k', v'⟩ := e
    simp only [List.all_cons, Bool.and_eq_true] at h
    unfold SMap.enter
    split
    · simp only [List.all_cons, Bool.and_eq_true]
      exact ⟨hv, h⟩
    · split
      · simp only [List.all_cons, Bool.and_eq_true]
        exact ⟨hv, h.2⟩
      · simp only [List.all_cons, Bool.and_eq_true]
        exact ⟨h.1, ih h.2⟩

/-- An empty store is canonical. -/
theorem SMap.wf_nil [DecidableEq α] (d : α) : SMap.wf d [] = true := rfl

/-- A write keeps the canonical form. -/
theorem SMap.wf_write [DecidableEq α] (d : α) {m : SMap α} (k : Nat) (v : α) (h : SMap.wf d m = true) :
    SMap.wf d (SMap.write d m k v) = true := by
  unfold SMap.wf at h ⊢
  simp only [Bool.and_eq_true] at h ⊢
  unfold SMap.write
  split
  · exact ⟨SMap.risingFrom_drop k h.1, SMap.all_drop k h.2⟩
  · next hv => exact ⟨SMap.risingFrom_enter v h.1 (by intro b hb; cases hb), SMap.all_enter h.2 (by simp [hv])⟩

/-- Keeping part of the entries keeps the order of the keys. -/
theorem SMap.risingFrom_keep {lo : Option Nat} {m : SMap α} (p : Nat → Bool) (h : SMap.risingFrom lo m = true) :
    SMap.risingFrom lo (SMap.keep p m) = true := by
  induction m generalizing lo with
  | nil => rfl
  | cons e m ih =>
    obtain ⟨k', v⟩ := e
    simp only [SMap.risingFrom, Bool.and_eq_true] at h
    by_cases hp : p k' = true
    · simp only [SMap.keep, List.filter_cons, hp, if_true, SMap.risingFrom, Bool.and_eq_true]
      exact ⟨h.1, ih h.2⟩
    · have hkeep : SMap.keep p ((k', v) :: m) = SMap.keep p m := by simp [SMap.keep, hp]
      rw [hkeep]
      have h' := ih h.2
      cases lo with
      | none =>
        revert h'
        cases SMap.keep p m with
        | nil => intro; rfl
        | cons e' m' => obtain ⟨a, b⟩ := e'; simp [SMap.risingFrom]
      | some b =>
        have hb : b < k' := by simpa using h.1
        exact SMap.risingFrom_weaken (Nat.le_of_lt hb) h'

/-- Keeping part of the entries keeps the canonical form. -/
theorem SMap.wf_keep [DecidableEq α] (d : α) {m : SMap α} (p : Nat → Bool) (h : SMap.wf d m = true) :
    SMap.wf d (SMap.keep p m) = true := by
  unfold SMap.wf at h ⊢
  simp only [Bool.and_eq_true, List.all_eq_true] at h ⊢
  refine ⟨SMap.risingFrom_keep p h.1, fun e he => h.2 e ?_⟩
  exact List.mem_of_mem_filter he

end Sys2Proof.Machine
end

