-- ==== Sys2Proof/Laws/Registers.lean ====
section
/-! SUPPORT. The laws of the register store: a field reads what was last written to it, wrapped to its width, and a write of one field
leaves every field at another bit address alone; and what a command's outcome can be. -/

namespace Sys2Proof.Machine

open Reg

variable (s : State)

/-! ## Reading a field after a write -/

@[simp] theorem State.get_set_same (p : Nat) (f : RegField) (v i : Nat) : (s.set p f v i).get p f i = v % 2 ^ f.width := by
  simp [State.get, State.set]

theorem State.get_set_other {p q : Nat} {f g : RegField} (v : Nat) {i j : Nat} (h : fieldKey q g j ≠ fieldKey p f i) :
    (s.set p f v i).get q g j = s.get q g j := by
  simp only [State.get, State.set]
  exact SMap.read_write_other _ _ _ _ h

/-- Fields of other pages are other keys: a page has 2^15 bit addresses. -/
theorem fieldKey_ne_of_page {p q : Nat} {f g : RegField} {i j : Nat} (hf : (f.off + i * f.stride) * 8 + f.lo < 32768)
    (hg : (g.off + j * g.stride) * 8 + g.lo < 32768) (h : q ≠ p) : fieldKey q g j ≠ fieldKey p f i := by
  unfold fieldKey
  generalize i * f.stride = a at *
  generalize j * g.stride = b at *
  omega

@[simp] theorem State.get_count_same (p : Nat) (f : RegField) (n i : Nat) :
    (s.count p f n i).get p f i = satAdd f.width (s.get p f i) n % 2 ^ f.width := by
  simp [State.count]

theorem State.get_count_other {p q : Nat} {f g : RegField} (n : Nat) {i j : Nat} (h : fieldKey q g j ≠ fieldKey p f i) :
    (s.count p f n i).get q g j = s.get q g j := State.get_set_other s _ h

@[simp] theorem State.get_setBits_same (p : Nat) (f : RegField) (m i : Nat) :
    (s.setBits p f m i).get p f i = (s.get p f i ||| m) % 2 ^ f.width := by
  simp [State.setBits]

theorem State.get_setBits_other {p q : Nat} {f g : RegField} (m : Nat) {i j : Nat} (h : fieldKey q g j ≠ fieldKey p f i) :
    (s.setBits p f m i).get q g j = s.get q g j := State.get_set_other s _ h

@[simp] theorem State.get_setBit_same (p : Nat) (f : RegField) (b : Nat) (on : Bool) (i : Nat) :
    (s.setBit p f b on i).get p f i = withBit (s.get p f i) b on % 2 ^ f.width := by
  simp [State.setBit]

theorem State.get_setBit_other {p q : Nat} {f g : RegField} (b : Nat) (on : Bool) {i j : Nat} (h : fieldKey q g j ≠ fieldKey p f i) :
    (s.setBit p f b on i).get q g j = s.get q g j := State.get_set_other s _ h

theorem State.get_clearBits_other {p q : Nat} {f g : RegField} (m : Nat) {i j : Nat} (h : fieldKey q g j ≠ fieldKey p f i) :
    (s.clearBits p f m i).get q g j = s.get q g j := State.get_set_other s _ h

theorem State.get_setInt_other {p q b : Nat} {g : RegField} {j : Nat} (h : fieldKey q g j ≠ fieldKey p Hdr.INT_STATUS_BLOCK 0) :
    (s.setInt p b).get q g j = s.get q g j := State.get_set_other s _ h

/-- An event of a page leaves its `INT_STATUS` bit 1 (R52). -/
theorem State.setInt_sets (p b : Nat) (h : 16 ≤ b) (hb : b < 32) : bit ((s.setInt p b).get p Hdr.INT_STATUS_BLOCK) (b - 16) = true := by
  have hw : Hdr.INT_STATUS_BLOCK.width = 16 := rfl
  simp only [State.setInt, State.get_setBits_same, bit, hw, Nat.testBit_mod_two_pow, Nat.testBit_or, Nat.testBit_shiftLeft]
  simp
  omega

/-! ## The commands' outcome -/

/-- Every completing command leaves the queue as it was. -/
theorem done_pending (s t u : State) (h : done s t = .next u) : u.pending = s.pending := by
  simp only [done, Host.Outcome.next.injEq] at h
  rw [← h]

theorem onPart_true (s t : State) : onPart true s t = done s t := rfl
theorem onPart_false (s t : State) : onPart false s t = .fault .noSuchPart := rfl

/-- A command at a part that exists completes, in the state it makes with the queue it had. -/
theorem onPart_next {ok : Bool} {s t : State} (h : ok = true) : onPart ok s t = .next { t with pending := s.pending } := by
  subst h
  rfl

/-- What any meaning built on a part can answer. -/
theorem onPart_cases (ok : Bool) (s t : State) :
    (ok = true ∧ onPart ok s t = .next { t with pending := s.pending }) ∨ (ok = false ∧ onPart ok s t = .fault .noSuchPart) := by
  cases ok
  · exact .inr ⟨rfl, rfl⟩
  · exact .inl ⟨rfl, rfl⟩

@[simp] theorem State.pending_get (l : List Instr) (p : Nat) (f : RegField) (i : Nat) :
    State.get { s with pending := l } p f i = s.get p f i := rfl
@[simp] theorem State.pending_flag (l : List Instr) (p : Nat) (f : RegField) (i : Nat) :
    State.flag { s with pending := l } p f i = s.flag p f i := rfl

end Sys2Proof.Machine
end

