-- ==== Sys2Proof/Laws/Bus.lean ====
section
/-! SUPPORT. What an accepted write of one whole word does (R42, R57): its fields by their types, then the page's own effect; and
when the address of a register lies in the aperture. -/

namespace Sys2Proof.Machine

open Reg

theorem pageAt_addr (page : Nat) {off : Nat} (h : off < 4096) : State.pageAt (page * 4096 + off) = page := by
  unfold State.pageAt
  omega

theorem offAt_addr (page : Nat) {off : Nat} (h : off < 4096) (h4 : off % 4 = 0) : State.offAt (page * 4096 + off) = off := by
  unfold State.offAt
  omega

theorem page_lt_of_kind {p : Nat} {k : PageKind} (h : pageKind p = some k) : p < 0x3800 := by
  unfold pageKind at h
  split_ifs at h <;> omega

theorem reaches_parts {s : State} {o : Origin} {page : Nat} (h : Reaches s o page = true) :
    s.pathUp o = true ∧ (∃ k, pageKind page = some k) ∧ s.pageOn page = true := by
  unfold Reaches at h
  simp only [Bool.and_eq_true, Option.isSome_iff_exists] at h
  exact ⟨h.1.1, h.1.2, h.2⟩

/-- A page answers every write without Unsupported Request. -/
theorem pageWrite_ur (s : State) (page : Nat) (o : Origin) (off w : Nat) (be : BitVec 4) : (s.pageWrite page o off w be).ur = false := by
  unfold State.pageWrite State.wordWritten
  dsimp only
  repeat' split
  all_goals rfl

/-- A write of one word that reaches its page is the page's. -/
theorem writeRequest_reaches {s : State} {o : Origin} {page off : Nat} {w : Word} {be : BitVec 4} (h : Reaches s o page = true)
    (hoff : off < 4096) (h4 : off % 4 = 0) :
    s.writeRequest o (page * 4096 + off) [{ data := w, be := be }] = (s.pageWrite page o off w.toNat be).st := by
  obtain ⟨hp, ⟨k, hk⟩, hon⟩ := reaches_parts h
  simp [State.writeRequest, hp, State.writeWords, State.busWrite, pageAt_addr page hoff, offAt_addr page hoff h4,
    pageWindow_of_kind hk, hk, hon, pageWrite_ur]

theorem inAperture_reaches {s : State} {o : Origin} {page off : Nat} (h : Reaches s o page = true) (hoff : off < 4096) (h4 : off % 4 = 0) :
    State.inAperture (page * 4096 + off) 1 = true := by
  obtain ⟨_, ⟨k, hk⟩, _⟩ := reaches_parts h
  have := page_lt_of_kind hk
  simp [State.inAperture]
  omega

theorem isPage_reaches {s : State} {o : Origin} {page : Nat} (h : Reaches s o page = true) : isPage page = true := by
  obtain ⟨_, ⟨k, hk⟩, _⟩ := reaches_parts h
  have := page_lt_of_kind hk
  simp [isPage]
  omega

/-- What an accepted write tells. -/
theorem accepts_parts {s : State} {o : Origin} {page off : Nat} {w : Word} (h : Accepts s o page off w = true) :
    Reaches s o page = true ∧ s.expertState page ≠ 1 ∧ s.observes o = false ∧ off ≠ 0x0F0 ∧
    s.checkerDrops page off w.toNat = false ∧ State.assigned page off = true ∧
    (off < 0x800 ∨ s.expertOpen page o = true) ∧ s.pageGuard page o off w.toNat = none := by
  unfold Accepts at h
  simpa only [Bool.and_eq_true, Bool.or_eq_true, decide_eq_true_eq, Bool.not_eq_true', ne_eq, Option.isNone_iff_eq_none, and_assoc] using h

/-- An accepted write is what the register's fields and its page make of it. -/
theorem writeReg_accepted {s : State} {o : Origin} {page off : Nat} {w : Word} (h : Accepts s o page off w = true) (hoff : off < 4096)
    (h4 : off % 4 = 0) :
    s.writeReg o page off w =
      (forEach ((s.beforeWrite page off).storedFields page off) (State.storeField page o off w.toNat)
        (s.beforeWrite page off)).pageWritten (s.beforeWrite page off) page o off w.toNat := by
  obtain ⟨hr, he, ho, hf, hc, ha, hx, hg⟩ := accepts_parts h
  have hx' : ¬(0x800 ≤ off ∧ s.expertOpen page o = false) := by
    rintro ⟨h1, h2⟩
    rcases hx with h | h
    · omega
    · rw [h] at h2; cases h2
  unfold State.writeReg
  rw [writeRequest_reaches hr hoff h4]
  simp [State.pageWrite, he, ho, hf, hc, ha, hx', State.wordWritten, hg]

end Sys2Proof.Machine
end

