-- ==== Sys2Proof/Laws/Shared.lean ====
section
/-! SUPPORT. What the shared operations leave alone: capturing an error (R56), recording an access fault (R61), warning (R561), sending a
Ply frame (R543), recording an event (R531), a fatal detection (R560), and an entry of the spare ledger (R565). -/

namespace Sys2Proof.Machine

set_option linter.unusedTactic false
set_option linter.unreachableTactic false

variable (s : State)

@[simp] theorem State.capture_pending (page code : Nat) (o : Origin) (off : Nat) : (s.capture page code o off).pending = s.pending := by
  unfold State.capture
  try dsimp only
  repeat' split
  all_goals simp
@[simp] theorem State.capture_hub (page code : Nat) (o : Origin) (off : Nat) : (s.capture page code o off).hub = s.hub := by
  unfold State.capture
  try dsimp only
  repeat' split
  all_goals simp
@[simp] theorem State.capture_events (page code : Nat) (o : Origin) (off : Nat) : (s.capture page code o off).events = s.events := by
  unfold State.capture
  try dsimp only
  repeat' split
  all_goals simp
@[simp] theorem State.capture_safety (page code : Nat) (o : Origin) (off : Nat) : (s.capture page code o off).safety = s.safety := by
  unfold State.capture
  try dsimp only
  repeat' split
  all_goals simp
@[simp] theorem State.capture_fabric (page code : Nat) (o : Origin) (off : Nat) : (s.capture page code o off).fabric = s.fabric := by
  unfold State.capture
  try dsimp only
  repeat' split
  all_goals simp
@[simp] theorem State.capture_link (page code : Nat) (o : Origin) (off : Nat) : (s.capture page code o off).link = s.link := by
  unfold State.capture
  try dsimp only
  repeat' split
  all_goals simp
@[simp] theorem State.capture_span (page code : Nat) (o : Origin) (off : Nat) : (s.capture page code o off).span = s.span := by
  unfold State.capture
  try dsimp only
  repeat' split
  all_goals simp
@[simp] theorem State.capture_mem (page code : Nat) (o : Origin) (off : Nat) : (s.capture page code o off).mem = s.mem := by
  unfold State.capture
  try dsimp only
  repeat' split
  all_goals simp
@[simp] theorem State.capture_dsp (page code : Nat) (o : Origin) (off : Nat) : (s.capture page code o off).dsp = s.dsp := by
  unfold State.capture
  try dsimp only
  repeat' split
  all_goals simp
@[simp] theorem State.capture_eng (page code : Nat) (o : Origin) (off : Nat) : (s.capture page code o off).eng = s.eng := by
  unfold State.capture
  try dsimp only
  repeat' split
  all_goals simp
@[simp] theorem State.capture_skein (page code : Nat) (o : Origin) (off : Nat) : (s.capture page code o off).skein = s.skein := by
  unfold State.capture
  try dsimp only
  repeat' split
  all_goals simp
@[simp] theorem State.capture_lanes (page code : Nat) (o : Origin) (off : Nat) : (s.capture page code o off).lanes = s.lanes := by
  unfold State.capture
  try dsimp only
  repeat' split
  all_goals simp
@[simp] theorem State.capture_ddr (page code : Nat) (o : Origin) (off : Nat) : (s.capture page code o off).ddr = s.ddr := by
  unfold State.capture
  try dsimp only
  repeat' split
  all_goals simp
@[simp] theorem State.capture_crypto (page code : Nat) (o : Origin) (off : Nat) : (s.capture page code o off).crypto = s.crypto := by
  unfold State.capture
  try dsimp only
  repeat' split
  all_goals simp
@[simp] theorem State.capture_boot (page code : Nat) (o : Origin) (off : Nat) : (s.capture page code o off).boot = s.boot := by
  unfold State.capture
  try dsimp only
  repeat' split
  all_goals simp
@[simp] theorem State.capture_clock (page code : Nat) (o : Origin) (off : Nat) : (s.capture page code o off).clock = s.clock := by
  unfold State.capture
  try dsimp only
  repeat' split
  all_goals simp
@[simp] theorem State.capture_power (page code : Nat) (o : Origin) (off : Nat) : (s.capture page code o off).power = s.power := by
  unfold State.capture
  try dsimp only
  repeat' split
  all_goals simp
@[simp] theorem State.capture_resets (page code : Nat) (o : Origin) (off : Nat) : (s.capture page code o off).resets = s.resets := by
  unfold State.capture
  try dsimp only
  repeat' split
  all_goals simp
@[simp] theorem State.capture_dbg (page code : Nat) (o : Origin) (off : Nat) : (s.capture page code o off).dbg = s.dbg := by
  unfold State.capture
  try dsimp only
  repeat' split
  all_goals simp
@[simp] theorem State.capture_ply (page code : Nat) (o : Origin) (off : Nat) : (s.capture page code o off).ply = s.ply := by
  unfold State.capture
  try dsimp only
  repeat' split
  all_goals simp

@[simp] theorem State.accessFault_pending (o : Origin) (page : Nat) (w u : Bool) : (s.accessFault o page w u).pending = s.pending := by
  unfold State.accessFault
  try dsimp only
  repeat' split
  all_goals simp
@[simp] theorem State.accessFault_fresh (o : Origin) (page : Nat) (w u : Bool) : (s.accessFault o page w u).fresh = s.fresh := by
  unfold State.accessFault
  try dsimp only
  repeat' split
  all_goals simp
@[simp] theorem State.accessFault_hub (o : Origin) (page : Nat) (w u : Bool) : (s.accessFault o page w u).hub = s.hub := by
  unfold State.accessFault
  try dsimp only
  repeat' split
  all_goals simp
@[simp] theorem State.accessFault_events (o : Origin) (page : Nat) (w u : Bool) : (s.accessFault o page w u).events = s.events := by
  unfold State.accessFault
  try dsimp only
  repeat' split
  all_goals simp
@[simp] theorem State.accessFault_safety (o : Origin) (page : Nat) (w u : Bool) : (s.accessFault o page w u).safety = s.safety := by
  unfold State.accessFault
  try dsimp only
  repeat' split
  all_goals simp
@[simp] theorem State.accessFault_fabric (o : Origin) (page : Nat) (w u : Bool) : (s.accessFault o page w u).fabric = s.fabric := by
  unfold State.accessFault
  try dsimp only
  repeat' split
  all_goals simp
@[simp] theorem State.accessFault_link (o : Origin) (page : Nat) (w u : Bool) : (s.accessFault o page w u).link = s.link := by
  unfold State.accessFault
  try dsimp only
  repeat' split
  all_goals simp
@[simp] theorem State.accessFault_span (o : Origin) (page : Nat) (w u : Bool) : (s.accessFault o page w u).span = s.span := by
  unfold State.accessFault
  try dsimp only
  repeat' split
  all_goals simp
@[simp] theorem State.accessFault_mem (o : Origin) (page : Nat) (w u : Bool) : (s.accessFault o page w u).mem = s.mem := by
  unfold State.accessFault
  try dsimp only
  repeat' split
  all_goals simp
@[simp] theorem State.accessFault_dsp (o : Origin) (page : Nat) (w u : Bool) : (s.accessFault o page w u).dsp = s.dsp := by
  unfold State.accessFault
  try dsimp only
  repeat' split
  all_goals simp
@[simp] theorem State.accessFault_eng (o : Origin) (page : Nat) (w u : Bool) : (s.accessFault o page w u).eng = s.eng := by
  unfold State.accessFault
  try dsimp only
  repeat' split
  all_goals simp
@[simp] theorem State.accessFault_skein (o : Origin) (page : Nat) (w u : Bool) : (s.accessFault o page w u).skein = s.skein := by
  unfold State.accessFault
  try dsimp only
  repeat' split
  all_goals simp
@[simp] theorem State.accessFault_lanes (o : Origin) (page : Nat) (w u : Bool) : (s.accessFault o page w u).lanes = s.lanes := by
  unfold State.accessFault
  try dsimp only
  repeat' split
  all_goals simp
@[simp] theorem State.accessFault_ddr (o : Origin) (page : Nat) (w u : Bool) : (s.accessFault o page w u).ddr = s.ddr := by
  unfold State.accessFault
  try dsimp only
  repeat' split
  all_goals simp
@[simp] theorem State.accessFault_crypto (o : Origin) (page : Nat) (w u : Bool) : (s.accessFault o page w u).crypto = s.crypto := by
  unfold State.accessFault
  try dsimp only
  repeat' split
  all_goals simp
@[simp] theorem State.accessFault_boot (o : Origin) (page : Nat) (w u : Bool) : (s.accessFault o page w u).boot = s.boot := by
  unfold State.accessFault
  try dsimp only
  repeat' split
  all_goals simp
@[simp] theorem State.accessFault_clock (o : Origin) (page : Nat) (w u : Bool) : (s.accessFault o page w u).clock = s.clock := by
  unfold State.accessFault
  try dsimp only
  repeat' split
  all_goals simp
@[simp] theorem State.accessFault_power (o : Origin) (page : Nat) (w u : Bool) : (s.accessFault o page w u).power = s.power := by
  unfold State.accessFault
  try dsimp only
  repeat' split
  all_goals simp
@[simp] theorem State.accessFault_resets (o : Origin) (page : Nat) (w u : Bool) : (s.accessFault o page w u).resets = s.resets := by
  unfold State.accessFault
  try dsimp only
  repeat' split
  all_goals simp
@[simp] theorem State.accessFault_dbg (o : Origin) (page : Nat) (w u : Bool) : (s.accessFault o page w u).dbg = s.dbg := by
  unfold State.accessFault
  try dsimp only
  repeat' split
  all_goals simp
@[simp] theorem State.accessFault_ply (o : Origin) (page : Nat) (w u : Bool) : (s.accessFault o page w u).ply = s.ply := by
  unfold State.accessFault
  try dsimp only
  repeat' split
  all_goals simp

@[simp] theorem State.warn_pending (f : RegField) : (s.warn f).pending = s.pending := by
  unfold State.warn
  try dsimp only
  repeat' split
  all_goals simp
@[simp] theorem State.warn_fresh (f : RegField) : (s.warn f).fresh = s.fresh := by
  unfold State.warn
  try dsimp only
  repeat' split
  all_goals simp
@[simp] theorem State.warn_hub (f : RegField) : (s.warn f).hub = s.hub := by
  unfold State.warn
  try dsimp only
  repeat' split
  all_goals simp
@[simp] theorem State.warn_events (f : RegField) : (s.warn f).events = s.events := by
  unfold State.warn
  try dsimp only
  repeat' split
  all_goals simp
@[simp] theorem State.warn_safety (f : RegField) : (s.warn f).safety = s.safety := by
  unfold State.warn
  try dsimp only
  repeat' split
  all_goals simp
@[simp] theorem State.warn_fabric (f : RegField) : (s.warn f).fabric = s.fabric := by
  unfold State.warn
  try dsimp only
  repeat' split
  all_goals simp
@[simp] theorem State.warn_link (f : RegField) : (s.warn f).link = s.link := by
  unfold State.warn
  try dsimp only
  repeat' split
  all_goals simp
@[simp] theorem State.warn_span (f : RegField) : (s.warn f).span = s.span := by
  unfold State.warn
  try dsimp only
  repeat' split
  all_goals simp
@[simp] theorem State.warn_mem (f : RegField) : (s.warn f).mem = s.mem := by
  unfold State.warn
  try dsimp only
  repeat' split
  all_goals simp
@[simp] theorem State.warn_dsp (f : RegField) : (s.warn f).dsp = s.dsp := by
  unfold State.warn
  try dsimp only
  repeat' split
  all_goals simp
@[simp] theorem State.warn_eng (f : RegField) : (s.warn f).eng = s.eng := by
  unfold State.warn
  try dsimp only
  repeat' split
  all_goals simp
@[simp] theorem State.warn_skein (f : RegField) : (s.warn f).skein = s.skein := by
  unfold State.warn
  try dsimp only
  repeat' split
  all_goals simp
@[simp] theorem State.warn_lanes (f : RegField) : (s.warn f).lanes = s.lanes := by
  unfold State.warn
  try dsimp only
  repeat' split
  all_goals simp
@[simp] theorem State.warn_ddr (f : RegField) : (s.warn f).ddr = s.ddr := by
  unfold State.warn
  try dsimp only
  repeat' split
  all_goals simp
@[simp] theorem State.warn_crypto (f : RegField) : (s.warn f).crypto = s.crypto := by
  unfold State.warn
  try dsimp only
  repeat' split
  all_goals simp
@[simp] theorem State.warn_boot (f : RegField) : (s.warn f).boot = s.boot := by
  unfold State.warn
  try dsimp only
  repeat' split
  all_goals simp
@[simp] theorem State.warn_clock (f : RegField) : (s.warn f).clock = s.clock := by
  unfold State.warn
  try dsimp only
  repeat' split
  all_goals simp
@[simp] theorem State.warn_power (f : RegField) : (s.warn f).power = s.power := by
  unfold State.warn
  try dsimp only
  repeat' split
  all_goals simp
@[simp] theorem State.warn_resets (f : RegField) : (s.warn f).resets = s.resets := by
  unfold State.warn
  try dsimp only
  repeat' split
  all_goals simp
@[simp] theorem State.warn_dbg (f : RegField) : (s.warn f).dbg = s.dbg := by
  unfold State.warn
  try dsimp only
  repeat' split
  all_goals simp
@[simp] theorem State.warn_ply (f : RegField) : (s.warn f).ply = s.ply := by
  unfold State.warn
  try dsimp only
  repeat' split
  all_goals simp

@[simp] theorem State.plyPumped_pending (p : Nat) (x : PlyPort) : (s.plyPumped p x).pending = s.pending := by
  unfold State.plyPumped
  try dsimp only
  repeat' split
  all_goals simp
@[simp] theorem State.plyPumped_fresh (p : Nat) (x : PlyPort) : (s.plyPumped p x).fresh = s.fresh := by
  unfold State.plyPumped
  try dsimp only
  repeat' split
  all_goals simp
@[simp] theorem State.plyPumped_hub (p : Nat) (x : PlyPort) : (s.plyPumped p x).hub = s.hub := by
  unfold State.plyPumped
  try dsimp only
  repeat' split
  all_goals simp
@[simp] theorem State.plyPumped_events (p : Nat) (x : PlyPort) : (s.plyPumped p x).events = s.events := by
  unfold State.plyPumped
  try dsimp only
  repeat' split
  all_goals simp
@[simp] theorem State.plyPumped_safety (p : Nat) (x : PlyPort) : (s.plyPumped p x).safety = s.safety := by
  unfold State.plyPumped
  try dsimp only
  repeat' split
  all_goals simp
@[simp] theorem State.plyPumped_fabric (p : Nat) (x : PlyPort) : (s.plyPumped p x).fabric = s.fabric := by
  unfold State.plyPumped
  try dsimp only
  repeat' split
  all_goals simp
@[simp] theorem State.plyPumped_link (p : Nat) (x : PlyPort) : (s.plyPumped p x).link = s.link := by
  unfold State.plyPumped
  try dsimp only
  repeat' split
  all_goals simp
@[simp] theorem State.plyPumped_span (p : Nat) (x : PlyPort) : (s.plyPumped p x).span = s.span := by
  unfold State.plyPumped
  try dsimp only
  repeat' split
  all_goals simp
@[simp] theorem State.plyPumped_mem (p : Nat) (x : PlyPort) : (s.plyPumped p x).mem = s.mem := by
  unfold State.plyPumped
  try dsimp only
  repeat' split
  all_goals simp
@[simp] theorem State.plyPumped_dsp (p : Nat) (x : PlyPort) : (s.plyPumped p x).dsp = s.dsp := by
  unfold State.plyPumped
  try dsimp only
  repeat' split
  all_goals simp
@[simp] theorem State.plyPumped_eng (p : Nat) (x : PlyPort) : (s.plyPumped p x).eng = s.eng := by
  unfold State.plyPumped
  try dsimp only
  repeat' split
  all_goals simp
@[simp] theorem State.plyPumped_skein (p : Nat) (x : PlyPort) : (s.plyPumped p x).skein = s.skein := by
  unfold State.plyPumped
  try dsimp only
  repeat' split
  all_goals simp
@[simp] theorem State.plyPumped_lanes (p : Nat) (x : PlyPort) : (s.plyPumped p x).lanes = s.lanes := by
  unfold State.plyPumped
  try dsimp only
  repeat' split
  all_goals simp
@[simp] theorem State.plyPumped_ddr (p : Nat) (x : PlyPort) : (s.plyPumped p x).ddr = s.ddr := by
  unfold State.plyPumped
  try dsimp only
  repeat' split
  all_goals simp
@[simp] theorem State.plyPumped_crypto (p : Nat) (x : PlyPort) : (s.plyPumped p x).crypto = s.crypto := by
  unfold State.plyPumped
  try dsimp only
  repeat' split
  all_goals simp
@[simp] theorem State.plyPumped_boot (p : Nat) (x : PlyPort) : (s.plyPumped p x).boot = s.boot := by
  unfold State.plyPumped
  try dsimp only
  repeat' split
  all_goals simp
@[simp] theorem State.plyPumped_clock (p : Nat) (x : PlyPort) : (s.plyPumped p x).clock = s.clock := by
  unfold State.plyPumped
  try dsimp only
  repeat' split
  all_goals simp
@[simp] theorem State.plyPumped_power (p : Nat) (x : PlyPort) : (s.plyPumped p x).power = s.power := by
  unfold State.plyPumped
  try dsimp only
  repeat' split
  all_goals simp
@[simp] theorem State.plyPumped_resets (p : Nat) (x : PlyPort) : (s.plyPumped p x).resets = s.resets := by
  unfold State.plyPumped
  try dsimp only
  repeat' split
  all_goals simp
@[simp] theorem State.plyPumped_dbg (p : Nat) (x : PlyPort) : (s.plyPumped p x).dbg = s.dbg := by
  unfold State.plyPumped
  try dsimp only
  repeat' split
  all_goals simp

@[simp] theorem State.plyOn_pending (p : Nat) (f : PlyFrame) : (s.plyOn p f).pending = s.pending := by
  unfold State.plyOn
  try dsimp only
  repeat' split
  all_goals simp
@[simp] theorem State.plyOn_fresh (p : Nat) (f : PlyFrame) : (s.plyOn p f).fresh = s.fresh := by
  unfold State.plyOn
  try dsimp only
  repeat' split
  all_goals simp
@[simp] theorem State.plyOn_hub (p : Nat) (f : PlyFrame) : (s.plyOn p f).hub = s.hub := by
  unfold State.plyOn
  try dsimp only
  repeat' split
  all_goals simp
@[simp] theorem State.plyOn_events (p : Nat) (f : PlyFrame) : (s.plyOn p f).events = s.events := by
  unfold State.plyOn
  try dsimp only
  repeat' split
  all_goals simp
@[simp] theorem State.plyOn_safety (p : Nat) (f : PlyFrame) : (s.plyOn p f).safety = s.safety := by
  unfold State.plyOn
  try dsimp only
  repeat' split
  all_goals simp
@[simp] theorem State.plyOn_fabric (p : Nat) (f : PlyFrame) : (s.plyOn p f).fabric = s.fabric := by
  unfold State.plyOn
  try dsimp only
  repeat' split
  all_goals simp
@[simp] theorem State.plyOn_link (p : Nat) (f : PlyFrame) : (s.plyOn p f).link = s.link := by
  unfold State.plyOn
  try dsimp only
  repeat' split
  all_goals simp
@[simp] theorem State.plyOn_span (p : Nat) (f : PlyFrame) : (s.plyOn p f).span = s.span := by
  unfold State.plyOn
  try dsimp only
  repeat' split
  all_goals simp
@[simp] theorem State.plyOn_mem (p : Nat) (f : PlyFrame) : (s.plyOn p f).mem = s.mem := by
  unfold State.plyOn
  try dsimp only
  repeat' split
  all_goals simp
@[simp] theorem State.plyOn_dsp (p : Nat) (f : PlyFrame) : (s.plyOn p f).dsp = s.dsp := by
  unfold State.plyOn
  try dsimp only
  repeat' split
  all_goals simp
@[simp] theorem State.plyOn_eng (p : Nat) (f : PlyFrame) : (s.plyOn p f).eng = s.eng := by
  unfold State.plyOn
  try dsimp only
  repeat' split
  all_goals simp
@[simp] theorem State.plyOn_skein (p : Nat) (f : PlyFrame) : (s.plyOn p f).skein = s.skein := by
  unfold State.plyOn
  try dsimp only
  repeat' split
  all_goals simp
@[simp] theorem State.plyOn_lanes (p : Nat) (f : PlyFrame) : (s.plyOn p f).lanes = s.lanes := by
  unfold State.plyOn
  try dsimp only
  repeat' split
  all_goals simp
@[simp] theorem State.plyOn_ddr (p : Nat) (f : PlyFrame) : (s.plyOn p f).ddr = s.ddr := by
  unfold State.plyOn
  try dsimp only
  repeat' split
  all_goals simp
@[simp] theorem State.plyOn_crypto (p : Nat) (f : PlyFrame) : (s.plyOn p f).crypto = s.crypto := by
  unfold State.plyOn
  try dsimp only
  repeat' split
  all_goals simp
@[simp] theorem State.plyOn_boot (p : Nat) (f : PlyFrame) : (s.plyOn p f).boot = s.boot := by
  unfold State.plyOn
  try dsimp only
  repeat' split
  all_goals simp
@[simp] theorem State.plyOn_clock (p : Nat) (f : PlyFrame) : (s.plyOn p f).clock = s.clock := by
  unfold State.plyOn
  try dsimp only
  repeat' split
  all_goals simp
@[simp] theorem State.plyOn_power (p : Nat) (f : PlyFrame) : (s.plyOn p f).power = s.power := by
  unfold State.plyOn
  try dsimp only
  repeat' split
  all_goals simp
@[simp] theorem State.plyOn_resets (p : Nat) (f : PlyFrame) : (s.plyOn p f).resets = s.resets := by
  unfold State.plyOn
  try dsimp only
  repeat' split
  all_goals simp
@[simp] theorem State.plyOn_dbg (p : Nat) (f : PlyFrame) : (s.plyOn p f).dbg = s.dbg := by
  unfold State.plyOn
  try dsimp only
  repeat' split
  all_goals simp

@[simp] theorem State.plySend_pending (p : Nat) (f : PlyFrame) : (s.plySend p f).pending = s.pending := by
  unfold State.plySend
  try dsimp only
  repeat' split
  all_goals simp
@[simp] theorem State.plySend_fresh (p : Nat) (f : PlyFrame) : (s.plySend p f).fresh = s.fresh := by
  unfold State.plySend
  try dsimp only
  repeat' split
  all_goals simp
@[simp] theorem State.plySend_hub (p : Nat) (f : PlyFrame) : (s.plySend p f).hub = s.hub := by
  unfold State.plySend
  try dsimp only
  repeat' split
  all_goals simp
@[simp] theorem State.plySend_events (p : Nat) (f : PlyFrame) : (s.plySend p f).events = s.events := by
  unfold State.plySend
  try dsimp only
  repeat' split
  all_goals simp
@[simp] theorem State.plySend_safety (p : Nat) (f : PlyFrame) : (s.plySend p f).safety = s.safety := by
  unfold State.plySend
  try dsimp only
  repeat' split
  all_goals simp
@[simp] theorem State.plySend_fabric (p : Nat) (f : PlyFrame) : (s.plySend p f).fabric = s.fabric := by
  unfold State.plySend
  try dsimp only
  repeat' split
  all_goals simp
@[simp] theorem State.plySend_link (p : Nat) (f : PlyFrame) : (s.plySend p f).link = s.link := by
  unfold State.plySend
  try dsimp only
  repeat' split
  all_goals simp
@[simp] theorem State.plySend_span (p : Nat) (f : PlyFrame) : (s.plySend p f).span = s.span := by
  unfold State.plySend
  try dsimp only
  repeat' split
  all_goals simp
@[simp] theorem State.plySend_mem (p : Nat) (f : PlyFrame) : (s.plySend p f).mem = s.mem := by
  unfold State.plySend
  try dsimp only
  repeat' split
  all_goals simp
@[simp] theorem State.plySend_dsp (p : Nat) (f : PlyFrame) : (s.plySend p f).dsp = s.dsp := by
  unfold State.plySend
  try dsimp only
  repeat' split
  all_goals simp
@[simp] theorem State.plySend_eng (p : Nat) (f : PlyFrame) : (s.plySend p f).eng = s.eng := by
  unfold State.plySend
  try dsimp only
  repeat' split
  all_goals simp
@[simp] theorem State.plySend_skein (p : Nat) (f : PlyFrame) : (s.plySend p f).skein = s.skein := by
  unfold State.plySend
  try dsimp only
  repeat' split
  all_goals simp
@[simp] theorem State.plySend_lanes (p : Nat) (f : PlyFrame) : (s.plySend p f).lanes = s.lanes := by
  unfold State.plySend
  try dsimp only
  repeat' split
  all_goals simp
@[simp] theorem State.plySend_ddr (p : Nat) (f : PlyFrame) : (s.plySend p f).ddr = s.ddr := by
  unfold State.plySend
  try dsimp only
  repeat' split
  all_goals simp
@[simp] theorem State.plySend_crypto (p : Nat) (f : PlyFrame) : (s.plySend p f).crypto = s.crypto := by
  unfold State.plySend
  try dsimp only
  repeat' split
  all_goals simp
@[simp] theorem State.plySend_boot (p : Nat) (f : PlyFrame) : (s.plySend p f).boot = s.boot := by
  unfold State.plySend
  try dsimp only
  repeat' split
  all_goals simp
@[simp] theorem State.plySend_clock (p : Nat) (f : PlyFrame) : (s.plySend p f).clock = s.clock := by
  unfold State.plySend
  try dsimp only
  repeat' split
  all_goals simp
@[simp] theorem State.plySend_power (p : Nat) (f : PlyFrame) : (s.plySend p f).power = s.power := by
  unfold State.plySend
  try dsimp only
  repeat' split
  all_goals simp
@[simp] theorem State.plySend_resets (p : Nat) (f : PlyFrame) : (s.plySend p f).resets = s.resets := by
  unfold State.plySend
  try dsimp only
  repeat' split
  all_goals simp
@[simp] theorem State.plySend_dbg (p : Nat) (f : PlyFrame) : (s.plySend p f).dbg = s.dbg := by
  unfold State.plySend
  try dsimp only
  repeat' split
  all_goals simp

@[simp] theorem State.plyReport_pending (r : EvRec) : (s.plyReport r).pending = s.pending := by
  unfold State.plyReport
  try dsimp only
  repeat' split
  all_goals simp
@[simp] theorem State.plyReport_fresh (r : EvRec) : (s.plyReport r).fresh = s.fresh := by
  unfold State.plyReport
  try dsimp only
  repeat' split
  all_goals simp
@[simp] theorem State.plyReport_hub (r : EvRec) : (s.plyReport r).hub = s.hub := by
  unfold State.plyReport
  try dsimp only
  repeat' split
  all_goals simp
@[simp] theorem State.plyReport_events (r : EvRec) : (s.plyReport r).events = s.events := by
  unfold State.plyReport
  try dsimp only
  repeat' split
  all_goals simp
@[simp] theorem State.plyReport_safety (r : EvRec) : (s.plyReport r).safety = s.safety := by
  unfold State.plyReport
  try dsimp only
  repeat' split
  all_goals simp
@[simp] theorem State.plyReport_fabric (r : EvRec) : (s.plyReport r).fabric = s.fabric := by
  unfold State.plyReport
  try dsimp only
  repeat' split
  all_goals simp
@[simp] theorem State.plyReport_link (r : EvRec) : (s.plyReport r).link = s.link := by
  unfold State.plyReport
  try dsimp only
  repeat' split
  all_goals simp
@[simp] theorem State.plyReport_span (r : EvRec) : (s.plyReport r).span = s.span := by
  unfold State.plyReport
  try dsimp only
  repeat' split
  all_goals simp
@[simp] theorem State.plyReport_mem (r : EvRec) : (s.plyReport r).mem = s.mem := by
  unfold State.plyReport
  try dsimp only
  repeat' split
  all_goals simp
@[simp] theorem State.plyReport_dsp (r : EvRec) : (s.plyReport r).dsp = s.dsp := by
  unfold State.plyReport
  try dsimp only
  repeat' split
  all_goals simp
@[simp] theorem State.plyReport_eng (r : EvRec) : (s.plyReport r).eng = s.eng := by
  unfold State.plyReport
  try dsimp only
  repeat' split
  all_goals simp
@[simp] theorem State.plyReport_skein (r : EvRec) : (s.plyReport r).skein = s.skein := by
  unfold State.plyReport
  try dsimp only
  repeat' split
  all_goals simp
@[simp] theorem State.plyReport_lanes (r : EvRec) : (s.plyReport r).lanes = s.lanes := by
  unfold State.plyReport
  try dsimp only
  repeat' split
  all_goals simp
@[simp] theorem State.plyReport_ddr (r : EvRec) : (s.plyReport r).ddr = s.ddr := by
  unfold State.plyReport
  try dsimp only
  repeat' split
  all_goals simp
@[simp] theorem State.plyReport_crypto (r : EvRec) : (s.plyReport r).crypto = s.crypto := by
  unfold State.plyReport
  try dsimp only
  repeat' split
  all_goals simp
@[simp] theorem State.plyReport_boot (r : EvRec) : (s.plyReport r).boot = s.boot := by
  unfold State.plyReport
  try dsimp only
  repeat' split
  all_goals simp
@[simp] theorem State.plyReport_clock (r : EvRec) : (s.plyReport r).clock = s.clock := by
  unfold State.plyReport
  try dsimp only
  repeat' split
  all_goals simp
@[simp] theorem State.plyReport_power (r : EvRec) : (s.plyReport r).power = s.power := by
  unfold State.plyReport
  try dsimp only
  repeat' split
  all_goals simp
@[simp] theorem State.plyReport_resets (r : EvRec) : (s.plyReport r).resets = s.resets := by
  unfold State.plyReport
  try dsimp only
  repeat' split
  all_goals simp
@[simp] theorem State.plyReport_dbg (r : EvRec) : (s.plyReport r).dbg = s.dbg := by
  unfold State.plyReport
  try dsimp only
  repeat' split
  all_goals simp

@[simp] theorem State.stageRec_pending (c v n p : Nat) (w : Bool) (b : List Byte) : (s.stageRec c v n p w b).pending = s.pending := by
  unfold State.stageRec
  try dsimp only
  repeat' split
  all_goals simp
@[simp] theorem State.stageRec_fresh (c v n p : Nat) (w : Bool) (b : List Byte) : (s.stageRec c v n p w b).fresh = s.fresh := by
  unfold State.stageRec
  try dsimp only
  repeat' split
  all_goals simp
@[simp] theorem State.stageRec_hub (c v n p : Nat) (w : Bool) (b : List Byte) : (s.stageRec c v n p w b).hub = s.hub := by
  unfold State.stageRec
  try dsimp only
  repeat' split
  all_goals simp
@[simp] theorem State.stageRec_safety (c v n p : Nat) (w : Bool) (b : List Byte) : (s.stageRec c v n p w b).safety = s.safety := by
  unfold State.stageRec
  try dsimp only
  repeat' split
  all_goals simp
@[simp] theorem State.stageRec_fabric (c v n p : Nat) (w : Bool) (b : List Byte) : (s.stageRec c v n p w b).fabric = s.fabric := by
  unfold State.stageRec
  try dsimp only
  repeat' split
  all_goals simp
@[simp] theorem State.stageRec_link (c v n p : Nat) (w : Bool) (b : List Byte) : (s.stageRec c v n p w b).link = s.link := by
  unfold State.stageRec
  try dsimp only
  repeat' split
  all_goals simp
@[simp] theorem State.stageRec_span (c v n p : Nat) (w : Bool) (b : List Byte) : (s.stageRec c v n p w b).span = s.span := by
  unfold State.stageRec
  try dsimp only
  repeat' split
  all_goals simp
@[simp] theorem State.stageRec_mem (c v n p : Nat) (w : Bool) (b : List Byte) : (s.stageRec c v n p w b).mem = s.mem := by
  unfold State.stageRec
  try dsimp only
  repeat' split
  all_goals simp
@[simp] theorem State.stageRec_dsp (c v n p : Nat) (w : Bool) (b : List Byte) : (s.stageRec c v n p w b).dsp = s.dsp := by
  unfold State.stageRec
  try dsimp only
  repeat' split
  all_goals simp
@[simp] theorem State.stageRec_eng (c v n p : Nat) (w : Bool) (b : List Byte) : (s.stageRec c v n p w b).eng = s.eng := by
  unfold State.stageRec
  try dsimp only
  repeat' split
  all_goals simp
@[simp] theorem State.stageRec_skein (c v n p : Nat) (w : Bool) (b : List Byte) : (s.stageRec c v n p w b).skein = s.skein := by
  unfold State.stageRec
  try dsimp only
  repeat' split
  all_goals simp
@[simp] theorem State.stageRec_lanes (c v n p : Nat) (w : Bool) (b : List Byte) : (s.stageRec c v n p w b).lanes = s.lanes := by
  unfold State.stageRec
  try dsimp only
  repeat' split
  all_goals simp
@[simp] theorem State.stageRec_ddr (c v n p : Nat) (w : Bool) (b : List Byte) : (s.stageRec c v n p w b).ddr = s.ddr := by
  unfold State.stageRec
  try dsimp only
  repeat' split
  all_goals simp
@[simp] theorem State.stageRec_crypto (c v n p : Nat) (w : Bool) (b : List Byte) : (s.stageRec c v n p w b).crypto = s.crypto := by
  unfold State.stageRec
  try dsimp only
  repeat' split
  all_goals simp
@[simp] theorem State.stageRec_boot (c v n p : Nat) (w : Bool) (b : List Byte) : (s.stageRec c v n p w b).boot = s.boot := by
  unfold State.stageRec
  try dsimp only
  repeat' split
  all_goals simp
@[simp] theorem State.stageRec_clock (c v n p : Nat) (w : Bool) (b : List Byte) : (s.stageRec c v n p w b).clock = s.clock := by
  unfold State.stageRec
  try dsimp only
  repeat' split
  all_goals simp
@[simp] theorem State.stageRec_power (c v n p : Nat) (w : Bool) (b : List Byte) : (s.stageRec c v n p w b).power = s.power := by
  unfold State.stageRec
  try dsimp only
  repeat' split
  all_goals simp
@[simp] theorem State.stageRec_resets (c v n p : Nat) (w : Bool) (b : List Byte) : (s.stageRec c v n p w b).resets = s.resets := by
  unfold State.stageRec
  try dsimp only
  repeat' split
  all_goals simp
@[simp] theorem State.stageRec_dbg (c v n p : Nat) (w : Bool) (b : List Byte) : (s.stageRec c v n p w b).dbg = s.dbg := by
  unfold State.stageRec
  try dsimp only
  repeat' split
  all_goals simp

@[simp] theorem State.storeRec_pending (c v n p : Nat) (w : Bool) (b : List Byte) : (s.storeRec c v n p w b).pending = s.pending := by
  unfold State.storeRec
  try dsimp only
  repeat' split
  all_goals simp
@[simp] theorem State.storeRec_fresh (c v n p : Nat) (w : Bool) (b : List Byte) : (s.storeRec c v n p w b).fresh = s.fresh := by
  unfold State.storeRec
  try dsimp only
  repeat' split
  all_goals simp
@[simp] theorem State.storeRec_hub (c v n p : Nat) (w : Bool) (b : List Byte) : (s.storeRec c v n p w b).hub = s.hub := by
  unfold State.storeRec
  try dsimp only
  repeat' split
  all_goals simp
@[simp] theorem State.storeRec_safety (c v n p : Nat) (w : Bool) (b : List Byte) : (s.storeRec c v n p w b).safety = s.safety := by
  unfold State.storeRec
  try dsimp only
  repeat' split
  all_goals simp
@[simp] theorem State.storeRec_fabric (c v n p : Nat) (w : Bool) (b : List Byte) : (s.storeRec c v n p w b).fabric = s.fabric := by
  unfold State.storeRec
  try dsimp only
  repeat' split
  all_goals simp
@[simp] theorem State.storeRec_link (c v n p : Nat) (w : Bool) (b : List Byte) : (s.storeRec c v n p w b).link = s.link := by
  unfold State.storeRec
  try dsimp only
  repeat' split
  all_goals simp
@[simp] theorem State.storeRec_span (c v n p : Nat) (w : Bool) (b : List Byte) : (s.storeRec c v n p w b).span = s.span := by
  unfold State.storeRec
  try dsimp only
  repeat' split
  all_goals simp
@[simp] theorem State.storeRec_mem (c v n p : Nat) (w : Bool) (b : List Byte) : (s.storeRec c v n p w b).mem = s.mem := by
  unfold State.storeRec
  try dsimp only
  repeat' split
  all_goals simp
@[simp] theorem State.storeRec_dsp (c v n p : Nat) (w : Bool) (b : List Byte) : (s.storeRec c v n p w b).dsp = s.dsp := by
  unfold State.storeRec
  try dsimp only
  repeat' split
  all_goals simp
@[simp] theorem State.storeRec_eng (c v n p : Nat) (w : Bool) (b : List Byte) : (s.storeRec c v n p w b).eng = s.eng := by
  unfold State.storeRec
  try dsimp only
  repeat' split
  all_goals simp
@[simp] theorem State.storeRec_skein (c v n p : Nat) (w : Bool) (b : List Byte) : (s.storeRec c v n p w b).skein = s.skein := by
  unfold State.storeRec
  try dsimp only
  repeat' split
  all_goals simp
@[simp] theorem State.storeRec_lanes (c v n p : Nat) (w : Bool) (b : List Byte) : (s.storeRec c v n p w b).lanes = s.lanes := by
  unfold State.storeRec
  try dsimp only
  repeat' split
  all_goals simp
@[simp] theorem State.storeRec_ddr (c v n p : Nat) (w : Bool) (b : List Byte) : (s.storeRec c v n p w b).ddr = s.ddr := by
  unfold State.storeRec
  try dsimp only
  repeat' split
  all_goals simp
@[simp] theorem State.storeRec_crypto (c v n p : Nat) (w : Bool) (b : List Byte) : (s.storeRec c v n p w b).crypto = s.crypto := by
  unfold State.storeRec
  try dsimp only
  repeat' split
  all_goals simp
@[simp] theorem State.storeRec_boot (c v n p : Nat) (w : Bool) (b : List Byte) : (s.storeRec c v n p w b).boot = s.boot := by
  unfold State.storeRec
  try dsimp only
  repeat' split
  all_goals simp
@[simp] theorem State.storeRec_clock (c v n p : Nat) (w : Bool) (b : List Byte) : (s.storeRec c v n p w b).clock = s.clock := by
  unfold State.storeRec
  try dsimp only
  repeat' split
  all_goals simp
@[simp] theorem State.storeRec_power (c v n p : Nat) (w : Bool) (b : List Byte) : (s.storeRec c v n p w b).power = s.power := by
  unfold State.storeRec
  try dsimp only
  repeat' split
  all_goals simp
@[simp] theorem State.storeRec_resets (c v n p : Nat) (w : Bool) (b : List Byte) : (s.storeRec c v n p w b).resets = s.resets := by
  unfold State.storeRec
  try dsimp only
  repeat' split
  all_goals simp
@[simp] theorem State.storeRec_dbg (c v n p : Nat) (w : Bool) (b : List Byte) : (s.storeRec c v n p w b).dbg = s.dbg := by
  unfold State.storeRec
  try dsimp only
  repeat' split
  all_goals simp

@[simp] theorem State.record_pending (c v n : Nat) (w : Bool) (b : List Byte) : (s.record c v n w b).pending = s.pending := by
  unfold State.record
  try dsimp only
  repeat' split
  all_goals simp
@[simp] theorem State.record_fresh (c v n : Nat) (w : Bool) (b : List Byte) : (s.record c v n w b).fresh = s.fresh := by
  unfold State.record
  try dsimp only
  repeat' split
  all_goals simp
@[simp] theorem State.record_hub (c v n : Nat) (w : Bool) (b : List Byte) : (s.record c v n w b).hub = s.hub := by
  unfold State.record
  try dsimp only
  repeat' split
  all_goals simp
@[simp] theorem State.record_safety (c v n : Nat) (w : Bool) (b : List Byte) : (s.record c v n w b).safety = s.safety := by
  unfold State.record
  try dsimp only
  repeat' split
  all_goals simp
@[simp] theorem State.record_fabric (c v n : Nat) (w : Bool) (b : List Byte) : (s.record c v n w b).fabric = s.fabric := by
  unfold State.record
  try dsimp only
  repeat' split
  all_goals simp
@[simp] theorem State.record_link (c v n : Nat) (w : Bool) (b : List Byte) : (s.record c v n w b).link = s.link := by
  unfold State.record
  try dsimp only
  repeat' split
  all_goals simp
@[simp] theorem State.record_span (c v n : Nat) (w : Bool) (b : List Byte) : (s.record c v n w b).span = s.span := by
  unfold State.record
  try dsimp only
  repeat' split
  all_goals simp
@[simp] theorem State.record_mem (c v n : Nat) (w : Bool) (b : List Byte) : (s.record c v n w b).mem = s.mem := by
  unfold State.record
  try dsimp only
  repeat' split
  all_goals simp
@[simp] theorem State.record_dsp (c v n : Nat) (w : Bool) (b : List Byte) : (s.record c v n w b).dsp = s.dsp := by
  unfold State.record
  try dsimp only
  repeat' split
  all_goals simp
@[simp] theorem State.record_eng (c v n : Nat) (w : Bool) (b : List Byte) : (s.record c v n w b).eng = s.eng := by
  unfold State.record
  try dsimp only
  repeat' split
  all_goals simp
@[simp] theorem State.record_skein (c v n : Nat) (w : Bool) (b : List Byte) : (s.record c v n w b).skein = s.skein := by
  unfold State.record
  try dsimp only
  repeat' split
  all_goals simp
@[simp] theorem State.record_lanes (c v n : Nat) (w : Bool) (b : List Byte) : (s.record c v n w b).lanes = s.lanes := by
  unfold State.record
  try dsimp only
  repeat' split
  all_goals simp
@[simp] theorem State.record_ddr (c v n : Nat) (w : Bool) (b : List Byte) : (s.record c v n w b).ddr = s.ddr := by
  unfold State.record
  try dsimp only
  repeat' split
  all_goals simp
@[simp] theorem State.record_crypto (c v n : Nat) (w : Bool) (b : List Byte) : (s.record c v n w b).crypto = s.crypto := by
  unfold State.record
  try dsimp only
  repeat' split
  all_goals simp
@[simp] theorem State.record_boot (c v n : Nat) (w : Bool) (b : List Byte) : (s.record c v n w b).boot = s.boot := by
  unfold State.record
  try dsimp only
  repeat' split
  all_goals simp
@[simp] theorem State.record_clock (c v n : Nat) (w : Bool) (b : List Byte) : (s.record c v n w b).clock = s.clock := by
  unfold State.record
  try dsimp only
  repeat' split
  all_goals simp
@[simp] theorem State.record_power (c v n : Nat) (w : Bool) (b : List Byte) : (s.record c v n w b).power = s.power := by
  unfold State.record
  try dsimp only
  repeat' split
  all_goals simp
@[simp] theorem State.record_resets (c v n : Nat) (w : Bool) (b : List Byte) : (s.record c v n w b).resets = s.resets := by
  unfold State.record
  try dsimp only
  repeat' split
  all_goals simp
@[simp] theorem State.record_dbg (c v n : Nat) (w : Bool) (b : List Byte) : (s.record c v n w b).dbg = s.dbg := by
  unfold State.record
  try dsimp only
  repeat' split
  all_goals simp

@[simp] theorem State.event_pending (c v p d : Nat) : (s.event c v p d).pending = s.pending := by
  unfold State.event
  try dsimp only
  repeat' split
  all_goals simp
@[simp] theorem State.event_fresh (c v p d : Nat) : (s.event c v p d).fresh = s.fresh := by
  unfold State.event
  try dsimp only
  repeat' split
  all_goals simp
@[simp] theorem State.event_hub (c v p d : Nat) : (s.event c v p d).hub = s.hub := by
  unfold State.event
  try dsimp only
  repeat' split
  all_goals simp
@[simp] theorem State.event_safety (c v p d : Nat) : (s.event c v p d).safety = s.safety := by
  unfold State.event
  try dsimp only
  repeat' split
  all_goals simp
@[simp] theorem State.event_fabric (c v p d : Nat) : (s.event c v p d).fabric = s.fabric := by
  unfold State.event
  try dsimp only
  repeat' split
  all_goals simp
@[simp] theorem State.event_link (c v p d : Nat) : (s.event c v p d).link = s.link := by
  unfold State.event
  try dsimp only
  repeat' split
  all_goals simp
@[simp] theorem State.event_span (c v p d : Nat) : (s.event c v p d).span = s.span := by
  unfold State.event
  try dsimp only
  repeat' split
  all_goals simp
@[simp] theorem State.event_mem (c v p d : Nat) : (s.event c v p d).mem = s.mem := by
  unfold State.event
  try dsimp only
  repeat' split
  all_goals simp
@[simp] theorem State.event_dsp (c v p d : Nat) : (s.event c v p d).dsp = s.dsp := by
  unfold State.event
  try dsimp only
  repeat' split
  all_goals simp
@[simp] theorem State.event_eng (c v p d : Nat) : (s.event c v p d).eng = s.eng := by
  unfold State.event
  try dsimp only
  repeat' split
  all_goals simp
@[simp] theorem State.event_skein (c v p d : Nat) : (s.event c v p d).skein = s.skein := by
  unfold State.event
  try dsimp only
  repeat' split
  all_goals simp
@[simp] theorem State.event_lanes (c v p d : Nat) : (s.event c v p d).lanes = s.lanes := by
  unfold State.event
  try dsimp only
  repeat' split
  all_goals simp
@[simp] theorem State.event_ddr (c v p d : Nat) : (s.event c v p d).ddr = s.ddr := by
  unfold State.event
  try dsimp only
  repeat' split
  all_goals simp
@[simp] theorem State.event_crypto (c v p d : Nat) : (s.event c v p d).crypto = s.crypto := by
  unfold State.event
  try dsimp only
  repeat' split
  all_goals simp
@[simp] theorem State.event_boot (c v p d : Nat) : (s.event c v p d).boot = s.boot := by
  unfold State.event
  try dsimp only
  repeat' split
  all_goals simp
@[simp] theorem State.event_clock (c v p d : Nat) : (s.event c v p d).clock = s.clock := by
  unfold State.event
  try dsimp only
  repeat' split
  all_goals simp
@[simp] theorem State.event_power (c v p d : Nat) : (s.event c v p d).power = s.power := by
  unfold State.event
  try dsimp only
  repeat' split
  all_goals simp
@[simp] theorem State.event_resets (c v p d : Nat) : (s.event c v p d).resets = s.resets := by
  unfold State.event
  try dsimp only
  repeat' split
  all_goals simp
@[simp] theorem State.event_dbg (c v p d : Nat) : (s.event c v p d).dbg = s.dbg := by
  unfold State.event
  try dsimp only
  repeat' split
  all_goals simp

@[simp] theorem State.fatal_pending (f : RegField) (c p : Nat) : (s.fatal f c p).pending = s.pending := by
  unfold State.fatal
  try dsimp only
  repeat' split
  all_goals simp
@[simp] theorem State.fatal_fresh (f : RegField) (c p : Nat) : (s.fatal f c p).fresh = s.fresh := by
  unfold State.fatal
  try dsimp only
  repeat' split
  all_goals simp
@[simp] theorem State.fatal_hub (f : RegField) (c p : Nat) : (s.fatal f c p).hub = s.hub := by
  unfold State.fatal
  try dsimp only
  repeat' split
  all_goals simp
@[simp] theorem State.fatal_events (f : RegField) (c p : Nat) : (s.fatal f c p).events = s.events := by
  unfold State.fatal
  try dsimp only
  repeat' split
  all_goals simp
@[simp] theorem State.fatal_safety (f : RegField) (c p : Nat) : (s.fatal f c p).safety = s.safety := by
  unfold State.fatal
  try dsimp only
  repeat' split
  all_goals simp
@[simp] theorem State.fatal_fabric (f : RegField) (c p : Nat) : (s.fatal f c p).fabric = s.fabric := by
  unfold State.fatal
  try dsimp only
  repeat' split
  all_goals simp
@[simp] theorem State.fatal_link (f : RegField) (c p : Nat) : (s.fatal f c p).link = s.link := by
  unfold State.fatal
  try dsimp only
  repeat' split
  all_goals simp
@[simp] theorem State.fatal_span (f : RegField) (c p : Nat) : (s.fatal f c p).span = s.span := by
  unfold State.fatal
  try dsimp only
  repeat' split
  all_goals simp
@[simp] theorem State.fatal_mem (f : RegField) (c p : Nat) : (s.fatal f c p).mem = s.mem := by
  unfold State.fatal
  try dsimp only
  repeat' split
  all_goals simp
@[simp] theorem State.fatal_dsp (f : RegField) (c p : Nat) : (s.fatal f c p).dsp = s.dsp := by
  unfold State.fatal
  try dsimp only
  repeat' split
  all_goals simp
@[simp] theorem State.fatal_eng (f : RegField) (c p : Nat) : (s.fatal f c p).eng = s.eng := by
  unfold State.fatal
  try dsimp only
  repeat' split
  all_goals simp
@[simp] theorem State.fatal_skein (f : RegField) (c p : Nat) : (s.fatal f c p).skein = s.skein := by
  unfold State.fatal
  try dsimp only
  repeat' split
  all_goals simp
@[simp] theorem State.fatal_lanes (f : RegField) (c p : Nat) : (s.fatal f c p).lanes = s.lanes := by
  unfold State.fatal
  try dsimp only
  repeat' split
  all_goals simp
@[simp] theorem State.fatal_ddr (f : RegField) (c p : Nat) : (s.fatal f c p).ddr = s.ddr := by
  unfold State.fatal
  try dsimp only
  repeat' split
  all_goals simp
@[simp] theorem State.fatal_crypto (f : RegField) (c p : Nat) : (s.fatal f c p).crypto = s.crypto := by
  unfold State.fatal
  try dsimp only
  repeat' split
  all_goals simp
@[simp] theorem State.fatal_boot (f : RegField) (c p : Nat) : (s.fatal f c p).boot = s.boot := by
  unfold State.fatal
  try dsimp only
  repeat' split
  all_goals simp
@[simp] theorem State.fatal_clock (f : RegField) (c p : Nat) : (s.fatal f c p).clock = s.clock := by
  unfold State.fatal
  try dsimp only
  repeat' split
  all_goals simp
@[simp] theorem State.fatal_power (f : RegField) (c p : Nat) : (s.fatal f c p).power = s.power := by
  unfold State.fatal
  try dsimp only
  repeat' split
  all_goals simp
@[simp] theorem State.fatal_resets (f : RegField) (c p : Nat) : (s.fatal f c p).resets = s.resets := by
  unfold State.fatal
  try dsimp only
  repeat' split
  all_goals simp
@[simp] theorem State.fatal_dbg (f : RegField) (c p : Nat) : (s.fatal f c p).dbg = s.dbg := by
  unfold State.fatal
  try dsimp only
  repeat' split
  all_goals simp
@[simp] theorem State.fatal_ply (f : RegField) (c p : Nat) : (s.fatal f c p).ply = s.ply := by
  unfold State.fatal
  try dsimp only
  repeat' split
  all_goals simp

@[simp] theorem State.ledgerUpdate_pending : (s.ledgerUpdate).pending = s.pending := by
  unfold State.ledgerUpdate
  try dsimp only
  repeat' split
  all_goals simp
@[simp] theorem State.ledgerUpdate_fresh : (s.ledgerUpdate).fresh = s.fresh := by
  unfold State.ledgerUpdate
  try dsimp only
  repeat' split
  all_goals simp
@[simp] theorem State.ledgerUpdate_regs : (s.ledgerUpdate).regs = s.regs := by
  unfold State.ledgerUpdate
  try dsimp only
  repeat' split
  all_goals simp
@[simp] theorem State.ledgerUpdate_hub : (s.ledgerUpdate).hub = s.hub := by
  unfold State.ledgerUpdate
  try dsimp only
  repeat' split
  all_goals simp
@[simp] theorem State.ledgerUpdate_events : (s.ledgerUpdate).events = s.events := by
  unfold State.ledgerUpdate
  try dsimp only
  repeat' split
  all_goals simp
@[simp] theorem State.ledgerUpdate_fabric : (s.ledgerUpdate).fabric = s.fabric := by
  unfold State.ledgerUpdate
  try dsimp only
  repeat' split
  all_goals simp
@[simp] theorem State.ledgerUpdate_link : (s.ledgerUpdate).link = s.link := by
  unfold State.ledgerUpdate
  try dsimp only
  repeat' split
  all_goals simp
@[simp] theorem State.ledgerUpdate_span : (s.ledgerUpdate).span = s.span := by
  unfold State.ledgerUpdate
  try dsimp only
  repeat' split
  all_goals simp
@[simp] theorem State.ledgerUpdate_mem : (s.ledgerUpdate).mem = s.mem := by
  unfold State.ledgerUpdate
  try dsimp only
  repeat' split
  all_goals simp
@[simp] theorem State.ledgerUpdate_dsp : (s.ledgerUpdate).dsp = s.dsp := by
  unfold State.ledgerUpdate
  try dsimp only
  repeat' split
  all_goals simp
@[simp] theorem State.ledgerUpdate_eng : (s.ledgerUpdate).eng = s.eng := by
  unfold State.ledgerUpdate
  try dsimp only
  repeat' split
  all_goals simp
@[simp] theorem State.ledgerUpdate_skein : (s.ledgerUpdate).skein = s.skein := by
  unfold State.ledgerUpdate
  try dsimp only
  repeat' split
  all_goals simp
@[simp] theorem State.ledgerUpdate_lanes : (s.ledgerUpdate).lanes = s.lanes := by
  unfold State.ledgerUpdate
  try dsimp only
  repeat' split
  all_goals simp
@[simp] theorem State.ledgerUpdate_ddr : (s.ledgerUpdate).ddr = s.ddr := by
  unfold State.ledgerUpdate
  try dsimp only
  repeat' split
  all_goals simp
@[simp] theorem State.ledgerUpdate_crypto : (s.ledgerUpdate).crypto = s.crypto := by
  unfold State.ledgerUpdate
  try dsimp only
  repeat' split
  all_goals simp
@[simp] theorem State.ledgerUpdate_boot : (s.ledgerUpdate).boot = s.boot := by
  unfold State.ledgerUpdate
  try dsimp only
  repeat' split
  all_goals simp
@[simp] theorem State.ledgerUpdate_clock : (s.ledgerUpdate).clock = s.clock := by
  unfold State.ledgerUpdate
  try dsimp only
  repeat' split
  all_goals simp
@[simp] theorem State.ledgerUpdate_power : (s.ledgerUpdate).power = s.power := by
  unfold State.ledgerUpdate
  try dsimp only
  repeat' split
  all_goals simp
@[simp] theorem State.ledgerUpdate_resets : (s.ledgerUpdate).resets = s.resets := by
  unfold State.ledgerUpdate
  try dsimp only
  repeat' split
  all_goals simp
@[simp] theorem State.ledgerUpdate_dbg : (s.ledgerUpdate).dbg = s.dbg := by
  unfold State.ledgerUpdate
  try dsimp only
  repeat' split
  all_goals simp
@[simp] theorem State.ledgerUpdate_ply : (s.ledgerUpdate).ply = s.ply := by
  unfold State.ledgerUpdate
  try dsimp only
  repeat' split
  all_goals simp

@[simp] theorem State.history_pending (k p l w : Nat) : (s.history k p l w).pending = s.pending := by
  unfold State.history
  try dsimp only
  repeat' split
  all_goals simp
@[simp] theorem State.history_fresh (k p l w : Nat) : (s.history k p l w).fresh = s.fresh := by
  unfold State.history
  try dsimp only
  repeat' split
  all_goals simp
@[simp] theorem State.history_hub (k p l w : Nat) : (s.history k p l w).hub = s.hub := by
  unfold State.history
  try dsimp only
  repeat' split
  all_goals simp
@[simp] theorem State.history_fabric (k p l w : Nat) : (s.history k p l w).fabric = s.fabric := by
  unfold State.history
  try dsimp only
  repeat' split
  all_goals simp
@[simp] theorem State.history_link (k p l w : Nat) : (s.history k p l w).link = s.link := by
  unfold State.history
  try dsimp only
  repeat' split
  all_goals simp
@[simp] theorem State.history_span (k p l w : Nat) : (s.history k p l w).span = s.span := by
  unfold State.history
  try dsimp only
  repeat' split
  all_goals simp
@[simp] theorem State.history_mem (k p l w : Nat) : (s.history k p l w).mem = s.mem := by
  unfold State.history
  try dsimp only
  repeat' split
  all_goals simp
@[simp] theorem State.history_dsp (k p l w : Nat) : (s.history k p l w).dsp = s.dsp := by
  unfold State.history
  try dsimp only
  repeat' split
  all_goals simp
@[simp] theorem State.history_eng (k p l w : Nat) : (s.history k p l w).eng = s.eng := by
  unfold State.history
  try dsimp only
  repeat' split
  all_goals simp
@[simp] theorem State.history_skein (k p l w : Nat) : (s.history k p l w).skein = s.skein := by
  unfold State.history
  try dsimp only
  repeat' split
  all_goals simp
@[simp] theorem State.history_lanes (k p l w : Nat) : (s.history k p l w).lanes = s.lanes := by
  unfold State.history
  try dsimp only
  repeat' split
  all_goals simp
@[simp] theorem State.history_ddr (k p l w : Nat) : (s.history k p l w).ddr = s.ddr := by
  unfold State.history
  try dsimp only
  repeat' split
  all_goals simp
@[simp] theorem State.history_crypto (k p l w : Nat) : (s.history k p l w).crypto = s.crypto := by
  unfold State.history
  try dsimp only
  repeat' split
  all_goals simp
@[simp] theorem State.history_boot (k p l w : Nat) : (s.history k p l w).boot = s.boot := by
  unfold State.history
  try dsimp only
  repeat' split
  all_goals simp
@[simp] theorem State.history_clock (k p l w : Nat) : (s.history k p l w).clock = s.clock := by
  unfold State.history
  try dsimp only
  repeat' split
  all_goals simp
@[simp] theorem State.history_power (k p l w : Nat) : (s.history k p l w).power = s.power := by
  unfold State.history
  try dsimp only
  repeat' split
  all_goals simp
@[simp] theorem State.history_resets (k p l w : Nat) : (s.history k p l w).resets = s.resets := by
  unfold State.history
  try dsimp only
  repeat' split
  all_goals simp
@[simp] theorem State.history_dbg (k p l w : Nat) : (s.history k p l w).dbg = s.dbg := by
  unfold State.history
  try dsimp only
  repeat' split
  all_goals simp

end Sys2Proof.Machine
end

