-- ==== Sys2Proof/Laws/Frames.lean ====
section
/-! SUPPORT. What the shared operations do to the registers: an error changes the error registers of its page (R56), an event of the
recorder the recorder's page and the Ply page, a warning the safety page. -/

namespace Sys2Proof.Machine

open Reg

variable (s : State)

theorem RegsSameBut.refl (keys : List Nat) : RegsSameBut s s keys := fun _ _ _ _ => rfl

theorem RegsSameBut.trans {s t u : State} {a b : List Nat} (h : RegsSameBut s t a) (h' : RegsSameBut t u b) :
    RegsSameBut s u (a ++ b) := by
  intro p f i hk
  rw [List.mem_append, not_or] at hk
  rw [h' p f i hk.2, h p f i hk.1]

theorem RegsSameBut.mono {s t : State} {a b : List Nat} (h : RegsSameBut s t a) (hab : ∀ k ∈ a, k ∈ b) : RegsSameBut s t b :=
  fun p f i hk => h p f i (fun hm => hk (hab _ hm))

/-- A write of a field changes that field alone. -/
theorem RegsSameBut.set (p : Nat) (f : RegField) (v i : Nat) : RegsSameBut s (s.set p f v i) [fieldKey p f i] := by
  intro q g j hk
  exact State.get_set_other s v (by simpa using hk)

/-- Any write within the listed keys. -/
theorem RegsSameBut.set_of_mem {s t : State} {keys : List Nat} (h : RegsSameBut s t keys) (p : Nat) (f : RegField) (v i : Nat)
    (hm : fieldKey p f i ∈ keys) : RegsSameBut s (t.set p f v i) keys := by
  intro q g j hk
  rw [State.get_set_other t v (by intro he; rw [he] at hk; exact hk hm)]
  exact h q g j hk

theorem RegsSameBut.of_regs {s t u : State} {keys : List Nat} (h : RegsSameBut s t keys) (hr : u.regs = t.regs) :
    RegsSameBut s u keys := by
  intro q g j hk
  rw [← h q g j hk]
  simp only [State.get, hr]

/-- An error is counted, and captured or lost (R56). -/
theorem State.capture_captures (page code : Nat) (o : Origin) {off : Nat} (hc : code < 16) (ho : off < 4096) :
    Captures s (s.capture page code o off) page code o off := by
  have ho' : originCode o < 8 := by cases o <;> decide
  have hne : ∀ (f g : RegField), (f.off * 8 + f.lo ≠ g.off * 8 + g.lo) → fieldKey page f 0 ≠ fieldKey page g 0 := by
    intro f g h
    unfold fieldKey
    omega
  unfold Captures State.capture
  by_cases hv : s.flag page Hdr.ERR_CAPTURE_VALID = true
  · simp only [hv, if_true]
    refine ⟨?_, ?_, ?_⟩
    · rw [State.get_set_other _ _ (hne _ _ (by decide)), State.get_count_same]
      simp only [satAdd, Hdr.ERR_COUNT_COUNT, RegField.width]
      omega
    · simp [RegField.width, Hdr.INT_STATUS_ERR_LOST]
    · exact RegsSameBut.set_of_mem (RegsSameBut.set_of_mem (RegsSameBut.refl s _) _ _ _ _ (by simp)) _ _ _ _ (by simp)
  · rw [Bool.not_eq_true] at hv
    simp only [hv]
    rw [if_neg Bool.false_ne_true, if_neg Bool.false_ne_true]
    refine ⟨?_, ⟨?_, ?_, ?_, ?_, ?_⟩, ?_, ?_⟩
    · iterate 6 rw [State.get_set_other _ _ (hne _ _ (by decide))]
      split <;> simp only [State.took_get, State.get_count_same, satAdd, Hdr.ERR_COUNT_COUNT, RegField.width] <;> omega
    · iterate 5 rw [State.get_set_other _ _ (hne _ _ (by decide))]
      rw [State.get_set_same]; rfl
    · iterate 4 rw [State.get_set_other _ _ (hne _ _ (by decide))]
      rw [State.get_set_same]; simp only [Hdr.ERR_CAPTURE_CODE, RegField.width]; omega
    · iterate 3 rw [State.get_set_other _ _ (hne _ _ (by decide))]
      rw [State.get_set_same]; simp only [Hdr.ERR_CAPTURE_ORIGIN, RegField.width]; omega
    · iterate 1 rw [State.get_set_other _ _ (hne _ _ (by decide))]
      rw [State.get_set_same]; simp only [Hdr.ERR_CAPTURE_WORD, RegField.width]; omega
    · intro hlt
      iterate 2 rw [State.get_set_other _ _ (hne _ _ (by decide))]
      rw [State.get_set_same, if_neg (by omega)]
      simp
    · rw [State.get_set_same]; rfl
    · split <;>
      (repeat' apply RegsSameBut.set_of_mem) <;> (try exact RegsSameBut.of_regs (RegsSameBut.set_of_mem (RegsSameBut.refl s _) _ _ _ _ (by simp [errKeys])) rfl) <;>
        (try exact (RegsSameBut.refl s _)) <;> simp [errKeys]

/-- Fields at different places of one page have different keys. -/
theorem fieldKey_ne {p : Nat} {f g : RegField} {i j : Nat}
    (h : (f.off + i * f.stride) * 8 + f.lo ≠ (g.off + j * g.stride) * 8 + g.lo) : fieldKey p f i ≠ fieldKey p g j := by
  unfold fieldKey
  generalize i * f.stride = a at *
  generalize j * g.stride = b at *
  omega

/-- An error of a page changes its error registers alone. -/
theorem State.capture_regs (page code : Nat) (o : Origin) {off : Nat} (hc : code < 16) (ho : off < 4096) :
    RegsSameBut s (s.capture page code o off) (errKeys page) := by
  have h := (State.capture_captures s page code o hc ho).2
  split at h
  · exact RegsSameBut.mono h.2 (by simp [errKeys])
  · exact h.2.2

/-- Fields of other pages, and of a page outside 0x020 to 0x037, are none of its error registers. -/
theorem not_errKeys {p q : Nat} {f : RegField} {i : Nat} (hf : (f.off + i * f.stride) * 8 + f.lo < 32768)
    (h : q ≠ p ∨ (f.off + i * f.stride) * 8 + f.lo < 0x100 ∨ 0x1C0 ≤ (f.off + i * f.stride) * 8 + f.lo) :
    fieldKey q f i ∉ errKeys p := by
  unfold errKeys
  simp only [List.mem_cons, List.not_mem_nil, or_false, fieldKey, Hdr.ERR_COUNT_COUNT, Hdr.INT_STATUS_ERR_LOST,
    Hdr.INT_STATUS_ERR_CAPTURED, Hdr.ERR_CAPTURE_VALID, Hdr.ERR_CAPTURE_CODE, Hdr.ERR_CAPTURE_ORIGIN, Hdr.ERR_CAPTURE_DETAIL,
    Hdr.ERR_CAPTURE_WORD]
  generalize i * f.stride = a at *
  omega

theorem State.capture_get {page code : Nat} {o : Origin} {off q : Nat} {f : RegField} {i : Nat} (hc : code < 16) (ho : off < 4096)
    (hf : (f.off + i * f.stride) * 8 + f.lo < 32768)
    (h : q ≠ page ∨ (f.off + i * f.stride) * 8 + f.lo < 0x100 ∨ 0x1C0 ≤ (f.off + i * f.stride) * 8 + f.lo) :
    (s.capture page code o off).get q f i = s.get q f i :=
  State.capture_regs s page code o hc ho q f i (not_errKeys hf h)

/-! ## Which pages are on -/

theorem pageDomain_lt (p : Nat) (h : p < 0x3800) : pageDomain p < 0x80 := by
  unfold pageDomain
  have hd : pageDie p < 7 := by
    unfold pageDie
    split_ifs <;> omega
  generalize pageDie p = d at *
  generalize pageInDie p = q at *
  dsimp only
  split_ifs <;> omega

/-- A change of registers that leaves the domains' words, the engines' `STATUS` and the clocks alone leaves every page as it was. -/
theorem State.pageOn_same {s t : State} {keys : List Nat} (h : RegsSameBut s t keys)
    (hc : t.clock = s.clock)
    (hk : ∀ k ∈ keys, k / 32 % 1024 ≠ 5 ∧ (k / 32768 = 0x101 → k / 32 % 1024 < 0x40)) {p : Nat} (hp : p < 0x3800) : t.pageOn p = s.pageOn p := by
  have h1 : ∀ d < 0x80, t.domState d = s.domState d := by
    intro d hd
    refine h _ _ _ (fun hm => ?_)
    have := (hk _ hm).2
    simp only [fieldKey, Pg.powerDom, PowerDom.DOM_STATE_STATE] at this
    omega
  have h2 : ∀ q, t.get q Eng0.STATUS_STATE = s.get q Eng0.STATUS_STATE := by
    intro q
    refine h _ _ _ (fun hm => (hk _ hm).1 ?_)
    simp only [fieldKey, Eng0.STATUS_STATE]
    omega
  unfold State.pageOn State.domOn
  rw [h1 _ (pageDomain_lt p hp)]
  simp only [h2, hc]

end Sys2Proof.Machine
end

