-- ==== Sys2Proof/Laws/Wire.lean ====
section
/-! SUPPORT. Bytes and numbers, and frames of the Ply ring: what one end seals with a short payload, the other end opens. -/

namespace Sys2Proof.Machine

theorem leBytes_length (n v : Nat) : (leBytes n v).length = n := by
  induction n generalizing v <;> simp_all [leBytes]

theorem leBytes_leNat (l : List Byte) : leBytes l.length (leNat l) = l := by
  induction l with
  | nil => rfl
  | cons b bs ih =>
    have h : (b.toNat + 256 * leNat bs) / 256 = leNat bs := by have := b.isLt; omega
    have g : BitVec.ofNat 8 (b.toNat + 256 * leNat bs) = b := by
      apply BitVec.eq_of_toNat_eq; have := b.isLt; simp only [BitVec.toNat_ofNat]; omega
    simp [leBytes, leNat, h, g, ih]

theorem leNat_lt (l : List Byte) : leNat l < 256 ^ l.length := by
  induction l with
  | nil => simp [leNat]
  | cons b bs ih =>
    have := b.isLt
    simp only [leNat, List.length_cons, Nat.pow_succ]; omega

theorem gcm_tag_length (key : BitVec 256) (iv aad text : List Byte) : (Gcm.tag key iv aad text).length = 16 := by
  simp [Gcm.tag, beBytes, leBytes_length]

theorem aes_length (key : BitVec 256) (b : List Byte) : (Gcm.aes key b).length = 16 := by simp [Gcm.aes, leBytes_length]

/-- Encryption of a text of at most one block. -/
theorem crypt_short (key : BitVec 256) (iv text : List Byte) (h : text.length ≤ 16) :
    Gcm.crypt key iv text = List.zipWith (· ^^^ ·) text (Gcm.aes key (iv ++ beBytes 4 2)) := by
  have k := aes_length key (iv ++ beBytes 4 2)
  cases text with
  | nil => simp [Gcm.crypt, Gcm.blocks, Gcm.ctr]
  | cons b bs =>
    have d : (b :: bs).drop 16 = [] := List.drop_eq_nil_of_le h
    have n : Gcm.blocks (b :: bs).length [] = [] := by simp [Gcm.blocks]
    simp only [Gcm.crypt, Gcm.blocks, d, n, Gcm.ctr, List.append_nil]
    have t : List.take 16 (b :: bs) = b :: bs := List.take_of_length_le h
    rw [t]
    apply List.ext_getElem
    · simp only [List.length_take, List.length_map, List.length_zip, List.length_append, List.length_replicate, List.length_zipWith, k]; omega
    · intro i p q
      simp only [List.length_take, List.length_zipWith] at p q
      simp only [List.getElem_take, List.getElem_map, List.getElem_zip, List.getElem_zipWith]
      rw [List.getElem_append_left (by omega)]

theorem crypt_crypt_short (key : BitVec 256) (iv text : List Byte) (h : text.length ≤ 16) : Gcm.crypt key iv (Gcm.crypt key iv text) = text := by
  have k := aes_length key (iv ++ beBytes 4 2)
  rw [crypt_short key iv text h, crypt_short _ _ _ (by simp only [List.length_zipWith]; omega)]
  apply List.ext_getElem <;> simp_all

/-- A frame with a payload of at most 16 bytes, as the other end seals it. -/
theorem opened_short (key : BitVec 256) (type : Nat) (f : PlyRx) (body : List Byte) (h : body.length ≤ 16) :
    let c := Gcm.crypt key (PlyWire.iv f.fctr) body
    PlyWire.opened key type { f with payload := c, tag := BitVec.ofNat 128 (leNat (Gcm.tag key (PlyWire.iv f.fctr)
      (PlyWire.header type f.flags f.dst f.src c.length f.ack f.fctr) c)) } = some body := by
  intro c
  have t := gcm_tag_length key (PlyWire.iv f.fctr) (PlyWire.header type f.flags f.dst f.src c.length f.ack f.fctr) c
  have l := leNat_lt (Gcm.tag key (PlyWire.iv f.fctr) (PlyWire.header type f.flags f.dst f.src c.length f.ack f.fctr) c)
  have e := leBytes_leNat (Gcm.tag key (PlyWire.iv f.fctr) (PlyWire.header type f.flags f.dst f.src c.length f.ack f.fctr) c)
  rw [t] at l e
  simp only [PlyWire.opened, BitVec.toNat_ofNat]
  rw [Nat.mod_eq_of_lt (by simpa using l), e]
  simp [c, crypt_crypt_short key _ body h]

end Sys2Proof.Machine
end

