-- ==== Sys2Proof/Tests/Slice0.lean ====
section
/-! SUPPORT. The author's own tests: ill-formed commands are refused, one step of a few commands against the manual's worked examples
and tables, and for each statement a state and operands that meet its hypotheses. -/

namespace Sys2Proof.Tests

open Sys2Proof Sys2Proof.Machine Reg

set_option Elab.async false

/-- The state right after reset with some register fields at other values: page, field, index, value. -/
def at0 (xs : List (Nat × RegField × Nat × Nat)) : State := xs.foldl (fun s x => s.set x.1 x.2.1 x.2.2.2 x.2.2.1) State.reset

/-- Whether a command answers a next state of which `q` holds. -/
def gives (i : Instr) (s : State) (q : State → Bool) : Bool :=
  match exec i s with
  | .next t => q t
  | _ => false

/-- Whether a command stops. -/
def stops (i : Instr) (s : State) : Bool :=
  match exec i s with
  | .fault .noSuchPart => true
  | _ => false

/-- A frame on Ply port 0 with the first counter. -/
def frame0 : PlyRx := { port := 0, fctr := 1, ack := 0, tag := 0, dst := 0x3F, src := 5, payload := [] }

/-! ## Ill-formed commands, one for each check -/

theorem test_ill_formed_pages : [Instr.registerWrite .monitor 2 [{ data := 0 }], .registerRead .monitor 0x3FFFFFC 2 false [],
    .expertKeyWrite .monitor 0x4000 0, .miTestRead .monitor 0, .scrubRetry (Pg.mi 1 0) 512 0, .tmrFix (Pg.mi 1 0) 15,
    .eventStage 0x0101 1 0x002 0, .eventStage 0x0101 5 0x300 0].all (fun i => !i.wellFormed && stops i State.reset) = true := by decide

theorem test_ill_formed_fabric : [Instr.gsrRelease 1 96 0 0, .gsrRelease 0 0 0 0, .gsrRelease 5 0 0 0, .trackStop 1 0 16,
    .trackRisingEdge [(1, 0, 16)] 0 [],
    .tileFrameWrite 1 0 128 0 0, .tileFrameWrite 1 0 0 48 0, .srAsyncAssert 1 0 0 16, .auditMismatch 1 0 129 false,
    .vccoBad 1 4 true, .vccoBad 5 0 true].all (fun i => !i.wellFormed && stops i State.reset) = true := by decide

theorem test_ill_formed_links : [Instr.lsbHello 0, .lsbHello 7, .swapNext 6 99, .maskReport 1 0 2 0, .wireSuspect 1 0 0 68 true,
    .wireTestDone 1 [(0, 0, 68)], .replay 1 99 0, .crossFrameDeliver 5 0 0 [{ lane := 64 }], .sfifoRead 5 0, .sfifoRead 1 16, .xbarEntryWrite .monitor 1 0 192 0].all
    (fun i => !i.wellFormed && stops i State.reset) = true := by decide

theorem test_ill_formed_memory : [Instr.mergeWriteStore 1 0 10 0 false, .mergeWriteStore 1 0 0 2 false, .bankStore 1 0 5 0, .bankStore 1 0 0 8,
    .dspCrst 1 0 32, .dspCwe 1 96 0].all (fun i => !i.wellFormed && stops i State.reset) = true := by decide

theorem test_ill_formed_engines : [Instr.integerInstruction 64, .rfError 0 36 true true, .timerHit 0 2].all
    (fun i => !i.wellFormed && stops i State.reset) = true := by decide

theorem test_ill_formed_skein : [Instr.packetInject 7 0 0, .packetInject 1 8 0, .saturationTokenGrant 7, .skeinMsg 0xFFFF, .attachDeliver 0 9 0,
    .lanePllReady false 64, .opllLock 1 0 true, .releaseSend 5 8].all (fun i => !i.wellFormed && stops i State.reset) = true := by decide

theorem test_ill_formed_others : [Instr.zeroFillDone 8, .rowOpenTimeout 0 256, .refreshDebtTick 0 4, .refsbIssue 0 0 4 true, .regionCloseDone 0 16,
    .generate .monitor 0 32, .pllFail 4, .dieResetRelease 0, .domainUp 0x77, .sensorSuspect 7 0, .sensorSuspect 0 3, .plyAuthRetry 2,
    .plyIdle { frame0 with port := 2 }].all (fun i => !i.wellFormed && stops i State.reset) = true := by decide

/-! ## Hypotheses of the statements are met -/

/-- A state whose queue holds two commands. -/
def queued : State := { State.reset with pending := [.iaAccessDone, .plyIsolate] }

theorem witness_general : queued.pending = Instr.iaAccessDone :: [.plyIsolate] ∧ State.reset.pending = [] ∧
    (Instr.iaAccessDone).wellFormed = true ∧ (Instr.lsbHello 0).wellFormed = false ∧ gives .iaAccessDone queued (fun _ => true) = true := by decide

theorem witness_ready : (∀ c ∈ queued.pending, c.wellFormed = true) ∧ (∀ c ∈ State.reset.pending, c.wellFormed = true) := by decide

/-- A page in each state of its key, held by I²C; an OBSERVE session. -/
def armed : State := (at0 []).setExpert Pg.ply 1 (some .i2c)
def expert : State := (at0 []).setExpert Pg.ply 2 (some .i2c)
def observing : State := at0 [(Pg.monitor, Monitor.DBG_SESSION_OPEN, 0, 1), (Pg.monitor, Monitor.DBG_SESSION_LEVEL, 0, 1)]

theorem witness_expert_key : Reaches State.reset .i2c Pg.ply = true ∧ Reaches armed .i2c Pg.ply = true ∧
    Reaches expert .i2c Pg.ply = true ∧ State.reset.observes .i2c = false ∧ armed.expertState Pg.ply = 1 ∧ expert.expertState Pg.ply = 2 ∧
    armed.expertHolder Pg.ply = some .i2c ∧ State.reset.mayUnlock .i2c = true ∧
    Reaches observing .debug Pg.ply = true ∧ observing.observes .debug = true ∧ observing.expertState Pg.ply ≠ 1 ∧
    observing.mayUnlock .debug = false ∧ (observing.setExpert Pg.ply 1 (some .monitor)).observes .debug = true := by decide

/-- Engines 0 and 1 as a pair: the pages of the second drop writes. -/
def checkerPair : State := at0 [(Pg.eng 0 0, Eng0.STATUS_PAIRED, 0, 1), (Pg.eng 1 0, Eng0.STATUS_PAIRED, 0, 1)]

theorem witness_checker_pages : Reaches checkerPair .monitor (Pg.eng 1 1) = true ∧ checkerPair.observes .monitor = false ∧
    checkerPair.checkerDrops (Pg.eng 1 1) 0x0F0 0 = true ∧ checkerPair.checkerDrops (Pg.eng 0 1) 0x0F0 0 = false ∧
    Reaches checkerPair .monitor (Pg.eng 0 1) = true ∧ State.reset.checkerDrops Pg.ply 0x0F0 0 = false := by decide

theorem witness_errors : Accepts State.reset .monitor Pg.hubGlobal 0x020 0x80000001 = true ∧ bit (0x80000001 : Word).toNat 0 = true ∧
    Accepts State.reset .monitor Pg.hubGlobal 0x020 2 = true ∧ bit (2 : Word).toNat 1 = true ∧ bit (2 : Word).toNat 0 = false ∧
    Accepts State.reset .monitor Pg.ply 0x028 0x00010003 = true ∧ Reaches State.reset .pcie Pg.ply = true ∧
    State.reset.peekOf .pcie true = false ∧ State.reset.peekOf .monitor false = true := by decide

theorem witness_requests : Accepts State.reset .monitor Pg.ply 0x024 0xFFFFFFFF = true ∧ State.reset.pathUp .monitor = true ∧
    pageWindow 2 = none ∧ pageKind 2 = none ∧ pageKind Pg.ply ≠ none ∧
    (State.reset.set Pg.powerDom PowerDom.DOM_STATE_STATE 0 3).pageOn Pg.ply = false ∧
    (State.reset.set Pg.powerDom PowerDom.DOM_STATE_STATE 0 3).pathUp .monitor = true ∧
    State.reset.strictUr .monitor = false ∧ State.reset.flag Pg.hubGlobal HubGlobal.HUB_ACCESS_FAULT_VALID = false ∧
    Accepts State.reset .monitor Pg.hubGlobal 0x108 0x80000000 = true ∧ bit (0x80000000 : Word).toNat 31 = true := by decide

/-- An indirect access in progress, at the last address of the aperture and beyond it. -/
def iaRuns (w : Bool) (a : Word) : State :=
  { State.reset with hub := { State.reset.hub with iaAddr := a, iaOp := some { write := w, peek := false, autoInc := true } } }

theorem witness_indirect : State.reset.i2cUp = true ∧ State.reset.hub.iaOp = none ∧ bit (1 : Byte).toNat 0 ≠ bit (1 : Byte).toNat 1 ∧
    bit (3 : Byte).toNat 0 = true ∧ bit (3 : Byte).toNat 1 = true ∧ (iaRuns true 0x4000000).hub.iaOp ≠ none ∧
    0x3FFFFFF < (iaRuns true 0x4000000).hub.iaAddr.toNat / 4 * 4 ∧ (iaRuns true 0x3FFFFFC).hub.iaAddr.toNat / 4 * 4 ≤ 0x3FFFFFF ∧
    (∃ op, (iaRuns false 0x3FFFFFF).hub.iaOp = some op ∧ op.write = false) := by
  refine ⟨by decide, by decide, by decide, by decide, by decide, by decide, by decide, by decide, _, rfl, rfl⟩

/-- A sector 1, 0 with track 0 enabled from source 1, its set/reset released, and some edges of the track seen. -/
def clocked (edges : Nat) : State :=
  let s := at0 [(Pg.sctl 1 0, Sctl.SCTL_TRACK_EN, 0, 1), (Pg.sctl 1 0, Sctl.SCTL_TRACK_SRC, 0, 5)]
  { s with fabric := { s.fabric with released := [(96, true)], edges := SMap.write 0 [] (trackKey 1 0 0) edges } }

theorem witness_tracks : isTrack 1 0 0 = true ∧ isTrack 4 95 15 = true ∧ Accepts State.reset .monitor (Pg.sctl 4 95) (0x100 + 4 * 15) 0x110 = true ∧
    reservedTrackSource 0x110 = false ∧ reservedTrackSource 0x111 = true ∧ ((clocked 0).domOn (16 * 1 + 1) && (clocked 0).flag (Pg.sctl 1 0) Sctl.SCTL_TRACK_EN 0 &&
      (clocked 0).get (Pg.sctl 1 0) Sctl.SCTL_TRACK_SRC 0 ≠ 0 && !(bit ((clocked 0).capHeld (Pg.sctl 1 0)) 0)) = true ∧
    State.reset.flag (Pg.sctl 1 0) Sctl.SCTL_TRACK_EN 0 = false ∧ State.reset.allReleased 1 0 = true := by decide

theorem witness_switches : (at0 [(Pg.sctl 1 0, Sctl.SCTL_TRACK_SWITCHING, 0, 1), (Pg.sctl 1 0, Sctl.SCTL_TRACK_SRC, 0, 5)]).flag (Pg.sctl 1 0)
      Sctl.SCTL_TRACK_SWITCHING 0 = true ∧ State.reset.sourceRuns 1 0 5 = true ∧ State.reset.sourceRuns 1 0 0 = false ∧
    State.reset.sourceRuns 1 0 1 = true ∧ (at0 [(Pg.clock, Clock.CLK_SPAN_STOPPED_F0_STOPPED, 0, 1)]).sourceRuns 1 0 1 = false ∧
    State.reset.flag (Pg.sctl 1 0) Sctl.SCTL_TRACK_SWITCHING 0 = false := by decide

theorem witness_global_set_reset : Accepts State.reset .monitor (Pg.sctl 1 0) 0x010 1 = true ∧
    Accepts (State.reset.startRelease 1 0) .monitor (Pg.sctl 1 0) 0x010 1 = true ∧ Accepts (clocked 3) .monitor (Pg.sctl 1 0) 0x010 0 = true ∧
    (clocked 0).gsrActive 1 0 = false ∧ State.reset.gsrActive 1 0 = true ∧ (clocked 2).trackPasses 1 0 0 7 false = true ∧
    bit ((clocked 2).capHeld (Pg.sctl 1 0)) 0 = false ∧ bit ((clocked 2).capToCopy (Pg.sctl 1 0)) 0 = false ∧
    SMap.read 0 (clocked 2).fabric.edges (trackKey 1 0 0) = 2 ∧ SMap.read 0 (clocked 1).fabric.edges (trackKey 1 0 0) < 2 ∧
    (∀ m < 16, m ≠ 0 → bit ((clocked 2).get (Pg.sctl 1 0) Sctl.STATUS_TRACK_RUN) m = false) := by decide

set_option exponentiation.threshold 2048 in
set_option maxRecDepth 100000 in
theorem witness_edges : (((clocked 2).spanTo 0).flush 1 0 0).rises 1 0 0 0 = true ∧ ((State.reset.spanTo 0).flush 1 0 0).rises 1 0 0 0 = false ∧
    State.reset.clock.span = 0 ∧ (State.reset.spanTo 9).clock.span = 9 ∧ (((clocked 2).spanTo 0).flush 1 0 0).gsrActive 1 0 = false ∧
    SMap.read 0 (((clocked 2).spanTo 0).flush 1 0 0).fabric.edges (trackKey 1 0 0) = 2 := by decide

/-- Two tracks of one sector that rise together. -/
def clockedTwo : State := ((clocked 2).set (Pg.sctl 1 0) Sctl.SCTL_TRACK_EN 1 1).set (Pg.sctl 1 0) Sctl.SCTL_TRACK_SRC 5 1

set_option exponentiation.threshold 2048 in
set_option maxRecDepth 100000 in
theorem witness_aligned_edges : let f := ((clockedTwo.spanTo 0).flush 1 0 0).flush 1 0 1
    f.rises 1 0 0 0 = true ∧ f.rises 1 0 1 0 = true ∧ isTrack 1 0 1 = true := by decide

set_option exponentiation.threshold 2048 in
set_option maxRecDepth 4000 in
theorem witness_flops : isCluster 4 95 127 15 = true ∧ State.reset.clusterSR 1 0 0 0 = false ∧
    bit (State.reset.leSlot 1 0 0 0 0) 60 = false := by decide

theorem witness_tile_frames : isSector 1 95 = true ∧ State.reset.boot.reload = none ∧ State.reset.boot.running = false ∧
    State.reset.gsrActive 1 95 = true ∧ (clocked 0).gsrActive 1 0 = false ∧ frameContention 0 0 = false ∧
    State.reset.trackContention 1 95 127 47 0 = false := by decide

/-- A capture armed, and one that has stopped its sector. -/
def capArmed : State := at0 [(Pg.sctl 1 0, Sctl.SCTL_CAP_STAT_ARMED, 0, 1)]
def capStopped : State := at0 [(Pg.sctl 1 0, Sctl.SCTL_CAP_STAT_STOPPED, 0, 1)]

theorem witness_captures : Accepts State.reset .monitor (Pg.sctl 1 0) 0x400 1 = true ∧ capArmed.flag (Pg.sctl 1 0) Sctl.SCTL_CAP_STAT_ARMED = true ∧
    capArmed.get (Pg.sctl 1 0) Sctl.SCTL_CAP_CTL_TRIG = 0 ∧ State.reset.flag (Pg.sctl 1 0) Sctl.SCTL_CAP_STAT_ARMED = false ∧
    Accepts capStopped .monitor (Pg.sctl 1 0) 0x400 0x10000 = true ∧ bit (0x10000 : Word).toNat 16 = true ∧
    capStopped.flag (Pg.sctl 1 0) Sctl.SCTL_CAP_STAT_STOPPED = true := by decide

/-- Cluster 0 of the tile at (1, 0) with its SR on track 63, which the registered segment from the tile at (0, 0) drives to 1; both flops of
LE 0 take SR, and the first takes CE. -/
def srHigh : State :=
  let s := clocked 3
  { s with fabric := { s.fabric with
      frames := SMap.write 0 (SMap.write 0 (SMap.write 0 (SMap.write 0 [] (frameKey 1 0 0 41) (2 ^ 412)) (frameKey 1 0 1 16) (2 ^ 60 + 2 ^ 54 + 2 ^ 58))
        (frameKey 1 0 1 32) (0x11 * 2 ^ 504)) (frameKey 1 0 1 46) (24 + 0x11 * 2 ^ 512)
      wires := [(wireKey 1 1 0 89, true)] } }

set_option exponentiation.threshold 2048 in
set_option maxRecDepth 8000 in
theorem witness_set_reset : srHigh.clusterSR 1 1 0 0 = true ∧ bit (srHigh.leSlot 1 1 0 0 0) 60 = true ∧ bit (srHigh.clusterCtl 1 1 0 0) 4 = true := by decide

set_option exponentiation.threshold 2048 in
set_option maxRecDepth 8000 in
theorem witness_clock_enable : bit (srHigh.leSlot 1 1 0 0 0) 58 = true ∧ srHigh.clusterSR 1 1 0 1 = false := by decide

/-- Port 1 in a state of training, or ACTIVE with its Skein modules FULL. -/
def port1 (st : Nat) (xs : List (Nat × RegField × Nat × Nat)) : State := at0 ((Pg.port 1, Port.STATUS_STATE, 0, st) :: xs)
def skeinPort0 : State := port1 6 [(Pg.port 1, Port.LMH_MOD_ROLE, 16, 2)]
def port1Mod (m : LinkModule) (st : Nat) (xs : List (Nat × RegField × Nat × Nat)) : State := (port1 st xs).setLinkMod 1 0 m

theorem witness_training : isPort 1 = true ∧ isPort 6 = true ∧
    Accepts State.reset .monitor (Pg.port 1) 0x010 (BitVec.ofNat 32 (State.reset.storedWord (Pg.port 1) 0x010 ||| 1)) = true ∧
    bits (BitVec.ofNat 32 (State.reset.storedWord (Pg.port 1) 0x010 ||| 1)).toNat 5 4 = State.reset.get (Pg.port 1) Port.CTL_SPLIT ∧
    isModuleDir 1 16 1 = true ∧ isModuleDir 5 8 1 = true ∧ (port1 1 []).portState 1 = 1 ∧ (port1 2 []).portState 1 = 2 ∧
    (port1 3 []).portState 1 = 3 ∧ (port1 5 []).portState 1 = 5 ∧ (port1 5 [(Pg.port 1, Port.STATUS_ATTEMPTS, 0, 4)]).get (Pg.port 1) Port.STATUS_ATTEMPTS = 4 ∧
    (port1 5 []).get (Pg.port 1) Port.STATUS_ATTEMPTS < 4 ∧ (port1 6 []).portActive 1 = true ∧ State.reset.portState 1 = 0 := by decide

/-- Port 1 in service with its unused reserve in background training (R128). -/
def reserveTraining (st : Nat) : State := { skeinPort0 with link := { skeinPort0.link with background := [(1, st)] } }

theorem witness_background : (reserveTraining 1).portActive 1 = true ∧ SMap.read 0 (reserveTraining 1).link.background 1 = 1 ∧
    SMap.read 0 (reserveTraining 2).link.background 1 = 2 ∧ isModuleDir 1 (State.reserveOf 1) 0 = true ∧
    (frameWires false ((reserveTraining 1).wireMask (Pg.port 1) 16 0) ((reserveTraining 1).wireAssign (Pg.port 1) 16 0)).elem (some 3) = true ∧
    (frameWires false ((reserveTraining 1).wireMask (Pg.port 1) 16 0) ((reserveTraining 1).wireAssign (Pg.port 1) 16 0)).elem (some 64) = false ∧
    [(16, 0, 3)].all (fun b => isModuleDir 1 b.1 b.2.1 && b.2.2 < 68) = true := by decide

set_option maxRecDepth 100000 in
theorem witness_sideband : sidebandGood [0, 0, 0x0F, 0x1D] = true ∧ sidebandGood [0, 0, 0x0F, 0x1C] = false ∧ sidebandGood [0, 0, 0] = false := by decide

/-- A map as the hub sent it for module 0, direction 0. -/
def map0 : WireMap := { mask := 1, assign := 0 }

theorem witness_agreement : isModuleDir 1 0 0 = true ∧ (port1 4 []).portState 1 = 4 ∧ (port1 4 []).modRole 1 0 ≠ 3 ∧
    (ofDir 0 ((port1Mod { sent := (some map0, none) } 4 []).linkMod 1 0).sent).isSome = true ∧
    ofDir 0 ((port1Mod { sent := (some map0, none) } 4 []).linkMod 1 0).sent = some map0 ∧ map0 ≠ { mask := 2, assign := 0 } ∧
    (port1 4 []).get (Pg.port 1) Port.STATUS_ATTEMPTS < 4 ∧ State.reset.portState 1 ≠ 4 := by decide

/-- Module 0 of port 1 in service, with wires under retry. -/
def suspectPort : State := { port1Mod { suspects := [(0, 5)] } 6 [(Pg.port 1, Port.LMH_MOD_MSTATE, 0, 2)] with pending := [] }

theorem witness_retries : suspectPort.inService 1 0 = true ∧ bit (suspectPort.wireMask (Pg.port 1) 0 0) 67 = true ∧
    suspectPort.audited 1 0 0 3 = true ∧ suspectPort.audited 1 0 0 4 = false ∧ State.reset.inService 1 0 = false ∧
    (suspectPort.linkMod 1 0).suspects.elem (0, 5) = true ∧ bit (suspectPort.wireMask (Pg.port 1) 0 0) 5 = true ∧
    served (suspectPort.wireAssign (Pg.port 1) 0 0) 5 = false ∧ (suspectPort.linkMod 1 0).swap = none ∧ suspectPort.modState 1 0 ≠ 3 ∧
    freeSpare (suspectPort.wireMask (Pg.port 1) 0 0) (suspectPort.wireAssign (Pg.port 1) 0 0) = some 0 := by decide

theorem witness_wires : (port1 6 []).portActive 1 = true ∧ (port1 6 []).modRole 1 0 ≠ 3 ∧ (port1 6 []).modState 1 0 ≠ 3 ∧
    bit ((port1 6 [(Pg.port 1, Port.LMH_MAP_MASK_LO_MASK_LO, 0, 1)]).wireMask (Pg.port 1) 0 0) 0 = true ∧
    ((port1Mod { suspects := [(0, 67)] } 6 []).linkMod 1 0).suspects.elem (0, 67) = true ∧
    ((port1Mod { suspects := [(0, 67)] } 6 []).linkMod 1 0).suspects.elem (0, 0) = false ∧
    served ((port1 6 []).wireAssign (Pg.port 1) 0 0) 63 = false ∧ State.reset.portActive 1 = false ∧
    ((port1Mod { swap := some { dir := 1, pos := 63, old := 63, spare := 3 } } 6 []).linkMod 1 0).waiting = [] := by decide

/-- Port 1 ACTIVE: module 8 is its first Skein module, module 16 its reserve. -/
def skeinPort (st : Nat) : State :=
  port1 6 [(Pg.port 1, Port.LMH_MOD_MSTATE, 8, st), (Pg.port 1, Port.LMH_MOD_ROLE, 8, 1), (Pg.port 1, Port.LMH_MOD_ROLE, 16, 2)]

theorem witness_reserve : isModuleDir 1 0 0 = true ∧ 0 + 1 ≠ portModules 1 ∧ 15 + 1 ≠ portModules 4 ∧ (skeinPort 2).portActive 1 = true ∧
    (skeinPort 2).modRole 1 0 = 0 ∧ (skeinPort 2).reserveFree 1 = true ∧ (skeinPort 2).modRole 1 (State.reserveOf 1) = 2 ∧
    (skeinPort 2).modLogical 1 (State.reserveOf 1) = 0xF ∧ SMap.read false (skeinPort 2).link.reserveBad 1 = false ∧
    (port1 6 []).reserveFree 1 = false ∧ SMap.read false (port1 6 []).link.lost (spanDirKey 1 ((port1 6 []).modLogical 1 0) 0) = false ∧
    SMap.read none { (skeinPort 2).link with move := [(1, some (0, 0))] }.move 1 = some (0, 0) ∧ (port1 6 []).modLogical 1 0 < 12 := by decide

/-- A flit that its slot carries, the transmitter of module 8 with that flit to send as `LSEQ` n, and its receiver. -/
def skFlit : Flit := { hdr := 5, data := 7 }
def sending (l : LinkDir) : State := (skeinPort 2).setLinkDir 1 8 0 l

/-- What the receiver of module 8 makes of the next frame with the errors `err`: the payload, and whether `MARK` and `SEQ4` are right. -/
def skeinSeen (s : State) (err : Nat) : Nat × Bool :=
  let w := frameWires false (s.wireMask (Pg.port 1) 8 0) (s.wireAssign (Pg.port 1) 8 0)
  let r := offWires w (onWires w (s.skeinFrame 1 8 0 false).1 (frameHead 0 0) ^^^ err)
  (r.1, headGood r.2 0)

set_option exponentiation.threshold 4096 in
set_option maxRecDepth 100000 in
theorem witness_skein_frames : (let x := skeinSeen (sending { buffer := [(0, skFlit)] }) 0
      x.2 = true ∧ slotGood (x.1 % 2 ^ 640) = true ∧ slotValid (x.1 % 2 ^ 640) = true ∧ slotSeq (x.1 % 2 ^ 640) = 0 ∧
      (controlOf false x.1).isSome = true) := by decide +kernel

set_option exponentiation.threshold 4096 in
set_option maxRecDepth 100000 in
theorem witness_skein_frames_other : (let x := skeinSeen (sending { buffer := [(3, skFlit)], sendSeq := 3 }) 0
      slotGood (x.1 % 2 ^ 640) = true ∧ slotValid (x.1 % 2 ^ 640) = true ∧ slotSeq (x.1 % 2 ^ 640) ≠ 0) ∧
    (let x := skeinSeen (sending {}) 0; slotGood (x.1 % 2 ^ 640) = true ∧ slotValid (x.1 % 2 ^ 640) = false) ∧
    (let x := skeinSeen (sending {}) 1; x.2 = true ∧ slotGood (x.1 % 2 ^ 640) = false) := by decide +kernel

set_option exponentiation.threshold 4096 in
set_option maxRecDepth 100000 in
theorem witness_skein_answers : (let s := (sending {}).setLinkDir 1 8 1 { expected := 4, ackValid := true, nak := true }
      let c := (controlOf false (skeinSeen s 0).1).getD 0
      bit c 10 = true ∧ bits c 9 0 = 3 ∧ bit c 21 = true ∧ bits c 20 11 = 4 ∧
      ((sending { buffer := [(3, skFlit)] }).linkDir 1 8 0).buffer.any (fun e => e.1 = 3) = true) := by decide +kernel

set_option exponentiation.threshold 4096 in
set_option maxRecDepth 100000 in
theorem witness_skein_modules : isLogicalDir 1 8 1 = true ∧ isLogicalDir 1 15 0 = true ∧ (skeinPort 2).physOf 1 8 = some 8 ∧
    (skeinPort 2).skeinOpen 1 8 = true ∧ (skeinPort 3).skeinOpen 1 8 = true ∧ (skeinPort 2).modState 1 8 = 2 ∧ (skeinPort 2).modRole 1 8 = 1 ∧
    ((skeinPort 2).linkDir 1 8 1).expected = 0 ∧ ((skeinPort 2).linkDir 1 8 1).second = none ∧ (skeinPort 1).modState 1 8 = 1 ∧
    (skeinPort 1).portActive 1 = true ∧ (skeinPort 1).modRole 1 8 = 1 ∧
    ((sending { second := some (0, none, true) }).linkDir 1 8 0).second = some (0, none, true) ∧
    ((sending { nakIn := some 3 }).linkDir 1 8 0).nakIn = some 3 ∧ (State.reset.linkDir 1 8 0).nakIn = none ∧
    ((sending { failedTwice := true }).linkDir 1 8 0).failedTwice = true ∧ ((skeinPort 2).linkDir 1 8 0).failedTwice = false ∧
    (skeinPort 1).mapOf 1 8 0 ≠ { mask := 0, assign := 0 } := by decide

theorem witness_split_and_crossbar : Accepts State.reset .monitor (Pg.port 1) 0x010 0x10 = true ∧
    State.reservedIn (Pg.port 1) Port.CTL_SPLIT (bits (0x10 : Word).toNat 5 4) = false ∧ bit (0x10 : Word).toNat 0 = false ∧
    State.reset.get (Pg.port 1) Port.CTL_SPLIT ≠ bits (0x10 : Word).toNat 5 4 ∧ isLogicalDir 6 7 0 = true ∧
    Accepts State.reset .monitor (Pg.xbar 1 0) (0x100 + 4 * 191) 0x86F000BF = true ∧ State.reset.crossModules 6 ≤ 15 ∧
    ¬State.reset.crossModules 6 ≤ 0 ∧
    bits (0x86F000BF : Word).toNat 26 24 = 6 ∧ bits (0x86F000BF : Word).toNat 7 0 < 192 ∧
    Accepts State.reset .monitor (Pg.xbar 1 0) (0x100 + 4 * 191) 0x860000BF = true ∧ bits (0x860000BF : Word).toNat 26 24 = 6 ∧
    bits (0x860000BF : Word).toNat 7 0 < 192 := by decide

/-- A frame to the die, good or poisoned, on the full map, and port 1 ACTIVE with it on the way of module 0. -/
def frameTo (poisoned data : Bool) : TxFrame :=
  { payload := 6, poisoned := poisoned, data := data, cycle := 3, framing := BitVec.ofNat 64 (crossFraming 6 0 (if data then 0 else 2) poisoned)
    map := { mask := -1, assign := -1 } }
def flying (f : TxFrame) : State := { port1 6 [] with span := { (port1 6 []).span with flight := [(spanDirKey 1 0 0, [f])] } }

set_option exponentiation.threshold 4096 in
set_option maxRecDepth 100000 in
theorem witness_good_frame : (let f := frameTo false true
      let w := frameWires false f.map.mask.toNat f.map.assign.toNat
      let r := offWires w (onWires w f.payload.toNat f.framing.toNat)
      frameGood 0 r.1 r.2 = true ∧ r.1 = 6) := by decide +kernel

set_option exponentiation.threshold 4096 in
set_option maxRecDepth 100000 in
theorem witness_frames_in_flight : SMap.read [] (flying (frameTo false true)).span.flight (spanDirKey 1 0 0) = [frameTo false true] ∧
    SMap.read [] State.reset.span.flight (spanDirKey 1 0 0) = [] ∧ (frameTo true true).poisoned = true ∧ (frameTo false false).data = false ∧
    (flying (frameTo false true)).portActive 1 = true ∧ 0 < (flying (frameTo false true)).crossModules 1 ∧
    (flying (frameTo false true)).crossModules 1 ≤ 8 ∧ (flying (frameTo false true)).physOf 1 0 = some 0 := by decide +kernel

/-- Port 1 ACTIVE, its sectors out of set/reset, and a frame that waits for slice 0. -/
def landed (f : Bool) : State :=
  let s := (port1 6 []).setSlice 1 0 { landing := [{ payload := 1, failed := f, poisoned := false, srcDie := 0, srcMod := 0 }] }
  { s with fabric := { s.fabric with released := [(96, true)] } }

set_option exponentiation.threshold 2048 in
set_option maxRecDepth 100000 in
theorem witness_crossing_frames : isLogicalDir 1 0 0 = true ∧ (landed true).physOf 1 0 = some 0 ∧ (landed true).portActive 1 = true ∧
    0 < (landed true).crossModules 1 ∧ (landed true).get (Pg.xport 1) Xport.XP_POISON_TEST_COUNT = 0 ∧
    (landed true).sliceHeld 1 0 = false ∧ State.reset.sliceHeld 1 0 = true ∧ (landed true).clock.span ≤ 9 ∧ ((landed true).slice 1 0).edge ≤ 9 ∧
    { landed true with fabric := { (landed true).fabric with released := [(104, true)] } }.sliceHeld 1 8 = false ∧
    (landed true).crossModules 1 ≤ 8 ∧ (landed true).spanGated 1 0 = false ∧
    (((landed false).slice 1 0).landing.find? (fun f => f.cycle + 9 = 9)).isSome = true ∧
    ((landed false).slice 1 0).landing.find? (fun f => f.cycle + 9 = 10) = none ∧ areLanes [] = true ∧
    ((port1 6 []).setSlice 1 0 { edge := 5 }).clock.span ≤ 4 ∧ 4 < (((port1 6 []).setSlice 1 0 { edge := 5 }).slice 1 0).edge ∧
    (at0 [(Pg.clock, Clock.CLK_SPAN_STOPPED_F0_STOPPED, 0, 1)]).spanGated 1 0 = true ∧ State.reset.portActive 1 = false ∧
    [0, 67].all (· < 68) = true := by decide

/-- Two span channel ports joined, with an entry waiting on each side of the first, its `WEN` and `REN` taken; and the same two in error. -/
def joined (err : Nat) : State :=
  let s := at0 [(Pg.xport 1, Xport.SFIFO_CTL_EN, 0, 1), (Pg.xport 1, Xport.SFIFO_CTL_PEER_DIE, 0, 2), (Pg.xport 1, Xport.SFIFO_STATUS_CREDITS, 0, 32),
    (Pg.xport 1, Xport.SFIFO_STATUS_ERROR, 0, err), (Pg.xport 1, Xport.SFIFO_STATUS_READY, 0, err), (Pg.xport 2, Xport.SFIFO_STATUS_READY, 0, err)]
  s.setSide 1 0 { tx := [5], rx := [6], wDue := some 7, rDue := true }

theorem witness_span_channels : isChannelPort 4 15 = true ∧ (joined 0).channelOn 1 0 = true ∧ (joined 0).channelError 1 0 = false ∧
    ((joined 0).side 1 0).tx = 5 :: [] ∧ ((joined 0).side 1 0).rx = 6 :: [] ∧ ((joined 0).side 1 0).out = none ∧ ((joined 0).side 1 0).wDue = some 7 ∧
    ((joined 0).side 1 0).rDue = true ∧ (State.reset.side 1 0).wDue = none ∧ (State.reset.side 1 0).rDue = false ∧
    ((State.reset.setSide 1 0 { rDue := true }).side 1 0).rDue = true ∧ ((State.reset.setSide 1 0 { rDue := true }).side 1 0).rx = [] ∧
    (joined 0).get (Pg.xport 1) Xport.SFIFO_STATUS_CREDITS 0 ≠ 0 ∧
    (joined 0).get (Pg.xport 1) Xport.SFIFO_STATUS_CREDITS 0 < 64 ∧ (State.reset.side 1 0).tx = [] ∧
    Accepts (joined 1) .monitor (Pg.xport 1) (0x200 + 4 * 0) (BitVec.ofNat 32 ((joined 1).storedWord (Pg.xport 1) (0x200 + 4 * 0) ||| 2)) = true ∧
    (joined 1).channelError 1 0 = true ∧ (joined 1).peerDie 1 0 = 2 ∧ (joined 1).sideReady 1 0 = true ∧
    (joined 1).sideReady ((joined 1).peerDie 1 0) ((joined 1).peerPort 1 0) = true := by decide

/-- Frames of sector 1, 0 with bits set in them. -/
def withFrames (s : State) (xs : List (Nat × Nat × Nat)) : State :=
  { s with fabric := { s.fabric with frames := xs.foldl (fun m x =>
      SMap.write 0 m (frameKey 1 0 x.1 x.2.1) (SMap.read 0 m (frameKey 1 0 x.1 x.2.1) ||| BitVec.ofNat 1024 x.2.2)) s.fabric.frames } }

/-- Attach input `a` of sector 1, 0 follows a wire register that holds 1 (R75, R429). -/
def driven (a : Nat) (s : State) : State :=
  let t := a % 128
  let j := a / 128 % 64
  let c := a / 128 % 16
  let slot := (7 * j + 5 * c) % 352
  match segStart (tileX 0 t) (tileY 0 t) slot with
  | none => s
  | some (x, y) =>
    let u := withFrames s [(128, 64 + a / 128, 0x11 * 2 ^ (8 * t)), (t, 32 + c / 2, 0x11 * 2 ^ (512 * (c % 2) + 8 * j)),
      (tileAt x y, 40 + slot / 64, 2 ^ (16 * (slot % 64) + 12)), (t, 46, 0x11 * 2 ^ 512)]
    { u with fabric := { u.fabric with wires := (wireKey 1 (tileX 0 t) (tileY 0 t) slot, true) :: u.fabric.wires } }

/-- Sector 1, 0 with its first dual-port block of 64-bit entries, banked block 0 and a FIFO on block 1 in use on track 0, that runs. -/
def blocks : State :=
  withFrames (clocked 3) [(128, 0, 2 ^ 24 + 2 ^ 25 + 6 + 6 * 8), (128, 1, 2 ^ 24 + 2 ^ 25), (128, 2, (1 + 6 * 4) * 2 ^ 64)]

/-- The same with 32-bit entries on port A. -/
def narrow : State :=
  let fr := SMap.write 0 blocks.fabric.frames (frameKey 1 0 128 0) (2 ^ 24 + 2 ^ 25 + 5 + 6 * 8)
  { blocks with fabric := { blocks.fabric with frames := fr } }

/-- R231: a move reaches the outputs at the third edge and not before. -/
theorem test_move_outputs :
    (State.dspEdge (State.dspEdge (State.dspEdge { out := { y := 7 } }))).three.out.y = 7 ∧
    (State.dspEdge (State.dspEdge { out := { y := 7 } })).three.out.y = 0 := by
  decide

/-- R171: `OREG` = 1 presents an access one edge later. -/
theorem test_output_register : (State.dpbEdge { dout := 5, busy := true }).oreg = { dout := 5, busy := true, cstat := 0 } ∧
    (State.dpbEdge { dout := 5, busy := true }).busy = false := by decide

/-- What a port took at the last edge, and what the other port did at it. -/
def taken (s : State) (b : Nat) (we : Bool) : State := s.setDpbPort 1 0 0 b { due := some { we := we, addr := 0, din := 9 } }
def wrote (b : Nat) (write : Bool) : State :=
  (taken blocks (1 - b) true).setDpbPort 1 0 0 b { last := some { addr := 0, word := 0, write := write, old := 0, masked := false, edge := 0 } }

set_option exponentiation.threshold 2048 in
set_option maxRecDepth 100000 in
theorem witness_attach_inputs : (driven 96 blocks).attachIn 1 0 (192 * 0 + 96 * 1) = true ∧ (driven 96 blocks).dpbOpen 1 0 0 1 = true ∧
    blocks.attachIn 1 0 (192 * 0 + 96 * 1) = false := by decide

set_option exponentiation.threshold 2048 in
set_option maxRecDepth 100000 in
theorem witness_dual_port_blocks : isDpb 4 95 9 1 = true ∧ State.reset.dpbOpen 1 0 0 0 = false ∧ blocks.dpbOpen 1 0 0 0 = true ∧
    (blocks.dpbPort 1 0 0 0).due = none ∧ ((taken blocks 0 true).dpbPort 1 0 0 0).due = some { we := true, addr := 0, din := 9 } ∧
    ((taken blocks 0 true).dpbPort 1 0 0 0).merge = none ∧ blocks.dpbWidth 1 0 0 0 = 6 ∧ narrow.dpbWidth 1 0 0 0 < 6 ∧
    (taken blocks 0 true).flips (Pg.mi 1 0) 0 false = false ∧ badRead ((taken narrow 0 true).look (Pg.mi 1 0) 0 0) = false ∧
    badRead (readWord (poisonWord 0)) = true ∧ (taken blocks 0 true).dpbMetStore 1 0 0 1 0 false = none ∧
    (taken blocks 0 true).dpbMet 1 0 0 1 0 false = none ∧ (taken blocks 0 true).dpbWmode 1 0 0 0 = 0 := by decide

set_option exponentiation.threshold 2048 in
set_option maxRecDepth 100000 in
theorem witness_collisions : (wrote 0 true).dpbMet 1 0 0 0 0 false = some { addr := 0, word := 0, write := true, old := 0, masked := false, edge := 0 } ∧
    (wrote 1 true).compatOn 1 0 0 = false ∧ (wrote 0 true).dpbTrack 1 0 0 0 = (wrote 0 true).dpbTrack 1 0 0 1 ∧
    ((wrote 1 true).dpbPort 1 0 0 0).merge = none ∧ (wrote 1 true).dpbMet 1 0 0 1 0 false ≠ none ∧
    (wrote 1 true).dpbMetStore 1 0 0 1 0 false = none ∧ (wrote 0 false).dpbMet 1 0 0 0 0 false ≠ none := by decide

/-- A merge write whose store its next edge has made due, on a port whose partner read the same word at that edge. -/
def merging (ripe : Bool) : State := blocks.setDpbPort 1 0 0 0 { merge := some { word := 511, value := 5, ripe := ripe } }

set_option exponentiation.threshold 2048 in
set_option maxRecDepth 100000 in
theorem witness_merge_stores : ((merging true).dpbPort 1 0 0 0).merge = some { word := 511, value := 5, ripe := true } ∧
    ((merging false).dpbPort 1 0 0 0).merge = some { word := 511, value := 5, ripe := false } ∧ (merging true).flips (Pg.mi 1 0) 0 false = false ∧
    (merging true).dpbMet 1 0 0 1 511 false = none ∧ (blocks.dpbPort 1 0 0 0).merge = none ∧
    ((merging true).setDpbPort 1 0 0 1 { last := some { addr := 511, word := 511, write := false, old := 0, masked := false, edge := 0 } }).dpbMet 1 0 0 1 511
      false ≠ none ∧ entryWord 6 0 = 0 ∧ entryWord 6 511 = 511 := by decide

/-- A request that port A of banked block 0 took at the last edge. -/
def requested (op be : Nat) : State := blocks.setBkbPort 1 0 0 0 { due := some { op := op, addr := 0, be := be, din := 3 } }

set_option exponentiation.threshold 2048 in
set_option maxRecDepth 100000 in
theorem witness_banked_blocks : isBkb 4 95 4 1 = true ∧ State.reset.bkbOpen 1 0 0 0 = false ∧ blocks.bkbOpen 1 0 0 0 = true ∧
    (blocks.bkbPort 1 0 0 0).due = none ∧ [0, 1, 2, 3].all (fun op => ((requested op 0xFF).bkbPort 1 0 0 0).due = some { op := op, addr := 0, be := 0xFF, din := 3 }) = true ∧
    (requested 1 0xFF).flips (Pg.mi 1 0) 10 false = false ∧ ((requested 1 1).bkbPort 1 0 0 0).due = some { op := 1, addr := 0, be := 1, din := 3 } ∧
    badRead ((requested 1 1).look (Pg.mi 1 0) ((requested 1 1).bkbAt 1 0 0 0).1 ((requested 1 1).bkbAt 1 0 0 0).2) = false ∧
    blocks.bankBusy (Pg.mi 1 0) 10 = none ∧
    (blocks.setBankBusy (Pg.mi 1 0) 17 (some { word := 1023, value := none, ripe := true })).bankBusy (Pg.mi 1 0) (10 + 8 * 0 + 7) =
      some { word := 1023, value := none, ripe := true } ∧
    (blocks.setBankBusy (Pg.mi 1 0) 10 (some { word := 0, value := some 1, ripe := true })).flips (Pg.mi 1 0) 10 false = false := by decide

set_option exponentiation.threshold 2048 in
set_option maxRecDepth 100000 in
theorem witness_bank_requests : ((driven 2016 blocks).bkbPresented 1 0 0 1 ((driven 2016 blocks).attachIn 1 0)).isSome = true ∧
    (driven 2016 blocks).bkbStall 1 0 0 1 ((driven 2016 blocks).attachIn 1 0) = false ∧
    (let s := (driven 2016 blocks).setBankBusy (Pg.mi 1 0) 10 (some { word := 0, value := some 1 }); s.bkbStall 1 0 0 1 (s.attachIn 1 0)) = true := by
  decide

set_option exponentiation.threshold 2048 in
set_option maxRecDepth 100000 in
theorem witness_queues : isBlock 4 95 14 = true ∧ State.reset.qWriteOpen 1 0 1 = false ∧ State.reset.qReadOpen 1 0 1 = false ∧
    blocks.qWriteOpen 1 0 1 = true ∧ blocks.qReadOpen 1 0 1 = true ∧ blocks.isQueue 1 0 1 = true ∧ blocks.qWidth 1 0 1 = 6 ∧
    blocks.qFree 1 0 1 0 = true ∧ blocks.qWriteTrack 1 0 1 = 0 ∧ blocks.qReadTrack 1 0 1 = 0 ∧
    (blocks.queue 1 0 1).rLevel = 0 ∧ (blocks.queue 1 0 1).wLevel ≠ blocks.qCapacity 1 0 1 ∧ blocks.flips (Pg.mi 1 0) 1 false = false ∧
    ((blocks.setQueue 1 0 1 { wLevel := 512 }).queue 1 0 1).wLevel = (blocks.setQueue 1 0 1 { wLevel := 512 }).qCapacity 1 0 1 ∧
    (blocks.setQueue 1 0 1 { rLevel := 1 }).qReadOpen 1 0 1 = true ∧ ((blocks.setQueue 1 0 1 { qrst := true }).queue 1 0 1).qrst = true ∧
    (blocks.queue 1 0 1).wDue = none ∧ (blocks.queue 1 0 1).rDue = false ∧
    ((blocks.setQueue 1 0 1 { wDue := some 3, rDue := true }).queue 1 0 1).wDue = some 3 ∧ blocks.qMode 1 0 1 = 1 ∧
    ((blocks.setQueue 1 0 1 { wPend := [1], rPend := [2] }).queue 1 0 1).wPend = 1 :: [] ∧ blocks.syncFrom 1 0 1 = 1 ∧
    (blocks.setQueue 1 0 1 { wPend := [1], rPend := [2] }).gsrActive 1 0 = false ∧ State.reset.gsrActive 1 0 = true := by decide

/-- Banked block 0 as a two-clock queue. -/
def staged : State := withFrames (clocked 3) [(128, 2, 2 * 2 ^ 640), (128, 1, 2 ^ 24 + 2 ^ 25)]

set_option exponentiation.threshold 2048 in
set_option maxRecDepth 100000 in
theorem witness_queue_inputs : State.blockBase 1 = 192 ∧ (driven 192 blocks).attachIn 1 0 192 = true ∧ (driven 289 blocks).attachIn 1 0 (192 + 97) = true ∧
    (driven 288 blocks).attachIn 1 0 (192 + 96) = true ∧ blocks.attachIn 1 0 289 = false ∧ staged.qMode 1 0 10 = 2 := by decide

/-- Sector 1, 0 with track 0 running. -/
def ticking : State := (clocked 3).set (Pg.sctl 1 0) Sctl.STATUS_TRACK_RUN 1

/-- A scrubber that has a word to retry in bank 0, with its page stale or not, and a test access in progress. -/
def scrubs (x : BitVec 72) (stale : Bool) (w : Nat := 0) : State :=
  let m : MemState := { cells := SMap.write 0 [] (wordKey (Pg.mi 1 0) 0 0) x, repair := [(bankKey (Pg.mi 1 0) 0, [w])] }
  { ticking with mem := { m with stale := SMap.write false [] (pageKey (Pg.mi 1 0) 0 0) stale, test := [(Pg.mi 1 0, some true)] } }

/-- A page unlocked by I²C. -/
def unlocked (page : Nat) : State := State.reset.setExpert page 2 (some .i2c)

set_option exponentiation.threshold 2048 in
set_option maxRecDepth 100000 in
theorem witness_scrubbers : isMiBank (Pg.mi 4 95) 0 = true ∧ isMiBlock (Pg.mi 4 95) 14 = true ∧ (scrubs 0 false).scrubRuns (Pg.mi 1 0) 0 = true ∧
    (scrubs 0 false).bankIdle (Pg.mi 1 0) 0 = true ∧ SMap.read false (scrubs 0 false).mem.superseded (wordKey (Pg.mi 1 0) 0 0) = false ∧
    ticking.scrubRuns (Pg.mi 1 0) 0 = true ∧ ticking.bankIdle (Pg.mi 1 0) 0 = true ∧ SMap.read [] ticking.mem.repair (bankKey (Pg.mi 1 0) 0) = [] ∧
    SMap.read [] (scrubs 0 false).mem.repair (bankKey (Pg.mi 1 0) 0) = 0 :: [] ∧ State.reset.scrubRuns (Pg.mi 1 0) 0 = false ∧
    ((scrubs 0 false).look (Pg.mi 1 0) 0 0).cls = .clean ∧ ((scrubs 1 false).look (Pg.mi 1 0) 0 0).cls = .corrected ∧
    ((scrubs 3 true).look (Pg.mi 1 0) 0 0).cls = .uncorrectable ∧ ((scrubs (poisonWord 0) true).look (Pg.mi 1 0) 0 0).cls = .poison ∧
    SMap.read false (scrubs 3 true).mem.stale (pageKey (Pg.mi 1 0) 0 (0 / 64)) = true ∧
    SMap.read false { (scrubs 0 false).mem with superseded := [(wordKey (Pg.mi 1 0) 0 0, true)] }.superseded (wordKey (Pg.mi 1 0) 0 0) = true := by decide

set_option exponentiation.threshold 2048 in
set_option maxRecDepth 100000 in
theorem witness_parity_words : SMap.read [] (scrubs 0 false 1025).mem.repair (bankKey (Pg.mi 1 0) 0) = (1024 + 1) :: [] ∧
    (readWord ((scrubs 0 false 1025).raw (Pg.mi 1 0) 0 true 1)).cls = .clean ∧
    (readWord ({ scrubs 0 false 1025 with mem := { (scrubs 0 false 1025).mem with parity := SMap.write 0 [] (parityKey (Pg.mi 1 0) 0 1) 1 } }.raw
      (Pg.mi 1 0) 0 true 1)).cls = .corrected ∧ (readWord (codeWord 0)).cls = .clean := by decide

set_option exponentiation.threshold 2048 in
set_option maxRecDepth 100000 in
theorem witness_page_walk : ticking.flag (Pg.mi 1 0) (miScrEn (Pg.mi 1 0)) = true ∧ SMap.read 0 ticking.mem.walk (bankKey (Pg.mi 1 0) 0) = 0 ∧
    0 < pagesOf (Pg.mi 1 0) 0 ∧ SMap.read false { ticking.mem with stale := [(pageKey (Pg.mi 1 0) 0 0, true)] }.stale (pageKey (Pg.mi 1 0) 0 0) = true ∧
    SMap.read false ticking.mem.slowed (bankKey (Pg.mi 1 0) 0) = false ∧ ticking.get (Pg.mi 1 0) (miLimit (Pg.mi 1 0)) < 2 ^ 24 := by decide

theorem witness_remaps : (readWord (codeWord ((scrubs 1 false).look (Pg.mi 1 0) 0 0).data ^^^ 1)).cls ≠ .clean ∧
    (scrubs 1 false).remapOf (Pg.mi 1 0) 0 false 0 = none ∧ (scrubs 1 false).freeEntry (Pg.mi 1 0) 0 ≠ none ∧
    (scrubs 1 false).flag (Pg.mi 1 0) (miScrEn (Pg.mi 1 0)) = true ∧ SMap.read 0 (scrubs 1 false).mem.walk (bankKey (Pg.mi 1 0) 0) < pagesOf (Pg.mi 1 0) 0 ∧
    Accepts (unlocked (Pg.mi 1 0)) .i2c (Pg.mi 1 0) 0x80C 2 = true ∧ Accepts (unlocked (Pg.mi 1 0)) .i2c (Pg.mi 1 0) 0x80C 1 = true ∧ (scrubs 1 false).testAllowed (Pg.mi 1 0) = true ∧
    SMap.read none (scrubs 1 false).mem.test (Pg.mi 1 0) = some true ∧ (scrubs 1 false).flips (Pg.mi 1 0) 0 true = false := by decide

/-- Slice 7 of sector 1, 0 with the default record of R248, on track 0, out of set/reset; an edge has taken an operation. -/
def dspIn (aop : Nat) (a b : BitVec 27) (move : Bool := false) : DspDue :=
  { a := a, b := b, d := 0, aop := aop, move := move, cin := 0, coef := 0, rst := false, cwaddr := 3, cwdata := 4, crst := true, cnext := true, cwe := true }
def sliced (acc : DWord) (nexp : BitVec 8) (x : Option DspDue := none) : State :=
  let s := withFrames (clocked 3) [(128, 3, (27 * 2 ^ 6 + 26 * 2 ^ 12 + 2 ^ 24) * 2 ^ 448)]
  s.setDspSlice 1 0 7 { acc := { acc := acc, nexp := nexp }, due := x }

set_option exponentiation.threshold 2048 in
set_option maxRecDepth 100000 in
theorem witness_dsp_slices : isSlice 4 95 31 = true ∧ (sliced 0 0).dspOpen 1 0 7 = true ∧ State.reset.dspOpen 1 0 7 = false ∧
    (sliced 0 0).dspDue 1 0 7 = none ∧ ((sliced 0 0 (some (dspIn 0 1 2))).dspDue 1 0 7).isSome = true ∧ (dspIn 5 1 2).op = true ∧
    (dspIn 0 1 2 true).move = true ∧ ((sliced 0 0).dspSlice 1 0 7).psat = false ∧
    (sliced 0 0).dspRec 1 0 7 1 0 = 0 ∧ (sliced 0 0).dspRec 1 0 7 18 18 = 0 ∧ (sliced 0 0).dspRec 1 0 7 5 4 ≠ 3 ∧
    (sliced 0 0).dspRec 1 0 7 25 25 = 0 := by decide

theorem witness_norm : (0x0020000000000000 : DWord).toNat / 2 ^ 53 = 1 ∧ (0xFFFC000000000000 : DWord).toNat / 2 ^ 53 = 2047 ∧
    bit (0xFFFC000000000000 : DWord).toNat 53 = true ∧ bit (0xFFFC000000000000 : DWord).toNat 52 = true ∧ bit (0x0018000018000000 : DWord).toNat 53 = false ∧
    bit (0x0018000018000000 : DWord).toNat 52 = true ∧ (127 : BitVec 8).toInt = 127 ∧ (0x80 : BitVec 8).toInt = -128 := by decide

set_option exponentiation.threshold 2048 in
set_option maxRecDepth 100000 in
/-- The worked example of spec/08_dsp_slices.md, edge 0: LOAD of 0.5 × 0.75. -/
theorem test_dsp_load : gives (.dspLoad 1 0 7) (sliced 0 0 (some (dspIn 1 0x2000000 0x3000000)))
    (fun t => (t.dspSlice 1 0 7).acc.acc = 0x000C000000000000) = true := by decide

set_option exponentiation.threshold 2048 in
set_option maxRecDepth 100000 in
/-- Edge 2 of the example: the sum, and the move of it rounded to even. -/
theorem test_dsp_mac_moves : gives (.dspMac 1 0 7) (sliced 0x000C000004000000 0 (some (dspIn 2 2 0x2000000 true)))
    (fun t => (t.dspSlice 1 0 7).acc.acc = 0x000C00000C000000 && (t.dspSlice 1 0 7).out.y = 0x1800002) = true := by decide

set_option exponentiation.threshold 2048 in
set_option maxRecDepth 100000 in
/-- Edges 3 and 5 of the example: NORM doubles the accumulator. -/
theorem test_dsp_norm : gives (.dspNorm 1 0 7) (sliced 0x000C00000C000000 0 (some (dspIn 5 0 0 true))) (fun t => (t.dspSlice 1 0 7).acc.acc = 0x0018000018000000 &&
    (t.dspSlice 1 0 7).acc.nexp = 0xFF && (t.dspSlice 1 0 7).out.expc = 10) = true := by decide

/-! Engine 0, RUNNING, with instructions at address 0. -/

/-- Store a 64-bit word at a local address of engine 0. -/
def put0 (s : State) (addr : Nat) (x : BitVec 72) : State :=
  match engMem addr with
  | some (b, i) => { s with mem := { s.mem with
      cells := SMap.write 0 s.mem.cells (wordKey (Pg.eng 0 3) (State.engAt 0 b i).1 (State.engAt 0 b i).2) x } }
  | none => s

/-- Engine 0 in a run state, with the instruction bytes `w` at address 0 and registers x1 and x2. -/
def eng0 (st : Nat) (w : Nat) (x1 x2 : Word) : State :=
  let s := at0 [(Pg.eng 0 0, Eng0.STATUS_STATE, 0, st)]
  put0 (s.setEngine 0 { core := { regs := [(1, x1), (2, x2)] } }) 0 (codeWord w)

/-- Whether the engine executes the instruction next. -/
def nextIs (s : State) (i : EngInstr) (len : Nat) : Bool :=
  s.mayRun 0 && s.bpAt 0 = none && !(s.engine 0).stepping && !(s.commitDiffers 0) && (match s.fetched 0 with | .ok x => x.1 = i && x.2 = len | .error _ => false)

def fetchFails (s : State) (a : Nat) : Bool := match s.fetched 0 with | .ok _ => false | .error b => b = a

set_option maxRecDepth 100000 in
theorem witness_integer_instructions : nextIs (eng0 2 0x002081B3 5 6) (.alu 0 false 3 1 2) 4 = true ∧ nextIs (eng0 2 0x00510193 5 6) (.aluImm 0 false 3 2 5) 4 = true ∧
    nextIs (eng0 2 0x022081B3 5 6) (.mul 0 3 1 2) 4 = true ∧ nextIs (eng0 2 0x000011B7 0 0) (.lui 3 0x1000) 4 = true ∧
    nextIs (eng0 2 0x00001197 0 0) (.auipc 3 0x1000) 4 = true ∧
    nextIs (eng0 2 0x00008067 8 0) (.jalr 0 1 0) 4 = true ∧ nextIs (eng0 2 0x00208463 5 5) (.branch 0 1 2 8) 4 = true ∧
    nextIs (eng0 2 0x10500073 0 0) .wfi 4 = true ∧ nextIs (eng0 2 0x30200073 0 0) .mret 4 = true ∧ nextIs (eng0 2 0x00000073 0 0) .ecall 4 = true ∧
    nextIs (eng0 2 0x00000000 0 0) .illegal 2 = true := by decide

theorem witness_jal : nextIs (eng0 2 0x008000EF 0 0) (.jal 1 8) 4 = true := by decide +kernel

theorem witness_integer_stops : State.reset.mayRun 0 = false ∧ (put0 (eng0 2 0 0 0) 0 3).mayRun 0 = true ∧ (put0 (eng0 2 0 0 0) 0 3).bpAt 0 = none ∧
    fetchFails (put0 (eng0 2 0 0 0) 0 3) 0 = true ∧ State.isInteger .fence = false ∧ nextIs (eng0 2 0x0FF0000F 0 0) .fence 4 = true := by decide

/-- Base of the scratchpad, and its last word. -/
def spad : Word := 0x10000000

theorem witness_loads : nextIs (eng0 2 0x0000A183 spad 0) (.load 2 3 1 0) 4 = true ∧ State.windowOf spad.toNat = none ∧ (eng0 2 0 0 0).wpAt 0 spad.toNat 4 false = none ∧
    spad.toNat % 4 = 0 ∧ engMem spad.toNat ≠ none ∧ engMem 0x1003FFFF ≠ none ∧ engMem 0x10040000 = none ∧ inPages 0x10040000 = false ∧
    badRead (localLook (eng0 2 0 0 0) 0 spad.toNat) = false ∧ badRead (localLook (put0 (eng0 2 0 0 0) spad.toNat 3) 0 spad.toNat) = true ∧
    ((spad + 1).toNat % 4 ≠ 0) := by decide

theorem witness_stores : nextIs (eng0 2 0x0020A023 spad 7) (.store 2 1 2 0) 4 = true ∧ (eng0 2 0 0 0).wpAt 0 spad.toNat 4 true = none ∧
    (eng0 2 0 0 0).get (Pg.eng 0 0) Eng0.CTL_IMEM_WR = 0 ∧ (eng0 2 0 0 0).flips (Pg.eng 0 3) 1 false = false ∧
    nextIs (eng0 2 0x1000A1AF spad 0) (.lr 3 1) 4 = true ∧ nextIs (eng0 2 0x1820A1AF spad 0) (.sc 3 1 2) 4 = true ∧
    nextIs (eng0 2 0x0020A1AF spad 0) (.amo 0 3 1 2) 4 = true ∧ nextIs (eng0 2 0x0820A1AF spad 0) (.amo 1 3 1 2) 4 = true ∧
    inSpad spad.toNat = true ∧ inSpad 0x1003FFFF = true ∧ inSpad 0x10040000 = false ∧ nextIs (eng0 2 0x0000100F 0 0) .fenceI 4 = true := by decide

theorem witness_reservation : ((eng0 2 0 0 0).core 0).resv ≠ some ((spad.toNat - 0x10000000) / 8) ∧
    (((eng0 2 0 0 0).setCore 0 { resv := some 0 }).core 0).resv = some ((spad.toNat - 0x10000000) / 8) := by decide

/-- A DSP instruction of the table of R269: opcode 0x0B, funct3, funct7[31:26], rs1 = x1, rd and rs2. -/
def dspWord (f3 f6 rd rs1 rs2 : Nat) : Nat := f6 * 2 ^ 26 + rs2 * 2 ^ 20 + rs1 * 2 ^ 15 + f3 * 2 ^ 12 + rd * 2 ^ 7 + 0x0B

/-- The encoding of the worked example of spec/09_spindle_engines.md: `DMACL` 0 with x10 and n = 0. -/
theorem test_dmacl_word : decodeEng 0x0005200B = (.dsp .dmacl 0 0 10 0 0, 4) ∧ dspWord 2 0 0 10 0 = 0x0005200B := by decide

set_option maxRecDepth 100000 in
theorem witness_dsp_extension : ([(0, 0, DspInstr.dmul), (0, 1, .dmac), (0, 2, .dmsu), (0, 3, .dmuli), (0, 4, .dmaci), (0, 5, .dmsui), (0, 12, .dwracc),
      (2, 0, .dmacl), (2, 1, .dmsul), (2, 2, .dmull)].all (fun x => nextIs (eng0 2 (dspWord x.1 x.2.1 0 1 2) 0 0) (.dsp x.2.2 0 0 1 2 2) 4)) = true ∧
    ([(6, DspInstr.dclr), (7, .dnorm), (13, .dadda)].all (fun x => nextIs (eng0 2 (dspWord 0 x.1 0 0 0) 0 0) (.dsp x.2 0 0 0 0 0) 4)) = true ∧
    ([(8, DspInstr.dmov), (9, .dexpc), (10, .drdlo), (11, .drdhi)].all (fun x => nextIs (eng0 2 (dspWord 0 x.1 3 0 0) 0 0) (.dsp x.2 0 3 0 0 0) 4)) = true ∧
    nextIs (eng0 2 (dspWord 1 0 3 0 0) 0 0) (.dsp .dldp 0 3 0 0 0) 4 = true ∧ nextIs (eng0 2 (dspWord 1 1 0 1 3) 0 0) (.dsp .dstp 0 0 1 3 3) 4 = true := by decide

/-- Engine 0 with source 3 of its interrupt controller enabled and raised, interrupts enabled. -/
def irq0 (w : Nat) : State :=
  let s := (eng0 2 w 0 0).set (Pg.eng 0 1) Eng1.ICTL_SRC_EN 1 3
  s.setEngine 0 { s.engine 0 with dmaIrq := true, core := { (s.core 0) with mie := true, meie := true, stack := [some 2] } }

theorem witness_csrs : (eng0 2 0x340110F3 0 0).fetchDetect 0 = eng0 2 0x340110F3 0 0 ∧ (irq0 0x7E0020F3).fetchDetect 0 = irq0 0x7E0020F3 ∧
     nextIs (eng0 2 0x340110F3 0 0) (.csr 1 1 2 0x340) 4 = true ∧ nextIs (eng0 2 0x7E0020F3 0 0) (.csr 2 1 0 0x7E0) 4 = true ∧
    nextIs (eng0 2 0x7E101073 0 0) (.csr 1 0 0 0x7E1) 4 = true ∧ nextIs (eng0 2 0x00100073 0 0) .ebreak 4 = true ∧
    (eng0 2 0x340110F3 0 0).csrGet 0 0x340 = some 0 ∧ (eng0 2 0 0 0).csrGet 0 0x7FF = none ∧ bits 0xF14 11 10 = 3 ∧ bits 0x340 11 10 ≠ 3 := by decide

theorem witness_interrupts : (irq0 0x7E0020F3).bestSource 0 = some (0, 3) ∧ (irq0 0).takesIrq 0 = true ∧ (eng0 2 0 0 0).takesIrq 0 = false ∧
    ((irq0 0).core 0).stack = some 2 :: [] ∧ ((irq0 0).engine 0).stepping = false ∧ nextIs (irq0 0x7E0020F3) (.csr 2 1 0 0x7E0) 4 = true ∧
    Accepts State.reset .monitor (Pg.eng 0 1) 0x184 0x00FF0000 = true ∧ Accepts State.reset .monitor (Pg.eng 63 1) 0x30C 0x574B0001 = true := by decide

/-- The watchdog and a timer of engine 0 enabled. -/
def timed (st warn : Nat) : State := (((eng0 st 0 0 0).set (Pg.eng 0 1) Eng1.WDT_CTL_EN 1).set (Pg.eng 0 1) Eng1.WDT_CTL_WARN_EN warn).set (Pg.eng 0 1) Eng1.TMR_CTL_EN 1 1

theorem witness_timers : (timed 2 0).flag (Pg.eng 0 1) Eng1.TMR_CTL_EN 1 = true ∧ (timed 2 0).frozen 0 1 = false ∧ (timed 2 0).get (Pg.eng 0 1) Eng1.WDT_CTL_EN ≠ 0 ∧
    (timed 2 0).frozen 0 2 = false ∧ (timed 2 1).get (Pg.eng 0 1) Eng1.WDT_CTL_WARN_EN ≠ 0 ∧ ((timed 2 1).engine 0).wdtWarned = false ∧
    ((timed 1 0).set (Pg.eng 0 0) Eng0.ENG_FREEZE_FREEZE 0).engStopped 0 = true ∧ ((timed 1 0).set (Pg.eng 0 0) Eng0.ENG_FREEZE_FREEZE 0).frozen 0 2 = false ∧
    (timed 2 0).hasUnits 0 = true ∧ (timed 2 0).engStopped 0 = false ∧ State.reset.get (Pg.eng 0 1) Eng1.WDT_CTL_EN = 0 := by decide

/-- Engine 0 with window 0 enabled, and a load from, or a store to, address 0x8000_0000. -/
def windowed (w : Nat) (en : Nat) : State := (eng0 2 w 0x80000000 7).set (Pg.eng 0 0) Eng0.ENG_WIN_CTL_EN en 0
def winLoad : Nat := 0x0000A183
def winStore : Nat := 0x0020A023

set_option maxRecDepth 100000 in
theorem witness_windows : nextIs (windowed winLoad 1) (.load 2 3 1 0) 4 = true ∧ nextIs (windowed winStore 1) (.store 2 1 2 0) 4 = true ∧
    State.windowOf 0x80000000 = some 0 ∧ State.windowOf 0xBFFFFFFC = some 3 ∧ (windowed winLoad 1).effAddr 0 1 0 = 0x80000000 ∧
    (windowed winLoad 1).wpAt 0 0x80000000 4 false = none ∧ (windowed winStore 1).wpAt 0 0x80000000 4 true = none ∧
    (windowed winLoad 1).flag (Pg.eng 0 0) Eng0.ENG_WIN_CTL_EN 0 = true ∧ (windowed winLoad 0).flag (Pg.eng 0 0) Eng0.ENG_WIN_CTL_EN 0 = false ∧
    (windowed winLoad 1).freeTag (engEndpoint 0) = some 0 ∧ (windowed winLoad 1).mayIssue (engEndpoint 0) = true ∧
    ((windowed winLoad 1).engine 0).stores.length + ((windowed winLoad 1).engine 0).posted.length < 8 ∧
    ((windowed winLoad 1).engine 0).stores.any (fun x => x.2 = 0) = false ∧ ((windowed winLoad 1).engine 0).posted.any (fun x => x.win = 0) = false := by decide

/-- Eight posted stores fill the buffer; one of them is to window 0. -/
def posted : State := (windowed winStore 1).setEngine 0 { (windowed winStore 1).engine 0 with stores := (List.range 8).map (fun n => (n, 0)) }

def onePosted : State := (windowed winStore 1).setEngine 0 { (windowed winStore 1).engine 0 with stores := [(5, 0)] }

set_option maxRecDepth 100000 in
theorem witness_posted_stores : nextIs posted (.store 2 1 2 0) 4 = true ∧ 8 ≤ (posted.engine 0).stores.length + (posted.engine 0).posted.length ∧
    (posted.engine 0).stores.any (fun x => x.2 = 0) = true ∧ nextIs onePosted (.store 2 1 2 0) 4 = true ∧
    (onePosted.engine 0).stores.length + (onePosted.engine 0).posted.length < 8 ∧ (onePosted.engine 0).stores.any (fun x => x.2 = 0) = true ∧
    posted.flag (Pg.eng 0 0) Eng0.ENG_WIN_CTL_EN 0 = true := by decide

/-- A response of `code` at engine 0's endpoint for tag 5, which is that of a load, or of a store by window 0. -/
def answered0 (use : ReqUse) (code : Nat) : State :=
  let s := eng0 2 0 0 0
  let t := s.setEngine 0 { s.engine 0 with load := some { rd := 3, funct3 := 2, win := 0, tag := 5, addr := 0x80000000, len := 4 }, stores := [(5, 0)] }
  t.setSkEnd (engEndpoint 0) { respQ := [(true, statusTo { hdr := mkHdr 3 (engEndpoint 0) 0 0 1 5, data := 0 } code false)], outstanding := [{ tag := 5, prio := 0, flits := [], use := use }] }

def waitingStore : State :=
  let s := answered0 (.store 0) 0
  s.setEngine 0 { s.engine 0 with posted := [PostedStore.mk 0 0 1600 0 [1]] }

set_option exponentiation.threshold 1024 in
set_option maxRecDepth 100000 in
theorem witness_responses : (answered0 .load 0).clock.stopped = false ∧ isEndpoint (engEndpoint 0) = true ∧ isEndpoint (engEndpoint 63) = true ∧
    (((answered0 .load 3).skEnd (engEndpoint 0)).respQ.head?.map (fun f => hdrTag f.2)) = some 5 ∧
    (((answered0 .load 3).skEnd (engEndpoint 0)).respQ.head?.map (fun f => f.2.data.toNat % 8)) = some 3 ∧
    (((answered0 (.store 0) 0).skEnd (engEndpoint 0)).outstanding.find? (fun r => r.tag = 5)).isSome = true ∧
    ((answered0 .load 0).engine 0).load.isSome = true ∧ ((answered0 .load 0).engine 0).stepping = false ∧
    (5, 0) ∈ ((answered0 (.store 0) 0).engine 0).stores ∧ (waitingStore.engine 0).posted = [PostedStore.mk 0 0 1600 0 [1]] ∧
    waitingStore.mayIssue (engEndpoint 0) = true ∧
    ((waitingStore.engine 0).stores.filter (· ≠ (5, 0))).all (fun y => y.2 ≠ 0) = true := by decide

/-- Engine 0's DMA enabled with one descriptor of zeros in its ring, not yet started, and one that is done. -/
def ringed : State := ((eng0 2 0 0 0).set (Pg.eng 0 2) Eng2.DMA_CTL_EN 1).set (Pg.eng 0 2) Eng2.DMA_HEAD_HEAD 1
def dmaDone : State :=
  let d : DmaDesc := { index := 0, prio := 0, irq := true, srcLocal := true, dstLocal := true, src := 0, srcEp := 0, dst := 0, dstEp := 0, len := 0, resp := 3, done := true }
  ringed.setEngine 0 { ringed.engine 0 with dma := [d] }

set_option maxRecDepth 100000 in
theorem witness_dma : (ringed.set (Pg.eng 0 2) Eng2.DMA_RING_LOG2_LOG2 4).dmaMayStart 0 = true ∧ ringed.clock.stopped = false ∧ (ringed.engine 0).dma = [] ∧
    State.reset.dmaMayStart 0 = false ∧ ((ringed.portBRead 0 (ringed.dmaAt 0 0) 32).1.map List.length) = some 32 ∧
    State.dmaDecode 0 (List.replicate 32 0) ≠ none ∧ State.dmaDecode 0 (List.replicate 32 255) = none ∧
    (dmaDone.engine 0).dma.map (·.done) = [true] ∧ dmaDone.engState 0 ≠ 4 ∧ dmaDone.flips (Pg.eng 0 3) 1 false = false ∧
    badRead (localLook dmaDone 0 (dmaDone.dmaAt 0 0 + 24)) = false ∧ Accepts State.reset .monitor (Pg.eng 0 2) 0x108 1 = true ∧
    Accepts State.reset .monitor (Pg.eng 0 2) 0x010 3 = true := by decide

/-- Engine 0 that writes its virtual terminal, the output empty or full, and one that reads it. -/
def terminal (w n block : Nat) : State :=
  let s := (eng0 2 w 0x20003000 65).set (Pg.eng 0 3) Eng3.VT_CTL_BLOCK block
  s.setEngine 0 { s.engine 0 with vtOut := List.replicate n 0 }

set_option maxRecDepth 100000 in
theorem witness_terminal : nextIs (terminal 0x1820A023 0 0) (.store 2 1 2 0x180) 4 = true ∧ (terminal 0x1820A023 0 0).effAddr 0 1 0x180 = vtTxAddr ∧
    (terminal 0x1820A023 0 0).wpAt 0 vtTxAddr 4 true = none ∧ (terminal 0 0 0).isChecker 0 = false ∧
    ((terminal 0 15 0).engine 0).vtOut.length < 16 ∧ 16 ≤ ((terminal 0 16 1).engine 0).vtOut.length ∧ (terminal 0 16 1).flag (Pg.eng 0 3) Eng3.VT_CTL_BLOCK = true ∧
    (terminal 0 16 0).flag (Pg.eng 0 3) Eng3.VT_CTL_BLOCK = false ∧ nextIs (terminal 0x1840A183 0 0) (.load 2 3 1 0x184) 4 = true ∧
    (terminal 0 0 0).effAddr 0 1 0x184 = vtRxAddr ∧ (terminal 0 0 0).wpAt 0 vtRxAddr 4 false = none ∧
    Accepts State.reset .monitor (Pg.eng 0 3) 0x108 3 = true ∧ Accepts State.reset .monitor (Pg.eng 0 3) 0x10C 3 = true := by decide

theorem witness_run_states : Accepts State.reset .monitor (Pg.eng 0 0) 0x010 2 = true ∧ bit (2 : Word).toNat 8 = State.reset.flag (Pg.eng 0 0) Eng0.CTL_LOCKSTEP ∧
    bit (2 : Word).toNat 9 = false ∧ (eng0 2 0 0 0).get (Pg.eng 0 0) Eng0.STATUS_PAIRED = 0 ∧ Accepts (eng0 2 0 0 0) .monitor (Pg.eng 0 0) 0x010 2 = true ∧
    Accepts (eng0 1 0 0 0) .monitor (Pg.eng 0 0) 0x010 1 = true ∧ (eng0 1 0 0 0).engState 0 = 1 ∧ ((eng0 1 0 0 0).engine 0).subst = none ∧
    (eng0 1 0 0 0).get (Pg.eng 0 1) Eng1.WDT_STAT_PENDING = 0 ∧ Accepts (eng0 2 0 0 0) .monitor (Pg.eng 0 0) 0x010 4 = true ∧ (eng0 2 0 0 0).engState 0 = 2 := by decide

/-- Engines 0 and 1 as a lockstep pair, both HALTED or not yet paired; and engine 0 on its way to the spare. -/
def paired (xs : List (Nat × RegField × Nat × Nat)) : State :=
  at0 ([(Pg.eng 0 0, Eng0.CTL_LOCKSTEP, 0, 1), (Pg.eng 1 0, Eng0.CTL_LOCKSTEP, 0, 1), (Pg.eng 0 0, Eng0.STATUS_STATE, 0, 1),
    (Pg.eng 1 0, Eng0.STATUS_STATE, 0, 1)] ++ xs)
def checked : State := paired [(Pg.eng 0 0, Eng0.STATUS_PAIRED, 0, 1), (Pg.eng 1 0, Eng0.STATUS_PAIRED, 0, 1), (Pg.eng 1 0, Eng0.STATUS_STATE, 0, 5)]
def toSpare (st : Nat) (lasting : Bool) (back : Nat) : State :=
  (eng0 st 0 0 0).setEngine 0 { (eng0 st 0 0 0).engine 0 with subst := some (Subst.mk back lasting .config 0 false) }

theorem witness_lockstep_and_spare : Accepts checked .monitor (Pg.eng 0 0) 0x010 0 = true ∧ checked.get (Pg.eng 0 0) Eng0.CTL_LOCKSTEP = 1 ∧
    checked.get (Pg.eng 0 0) Eng0.STATUS_PAIRED = 1 ∧ checked.checkerOf 0 = some 1 ∧ checked.engState 1 = 5 ∧ (paired []).engState 1 = 1 ∧
    (paired []).flag (Pg.eng 0 0) Eng0.CTL_LOCKSTEP = true ∧ (paired []).flag (Pg.eng 0 0) Eng0.STATUS_PAIRED = false ∧
    (eng0 3 0 0 0).engState 0 = 3 ∧ ((eng0 3 0 0 0).engine 0).load = none ∧ (eng0 2 0 0 0).spareServes 0 = false ∧
    (at0 [(Pg.eng 5 0, Eng0.STATUS_PHYS, 0, 16)]).spareServes 0 = true ∧ ((eng0 2 0 0 0).engine 0).subst = none := by decide

theorem witness_substitution_written : Accepts (eng0 2 0 0 0) .monitor (Pg.eng 0 0) 0x010 0x200 = true ∧ bits (0x200 : Word).toNat 2 0 = 0 ∧
    bit (0x200 : Word).toNat 9 = true ∧ bit (0x200 : Word).toNat 8 = (eng0 2 0 0 0).flag (Pg.eng 0 0) Eng0.CTL_LOCKSTEP ∧
    Accepts checked .monitor (Pg.eng 1 0) 0x010 0x300 = true ∧ checked.isChecker 1 = true ∧
    bit (0x300 : Word).toNat 8 = checked.flag (Pg.eng 1 0) Eng0.CTL_LOCKSTEP := by decide

theorem witness_substitutions : ((toSpare 1 false 2).engine 0).subst = some (Subst.mk 2 false .config 0 false) ∧
    (toSpare 1 false 2).substRests 0 (Subst.mk 2 false .config 0 false) = true ∧ (toSpare 3 false 2).substRests 0 (Subst.mk 2 false .config 0 false) = false ∧
    (toSpare 1 false 2).spareServes 0 = false ∧ ((toSpare 1 false 2).set (Pg.eng 5 0) Eng0.STATUS_PHYS 16).spareServes 0 = true ∧
    (toSpare 4 true 2).engState 0 = 4 ∧ (toSpare 1 false 2).get (Pg.eng 0 1) Eng1.WDT_STAT_PENDING = 0 ∧
    (∀ g ∈ State.dieEngines 0, (toSpare 1 false 2).engState g ≠ 4) ∧ ((toSpare 1 false 2).engine 0).load = none ∧
    ((toSpare 1 false 2).engine 0).stores = [] ∧ ((toSpare 1 false 2).engine 0).dma.all (fun d => d.tag = none) = true ∧
    ((toSpare 1 false 2).set (Pg.eng 5 0) Eng0.STATUS_STATE 4).engState 5 = 4 ∧ 5 ∈ State.dieEngines 0 := by decide

/-- Engine 0 with a breakpoint at address 0, and one with a watchpoint on loads of the first scratchpad word. -/
def broken : State := ((eng0 2 0x00510193 0 0).set (Pg.eng 0 0) Eng0.ENG_DBG_BP_EN 1 3)
def watched : State :=
  let s := (eng0 2 0x0000A183 spad 0).set (Pg.eng 0 0) Eng0.ENG_DBG_WP_ADDR_ADDR 0x10000000 0
  (s.set (Pg.eng 0 0) Eng0.ENG_DBG_WP_CTL_EN 1 0).set (Pg.eng 0 0) Eng0.ENG_DBG_WP_CTL_KIND 1 0

theorem witness_run_control : Accepts (eng0 2 0 0 0) .monitor (Pg.eng 0 0) 0x400 1 = true ∧ Accepts (eng0 1 0 0 0) .monitor (Pg.eng 0 0) 0x400 2 = true ∧
    Accepts (eng0 1 0x00510193 0 0) .monitor (Pg.eng 0 0) 0x400 4 = true ∧ ((eng0 1 0x00510193 0 0).core 0).mie = false ∧ broken.mayRun 0 = true ∧
    broken.bpAt 0 ≠ none ∧ nextIs watched (.load 2 3 1 0) 4 = true ∧ (eng0 2 0x00510193 0 0).isWatched 0 (.aluImm 0 false 3 2 5) = false ∧
    (eng0 1 0 0 0).get (Pg.eng 0 0) Eng0.ENG_DBG_REGSEL_CSR = 0 ∧ (eng0 1 0 0 0).get (Pg.eng 0 0) Eng0.ENG_DBG_REGSEL_NUM < 32 ∧
    Accepts (eng0 1 0 0 0) .monitor (Pg.eng 0 0) 0x444 5 = true ∧ Reaches (eng0 1 0 0 0) .monitor (Pg.eng 0 0) = true := by decide

theorem witness_watchpoint : watched.wpAt 0 spad.toNat 4 false = some 0 := by decide

/-- A flit of a class to an endpoint, from element 1600, with the right header check. -/
def flitTo (dst cls age : Nat) (data : BitVec 512 := 0) : Flit := { hdr := mkHdr dst 1600 0 age cls 5, data := data }

/-- The router of engine 0 (die 1, column 1, row 1) with a packet that arrives at its port 0. -/
def arriving (f : Flit) : State := State.reset.setSkLink (linkKey 1 1 2 2) [{ flit := f }]

set_option exponentiation.threshold 1024 in
set_option maxRecDepth 100000 in
theorem witness_routers : isRouter 1 1 1 = true ∧ isRouter 0 3 3 = true ∧ isRouter 6 7 0 = true ∧ (arriving (flitTo 585 1 0)).clock.stopped = false ∧
    { State.reset with clock := { State.reset.clock with stopped := true } }.clock.stopped = true ∧ (arriving (flitTo 585 1 0)).bypass 1 1 1 = false ∧
    (arriving (flitTo 585 1 0)).skLink (linkKey 1 (neighbor 1 1 1 0).1 (neighbor 1 1 1 0).2 (opposite 1 0)) = [{ flit := flitTo 585 1 0 }] ∧
    (flitTo 585 1 0).good = true ∧ ({ hdr := (flitTo 585 1 0).hdr ^^^ 1, data := 0 } : Flit).good = false ∧ hdrDst (flitTo 585 1 0) = 585 := by decide

set_option exponentiation.threshold 1024 in
set_option maxRecDepth 100000 in
theorem witness_routes : (arriving (flitTo 7 9 0)).noRoute 1 1 1 (flitTo 7 9 0) = true ∧ isResponse (flitTo 7 9 0) = true ∧ isResponse (flitTo 7 1 0) = false ∧
    (arriving (flitTo 585 1 0)).noRoute 1 1 1 (flitTo 585 1 0) = false ∧ (arriving (flitTo 585 1 0)).asleepHere 1 1 1 (flitTo 585 1 0) = false ∧
    ((arriving (flitTo 585 1 0)).set (routerPage 1 1 1) Router.SKR_PORT_PSTATE 2 1).asleepHere 1 1 1 (flitTo 585 1 0) = true ∧
    (arriving (flitTo 585 1 0)).flag (routerPage 1 1 1) Router.SKR_PORT_WAKE_ON_PKT 1 = false ∧ (epDie 585, epX 585, epY 585, epPort 585) = (1, 1, 1, 1) ∧
    gatewayAt 1 1 1 1 = none ∧
    epDie (engEndpoint 5) = 1 ∧ State.towards 1 1 1 (epX (engEndpoint 5)) (epY (engEndpoint 5)) = 1 :: [0] ∧ hdrAge (flitTo 585 1 253) < 254 := by decide

theorem witness_room : (arriving (flitTo 585 9 0)).canTake 1 1 1 1 { flit := flitTo 585 9 0 } = true := by decide

/-- Engine 0's endpoint with a packet to inject; one router of network 1 that asks for the saturation token. -/
def injecting : State := State.reset.setSkEnd 585 { txQ := [flitTo (engEndpoint 5) 1 0] }
def asking : State := { State.reset with skein := { State.reset.skein with wanted := [(1, [(63, flitTo 585 1 254)])] } }

set_option exponentiation.threshold 1024 in
set_option maxRecDepth 100000 in
theorem witness_injection : State.reset.nextInject 1 1 1 matches none ∧ injecting.nextInject 1 1 1 matches some (.other 1 _) ∧
    injecting.bypass 1 1 1 = false ∧ injecting.flag (routerPage 1 1 1) Router.SKR_TEST_HCHK_FLIP = false ∧ SMap.read false asking.skein.taken 1 = false ∧
    (SMap.read [] asking.skein.wanted 1).find? (fun v => v.1 = 63) = some (63, flitTo 585 1 254) ∧ (∀ w ∈ SMap.read [] asking.skein.wanted 1, 63 ≤ w.1) ∧
    (∀ v ∈ SMap.read [] State.reset.skein.wanted 1, 64 ≤ v.1) := by decide

/-- An endpoint with one request at the head of its queue. -/
def asked (e : Nat) (f : Flit) : State := State.reset.setSkEnd e { reqQ := [f] }

set_option exponentiation.threshold 1024 in
set_option maxRecDepth 100000 in
theorem witness_targets : isEndpoint 585 = true ∧ State.reset.serves 585 = true ∧ State.reset.headRequest 585 = none ∧
    (asked 585 (flitTo 585 1 0)).headRequest 585 = some (flitTo 585 1 0) ∧ hdrClass (flitTo 585 1 0) = 1 ∧ hdrClass (flitTo 585 6 0) = 6 ∧
    classListed (hdrClass (flitTo 585 7 0)) = false ∧ epType 585 = 2 ∧ epType 1536 = 6 ∧ epType 1600 = 10 ∧ epType 1544 = 7 ∧ isEndpoint 1536 = true ∧
    (asked 585 (flitTo 585 1 0)).serves 585 = true ∧ (asked 1536 (flitTo 1536 1 0)).serves 1536 = true ∧
    { State.reset with clock := { State.reset.clock with stopped := true } }.serves 585 = false := by decide

set_option exponentiation.threshold 1024 in
set_option maxRecDepth 100000 in
theorem witness_commands : (let f := flitTo 585 1 0 (BitVec.ofNat 512 (cmdWord 0x10000000 64))
      cmdReserved f = 0 ∧ cmdLen f = 64 ∧ cmdOffset f % 64 + cmdLen f ≤ 64 ∧ State.engHolds (cmdOffset f) 64 = true) ∧
    cmdReserved (flitTo 585 1 0 (BitVec.ofNat 512 (2 ^ 55))) ≠ 0 ∧ 64 < cmdOffset (flitTo 585 1 0 63) % 64 + cmdLen (flitTo 585 1 0 (BitVec.ofNat 512 (cmdWord 63 2))) ∧
    0x3FFFFFF < cmdOffset (flitTo 1536 1 0 (BitVec.ofNat 512 (cmdWord 0x4000000 4))) ∧ cmdLen (flitTo 1536 1 0 (BitVec.ofNat 512 (cmdWord 0 2))) = 2 ∧
    hdrClass (flitTo 585 3 0) + hdrClass (flitTo 585 4 0) = 7 := by decide

/-- A source with a response to tag 5, outstanding or not; and one whose request has not been answered. -/
def waiting (e : Nat) (rs : List SkReq) (cls : Nat) (ok : Bool := true) : State :=
  State.reset.setSkEnd e { respQ := [(ok, flitTo e cls 0)], outstanding := rs }
def req5 (use : ReqUse) (again : Bool) : SkReq := { tag := 5, prio := 0, flits := [flitTo 1536 1 0], use := use, retried := again }

def injected : State := State.reset.setSkEnd 585 { outstanding := [{ req5 (.store 1) true with sent := true }] }

set_option exponentiation.threshold 1024 in
set_option maxRecDepth 100000 in
theorem witness_sources : isEndpoint 585 = true ∧ 585 = epOf 1 1 1 (epPort 585) ∧ ((waiting 585 [] 8 false).skEnd 585).respQ.head? = some (false, flitTo 585 8 0) ∧
    ((waiting 585 [] 8).skEnd 585).respQ.head? = some (true, flitTo 585 8 0) ∧
    hdrClass (flitTo 585 8 0) = 8 ∧ hdrClass (flitTo 585 9 0) = 9 ∧ ((waiting 585 [] 9).skEnd 585).outstanding = [] ∧
    ((waiting 585 [req5 .load false] 9).skEnd 585).outstanding.find? (fun r => r.tag = hdrTag (flitTo 585 9 0)) = some (req5 .load false) ∧
    ((waiting 585 [req5 (.store 1) true] 9).skEnd 585).outstanding.find? (fun r => r.tag = 5) = some (req5 (.store 1) true) ∧
    (req5 .load true).flits = flitTo 1536 1 0 :: [] ∧ epType 1 = 1 ∧ 1 = attachEp 1 0 0 ∧ 1 = epOf 1 0 0 (epPort 1) ∧ isEndpoint 1 = true ∧
    (injected.inFlight 585).find? (fun r => r.tag = 5) = some { req5 (.store 1) true with sent := true } ∧
    (∀ r ∈ (waiting 585 [] 9).inFlight 585, r.tag ≠ 5) := by decide

/-- The attach port of column 0, row 0 of die 1 with what its last edge took and presents. -/
def attachTakes (t : Option Flit) (r : Option Nat) : State :=
  State.reset.setSkEnd 1 { tDue := t, rDue := r, urgQ := [flitTo 1 1 0], reqQ := [flitTo 1 1 0] }

set_option exponentiation.threshold 1024 in
set_option maxRecDepth 100000 in
theorem witness_attach_ports : State.reset.attachReady 1 (flitTo 1536 1 0) = true ∧
    ((attachTakes (some (flitTo 1536 1 0)) (some 1)).skEnd 1).tDue = some (flitTo 1536 1 0) ∧ (State.reset.skEnd 1).tDue = none ∧
    ((attachTakes none (some 1)).skEnd 1).rDue = some 1 ∧ ((attachTakes none (some 1)).skEnd 1).urgQ = flitTo 1 1 0 :: [] ∧
    ((attachTakes none (some 0)).skEnd 1).rDue = some 0 ∧ ((attachTakes none (some 0)).skEnd 1).reqQ = flitTo 1 1 0 :: [] ∧
    isResponse (flitTo 1536 1 0) = false ∧ isResponse (flitTo 1536 9 0) = true ∧
    Accepts State.reset .monitor (routerPage 1 1 1) 0x010 1 = true ∧ bit (1 : Word).toNat 0 = true ∧
    ((State.reset.set (routerPage 1 1 1) Router.STATUS_BYPASS 1).bypass 1 1 1 = true) ∧
    ((State.reset.set (routerPage 1 1 1) Router.SKR_PORT_PSTATE 1 1).portState' 585 = 1) ∧ State.reset.endDrained 585 = true ∧
    (injecting.endDrained 585 = false) := by decide

/-- A domain that drains, its vote withdrawn or not, whose engine endpoint has something to send. -/
def draining : State :=
  let s := injecting.set (routerPage 1 1 1) Router.SKR_PORT_PSTATE 1 1
  s.set Pg.powerDom PowerDom.DOM_STATE_STATE 3 ((domains.find? (fun m => (domEnds m).elem 585)).getD 0)

set_option exponentiation.threshold 1024 in
set_option maxRecDepth 100000 in
theorem witness_drains : (let m := (domains.find? (fun m => (domEnds m).elem 585)).getD 0
      domains.find? (fun m => (domEnds m).elem 585) = some m ∧ draining.domState m = 3 ∧ draining.isForced m = false) ∧
    draining.portState' 585 = 1 ∧ draining.endDrained 585 = false ∧ State.reset.portState' 585 ≠ 1 := by decide

/-- L lane 0 in a state, enabled, with fields of its page set. -/
def lane0 : Nat := Pg.lane true 0
def laned (st : Nat) (xs : List (Nat × RegField × Nat × Nat)) : State := at0 ((lane0, Lane.STATUS_STATE, 0, st) :: (lane0, Lane.CTL_EN, 0, 1) :: xs)

theorem witness_lanes : Accepts State.reset .monitor lane0 0x010 1 = true ∧ State.reset.get lane0 Lane.CTL_EN = 0 ∧ State.reset.laneState lane0 = 0 ∧
    Accepts (laned 6 []) .monitor lane0 0x010 0 = true ∧ Accepts (laned 6 []) .monitor lane0 0x010 3 = true ∧ (laned 6 []).laneState lane0 = 6 ∧
    (laned 8 []).laneState lane0 = 8 ∧ (laned 1 [(laneOpll lane0, Opll.OPLL_STATUS_LOCK_A, 0, 1)]).lanePllLocked lane0 = true ∧ (laned 2 []).laneState lane0 = 2 ∧
    (laned 3 []).laneStep lane0 = 3 ∧ (laned 5 []).laneStep lane0 = 5 ∧ (laned 7 []).laneStep lane0 = 3 ∧ (laned 6 []).laneLooped lane0 = false ∧
    (laned 4 [(lane0, Lane.CTL_LOOP, 0, 1)]).laneLooped lane0 = true ∧
    ((laned 7 []).setLaneUnit lane0 { phase := 5, counted := true }).laneStep lane0 = 5 ∧
    ((laned 7 []).setLaneUnit lane0 { phase := 5, counted := true }).laneUnit lane0 = { phase := 5, counted := true } := by decide

theorem witness_training_rates : (laned 3 [(lane0, Lane.LANE_RATE_OS, 0, 0), (lane0, Lane.LANE_LT_MODE, 0, 0)]).laneTrainOk lane0 = true ∧
    (laned 6 [(lane0, Lane.PRBS_CTL_CHK_EN, 0, 1)]).flag lane0 Lane.PRBS_CTL_CHK_EN = true ∧
    (laned 6 [(lane0, Lane.STATUS_FEC_LOCK, 0, 1)]).flag lane0 Lane.STATUS_FEC_LOCK = true ∧
    (((laned 6 []).setLaneUnit lane0 { aligned := true }).laneUnit lane0).aligned = true := by decide

theorem witness_octets : isOctet 5 0 = true ∧ isOctet 6 7 = true ∧ Accepts State.reset .monitor (Pg.opll 5 0) 0x010 1 = true ∧
    State.reset.flag (Pg.opll 5 0) (State.opllEnField false) = false ∧ (laned 6 [(Pg.opll 5 0, Opll.OPLL_STATUS_LOCK_A, 0, 1)]).flag (Pg.opll 5 0) (State.opllLockField false) = true ∧
    (laned 6 [(lane0, Lane.PRBS_CTL_CHK_EN, 0, 1)]).prbsActs lane0 = true ∧ (laned 6 [(lane0, Lane.PRBS_STAT_LOCK, 0, 1)]).flag lane0 Lane.PRBS_STAT_LOCK = true ∧
    Reaches State.reset .pcie lane0 = true ∧ State.reset.get lane0 Lane.PRBS_STAT_LOCK = 0 ∧ State.reset.peekOf .pcie true = false ∧
    State.reset.peekOf .monitor true = true ∧ Accepts State.reset .monitor lane0 0x124 1 = true ∧ Accepts State.reset .monitor lane0 0x148 1 = true := by decide

/-- The adapter of octet 0 of die 5 with an active entry 15 that matches every frame of lane index 0 of at least 8 bytes. -/
def ad0 : Nat := Pg.adapter 5 4
def reflex (u : AdapterUnit) : State :=
  let s := laned 6 [(lane0, Lane.LANE_RATE_PCS, 0, 4)]
  s.setAdapter ad0 { u with active := [(15, { en := true, lanes := 0xFF })] }

theorem witness_reflex : ((State.reset.setLaneUnit lane0 { rxFrames := [List.replicate 8 0] }).laneUnit lane0).rxFrames = List.replicate 8 0 :: [] ∧
    (State.reset.laneUnit lane0).rxFrames = [] ∧ laneAdapter lane0 = ad0 ∧ (reflex {}).laneState lane0 = 6 ∧ (reflex {}).get lane0 Lane.LANE_RATE_PCS = 4 ∧
    State.rfxMatches ((reflex {}).rfxActive ad0 15) (laneIndex lane0) (List.replicate 8 0) = true ∧
    (∀ j < 15, State.rfxMatches ((reflex {}).rfxActive ad0 j) (laneIndex lane0) (List.replicate 8 0) = false) ∧
    ((reflex {}).rfxActive ad0 15).checkFcs = false ∧ ((reflex {}).rfxActive ad0 15).holdoff = 0 ∧ State.fcsGood (List.replicate 8 0) = false ∧
    ((reflex {}).adapter ad0).queue.length < 16 := by decide +kernel

/-- A firing, and an adapter with it in its queue, in flight, and with a response to insert. -/
def fired : Firing := { entry := 15, laneL := true, lane := 0, act := {}, copy := [] }

/-- A response at the adapter's own endpoint, with the RELEASE in flight. -/
def releaseAnswered : State :=
  (reflex { flight := some fired }).setSkEnd (adapterEp 5 4) { respQ := [(true, flitTo (adapterEp 5 4) 9 0)], outstanding := [req5 .release false] }

set_option maxRecDepth 100000 in
theorem witness_release_answers : ((releaseAnswered.skEnd (adapterEp 5 4)).respQ = (true, flitTo (adapterEp 5 4) 9 0) :: []) ∧
    (∃ r ∈ (releaseAnswered.skEnd (adapterEp 5 4)).outstanding, r.tag = hdrTag (flitTo (adapterEp 5 4) 9 0)) ∧ (releaseAnswered.adapter ad0).flight ≠ none := by
  decide

theorem witness_releases : ((reflex { queue := [fired] }).adapter ad0).queue = fired :: [] ∧ ((reflex { queue := [fired] }).adapter ad0).flight = none ∧
    ((reflex { flight := some fired }).adapter ad0).flight ≠ none ∧ 16 ≤ ((reflex { queue := List.replicate 16 fired }).adapter ad0).queue.length ∧
    ((reflex { responses := [(0, [])] }).adapter ad0).responses = (0, []) :: [] ∧ (reflex {}).laneState (octetLane 5 4 0) = 6 ∧
    (reflex {}).laneState (octetLane 5 4 1) ≠ 6 ∧ Accepts State.reset .monitor ad0 0x108 0xFFFF = true ∧
    ((reflex { recent := [(1600, 5)] }).adapter ad0).recent.elem (1600, 5) = true := by decide

set_option exponentiation.threshold 1024 in
set_option maxRecDepth 100000 in
theorem witness_release_messages : (reflex { queue := [fired] }).freeTag (adapterEp 5 4) = some 0 ∧ (reflex { queue := [fired] }).mayIssue (adapterEp 5 4) = true ∧
    ((reflex {}).setSkEnd (adapterEp 5 4) { reqQ := [flitTo (adapterEp 5 4) 5 0 1] }).headRequest (adapterEp 5 4) = some (flitTo (adapterEp 5 4) 5 0 1) ∧
    bits (flitTo (adapterEp 5 4) 5 0 1).data.toNat 7 0 = 1 ∧ epType 1600 ≠ 5 ∧ epType (adapterEp 5 4) = 5 ∧
    (reflex {}).flag ad0 Adapter.AD_CTL_SW_RELEASE = false ∧ (reflex {}).releaseReason 5 4 0 0 0 0 = some 3 ∧
    ((reflex {}).set ad0 Adapter.RESP_LEN_LEN 8 0).releaseReason 5 4 0 0 8 0 = none := by decide

/-! ## DDR channels -/

/-- Channel 0 in a state, its unit as given, with fields of its page set. -/
def ddr0 (st : Nat) (u : DdrUnit) (xs : List (Nat × RegField × Nat × Nat) := []) : State :=
  (at0 ((Pg.ddr 0, Ddr.STATUS_STATE, 0, st) :: xs)).setDdrUnit 0 u

def dimm1 : Dimm := { spdMax := 9999 }
def rd0 : DdrReq := { id := 1, write := false, line := 0, prio := 0 }
def wr0 : DdrReq := { id := 2, write := true, line := 0, prio := 0 }

theorem witness_ddr_bring_up : Accepts (ddr0 0 {}) .monitor (Pg.ddr 0) 0x010 9 = true ∧ (ddr0 0 {}).ddrState 0 = 0 ∧
    Accepts (ddr0 3 {}) .monitor (Pg.ddr 0) 0x010 0 = true ∧ (ddr0 3 {}).ddrState 0 = 3 ∧ Accepts (ddr0 6 {}) .monitor (Pg.ddr 0) 0x010 3 = true ∧
    (ddr0 6 {}).ddrState 0 = 6 ∧ (ddr0 1 { step := 1 }).ddrState 0 = 1 ∧ ((ddr0 1 { step := 1 }).ddrUnit 0).step = 1 ∧
    (ddr0 5 { step := 8, retry := true }).ddrState 0 = 5 ∧ ((ddr0 5 { step := 8, retry := true }).ddrUnit 0).step = 8 ∧
    ((ddr0 1 { step := 2 }).ddrUnit 0).step = 2 ∧ ((ddr0 5 { step := 8, retry := true }).ddrUnit 0).retry = true := by decide

theorem witness_ddr_module : State.dimmOk dimm1 = true ∧ State.dimmOk {} = true ∧ State.dimmOk { kind := 3 } = false ∧
    (ddr0 1 { step := 1 } [(Pg.ddr 0, Ddr.DDR_SPEED_REQ, 0, 6400)]).ddrRate 0 dimm1 = some 6400 ∧ (ddr0 1 { step := 1 }).ddrRate 0 { spdMax := 3199 } = none ∧
    (ddr0 1 {} [(Pg.ddr 0, Ddr.CTL_NO_ZERO, 0, 1)]).flag (Pg.ddr 0) Ddr.CTL_NO_ZERO = true ∧ (ddr0 1 {}).flag (Pg.ddr 0) Ddr.CTL_NO_ZERO = false ∧
    (ddr0 2 {}).ddrState 0 = 2 ∧ (ddr0 4 {}).ddrState 0 = 4 := by decide

set_option exponentiation.threshold 1024 in
set_option maxRecDepth 100000 in
theorem witness_ddr_requests : (ddr0 3 {}).ddrCapacity 0 = 2 ^ 29 ∧ (ddr0 3 { queue := [wr0] }).queuedWrite 0 0 = some wr0 ∧
    (ddr0 3 {}).queuedWrite 0 0 = none ∧ 128 ≤ (((ddr0 3 { queue := List.replicate 128 rd0 }).ddrUnit 0).queue.filter (fun r => r.write == false)).length ∧
    64 ≤ (((ddr0 3 { queue := List.replicate 64 wr0 }).ddrUnit 0).queue.filter (fun r => r.write == true)).length ∧
    (ddr0 3 {} [(Pg.ddr 0, Ddr.DDR_SCHED_WR_HIGH, 0, 1)]).get (Pg.ddr 0) Ddr.DDR_SCHED_WR_HIGH ≤ 0 + 1 := by decide

set_option exponentiation.threshold 1024 in
set_option maxRecDepth 100000 in
theorem witness_ddr_issue : (ddr0 3 {}).ddrNext 0 0 [] = none ∧ (ddr0 3 { queue := [rd0] }).ddrNext 0 0 [] = some rd0 ∧
    (ddr0 3 { queue := [rd0], banks := [(0, { row := some 0 })] }).ddrNext 0 0 [] = some rd0 ∧
    (ddr0 3 { queue := [wr0], banks := [(0, { row := some 0 })] }).ddrNext 0 0 [] = some wr0 ∧ (ddr0 3 {}).ddrRow 0 0 = 0 ∧ (ddr0 3 {}).ddrBankOf 0 0 = 0 ∧
    ((ddr0 3 { queue := [rd0], banks := [(0, { row := some 0 })] }).ddrBank 0 0).row = some 0 ∧ ((ddr0 3 { banks := [(0, { row := some 5 })] }).ddrBank 0 0).row = some 5 ∧
    ((ddr0 3 {}).ddrBank 0 0).row = none ∧ (ddr0 3 {} [(Pg.ddr 0, Ddr.DDR_PAGE_POLICY, 0, 0)]).get (Pg.ddr 0) Ddr.DDR_PAGE_POLICY = 0 ∧
    (ddr0 3 {} [(Pg.ddr 0, Ddr.DDR_NRF_EN, 0, 0)]).flag (Pg.ddr 0) Ddr.DDR_NRF_EN = false ∧ (ddr0 3 {}).flag (Pg.ddr 0) Ddr.DDR_ECC_INJ_ARM = false := by decide

set_option exponentiation.threshold 1024 in
theorem witness_ddr_classes : ddrLineClass 0 false = 0 ∧ ddrLineClass 1 false = 1 ∧ ddrLineClass 1 true = 2 ∧ ddrLineClass (ddrEncode 0x123) false = 0 ∧
    ddrLineData (ddrEncode 0x123) = 0x123 ∧ ddrCorrect (ddrEncode 0x123 ^^^ 0xFF00) false = ddrEncode 0x123 := by decide +kernel

set_option exponentiation.threshold 1024 in
set_option maxRecDepth 100000 in
theorem witness_ddr_returns : ((ddr0 3 { queue := [{ rd0 with issued := true }] }).ddrUnit 0).queue.find? (fun r => r.issued && !r.write) = some { rd0 with issued := true } ∧
    ((ddr0 3 { queue := [{ rd0 with issued := true }] }).ddrUnit 0).pending = none ∧
    (∀ q ∈ ((ddr0 3 { queue := [{ rd0 with issued := true }] }).ddrUnit 0).queue, q.line = rd0.line → q.write = false) ∧
    ((ddr0 3 { pending := some { req := rd0, burst := 1 } }).ddrUnit 0).pending = some { req := rd0, burst := 1 } := by decide

set_option exponentiation.threshold 1024 in
set_option maxRecDepth 100000 in
theorem witness_ddr_refresh : 1 ≤ (ddr0 3 { debts := [(0, 1)] }).ddrDebt 0 0 0 ∧ (ddr0 3 { debts := [(0, 1)] }).indexIdle 0 0 0 = true ∧
    (List.range 4).all (fun k => decide (1 ≤ (ddr0 3 { debts := [(0, 1), (1, 1), (2, 3), (3, 3)] }).ddrDebt 0 0 k) &&
      (ddr0 3 { debts := [(0, 1), (1, 1), (2, 3), (3, 3)] }).indexIdle 0 0 k) = true ∧ 3 ≤ (ddr0 3 { debts := [(0, 3)] }).ddrDebt 0 0 0 ∧
    (ddr0 3 {} [(Pg.ddr 0, Ddr.DDR_RH_RFM_REQ, 0, 1)]).flag (Pg.ddr 0) Ddr.DDR_RH_RFM_REQ = true ∧
    (ddr0 3 { banks := [(255, { raa := 255 })] }).get (Pg.ddr 0) Ddr.DDR_RH_RAAIMT ≤ ((ddr0 3 { banks := [(255, { raa := 255 })] }).ddrBank 0 255).raa ∧
    (ddr0 3 { banks := [(255, { raa := 255 })] }).indexIdle 0 (State.bankRank 255) (State.bankIndex 255) = true ∧
    ((ddr0 3 { banks := [(5, { sample := some 0 })] }).ddrBank 0 5).sample.isSome = true ∧
    (ddr0 3 {} [(Pg.ddr 0, Ddr.DDR_PAGE_POLICY, 0, 2)]).get (Pg.ddr 0) Ddr.DDR_PAGE_POLICY = 2 ∧ ([0, 2] : List Nat).any (2 ≤ ·) = true := by decide

theorem witness_ddr_domains : (ddr0 0 {}).domOn (ddrDom 0) = true ∧ (ddr0 3 {}).domState (ddrDom 0) ≠ 3 ∧
    ((ddr0 3 {}).set Pg.powerDom PowerDom.DOM_STATE_STATE 3 (ddrDom 0)).domState (ddrDom 0) = 3 ∧
    (ddr0 3 { banks := [(255, { raa := 255 })] }).banksIdle 0 (State.bankRank 255) (State.bankIndex 255) = true := by decide

/-! ## Memory encryption -/

/-- Channel 0 READY with line 0 holding 5, region 0 open over lines 0 to 63 in a mode with every right; its page's fields as given. -/
def cry0 (mode : Nat) (xs : List (Nat × RegField × Nat × Nat) := []) : State :=
  let p := Pg.crypto 0
  let s := at0 ([(Pg.ddr 0, Ddr.STATUS_STATE, 0, 3), (p, Crypto.REG_CTL_STATE, 0, 1), (p, Crypto.REG_CTL_EN, 0, 1), (p, Crypto.REG_N_N, 0, 64),
    (p, Crypto.REG_CTL_MODE, 0, mode), (p, Crypto.REG_RIGHTS_RIGHTS, 0, 0xFFFFFFFF)] ++ xs)
  { s with ddr := { s.ddr with lines := [(0, some (ddrEncode 5))] } }

/-- Engine 0 of the fabric asks its crypto engine for bytes 0 to 7 of line 0; a write of 7 bytes; a whole-line pair. -/
def readFlit (src : Nat) (off len : Nat) : Flit := { hdr := mkHdr (cryptoEp 0) src 0 0 1 5, data := BitVec.ofNat 512 (cmdWord off len) }
def writeFlit (off len : Nat) : Flit := { hdr := mkHdr (cryptoEp 0) 585 0 0 2 5, data := BitVec.ofNat 512 (cmdWord off len) }
def wra (mask : Nat) : Flit := { hdr := mkHdr (cryptoEp 0) 585 0 0 3 5, data := BitVec.ofNat 512 (cmdWord 0 64 + 2 ^ 64 * mask) }
def wrd : Flit := { hdr := mkHdr (cryptoEp 0) 585 0 0 4 5, data := 7 }

def cryAsks (s : State) (f : Flit) : State := s.setSkEnd (cryptoEp 0) { reqQ := [f] }
def cryPair (s : State) (mask : Nat) : State :=
  s.setSkEnd (cryptoEp 0) { reqQ := [wrd], lone := [{ src := 585, tag := 5, flit := wra mask }] }

set_option exponentiation.threshold 1024 in
set_option maxRecDepth 100000 in
theorem witness_crypto_requests : (cryAsks (cry0 0) (readFlit 585 0 8)).headRequest (cryptoEp 0) = some (readFlit 585 0 8) ∧
    hdrClass (readFlit 585 0 8) = 1 ∧ hdrClass (writeFlit 0 8) = 2 ∧ hdrClass (wra 1) = 3 ∧ (cry0 0).clock.stopped = false ∧
    (cryAsks (cry0 0) (readFlit 585 0 8)).portState' (cryptoEp 0) ≠ 2 ∧ (cry0 0).headRequest (cryptoEp 0) = none ∧
    cmdReserved (readFlit 585 0 8) = 0 ∧ cmdOffset (readFlit 585 0 8) % 64 + cmdLen (readFlit 585 0 8) ≤ 64 ∧
    64 < cmdOffset (readFlit 585 60 8) % 64 + cmdLen (readFlit 585 60 8) ∧ (masterClass (hdrSrc (readFlit 585 0 8))).isSome = true ∧
    masterClass (hdrSrc (readFlit (cryptoEp 1) 0 8)) = none ∧ (cryAsks (cry0 0) (writeFlit 0 8)).headPair (cryptoEp 0) = none ∧
    (cryPair (cry0 0) 3).headPair (cryptoEp 0) = some (wra 3, wrd) ∧ State.pairMask (wra (2 ^ 64 - 1)) = BitVec.allOnes 64 ∧
    State.pairMask (wra 3) ≠ BitVec.allOnes 64 ∧ cmdLen (wra 3) = 64 := by decide +kernel

set_option exponentiation.threshold 1024 in
set_option maxRecDepth 100000 in
theorem witness_slot_retirement : (cry0 0).slotRetires 0 (readFlit 585 0 8) = false ∧
    ((cry0 1).setCryptoUnit 0 { keyCmd := some (3, 0, 0) }).slotRetires 0 (readFlit 585 0 8) = true := by decide +kernel

set_option exponentiation.threshold 1024 in
set_option maxRecDepth 100000 in
theorem witness_crypto_judgement : (cry0 0).ddrRefusal 0 = none ∧ State.reset.ddrRefusal 0 ≠ none ∧ 0 < (cry0 0).ddrCapacity 0 ∧
    (cry0 0).ddrCapacity 0 ≤ 2 ^ 30 ∧ (cry0 0).regionAt 0 0 = some 0 ∧ (cry0 0).regionAt 0 64 = none ∧
    bit ((cry0 0).get (Pg.crypto 0) Crypto.REG_RIGHTS_RIGHTS 0) (2 * (masterClass 585).getD 0 + 1) = true ∧
    bit (State.reset.get (Pg.crypto 0) Crypto.REG_RIGHTS_RIGHTS 0) (2 * (masterClass 585).getD 0) = false ∧
    (cry0 0).queuedWrite 0 0 = none ∧ SMap.read none (cry0 0).ddr.lines (State.ddrLineKey 0 0) = some (ddrEncode 5) ∧
    ddrLineClass (ddrEncode 5) ((cry0 0).ddrX8 0) = 0 ∧ (cry0 0).regMode 0 0 = 0 ∧ (cry0 1).regMode 0 0 = 1 ∧ (cry0 2).regMode 0 0 = 2 ∧
    (cry0 0).flag (Pg.ddr 0) Ddr.DDR_ECC_INJ_ARM = false := by decide +kernel

/-- Line 0 of region 0 in CONF+INT with a level-1 block cached, its counters as given, and the tag line of data lines 0 to 7 cached
with slot 0 as given. -/
def cry2 (block tags : BitVec 512) : State :=
  let s := cry0 2
  s.setCryptoUnit 0 { s.cryptoUnit 0 with cache := [(State.tagLine s 0 0 0 0, { region := 0, level := 0, index := 0, data := tags, dirty := false }),
    (State.blockLine s 0 0 1 0, { region := 0, level := 1, index := 0, data := block, dirty := false })] }

/-- The tag that line 0 has under counter 3 and the zero key. -/
def tag0 : Nat := 7497992790432083140

/-- Line 0 and the level-1 block in DRAM, neither of them readable. -/
def spoilt : State :=
  let s := cry0 2
  { s with ddr := { units := [(0, { filled := true })], lines := [(State.ddrLineKey 0 (State.blockLine s 0 0 1 0), some 0x0301), (0, some 0x0301)] } }

def Walk.block : Walk → Option (BitVec 512)
  | .ok b _ => some b
  | _ => none

set_option exponentiation.threshold 1024 in
set_option maxRecDepth 100000 in
theorem witness_crypto_walks : Walk.block ((cry2 3 0).walk 0 0 0 []) = some 3 ∧ spoilt.walk 0 0 0 [] matches .failed 1 _ ∧
    ((cry2 3 0).setRegionRoot 0 0 { root := BitVec.ofNat 512 poisonMark }).walk 0 0 0 [] matches .poisoned _ ∧
    slot64 (BitVec.ofNat 512 poisonMark) 0 = poisonMark ∧ slot64 3 0 < lastCounter ∧ slot64 (BitVec.ofNat 512 lastCounter) 0 = lastCounter ∧
    ((cry2 3 (BitVec.ofNat 512 tag0)).verifyData 0 0 0 3 false).1 = some 5 ∧ (spoilt.verifyData 0 0 0 3 false).1 = none := by decide +kernel

def keyed (s : State) (k : Nat) : State := s.setKeySlot 0 k (some { k1 := 1, k2 := 2, kt := 3 })

/-- Region 0 shaped but closed; channel READY. -/
def shut (mode : Nat) : State := (cry0 mode).set (Pg.crypto 0) Crypto.REG_CTL_STATE 0 0 |>.set (Pg.crypto 0) Crypto.REG_CTL_EN 0 0

set_option exponentiation.threshold 1024 in
set_option maxRecDepth 100000 in
theorem witness_crypto_regions : Accepts (shut 0) .monitor (Pg.crypto 0) 0x200 0x80000000 = true ∧ Accepts (cry0 1) .monitor (Pg.crypto 0) 0x200 0 = true ∧
    Opens (shut 1) .monitor (Pg.crypto 0) 0x200 = true ∧ (shut 1).regState 0 0 = 0 ∧ (shut 1).annealBusy 0 = false ∧ (shut 1).keySlot 0 0 = none ∧
    State.reset.regionFits 0 0 0 = false ∧ (shut 2).flag (Pg.crypto 0) Crypto.REG_CTL_ROOT_VALID = false ∧
    ((cry0 1).set (Pg.crypto 0) Crypto.REG_CTL_STATE 2).regState 0 0 = 2 ∧ Accepts (keyed (shut 1) 0) .monitor (Pg.crypto 0) 0x30C 0x80000000 = true ∧
    Opens (shut 0) .monitor (Pg.crypto 0) 0x30C = true ∧ (shut 0).initRefused 0 0 = true := by decide +kernel

set_option exponentiation.threshold 1024 in
set_option maxRecDepth 100000 in
theorem witness_crypto_runs : (((cry0 1).setCryptoUnit 0 { init := some 0 }).cryptoUnit 0).init = some 0 ∧ ((cry0 1).setCryptoUnit 0 { init := some 0 }).ddrState 0 = 3 ∧
    (cry0 1).regBase 0 0 + (cry0 1).regN 0 0 ≤ (cry0 1).ddrCapacity 0 ∧ Accepts State.reset .monitor (Pg.crypto 0) 0x100 0x1000001F = true ∧
    Opens State.reset .monitor (Pg.crypto 0) 0x100 = true ∧ (at0 [(Pg.crypto 0, Crypto.CRY_KEY_STAT_BUSY, 0, 1)]).flag (Pg.crypto 0) Crypto.CRY_KEY_STAT_BUSY = true ∧
    (cry0 1).slotInUse 0 0 = true ∧ ((keyed (cry0 1) 4).keySlot 0 4).isSome = true ∧
    (((cry0 1).setCryptoUnit 0 { keyCmd := some (2, 31, 9) }).cryptoUnit 0).keyCmd = some (2, 31, 9) := by decide +kernel

set_option exponentiation.threshold 1024 in
set_option maxRecDepth 100000 in
theorem witness_crypto_anneal : Accepts (keyed (cry0 1) 4) .monitor (Pg.crypto 0) 0x300 0x80000400 = true ∧ (cry0 1).annealRefused 0 0 4 = true ∧
    Opens (cry0 1) .monitor (Pg.crypto 0) 0x300 = true ∧ (cry0 1 [(Pg.crypto 0, Crypto.STATUS_ANNEAL_BUSY, 0, 1)]).annealBusy 0 = true ∧
    (cry0 1).get (Pg.crypto 0) Crypto.CRY_ANNEAL_POS_BOUNDARY < (cry0 1).regBase 0 0 + (cry0 1).regN 0 0 ∧
    (cry0 1 [(Pg.crypto 0, Crypto.CRY_ANNEAL_POS_BOUNDARY, 0, 64)]).get (Pg.crypto 0) Crypto.CRY_ANNEAL_POS_BOUNDARY = 64 ∧
    Accepts ((cry0 2).setExpert (Pg.crypto 0) 2 (some .monitor)) .monitor (Pg.crypto 0) 0x810 1 = true ∧ (cry0 2).get (Pg.crypto 0) Crypto.CRY_CTR_LINE_LINE = 0 ∧
    State.reset.regionAt 0 0 = none ∧ Walk.block ((cry2 3 0).walk 0 0 (0 - (cry2 3 0).regBase 0 0) []) = some 3 := by decide +kernel

/-! ## Configuration and boot -/

/-- A boot in a phase from a source, its state as given. -/
def booting (ph src : Nat) (b : BootState) (xs : List (Nat × RegField × Nat × Nat) := []) : State :=
  let s := at0 ([(Pg.hubGlobal, HubGlobal.HUB_BOOT_STATUS_PHASE, 0, ph), (Pg.hubGlobal, HubGlobal.HUB_BOOT_STATUS_SOURCE, 0, src)] ++ xs)
  { s with boot := b }

/-- Every sector of die 1 with audit references. -/
def refs1 : SMap (List Word) := (List.range 96).map (fun sec => (sectorKey 1 sec, [0]))

/-- A load of the image in MRAM that awaits its header. -/
def mramLoad : State := booting 3 1 { running := true }

/-- An image as short as its stream, one with no magic number; the success of the check rests on the fuses, which no witness can name. -/
def headerReason (x : List Byte) : Option Nat := match mramLoad.headerCheck x with | .error r => some r | .ok _ => none

set_option maxRecDepth 100000 in
theorem witness_boot_header : headerReason [] = some 1 ∧ headerReason (List.replicate 512 0) = some 2 := by decide +kernel

theorem witness_boot_tables : tableFault true true [{ index := 0, type := 1, die := 0, len := 1 }] = none ∧
    tableFault true true [{ index := 0, type := 7, die := 0 }] = some 0 ∧ mramLoad.loadBusy = true ∧ mramLoad.boot.checked = false ∧
    mramLoad.boot.reload = none ∧ mramLoad.boot.running = true ∧ mramLoad.bootPhase = 3 ∧ State.reset.loadBusy = false ∧
    (booting 3 1 { running := true, checked := true, streamLen := some 5, totalLen := 6 }).pastStream 6 = true ∧
    (booting 3 1 { running := true, checked := true }).pastStream 6 = false := by decide

theorem witness_boot_attempts : (booting 7 0 {}).bootPhase = 7 ∧ (booting 7 0 {}).boot.running = false ∧ (booting 7 0 {}).minimal = false ∧
    (booting 7 0 {}).cfgSource ≠ 1 ∧ (booting 7 0 {} [(Pg.config, Cfg.CFG_POLICY_SOURCE, 0, 3)]).cfgSource = 3 ∧
    Accepts (booting 6 0 {} [(Pg.config, Cfg.CFG_RELOAD_DIE, 0, 1)]) .monitor Pg.config 0x010 2 = true ∧ bits (2 : Word).toNat 2 1 = 1 ∧ Accepts (booting 7 0 {} [(Pg.config, Cfg.CFG_POLICY_SOURCE, 0, 1)]) .monitor Pg.config 0x010 4 = true ∧
    (port1 6 []).portActive 1 = true ∧ State.reset.portActive (State.reset.get Pg.config Cfg.CFG_RELOAD_DIE) = false ∧
    (at0 [(Pg.config, Cfg.CFG_RELOAD_DIE, 0, 1), (Pg.port 1, Port.STATUS_STATE, 0, 6)]).portActive
      ((at0 [(Pg.config, Cfg.CFG_RELOAD_DIE, 0, 1), (Pg.port 1, Port.STATUS_STATE, 0, 6)]).get Pg.config Cfg.CFG_RELOAD_DIE) = true ∧
    Accepts (booting 6 0 {}) .monitor Pg.hubGlobal 0x11C 0x424F4F54 = true ∧ Accepts (booting 6 0 {}) .monitor Pg.hubGlobal 0x11C 0 = true := by decide

theorem witness_boot_phases : (booting 2 1 {}).bootPhase = 2 ∧ (∀ d, 1 ≤ d → d ≤ 6 → (booting 2 1 {}).portActive d = true ∨ (booting 2 1 {}).portState d = 0) ∧
    (∃ d, 1 ≤ d ∧ d ≤ 6 ∧ (port1 3 []).portActive d = false ∧ (port1 3 []).portState d ≠ 0) ∧
    (∀ d, 1 ≤ d → d ≤ 4 → bit (booting 4 1 { running := true, loaded := 2, references := refs1 }).boot.loaded d = true →
      (booting 4 1 { running := true, loaded := 2, references := refs1 }).auditsDone d = true) ∧
    (∃ d, 1 ≤ d ∧ d ≤ 4 ∧ bit (booting 4 1 { running := true, loaded := 2 }).boot.loaded d = true ∧
      (booting 4 1 { running := true, loaded := 2 }).auditsDone d = false) ∧
    (booting 5 1 { running := true, loaded := 2 }).boot.releaseStep ≤ 0 ∧ bit (booting 5 1 { running := true, loaded := 2 }).boot.loaded 1 = true ∧
    (booting 5 1 { running := true, releaseStep := 5 }).boot.releaseStep = 5 ∧
    (∀ k, k < 4 → (booting 5 1 { running := true, loaded := 2, releaseStep := 1 }).boot.releaseStep ≤ k →
      bit (booting 5 1 { running := true, loaded := 2, releaseStep := 1 }).boot.loaded (k + 1) = false) := by
  refine ⟨by decide, fun d a b => ?_, ⟨1, by decide⟩, fun d a b => ?_, ⟨1, by decide⟩, by decide, by decide, by decide, by decide⟩ <;>
    interval_cases d <;> revert a b <;> decide

theorem witness_boot_reload : (booting 6 1 { checked := true, reload := some { die := 1, warm := false }, references := refs1 }).auditsDone 1 = true ∧
    (booting 6 1 { checked := true, reload := some { die := 1, warm := false } }).boot.reload = some { die := 1, warm := false } := by decide

/-- A load whose header has been accepted, at a section of die 1, with that die's port ACTIVE. -/
def applying (type : Nat) (b : BootState) : State :=
  booting 3 2 { b with running := true, checked := true, sections := [{ index := 0, type := type, die := 1 }] } [(Pg.port 1, Port.STATUS_STATE, 0, 6)]

/-- Sector 0 of die 1 out of set/reset. -/
def freed (s : State) : State :=
  let s := (s.set Pg.reset Reset.RST_DIE_STAT_IN_RESET 0).set Pg.powerDom PowerDom.DOM_STATE_STATE 2 0x11
  { s with fabric := { s.fabric with released := [(96, true)] } }

/-- The address of frame 5 of tile 3 in sector 0 of die 1. -/
def addr0 : FrameAddr := { die := 1, kind := 0, sector := 0, unit := 3, index := 5 }

set_option exponentiation.threshold 2048 in
set_option maxRecDepth 100000 in
theorem witness_sections : (applying 2 {}).loading = true ∧ (applying 2 {}).boot.reload = none ∧ (applying 2 {}).portActive 1 = true ∧
    (booting 3 2 (applying 2 {}).boot).portActive 1 = false ∧ (booting 3 2 (applying 2 {}).boot).loading = true ∧ State.reset.loading = false ∧
    (applying 2 { opened := true, count := 609792 }).boot.count = 609792 ∧
    addr0.ok = true ∧ FrameAddr.ofWord (BitVec.ofNat 32 addr0.word).toNat = addr0 ∧ (applying 2 { opened := true }).gsrActive 1 0 = true ∧
    (freed (applying 2 { opened := true })).gsrActive 1 0 = false ∧ SMap.read false (applying 2 { opened := true }).boot.written addr0.word = false ∧
    bits (0x10000000 : Word).toNat 31 28 = 1 ∧ bits (0x10000000 : Word).toNat 15 0 = 0 ∧ frameContention 16 (2 ^ 1024 - 1) = true ∧
    frameContention 5 0 = false ∧ (applying 2 {}).trackContention 1 0 3 5 0 = false ∧ isSector 1 0 = true := by decide +kernel

def engine0 : EngineImage := { engine := 0, autorun := true, bootPc := 4, imem := [], spad := [] }

/-- A crossing map with one route, from group 1 of module 0 of F0 to its group 0. -/
def map1 (rate : Nat) : List Byte :=
  let body := leBytes 4 0x01000000 ++ leBytes 4 0x81000001
  leBytes 4 0x50414D58 ++ leBytes 2 1 ++ leBytes 1 rate ++ List.replicate 9 0 ++ leBytes 4 1 ++ List.replicate 8 0 ++ leBytes 4 (crc32 body) ++ body

set_option maxRecDepth 100000 in
theorem witness_section_bodies : State.engineRecordBad 1 engine0 = false ∧ State.engineRecordBad 2 engine0 = true ∧
    mapFault (map1 ((applying 4 {}).get Pg.clock Clock.CLK_SPAN_ACTIVE)) ((applying 4 {}).get Pg.clock Clock.CLK_SPAN_ACTIVE) = none ∧
    mapRoutes (map1 0) = [{ die := 1, mod := 0, group := 0, entry := 0x81000001 }] ∧ mapFault [] 0 = some 0 ∧
    State.regwriteReaches 1 0 = true ∧ State.regwriteReaches 1 2 = false ∧ ([] : List Word).length < 96 ∧ 96 ≤ (List.replicate 96 (0 : Word)).length := by
  decide +kernel

/-- A body whose tag is that of its bytes, whole or short. -/
def tagged (len : Nat) (bs : List Byte) : BootSection :=
  { index := 0, type := 5, die := 0, len := len, tag := Gcm.tag 0 (List.replicate 12 0) [] (Gcm.crypt 0 (List.replicate 12 0) bs) }

theorem witness_body_tags (bs : List Byte) : bodyTagged 0 (tagged bs.length bs) bs = true ∧ ([] ++ bs).length < (tagged (bs.length + 1) bs).len := by
  simp [bodyTagged, tagged, leBytes, List.replicate]

/-- A load at a REGWRITE section of the hub. -/
def writing : State := booting 3 2 { running := true, checked := true, sections := [tagged 8 []] }

theorem witness_regwrite : writing.loading = true ∧ State.regwriteReaches 0 (Pg.ply * 4096 + 0x024) = true ∧
    State.holdsEnable (Pg.ply * 4096 + 0x024) 0x10000 = false ∧ writing.wordWriteFails .config (Pg.ply * 4096 + 0x024) 0x10000 = false ∧
    writing.wordWriteFails .config (Pg.ply * 4096 + 0x0FC) 1 = true ∧ State.regwriteReaches 0 2 = false ∧
    State.holdsEnable (Pg.ddr 0 * 4096 + 0x010) 1 = true := by decide

set_option maxRecDepth 100000 in
theorem witness_regwrite_boot : (writing.busWrite .config (Pg.ply * 4096 + 0x024) 0x10000).st.boot = writing.boot := by decide

/-- Die 1 loaded and its logic domain on, with the references of its sectors as given. -/
def audited (r : SMap (List Word)) (c : SMap (Option Word)) : State := freed (booting 6 2 { loaded := 2, references := r, sectorCrcs := c })

theorem witness_audits : (audited refs1 []).auditRuns 1 0 = true ∧ State.reset.auditRuns 1 0 = false ∧ (audited refs1 []).references 1 0 ≠ [] ∧
    (audited [] []).references 1 0 = [] ∧ SMap.read none (audited [] [(96, some 1)]).boot.sectorCrcs (sectorKey 1 0) = some 1 ∧
    SMap.read none (audited [] []).boot.sectorCrcs (sectorKey 1 0) = none ∧ (audited [] []).boot.running = false ∧
    ((audited refs1 []).set (Pg.sctl 1 0) Sctl.SCTL_AUDIT_TEST_FLIP_ONCE 1).flag (Pg.sctl 1 0) Sctl.SCTL_AUDIT_TEST_FLIP_ONCE = true := by decide

/-! ## Clocks and resets -/

def clocks (c : ClockState) (xs : List (Nat × RegField × Nat × Nat)) : State :=
  let s := at0 (xs.map (fun x => (Pg.clock, x.2)))
  { s with clock := c }

theorem witness_references : (clocks {} [(0, State.refOk false, 0, 1)]).flag Pg.clock (State.refOk false) = true ∧
    (clocks {} [(0, State.refOk true, 0, 0)]).flag Pg.clock (State.refOk true) = false ∧
    (clocks {} [(0, Clock.STATUS_REF_ACTIVE, 0, 1)]).refActive = 1 ∧ State.reset.refActive ≠ b2n true ∧
    (∀ x ∈ (clocks { relock := [(3, 1)] } []).clock.relock, x.1 < 4) ∧
    (clocks {} [(0, Clock.CLK_REF_REVERTIVE, 0, 1), (0, Clock.STATUS_REF_ACTIVE, 0, 1)]).flag Pg.clock Clock.CLK_REF_REVERTIVE = true ∧
    (clocks {} [(0, Clock.STATUS_HOLDOVER, 0, 1)]).flag Pg.clock Clock.STATUS_HOLDOVER = true ∧
    (clocks {} [(0, State.refOk false, 0, 0)]).flag Pg.clock (State.refOk false) = false ∧
    (clocks {} [(0, Clock.STATUS_FREE_RUN, 0, 1)]).flag Pg.clock Clock.STATUS_FREE_RUN = true := by decide

/-- The four PLLs locked in the roles of their numbers: 3 is the spare. -/
def plls (c : ClockState) : State := clocks c [(0, Clock.CLK_PLL_LOCK, 0, 1), (0, Clock.CLK_PLL_LOCK, 1, 1), (0, Clock.CLK_PLL_LOCK, 2, 1), (0, Clock.CLK_PLL_LOCK, 3, 1)]

theorem witness_plls : (plls {}).flag Pg.clock Clock.CLK_PLL_LOCK 0 = true ∧ (plls {}).pllRole 0 = 0 ∧ (plls {}).pllRole 2 = 2 ∧ (plls {}).sparePll 0 = some 3 ∧
    (clocks {} [(0, Clock.CLK_PLL_LOCK, 1, 1)]).sparePll 1 = none ∧ (plls { relock := [(1, 1)] }).clock.relock.any (fun x => x.1 = 1) = true ∧
    (plls {}).flag Pg.clock Clock.CLK_PLL_RETIRED 1 = false ∧ 1 ∈ (plls { unserved := [1] }).clock.unserved ∧ Reaches State.reset .monitor Pg.clock = true := by decide

theorem witness_reset_pins : { State.reset with resets := { State.reset.resets with pin := true } }.resets.pin = true ∧ State.reset.resets.pin = false ∧
    { State.reset with resets := { device := true } }.resets.device = true ∧ { State.reset with resets := { warm := true } }.resets.warm = true:= by decide

/-- Every die out of reset. -/
def out : State := at0 [(Pg.reset, Reset.RST_DIE_STAT_IN_RESET, 0, 0), (Pg.reset, Reset.RST_DIE_STAT_HELD, 0, 0)]

theorem witness_reset_commands : Accepts State.reset .i2c Pg.reset 0x100 0x52530001 = true ∧ Accepts State.reset .i2c Pg.reset 0x100 0x52530002 = true ∧
    Accepts out .i2c Pg.reset 0x100 0x52530104 = true ∧ Accepts State.reset .i2c Pg.reset 0x100 0x52532108 = true ∧
    Accepts out .i2c Pg.reset 0x100 0x52530504 = true ∧ domChannel 0x12 = some 0 ∧ domOctet 0x51 = some (5, 0) ∧
    (ddr0 3 {}).ddrState 0 = 3 ∧ State.reset.flag (Pg.crypto 0) Crypto.CTL_KEEP_KEYS = false ∧
    bit { State.reset with resets := { hold := 2 } }.resets.hold 1 = true ∧
    (let s := at0 [(Pg.reset, Reset.RST_DIE_STAT_IN_RESET, 0, 2), (Pg.port 1, Port.STATUS_STATE, 0, 6)]
     bit (s.get Pg.reset Reset.RST_DIE_STAT_IN_RESET) 1 = true ∧ bit s.resets.hold 1 = false ∧ s.portActive 1 = true) := by decide

theorem witness_reset_outer : keyField (fieldKey (Pg.ddr 0) Ddr.CTL_EN 0) = some (Ddr.CTL_EN, 0) ∧ 1 ≤ pageDie (Pg.ddr 0) ∧ Ddr.CTL_EN.home ≠ .mram ∧
    Ddr.CTL_EN.home ≠ .ledger ∧ Ddr.CTL_EN.home ≠ .fuse ∧ Ddr.CTL_EN.home ≠ .aon ∧ (Ddr.CTL_EN.off + 0) * 8 + Ddr.CTL_EN.lo < 32768 := by decide

/-! ## Power -/

/-- Domains in given states, with votes: domain, state, votes. -/
def powered (p : PowerState) (xs : List (Nat × Nat × Nat)) (ys : List (Nat × RegField × Nat × Nat) := []) : State :=
  let s := at0 (xs.flatMap (fun x => [(Pg.powerDom, PowerDom.DOM_STATE_STATE, x.1, x.2.1), (Pg.powerDom, PowerDom.DOM_VOTES_VOTES, x.1, x.2.2)]) ++ ys)
  { s with power := p }

/-- F0's fabric domain on with its three children off. -/
def f0On (votes : Nat) : State := powered {} [(0x10, 2, votes), (0x11, 0, 0), (0x12, 0, 0), (0x13, 0, 0)]

theorem witness_votes : Accepts (f0On 1) .i2c Pg.powerCtl 0x100 0x80000011 = true ∧ Accepts (f0On 1) .i2c Pg.powerCtl 0x100 0x10 = true ∧
    bit ((f0On 1).votes 0x11) 0 = false ∧ (powered {} [(0x11, 3, 0)]).domState 0x11 = 3 ∧ (powered {} [(0x11, 3, 0)]).isForced 0x11 = false ∧
    (f0On 1).domState 0x11 = 0 ∧ (f0On 1).domState (domParent 0x11) = 2 ∧ (f0On 1).heldDown 0x11 = false ∧ (f0On 1).power.hibernate = 0 ∧
    (f0On 1).power.tripped = false ∧ (f0On 1).votes 0x10 = 2 ^ 0 ∧ (∀ c ∈ domChildren 0x10, (f0On 1).wanted c = false) ∧ (f0On 1).domState 0x10 = 2 ∧
    (∀ c ∈ domChildren 0x10, (f0On 1).domState c = 0) ∧ SMap.read false (f0On 1).power.aborted 0x10 = false ∧
    (domChildren 0x10).find? (fun c => (powered {} [(0x11, 2, 1)]).votes c ≠ 0) = some 0x11 ∧ (∀ e ∈ domChildren 0x10, domChildren e = []) := by decide

theorem witness_drops : Accepts (f0On 0) .monitor Pg.powerCtl 0x104 0x110 = true ∧ (f0On 0).wanted 0x10 = false ∧ bit (0x110 : Word).toNat 8 = true ∧
    isDomain 0x10 = true ∧ votable 0x10 = true ∧ (f0On 1).wanted 0x10 = true ∧ (powered { forced := [(0x10, true)] } []).isForced 0x10 = true ∧
    (powered {} [(0x12, 3, 0)]).undrained 0x12 = [] ∧ (powered {} [(0x12, 4, 0)]).domState 0x12 = 4 ∧ (powered {} [(0x12, 1, 1)]).domState 0x12 = 1 := by decide

set_option exponentiation.threshold 1024 in
set_option maxRecDepth 100000 in
theorem witness_aborts : ((powered {} [(0x10, 3, 0)]).setSkEnd (cryptoEp 0) { txQ := [flitTo 585 1 0] }).undrained 0x10 = cryptoEp 0 :: [] ∧
    ((powered {} [(0x10, 3, 0)]).setSkEnd (cryptoEp 0) { txQ := [flitTo 585 1 0] }).domState 0x10 = 3 ∧
    ((powered {} [(0x10, 3, 0)]).setSkEnd (cryptoEp 0) { txQ := [flitTo 585 1 0] }).isForced 0x10 = false := by decide

/-- Every domain but AON and HUB off. -/
def dark : State := powered { hibernate := 1 } (domains.filter (2 ≤ ·) |>.map (fun d => (d, 0, 0)))

theorem witness_hibernate : Accepts (powered {} [] [(Pg.powerCtl, PowerCtl.PWR_WAKE_EN_EN, 0, 1),
      (Pg.hubGlobal, HubGlobal.HUB_BOOT_STATUS_PHASE, 0, 6)]) .monitor Pg.powerCtl 0x108 0x48490001 = true ∧ dark.power.hibernate = 1 ∧ (∀ d ∈ domains, 2 ≤ d → dark.domState d = 0) ∧
    (powered {} [] [(Pg.powerDom, PowerDom.DOM_STATE_KEEP_DRAM, 0x12, 1)]).flag Pg.powerDom PowerDom.DOM_STATE_KEEP_DRAM (16 * (0 / 2 + 1) + 2 + 0 % 2) = true ∧
    (let s := powered { hibernate := 2 } [] [(Pg.powerCtl, PowerCtl.PWR_ALARM_CTL_EN, 0, 1), (Pg.powerCtl, PowerCtl.PWR_WAKE_CAUSE_CAUSE, 0, 1), (Pg.powerCtl, PowerCtl.PWR_WAKE_EN_EN, 0, 1)]
     s.flag Pg.powerCtl PowerCtl.PWR_ALARM_CTL_EN = true ∧ s.alarmAt ≤ s.events.opsec ∧ s.power.hibernate = 2 ∧ s.power.tripped = false ∧
       s.get Pg.powerCtl PowerCtl.PWR_WAKE_CAUSE_CAUSE &&& s.get Pg.powerCtl PowerCtl.PWR_WAKE_EN_EN ≠ 0) ∧ (ddr0 4 {}).ddrState 0 = 4 := by decide

theorem witness_warnings : (powered { vaonWarn := true } []).supplyWarning = true ∧ State.reset.supplyWarning = false ∧
    (powered {} [(0x10, 2, 1)] [(Pg.powerDom, PowerDom.DOM_STATE_SHED, 0x10, 1)]).shedBit 0x10 = true ∧ votable 0x10 = true ∧
    State.reset.flag Pg.supply Supply.PWR_SUPPLY_TEST_FORCE_WARN = false ∧
    (at0 [(Pg.thermal, Thermal.THM_STAT_WARN, 0, 1)]).flag Pg.thermal Thermal.THM_STAT_WARN = true ∧
    State.reset.flag Pg.thermal Thermal.THM_STAT_WARN = false ∧
    (at0 [(Pg.thermal, Thermal.THM_CTL_SHED_EN, 0, 1)]).flag Pg.thermal Thermal.THM_CTL_SHED_EN = true ∧ State.reset.power.tripped = false ∧
    State.reset.dieTemp 6 (List.replicate 21 5) = some 5 ∧ 2000 ≤ (State.reset.temps (List.replicate 21 2000)).junction ∧
    (State.reset.temps (List.replicate 21 5)).junction < 2000 := by decide

/-! ## The mailbox -/

/-- A request in the buffer, with `BUSY`: command, flags, `SEQ`, body and what follows it. -/
def mbAsks (cmd flags seq : Nat) (body tag : List Byte) : State :=
  let s := State.putBuffer (at0 [(Pg.monitor, Monitor.DBG_MB_STAT_BUSY, 0, 1)]) Monitor.DBG_MB_REQ_DATA
    (leBytes 1 cmd ++ leBytes 1 flags ++ leBytes 2 body.length ++ leBytes 4 seq ++ body ++ tag)
  s

def mbBody (s : State) : List Byte := (s.mbReq (8 + s.mbBlen)).drop 8

/-- A session of a level open, from an origin's code. -/
def inSession (level : Nat) (s : State) : State := (s.set Pg.monitor Monitor.DBG_SESSION_OPEN 1).set Pg.monitor Monitor.DBG_SESSION_LEVEL level

def opening (method : Nat) (s : State) : State := { s with dbg := { s.dbg with opening := some { level := 1, method := method, nonce := 0 } } }

theorem witness_mailbox : (mbAsks 1 0 0 [1, 1] []).mbBusy = true ∧ (mbAsks 1 0 0 [1, 1] []).dbg.forwarded = false ∧ (mbAsks 1 0 0 [1, 1] []).dbg.transfer = none ∧
    (mbAsks 1 0 0 [1, 1] []).mbCmd = 1 ∧ (mbAsks 1 0 0 [1, 1] []).mbBlen ≤ 1016 ∧ mbLayout 1 (mbBody (mbAsks 1 0 0 [1, 1] [])) = true ∧
    (mbAsks 1 0 0 [1, 1] []).dbg.key = none ∧ (mbAsks 1 0 0 [1, 1] []).sessionOpen = false ∧ (inSession 3 (mbAsks 4 0 0 [0] [])).sessionOpen = true ∧
    mbLayout 4 (mbBody (mbAsks 4 0 0 [0] [])) = true ∧ mbLayout 0x10 (mbBody (mbAsks 0x10 1 0 [0, 0, 0, 0, 1] [])) = true ∧
    bit ((mbAsks 0x10 1 0 [0, 0, 0, 0, 1] []).mbHead 1) 0 = true ∧ (inSession 2 (mbAsks 0x10 1 0 [0, 0, 0, 0, 1] [])).sessionLevel ≠ 3 ∧
    mbLayout 0x11 (mbBody (mbAsks 0x11 0 0 (List.replicate 8 0) [])) = true ∧ (mbBody (mbAsks 0x11 0 0 (List.replicate 8 0) [])).length = 8 ∧
    mbLayout 0x12 (mbBody (mbAsks 0x12 0 0 [0, 6, 0, 0, 0, 0, 0, 0, 4, 0] [])) = true ∧
    leNat (((mbBody (mbAsks 0x12 0 0 [0, 6, 0, 0, 0, 0, 0, 0, 4, 0] [])).drop 0).take 2) = 0x600 ∧
    mbLayout 0x13 (mbBody (mbAsks 0x13 0 0 [0x49, 2, 0, 0, 0, 0, 0, 0, 1, 0, 9] [])) = true ∧ mbLayout 0x99 [] = false ∧
    (mbAsks 2 0 0 (List.replicate 512 0) []).mbCmd = 2 ∧ mbLayout 2 (List.replicate 512 0) = true ∧ mbLayout 3 (List.replicate 32 0) = true := by decide +kernel

theorem witness_openings : (mbAsks 1 0 0 [1, 1] []).lockout = 0 ∧ (at0 [(Pg.monitor, Monitor.DBG_STATUS_AUTH_FAILS, 0, 15)]).lockout ≠ 0 ∧
    (opening 1 (mbAsks 2 0 0 [] [])).dbg.opening = some { level := 1, method := 1, nonce := 0 } ∧
    (∀ a, (mbAsks 2 0 0 [] []).dbg.opening = some a → a.method ≠ 1) ∧ State.reset.pathUp .i2c = true ∧ State.reset.mbAdmits .i2c = true ∧
    (inSession 1 State.reset).mbAdmits .i2c = false ∧ State.reset.dbg.ptr < 512 ∧ State.reset.mbBusy = false ∧
    (inSession 1 State.reset).get Pg.monitor Monitor.DBG_IDLE_LIMIT_LIMIT ≤ 2 ^ 32 ∧
    ((inSession 1 State.reset).set Pg.monitor Monitor.DBG_SESSION_IDLE_S 0xFFFF).get Pg.monitor Monitor.DBG_IDLE_LIMIT_LIMIT ≤
      ((inSession 1 State.reset).set Pg.monitor Monitor.DBG_SESSION_IDLE_S 0xFFFF).get Pg.monitor Monitor.DBG_SESSION_IDLE_S := by
  refine ⟨by decide, by decide, by decide, fun a h => ?_, by decide, by decide, by decide, by decide, by decide, by decide, by decide⟩
  exact nomatch (show (none : Option DbgOpening) = some a from h)

/-- A CLOSE under the key 7 with its tag, in a key session. -/
def sealed (seq : Nat) (tag : List Byte) : State :=
  let s := inSession 1 (mbAsks 4 0 seq [0] tag)
  { s with dbg := { s.dbg with key := some 7 } }
def tag7 : List Byte := [200, 24, 139, 2, 103, 176, 87, 63, 205, 235, 238, 96, 201, 154, 180, 222]

set_option maxRecDepth 100000 in
theorem witness_key_session : (sealed 1 tag7).dbg.key = some 7 ∧ (sealed 1 tag7).sessionOpen = true ∧ (sealed 1 tag7).mbCmd = 4 ∧ (sealed 1 tag7).mbBlen ≤ 1000 ∧
    Gcm.tag 7 (leBytes 4 0 ++ leBytes 4 (sealed 1 tag7).mbSeq ++ leBytes 4 0) ((sealed 1 tag7).mbReq 8) [0] = ((sealed 1 tag7).mbReq (24 + 1)).drop (8 + 1) ∧
    (sealed 2 tag7).mbSeq ≠ (sealed 2 tag7).dbg.lastSeq + 1 ∧ 1000 < (mbAsks 4 0 1 (List.replicate 1001 0) []).mbBlen := by decide +kernel

/-! ## The recorder and the sensors -/

def recording (e : EventState) : State := { State.reset with events := e }
def record0 : EvRec :=
  { seq := 0, code := 0x101, length := 0, flags := 0, source := 0, severity := 4, suppressed := 0, opsec := 0, pcc := 0, payload := [] }

set_option maxRecDepth 100000 in
theorem witness_records : (pageKind Pg.safety).isSome = true ∧ (4 : BitVec 3).toNat ≤ 4 ∧ min (State.reset.bucket 2).tokens (State.reset.get Pg.recorder Recorder.EVT_RATE_BURST) ≠ 0 ∧
    min ((recording { buckets := [(2, { tokens := 0, pending := 3 })] }).bucket 2).tokens 16 = 0 ∧
    ((recording { buckets := [(2, { tokens := 0, pending := 3 })] }).bucket 2).pending ≠ 0 ∧ State.reset.stageLevel + 32 ≤ 7680 ∧
    8192 < (recording { stage := List.replicate 350 record0 }).stageLevel + 32 ∧ State.reset.get Pg.recorder Recorder.EVT_NEXT_SEQ_SEQ + 1 < 2 ^ 32 ∧
    (recording { stage := [record0] }).events.stage = record0 :: [] ∧ State.reset.get Pg.recorder Recorder.EVT_NOTIFY_SEV ≤ record0.severity ∧
    record0.bytes.length ≤ ringSize ∧ record0.bytes[0]?.isSome = true := by decide

def hot : List (BitVec 16) := List.replicate 20 0 ++ [90]

theorem witness_recorder_commands : Accepts State.reset .monitor Pg.recorder 0x120 0xF0010002 = true ∧ 4 * 0 + 4 ≤ bits (0xF0010402 : Word).toNat 15 8 ∧
    Accepts State.reset .monitor Pg.recorder 0x120 0xF0010402 = true ∧ State.lifeBudget ≤ (recording { life := 788400000 }).events.life ∧
    State.reset.flag Pg.thermal Thermal.THM_STAT_LIFE_OVER = false ∧ (inSession 1 State.reset).sessionOpen = true ∧ State.reset.events.opsec < 2 ^ 48 ∧
    Reaches State.reset .monitor Pg.time = true ∧ isSensor 6 2 = true ∧
    bit ((at0 [(Pg.safety, Safety.SAF_TEMP_SENS_RETIRED, 0, 6)]).get Pg.safety Safety.SAF_TEMP_SENS_RETIRED) (3 * 0 + 1) = true ∧
    (∀ j < 3, j ≠ 0 → bit ((at0 [(Pg.safety, Safety.SAF_TEMP_SENS_RETIRED, 0, 6)]).get Pg.safety Safety.SAF_TEMP_SENS_RETIRED) (3 * 0 + j) = true) ∧
    (∃ v ∈ State.reset.dieTemp 6 hot, 80 < ((hot.getD 20 0).toInt - v).natAbs) ∧
    20 ∈ ({ State.reset with safety := { State.reset.safety with suspects := [20] } } : State).safety.suspects := by decide

/-! ## The Ply ring -/

/-- The ring domain on, port N in a link state and port P in another, in a role (1 manager, 2 worker) and a ring state, with each port's
own state. -/
def plied (l0 l1 role ring : Nat) (p : PlyState) (xs : List (Nat × RegField × Nat × Nat) := []) : State :=
  let s := at0 ([(Pg.powerDom, PowerDom.DOM_STATE_STATE, 3, 2), (Pg.ply, Ply.PLY_LINK_STATE, 0, l0), (Pg.ply, Ply.PLY_LINK_STATE, 1, l1),
    (Pg.ply, Ply.STATUS_ROLE, 0, role), (Pg.ply, Ply.STATUS_RING, 0, ring)] ++ xs)
  { s with ply := p }

def onPort0 (x : PlyPort) : PlyState := { ports := [(0, x)] }
def ply1 : PlyFrame := { type := 0, dst := 1, src := 2, payload := [] }

/-- For every type and every payload of at most 16 bytes there is a frame that the key opens to it, and one whose tag it refuses. -/
theorem witness_ply_frames (key : BitVec 256) (type : Nat) (body : List Byte) (h : body.length ≤ 16) :
    (∃ f : PlyRx, f.fctr = 1 ∧ f.flags = 0 ∧ f.dst = 0x3F ∧ PlyWire.opened key type f = some body) ∧
    ∃ t ∈ [(0 : BitVec 128), 1], PlyWire.opened key type { frame0 with tag := t } = none := by
  refine ⟨⟨_, rfl, rfl, rfl, opened_short key type { frame0 with fctr := 1, flags := 0, dst := 0x3F } body h⟩, ?_⟩
  by_contra c
  have c0 := fun e => c ⟨0, by simp, e⟩
  have c1 := fun e => c ⟨1, by simp, e⟩
  simp only [PlyWire.opened, ite_eq_right_iff, reduceCtorEq, imp_false, not_not] at c0 c1
  exact absurd (c0.symm.trans c1) (by decide)

theorem witness_ply_order : (plied 3 3 1 2 {}).plyUp 0 = true ∧ frame0.fctr = ((plied 3 3 1 2 {}).plyPort 0).last + 1 ∧
    ((plied 3 3 1 2 (onPort0 { failed := true })).plyPort 0).failed = true ∧ ({ frame0 with fctr := 7 } : PlyRx).fctr ≠ ((plied 3 3 1 2 {}).plyPort 0).last + 1 ∧
    ((plied 3 3 1 2 {}).plyPort 0).queue = [] ∧ (1, [5]) ∈ ((plied 3 3 1 2 (onPort0 { sent := [(1, [5])] })).plyPort 0).sent ∧
    ¬(∃ d < 32768, (1 + d) % 65536 = frame0.ack % 65536) ∧ (plied 3 3 1 2 {}).ply.streamAt = none ∧
    (∃ d < 32768, (1 + d) % 65536 = ({ frame0 with ack := 1 } : PlyRx).ack % 65536) ∧ ({ frame0 with dst := 7 } : PlyRx).dst ≠ (plied 3 3 1 2 {}).plySelf ∧
    ({ frame0 with dst := 7 } : PlyRx).dst ≠ 0x3F ∧ frame0.dst = 0x3F ∧ frame0.src ≠ (plied 3 3 1 2 {}).plySelf ∧ (plied 3 3 1 2 {}).plyUp (1 - 0) = true := by
  refine ⟨by decide, by decide, by decide, by decide, by decide, by decide, ?_, by decide, ⟨0, by omega, by rfl⟩, by decide, by decide, by decide, by decide,
    by decide⟩
  rintro ⟨d, h, e⟩; simp [frame0] at e; omega

/-- A HELLO without signatures is refused, whatever the keys; that one is accepted rests on the fuses, which no witness can name. -/
theorem witness_hello_refused : PlyWire.accepts [] [] [] = false := by
  unfold PlyWire.accepts P384.verify
  split <;> simp [PlyWire.ksig, beNat]

theorem witness_ply_ring : (plied 3 3 1 5 {}).plyRing = 5 ∧ (plied 3 3 1 1 {}).plyUp 1 = true ∧ (plied 3 3 2 1 {}).isManager = false ∧ (plied 3 3 2 3 {}).plyRing = 3 ∧
    (62 : Nat) < 62 + 1 ∧ (plied 3 3 1 1 {}).plyRing = 1 ∧
    (plied 3 3 2 2 {}).get Pg.ply Ply.STATUS_ROLE = 2 ∧ (plied 3 3 2 4 {}).plyRing = 4 ∧
    bit (plied 3 3 1 1 {} [(Pg.ply, Ply.PLY_MEMBERS_MEMBERS, 0, 7)]).members 2 = true ∧ (plied 3 3 1 1 {}).asleepBit 2 = false ∧
    (at0 [(Pg.monitor, Monitor.DBG_SESSION_ORIGIN, 0, 5)]).get Pg.monitor Monitor.DBG_SESSION_ORIGIN = 5 ∧ frame0.port < 2 ∧ frame0.src < 63 := by decide

theorem witness_ply_traffic : Accepts (plied 3 3 1 2 {}) .monitor Pg.ply 0x170 0x80000101 = true ∧ bit (0x80000101 : Word).toNat 31 = true ∧
    (plied 3 3 1 2 {} [(Pg.ply, Ply.PLY_MGMT_STAT_BUSY, 0, 1)]).flag Pg.ply Ply.PLY_MGMT_STAT_BUSY = true ∧ (plied 3 3 1 2 { retried := true }).ply.retried = true ∧
    leNat ((List.replicate 14 (0 : Byte)).take 2) = (plied 3 3 1 2 {}).ply.tag ∧ 4 * 2 + 6 ≤ (List.replicate 14 (0 : Byte)).length ∧
    bit ({ frame0 with flags := 1 } : PlyRx).flags 0 = true ∧ (2, 0, [7]) ∈ (plied 3 3 2 2 { answers := [(2, 0, [7])] }).ply.answers ∧
    (plied 3 3 2 2 { stream := some (1, 100, 60) }).ply.stream = some (1, 100, 60) ∧
    ({ frame0 with src := 0 } : PlyRx).src = (plied 3 3 1 2 {}).plySelf ∧
    (plied 3 3 1 2 {} [(Pg.ply, Ply.PLY_CFG_BCAST, 0, 1)]).flag Pg.ply Ply.PLY_CFG_BCAST = true ∧ (plied 3 3 1 2 { imageLen := 9 }).ply.imageLen ≠ 0 ∧
    (plied 3 3 1 2 {}).plyVia 0 = some 0 ∧ (plied 3 3 1 2 {}).ply.streamAt = none ∧
    State.reset.stageLevel + (24 + padded frame0.payload.length) ≤ 7680 ∧ State.reset.mbAdmits .ply = true ∧ (inSession 1 State.reset).mbAdmits .ply = false ∧
    ({ mbAsks 1 0 0 [1, 1] [] with dbg := { State.reset.dbg with forwarded := true } } : State).dbg.forwarded = true := by decide +kernel

/-! ## The manual's worked examples, one step each -/

/-- A word as the monitor reads it at an address with PEEK. -/
def peekAt (s : State) (addr : Nat) : Nat := (s.busRead .monitor addr true).data.toNat

/-- Lane W40: its page is 0x344_8000, and its pending bit is bit 8 of the word at 0x340_0408 (spec/02). -/
def w40 : State :=
  let p := State.pageAt 0x3448000
  at0 [(p, Hdr.INT_STATUS_ERR_CAPTURED, 0, 1), (p, Hdr.INT_ENABLE_ERR_CAPTURED, 0, 1), (p, Hdr.ERR_CAPTURE_VALID, 0, 1)]

theorem test_w40_pending : pageKind (State.pageAt 0x3448000) = some .lane ∧ peekAt w40 0x3400408 = 0x100 ∧ peekAt w40 0x3448020 = 1 ∧
    gives (.registerWrite .monitor 0x3448020 [{ data := 1 }]) w40
      (fun t => peekAt t 0x3448020 = 0 ∧ t.get (State.pageAt 0x3448000) Hdr.ERR_CAPTURE_VALID = 0) = true := by decide

/-- F2 retrains: its die finds wire 40 not good and the hub wire 66, and the stored map had moved wire 17 to spare 0 (spec/04). -/
def retraining : State :=
  at0 [(Pg.port 3, Port.STATUS_STATE, 0, 4), (Pg.port 3, Port.LMH_MAP_MASK_LO_MASK_LO, 11, 0xFFFDFFFF), (Pg.port 3, Port.LMH_MAP_MASK_HI_MASK_HI, 11, 0xFFFFFFFF),
    (Pg.port 3, Port.LMH_MAP_MASK_SP_MASK_SP, 11, 0xF), (Pg.port 3, Port.LMH_MAP_ASSIGN_SPARE_ASSIGN, 11, 0x0FFFFF91)]

set_option maxRecDepth 100000 in
theorem test_f2_maps : gives (.maskReport 3 5 1 (BitVec.ofNat 68 (2 ^ 68 - 1 - 2 ^ 40 - 2 ^ 66))) retraining (fun t =>
    peekAt t 0x8132B0 = 0xFFFDFFFF ∧ peekAt t 0x8132B4 = 0xFFFFFEFF ∧ peekAt t 0x8132B8 = 0xB ∧ peekAt t 0x8132BC = 0x0FFF9411 ∧
    t.get (Pg.port 3) Port.LMH_MOD_SPARES_FREE_IN 5 = 1 ∧
    t.safety.history.map (fun h => (h.kind, h.page, h.location, h.what)) = [(2, 0x813, 0x5A8, 0), (2, 0x813, 0x5C2, 0), (1, 0x813, 0x5A8, 0x41)]) = true := by
  decide +kernel

/-- Headers and the first hops of the notice from F2 to E2, and the header of its answer (spec/10). -/
theorem test_notice_headers : mkHdr 0x269 0x0E3 3 0 5 0x12 = 0xC12500C71A69 ∧ mkHdr 0x0E3 0x269 3 0 9 0x12 = 0x012900D348E3 ∧ engEndpoint 2 = 0x269 ∧
    attachEp 3 4 3 = 0x0E3 ∧ (State.towards 3 4 3 (epX 0x269) (epY 0x269)).length ≤ 4 := by decide

/-- Channel 5 with two ranks of x4, 32 Gb devices: the capacity and the places of line 0x168_F279 (spec/12). -/
def channel5 : State :=
  at0 [(Pg.ddr 5, Ddr.STATUS_STATE, 0, 1), (Pg.ddr 5, Ddr.DDR_SPEED_REQ, 0, 6400), (Pg.ddr 5, Ddr.DDR_MAP_MODE, 0, 0), (Pg.ddr 5, Ddr.DDR_MAP_HASH, 0, 1)]

set_option exponentiation.threshold 1024 in
theorem test_channel5_capacity : gives (.ddrTrainStepDone 5 { ranks := 2, density := 2, spdMax := 6400 }) (channel5.setDdrUnit 5 { step := 1 }) (fun t =>
    t.ddrCapacity 5 = 2 ^ 31 ∧ t.get (Pg.ddr 5) Ddr.DDR_CAP_SIZE = 0x20000 ∧
    t.ddrRow 5 0x168F279 = 0x5A3 ∧ t.ddrBankOf 5 0x168F279 = ((1 * 4 + 1) * 8 + 7) * 4 + 3) = true := by decide +kernel

/-- A wrong bit at symbol 6 of codeword 2 of that line (spec/12). -/
def burst5 : State :=
  let s := at0 [(Pg.ddr 5, Ddr.STATUS_STATE, 0, 3), (Pg.ddr 5, Ddr.DDR_CFG_RANKS, 0, 2), (Pg.ddr 5, Ddr.DDR_CFG_DENSITY, 0, 2)]
  let s := s.setDdrUnit 5 { pending := some { req := { id := 1, write := false, line := 0x168F279, prio := 0 }, burst := 1#640 <<< (80 * 2 + 8 * 6) } }
  s

set_option exponentiation.threshold 1024 in
set_option maxRecDepth 100000 in
theorem test_channel5_error : gives (.ddrReadRetry 5 0) burst5 (fun t =>
    peekAt t 0x20D0124 = 0x168F279 ∧ peekAt t 0x20D0128 = 0x91060004 ∧ peekAt t 0x20D0120 = 0x10000) = true := by decide +kernel

/-- The metadata of region 3 of F1's engine 0, its tweak, and the marks of a partial write whose line fails its tag (spec/13). -/
theorem test_region3_metadata : treeDepth 4096 = 4 ∧ metaLength 4096 = 1169 ∧
    (List.range 4).map (tagOff 4096) = [0, 1024, 1152, 1168] ∧ [1, 2, 3].map (blockOff 4096) = [512, 1088, 1160] ∧
    leBytes 16 (tweakOf 2 0x100069 7) = [7, 0, 0, 0, 0, 0, 0, 0, 0x69, 0, 0x10, 0, 2, 0, 0, 0] := by decide

def region3 : State :=
  let p := Pg.crypto 2
  at0 [(p, Crypto.REG_CTL_STATE, 3, 1), (p, Crypto.REG_CTL_EN, 3, 1), (p, Crypto.REG_CTL_MODE, 3, 2), (p, Crypto.REG_N_N, 3, 4096),
    (p, Crypto.REG_BASE_BASE, 3, 0x100000), (p, Crypto.REG_META_META_BASE, 3, 0x101000), (Pg.ddr 2, Ddr.STATUS_STATE, 0, 3)]

/-- Its level-1 counter block of the line is cached, and the data tag has failed twice. -/
def disturbed : State :=
  let s := region3.setCryptoUnit 2 { cache := [(0x10120D, { region := 3, level := 1, index := 13, data := 0, dirty := false })] }
  s.writeFails 2 3 0x100069 0 (some 1)

theorem test_region3_lines : peekAt region3 0x18E0270 = 0x491 := by decide +kernel
theorem test_region3_poison : peekAt disturbed 0x18E0314 = 0x100069 ∧ peekAt disturbed 0x18E0318 = 0xA0030104 ∧ peekAt disturbed 0x18E0310 = 0x101 := by
  decide +kernel

/-- The word that resets F2, and two that are dropped (spec/15). -/
theorem test_f2_reset_word : out.resetGuard 0x52530304 = none ∧ out.resetGuard 0x52530704 = some Err.reservedEncoding ∧
    out.resetGuard 0x00000304 = some 0x8 := by decide

/-- The drain of F1_LOGIC ends with a request that waits at endpoint 0x15A (spec/16). -/
def f1Drains : State :=
  (powered {} [(0x21, 3, 0)]).setSkEnd 0x15A { outstanding := [{ tag := 0, prio := 0, flits := [], use := .fabric, sent := true }] }

set_option maxRecDepth 100000 in
theorem test_f1_aborted : gives (.pwrAborted 0x21) f1Drains (fun t => t.domState 0x21 = 2 ∧ peekAt t 0x101318 = 1 ∧ peekAt t 0x10131C = 0xA000015A) = true := by
  decide +kernel

/-- W40's record at operating second 31,536,000 of power cycle 17, at the end of the ring (spec/18). -/
def w40Down : State :=
  let p := 0x3448
  let s := at0 [(Pg.recorder, Recorder.EVT_NEXT_SEQ_SEQ, 0, 0x1234), (Pg.recorder, Recorder.EVT_HEAD_HEAD, 0, 0x3FFF0), (Pg.time, Time.TIME_PCC_PCC, 0, 17), (Pg.time, Time.TIME_STAT_RESUMED, 0, 0),
    (p, Hdr.INT_STATUS_BLOCK, 0, 6)]
  { s with events := { s.events with opsec := 31536000 } }

theorem test_w40_record : gives (.eventStage 0x5002 3 0x3448 0x108) w40Down (fun t => t.events.stage.map EvRec.bytes =
      [leBytes 4 0x1234 ++ leBytes 4 0x00085002 ++ leBytes 4 0x00033448 ++ leBytes 4 0x01E13380 ++ leBytes 4 0 ++ leBytes 4 0x11 ++ leBytes 4 0x00060000 ++ leBytes 4 0x108]) = true := by decide +kernel

/-- Worker 2 of a ring of four is lost: the manager discovers 1 and 3 (spec/19). -/
def ringOf4 : State := plied 3 0 1 3 {} [(Pg.ply, Ply.PLY_MEMBERS_MEMBERS, 0, 0xF)]

set_option maxRecDepth 100000 in
theorem test_member_lost : gives (.ringCloseTimeout [1, 3]) ringOf4 (fun t => peekAt t 0x600014 = 0x103 ∧ t.members = 0xB ∧
    t.events.stage.any (fun r => r.code = 0xB003 ∧ r.severity = 3 ∧ r.payload.drop 4 = leBytes 4 0x200)) = true := by decide +kernel

end Sys2Proof.Tests
end

section
/-! SUPPORT. The interrupt and error registers of a page (R51, R52, R56): what accepted writes of `INT_STATUS` and `INT_FORCE` and a
read of `ERR_COUNT` make of the state, and that none of them changes what admits the next access of the same command. -/

namespace Sys2Proof.Machine

open Reg

variable (s : State)

/-! ## Completion -/

/-- A command at parts that exist completes, with what holds of the state it makes. -/
theorem completes_of_onPart {i : Instr} {s t : State} {ok : Bool} {p : State → Prop} (he : exec i s = onPart ok s t) (hok : ok = true)
    (hp : p { t with pending := s.pending }) : Completes i s p :=
  ⟨_, he.trans (onPart_next hok), hp⟩

/-! ## Clearing bits of a field -/

@[simp] theorem State.get_clearBits_same (p : Nat) (f : RegField) (m i : Nat) :
    (s.clearBits p f m i).get p f i = (s.get p f i - (s.get p f i &&& m)) % 2 ^ f.width := by
  simp [State.clearBits]

theorem RegsSameBut.clearBits_of_mem {s t : State} {keys : List Nat} (h : RegsSameBut s t keys) (p : Nat) (f : RegField) (m i : Nat)
    (hm : fieldKey p f i ∈ keys) : RegsSameBut s (t.clearBits p f m i) keys :=
  RegsSameBut.set_of_mem h p f _ i hm

theorem RegsSameBut.setBits_of_mem {s t : State} {keys : List Nat} (h : RegsSameBut s t keys) (p : Nat) (f : RegField) (m i : Nat)
    (hm : fieldKey p f i ∈ keys) : RegsSameBut s (t.setBits p f m i) keys :=
  RegsSameBut.set_of_mem h p f _ i hm

/-! ## What the error registers do not decide -/

/-- Keys of the words 0x020 to 0x037 of a page, which hold its interrupt and error registers (R51). -/
def InErrorWords (keys : List Nat) : Prop := ∀ k ∈ keys, 0x100 ≤ k % 32768 ∧ k % 32768 < 0x1C0

/-- A register outside the error words reads as before. -/
theorem RegsSameBut.get_outside {s t : State} {keys : List Nat} (h : RegsSameBut s t keys) (hk : InErrorWords keys) (p : Nat) {f : RegField}
    {i : Nat} (hf : (f.off + i * f.stride) * 8 + f.lo < 32768)
    (ho : (f.off + i * f.stride) * 8 + f.lo < 0x100 ∨ 0x1C0 ≤ (f.off + i * f.stride) * 8 + f.lo) : t.get p f i = s.get p f i := by
  refine h p f i (fun hm => ?_)
  have := hk _ hm
  unfold fieldKey at this
  generalize i * f.stride = a at *
  omega

section
variable {s}
variable {t : State} {keys : List Nat} (h : RegsSameBut s t keys) (hk : InErrorWords keys)
include h hk

theorem RegsSameBut.pageOn_eq (hc : t.clock = s.clock) {p : Nat} (hp : p < 0x3800) : t.pageOn p = s.pageOn p :=
  State.pageOn_same h hc (fun k hm => by have := hk k hm; omega) hp

theorem RegsSameBut.pathUp_eq (o : Origin) : t.pathUp o = s.pathUp o := by
  have hd (d : Nat) (hd : d < 4) : t.domOn d = s.domOn d := by
    unfold State.domOn State.domState
    rw [RegsSameBut.get_outside h hk] <;> simp only [PowerDom.DOM_STATE_STATE] <;> omega
  unfold State.pathUp
  rw [hd 1 (by decide), hd 2 (by decide), hd 3 (by decide)]

theorem RegsSameBut.reaches (hc : t.clock = s.clock) {o : Origin} {page : Nat} (hr : Reaches s o page = true) :
    Reaches t o page = true := by
  obtain ⟨hp, ⟨k, hkind⟩, hon⟩ := reaches_parts hr
  simp [Reaches, RegsSameBut.pathUp_eq h hk, hp, hkind, RegsSameBut.pageOn_eq h hk hc (page_lt_of_kind hkind), hon]

theorem RegsSameBut.checkerDrops_eq (page off w : Nat) : t.checkerDrops page off w = s.checkerDrops page off w := by
  have he (e : Nat) : t.isChecker e = s.isChecker e := by
    unfold State.isChecker State.flag
    rw [RegsSameBut.get_outside h hk _ (by decide) (by decide)]
  unfold State.checkerDrops
  simp only [he]

end

/-- No page puts a lock of its own on a register of the common header. -/
theorem State.pageGuard_header (page : Nat) (o : Origin) {off : Nat} (w : Nat) (h : off < 0x100) (h10 : off ≠ 0x010) :
    s.pageGuard page o off w = none := by
  have hne (n : Nat) (hn : 0x100 ≤ n) : off ≠ n := by omega
  have hlt (n : Nat) (hn : 0x100 ≤ n) : ¬ n ≤ off := by omega
  unfold State.pageGuard
  cases hkind : pageKind page with
  | none => rfl
  | some k =>
    cases k <;> simp [hne, hlt, h10, hkind, State.configGuard, State.monitorGuard, State.plyGuard, State.sctlGuard, State.engGuard,
      State.laneGuard, State.opllGuard, State.ddrGuard, State.cryptoGuard]

/-- A header register that could be written can be written after a change of error registers. -/
theorem RegsSameBut.accepts {s t : State} {keys : List Nat} (h : RegsSameBut s t keys) (hk : InErrorWords keys) (hc : t.clock = s.clock)
    {o : Origin} {page off : Nat} {w : Word} (hoff : off < 0x100) (h10 : off ≠ 0x010) (ha : Accepts s o page off w = true) :
    Accepts t o page off w = true := by
  obtain ⟨hr, he, hobs, hf0, hdrop, hasg, -, -⟩ := accepts_parts ha
  have hkey : t.expertState page = s.expertState page := RegsSameBut.get_outside h hk page (by decide) (by decide)
  have hlevel : t.sessionLevel = s.sessionLevel := RegsSameBut.get_outside h hk _ (by decide) (by decide)
  have hobs' : t.observes o = false := by rw [← hobs]; simp only [State.observes, hlevel]
  have hlow : off < 0x800 := by omega
  simp [Accepts, RegsSameBut.reaches h hk hc hr, hkey, he, hobs', hf0, RegsSameBut.checkerDrops_eq h hk, hdrop, hasg, hlow,
    State.pageGuard_header t page o _ hoff h10]

/-! ## Writes of the header -/

theorem State.beforeWrite_header (page : Nat) {off : Nat} (h : off < 0x100) : s.beforeWrite page off = s := by
  unfold State.beforeWrite
  exact if_neg (by omega)

/-- A page does nothing beyond the fields of the header at a write of it. -/
theorem State.pageWritten_header (old : State) (page : Nat) (o : Origin) {off : Nat} (w : Nat) (h : off < 0x100) (h10 : off ≠ 0x010) :
    s.pageWritten old page o off w = s := by
  have hne (n : Nat) (hn : 0x100 ≤ n) : off ≠ n := by omega
  have hlt (n : Nat) (hn : 0x100 ≤ n) : ¬ n ≤ off := by omega
  unfold State.pageWritten
  cases hkind : pageKind page with
  | none => rfl
  | some k =>
    cases k <;> simp [hne, hlt, h10, State.powerCtlWritten, State.configWritten, State.plyWritten, State.portWritten, State.xbarWritten,
      State.sctlWritten, State.eng0Written, State.eng1Written, State.eng2Written, State.eng3Written, State.laneWritten,
      State.opllPageWritten, State.adapterWritten, State.ddrWritten, State.cryptoWritten]

theorem State.storedFields_accepted {s : State} {o : Origin} {page off : Nat} {w : Word} (h : Accepts s o page off w = true)
    (h10 : off ≠ 0x010) : s.storedFields page off = fieldsAt page off := by
  obtain ⟨-, -, -, -, hdrop, -, -, -⟩ := accepts_parts h
  unfold State.storedFields
  refine if_neg (fun ⟨hkind, hchk⟩ => ?_)
  simp [State.checkerDrops, hkind, hchk, h10] at hdrop

/-- An accepted write of a header register is what its fields make of it. -/
theorem State.writeReg_header {s : State} {o : Origin} {page off : Nat} {w : Word} (h : Accepts s o page off w = true) (hoff : off < 0x100)
    (h4 : off % 4 = 0) (h10 : off ≠ 0x010) :
    s.writeReg o page off w = forEach (fieldsAt page off) (State.storeField page o off w.toNat) s := by
  rw [writeReg_accepted h (by omega) h4, State.beforeWrite_header s page hoff, State.pageWritten_header _ _ _ _ _ hoff h10,
    State.storedFields_accepted h h10]

/-! ## `INT_STATUS` (R52, R56) -/

/-- The state after a clear of the bits of `INT_STATUS` that a word holds as 1, `ERR_CAPTURE.VALID` with `ERR_CAPTURED`. -/
def State.statusCleared (s : State) (page w : Nat) : State :=
  let t := ((s.clearBits page Hdr.INT_STATUS_BLOCK (bits w 31 16)).clearBits page Hdr.INT_STATUS_ERR_LOST (bits w 1 1)).clearBits page
    Hdr.INT_STATUS_ERR_CAPTURED (bits w 0 0)
  if bit w 0 then t.set page Hdr.ERR_CAPTURE_VALID 0 else t

theorem bits_self_eq_one_iff (w b : Nat) : bits w b b = 1 ↔ bit w b = true := by
  have hwidth : b + 1 - b = 1 := by omega
  simp [bits, bit, hwidth, Nat.testBit_eq_decide_div_mod_eq, Nat.shiftRight_eq_div_pow]

/-- Taking away the bit 0 that a number has leaves it even. -/
theorem sub_and_one_even (x : Nat) : (x - (x &&& 1)) % 2 = 0 := by
  rw [Nat.and_one_is_mod]
  omega

theorem State.clearField_plain {page : Nat} {f : RegField} (v : Nat) (h1 : f ≠ Hdr.INT_STATUS_ERR_CAPTURED)
    (h2 : f ≠ HubGlobal.HUB_ACCESS_FAULT_VALID) : s.clearField page f 0 v = s.clearBits page f v := by
  simp [State.clearField, h1, h2]

theorem State.clearField_errCaptured (page w : Nat) :
    s.clearField page Hdr.INT_STATUS_ERR_CAPTURED 0 (bits w 0 0) =
      if bit w 0 then (s.clearBits page Hdr.INT_STATUS_ERR_CAPTURED (bits w 0 0)).set page Hdr.ERR_CAPTURE_VALID 0
      else s.clearBits page Hdr.INT_STATUS_ERR_CAPTURED (bits w 0 0) := by
  have hne : Hdr.INT_STATUS_ERR_CAPTURED ≠ HubGlobal.HUB_ACCESS_FAULT_VALID := by decide
  simp [State.clearField, hne, bits_self_eq_one_iff]

/-- An accepted write of `INT_STATUS` clears the bits written as 1. -/
theorem State.writeReg_intStatus {s : State} {o : Origin} {page : Nat} {w : Word} (h : Accepts s o page 0x020 w = true) :
    s.writeReg o page 0x020 w = s.statusCleared page w.toNat := by
  obtain ⟨hr, -⟩ := accepts_parts h
  obtain ⟨-, ⟨k, hkind⟩, -⟩ := reaches_parts hr
  rw [State.writeReg_header h (by decide) (by decide) (by decide), fieldsAt_intStatus hkind]
  change State.clearField (State.clearField (State.clearField s page Hdr.INT_STATUS_BLOCK 0 (bits w.toNat 31 16)) page
    Hdr.INT_STATUS_ERR_LOST 0 (bits w.toNat 1 1)) page Hdr.INT_STATUS_ERR_CAPTURED 0 (bits w.toNat 0 0) = _
  rw [State.clearField_errCaptured, State.clearField_plain (f := Hdr.INT_STATUS_ERR_LOST) _ _ (by decide) (by decide),
    State.clearField_plain _ _ (by decide) (by decide)]
  rfl

/-- The fields that a clear changes. -/
def clearKeys (page : Nat) : List Nat :=
  [fieldKey page Hdr.INT_STATUS_BLOCK 0, fieldKey page Hdr.INT_STATUS_ERR_LOST 0, fieldKey page Hdr.INT_STATUS_ERR_CAPTURED 0,
   fieldKey page Hdr.ERR_CAPTURE_VALID 0]

theorem clearKeys_inErrorWords (page : Nat) : InErrorWords (clearKeys page) := by
  intro k hk
  simp only [clearKeys, List.mem_cons, List.not_mem_nil, or_false, fieldKey, Hdr.INT_STATUS_BLOCK, Hdr.INT_STATUS_ERR_LOST,
    Hdr.INT_STATUS_ERR_CAPTURED, Hdr.ERR_CAPTURE_VALID] at hk
  omega

theorem State.statusCleared_regs (page w : Nat) : RegsSameBut s (s.statusCleared page w) (clearKeys page) := by
  have h : RegsSameBut s (((s.clearBits page Hdr.INT_STATUS_BLOCK (bits w 31 16)).clearBits page Hdr.INT_STATUS_ERR_LOST
      (bits w 1 1)).clearBits page Hdr.INT_STATUS_ERR_CAPTURED (bits w 0 0)) (clearKeys page) :=
    RegsSameBut.clearBits_of_mem (RegsSameBut.clearBits_of_mem (RegsSameBut.clearBits_of_mem (RegsSameBut.refl s _)
      _ _ _ _ (by simp [clearKeys])) _ _ _ _ (by simp [clearKeys])) _ _ _ _ (by simp [clearKeys])
  unfold State.statusCleared
  dsimp only
  split
  · exact RegsSameBut.set_of_mem h _ _ _ _ (by simp [clearKeys])
  · exact h

@[simp] theorem State.statusCleared_clock (page w : Nat) : (s.statusCleared page w).clock = s.clock := by
  unfold State.statusCleared
  dsimp only
  split <;> simp

/-- A field other than `ERR_CAPTURE.VALID` reads after a clear as the three fields of `INT_STATUS` leave it. -/
theorem State.get_statusCleared (page w : Nat) {f : RegField} (hf : fieldKey page f 0 ≠ fieldKey page Hdr.ERR_CAPTURE_VALID 0) :
    (s.statusCleared page w).get page f =
      (((s.clearBits page Hdr.INT_STATUS_BLOCK (bits w 31 16)).clearBits page Hdr.INT_STATUS_ERR_LOST (bits w 1 1)).clearBits page
        Hdr.INT_STATUS_ERR_CAPTURED (bits w 0 0)).get page f := by
  unfold State.statusCleared
  dsimp only
  split
  · exact State.get_set_other _ _ hf
  · rfl

theorem State.statusCleared_block (page w : Nat) : (s.statusCleared page w).get page Hdr.INT_STATUS_BLOCK =
    (s.get page Hdr.INT_STATUS_BLOCK - (s.get page Hdr.INT_STATUS_BLOCK &&& bits w 31 16)) % 2 ^ 16 := by
  rw [State.get_statusCleared s page w (fieldKey_ne (by decide)), State.get_clearBits_other _ _ (fieldKey_ne (by decide)),
    State.get_clearBits_other _ _ (fieldKey_ne (by decide)), State.get_clearBits_same]
  rfl

theorem State.statusCleared_errLost (page : Nat) {w : Nat} (h : bit w 1 = true) :
    (s.statusCleared page w).get page Hdr.INT_STATUS_ERR_LOST = 0 := by
  rw [State.get_statusCleared s page w (fieldKey_ne (by decide)), State.get_clearBits_other _ _ (fieldKey_ne (by decide)),
    State.get_clearBits_same, (bits_self_eq_one_iff w _).2 h]
  exact sub_and_one_even _

theorem State.statusCleared_errCaptured (page : Nat) {w : Nat} (h : bit w 0 = true) :
    (s.statusCleared page w).get page Hdr.INT_STATUS_ERR_CAPTURED = 0 := by
  rw [State.get_statusCleared s page w (fieldKey_ne (by decide)), State.get_clearBits_same, (bits_self_eq_one_iff w _).2 h]
  exact sub_and_one_even _

theorem State.statusCleared_valid (page : Nat) {w : Nat} (h : bit w 0 = true) :
    (s.statusCleared page w).get page Hdr.ERR_CAPTURE_VALID = 0 := by
  simp [State.statusCleared, h]

/-! ## `INT_FORCE` (R52) -/

/-- The state after the bits of a word are set in `INT_STATUS`. -/
def State.statusForced (s : State) (page w : Nat) : State :=
  ((s.setBits page Hdr.INT_STATUS_BLOCK (bits w 31 16)).setBits page Hdr.INT_STATUS_ERR_LOST (bits w 1 1)).setBits page
    Hdr.INT_STATUS_ERR_CAPTURED (bits w 0 0)

/-- A write-only field of the header stores nothing: it forces the bits of `INT_STATUS` written as 1. -/
theorem State.storeField_force (page : Nat) (o : Origin) (off w : Nat) {f : RegField} (i : Nat) (hty : f.ty = .wo) (hbad : f.bad = [])
    (hf : f ≠ Port.CTL_SPLIT) : State.storeField page o off w (f, i) s = s.forceField page f (bits w f.hi f.lo) := by
  simp [State.storeField, hty, State.reservedIn, RegField.reserved, hbad, hf]

/-- An accepted write of `INT_FORCE` sets the bits of `INT_STATUS` written as 1. -/
theorem State.writeReg_intForce {s : State} {o : Origin} {page : Nat} {w : Word} (h : Accepts s o page 0x028 w = true) :
    s.writeReg o page 0x028 w = s.statusForced page w.toNat := by
  obtain ⟨hr, -⟩ := accepts_parts h
  obtain ⟨-, ⟨k, hkind⟩, -⟩ := reaches_parts hr
  rw [State.writeReg_header h (by decide) (by decide) (by decide), fieldsAt_intForce hkind]
  simp only [forEach, List.foldl_cons, List.foldl_nil]
  rw [State.storeField_force _ _ _ _ _ _ rfl rfl (by decide), State.storeField_force _ _ _ _ _ _ rfl rfl (by decide),
    State.storeField_force _ _ _ _ _ _ rfl rfl (by decide)]
  rfl

theorem State.statusForced_block (page w : Nat) : (s.statusForced page w).get page Hdr.INT_STATUS_BLOCK =
    (s.get page Hdr.INT_STATUS_BLOCK ||| bits w 31 16) % 2 ^ 16 := by
  unfold State.statusForced
  rw [State.get_setBits_other _ _ (fieldKey_ne (by decide)), State.get_setBits_other _ _ (fieldKey_ne (by decide)),
    State.get_setBits_same]
  rfl

theorem State.statusForced_errLost (page w : Nat) : (s.statusForced page w).get page Hdr.INT_STATUS_ERR_LOST =
    (s.get page Hdr.INT_STATUS_ERR_LOST ||| bits w 1 1) % 2 := by
  unfold State.statusForced
  rw [State.get_setBits_other _ _ (fieldKey_ne (by decide)), State.get_setBits_same,
    State.get_setBits_other _ _ (fieldKey_ne (by decide))]
  rfl

theorem State.statusForced_errCaptured (page w : Nat) : (s.statusForced page w).get page Hdr.INT_STATUS_ERR_CAPTURED =
    (s.get page Hdr.INT_STATUS_ERR_CAPTURED ||| bits w 0 0) % 2 := by
  unfold State.statusForced
  rw [State.get_setBits_same, State.get_setBits_other _ _ (fieldKey_ne (by decide)),
    State.get_setBits_other _ _ (fieldKey_ne (by decide))]
  rfl

/-! ## Reading `ERR_COUNT` (R56, R58) -/

/-- `ERR_COUNT` shows what it holds, in every page. -/
theorem State.view_errCount (page : Nat) : s.view page Hdr.ERR_COUNT_COUNT 0 = s.get page Hdr.ERR_COUNT_COUNT := by
  have hheader : s.headerView page Hdr.ERR_COUNT_COUNT = none := by simp +decide [State.headerView]
  have hpair (k : Nat) : s.pairView page k Hdr.ERR_COUNT_COUNT 0 = none := by
    have hno : ∀ x ∈ pairFields, x.2 ≠ Hdr.ERR_COUNT_COUNT := by decide
    exact if_neg (fun ⟨_, hmem⟩ => hno _ (List.elem_iff.1 hmem) rfl)
  unfold State.view
  rw [hheader]
  cases pageKind page with
  | none => rfl
  | some k =>
    cases k
    case router =>
      have hrouter : s.routerView page Hdr.ERR_COUNT_COUNT 0 = none := by
        simp +decide only [State.routerView, if_false]
        split <;> rfl
      simp [hrouter]
    all_goals
      simp +decide [hpair, State.hubGlobalView, State.safetyView, State.supplyView, State.recorderView, State.configView, hallmarkView,
        State.monitorView, State.dieSideView, State.xportView, State.sctlView, State.miView, State.eng3View, State.laneView,
        State.ddrView, State.cryptoView]

theorem State.wordAt_errCount {page : Nat} {k : PageKind} (h : pageKind page = some k) :
    s.wordAt page 0x034 = BitVec.ofNat 32 (s.get page Hdr.ERR_COUNT_COUNT % 65536) := by
  have hty : Hdr.ERR_COUNT_COUNT.ty ≠ .wo := by decide
  have hwidth : Hdr.ERR_COUNT_COUNT.width = 16 := rfl
  have hlo : Hdr.ERR_COUNT_COUNT.lo = 0 := rfl
  simp [State.wordAt, fieldsAt_errCount h, State.view_errCount, hty, hwidth, hlo]

theorem State.settle_errCount (page : Nat) : s.settle page 0x034 = s := by
  unfold State.settle
  cases pageKind page with
  | none => rfl
  | some k => cases k <;> simp [State.laneSettle]

theorem State.popped_errCount {page : Nat} {k : PageKind} (h : pageKind page = some k) :
    s.popped page 0x034 = s.set page Hdr.ERR_COUNT_COUNT 0 := by
  unfold State.popped
  rw [fieldsAt_errCount h, h]
  cases k <;> simp [forEach, Hdr.ERR_COUNT_COUNT]

/-- A read of `ERR_COUNT` that reaches its page answers the count, and clears it unless it carries PEEK. -/
theorem State.readReg_errCount {s : State} {o : Origin} {page : Nat} (h : Reaches s o page = true) (ask : Bool) :
    ∃ hub : HubState, hub.readData = [BitVec.ofNat 32 (s.get page Hdr.ERR_COUNT_COUNT % 65536)] ∧
      s.readReg o page 0x034 ask =
        { (if s.peekOf o ask then s else s.set page Hdr.ERR_COUNT_COUNT 0) with hub := hub } := by
  obtain ⟨hp, ⟨k, hk⟩, hon⟩ := reaches_parts h
  have hasg : State.assigned page 0x034 = true := by simp [State.assigned, fieldsAt_errCount hk]
  simp [State.readReg, State.readRequest, hp, State.readWords, State.busRead, pageAt_addr, offAt_addr, pageWindow_of_kind hk, hk, hon,
    hasg, State.settle_errCount, State.popped_errCount s hk, State.wordAt_errCount s hk]

/-- Every error is counted (R56). -/
theorem State.capture_errCount (page code : Nat) (o : Origin) (off : Nat) :
    (s.capture page code o off).get page Hdr.ERR_COUNT_COUNT = min (s.get page Hdr.ERR_COUNT_COUNT + 1) 0xFFFF := by
  have hcount : (s.count page Hdr.ERR_COUNT_COUNT).get page Hdr.ERR_COUNT_COUNT = min (s.get page Hdr.ERR_COUNT_COUNT + 1) 0xFFFF := by
    rw [State.get_count_same]
    simp only [satAdd, Hdr.ERR_COUNT_COUNT, RegField.width]
    omega
  unfold State.capture
  dsimp only
  split
  · rw [State.get_set_other _ _ (fieldKey_ne (by decide)), hcount]
  · iterate 6 rw [State.get_set_other _ _ (fieldKey_ne (by decide))]
    split
    · rw [State.took_get, hcount]
    · exact hcount

/-- An error that finds `VALID` 0 is held (R56). -/
theorem State.capture_held {page code off : Nat} (o : Origin) (hvalid : s.flag page Hdr.ERR_CAPTURE_VALID = false) (hcode : code < 16)
    (hoff : off < 4096) : Holds (s.capture page code o off) page code o off ∧
      (s.capture page code o off).get page Hdr.INT_STATUS_ERR_CAPTURED = 1 := by
  obtain ⟨-, hcap⟩ := State.capture_captures s page code o hcode hoff
  rw [if_neg (by simp [hvalid])] at hcap
  obtain ⟨hholds, hset, -⟩ := hcap
  exact ⟨hholds, hset⟩

/-! ## The cycle of an access -/

theorem State.sameCycle_none {page : Nat} {k : PageKind} (o : Origin) (events : BitVec 16) (hk : pageKind page = some k)
    (hon : s.pageOn page = true) : s.sameCycle page o events none = s.setBits page Hdr.INT_STATUS_BLOCK events.toNat := by
  simp [State.sameCycle, hk, hon]

theorem State.sameCycle_some {page : Nat} {k : PageKind} (o : Origin) (events : BitVec 16) (code word : Nat) (hk : pageKind page = some k)
    (hon : s.pageOn page = true) : s.sameCycle page o events (some (code, word)) =
      (s.setBits page Hdr.INT_STATUS_BLOCK events.toNat).capture page code o (4 * word) := by
  simp [State.sameCycle, hk, hon]

/-- A clear keeps the page reachable. -/
theorem State.statusCleared_pageOn {page : Nat} {k : PageKind} (w : Nat) (hk : pageKind page = some k) :
    (s.statusCleared page w).pageOn page = s.pageOn page :=
  RegsSameBut.pageOn_eq (s.statusCleared_regs page w) (clearKeys_inErrorWords page) (s.statusCleared_clock page w) (page_lt_of_kind hk)

/-- Setting bits of a cleared `INT_STATUS` stays within the fields that the clear changes. -/
theorem State.statusCleared_setBits_regs (page w m : Nat) :
    RegsSameBut s ((s.statusCleared page w).setBits page Hdr.INT_STATUS_BLOCK m) (clearKeys page) :=
  RegsSameBut.setBits_of_mem (s.statusCleared_regs page w) _ _ _ _ (by simp [clearKeys])

/-- A count that a read has left reads so after the events of its cycle. -/
theorem State.setBits_block_errCount (page m : Nat) :
    (s.setBits page Hdr.INT_STATUS_BLOCK m).get page Hdr.ERR_COUNT_COUNT = s.get page Hdr.ERR_COUNT_COUNT :=
  State.get_setBits_other s m (fieldKey_ne (by decide))

/-! ## The commands -/

section
variable {s} {o : Origin} {page : Nat} {v w : Word}

/-- INT_STATUS_CLEAR without an error in its cycle (R52). -/
theorem intStatusClear_events (ha : Accepts s o page 0x020 v = true) (events : BitVec 16) :
    Completes (.intStatusClear o page v events none) s (fun t =>
      t.get page Hdr.INT_STATUS_BLOCK =
        ((s.get page Hdr.INT_STATUS_BLOCK - (s.get page Hdr.INT_STATUS_BLOCK &&& bits v.toNat 31 16)) ||| events.toNat) % 2 ^ 16 ∧
      (bit v.toNat 0 = true → t.get page Hdr.ERR_CAPTURE_VALID = 0 ∧ t.get page Hdr.INT_STATUS_ERR_CAPTURED = 0) ∧
      (bit v.toNat 1 = true → t.get page Hdr.INT_STATUS_ERR_LOST = 0) ∧ RegsSameBut s t (clearKeys page)) := by
  obtain ⟨hr, -⟩ := accepts_parts ha
  obtain ⟨-, ⟨k, hk⟩, hon⟩ := reaches_parts hr
  have hstate : (s.writeReg o page 0x020 v).sameCycle page o events none =
      (s.statusCleared page v.toNat).setBits page Hdr.INT_STATUS_BLOCK events.toNat := by
    rw [State.writeReg_intStatus ha, State.sameCycle_none _ o events hk ((s.statusCleared_pageOn _ hk).trans hon)]
  refine completes_of_onPart rfl (isPage_reaches hr) ?_
  rw [hstate]
  simp only [State.pending_get]
  refine ⟨?_, fun h0 => ⟨?_, ?_⟩, fun h1 => ?_, s.statusCleared_setBits_regs page _ _⟩
  · rw [State.get_setBits_same, State.statusCleared_block]
    have hwidth : Hdr.INT_STATUS_BLOCK.width = 16 := rfl
    simp only [hwidth, Nat.or_mod_two_pow, Nat.mod_mod]
  · rw [State.get_setBits_other _ _ (fieldKey_ne (by decide)), State.statusCleared_valid _ _ h0]
  · rw [State.get_setBits_other _ _ (fieldKey_ne (by decide)), State.statusCleared_errCaptured _ _ h0]
  · rw [State.get_setBits_other _ _ (fieldKey_ne (by decide)), State.statusCleared_errLost _ _ h1]

/-- INT_STATUS_CLEAR of `ERR_CAPTURED` in the cycle of an error: the error finds `VALID` 0 (R56). -/
theorem intStatusClear_error (ha : Accepts s o page 0x020 v = true) (h0 : bit v.toNat 0 = true) (events : BitVec 16) {code word : Nat}
    (hcode : code < 16) (hword : word < 1024) :
    Completes (.intStatusClear o page v events (some (code, word))) s (fun t =>
      Holds t page code o (4 * word) ∧ t.get page Hdr.INT_STATUS_ERR_CAPTURED = 1) := by
  obtain ⟨hr, -⟩ := accepts_parts ha
  obtain ⟨-, ⟨k, hk⟩, hon⟩ := reaches_parts hr
  have hstate : (s.writeReg o page 0x020 v).sameCycle page o events (some (code, word)) =
      ((s.statusCleared page v.toNat).setBits page Hdr.INT_STATUS_BLOCK events.toNat).capture page code o (4 * word) := by
    rw [State.writeReg_intStatus ha, State.sameCycle_some _ o events code word hk ((s.statusCleared_pageOn _ hk).trans hon)]
  have hvalid : ((s.statusCleared page v.toNat).setBits page Hdr.INT_STATUS_BLOCK events.toNat).flag page Hdr.ERR_CAPTURE_VALID = false := by
    simp [State.flag, State.get_setBits_other _ _ (fieldKey_ne (p := page) (f := Hdr.ERR_CAPTURE_VALID) (i := 0)
      (g := Hdr.INT_STATUS_BLOCK) (j := 0) (by decide)), State.statusCleared_valid _ _ h0]
  refine completes_of_onPart rfl (isPage_reaches hr) ?_
  rw [hstate]
  exact State.capture_held _ o hvalid hcode (show 4 * word < 4096 by omega)

/-- INT_FORCE_WRITE without a clear in its cycle (R52). -/
theorem intForceWrite_alone (ha : Accepts s o page 0x028 v = true) :
    Completes (.intForceWrite o page v 0) s (fun t =>
      t.get page Hdr.INT_STATUS_BLOCK = (s.get page Hdr.INT_STATUS_BLOCK ||| bits v.toNat 31 16) % 2 ^ 16 ∧
      t.get page Hdr.INT_STATUS_ERR_LOST = (s.get page Hdr.INT_STATUS_ERR_LOST ||| bits v.toNat 1 1) % 2 ∧
      t.get page Hdr.INT_STATUS_ERR_CAPTURED = (s.get page Hdr.INT_STATUS_ERR_CAPTURED ||| bits v.toNat 0 0) % 2) := by
  obtain ⟨hr, -⟩ := accepts_parts ha
  refine completes_of_onPart rfl (isPage_reaches hr) ?_
  rw [if_pos rfl, State.writeReg_intForce ha]
  simp only [State.pending_get]
  exact ⟨s.statusForced_block _ _, s.statusForced_errLost _ _, s.statusForced_errCaptured _ _⟩

/-- INT_FORCE_WRITE with a clear in its cycle: the clear comes first (R52). -/
theorem intForceWrite_afterClear (hw : Accepts s o page 0x020 w = true) (hv : Accepts s o page 0x028 v = true) :
    Completes (.intForceWrite o page v w) s (fun t => t.get page Hdr.INT_STATUS_BLOCK =
      ((s.get page Hdr.INT_STATUS_BLOCK - (s.get page Hdr.INT_STATUS_BLOCK &&& bits w.toNat 31 16)) ||| bits v.toNat 31 16) % 2 ^ 16) := by
  by_cases hw0 : w = 0
  · subst hw0
    obtain ⟨t, hexec, hblock, -, -⟩ := intForceWrite_alone hv
    exact ⟨t, hexec, by simpa [bits] using hblock⟩
  · obtain ⟨hr, -⟩ := accepts_parts hv
    have hv' : Accepts (s.statusCleared page w.toNat) o page 0x028 v = true :=
      RegsSameBut.accepts (s.statusCleared_regs page _) (clearKeys_inErrorWords page) (s.statusCleared_clock page _) (by decide) (by decide) hv
    refine completes_of_onPart rfl (isPage_reaches hr) ?_
    rw [if_neg hw0, State.writeReg_intStatus hw, State.writeReg_intForce hv']
    simp only [State.pending_get, State.statusForced_block, State.statusCleared_block, Nat.or_mod_two_pow, Nat.mod_mod]

/-- The state in which a read of `ERR_COUNT` leaves the page, before the errors of its cycle. -/
theorem readReg_errCount_parts (hr : Reaches s o page = true) (ask : Bool) :
    (s.readReg o page 0x034 ask).get page Hdr.ERR_COUNT_COUNT = (if s.peekOf o ask then s.get page Hdr.ERR_COUNT_COUNT else 0) ∧
    (s.readReg o page 0x034 ask).hub.readData = [BitVec.ofNat 32 (s.get page Hdr.ERR_COUNT_COUNT % 65536)] ∧
    (s.readReg o page 0x034 ask).pageOn page = true := by
  obtain ⟨-, ⟨k, hk⟩, hon⟩ := reaches_parts hr
  obtain ⟨hub, hdata, hstate⟩ := State.readReg_errCount hr ask
  have hcleared : (s.set page Hdr.ERR_COUNT_COUNT 0).pageOn page = true :=
    (RegsSameBut.pageOn_eq (RegsSameBut.set s page Hdr.ERR_COUNT_COUNT 0 0) (by
      intro k hk
      rw [List.mem_singleton.1 hk, fieldKey]
      simp only [Hdr.ERR_COUNT_COUNT]
      omega) rfl (page_lt_of_kind hk)).trans hon
  rw [hstate]
  refine ⟨?_, hdata, ?_⟩
  · cases s.peekOf o ask
    · exact s.get_set_same page Hdr.ERR_COUNT_COUNT 0 0
    · rfl
  · cases s.peekOf o ask
    · exact hcleared
    · exact hon

/-- ERR_COUNT_READ without an error in its cycle (R56, R58). -/
theorem errCountRead_alone (hr : Reaches s o page = true) (ask : Bool) :
    Completes (.errCountRead o page ask none) s (fun t =>
      t.get page Hdr.ERR_COUNT_COUNT = (if s.peekOf o ask then s.get page Hdr.ERR_COUNT_COUNT else 0) ∧
      t.hub.readData = [BitVec.ofNat 32 (s.get page Hdr.ERR_COUNT_COUNT % 65536)]) := by
  obtain ⟨-, ⟨k, hk⟩, -⟩ := reaches_parts hr
  obtain ⟨hcount, hdata, hon⟩ := readReg_errCount_parts hr ask
  refine completes_of_onPart rfl (isPage_reaches hr) ?_
  rw [Option.map_none, State.sameCycle_none _ o 0 hk hon]
  simp only [State.pending_get]
  exact ⟨(State.setBits_block_errCount _ _ _).trans hcount, hdata⟩

/-- A clearing ERR_COUNT_READ in the cycle of an error (R56). -/
theorem errCountRead_error (hr : Reaches s o page = true) {ask : Bool} (hpeek : s.peekOf o ask = false) (code : Nat) :
    Completes (.errCountRead o page ask (some code)) s (fun t => t.get page Hdr.ERR_COUNT_COUNT = 1 ∧
      t.hub.readData = [BitVec.ofNat 32 (s.get page Hdr.ERR_COUNT_COUNT % 65536)]) := by
  obtain ⟨-, ⟨k, hk⟩, -⟩ := reaches_parts hr
  obtain ⟨hcount, hdata, hon⟩ := readReg_errCount_parts hr ask
  refine completes_of_onPart rfl (isPage_reaches hr) ?_
  rw [Option.map_some, State.sameCycle_some _ o 0 code _ hk hon]
  constructor
  · rw [State.pending_get, State.capture_errCount, State.setBits_block_errCount, hcount, hpeek]
    rfl
  · rw [State.capture_hub, State.setBits_hub]
    exact hdata

end

end Sys2Proof.Machine

namespace Sys2Proof

open Machine

/-- Settles O9: each command is the bus access of its page, whose header registers no page locks and no page's own effect touches, so that
what the access makes of `INT_STATUS`, `ERR_CAPTURE.VALID` and `ERR_COUNT` decides the outcome. -/
theorem errorsAreCapturedCountedAndCleared : Obligations.ErrorsAreCapturedCountedAndCleared := by
  unfold Obligations.ErrorsAreCapturedCountedAndCleared
  intro s o page v w
  refine ⟨fun ha events => ⟨intStatusClear_events ha events, fun h0 code word hcode hword => intStatusClear_error ha h0 events hcode hword⟩,
    intForceWrite_alone, intForceWrite_afterClear, fun hr ask => ⟨errCountRead_alone hr ask, fun code hpeek => errCountRead_error hr hpeek code⟩⟩

end Sys2Proof
end

section
/-! SUPPORT. The state right after reset (R15, R45): the register store lists nothing, so every field holds its reset value. -/

namespace Sys2Proof.Machine

/-- A field that the register store does not list holds its reset value. -/
theorem State.get_of_regs_nil {s : State} (h : s.regs = []) (page : Nat) (f : RegField) (i : Nat) : s.get page f i = f.reset page i := by
  simp [State.get, h, SMap.read, SMap.find]

/-- A sector not yet released holds its GSR (R98). -/
theorem State.gsrActive_of_not_released {s : State} {d sec : Nat} (h : SMap.read false s.fabric.released (sectorKey d sec) = false) :
    s.gsrActive d sec = true := by
  simp [State.gsrActive, h]

end Sys2Proof.Machine

namespace Sys2Proof

open Machine

/-- Settles O6: reset lists no register, no released sector and no command. -/
theorem resetIsReadyWithTheResetValues : Obligations.ResetIsReadyWithTheResetValues := by
  unfold Obligations.ResetIsReadyWithTheResetValues
  have hget : ∀ p f i, State.reset.get p f i = f.reset p i := State.get_of_regs_nil rfl
  have hready : Ready State.reset := fun c hc => absurd hc (List.not_mem_nil)
  have hgsr (d sec : Nat) : State.reset.gsrActive d sec = true := State.gsrActive_of_not_released rfl
  have hclean (p : Nat) : State.reset.get p Reg.Hdr.ERR_CAPTURE_VALID = 0 ∧ State.reset.get p Reg.Hdr.ERR_COUNT_COUNT = 0 ∧
      State.reset.intStatus p = 0 ∧ State.reset.expertState p = 0 := by
    simp [State.intStatus, State.expertState, hget, RegField.reset, Reg.Hdr.ERR_CAPTURE_VALID, Reg.Hdr.ERR_COUNT_COUNT,
      Reg.Hdr.INT_STATUS_BLOCK, Reg.Hdr.INT_STATUS_ERR_LOST, Reg.Hdr.INT_STATUS_ERR_CAPTURED, Reg.Hdr.EXPERT_KEY_STATE]
  have hsession : State.reset.sessionOpen = false := by
    simp only [State.sessionOpen, State.flag, hget]
    rfl
  exact ⟨hready, rfl, hget, hclean, hgsr, fun d => hget _ _ _, hsession, hget _ _ _, hget _ _ _, hget _ _ _⟩

end Sys2Proof
end

section
/-! SUPPORT. The queue (R43, log entries 7, 8, 21): every command answers by the one check of its operands, so that a well-formed one
completes and none touches what waits behind it. -/

namespace Sys2Proof.Machine

/-- Every arm of the dispatch makes one state and hands it to `onPart` with the check of its operands, which is the row of `wellFormed`;
`done` is `onPart true`. -/
theorem exec_eq_onPart (i : Instr) (s : State) : ∃ t, exec i s = onPart i.wellFormed s t := by
  cases i <;> exact ⟨_, rfl⟩

/-- A command that completes leaves the queue as it was. -/
theorem exec_next_pending {i : Instr} {s t : State} (h : exec i s = .next t) : t.pending = s.pending := by
  obtain ⟨u, hu⟩ := exec_eq_onPart i s
  rw [hu] at h
  rcases onPart_cases i.wellFormed s u with ⟨-, hnext⟩ | ⟨-, hfault⟩
  · rw [hnext] at h
    cases h
    rfl
  · rw [hfault] at h
    cases h

/-- A command whose operands name parts of the device completes from every state. -/
theorem exec_completes_of_wellFormed {i : Instr} (h : i.wellFormed = true) (s : State) : ∃ t, exec i s = .next t := by
  obtain ⟨u, hu⟩ := exec_eq_onPart i s
  exact ⟨_, hu.trans (onPart_next h)⟩

theorem step_of_nil {s : State} (h : s.pending = []) : step s = .next s := by
  simp only [step, h]

theorem step_of_cons {s : State} {c : Instr} {rest : List Instr} (h : s.pending = c :: rest) :
    step s = exec c { s with pending := rest } := by
  simp only [step, h]

/-- A step from a ready state completes and takes one command off the queue, if there is one. -/
theorem step_of_ready {s : State} (h : Ready s) : ∃ t, step s = .next t ∧ t.pending = s.pending.drop 1 := by
  cases hq : s.pending with
  | nil => exact ⟨s, step_of_nil hq, hq⟩
  | cons c rest =>
    have hc : c.wellFormed = true := h c (by rw [hq]; exact List.mem_cons_self)
    obtain ⟨t, ht⟩ := exec_completes_of_wellFormed hc { s with pending := rest }
    exact ⟨t, (step_of_cons hq).trans ht, exec_next_pending ht⟩

/-- What is left of a ready queue is ready. -/
theorem ready_of_drop {s t : State} {n : Nat} (h : Ready s) (ht : t.pending = s.pending.drop n) : Ready t := by
  intro c hc
  rw [ht] at hc
  exact h c (List.mem_of_mem_drop hc)

/-- As many steps from a ready state as commands wait serve them all. -/
theorem run_of_ready {n : Nat} {s : State} (h : Ready s) (hn : s.pending.length = n) : ∃ t, core.run n s = .next t ∧ t.pending = [] := by
  induction n generalizing s with
  | zero => exact ⟨s, rfl, List.eq_nil_of_length_eq_zero hn⟩
  | succ n ih =>
    obtain ⟨u, hstep, hdrop⟩ := step_of_ready h
    have hlen : u.pending.length = n := by simp [hdrop, hn]
    obtain ⟨t, hrun, hnil⟩ := ih (ready_of_drop h hdrop) hlen
    have hcore : core.run (n + 1) s = core.run n u := by
      have hstep' : core.step s = .next u := hstep
      simp only [Host.Core.run, hstep']
    exact ⟨t, hcore.trans hrun, hnil⟩

end Sys2Proof.Machine

namespace Sys2Proof

open Machine

/-- Settles O4: `step_of_ready`, and the rest of a ready queue is ready. -/
theorem readyIsKept : Obligations.ReadyIsKept := by
  unfold Obligations.ReadyIsKept
  intro s h
  obtain ⟨t, hstep, hdrop⟩ := step_of_ready h
  exact ⟨t, hstep, ready_of_drop h hdrop, hdrop⟩

/-- Settles O5, by induction on the number of waiting commands. -/
theorem readyRunsToTheEnd : Obligations.ReadyRunsToTheEnd := by
  unfold Obligations.ReadyRunsToTheEnd
  exact fun s h => run_of_ready h rfl

/-- Settles O3: a command that completes does so through `onPart`, which restores the queue. -/
theorem commandsKeepTheQueue : Obligations.CommandsKeepTheQueue := by
  unfold Obligations.CommandsKeepTheQueue
  exact fun i s t h => exec_next_pending h

/-- Settles O1: the two cases of the queue. -/
theorem stepRunsTheFrontCommand : Obligations.StepRunsTheFrontCommand := by
  unfold Obligations.StepRunsTheFrontCommand
  exact ⟨fun c rest s h => step_of_cons h, fun s h => step_of_nil h⟩

end Sys2Proof
end

section
/-! SUPPORT. Word requests (R41, R42, R60, R61): what a page answers to a write that its first rules drop, the register `INT_ENABLE` as
every page holds it, and the access that meets no running page. -/

namespace Sys2Proof.Machine

open Reg

variable {s : State} {o : Origin} {page : Nat}

/-! ## Writes that the first rules of a page drop -/

/-- A write of an OBSERVE session is dropped before any other rule is asked (R60). -/
theorem State.pageWrite_observes (off w : Nat) (harmed : s.expertState page ≠ 1) (hobs : s.observes o = true) :
    s.pageWrite page o off w 0xF = { st := s.capture page Err.level o off, denied := true } := by
  simp [State.pageWrite, harmed, hobs]

/-- A word with partial byte enables is dropped before any other rule is asked (R42). -/
theorem State.pageWrite_partial (off w : Nat) {be : BitVec 4} (harmed : s.expertState page ≠ 1) (hbe : be ≠ 0xF) :
    s.pageWrite page o off w be = { st := s.capture page Err.width o off } := by
  have hlit : be ≠ 15#4 := hbe
  simp [State.pageWrite, harmed, hlit]

/-- What a command that writes one word of a running page leaves. -/
theorem completes_registerWrite (hr : Reaches s o page = true) {off : Nat} (hoff : off < 0x1000) (h4 : off % 4 = 0) (v : Word)
    (be : BitVec 4) {p : State → Prop} (hp : p { (s.pageWrite page o off v.toNat be).st with pending := s.pending }) :
    Completes (.registerWrite o (page * 4096 + off) [{ data := v, be := be }]) s p := by
  refine completes_of_onPart rfl (inAperture_reaches hr hoff h4) ?_
  rwa [writeRequest_reaches hr hoff h4]

theorem registerWrite_observes {off : Nat} (v : Word) (hr : Reaches s o page = true) (hobs : s.observes o = true) (hoff : off < 0x1000)
    (h4 : off % 4 = 0) (harmed : s.expertState page ≠ 1) :
    Completes (oneWord o page off v) s (fun t =>
      Captures s t page 0x4 o off ∧ RegsSameBut s t (errKeys page) ∧ t.hub = s.hub ∧ t.eng = s.eng ∧ t.mem = s.mem ∧
      t.fabric = s.fabric ∧ t.crypto = s.crypto ∧ t.dbg = s.dbg ∧ t.boot = s.boot ∧ t.power = s.power) := by
  refine completes_registerWrite hr hoff h4 v 0xF ?_
  rw [State.pageWrite_observes off _ harmed hobs]
  have hcaptures : Captures s (s.capture page Err.level o off) page 0x4 o off := s.capture_captures page _ o (by decide) hoff
  have hregs : RegsSameBut s (s.capture page Err.level o off) (errKeys page) := s.capture_regs page _ o (by decide) hoff
  exact ⟨hcaptures, hregs, by simp⟩

theorem registerWrite_partial {off : Nat} {be : BitVec 4} (v : Word) (hr : Reaches s o page = true) (harmed : s.expertState page ≠ 1)
    (hoff : off < 0x1000) (h4 : off % 4 = 0) (hbe : be ≠ 0xF) :
    Completes (.registerWrite o (page * 4096 + off) [{ data := v, be := be }]) s (fun t => Captures s t page 0x5 o off) := by
  refine completes_registerWrite hr hoff h4 v be ?_
  rw [State.pageWrite_partial off _ harmed hbe]
  exact s.capture_captures page 0x5 o (by decide) hoff

/-! ## `INT_ENABLE` -/

/-- The fields of `INT_ENABLE`. -/
def intEnableFields : List RegField := [Hdr.INT_ENABLE_BLOCK, Hdr.INT_ENABLE_ERR_LOST, Hdr.INT_ENABLE_ERR_CAPTURED]

/-- A page stores the fields of `INT_ENABLE` as they are written. -/
theorem State.storeField_intEnable (s : State) (page : Nat) (o : Origin) (off w : Nat) {f : RegField} (hf : f ∈ intEnableFields) :
    State.storeField page o off w (f, 0) s = s.set page f (bits w f.hi f.lo) := by
  have hfield : ∀ f ∈ intEnableFields, f.ty = .rw ∧ f.bad = [] ∧ f.off ≠ 0x010 ∧ f ≠ Lane.LANE_RATE_MOD ∧ f ≠ Lane.LANE_TXEQ_TAPS ∧
      f ≠ Eng0.CTL_LOCKSTEP ∧ f ≠ Eng0.ENG_DBG_REGDATA_DATA ∧ f ≠ Adapter.RESP_LEN_LEN ∧ f ≠ Adapter.RESP_LEN_FCS_GEN ∧
      f ≠ Port.CTL_SPLIT ∧ f ≠ Eng1.WDT_CTL_EN := by decide
  obtain ⟨hty, hbad, hctl, hmod, htaps, hlock, hdata, hlen, hgen, hsplit, hwdt⟩ := hfield f hf
  have hstored : s.unstored page f = false := by
    unfold State.unstored
    split <;> simp [hctl, hmod, htaps, hlock, hdata]
  simp [State.storeField, hty, hstored, State.reservedPair, hlen, hgen, State.reservedIn, RegField.reserved, hbad, hsplit, hwdt]

/-- The state after a word is stored in `INT_ENABLE`. -/
def State.enableStored (s : State) (page w : Nat) : State :=
  ((s.set page Hdr.INT_ENABLE_BLOCK (bits w 31 16)).set page Hdr.INT_ENABLE_ERR_LOST (bits w 1 1)).set page
    Hdr.INT_ENABLE_ERR_CAPTURED (bits w 0 0)

/-- An accepted write of `INT_ENABLE` stores its fields. -/
theorem State.writeReg_intEnable {w : Word} (h : Accepts s o page 0x024 w = true) : s.writeReg o page 0x024 w = s.enableStored page w.toNat := by
  obtain ⟨hr, -⟩ := accepts_parts h
  obtain ⟨-, ⟨k, hkind⟩, -⟩ := reaches_parts hr
  rw [State.writeReg_header h (by decide) (by decide) (by decide), fieldsAt_intEnable hkind]
  simp only [forEach, List.foldl_cons, List.foldl_nil]
  rw [State.storeField_intEnable _ _ _ _ _ (by simp [intEnableFields]), State.storeField_intEnable _ _ _ _ _ (by simp [intEnableFields]),
    State.storeField_intEnable _ _ _ _ _ (by simp [intEnableFields])]
  rfl

theorem bits_lt (x hi lo : Nat) : bits x hi lo < 2 ^ (hi + 1 - lo) := Nat.mod_lt _ (by positivity)

theorem State.enableStored_block (s : State) (page w : Nat) : (s.enableStored page w).get page Hdr.INT_ENABLE_BLOCK = bits w 31 16 := by
  unfold State.enableStored
  rw [State.get_set_other _ _ (fieldKey_ne (by decide)), State.get_set_other _ _ (fieldKey_ne (by decide)), State.get_set_same]
  exact Nat.mod_eq_of_lt (bits_lt w 31 16)

theorem State.enableStored_errLost (s : State) (page w : Nat) :
    (s.enableStored page w).get page Hdr.INT_ENABLE_ERR_LOST = bits w 1 1 := by
  unfold State.enableStored
  rw [State.get_set_other _ _ (fieldKey_ne (by decide)), State.get_set_same]
  exact Nat.mod_eq_of_lt (bits_lt w 1 1)

theorem State.enableStored_errCaptured (s : State) (page w : Nat) :
    (s.enableStored page w).get page Hdr.INT_ENABLE_ERR_CAPTURED = bits w 0 0 := by
  unfold State.enableStored
  rw [State.get_set_same]
  exact Nat.mod_eq_of_lt (bits_lt w 0 0)

theorem State.enableStored_regs (s : State) (page w : Nat) : RegsSameBut s (s.enableStored page w)
    [fieldKey page Hdr.INT_ENABLE_BLOCK 0, fieldKey page Hdr.INT_ENABLE_ERR_LOST 0, fieldKey page Hdr.INT_ENABLE_ERR_CAPTURED 0] :=
  RegsSameBut.set_of_mem (RegsSameBut.set_of_mem (RegsSameBut.set_of_mem (RegsSameBut.refl s _) _ _ _ _ (by simp)) _ _ _ _ (by simp))
    _ _ _ _ (by simp)

theorem registerWrite_intEnable {v : Word} (h : Accepts s o page 0x024 v = true) :
    Completes (oneWord o page 0x024 v) s (fun t =>
      t.get page Hdr.INT_ENABLE_BLOCK = bits v.toNat 31 16 ∧ t.get page Hdr.INT_ENABLE_ERR_LOST = bits v.toNat 1 1 ∧
      t.get page Hdr.INT_ENABLE_ERR_CAPTURED = bits v.toNat 0 0 ∧
      RegsSameBut s t [fieldKey page Hdr.INT_ENABLE_BLOCK 0, fieldKey page Hdr.INT_ENABLE_ERR_LOST 0,
        fieldKey page Hdr.INT_ENABLE_ERR_CAPTURED 0]) := by
  obtain ⟨hr, -⟩ := accepts_parts h
  have hstate : s.writeRequest o (page * 4096 + 0x024) [{ data := v }] = s.enableStored page v.toNat := State.writeReg_intEnable h
  refine completes_of_onPart rfl (inAperture_reaches hr (off := 0x024) (by decide) (by decide)) ?_
  rw [hstate]
  exact ⟨s.enableStored_block page _, s.enableStored_errLost page _, s.enableStored_errCaptured page _, s.enableStored_regs page _⟩

/-- `INT_ENABLE` shows what it holds, in every page. -/
theorem State.view_intEnable (s : State) (page : Nat) {f : RegField} (hf : f ∈ intEnableFields) : s.view page f 0 = s.get page f := by
  have hpair (k : Nat) : s.pairView page k f 0 = none := by
    have hno : ∀ f ∈ intEnableFields, ∀ x ∈ pairFields, x.2 ≠ f := by decide
    exact if_neg (fun ⟨_, hmem⟩ => hno f hf _ (List.elem_iff.1 hmem) rfl)
  have hcases : f = Hdr.INT_ENABLE_BLOCK ∨ f = Hdr.INT_ENABLE_ERR_LOST ∨ f = Hdr.INT_ENABLE_ERR_CAPTURED := by
    simpa [intEnableFields] using hf
  have hheader : s.headerView page f = none := by
    rcases hcases with rfl | rfl | rfl <;> simp +decide [State.headerView]
  have hrouter : s.routerView page f 0 = none := by
    rcases hcases with rfl | rfl | rfl <;> simp +decide only [State.routerView, if_false] <;> split <;> rfl
  unfold State.view
  rw [hheader]
  cases pageKind page with
  | none => rfl
  | some k =>
    cases k <;> rcases hcases with rfl | rfl | rfl <;>
      simp +decide [hpair, hrouter, State.hubGlobalView, State.safetyView, State.supplyView, State.recorderView, State.configView,
        hallmarkView, State.monitorView, State.dieSideView, State.xportView, State.sctlView, State.miView, State.eng3View, State.laneView,
        State.ddrView, State.cryptoView]

/-- The word at `INT_ENABLE`, field by field from its highest. -/
theorem State.wordAt_intEnable (s : State) {page : Nat} {k : PageKind} (h : pageKind page = some k) :
    s.wordAt page 0x024 = BitVec.ofNat 32 (s.get page Hdr.INT_ENABLE_ERR_CAPTURED % 2 + s.get page Hdr.INT_ENABLE_ERR_LOST % 2 * 2 +
      s.get page Hdr.INT_ENABLE_BLOCK % 65536 * 65536) := by
  have hfilter : (fieldsAt page 0x024).filter (fun fi => fi.1.ty ≠ .wo) =
      [(Hdr.INT_ENABLE_BLOCK, 0), (Hdr.INT_ENABLE_ERR_LOST, 0), (Hdr.INT_ENABLE_ERR_CAPTURED, 0)] := by
    rw [fieldsAt_intEnable h]
    decide
  unfold State.wordAt
  rw [hfilter]
  simp only [List.foldl_cons, List.foldl_nil]
  rw [State.view_intEnable _ _ (by simp [intEnableFields]), State.view_intEnable _ _ (by simp [intEnableFields]),
    State.view_intEnable _ _ (by simp [intEnableFields])]
  congr 1
  simp only [Hdr.INT_ENABLE_BLOCK, Hdr.INT_ENABLE_ERR_LOST, Hdr.INT_ENABLE_ERR_CAPTURED, RegField.width]
  omega

/-- No register of the common header runs between commands. -/
theorem State.settle_header (s : State) (page : Nat) {off : Nat} (h : off < 0x100) : s.settle page off = s := by
  have hne (n : Nat) (hn : 0x100 ≤ n) : off ≠ n := by omega
  unfold State.settle
  cases pageKind page with
  | none => rfl
  | some k => cases k <;> simp [hne, State.laneSettle]

/-- A read of `INT_ENABLE` clears nothing. -/
theorem State.popped_intEnable (s : State) {page : Nat} {k : PageKind} (h : pageKind page = some k) : s.popped page 0x024 = s := by
  unfold State.popped
  rw [fieldsAt_intEnable h, h]
  cases k <;> simp [forEach, Hdr.INT_ENABLE_BLOCK, Hdr.INT_ENABLE_ERR_LOST, Hdr.INT_ENABLE_ERR_CAPTURED]

/-- A read of `INT_ENABLE` that reaches its page answers its word. -/
theorem State.busRead_intEnable (h : Reaches s o page = true) (peek : Bool) :
    s.busRead o (page * 4096 + 0x024) peek = { st := s, data := s.wordAt page 0x024 } := by
  obtain ⟨-, ⟨k, hk⟩, hon⟩ := reaches_parts h
  have hasg : State.assigned page 0x024 = true := by simp [State.assigned, fieldsAt_intEnable hk]
  simp [State.busRead, pageAt_addr, offAt_addr, pageWindow_of_kind hk, hk, hon, hasg, State.settle_header, State.popped_intEnable s hk]

/-! ## Requests of one word -/

/-- A read request of one word that does not end as Unsupported Request answers it, with the byte enables of the request. -/
theorem State.readRequest_one (hpath : s.pathUp o = true) {addr : Nat} {ask : Bool} {be : List (BitVec 4)}
    (hur : (s.busRead o addr (s.peekOf o ask)).ur = false) :
    s.readRequest o addr 1 ask be = { (s.busRead o addr (s.peekOf o ask)).st with hub := { (s.busRead o addr (s.peekOf o ask)).st.hub with
      readData := [(s.busRead o addr (s.peekOf o ask)).data], readEnables := State.byteEnables 1 be, completion := .sc } } := by
  simp [State.readRequest, hpath, State.readWords, hur]

/-- A write request of one word that does not end as Unsupported Request leaves what the word does. -/
theorem State.writeRequest_one (hpath : s.pathUp o = true) {addr : Nat} {x : WriteWord} (hur : (s.busWrite o addr x.data x.be).ur = false) :
    s.writeRequest o addr [x] = (s.busWrite o addr x.data x.be).st := by
  simp [State.writeRequest, hpath, State.writeWords, hur]

theorem registerRead_intEnable (h : Reaches s o page = true) (ask : Bool) (be : List (BitVec 4)) :
    Completes (.registerRead o (page * 4096 + 0x024) 1 ask be) s (fun t =>
      t.hub.readEnables = (if o = .pcie then (be ++ [0xF]).take 1 else [0xF]) ∧
      t.hub.readData = [BitVec.ofNat 32 (s.get page Hdr.INT_ENABLE_ERR_CAPTURED % 2 + s.get page Hdr.INT_ENABLE_ERR_LOST % 2 * 2 +
        s.get page Hdr.INT_ENABLE_BLOCK % 65536 * 65536)] ∧ t.hub.completion = .sc ∧ RegsSameBut s t []) := by
  obtain ⟨hpath, ⟨k, hk⟩, -⟩ := reaches_parts h
  refine completes_of_onPart rfl (inAperture_reaches h (off := 0x024) (by decide) (by decide)) ?_
  rw [State.readRequest_one hpath (by rw [State.busRead_intEnable h]), State.busRead_intEnable h, State.wordAt_intEnable s hk]
  refine ⟨?_, rfl, rfl, RegsSameBut.refl s _⟩
  cases o <;> rfl

/-! ## Accesses that meet no running page -/

/-- `HUB_ACCESS_FAULT` holds the first access that meets no running page. -/
theorem State.accessFault_faulted (s : State) (o : Origin) {page : Nat} (hpage : page < 0x4000) (write unpopulated : Bool)
    (hfree : s.flag Pg.hubGlobal HubGlobal.HUB_ACCESS_FAULT_VALID = false) :
    Faulted (s.accessFault o page write unpopulated) o page write unpopulated := by
  have horigin : originCode o < 8 := by cases o <;> decide
  unfold State.accessFault
  rw [if_neg (by simp [hfree])]
  refine ⟨?_, ?_, ?_, ?_, ?_, ?_⟩
  · rw [State.get_setInt_other _ (fieldKey_ne (by decide))]
    iterate 4 rw [State.get_set_other _ _ (fieldKey_ne (by decide))]
    rw [State.get_set_same]
    rfl
  · rw [State.get_setInt_other _ (fieldKey_ne (by decide))]
    iterate 3 rw [State.get_set_other _ _ (fieldKey_ne (by decide))]
    rw [State.get_set_same]
    exact Nat.mod_eq_of_lt horigin
  · rw [State.get_setInt_other _ (fieldKey_ne (by decide)), State.get_set_other _ _ (fieldKey_ne (by decide)), State.get_set_same]
    cases write <;> rfl
  · rw [State.get_setInt_other _ (fieldKey_ne (by decide))]
    iterate 2 rw [State.get_set_other _ _ (fieldKey_ne (by decide))]
    rw [State.get_set_same]
    cases unpopulated <;> rfl
  · rw [State.get_setInt_other _ (fieldKey_ne (by decide)), State.get_set_same]
    exact Nat.mod_eq_of_lt hpage
  · exact State.setInt_sets _ _ _ (by decide) (by decide)

/-- A field of another page is none of those that a write of a field within a page changes. -/
theorem PageOnly.set {s t : State} {q : Nat} (h : PageOnly s t q) {f : RegField} {i : Nat} (v : Nat)
    (hf : (f.off + i * f.stride) * 8 + f.lo < 32768) : PageOnly s (t.set q f v i) q := by
  intro p g j hg hne
  rw [State.get_set_other _ _ (fieldKey_ne_of_page hf hg hne)]
  exact h p g j hg hne

/-- An access fault changes the hub global page alone. -/
theorem State.accessFault_pageOnly (s : State) (o : Origin) (page : Nat) (write unpopulated : Bool) :
    PageOnly s (s.accessFault o page write unpopulated) Pg.hubGlobal := by
  have hrefl : PageOnly s s Pg.hubGlobal := fun _ _ _ _ _ => rfl
  unfold State.accessFault State.setInt State.setBits
  split
  · exact PageOnly.set hrefl _ (by decide)
  · iterate 6 refine PageOnly.set ?_ _ (by decide)
    exact hrefl

section
variable (hwindow : pageWindow page = none) (hno : pageKind page = none ∨ s.pageOn page = false)
include hwindow hno

/-- A write of a page that does not run is recorded. -/
theorem State.busWrite_noPage {off : Nat} (hoff : off < 4096) (w : Word) (be : BitVec 4) :
    s.busWrite o (page * 4096 + off) w be = s.offAccess o page true (pageKind page).isNone := by
  unfold State.busWrite
  simp only [pageAt_addr page hoff, hwindow]
  cases hk : pageKind page with
  | none => rfl
  | some k =>
    have hoffPage : s.pageOn page = false := hno.resolve_left (by simp [hk])
    simp [hoffPage]

/-- A read of a page that does not run is recorded. -/
theorem State.busRead_noPage {off : Nat} (hoff : off < 4096) (peek : Bool) :
    s.busRead o (page * 4096 + off) peek = s.offAccess o page false (pageKind page).isNone := by
  unfold State.busRead
  simp only [pageAt_addr page hoff, hwindow]
  cases hk : pageKind page with
  | none => rfl
  | some k =>
    have hoffPage : s.pageOn page = false := hno.resolve_left (by simp [hk])
    simp [hoffPage]

variable (hpath : s.pathUp o = true) (hpage : page < 0x4000) (hstrict : s.strictUr o = false)
  (hfree : s.flag Pg.hubGlobal HubGlobal.HUB_ACCESS_FAULT_VALID = false)
include hpath hpage hstrict hfree

theorem registerWrite_noPage (v : Word) :
    Completes (oneWord o page 0x024 v) s (fun t => Faulted t o page true (pageKind page).isNone ∧ PageOnly s t Pg.hubGlobal) := by
  refine completes_of_onPart rfl (by simp [State.inAperture]; omega) ?_
  rw [State.writeRequest_one hpath (by rw [State.busWrite_noPage hwindow hno (by decide)]; exact hstrict),
    State.busWrite_noPage hwindow hno (by decide)]
  exact ⟨s.accessFault_faulted o hpage _ _ hfree, s.accessFault_pageOnly o page _ _⟩

theorem registerRead_noPage (ask : Bool) (be : List (BitVec 4)) :
    Completes (.registerRead o (page * 4096 + 0x024) 1 ask be) s (fun t =>
      t.hub.readData = [if (pageKind page).isNone then 0 else 0xD0FFD0FF] ∧ Faulted t o page false (pageKind page).isNone ∧
      PageOnly s t Pg.hubGlobal) := by
  refine completes_of_onPart rfl (by simp [State.inAperture]; omega) ?_
  rw [State.readRequest_one hpath (by rw [State.busRead_noPage hwindow hno (by decide)]; exact hstrict),
    State.busRead_noPage hwindow hno (by decide)]
  exact ⟨rfl, s.accessFault_faulted o hpage _ _ hfree, s.accessFault_pageOnly o page _ _⟩

end

/-! ## `HUB_ACCESS_FAULT` -/

theorem fieldsAt_hubAccessFault : fieldsAt Pg.hubGlobal 0x108 =
    [(HubGlobal.HUB_ACCESS_FAULT_VALID, 0), (HubGlobal.HUB_ACCESS_FAULT_OVERFLOW, 0), (HubGlobal.HUB_ACCESS_FAULT_ORIGIN, 0),
      (HubGlobal.HUB_ACCESS_FAULT_UNPOPULATED, 0), (HubGlobal.HUB_ACCESS_FAULT_WRITE, 0), (HubGlobal.HUB_ACCESS_FAULT_PAGE, 0)] := by
  decide

/-- An accepted write of `HUB_ACCESS_FAULT` is a write of its one field that is not read only. -/
theorem State.writeReg_hubAccessFault {v : Word} (h : Accepts s o Pg.hubGlobal 0x108 v = true) :
    s.writeReg o Pg.hubGlobal 0x108 v = s.clearField Pg.hubGlobal HubGlobal.HUB_ACCESS_FAULT_VALID 0 (bits v.toNat 31 31) := by
  have hkind : pageKind Pg.hubGlobal = some .hubGlobal := by decide
  have hbefore : s.beforeWrite Pg.hubGlobal 0x108 = s := by simp [State.beforeWrite, hkind]
  have hafter (t : State) : t.pageWritten s Pg.hubGlobal o 0x108 v.toNat = t := by simp [State.pageWritten, hkind]
  rw [writeReg_accepted h (by decide) (by decide), hbefore, hafter, State.storedFields_accepted h (by decide), fieldsAt_hubAccessFault]
  rfl

theorem hubAccessFaultClear_clears {v : Word} (h : Accepts s o Pg.hubGlobal 0x108 v = true) (h31 : bit v.toNat 31 = true) :
    Completes (.hubAccessFaultClear o v) s (fun t =>
      t.get Pg.hubGlobal HubGlobal.HUB_ACCESS_FAULT_VALID = 0 ∧ t.get Pg.hubGlobal HubGlobal.HUB_ACCESS_FAULT_OVERFLOW = 0) := by
  have hone : bits v.toNat 31 31 = 1 := (bits_self_eq_one_iff _ _).2 h31
  have hne : HubGlobal.HUB_ACCESS_FAULT_VALID ≠ Hdr.INT_STATUS_ERR_CAPTURED := by decide
  have hstate : s.writeReg o Pg.hubGlobal 0x108 v = (s.clearBits Pg.hubGlobal HubGlobal.HUB_ACCESS_FAULT_VALID 1).set Pg.hubGlobal
      HubGlobal.HUB_ACCESS_FAULT_OVERFLOW 0 := by
    simp [State.writeReg_hubAccessFault h, State.clearField, hone, hne]
  refine completes_of_onPart (ok := true) rfl rfl ?_
  rw [hstate]
  constructor
  · rw [State.pending_get, State.get_set_other _ _ (fieldKey_ne (by decide)), State.get_clearBits_same]
    exact sub_and_one_even _
  · rw [State.pending_get, State.get_set_same]
    rfl

end Sys2Proof.Machine

namespace Sys2Proof

open Machine

/-- Settles O8: the session's level is the first rule that a page with all byte enables asks, and a capture changes the error registers
alone. -/
theorem observeSessionsOnlyRead : Obligations.ObserveSessionsOnlyRead := by
  unfold Obligations.ObserveSessionsOnlyRead
  exact fun s page off v hr hobs hoff h4 harmed => registerWrite_observes v hr hobs hoff h4 harmed

/-- Settles O10, clause by clause: `INT_ENABLE` written whole, any word written in part, `INT_ENABLE` read, no running page, and the
record cleared. -/
theorem requestsReachPagesOrAreRecorded : Obligations.RequestsReachPagesOrAreRecorded := by
  unfold Obligations.RequestsReachPagesOrAreRecorded
  intro s o page v
  refine ⟨registerWrite_intEnable, fun hr harmed off be => registerWrite_partial v hr harmed, registerRead_intEnable,
    fun hpath hpage hwindow hno hstrict hfree ask be => ⟨?_, ?_⟩, hubAccessFaultClear_clears⟩
  · exact registerWrite_noPage hwindow hno hpath hpage hstrict hfree v
  · exact registerRead_noPage hwindow hno hpath hpage hstrict hfree ask be

end Sys2Proof
end

section
/-! SUPPORT. The I²C target's index registers (R63, R64): a byte replaced within a word, what starts an access, and how it ends. -/

namespace Sys2Proof.Machine

open Reg

variable {s : State}

/-! ## Bytes of a word -/

/-- Byte `k` of a word of which byte `i` has been replaced; arithmetic for each of the four places of either. -/
theorem bits_byteInto (w : Word) (b : Byte) {i k : Nat} (hi : i < 4) (hk : k < 4) :
    bits (State.byteInto w i b).toNat (8 * k + 7) (8 * k) = if k = i then b.toNat else bits w.toNat (8 * k + 7) (8 * k) := by
  have hw : w.toNat < 4294967296 := w.isLt
  have hb : b.toNat < 256 := b.isLt
  simp only [State.byteInto, BitVec.toNat_ofNat, bits, Nat.shiftRight_eq_div_pow]
  generalize w.toNat = x at *
  generalize b.toNat = y at *
  interval_cases i <;> interval_cases k <;> norm_num <;> omega

/-- A byte written at an index from 0 to 3 is one of `IA_ADDR`. -/
theorem State.iaIndex_addr (s : State) {i : BitVec 3} (b : Byte) (h : i.toNat < 4) :
    (s.iaIndex [(i, b)]).hub.iaAddr = State.byteInto s.hub.iaAddr i.toNat b ∧ (s.iaIndex [(i, b)]).hub.iaData = s.hub.iaData := by
  simp [State.iaIndex, forEach, State.iaByteWritten, h]

/-- A byte written at an index from 4 to 7 is one of `IA_DATA`. -/
theorem State.iaIndex_data (s : State) {i : BitVec 3} (b : Byte) (h : 4 ≤ i.toNat) :
    (s.iaIndex [(i, b)]).hub.iaData = State.byteInto s.hub.iaData (i.toNat - 4) b ∧ (s.iaIndex [(i, b)]).hub.iaAddr = s.hub.iaAddr := by
  simp [State.iaIndex, forEach, State.iaByteWritten, Nat.not_lt.2 h]

/-- One byte written at an index replaces that byte of the two registers and no other. -/
theorem State.iaIndex_byte (s : State) (i : BitVec 3) (b : Byte) :
    let u := s.iaIndex [(i, b)]
    (i.toNat < 4 → u.hub.iaData = s.hub.iaData ∧ ∀ k < 4, bits u.hub.iaAddr.toNat (8 * k + 7) (8 * k) =
      if k = i.toNat then b.toNat else bits s.hub.iaAddr.toNat (8 * k + 7) (8 * k)) ∧
    (4 ≤ i.toNat → u.hub.iaAddr = s.hub.iaAddr ∧ ∀ k < 4, bits u.hub.iaData.toNat (8 * k + 7) (8 * k) =
      if k + 4 = i.toNat then b.toNat else bits s.hub.iaData.toNat (8 * k + 7) (8 * k)) := by
  have hi : i.toNat < 8 := i.isLt
  constructor
  · intro h
    obtain ⟨haddr, hdata⟩ := s.iaIndex_addr b h
    refine ⟨hdata, fun k hk => ?_⟩
    rw [haddr, bits_byteInto _ _ h hk]
  · intro h
    obtain ⟨hdata, haddr⟩ := s.iaIndex_data b h
    refine ⟨haddr, fun k hk => ?_⟩
    have hindex : k = i.toNat - 4 ↔ k + 4 = i.toNat := by omega
    rw [hdata, bits_byteInto _ _ (by omega) hk]
    simp only [hindex]

/-! ## Writes of the index registers -/

/-- What bytes written at the indices leave alone. -/
theorem State.iaIndex_keeps (s : State) (bytes : List (BitVec 3 × Byte)) :
    ∃ addr data : Word, s.iaIndex bytes = { s with hub := { s.hub with nack := false, iaAddr := addr, iaData := data } } := by
  suffices h : ∀ t : State, ∃ addr data : Word,
      forEach bytes State.iaByteWritten t = { t with hub := { t.hub with iaAddr := addr, iaData := data } } from
    h { s with hub := { s.hub with nack := false } }
  induction bytes with
  | nil => exact fun t => ⟨t.hub.iaAddr, t.hub.iaData, rfl⟩
  | cons x xs ih =>
    intro t
    obtain ⟨addr, data, hrest⟩ := ih (State.iaByteWritten x t)
    have hcons : forEach (x :: xs) State.iaByteWritten t = forEach xs State.iaByteWritten (State.iaByteWritten x t) := rfl
    refine ⟨addr, data, hcons.trans (hrest.trans ?_)⟩
    unfold State.iaByteWritten
    split <;> rfl

/-- The target takes a write while it is up and no access is in progress. -/
theorem State.iaTakes_iff : s.iaTakes = true ↔ s.i2cUp = true ∧ s.hub.iaOp = none := by
  simp [State.iaTakes]

/-- A command that writes index registers and then `IA_CMD`. -/
def StartsAccess (i : Instr) (bytes : List (BitVec 3 × Byte)) (c : Byte) : Prop := i = .iaCmdRead bytes c ∨ i = .iaCmdWrite bytes c

/-- `IA_CMD` with exactly one of READ and WRITE starts an access. -/
theorem State.iaCommand_starts (s : State) {cmd : Nat} (h : bit cmd 0 ≠ bit cmd 1) :
    s.iaCommand cmd = { s with hub := { s.hub with
      iaCmd := BitVec.ofNat 8 cmd % 16, iaFault := false, iaDenied := false,
      iaOp := some { write := bit cmd 1, peek := bit cmd 2, autoInc := bit cmd 3 } } } := by
  have hsome : ¬(bit cmd 0 = false ∧ bit cmd 1 = false) := fun ⟨h0, h1⟩ => h (h0.trans h1.symm)
  have hnotBoth : ¬((bit cmd 0 && bit cmd 1) = true) := by
    rw [Bool.and_eq_true]
    exact fun ⟨h0, h1⟩ => h (h0.trans h1.symm)
  simp only [State.iaCommand, if_neg hsome, if_neg hnotBoth]

/-- `IA_CMD` with READ and WRITE is denied. -/
theorem State.iaCommand_both (s : State) {cmd : Nat} (h0 : bit cmd 0 = true) (h1 : bit cmd 1 = true) :
    s.iaCommand cmd = { s with hub := { s.hub with iaCmd := BitVec.ofNat 8 cmd % 16, iaFault := false, iaDenied := true } } := by
  simp [State.iaCommand, h0, h1]

/-- `IA_CMD` with neither is held and no more. -/
theorem State.iaCommand_neither (s : State) {cmd : Nat} (h0 : bit cmd 0 = false) (h1 : bit cmd 1 = false) :
    s.iaCommand cmd = { s with hub := { s.hub with iaCmd := BitVec.ofNat 8 cmd % 16 } } := by
  simp [State.iaCommand, h0, h1]

section
variable {i : Instr} {bytes : List (BitVec 3 × Byte)} {c : Byte} (hi : StartsAccess i bytes c)
include hi

theorem exec_startsAccess (s : State) : exec i s = onPart true s (s.iaStart bytes c.toNat) := by
  rcases hi with rfl | rfl <;> rfl

section
variable (htakes : s.iaTakes = true)
include htakes

theorem exec_startsAccess_takes : exec i s = onPart true s ((s.iaIndex bytes).iaCommand c.toNat) := by
  rw [exec_startsAccess hi, State.iaStart, if_pos htakes]

theorem startsAccess_one (h : bit c.toNat 0 ≠ bit c.toNat 1) :
    Completes i s (fun t => t.hub.iaAddr = (s.iaIndex bytes).hub.iaAddr ∧ t.hub.iaData = (s.iaIndex bytes).hub.iaData ∧
      t.hub.iaFault = false ∧ t.hub.iaDenied = false ∧ t.hub.nack = false ∧ t.regs = s.regs ∧ t.hub.iaCmd.toNat = c.toNat % 16 ∧
      t.hub.iaOp = some { write := bit c.toNat 1, peek := bit c.toNat 2, autoInc := bit c.toNat 3 }) := by
  refine completes_of_onPart (exec_startsAccess_takes hi htakes) rfl ?_
  obtain ⟨addr, data, hindex⟩ := s.iaIndex_keeps bytes
  rw [State.iaCommand_starts _ h, hindex]
  exact ⟨rfl, rfl, rfl, rfl, rfl, rfl, by simp, rfl⟩

theorem startsAccess_both (h0 : bit c.toNat 0 = true) (h1 : bit c.toNat 1 = true) :
    Completes i s (fun t => t.hub.iaOp = none ∧ t.hub.iaDenied = true ∧ t.hub.iaAddr = (s.iaIndex bytes).hub.iaAddr ∧
      t.hub.iaData = (s.iaIndex bytes).hub.iaData) := by
  refine completes_of_onPart (exec_startsAccess_takes hi htakes) rfl ?_
  obtain ⟨addr, data, hindex⟩ := s.iaIndex_keeps bytes
  rw [State.iaCommand_both _ h0 h1, hindex]
  exact ⟨(State.iaTakes_iff.1 htakes).2, rfl, rfl, rfl⟩

theorem startsAccess_neither (h0 : bit c.toNat 0 = false) (h1 : bit c.toNat 1 = false) :
    Completes i s (fun t => t.hub.iaOp = none ∧ t.hub.iaDenied = s.hub.iaDenied ∧ t.hub.iaFault = s.hub.iaFault ∧
      t.hub.iaAddr = (s.iaIndex bytes).hub.iaAddr) := by
  refine completes_of_onPart (exec_startsAccess_takes hi htakes) rfl ?_
  obtain ⟨addr, data, hindex⟩ := s.iaIndex_keeps bytes
  rw [State.iaCommand_neither _ h0 h1, hindex]
  exact ⟨(State.iaTakes_iff.1 htakes).2, rfl, rfl, rfl⟩

end

theorem startsAccess_nacked (htakes : s.iaTakes = false) :
    Completes i s (fun t => t = { s with hub := { s.hub with nack := true } }) := by
  refine completes_of_onPart (exec_startsAccess hi s) rfl ?_
  simp [State.iaStart, htakes, State.nacked]

end

theorem iaStatWrite_clears (c : Byte) (htakes : s.iaTakes = true) :
    Completes (.iaStatWrite c) s (fun t => t.hub.iaFault = (s.hub.iaFault && !(bit c.toNat 1)) ∧
      t.hub.iaDenied = (s.hub.iaDenied && !(bit c.toNat 2)) ∧ t.hub.iaOp = none ∧ t.regs = s.regs) := by
  refine completes_of_onPart (ok := true) rfl rfl ?_
  rw [if_pos htakes]
  exact ⟨rfl, rfl, (State.iaTakes_iff.1 htakes).2, rfl⟩

theorem iaStatWrite_nacked (c : Byte) (htakes : s.iaTakes = false) :
    Completes (.iaStatWrite c) s (fun t => t = { s with hub := { s.hub with nack := true } }) := by
  refine completes_of_onPart (ok := true) rfl rfl ?_
  simp [htakes, State.nacked]

/-! ## The end of an access -/

/-- The state that a word access in progress leaves when it completes. -/
def State.iaCompleted (op : IaOp) (r : BusOut) : State :=
  { r.st with hub := { r.st.hub with
    iaOp := none
    iaData := if op.write then r.st.hub.iaData else r.data
    iaFault := r.st.hub.iaFault || r.off
    iaDenied := r.st.hub.iaDenied || r.denied
    iaAddr := if op.autoInc then r.st.hub.iaAddr + 4 else r.st.hub.iaAddr } }

/-- The completion of an access, by what the access answers; one above the aperture reaches no page and sets FAULT. -/
theorem iaAccessDone_completes {op : IaOp} (hop : s.hub.iaOp = some op) {r : BusOut}
    (hr : (s.iaAccess op).getD { st := s, off := true } = r) {p : State → Prop} (hp : p { State.iaCompleted op r with pending := s.pending }) :
    Completes .iaAccessDone s p := by
  have hstate : s.iaDone = State.iaCompleted op r := by
    subst hr
    simp only [State.iaDone, hop]
    rfl
  refine completes_of_onPart (t := s.iaDone) (ok := true) rfl rfl ?_
  rwa [hstate]

section
variable {op : IaOp} (hop : s.hub.iaOp = some op)
include hop

theorem iaAccessDone_above (habove : 0x3FFFFFF < s.hub.iaAddr.toNat / 4 * 4) :
    Completes .iaAccessDone s (fun t => t.hub.iaOp = none ∧ t.hub.iaFault = true ∧
      t.hub.iaData = (if op.write then s.hub.iaData else 0) ∧ t.hub.iaAddr = (if op.autoInc then s.hub.iaAddr + 4 else s.hub.iaAddr) ∧
      t.regs = s.regs) := by
  have hnone : s.iaAccess op = none := if_pos habove
  refine iaAccessDone_completes hop (r := { st := s, off := true }) (by rw [hnone, Option.getD_none]) ⟨rfl, ?_, rfl, rfl, rfl⟩
  exact Bool.or_true _

variable (hwithin : s.hub.iaAddr.toNat / 4 * 4 ≤ 0x3FFFFFF)
include hwithin

theorem iaAccessDone_read (hread : op.write = false) :
    Completes .iaAccessDone s (fun t =>
      let r := s.busRead .i2c (s.hub.iaAddr.toNat / 4 * 4) op.peek
      t.hub.iaOp = none ∧ t.hub.iaData = r.data ∧ t.regs = r.st.regs ∧
      t.hub.iaAddr = (if op.autoInc then r.st.hub.iaAddr + 4 else r.st.hub.iaAddr)) := by
  have hsome : s.iaAccess op = some (s.busRead .i2c (s.hub.iaAddr.toNat / 4 * 4) op.peek) := by
    simp [State.iaAccess, State.iaTarget, hread, Nat.not_lt.2 hwithin]
  refine iaAccessDone_completes hop (by rw [hsome, Option.getD_some]) ⟨rfl, ?_, rfl, rfl⟩
  simp [State.iaCompleted, hread]

theorem iaAccessDone_write (hwrite : op.write = true) :
    Completes .iaAccessDone s (fun t =>
      let r := s.busWrite .i2c (s.hub.iaAddr.toNat / 4 * 4) s.hub.iaData
      t.hub.iaOp = none ∧ t.regs = r.st.regs ∧ t.hub.iaDenied = (r.st.hub.iaDenied || r.denied) ∧
      t.hub.iaFault = (r.st.hub.iaFault || r.off)) := by
  have hsome : s.iaAccess op = some (s.busWrite .i2c (s.hub.iaAddr.toNat / 4 * 4) s.hub.iaData) := by
    simp [State.iaAccess, State.iaTarget, hwrite, Nat.not_lt.2 hwithin]
  exact iaAccessDone_completes hop (by rw [hsome, Option.getD_some]) ⟨rfl, rfl, rfl, rfl⟩

end

end Sys2Proof.Machine

namespace Sys2Proof

open Machine

/-- Settles O11: the byte written at an index, the three values of `IA_CMD`, `IA_STAT`, what is NACKed, and the three ends of an access. -/
theorem indirectAccessFollowsItsRules : Obligations.IndirectAccessFollowsItsRules := by
  unfold Obligations.IndirectAccessFollowsItsRules
  intro s c bytes
  refine ⟨s.iaIndex_byte, fun hup hidle => ?_, fun hbusy => ?_, fun op hop => ?_⟩
  · have htakes : s.iaTakes = true := State.iaTakes_iff.2 ⟨hup, hidle⟩
    exact ⟨fun i hi => ⟨startsAccess_one hi htakes, startsAccess_both hi htakes, startsAccess_neither hi htakes⟩,
      iaStatWrite_clears c htakes⟩
  · have htakes : s.iaTakes = false := by
      rw [Bool.eq_false_iff, ne_eq, State.iaTakes_iff]
      rintro ⟨hup, hidle⟩
      rcases hbusy with hdown | hrunning
      · simp [hup] at hdown
      · exact hrunning hidle
    intro i hi
    rcases hi with hread | hwrite | rfl
    · exact startsAccess_nacked (.inl hread) htakes
    · exact startsAccess_nacked (.inr hwrite) htakes
    · exact iaStatWrite_nacked c htakes
  · exact ⟨iaAccessDone_above hop, iaAccessDone_read hop, iaAccessDone_write hop⟩

end Sys2Proof
end

section
/-! SUPPORT. The sector control page (R92 to R100): one bit of a field, the words a write stores, and what a change of `TRACK_RUN` leaves to
the causes of GSR. -/

namespace Sys2Proof.Machine

open Reg

/-! ## One bit of a number -/

theorem testBit_sub_two_pow {x i : Nat} (h : x.testBit i = true) (j : Nat) :
    (x - 2 ^ i).testBit j = (decide (j ≠ i) && x.testBit j) := by
  obtain ⟨m, hm⟩ : ∃ m, x / 2 ^ i = 2 * m + 1 := by
    rw [Nat.testBit_eq_decide_div_mod_eq, decide_eq_true_eq] at h
    exact ⟨x / 2 ^ i / 2, by omega⟩
  have hx : x = 2 ^ i * (2 * m + 1) + x % 2 ^ i := by rw [← hm, Nat.div_add_mod]
  have hr : x % 2 ^ i < 2 ^ i := Nat.mod_lt _ (by positivity)
  have hsub : x - 2 ^ i = 2 ^ i * (2 * m) + x % 2 ^ i := by
    rw [Nat.mul_add] at hx
    omega
  conv_rhs => rw [hx]
  rw [hsub, Nat.testBit_two_pow_mul_add _ hr, Nat.testBit_two_pow_mul_add _ hr]
  rcases Nat.lt_trichotomy j i with hlt | rfl | hgt
  · simp [hlt, hlt.ne]
  · simp
  · obtain ⟨k, rfl⟩ := Nat.exists_eq_add_of_lt hgt
    have hk : i + k + 1 - i = k + 1 := by omega
    have hm' : (2 * m + 1) / 2 = m := by omega
    simp [Nat.testBit_succ, hk, hm']
    omega

theorem bit_withBit (x i : Nat) (on : Bool) (j : Nat) : bit (withBit x i on) j = if j = i then on else bit x j := by
  unfold withBit bit
  by_cases hj : j = i
  · subst hj
    cases on
    · by_cases h : x.testBit j = true
      · simp [h, Nat.one_shiftLeft, testBit_sub_two_pow h]
      · simp [h]
    · simp
  · cases on
    · by_cases h : x.testBit i = true
      · simp [h, Nat.one_shiftLeft, testBit_sub_two_pow h, hj]
      · simp [h, hj]
    · simp [hj, Nat.one_shiftLeft, Ne.symm hj]

/-- A bit of a field after one bit of it is written. -/
theorem State.bit_get_setBit (s : State) (p : Nat) (f : RegField) (b : Nat) (on : Bool) (i : Nat) {j : Nat} (hj : j < f.width) :
    bit ((s.setBit p f b on i).get p f i) j = if j = b then on else bit (s.get p f i) j := by
  rw [State.get_setBit_same, ← bit_withBit, bit, bit, Nat.testBit_mod_two_pow, decide_eq_true hj, Bool.true_and]

/-- Two states with the same registers read the same. -/
theorem State.get_of_regs {s t : State} (h : t.regs = s.regs) (p : Nat) (f : RegField) (i : Nat) : t.get p f i = s.get p f i := by
  simp only [State.get, h]

/-! ## An event that may occur -/

/-- An event of a page occurs if a condition holds. -/
def State.raiseIf (s : State) (c : Bool) (page b : Nat) : State := if c then s.setInt page b else s

section
variable (s : State) (c : Bool) (page b : Nat)

@[simp] theorem State.raiseIf_fabric : (s.raiseIf c page b).fabric = s.fabric := by cases c <;> rfl
@[simp] theorem State.raiseIf_dsp : (s.raiseIf c page b).dsp = s.dsp := by cases c <;> rfl
@[simp] theorem State.raiseIf_mem : (s.raiseIf c page b).mem = s.mem := by cases c <;> rfl

theorem State.raiseIf_get {q : Nat} {f : RegField} {i : Nat} (h : fieldKey q f i ≠ fieldKey page Hdr.INT_STATUS_BLOCK 0) :
    (s.raiseIf c page b).get q f i = s.get q f i := by
  cases c
  · rfl
  · exact s.get_setInt_other h

variable {c b} in
theorem State.raiseIf_raises (hc : c = true) (h16 : 16 ≤ b) (h32 : b < 32) : Raised (s.raiseIf c page b) page b := by
  rw [hc]
  exact s.setInt_sets page b h16 h32

end

/-! ## The page -/

/-- Elements of fields that lie apart within a word have different keys. -/
theorem fieldKey_ne_of_lo {p i : Nat} {f g : RegField} (hoff : f.off = g.off) (hstride : f.stride = g.stride) (hlo : f.lo ≠ g.lo) :
    fieldKey p f i ≠ fieldKey p g i := by
  refine fieldKey_ne ?_
  rw [hoff, hstride]
  omega

theorem State.get_set_of_lo (s : State) {p i : Nat} {f g : RegField} (v : Nat) (hoff : g.off = f.off) (hstride : g.stride = f.stride)
    (hlo : g.lo ≠ f.lo) : (s.set p f v i).get p g i = s.get p g i :=
  State.get_set_other s v (fieldKey_ne_of_lo hoff hstride hlo)

theorem isTrack_iff {d sec n : Nat} : isTrack d sec n = true ↔ isSector d sec = true ∧ n < 16 := by
  simp [isTrack]

theorem isSector_iff {d sec : Nat} : isSector d sec = true ↔ 1 ≤ d ∧ d ≤ 4 ∧ sec < 96 := by
  simp [isSector]

theorem pageKind_sctl_of {d sec : Nat} (h : isSector d sec = true) : pageKind (Pg.sctl d sec) = some .sctl := by
  obtain ⟨h1, h4, hsec⟩ := isSector_iff.1 h
  exact (pageKind_sctl d (by omega) h1 sec hsec).1

section
variable {page : Nat} (hk : pageKind page = some .sctl)
include hk

theorem fieldsAt_sctlCtl : fieldsAt page 0x010 = [(Sctl.CTL_GSR_FORCE, 0)] := by
  rw [fieldsAt_of_kind _ hk]
  simp only [hasElement, if_true]
  decide

theorem fieldsAt_sctlTrack {n : Nat} (hn : n < 16) : fieldsAt page (0x100 + 4 * n) =
    [(Sctl.SCTL_TRACK_RUNNING, n), (Sctl.SCTL_TRACK_SWITCHING, n), (Sctl.SCTL_TRACK_FABRIC_CE, n), (Sctl.SCTL_TRACK_EN, n),
     (Sctl.SCTL_TRACK_SRC, n)] := by
  rw [fieldsAt_of_kind _ hk]
  simp only [hasElement, if_true]
  revert n
  decide

/-- An RW field of the page stores what is no reserved encoding. -/
theorem State.storeField_sctl (s : State) (o : Origin) (off w : Nat) {f : RegField} (i : Nat) (hty : f.ty = .rw)
    (hres : f.reserved (bits w f.hi f.lo) = false) :
    State.storeField page o off w (f, i) s = s.set page f (bits w f.hi f.lo) i := by
  simp [State.storeField, hty, State.unstored, hk, State.reservedPair, State.reservedIn, hres]

omit hk in
theorem State.storeField_ro (s : State) (o : Origin) (off w : Nat) {f : RegField} (i : Nat) (hty : f.ty = .ro) :
    State.storeField page o off w (f, i) s = s := by
  simp [State.storeField, hty]

/-- An accepted write of the page stores the fields of the word, and has the page's own effect. -/
theorem State.writeReg_sctl {s : State} {o : Origin} {off : Nat} {w : Word} (h : Accepts s o page off w = true) (hoff : off < 4096)
    (h4 : off % 4 = 0) :
    s.writeReg o page off w =
      (forEach (fieldsAt page off) (State.storeField page o off w.toNat) s).sctlWritten s page o off w.toNat := by
  have hbefore : s.beforeWrite page off = s := by simp [State.beforeWrite, hk]
  rw [writeReg_accepted h hoff h4, hbefore]
  simp [State.storedFields, State.pageWritten, hk]

end

end Sys2Proof.Machine
end

section
/-! SUPPORT. The clock tracks of a sector (R92, R95 to R97, R111): a write of `SCTL_TRACK`, the end of a switch, a track that stops. -/

namespace Sys2Proof.Machine

open Reg

variable {s : State} {d sec n : Nat}

/-! ## Writes of `SCTL_TRACK` -/

/-- The state after `FABRIC_CE`, `EN` and `SRC` of a word are stored. -/
def State.trackStored (s : State) (page n w : Nat) : State :=
  ((s.set page Sctl.SCTL_TRACK_FABRIC_CE (bits w 9 9) n).set page Sctl.SCTL_TRACK_EN (bits w 8 8) n).set page
    Sctl.SCTL_TRACK_SRC (bits w 4 0) n

theorem State.trackStored_src (s : State) (page n w : Nat) : (s.trackStored page n w).get page Sctl.SCTL_TRACK_SRC n = bits w 4 0 := by
  rw [State.trackStored, State.get_set_same]
  exact Nat.mod_eq_of_lt (bits_lt w 4 0)

theorem State.trackStored_en (s : State) (page n w : Nat) : (s.trackStored page n w).get page Sctl.SCTL_TRACK_EN n = bits w 8 8 := by
  rw [State.trackStored, State.get_set_of_lo _ _ (by rfl) (by rfl) (by decide), State.get_set_same]
  exact Nat.mod_eq_of_lt (bits_lt w 8 8)

theorem State.trackStored_ce (s : State) (page n w : Nat) :
    (s.trackStored page n w).get page Sctl.SCTL_TRACK_FABRIC_CE n = bits w 9 9 := by
  rw [State.trackStored, State.get_set_of_lo _ _ (by rfl) (by rfl) (by decide),
    State.get_set_of_lo _ _ (by rfl) (by rfl) (by decide), State.get_set_same]
  exact Nat.mod_eq_of_lt (bits_lt w 9 9)

theorem State.trackStored_switching (s : State) (page n w : Nat) :
    (s.trackStored page n w).get page Sctl.SCTL_TRACK_SWITCHING n = s.get page Sctl.SCTL_TRACK_SWITCHING n := by
  rw [State.trackStored, State.get_set_of_lo _ _ (by rfl) (by rfl) (by decide),
    State.get_set_of_lo _ _ (by rfl) (by rfl) (by decide), State.get_set_of_lo _ _ (by rfl) (by rfl) (by decide)]

theorem bits_eq_zero_iff (w b : Nat) : bits w b b = 0 ↔ bit w b = false := by
  have h2 : bits w b b < 2 := by simpa using bits_lt w b b
  rw [← Bool.not_eq_true, ← bits_self_eq_one_iff]
  omega

theorem State.trackStored_flag_en (s : State) (page n w : Nat) : (s.trackStored page n w).flag page Sctl.SCTL_TRACK_EN n = bit w 8 := by
  rw [State.flag, State.trackStored_en, Bool.eq_iff_iff, decide_eq_true_eq, ne_eq, bits_eq_zero_iff, Bool.not_eq_false]

/-- The effect of the write on a switch changes `SWITCHING` alone among the registers, and no flop. -/
theorem State.trackWritten_frame (s old : State) (page n : Nat) :
    RegsSameBut s (s.trackWritten old page n) [fieldKey page Sctl.SCTL_TRACK_SWITCHING n] ∧
    (s.trackWritten old page n).fabric.flops = s.fabric.flops ∧ (s.trackWritten old page n).fabric.wires = s.fabric.wires := by
  unfold State.trackWritten
  split
  · exact ⟨RegsSameBut.of_regs (RegsSameBut.set s page _ 0 n) rfl, rfl, rfl⟩
  · split
    · exact ⟨RegsSameBut.of_regs (RegsSameBut.set s page _ 1 n) rfl, rfl, rfl⟩
    · exact ⟨RegsSameBut.refl s _, rfl, rfl⟩

/-- `SWITCHING` clears with `EN`, and is set where an enabled track changes its source (R96). -/
theorem State.trackWritten_switching (s old : State) (page n : Nat) :
    (s.trackWritten old page n).get page Sctl.SCTL_TRACK_SWITCHING n =
      if s.flag page Sctl.SCTL_TRACK_EN n = false then 0
      else if old.flag page Sctl.SCTL_TRACK_EN n = true ∧
        old.get page Sctl.SCTL_TRACK_SRC n ≠ s.get page Sctl.SCTL_TRACK_SRC n then 1
      else s.get page Sctl.SCTL_TRACK_SWITCHING n := by
  unfold State.trackWritten
  split
  · exact State.get_set_same s page Sctl.SCTL_TRACK_SWITCHING 0 n
  · split
    · exact State.get_set_same s page Sctl.SCTL_TRACK_SWITCHING 1 n
    · rfl

/-- An accepted write of a source that is no reserved encoding. -/
theorem State.writeReg_track {o : Origin} {w : Word} (ht : isTrack d sec n = true)
    (h : Accepts s o (Pg.sctl d sec) (0x100 + 4 * n) w = true) (hsrc : reservedTrackSource w = false) :
    s.writeReg o (Pg.sctl d sec) (0x100 + 4 * n) w =
      (s.trackStored (Pg.sctl d sec) n w.toNat).trackWritten s (Pg.sctl d sec) n := by
  obtain ⟨hsec, hn⟩ := isTrack_iff.1 ht
  have hk := pageKind_sctl_of hsec
  have hres : Sctl.SCTL_TRACK_SRC.reserved (bits w.toNat 4 0) = false := by
    simp only [reservedTrackSource, decide_eq_false_iff_not] at hsrc
    simp only [RegField.reserved, Sctl.SCTL_TRACK_SRC, List.any_cons, List.any_nil, Bool.or_false, decide_eq_false hsrc, Bool.false_and]
  rw [State.writeReg_sctl hk h (by omega) (by omega), fieldsAt_sctlTrack hk hn]
  simp only [forEach, List.foldl_cons, List.foldl_nil]
  rw [State.storeField_ro (f := Sctl.SCTL_TRACK_RUNNING) _ _ _ _ _ rfl, State.storeField_ro (f := Sctl.SCTL_TRACK_SWITCHING) _ _ _ _ _ rfl,
    State.storeField_sctl hk (f := Sctl.SCTL_TRACK_FABRIC_CE) _ _ _ _ _ rfl rfl,
    State.storeField_sctl hk (f := Sctl.SCTL_TRACK_EN) _ _ _ _ _ rfl rfl, State.storeField_sctl hk (f := Sctl.SCTL_TRACK_SRC) _ _ _ _ _ rfl hres]
  have hindex : (0x100 + 4 * n - 0x100) / 4 = n := by omega
  simp only [State.sctlWritten, hindex, if_neg (show ¬(0x100 + 4 * n = 0x010) by omega),
    if_pos (show 0x100 ≤ 0x100 + 4 * n ∧ 0x100 + 4 * n < 0x140 by omega)]
  rfl

theorem sctlTrackWrite_stores {o : Origin} {v : Word} (ht : isTrack d sec n = true)
    (h : Accepts s o (Pg.sctl d sec) (0x100 + 4 * n) v = true) (hsrc : reservedTrackSource v = false) :
    Completes (.sctlTrackWrite o d sec n v) s (fun t =>
      t.get (Pg.sctl d sec) Sctl.SCTL_TRACK_EN n = bits v.toNat 8 8 ∧ t.get (Pg.sctl d sec) Sctl.SCTL_TRACK_SRC n = bits v.toNat 4 0 ∧
      t.get (Pg.sctl d sec) Sctl.SCTL_TRACK_FABRIC_CE n = bits v.toNat 9 9 ∧
      t.get (Pg.sctl d sec) Sctl.SCTL_TRACK_SWITCHING n =
        (if bit v.toNat 8 = false then 0
         else if s.flag (Pg.sctl d sec) Sctl.SCTL_TRACK_EN n = true ∧ s.get (Pg.sctl d sec) Sctl.SCTL_TRACK_SRC n ≠ bits v.toNat 4 0 then 1
         else s.get (Pg.sctl d sec) Sctl.SCTL_TRACK_SWITCHING n) ∧
      t.fabric.flops = s.fabric.flops ∧ t.fabric.wires = s.fabric.wires) := by
  refine completes_of_onPart rfl ht ?_
  rw [State.writeReg_track ht h hsrc]
  have hother : ∀ f ∈ [Sctl.SCTL_TRACK_EN, Sctl.SCTL_TRACK_SRC, Sctl.SCTL_TRACK_FABRIC_CE],
      f.off = Sctl.SCTL_TRACK_SWITCHING.off ∧ f.stride = Sctl.SCTL_TRACK_SWITCHING.stride ∧ f.lo ≠ Sctl.SCTL_TRACK_SWITCHING.lo := by decide
  obtain ⟨hregs, hflops, hwires⟩ := (s.trackStored (Pg.sctl d sec) n v.toNat).trackWritten_frame s (Pg.sctl d sec) n
  have hkept (f : RegField) (hf : f ∈ [Sctl.SCTL_TRACK_EN, Sctl.SCTL_TRACK_SRC, Sctl.SCTL_TRACK_FABRIC_CE]) :
      ((s.trackStored (Pg.sctl d sec) n v.toNat).trackWritten s (Pg.sctl d sec) n).get (Pg.sctl d sec) f n =
        (s.trackStored (Pg.sctl d sec) n v.toNat).get (Pg.sctl d sec) f n := by
    obtain ⟨hoff, hstride, hlo⟩ := hother f hf
    exact hregs _ _ _ (by simpa using fieldKey_ne_of_lo hoff hstride hlo)
  refine ⟨(hkept _ (by simp)).trans (s.trackStored_en _ _ _), (hkept _ (by simp)).trans (s.trackStored_src _ _ _),
    (hkept _ (by simp)).trans (s.trackStored_ce _ _ _), ?_, hflops, hwires⟩
  refine (State.trackWritten_switching _ _ _ _).trans ?_
  rw [State.trackStored_flag_en, State.trackStored_src, State.trackStored_switching]

/-! ## The end of a switch -/

theorem trackSwitchDone_switches (ht : isTrack d sec n = true) :
    Completes (.trackSwitchDone d sec n) s (fun t =>
      (s.flag (Pg.sctl d sec) Sctl.SCTL_TRACK_SWITCHING n = true →
        s.sourceRuns d sec (s.get (Pg.sctl d sec) Sctl.SCTL_TRACK_SRC n) = true →
        t.get (Pg.sctl d sec) Sctl.SCTL_TRACK_SWITCHING n = 0 ∧
        RegsSameBut s t [fieldKey (Pg.sctl d sec) Sctl.SCTL_TRACK_SWITCHING n] ∧
        t.trackSourceNow d sec n = some (s.get (Pg.sctl d sec) Sctl.SCTL_TRACK_SRC n) ∧ t.fabric.flops = s.fabric.flops) ∧
      (s.flag (Pg.sctl d sec) Sctl.SCTL_TRACK_SWITCHING n = false ∨
        s.sourceRuns d sec (s.get (Pg.sctl d sec) Sctl.SCTL_TRACK_SRC n) = false → t = s)) := by
  refine completes_of_onPart rfl ht ⟨fun hswitching hruns => ?_, fun hnot => ?_⟩
  · have hdone : s.switchDone d sec n = _ := if_pos (Bool.and_eq_true_iff.2 ⟨hswitching, hruns⟩)
    rw [hdone]
    have hclear : (s.set (Pg.sctl d sec) Sctl.SCTL_TRACK_SWITCHING 0 n).get (Pg.sctl d sec) Sctl.SCTL_TRACK_SWITCHING n = 0 :=
      State.get_set_same s _ _ 0 n
    have hregs := RegsSameBut.set s (Pg.sctl d sec) Sctl.SCTL_TRACK_SWITCHING 0 n
    have hsrc : (s.set (Pg.sctl d sec) Sctl.SCTL_TRACK_SWITCHING 0 n).get (Pg.sctl d sec) Sctl.SCTL_TRACK_SRC n =
        s.get (Pg.sctl d sec) Sctl.SCTL_TRACK_SRC n := s.get_set_of_lo _ rfl rfl (by decide)
    refine ⟨hclear, RegsSameBut.of_regs hregs rfl, ?_, rfl⟩
    rw [← hsrc]
    exact if_neg (by simp only [State.flag, decide_eq_true_eq, not_not]; exact hclear)
  · have hoff : (s.flag (Pg.sctl d sec) Sctl.SCTL_TRACK_SWITCHING n &&
        s.sourceRuns d sec (s.get (Pg.sctl d sec) Sctl.SCTL_TRACK_SRC n)) = false := Bool.and_eq_false_iff.2 hnot
    simp [State.switchDone, hoff]

/-! ## A track that stops -/

/-- The release of a stopped track counts from 0 again, unless its third edge has come (R111). -/
def State.edgesForgotten (s : State) (d sec n : Nat) : State :=
  if SMap.read 0 s.fabric.edges (trackKey d sec n) < 3 then
    { s with fabric := { s.fabric with edges := SMap.write 0 s.fabric.edges (trackKey d sec n) 0 } }
  else s

theorem State.edgesForgotten_frame (s : State) (d sec n : Nat) : (s.edgesForgotten d sec n).regs = s.regs ∧
    (s.edgesForgotten d sec n).fabric = { s.fabric with edges := (s.edgesForgotten d sec n).fabric.edges } ∧
    (s.edgesForgotten d sec n).dsp = s.dsp ∧ (s.edgesForgotten d sec n).mem = s.mem := by
  by_cases h : SMap.read 0 s.fabric.edges (trackKey d sec n) < 3
  · rw [State.edgesForgotten, if_pos h]
    exact ⟨rfl, rfl, rfl, rfl⟩
  · rw [State.edgesForgotten, if_neg h]
    exact ⟨rfl, rfl, rfl, rfl⟩

theorem State.edgesForgotten_read (s : State) (d sec n j : Nat) : SMap.read 0 (s.edgesForgotten d sec n).fabric.edges j =
    if j = trackKey d sec n ∧ SMap.read 0 s.fabric.edges (trackKey d sec n) < 3 then 0 else SMap.read 0 s.fabric.edges j := by
  unfold State.edgesForgotten
  by_cases h : SMap.read 0 s.fabric.edges (trackKey d sec n) < 3
  · by_cases hj : j = trackKey d sec n
    · simp [h, hj]
    · simp [h, hj, SMap.read_write_other]
  · simp [h]

/-- The two events that the stop may raise: the other running tracks have all been released, and the track has lost its clock. -/
theorem State.trackStopped_eq (s : State) (d sec n : Nat) : ∃ released : Bool, (s.allReleased d sec = true → released = false) ∧
    s.trackStopped d sec n =
      (((s.setBit (Pg.sctl d sec) Sctl.STATUS_TRACK_RUN n false).edgesForgotten d sec n).raiseIf released (Pg.sctl d sec)
        Sctl.INT_GSR_RELEASED).raiseIf
        (s.domOn (16 * d + 1) && s.flag (Pg.sctl d sec) Sctl.SCTL_TRACK_EN n && s.get (Pg.sctl d sec) Sctl.SCTL_TRACK_SRC n ≠ 0 &&
          !(bit (s.capHeld (Pg.sctl d sec)) n)) (Pg.sctl d sec) Sctl.INT_TRACK_STOP := by
  refine ⟨decide (s.gsrActive d sec = false ∧ s.allReleased d sec = false ∧
    ((s.setBit (Pg.sctl d sec) Sctl.STATUS_TRACK_RUN n false).edgesForgotten d sec n).allReleased d sec = true ∧
    ((s.setBit (Pg.sctl d sec) Sctl.STATUS_TRACK_RUN n false).edgesForgotten d sec n).get (Pg.sctl d sec) Sctl.STATUS_TRACK_RUN ≠ 0),
    fun hall => ?_, ?_⟩
  · simp [hall]
  · simp only [State.raiseIf, decide_eq_true_eq, Bool.and_eq_true, Bool.not_eq_true', and_assoc]
    rfl

theorem trackStop_stops (ht : isTrack d sec n = true) :
    let runs : Bool := s.domOn (16 * d + 1) && s.flag (Pg.sctl d sec) Sctl.SCTL_TRACK_EN n && s.get (Pg.sctl d sec) Sctl.SCTL_TRACK_SRC n ≠ 0 &&
      !(bit (s.capHeld (Pg.sctl d sec)) n)
    Completes (.trackStop d sec n) s (fun t =>
      bit (t.get (Pg.sctl d sec) Sctl.STATUS_TRACK_RUN) n = false ∧ (runs = true → Raised t (Pg.sctl d sec) Sctl.INT_TRACK_STOP) ∧
      (∀ m < 16, m ≠ n → bit (t.get (Pg.sctl d sec) Sctl.STATUS_TRACK_RUN) m = bit (s.get (Pg.sctl d sec) Sctl.STATUS_TRACK_RUN) m) ∧
      (runs = false → s.allReleased d sec = true → RegsSameBut s t [fieldKey (Pg.sctl d sec) Sctl.STATUS_TRACK_RUN 0]) ∧
      (let k := trackKey d sec n
       SMap.read 0 t.fabric.edges k = (if SMap.read 0 s.fabric.edges k < 3 then 0 else SMap.read 0 s.fabric.edges k) ∧
       ∀ j, j ≠ k → SMap.read 0 t.fabric.edges j = SMap.read 0 s.fabric.edges j) ∧
      t.fabric = { s.fabric with edges := t.fabric.edges } ∧ t.dsp = s.dsp ∧ t.mem = s.mem) := by
  intro runs
  obtain ⟨released, hreleased, hstopped⟩ := s.trackStopped_eq d sec n
  obtain ⟨hregs, hfabric, hdsp, hmem⟩ := (s.setBit (Pg.sctl d sec) Sctl.STATUS_TRACK_RUN n false).edgesForgotten_frame d sec n
  refine completes_of_onPart rfl ht ?_
  rw [hstopped]
  generalize hu : (s.setBit (Pg.sctl d sec) Sctl.STATUS_TRACK_RUN n false).edgesForgotten d sec n = u at *
  have hrun (m : Nat) (hm : m < 16) : bit (((u.raiseIf released (Pg.sctl d sec) Sctl.INT_GSR_RELEASED).raiseIf runs (Pg.sctl d sec)
      Sctl.INT_TRACK_STOP).get (Pg.sctl d sec) Sctl.STATUS_TRACK_RUN) m =
        if m = n then false else bit (s.get (Pg.sctl d sec) Sctl.STATUS_TRACK_RUN) m := by
    rw [State.raiseIf_get _ _ _ _ (fieldKey_ne (by decide)), State.raiseIf_get _ _ _ _ (fieldKey_ne (by decide)),
      State.get_of_regs hregs, State.bit_get_setBit _ _ _ _ _ _ hm]
  have hedges (j : Nat) : SMap.read 0 u.fabric.edges j =
      if j = trackKey d sec n ∧ SMap.read 0 s.fabric.edges (trackKey d sec n) < 3 then 0 else SMap.read 0 s.fabric.edges j := by
    rw [← hu]
    exact State.edgesForgotten_read _ d sec n j
  have hquiet (h : runs = false) (hall : s.allReleased d sec = true) : ((u.raiseIf released (Pg.sctl d sec)
      Sctl.INT_GSR_RELEASED).raiseIf runs (Pg.sctl d sec) Sctl.INT_TRACK_STOP).regs = u.regs := by
    rw [h, hreleased hall]
    rfl
  refine ⟨(hrun n (isTrack_iff.1 ht).2).trans (if_pos rfl), fun h => ?_, fun m hm hne => (hrun m hm).trans (if_neg hne), fun h hall => ?_,
    ⟨?_, fun j hj => ?_⟩, ?_, ?_, ?_⟩
  · exact State.raiseIf_raises _ _ h (by decide) (by decide)
  · exact RegsSameBut.of_regs (t := s.setBit (Pg.sctl d sec) Sctl.STATUS_TRACK_RUN n false) (RegsSameBut.set s _ _ _ 0)
      ((hquiet h hall).trans hregs)
  · simpa using hedges (trackKey d sec n)
  · simpa [hj] using hedges j
  · simpa using hfabric
  · simpa using hdsp
  · simpa using hmem

end Sys2Proof.Machine

namespace Sys2Proof

open Machine

/-- Settles O12: a write of `SCTL_TRACK`, the end of a switch and the stop of a track, each by what it makes of the sector control page. -/
theorem clockTracksSwitchAndStop : Obligations.ClockTracksSwitchAndStop := by
  unfold Obligations.ClockTracksSwitchAndStop
  intro s o d sec n v ht
  exact ⟨sctlTrackWrite_stores ht, trackSwitchDone_switches ht, trackStop_stops ht⟩

end Sys2Proof
end

section
/-! SUPPORT. The queue of commands through an edge (log entry 21): no access that a memory block, a queue controller, a slice, a span channel
or an attach port takes or performs touches the commands that wait. -/

namespace Sys2Proof.Machine

open Reg

/-- What every update of a list leaves alone is left alone by all of them. -/
theorem forEach_keeps {α β σ : Type} (g : σ → β) (xs : List α) {f : α → σ → σ} (h : ∀ x u, g (f x u) = g u) (s : σ) :
    g (forEach xs f s) = g s := by
  induction xs generalizing s with
  | nil => rfl
  | cons x xs ih => exact (ih (f x s)).trans (h x s)

variable (s : State)

/-! ## Stored words -/

@[simp] theorem State.miInt_pending (page b : Nat) : (s.miInt page b).pending = s.pending := by
  simp [State.miInt, apply_ite State.pending]

@[simp] theorem State.miCount_pending (page : Nat) (f : RegField) (b : Nat) : (s.miCount page f b).pending = s.pending := by
  simp [State.miCount, apply_ite State.pending]

@[simp] theorem State.lastErr_pending (page q kind syn : Nat) (par : Bool) (w : Nat) :
    (s.lastErr page q kind syn par w).pending = s.pending := by
  simp [State.lastErr, apply_ite State.pending]

@[simp] theorem State.upset_pending (page q : Nat) (par : Bool) (w : Nat) (x : BitVec 72) :
    (s.upset page q par w x).pending = s.pending := by
  simp [State.upset, apply_ite State.pending]

@[simp] theorem State.found_pending (page q : Nat) (par : Bool) (w : Nat) (r : WordRead) :
    (s.found page q par w r).pending = s.pending := by
  unfold State.found
  split <;> simp [apply_ite State.pending]

@[simp] theorem State.detected_pending (page q w : Nat) (r : WordRead) : (s.detected page q w r).pending = s.pending :=
  s.found_pending page q false w r

@[simp] theorem State.readAt_pending (page q w : Nat) : (s.readAt page q w).2.pending = s.pending := s.detected_pending page q w _

@[simp] theorem State.putCoded_pending (page q w data : Nat) (test yields : Bool) :
    (s.putCoded page q w data test yields).pending = s.pending := by
  simp [State.putCoded, apply_ite State.pending]

@[simp] theorem State.supersede_pending (page q w : Nat) : (s.supersede page q w).pending = s.pending := by
  simp [State.supersede, apply_ite State.pending]

@[simp] theorem State.portStore_pending (page q w : Nat) (data : DWord) (yields : Bool) :
    (s.portStore page q w data yields).pending = s.pending := by
  simp [State.portStore]

/-! ## Dual-port blocks -/

@[simp] theorem State.dpbBusy_pending (d sec i b : Nat) : (s.dpbBusy d sec i b).pending = s.pending := by simp [State.dpbBusy]

@[simp] theorem State.dpbReadCollides_pending (d sec i b a after code : Nat) :
    (s.dpbReadCollides d sec i b a after code).pending = s.pending := by
  simp [State.dpbReadCollides, apply_ite State.pending]

@[simp] theorem State.dpbUndo_pending (d sec i b : Nat) (x : PortAccess) : (s.dpbUndo d sec i b x).pending = s.pending := by
  simp [State.dpbUndo, apply_ite State.pending]

@[simp] theorem State.dpbStore_pending (d sec i b word : Nat) (v : DWord) : (s.dpbStore d sec i b word v).2.pending = s.pending :=
  s.portStore_pending _ _ _ _ _

@[simp] theorem State.mergeStore_pending (d sec i b : Nat) (far : Bool) : (s.mergeStore d sec i b far).pending = s.pending := by
  unfold State.mergeStore
  dsimp only
  split
  · rfl
  · rename_i m _
    cases s.dpbMet d sec i (1 - b) m.word far <;> simp [apply_ite State.pending]

@[simp] theorem State.dpbRead_pending (d sec i b addr : Nat) (far : Bool) (flip : BitVec 72) :
    (s.dpbRead d sec i b addr far flip).pending = s.pending := by
  simp [State.dpbRead, apply_ite State.pending]

@[simp] theorem State.dpbPerform_pending (d sec i b addr : Nat) (din : DWord) : (s.dpbPerform d sec i b addr din).pending = s.pending := by
  simp only [State.dpbPerform, apply_ite State.pending, State.setDpbPort_pending, State.dpbStore_pending, State.detected_pending, ite_self]

@[simp] theorem State.dpbLoses_pending (d sec i b : Nat) : (s.dpbLoses d sec i b).pending = s.pending := by simp [State.dpbLoses]

@[simp] theorem State.dpbWrite_pending (d sec i b addr : Nat) (din : DWord) (far : Bool) (flip : BitVec 72) :
    (s.dpbWrite d sec i b addr din far flip).pending = s.pending := by
  unfold State.dpbWrite
  dsimp only
  split
  · simp
  · split <;> simp [apply_ite State.pending]

@[simp] theorem State.dpbTake_pending (d sec i b : Nat) (write far : Bool) (flip : BitVec 72) :
    (s.dpbTake d sec i b write far flip).pending = s.pending := by
  unfold State.dpbTake
  split <;> simp [apply_ite State.pending]

@[simp] theorem State.dpbFlush_pending (d sec i b : Nat) : (s.dpbFlush d sec i b).pending = s.pending := by simp [State.dpbFlush]

/-! ## Banked blocks -/

@[simp] theorem State.bkbResult_pending (d sec k b data aovf : Nat) (c : WordClass) :
    (s.bkbResult d sec k b data aovf c).pending = s.pending := rfl

@[simp] theorem State.bkbRead_pending (d sec k b addr : Nat) (flip : BitVec 72) : (s.bkbRead d sec k b addr flip).pending = s.pending := by
  simp [State.bkbRead]

theorem State.bankFirst_pending (d sec k b q w : Nat) (flip : BitVec 72) (new : Nat → Nat) {shows : State → Nat → WordClass → State}
    (h : ∀ u old c, (shows u old c).pending = u.pending) : (s.bankFirst d sec k b q w flip new shows).pending = s.pending := by
  simp [State.bankFirst, apply_ite State.pending, h]

@[simp] theorem State.bkbWrite_pending (d sec k b addr be : Nat) (din : DWord) (flip : BitVec 72) :
    (s.bkbWrite d sec k b addr be din flip).pending = s.pending := by
  simp [State.bkbWrite, apply_ite State.pending, State.bankFirst_pending]

@[simp] theorem State.bkbAdd_pending (d sec k b addr : Nat) (din : DWord) (flip : BitVec 72) :
    (s.bkbAdd d sec k b addr din flip).pending = s.pending := by
  exact s.bankFirst_pending d sec k b _ _ flip _ (fun u old c => u.bkbResult_pending d sec k b old _ c)

@[simp] theorem State.bkbSwap_pending (d sec k b addr : Nat) (din : DWord) (flip : BitVec 72) :
    (s.bkbSwap d sec k b addr din flip).pending = s.pending := by
  exact s.bankFirst_pending d sec k b _ _ flip _ (fun u old c => u.bkbResult_pending d sec k b old 0 c)

theorem State.bkbTake_pending (d sec k b op : Nat) {go : State → BkbIn → State} (h : ∀ u x, (go u x).pending = u.pending) :
    (s.bkbTake d sec k b op go).pending = s.pending := by
  unfold State.bkbTake
  split <;> simp [apply_ite State.pending, h]

@[simp] theorem State.bkbFlush_pending (d sec k b : Nat) : (s.bkbFlush d sec k b).pending = s.pending := by
  simp [State.bkbFlush, State.bkbTake_pending]

@[simp] theorem State.bankStores_pending (page q : Nat) (yields : Bool) : (s.bankStores page q yields).pending = s.pending := by
  unfold State.bankStores
  split
  · rfl
  · split
    · rfl
    · dsimp only
      split <;> simp

/-! ## Queue controllers -/

@[simp] theorem State.queueStore_pending (d sec b a : Nat) (data : DWord) : (s.queueStore d sec b a data).pending = s.pending := by
  simp [State.queueStore, apply_ite State.pending]

@[simp] theorem State.queueDrain_pending (d sec b : Nat) : (s.queueDrain d sec b).pending = s.pending := by
  simp [State.queueDrain, forEach_keeps State.pending]

@[simp] theorem State.queueWrite_pending (d sec b : Nat) (flip : BitVec 72) : (s.queueWrite d sec b flip).pending = s.pending := by
  unfold State.queueWrite
  dsimp only
  split <;> simp [apply_ite State.pending]

@[simp] theorem State.queueRead_pending (d sec b : Nat) (flip : BitVec 72) : (s.queueRead d sec b flip).pending = s.pending := by
  simp [State.queueRead, apply_ite State.pending]

@[simp] theorem State.levelSync_pending (d sec b : Nat) (readSide : Bool) : (s.levelSync d sec b readSide).pending = s.pending := by
  unfold State.levelSync
  dsimp only
  split
  · split <;> simp [apply_ite State.pending]
  · split <;> simp [apply_ite State.pending]

@[simp] theorem State.queueFlush_pending (d sec b : Nat) : (s.queueFlush d sec b).pending = s.pending := by
  simp only [State.queueFlush, apply_ite State.pending]
  simp [forEach_keeps State.pending]

@[simp] theorem State.queueReset_pending (d sec b : Nat) (on : Bool) : (s.queueReset d sec b on).pending = s.pending := by
  simp [State.queueReset, apply_ite State.pending]

@[simp] theorem State.queueEdge_pending (d sec n b : Nat) : (s.queueEdge d sec n b).pending = s.pending := by
  simp [State.queueEdge, apply_ite State.pending]

/-! ## DSP slices -/

@[simp] theorem State.setPtr_pending (d sec j p : Nat) : (s.setPtr d sec j p).pending = s.pending := rfl
@[simp] theorem State.ptrAdvance_pending (d sec j : Nat) : (s.ptrAdvance d sec j).pending = s.pending := rfl

@[simp] theorem State.dspOp_pending (d sec j aop : Nat) : (s.dspOp d sec j aop).pending = s.pending := by
  unfold State.dspOp
  split
  · rfl
  · simp [apply_ite State.pending]

@[simp] theorem State.dspCwe_pending (d sec j : Nat) : (s.dspCwe d sec j).pending = s.pending := by
  unfold State.dspCwe
  split <;> simp [apply_ite State.pending]

@[simp] theorem State.dspCrst_pending (d sec j : Nat) : (s.dspCrst d sec j).pending = s.pending := by
  unfold State.dspCrst
  split <;> simp [apply_ite State.pending]

@[simp] theorem State.dspCnext_pending (d sec j : Nat) : (s.dspCnext d sec j).pending = s.pending := by
  unfold State.dspCnext
  split <;> simp [apply_ite State.pending]

@[simp] theorem State.dspFlush_pending (d sec j : Nat) : (s.dspFlush d sec j).pending = s.pending := by
  unfold State.dspFlush
  split <;> simp

@[simp] theorem State.dspStep_pending (d sec j : Nat) : (s.dspStep d sec j).pending = s.pending := by
  simp [State.dspStep, apply_ite State.pending]

/-! ## Span channels and attach ports -/

@[simp] theorem State.channelWrite_pending (d f : Nat) : (s.channelWrite d f).pending = s.pending := by
  unfold State.channelWrite
  dsimp only
  split <;> simp [apply_ite State.pending]

@[simp] theorem State.channelRead_pending (d f : Nat) : (s.channelRead d f).pending = s.pending := by
  unfold State.channelRead
  dsimp only
  split
  · rfl
  · split <;> simp

@[simp] theorem State.channelFlush_pending (d sec n : Nat) : (s.channelFlush d sec n).pending = s.pending := by
  unfold State.channelFlush
  split
  · rfl
  · exact forEach_keeps State.pending _ (fun h u => by simp [apply_ite State.pending]) s

@[simp] theorem State.attachTransmit_pending (e : Nat) : (s.attachTransmit e).pending = s.pending := by
  unfold State.attachTransmit
  split <;> simp [State.attachTake, apply_ite State.pending]

@[simp] theorem State.attachDeliver_pending (e : Nat) : (s.attachDeliver e).pending = s.pending := by
  unfold State.attachDeliver
  dsimp only
  split <;> rfl

/-! ## An edge -/

/-- Performing what the last edge of a track has taken. -/
@[simp] theorem State.flush_pending (d sec n : Nat) : (s.flush d sec n).pending = s.pending := by
  unfold State.flush
  dsimp only
  split <;> simp [forEach_keeps State.pending]

@[simp] theorem State.releaseEdge_pending (d sec n : Nat) : (s.releaseEdge d sec n).pending = s.pending := by
  simp [State.releaseEdge, apply_ite State.pending]

@[simp] theorem State.trackEdge_pending (d sec n : Nat) (x : List (Nat × Bool) × List (Nat × Bool)) :
    (s.trackEdge d sec n x).pending = s.pending := by
  unfold State.trackEdge
  dsimp only
  split <;> simp

@[simp] theorem State.queueEdges_pending (d sec n : Nat) : (s.queueEdges d sec n).pending = s.pending :=
  forEach_keeps State.pending _ (fun b u => u.queueEdge_pending d sec n b) s

@[simp] theorem State.dspEdges_pending (d sec n : Nat) : (s.dspEdges d sec n).pending = s.pending :=
  forEach_keeps State.pending _ (fun j u => u.dspStep_pending d sec j) s

@[simp] theorem State.portEdges_pending (d sec n : Nat) : (s.portEdges d sec n).pending = s.pending := by
  unfold State.portEdges
  refine (forEach_keeps State.pending _ (fun j u => ?_) _).trans ?_
  · split <;> simp [apply_ite State.pending]
  · simp [forEach_keeps State.pending, apply_ite State.pending]

@[simp] theorem State.dpbTakes_pending (d sec n : Nat) (t : State) : (s.dpbTakes d sec n t).pending = t.pending :=
  forEach_keeps State.pending _ (fun j u => by simp [apply_ite State.pending]) t

@[simp] theorem State.bkbTakes_pending (d sec n : Nat) (t : State) : (s.bkbTakes d sec n t).pending = t.pending := by
  refine forEach_keeps State.pending _ (fun j u => ?_) t
  split <;> simp [apply_ite State.pending]

@[simp] theorem State.queueTakes_pending (d sec n : Nat) (t : State) : (s.queueTakes d sec n t).pending = t.pending :=
  forEach_keeps State.pending _ (fun b u => by simp [apply_ite State.pending]) t

@[simp] theorem State.dspTakes_pending (d sec n : Nat) (t : State) : (s.dspTakes d sec n t).pending = t.pending :=
  forEach_keeps State.pending _ (fun j u => u.setDspSlice_pending d sec j _) t

@[simp] theorem State.channelTakes_pending (d sec n : Nat) (t : State) : (s.channelTakes d sec n t).pending = t.pending := by
  unfold State.channelTakes
  split
  · rfl
  · exact forEach_keeps State.pending _ (fun h u => by simp [apply_ite State.pending]) t

@[simp] theorem State.attachTakes_pending (d sec n : Nat) (t : State) : (s.attachTakes d sec n t).pending = t.pending := by
  unfold State.attachTakes
  split
  · rfl
  · split
    · rfl
    · dsimp only
      split <;> simp [apply_ite State.pending]

@[simp] theorem State.takes_pending (d sec n : Nat) (t : State) : (s.takes d sec n t).pending = t.pending := by simp [State.takes]

@[simp] theorem State.copyTracks_pending (d sec mask : Nat) : (s.copyTracks d sec mask).pending = s.pending := by
  unfold State.copyTracks
  dsimp only
  refine forEach_keeps State.pending _ (fun t u => ?_) s
  rw [forEach_keeps State.pending, forEach_keeps State.pending]
  · exact fun c v => v.putShadow_pending _ _ _ _
  · exact fun k v => v.putShadow_pending _ _ _ _

@[simp] theorem State.holdTracks_pending (page mask : Nat) : (s.holdTracks page mask).pending = s.pending := by
  simp [State.holdTracks, apply_ite State.pending]

@[simp] theorem State.captureLater_pending (d sec n : Nat) : (s.captureLater d sec n).pending = s.pending := by
  simp [State.captureLater, apply_ite State.pending]

/-- All that an edge of one track does. -/
@[simp] theorem State.edgeOf_pending (late : List (Nat × Nat × Nat × Nat)) (x : Nat × Nat × Nat) (t : State) :
    (s.edgeOf late x t).pending = t.pending := by
  simp [State.edgeOf]

@[simp] theorem State.trackRises_pending (xs : List (Nat × Nat × Nat)) (span : Nat) (late : List (Nat × Nat × Nat × Nat)) :
    (s.trackRises xs span late).pending = s.pending := by
  simp [State.trackRises, apply_ite State.pending, forEach_keeps State.pending]

end Sys2Proof.Machine
end

section
/-! SUPPORT. An edge of a track (R71, R93, R97, R99): it sets `TRACK_RUN`, counts toward the release of GSR, and what has left GSR takes what
was sampled before it. -/

namespace Sys2Proof.Machine

open Reg

variable {s : State} {d sec n : Nat}

/-! ## GSR and the registers of a sector -/

theorem trackKey_inj {m : Nat} : trackKey d sec m = trackKey d sec n ↔ m = n := by
  simp [trackKey]

/-- What a sector's status does not decide: whether GSR is active in it. -/
theorem State.gsrActive_of_status {t : State} (hsec : isSector d sec = true)
    (hregs : RegsSameBut s t [fieldKey (Pg.sctl d sec) Sctl.STATUS_TRACK_RUN 0, fieldKey (Pg.sctl d sec) Hdr.INT_STATUS_BLOCK 0])
    (hreleased : t.fabric.released = s.fabric.released) : t.gsrActive d sec = s.gsrActive d sec := by
  obtain ⟨h1, h4, h96⟩ := isSector_iff.1 hsec
  have hpage : 0x1200 ≤ Pg.sctl d sec := by
    unfold Pg.sctl Pg.dieBase
    split_ifs <;> omega
  have hother (p : Nat) {f : RegField} {i : Nat} (hf : (f.off + i * f.stride) * 8 + f.lo < 32768) (hp : p < 0x1200) :
      t.get p f i = s.get p f i := by
    refine hregs p f i ?_
    simp only [List.mem_cons, List.not_mem_nil, or_false, not_or]
    exact ⟨fieldKey_ne_of_page (by decide) hf (by omega), fieldKey_ne_of_page (by decide) hf (by omega)⟩
  have hforce : t.get (Pg.sctl d sec) Sctl.CTL_GSR_FORCE = s.get (Pg.sctl d sec) Sctl.CTL_GSR_FORCE := by
    refine hregs _ _ _ ?_
    simp only [List.mem_cons, List.not_mem_nil, or_false, not_or]
    exact ⟨fieldKey_ne (by decide), fieldKey_ne (by decide)⟩
  have hreset : t.get Pg.reset Reset.RST_DIE_STAT_IN_RESET = s.get Pg.reset Reset.RST_DIE_STAT_IN_RESET :=
    hother _ (by decide) (by decide)
  have hdom : t.domState (16 * d + 1) = s.domState (16 * d + 1) := by
    refine hother _ ?_ (by decide)
    simp only [PowerDom.DOM_STATE_STATE]
    omega
  simp only [State.gsrActive, State.flag, State.domOn, hforce, hreset, hdom, hreleased]

/-! ## The release of R99 -/

/-- One more edge of the release. -/
def State.edgeCounted (s : State) (d sec n : Nat) : State :=
  { s with fabric := { s.fabric with
    edges := SMap.write 0 s.fabric.edges (trackKey d sec n) (SMap.read 0 s.fabric.edges (trackKey d sec n) + 1) } }

theorem State.edgeCounted_same (s : State) (d sec n : Nat) : SMap.read 0 (s.edgeCounted d sec n).fabric.edges (trackKey d sec n) =
    SMap.read 0 s.fabric.edges (trackKey d sec n) + 1 := by
  simp [State.edgeCounted]

theorem State.edgeCounted_other (s : State) (d sec : Nat) {n m : Nat} (h : m ≠ n) :
    SMap.read 0 (s.edgeCounted d sec n).fabric.edges (trackKey d sec m) = SMap.read 0 s.fabric.edges (trackKey d sec m) := by
  have hkey : trackKey d sec m ≠ trackKey d sec n := mt trackKey_inj.1 h
  simp [State.edgeCounted, SMap.read_write_other _ _ _ _ hkey]

theorem State.releaseEdge_of_held (h : s.gsrActive d sec = true ∨ 3 ≤ SMap.read 0 s.fabric.edges (trackKey d sec n)) :
    s.releaseEdge d sec n = s := if_pos h

theorem State.releaseEdge_of_counting (hgsr : s.gsrActive d sec = false) (h : SMap.read 0 s.fabric.edges (trackKey d sec n) < 3) :
    s.releaseEdge d sec n = (s.edgeCounted d sec n).raiseIf
      (SMap.read 0 s.fabric.edges (trackKey d sec n) = 2 ∧ (s.edgeCounted d sec n).allReleased d sec = true) (Pg.sctl d sec)
      Sctl.INT_GSR_RELEASED := by
  have hnot : ¬(s.gsrActive d sec = true ∨ 3 ≤ SMap.read 0 s.fabric.edges (trackKey d sec n)) := by simp [hgsr, h]
  simp only [State.raiseIf, decide_eq_true_eq]
  exact if_neg hnot

theorem State.releaseEdge_regs (s : State) (d sec n : Nat) :
    RegsSameBut s (s.releaseEdge d sec n) [fieldKey (Pg.sctl d sec) Hdr.INT_STATUS_BLOCK 0] := by
  by_cases h : s.gsrActive d sec = true ∨ 3 ≤ SMap.read 0 s.fabric.edges (trackKey d sec n)
  · rw [State.releaseEdge_of_held h]
    exact RegsSameBut.refl s _
  · obtain ⟨hgsr, hlt⟩ := not_or.1 h
    rw [State.releaseEdge_of_counting (Bool.not_eq_true _ ▸ hgsr) (Nat.not_le.1 hlt)]
    intro p f i hk
    exact State.raiseIf_get _ _ _ _ (by simpa using hk)

theorem State.releaseEdge_fabric (s : State) (d sec n : Nat) :
    (s.releaseEdge d sec n).fabric = { s.fabric with edges := (s.releaseEdge d sec n).fabric.edges } := by
  by_cases h : s.gsrActive d sec = true ∨ 3 ≤ SMap.read 0 s.fabric.edges (trackKey d sec n)
  · rw [State.releaseEdge_of_held h]
  · obtain ⟨hgsr, hlt⟩ := not_or.1 h
    rw [State.releaseEdge_of_counting (Bool.not_eq_true _ ▸ hgsr) (Nat.not_le.1 hlt), State.raiseIf_fabric]
    rfl

/-- Edges count up to 3 while GSR is not active. -/
theorem State.releaseEdge_edges (s : State) (d sec n : Nat) : SMap.read 0 (s.releaseEdge d sec n).fabric.edges (trackKey d sec n) =
    if s.gsrActive d sec ∨ 3 ≤ SMap.read 0 s.fabric.edges (trackKey d sec n) then SMap.read 0 s.fabric.edges (trackKey d sec n)
    else SMap.read 0 s.fabric.edges (trackKey d sec n) + 1 := by
  by_cases h : s.gsrActive d sec = true ∨ 3 ≤ SMap.read 0 s.fabric.edges (trackKey d sec n)
  · rw [State.releaseEdge_of_held h, if_pos h]
  · obtain ⟨hgsr, hlt⟩ := not_or.1 h
    rw [if_neg h, State.releaseEdge_of_counting (Bool.not_eq_true _ ▸ hgsr) (Nat.not_le.1 hlt), State.raiseIf_fabric]
    exact State.edgeCounted_same s d sec n

/-- The third edge of the last running track raises `GSR_RELEASED`. -/
theorem State.releaseEdge_raises (hgsr : s.gsrActive d sec = false) (h2 : SMap.read 0 s.fabric.edges (trackKey d sec n) = 2)
    (hothers : ∀ m < 16, m ≠ n → bit (s.get (Pg.sctl d sec) Sctl.STATUS_TRACK_RUN) m = true →
      3 ≤ SMap.read 0 s.fabric.edges (trackKey d sec m)) : Raised (s.releaseEdge d sec n) (Pg.sctl d sec) Sctl.INT_GSR_RELEASED := by
  have hall : (s.edgeCounted d sec n).allReleased d sec = true := by
    simp only [State.allReleased, List.all_eq_true, decide_eq_true_eq, bitList, List.mem_filter, List.mem_range]
    rintro m ⟨hm, hrun⟩
    by_cases hmn : m = n
    · rw [hmn, State.edgeCounted_same, h2]
    · rw [State.edgeCounted_other s d sec hmn]
      exact hothers m hm hmn hrun
  rw [State.releaseEdge_of_counting hgsr (by omega)]
  exact State.raiseIf_raises _ _ (by simp [h2, hall]) (by decide) (by decide)

/-! ## The edge -/

/-- The edge is seen: `TRACK_RUN` is set and the edge counted. -/
def State.edgeSeen (s : State) (d sec n : Nat) : State :=
  let t := s.setBit (Pg.sctl d sec) Sctl.STATUS_TRACK_RUN n true
  { t with fabric := { t.fabric with
    oldEdge := SMap.write none t.fabric.oldEdge (trackKey d sec n) none
    count := SMap.write 0 t.fabric.count (trackKey d sec n) (t.trackCount d sec n + 1) } }

theorem State.edgeSeen_regs (s : State) (d sec n : Nat) :
    RegsSameBut s (s.edgeSeen d sec n) [fieldKey (Pg.sctl d sec) Sctl.STATUS_TRACK_RUN 0] :=
  RegsSameBut.of_regs (t := s.setBit (Pg.sctl d sec) Sctl.STATUS_TRACK_RUN n true) (RegsSameBut.set s _ _ _ 0) rfl

theorem State.edgeSeen_run (s : State) (d sec n : Nat) {m : Nat} (hm : m < 16) :
    bit ((s.edgeSeen d sec n).get (Pg.sctl d sec) Sctl.STATUS_TRACK_RUN) m =
      if m = n then true else bit (s.get (Pg.sctl d sec) Sctl.STATUS_TRACK_RUN) m :=
  s.bit_get_setBit (Pg.sctl d sec) Sctl.STATUS_TRACK_RUN n true 0 hm

theorem State.edgeSeen_gsrActive (hsec : isSector d sec = true) : (s.edgeSeen d sec n).gsrActive d sec = s.gsrActive d sec :=
  State.gsrActive_of_status hsec (RegsSameBut.mono (s.edgeSeen_regs d sec n) (by simp)) rfl

theorem State.trackEdge_eq (s : State) (d sec n : Nat) (x : List (Nat × Bool) × List (Nat × Bool)) : s.trackEdge d sec n x =
    if ((s.edgeSeen d sec n).releaseEdge d sec n).trackFree d sec n then ((s.edgeSeen d sec n).releaseEdge d sec n).putSamples x
    else (s.edgeSeen d sec n).releaseEdge d sec n := rfl

section
variable (x : List (Nat × Bool) × List (Nat × Bool))

theorem State.trackEdge_regs (s : State) (d sec n : Nat) :
    (s.trackEdge d sec n x).regs = ((s.edgeSeen d sec n).releaseEdge d sec n).regs := by
  rw [State.trackEdge_eq]
  split <;> rfl

theorem State.trackEdge_edges (hsec : isSector d sec = true) :
    SMap.read 0 (s.trackEdge d sec n x).fabric.edges (trackKey d sec n) =
      if s.gsrActive d sec ∨ 3 ≤ SMap.read 0 s.fabric.edges (trackKey d sec n) then SMap.read 0 s.fabric.edges (trackKey d sec n)
      else SMap.read 0 s.fabric.edges (trackKey d sec n) + 1 := by
  have hedges : (s.trackEdge d sec n x).fabric.edges = ((s.edgeSeen d sec n).releaseEdge d sec n).fabric.edges := by
    rw [State.trackEdge_eq]
    split <;> rfl
  rw [hedges, State.releaseEdge_edges, State.edgeSeen_gsrActive hsec]
  rfl

/-- `TRACK_RUN` bit `n` is 1 after the edge (R97). -/
theorem State.trackEdge_run (s : State) (d sec : Nat) (hn : n < 16) :
    bit ((s.trackEdge d sec n x).get (Pg.sctl d sec) Sctl.STATUS_TRACK_RUN) n = true := by
  rw [State.get_of_regs (s.trackEdge_regs x d sec n),
    (s.edgeSeen d sec n).releaseEdge_regs d sec n _ _ _ (by simpa using fieldKey_ne (by decide)), State.edgeSeen_run _ _ _ _ hn, if_pos rfl]

/-- What a track clocks has left GSR after the edge if GSR is not active and this is the third edge, or a later one (R99). -/
theorem State.trackFree_after (hsec : isSector d sec = true) : ((s.edgeSeen d sec n).releaseEdge d sec n).trackFree d sec n = true ↔
    s.gsrActive d sec = false ∧ 2 ≤ SMap.read 0 s.fabric.edges (trackKey d sec n) := by
  have hgsr : ((s.edgeSeen d sec n).releaseEdge d sec n).gsrActive d sec = s.gsrActive d sec := by
    rw [State.gsrActive_of_status (s := s.edgeSeen d sec n) hsec (RegsSameBut.mono (State.releaseEdge_regs _ d sec n) (by simp))
      (by rw [State.releaseEdge_fabric]), State.edgeSeen_gsrActive hsec]
  have hedges : SMap.read 0 ((s.edgeSeen d sec n).releaseEdge d sec n).fabric.edges (trackKey d sec n) =
      if s.gsrActive d sec ∨ 3 ≤ SMap.read 0 s.fabric.edges (trackKey d sec n) then SMap.read 0 s.fabric.edges (trackKey d sec n)
      else SMap.read 0 s.fabric.edges (trackKey d sec n) + 1 := by
    rw [State.releaseEdge_edges, State.edgeSeen_gsrActive hsec]
    rfl
  rw [State.trackFree, hgsr, hedges]
  cases s.gsrActive d sec
  · simp only [Bool.not_false, Bool.true_and, decide_eq_true_eq, Bool.false_eq_true, false_or, true_and]
    split <;> omega
  · simp

/-- Until then no flop and no wire register changes. -/
theorem State.trackEdge_held (hsec : isSector d sec = true)
    (h : s.gsrActive d sec = true ∨ SMap.read 0 s.fabric.edges (trackKey d sec n) < 2) :
    (s.trackEdge d sec n x).fabric.flops = s.fabric.flops ∧ (s.trackEdge d sec n x).fabric.wires = s.fabric.wires := by
  have hheld : ¬((s.edgeSeen d sec n).releaseEdge d sec n).trackFree d sec n = true := by
    rw [State.trackFree_after hsec]
    rintro ⟨hgsr, h2⟩
    rcases h with h | h
    · simp [h] at hgsr
    · omega
  rw [State.trackEdge_eq, if_neg hheld, State.releaseEdge_fabric]
  exact ⟨rfl, rfl⟩

/-- From then on they hold what they sampled. -/
theorem State.trackEdge_samples (hsec : isSector d sec = true) (hgsr : s.gsrActive d sec = false)
    (h2 : 2 ≤ SMap.read 0 s.fabric.edges (trackKey d sec n)) :
    (s.trackEdge d sec n x).fabric.flops = (s.putSamples x).fabric.flops ∧
    (s.trackEdge d sec n x).fabric.wires = (s.putSamples x).fabric.wires := by
  rw [State.trackEdge_eq, if_pos ((State.trackFree_after hsec).2 ⟨hgsr, h2⟩)]
  simp only [State.putSamples]
  rw [State.releaseEdge_fabric]
  exact ⟨rfl, rfl⟩

theorem State.trackEdge_raises (hsec : isSector d sec = true) (hgsr : s.gsrActive d sec = false)
    (h2 : SMap.read 0 s.fabric.edges (trackKey d sec n) = 2)
    (hothers : ∀ m < 16, m ≠ n → bit (s.get (Pg.sctl d sec) Sctl.STATUS_TRACK_RUN) m = true →
      3 ≤ SMap.read 0 s.fabric.edges (trackKey d sec m)) :
    Raised (s.trackEdge d sec n x) (Pg.sctl d sec) Sctl.INT_GSR_RELEASED := by
  have hraised : Raised ((s.edgeSeen d sec n).releaseEdge d sec n) (Pg.sctl d sec) Sctl.INT_GSR_RELEASED := by
    refine State.releaseEdge_raises ((State.edgeSeen_gsrActive hsec).trans hgsr) h2 (fun m hm hmn hrun => ?_)
    rw [State.edgeSeen_run _ _ _ _ hm, if_neg hmn] at hrun
    exact hothers m hm hmn hrun
  rwa [Raised, State.get_of_regs (s.trackEdge_regs x d sec n)]

end

/-! ## The commands -/

/-- The state in which the tracks of a command take an edge: what their last edges have taken is performed. -/
theorem State.trackRises_eq (s : State) (xs : List (Nat × Nat × Nat)) {span : Nat} (late : List (Nat × Nat × Nat × Nat))
    (hspan : s.clock.span ≤ span) {f : State} (hf : forEach xs (fun x t => t.flush x.1 x.2.1 x.2.2) (s.spanTo span) = f) :
    s.trackRises xs span late = (forEach (xs.filter (fun x => f.rises x.1 x.2.1 x.2.2 span)) (f.edgeOf late) f).took := by
  rw [← hf]
  exact if_neg (Nat.not_lt.2 hspan)

theorem State.trackRises_one_of_rises (s : State) {span : Nat} (late : List (Nat × Nat × Nat × Nat)) (hspan : s.clock.span ≤ span)
    (hrises : ((s.spanTo span).flush d sec n).rises d sec n span = true) : s.trackRises [(d, sec, n)] span late =
      (((s.spanTo span).flush d sec n).edgeOf late (d, sec, n) ((s.spanTo span).flush d sec n)).took := by
  rw [s.trackRises_eq _ late hspan (f := (s.spanTo span).flush d sec n) rfl]
  simp [hrises, forEach]

theorem State.trackRises_one_of_stays (s : State) {span : Nat} (late : List (Nat × Nat × Nat × Nat)) (hspan : s.clock.span ≤ span)
    (hrises : ((s.spanTo span).flush d sec n).rises d sec n span = false) :
    s.trackRises [(d, sec, n)] span late = ((s.spanTo span).flush d sec n).took := by
  rw [s.trackRises_eq _ late hspan (f := (s.spanTo span).flush d sec n) rfl]
  simp [hrises, forEach]

theorem State.trackRises_of_past (s : State) (xs : List (Nat × Nat × Nat)) {span : Nat} (late : List (Nat × Nat × Nat × Nat))
    (hspan : span < s.clock.span) : s.trackRises xs span late = s := if_pos hspan

/-- A command whose state has kept the queue leaves that state. -/
theorem completes_of_kept {i : Instr} {t : State} {ok : Bool} {p : State → Prop} (he : exec i s = onPart ok s t) (hok : ok = true)
    (hpending : t.pending = s.pending) (hp : p t) : Completes i s p := by
  refine completes_of_onPart he hok ?_
  rwa [← hpending]

end Sys2Proof.Machine
end

section
/-! SUPPORT. GSR (R98 to R100, R193, R247): what its assertion in a sector leaves alone, the force of `CTL`, and the edges that release it. -/

namespace Sys2Proof.Machine

open Reg

/-! ## Changes of one page -/

/-- From `s` to `t` no register of another page changes, nor anything of the logic fabric. -/
structure ChangesPage (page : Nat) (s t : State) : Prop where
  fabric : t.fabric = s.fabric
  regs : PageOnly s t page

namespace ChangesPage

variable {page : Nat} {s t u : State}

theorem refl (page : Nat) (s : State) : ChangesPage page s s := ⟨rfl, fun _ _ _ _ _ => rfl⟩

theorem trans (h : ChangesPage page s t) (h' : ChangesPage page t u) : ChangesPage page s u :=
  ⟨h'.fabric.trans h.fabric, fun p f i hf hp => (h'.regs p f i hf hp).trans (h.regs p f i hf hp)⟩

theorem of_eq (hfabric : t.fabric = s.fabric) (hregs : t.regs = s.regs) : ChangesPage page s t :=
  ⟨hfabric, fun p f i _ _ => State.get_of_regs hregs p f i⟩

theorem set (page : Nat) (s : State) {f : RegField} {i : Nat} (v : Nat) (hf : (f.off + i * f.stride) * 8 + f.lo < 32768) :
    ChangesPage page s (s.set page f v i) := ⟨rfl, PageOnly.set (refl page s).regs v hf⟩

theorem setInt (page : Nat) (s : State) (b : Nat) : ChangesPage page s (s.setInt page b) := set page s _ (by decide)

theorem ite {c : Prop} [Decidable c] (h : c → ChangesPage page s t) (h' : ¬c → ChangesPage page s u) :
    ChangesPage page s (if c then t else u) := by
  split
  case isTrue hc => exact h hc
  case isFalse hc => exact h' hc

theorem forEach {α : Type} {xs : List α} {f : α → State → State} (h : ∀ x ∈ xs, ∀ u, ChangesPage page u (f x u)) (s : State) :
    ChangesPage page s (forEach xs f s) := by
  induction xs generalizing s with
  | nil => exact refl page s
  | cons x xs ih => exact (h x (by simp) s).trans (ih (fun y hy => h y (by simp [hy])) _)

end ChangesPage

/-! ## Stored words of a sector -/

section
variable {page : Nat} (hk : pageKind page = some .mi)
include hk

theorem isEngPage_mi : isEngPage page = false := by simp [isEngPage, hk]

theorem isMram_mi : isMram page = false := by
  have hsafety : pageKind Pg.safety = some .safety := by decide
  simp only [isMram, decide_eq_false_iff_not]
  rintro rfl
  simp [hsafety] at hk

/-- A sector has 15 blocks. -/
theorem blockOf_mi {q : Nat} (hq : q < 50) : blockOf page q < 15 := by
  simp only [blockOf, isMram_mi hk, isEngPage_mi hk, Bool.false_eq_true, if_false]
  split <;> omega

theorem changesPage_miInt (s : State) (b : Nat) : ChangesPage page s (s.miInt page b) := by
  simp only [State.miInt, isMram_mi hk, Bool.false_eq_true, if_false]
  exact .setInt page s b

variable {q : Nat} (hq : q < 50)
include hq

theorem changesPage_lastErr (s : State) (kind syn : Nat) (par : Bool) (w : Nat) :
    ChangesPage page s (s.lastErr page q kind syn par w) := by
  have hb := blockOf_mi hk hq
  have hset (u : State) {f : RegField} (v : Nat) (hf : f.off = 0x20C ∧ f.stride = 0x10 ∧ f.lo < 32) :
      ChangesPage page u (u.set page f v (blockOf page q)) := by
    refine .set page u v ?_
    rw [hf.1, hf.2.1]
    omega
  unfold State.lastErr
  dsimp only
  refine .ite (fun _ => .refl page s) (fun _ => ?_)
  simp only [miErrValid, miErrKind, miErrBank, miErrSyn, miErrPar, miErrWord, isEngPage_mi hk, Bool.false_eq_true, if_false]
  exact (((((hset s 1 (by decide)).trans (hset _ _ (by decide))).trans (hset _ _ (by decide))).trans (hset _ _ (by decide))).trans
    (hset _ _ (by decide))).trans (hset _ _ (by decide))

theorem changesPage_miDrop (s : State) : ChangesPage page s (s.miCount page (miDrop page) (blockOf page q)) := by
  have hb := blockOf_mi hk hq
  simp only [State.miCount, miDrop, isMram_mi hk, isEngPage_mi hk, Bool.false_eq_true, if_false]
  refine .set page s _ ?_
  simp only [Mi.MI_BLK2_REPAIR_DROP]
  omega

theorem changesPage_found (s : State) (par : Bool) (w : Nat) (r : WordRead) : ChangesPage page s (s.found page q par w r) := by
  unfold State.found
  split
  · exact .refl page s
  · exact .refl page s
  · dsimp only
    refine .trans ((changesPage_miInt hk s _).trans (changesPage_lastErr hk hq _ _ _ _ _)) (.ite (fun _ => .refl page _) (fun _ => ?_))
    exact .ite (fun _ => changesPage_miDrop hk hq _) (fun _ => .of_eq rfl rfl)

theorem changesPage_readAt (s : State) (w : Nat) : ChangesPage page s (s.readAt page q w).2 := changesPage_found hk hq s false w _

omit hq in
theorem changesPage_portStore (s : State) (q w : Nat) (data : DWord) (yields : Bool) :
    ChangesPage page s (s.portStore page q w data yields) := by
  have hcoded : ChangesPage page s (s.putCoded page q w data.toNat false yields) := by
    refine .ite (fun _ => ?_) (fun _ => .of_eq rfl rfl)
    refine .trans (t := s.putRaw page q false w _) (.of_eq rfl rfl) (.set page _ 0 ?_)
    simp only [miFlipArm, isEngPage_mi hk, Bool.false_eq_true, if_false]
    decide
  have hsupersede (u : State) : ChangesPage page u (u.supersede page q w) := .ite (fun _ => .of_eq rfl rfl) (fun _ => .refl page u)
  exact (hcoded.trans (hsupersede _)).trans (.of_eq rfl rfl)

end

/-! ## Queues and blocks that GSR holds -/

section
variable {d sec : Nat} (hsec : isSector d sec = true)
include hsec

theorem pageKind_mi_of : pageKind (Pg.mi d sec) = some .mi := by
  obtain ⟨h1, h4, h96⟩ := isSector_iff.1 hsec
  exact (pageKind_mi d (by omega) h1 sec h96).1

omit hsec in
theorem qAt_lt (s : State) {b : Nat} (hb : b < 15) (a : Nat) (hk : pageKind (Pg.mi d sec) = some .mi) : (s.qAt d sec b a).1 < 50 := by
  unfold State.qAt
  split
  · dsimp only
    omega
  · simp only [State.bkbAt, locate, isEngPage_mi hk, Bool.false_eq_true, if_false]
    rw [if_neg (by omega)]
    split <;> dsimp only <;> omega

theorem changesPage_queueStore (s : State) {b : Nat} (hb : b < 15) (a : Nat) (data : DWord) :
    ChangesPage (Pg.mi d sec) s (s.queueStore d sec b a data) := by
  have hk := pageKind_mi_of hsec
  have hread := changesPage_readAt hk (qAt_lt s hb a hk) s
  unfold State.queueStore
  dsimp only
  refine .ite (fun _ => changesPage_portStore hk s _ _ _ _) (fun _ => .ite (fun _ => hread _) (fun _ => ?_))
  exact (hread _).trans (changesPage_portStore hk _ _ _ _ _)

theorem changesPage_queueDrain (s : State) {b : Nat} (hb : b < 15) : ChangesPage (Pg.mi d sec) s (s.queueDrain d sec b) :=
  (ChangesPage.forEach (fun x _ u => changesPage_queueStore hsec u hb x.1 x.2) s).trans (.of_eq rfl rfl)

theorem changesPage_testsEnd (s : State) : ChangesPage (Pg.mi d sec) s (s.testsEnd (· = Pg.mi d sec)) := by
  have hk := pageKind_mi_of hsec
  refine ChangesPage.forEach (fun p _ u => .ite (fun hp => ?_) (fun _ => .refl _ u)) s
  rw [decide_eq_true_eq] at hp
  subst hp
  simp only [miTestBusy, miTestFault, isEngPage_mi hk, Bool.false_eq_true, if_false]
  have hbusy := ChangesPage.set (Pg.mi d sec) u (f := Mi.MI_TEST_STAT_BUSY) (i := 0) 0 (by decide)
  have hfault := ChangesPage.set (Pg.mi d sec) (u.set (Pg.mi d sec) Mi.MI_TEST_STAT_BUSY 0) (f := Mi.MI_TEST_STAT_FAULT) (i := 0) 1 (by decide)
  exact (hbusy.trans hfault).trans (.of_eq rfl rfl)

theorem changesPage_holdBlocks (s : State) : ChangesPage (Pg.mi d sec) s (s.holdBlocks d sec) := by
  unfold State.holdBlocks
  dsimp only
  refine ChangesPage.trans ?_ (ChangesPage.forEach ?walks _)
  case walks => exact fun q _ u => .of_eq rfl rfl
  refine ChangesPage.trans ?_ (ChangesPage.forEach ?queues _)
  case queues => exact fun b hb u => (changesPage_queueDrain hsec u (List.mem_range.1 hb)).trans (.of_eq rfl rfl)
  refine ChangesPage.trans ?_ (ChangesPage.forEach ?banked _)
  case banked => exact fun j _ u => .of_eq rfl rfl
  refine ChangesPage.trans ?_ (ChangesPage.forEach ?ports _)
  case ports => exact fun j _ u => .of_eq rfl rfl
  exact changesPage_testsEnd hsec s

/-- GSR asserts: of the fabric the release counts change, of the registers those of the sector's integrity page. -/
theorem changesPage_gsrSector (s : State) : ChangesPage (Pg.mi d sec) (s.assertGsr d sec) (s.gsrSector d sec) := by
  have hslices (t : State) : ChangesPage (Pg.mi d sec) t (t.holdSlices d sec) := by
    unfold State.holdSlices
    exact ChangesPage.forEach (fun j _ u => .of_eq (u.setDspSlice_fabric d sec j _) rfl) t
  have hslice (t : State) : ChangesPage (Pg.mi d sec) t (t.holdSlice d sec) := by
    unfold State.holdSlice
    exact .ite (fun _ => .of_eq (t.setSlice_fabric d sec _) (t.setSlice_regs d sec _)) (fun _ => .refl _ t)
  exact ((changesPage_holdBlocks hsec _).trans (hslices _)).trans (hslice _)

end

/-! ## The force of `CTL` -/

variable {s : State} {d sec n : Nat}

/-- The release counts of the tracks below `k` are cleared. -/
theorem SMap.read_trackCleared (m : SMap Nat) {k : Nat} (hn : n < k) :
    SMap.read 0 ((List.range k).foldl (fun m n => SMap.write 0 m (trackKey d sec n) 0) m) (trackKey d sec n) = 0 := by
  induction k with
  | zero => exact absurd hn (Nat.not_lt_zero n)
  | succ k ih =>
    rw [List.range_succ, List.foldl_append, List.foldl_cons, List.foldl_nil]
    rcases Nat.lt_succ_iff_lt_or_eq.1 hn with hlt | rfl
    · rw [SMap.read_write_other _ _ _ _ (mt trackKey_inj.1 hlt.ne)]
      exact ih hlt
    · rw [SMap.read_write_same]

theorem State.assertGsr_edges (s : State) (d sec : Nat) (hn : n < 16) :
    SMap.read 0 (s.assertGsr d sec).fabric.edges (trackKey d sec n) = 0 := by
  simp only [State.assertGsr, SMap.read_trackCleared _ hn]

/-- A set force asserts GSR (R98). -/
theorem State.gsrActive_of_force (h : s.flag (Pg.sctl d sec) Sctl.CTL_GSR_FORCE = true) : s.gsrActive d sec = true := by
  simp [State.gsrActive, h]

/-- An accepted write of `CTL` stores the force; one that sets it asserts GSR. -/
theorem State.writeReg_gsrForce {o : Origin} {v : Word} (hsec : isSector d sec = true) (h : Accepts s o (Pg.sctl d sec) 0x010 v = true) :
    s.writeReg o (Pg.sctl d sec) 0x010 v =
      if bit v.toNat 0 = true ∧ s.flag (Pg.sctl d sec) Sctl.CTL_GSR_FORCE = false then
        (s.set (Pg.sctl d sec) Sctl.CTL_GSR_FORCE (bits v.toNat 0 0)).gsrSector d sec
      else s.set (Pg.sctl d sec) Sctl.CTL_GSR_FORCE (bits v.toNat 0 0) := by
  have hk := pageKind_sctl_of hsec
  obtain ⟨h1, h4, h96⟩ := isSector_iff.1 hsec
  obtain ⟨-, hdie, hin⟩ := pageKind_sctl d (by omega) h1 sec h96
  rw [State.writeReg_sctl hk h (by decide) (by decide), fieldsAt_sctlCtl hk]
  simp only [forEach, List.foldl_cons, List.foldl_nil]
  rw [State.storeField_sctl hk (f := Sctl.CTL_GSR_FORCE) _ _ _ _ _ rfl rfl]
  simp only [State.sctlWritten, if_true, hdie, hin]
  rfl

theorem State.flag_set_gsrForce (s : State) (p w : Nat) :
    (s.set p Sctl.CTL_GSR_FORCE (bits w 0 0)).flag p Sctl.CTL_GSR_FORCE = bit w 0 := by
  have hlt : bits w 0 0 < 2 := bits_lt w 0 0
  have hget : (s.set p Sctl.CTL_GSR_FORCE (bits w 0 0)).get p Sctl.CTL_GSR_FORCE = bits w 0 0 :=
    (State.get_set_same s p _ _ 0).trans (Nat.mod_eq_of_lt hlt)
  rw [State.flag, hget, Bool.eq_iff_iff, decide_eq_true_eq, ne_eq, bits_eq_zero_iff, Bool.not_eq_false]

section
variable {o : Origin} {v : Word} (hsec : isSector d sec = true) (h : Accepts s o (Pg.sctl d sec) 0x010 v = true)
include hsec h

/-- GSR is active after a write of 1; one that sets the force lets every track pass three edges again. -/
theorem State.gsrForced (hv : bit v.toNat 0 = true) (hn : n < 16) :
    (s.writeReg o (Pg.sctl d sec) 0x010 v).gsrActive d sec = true ∧
    (s.flag (Pg.sctl d sec) Sctl.CTL_GSR_FORCE = false →
      SMap.read 0 (s.writeReg o (Pg.sctl d sec) 0x010 v).fabric.edges (trackKey d sec n) = 0) := by
  have hset : (s.set (Pg.sctl d sec) Sctl.CTL_GSR_FORCE (bits v.toNat 0 0)).flag (Pg.sctl d sec) Sctl.CTL_GSR_FORCE = true := by
    rw [State.flag_set_gsrForce, hv]
  rw [State.writeReg_gsrForce hsec h]
  by_cases hwas : s.flag (Pg.sctl d sec) Sctl.CTL_GSR_FORCE = false
  · rw [if_pos ⟨hv, hwas⟩]
    have hchanges := changesPage_gsrSector hsec (s.set (Pg.sctl d sec) Sctl.CTL_GSR_FORCE (bits v.toNat 0 0))
    have hpage : Pg.sctl d sec ≠ Pg.mi d sec := by
      unfold Pg.sctl Pg.mi
      omega
    refine ⟨State.gsrActive_of_force ?_, fun _ => ?_⟩
    · rw [State.flag, hchanges.regs _ _ _ (by decide) hpage, State.assertGsr_get]
      exact hset
    · rw [hchanges.fabric]
      exact State.assertGsr_edges _ d sec hn
  · rw [if_neg (fun hc => hwas hc.2)]
    exact ⟨State.gsrActive_of_force hset, fun hnot => absurd hnot hwas⟩

/-- A write of 0 clears the force alone. -/
theorem State.writeReg_gsrUnforced (hv : bit v.toNat 0 = false) :
    s.writeReg o (Pg.sctl d sec) 0x010 v = s.set (Pg.sctl d sec) Sctl.CTL_GSR_FORCE (bits v.toNat 0 0) := by
  rw [State.writeReg_gsrForce hsec h, if_neg (by simp [hv])]

end

theorem State.startRelease_flag (s : State) (d sec : Nat) :
    (s.startRelease d sec).flag (Pg.sctl d sec) Sctl.CTL_GSR_FORCE = s.flag (Pg.sctl d sec) Sctl.CTL_GSR_FORCE := by
  unfold State.flag State.startRelease
  rw [State.get_set_other _ _ (fieldKey_ne (by decide))]
  rfl

end Sys2Proof.Machine
end

section
/-! SUPPORT. The commands of GSR and of a track's edges (R93, R97 to R100): the force of `CTL`, the edge of one track, the edges of two. -/

namespace Sys2Proof.Machine

open Reg

variable {s : State} {o : Origin} {d sec n : Nat} {v : Word}

/-- A start-up release in the same cycle comes before the write of the force (R100). -/
theorem gsrForceWrite_forces (ht : isTrack d sec n = true) (release : Bool) (h : Accepts s o (Pg.sctl d sec) 0x010 v = true)
    (h' : Accepts (s.startRelease d sec) o (Pg.sctl d sec) 0x010 v = true) :
    Completes (.gsrForceWrite o d sec v release) s (fun t =>
      (bit v.toNat 0 = true → t.gsrActive d sec = true ∧
        (s.flag (Pg.sctl d sec) Sctl.CTL_GSR_FORCE = false → SMap.read 0 t.fabric.edges (trackKey d sec n) = 0)) ∧
      (bit v.toNat 0 = false → t.flag (Pg.sctl d sec) Sctl.CTL_GSR_FORCE = false ∧
        SMap.read 0 t.fabric.edges (trackKey d sec n) = SMap.read 0 s.fabric.edges (trackKey d sec n) ∧
        (release = false → SMap.read false s.fabric.released (sectorKey d sec) = false → t.gsrActive d sec = true))) := by
  obtain ⟨hsec, hn⟩ := isTrack_iff.1 ht
  refine completes_of_onPart rfl hsec ⟨fun hv => ?_, fun hv => ?_⟩
  · cases release
    · exact State.gsrForced hsec h hv hn
    · obtain ⟨hactive, hedges⟩ := State.gsrForced hsec h' hv hn
      exact ⟨hactive, fun hwas => hedges ((s.startRelease_flag d sec).trans hwas)⟩
  · cases release
    · rw [if_neg Bool.false_ne_true, State.writeReg_gsrUnforced hsec h hv]
      exact ⟨(s.flag_set_gsrForce _ _).trans hv, rfl, fun _ hreleased => State.gsrActive_of_not_released hreleased⟩
    · rw [if_pos rfl, State.writeReg_gsrUnforced hsec h' hv]
      exact ⟨((s.startRelease d sec).flag_set_gsrForce _ _).trans hv, rfl, fun hno => nomatch hno⟩

/-- What an edge makes of the sector: `TRACK_RUN`, the release, what the track clocks, and `GSR_RELEASED`. -/
theorem State.trackEdge_effects (ht : isTrack d sec n = true) (f : State) (x : List (Nat × Bool) × List (Nat × Bool)) :
    let u := f.trackEdge d sec n x
    let edges := fun u : State => SMap.read 0 u.fabric.edges (trackKey d sec n)
    bit (u.get (Pg.sctl d sec) Sctl.STATUS_TRACK_RUN) n = true ∧
    edges u = (if f.gsrActive d sec ∨ 3 ≤ edges f then edges f else edges f + 1) ∧
    (f.gsrActive d sec = true ∨ edges f < 2 → u.fabric.flops = f.fabric.flops ∧ u.fabric.wires = f.fabric.wires) ∧
    (f.gsrActive d sec = false → 2 ≤ edges f →
      u.fabric.flops = (f.putSamples x).fabric.flops ∧ u.fabric.wires = (f.putSamples x).fabric.wires) ∧
    (f.gsrActive d sec = false → edges f = 2 →
      (∀ m < 16, m ≠ n → bit (f.get (Pg.sctl d sec) Sctl.STATUS_TRACK_RUN) m = true →
        3 ≤ SMap.read 0 f.fabric.edges (trackKey d sec m)) →
      Raised u (Pg.sctl d sec) Sctl.INT_GSR_RELEASED) := by
  obtain ⟨hsec, hn⟩ := isTrack_iff.1 ht
  exact ⟨f.trackEdge_run x d sec hn, State.trackEdge_edges x hsec, State.trackEdge_held x hsec, State.trackEdge_samples x hsec,
    State.trackEdge_raises x hsec⟩

/-- Two tracks that rise at one edge both take what stood before either changed anything (R93). -/
theorem State.trackRises_two (s : State) {d2 sec2 n2 span : Nat} (late : List (Nat × Nat × Nat × Nat)) (hspan : s.clock.span ≤ span)
    {f : State} (hf : ((s.spanTo span).flush d sec n).flush d2 sec2 n2 = f) (h1 : f.rises d sec n span = true)
    (h2 : f.rises d2 sec2 n2 span = true) :
    s.trackRises [(d, sec, n), (d2, sec2, n2)] span late = (f.edgeOf late (d2, sec2, n2) (f.edgeOf late (d, sec, n) f)).took := by
  rw [s.trackRises_eq [(d, sec, n), (d2, sec2, n2)] late hspan hf]
  simp [h1, h2, forEach]

theorem State.gsrThird_of_third (span : Nat) (hgsr : s.gsrActive d sec = false)
    (h2 : SMap.read 0 s.fabric.edges (trackKey d sec n) = 2) : s.gsrThird d sec n span = s.trackRises [(d, sec, n)] span [] :=
  if_pos ⟨hgsr, h2⟩

theorem State.gsrThird_of_not (span : Nat) (h : s.gsrActive d sec = true ∨ SMap.read 0 s.fabric.edges (trackKey d sec n) ≠ 2) :
    s.gsrThird d sec n span = s := by
  refine if_neg ?_
  rintro ⟨hgsr, h2⟩
  rcases h with h | h
  · simp [h] at hgsr
  · exact h h2

theorem State.gsrThird_pending (s : State) (d sec n span : Nat) : (s.gsrThird d sec n span).pending = s.pending := by
  simp [State.gsrThird, apply_ite State.pending]

end Sys2Proof.Machine

namespace Sys2Proof

open Machine

/-- Settles O13: the force of `CTL`, the edge of one track with the third edge of a release, and the common edge of two tracks. -/
theorem globalSetResetAssertsAndReleases : Obligations.GlobalSetResetAssertsAndReleases := by
  unfold Obligations.GlobalSetResetAssertsAndReleases
  intro s o d sec n v span late ht
  refine ⟨fun release h h' => gsrForceWrite_forces ht release h h', ⟨?_, ?_⟩, fun d2 sec2 n2 ht2 hne => ?_⟩
  · refine completes_of_kept rfl (by simp [areTracks, ht]) (s.trackRises_pending _ _ _) ⟨fun hpast => ?_, fun hspan hrises => ?_, fun hspan hstays => ?_⟩
    · exact s.trackRises_of_past _ late hpast
    · obtain ⟨hrun, hedges, hheld, hsamples, hraised⟩ := State.trackEdge_effects ht ((s.spanTo span.toNat).flush d sec n) _
      exact ⟨hrun, hedges, hheld, hsamples, hraised, s.trackRises_one_of_rises late hspan hrises⟩
    · exact s.trackRises_one_of_stays late hspan hstays
  · refine completes_of_kept rfl ht (s.gsrThird_pending _ _ _ _) ⟨fun hspan hgsr h2 hrises => ?_, fun hnot => ?_⟩
    · obtain ⟨hrun, hedges, hheld, hsamples, hraised⟩ := State.trackEdge_effects ht ((s.spanTo span.toNat).flush d sec n) _
      exact ⟨hrun, hedges, hheld, hsamples, hraised,
        (State.gsrThird_of_third _ hgsr h2).trans (s.trackRises_one_of_rises [] hspan hrises)⟩
    · exact State.gsrThird_of_not _ hnot
  · exact completes_of_kept rfl (by simp [areTracks, ht, ht2, hne.symm]) (s.trackRises_pending _ _ _)
      (fun hspan h1 h2 => s.trackRises_two late hspan rfl h1 h2)

end Sys2Proof
end

section
/-! SUPPORT. The controls of a flop (R70 to R72): which of SR, CE and D an edge follows, and what an asynchronous SR leaves. -/

namespace Sys2Proof.Machine

variable {s : State} {d X Y c i : Nat} {b late : Bool}

/-! ## A rising edge -/

/-- SR comes first: a flop that uses it takes `INIT` while it is 1 (R71). -/
theorem State.flopNext_of_sr (huses : bit (s.leSlot d X Y c i) (if b then 61 else 60) = true) (hsr : s.clusterSR d X Y c = true) :
    s.flopNext d X Y c i b late = bit (s.leSlot d X Y c i) (if b then 55 else 54) := by
  simp [State.flopNext, huses, hsr]

/-- CE comes next: while it is 0 a flop that uses it holds (R71). -/
theorem State.flopNext_of_no_ce (hsr : bit (s.leSlot d X Y c i) (if b then 61 else 60) = false ∨ s.clusterSR d X Y c = false)
    (huses : bit (s.leSlot d X Y c i) (if b then 59 else 58) = true) (hce : s.clusterCE d X Y c = false) :
    s.flopNext d X Y c i b false = s.flopOut d X Y c i b := by
  rcases hsr with h | h <;> simp [State.flopNext, h, huses, hce]

/-! ## An asynchronous SR -/

/-- One flop of an LE takes `INIT` if it uses the SR. -/
def State.flopInit (s : State) (d X Y c i : Nat) (b : Bool) : State :=
  if bit (s.leSlot d X Y c i) (if b then 61 else 60) then
    { s with fabric := { s.fabric with
      flops := SMap.write false s.fabric.flops (flopKey d X Y c i b) (bit (s.leSlot d X Y c i) (if b then 55 else 54)) } }
  else s

/-- Both flops of the first `n` LEs of a cluster do. -/
def State.clusterInit (s : State) (d X Y c n : Nat) : State :=
  forEach (List.range n) (fun i u => (u.flopInit d X Y c i false).flopInit d X Y c i true) s

theorem flopKey_inj {j : Nat} {b' : Bool} : flopKey d X Y c j b' = flopKey d X Y c i b ↔ j = i ∧ b' = b := by
  cases b <;> cases b' <;> simp only [flopKey, b2n] <;> simp <;> omega

theorem State.flopInit_fabric (s : State) (d X Y c i : Nat) (b : Bool) :
    (s.flopInit d X Y c i b).fabric = { s.fabric with flops := (s.flopInit d X Y c i b).fabric.flops } := by
  by_cases huses : bit (s.leSlot d X Y c i) (if b then 61 else 60) = true
  · rw [State.flopInit, if_pos huses]
  · rw [State.flopInit, if_neg huses]

theorem State.flopInit_regs (s : State) (d X Y c i : Nat) (b : Bool) : (s.flopInit d X Y c i b).regs = s.regs := by
  by_cases huses : bit (s.leSlot d X Y c i) (if b then 61 else 60) = true
  · rw [State.flopInit, if_pos huses]
  · rw [State.flopInit, if_neg huses]

/-- The configuration of an LE is that of the frames. -/
theorem State.leSlot_of_frames {s t : State} (h : t.fabric.frames = s.fabric.frames) (d X Y c i : Nat) :
    t.leSlot d X Y c i = s.leSlot d X Y c i := by
  simp [State.leSlot, State.frameXY, State.frame, h]

theorem State.flopInit_read (s : State) (d X Y c i j : Nat) (b b' : Bool) :
    SMap.read false (s.flopInit d X Y c i b).fabric.flops (flopKey d X Y c j b') =
      if (j = i ∧ b' = b) ∧ bit (s.leSlot d X Y c i) (if b then 61 else 60) = true then bit (s.leSlot d X Y c i) (if b then 55 else 54)
      else SMap.read false s.fabric.flops (flopKey d X Y c j b') := by
  unfold State.flopInit
  by_cases huses : bit (s.leSlot d X Y c i) (if b then 61 else 60) = true
  · by_cases hkey : j = i ∧ b' = b
    · obtain ⟨rfl, rfl⟩ := hkey
      simp [huses]
    · simp only [huses, if_true, and_true, if_neg hkey]
      exact SMap.read_write_other _ _ _ _ (mt flopKey_inj.1 hkey)
  · simp [huses]

theorem State.clusterInit_succ (s : State) (d X Y c n : Nat) : s.clusterInit d X Y c (n + 1) =
    ((s.clusterInit d X Y c n).flopInit d X Y c n false).flopInit d X Y c n true := by
  simp [State.clusterInit, forEach, List.range_succ]

/-- Only the flops change. -/
theorem State.clusterInit_frame (s : State) (d X Y c n : Nat) : (s.clusterInit d X Y c n).regs = s.regs ∧
    (s.clusterInit d X Y c n).fabric = { s.fabric with flops := (s.clusterInit d X Y c n).fabric.flops } := by
  induction n with
  | zero => exact ⟨rfl, rfl⟩
  | succ n ih =>
    obtain ⟨hregs, hfabric⟩ := ih
    rw [State.clusterInit_succ]
    refine ⟨by rw [State.flopInit_regs, State.flopInit_regs, hregs], ?_⟩
    rw [State.flopInit_fabric, State.flopInit_fabric, hfabric]

/-- The flops that use the SR take `INIT`, the others hold. -/
theorem State.clusterInit_read (s : State) (d X Y c n j : Nat) (b : Bool) :
    SMap.read false (s.clusterInit d X Y c n).fabric.flops (flopKey d X Y c j b) =
      if j < n ∧ bit (s.leSlot d X Y c j) (if b then 61 else 60) = true then bit (s.leSlot d X Y c j) (if b then 55 else 54)
      else SMap.read false s.fabric.flops (flopKey d X Y c j b) := by
  induction n with
  | zero => simp [State.clusterInit, forEach]
  | succ n ih =>
    have hslot (u : State) (b' : Bool) : (u.flopInit d X Y c n b').leSlot d X Y c n = u.leSlot d X Y c n :=
      State.leSlot_of_frames (by rw [State.flopInit_fabric]) d X Y c n
    have hstart : (s.clusterInit d X Y c n).leSlot d X Y c n = s.leSlot d X Y c n :=
      State.leSlot_of_frames (by rw [(s.clusterInit_frame d X Y c n).2]) d X Y c n
    rw [State.clusterInit_succ, State.flopInit_read, State.flopInit_read, hslot, hstart, ih]
    rcases Nat.lt_trichotomy j n with hlt | rfl | hgt
    · simp [hlt.ne, hlt, Nat.lt_succ_of_lt hlt]
    · cases b <;> simp
    · simp [hgt.ne', Nat.not_lt.2 hgt.le, Nat.not_lt.2 (Nat.succ_le_of_lt hgt)]

/-- What the command makes: a free value is taken, and a cluster whose asynchronous SR is 1 is initialised. -/
theorem State.asyncSr_eq (s : State) (d sec t c : Nat) : s.asyncSr d sec t c =
    if bit (s.clusterCtl d (tileX sec t) (tileY sec t) c) 4 && s.clusterSR d (tileX sec t) (tileY sec t) c then
      s.took.clusterInit d (tileX sec t) (tileY sec t) c 16
    else s.took := by
  have hstep (i : Nat) (u : State) : (u.flopInit d (tileX sec t) (tileY sec t) c i false).leSlot d (tileX sec t) (tileY sec t) c i =
      u.leSlot d (tileX sec t) (tileY sec t) c i := State.leSlot_of_frames (by rw [State.flopInit_fabric]) _ _ _ _ _
  unfold State.asyncSr State.clusterInit
  refine if_congr Iff.rfl (congrArg (forEach (List.range 16) · s.took) (funext fun i => funext fun u => ?_)) rfl
  rw [State.flopInit, hstep]
  rfl

theorem srAsyncAssert_completes {sec t : Nat} (hc : isCluster d sec t c = true) :
    Completes (.srAsyncAssert d sec t c) s (fun u =>
      let X := tileX sec t
      let Y := tileY sec t
      u.fabric.wires = s.fabric.wires ∧ u.fabric.frames = s.fabric.frames ∧ u.regs = s.regs ∧
      (bit (s.clusterCtl d X Y c) 4 = true → s.clusterSR d X Y c = true → ∀ i < 16, ∀ b : Bool,
        SMap.read false u.fabric.flops (flopKey d X Y c i b) =
          if bit (s.leSlot d X Y c i) (if b then 61 else 60) then bit (s.leSlot d X Y c i) (if b then 55 else 54)
          else SMap.read false s.fabric.flops (flopKey d X Y c i b)) ∧
      (bit (s.clusterCtl d X Y c) 4 = false ∨ s.clusterSR d X Y c = false → u.fabric.flops = s.fabric.flops)) := by
  refine completes_of_onPart rfl hc ?_
  rw [State.asyncSr_eq]
  by_cases hsr : (bit (s.clusterCtl d (tileX sec t) (tileY sec t) c) 4 && s.clusterSR d (tileX sec t) (tileY sec t) c) = true
  · rw [if_pos hsr]
    obtain ⟨hregs, hfabric⟩ := s.took.clusterInit_frame d (tileX sec t) (tileY sec t) c 16
    have hon := Bool.and_eq_true_iff.1 hsr
    refine ⟨by rw [hfabric]; rfl, by rw [hfabric]; rfl, hregs, fun _ _ i hi b => ?_, fun hoff => ?_⟩
    · refine (s.took.clusterInit_read d (tileX sec t) (tileY sec t) c 16 i b).trans ?_
      simp [hi, State.leSlot_of_frames (s := s) (t := s.took) rfl]
    · rcases hoff with h | h <;> simp [h] at hon
  · rw [if_neg hsr]
    exact ⟨rfl, rfl, rfl, fun h4 h => absurd (by rw [h4, h]; rfl) hsr, fun _ => rfl⟩

end Sys2Proof.Machine

namespace Sys2Proof

open Machine

/-- Settles O14: the branches of `flopNext`, and the flops of a cluster initialised one LE after another. -/
theorem flopControlsHaveTheirPriority : Obligations.FlopControlsHaveTheirPriority := by
  unfold Obligations.FlopControlsHaveTheirPriority
  refine ⟨fun s d X Y c i b late => ⟨State.flopNext_of_sr, fun hsr hlate huses hce => ?_⟩, fun s d sec t c hc => srAsyncAssert_completes hc⟩
  rw [hlate]
  exact State.flopNext_of_no_ce hsr huses hce

end Sys2Proof
end

section
/-! SUPPORT. Tile frames (R84, R107, R430): what the controller's write of one frame makes of a sector outside a load. -/

namespace Sys2Proof.Machine

variable {s : State} {d sec t f : Nat} {x : BitVec 1024}

/-- Outside a load no load fails. -/
theorem State.bootFail_of_idle (hreload : s.boot.reload = none) (hrunning : s.boot.running = false) (reason die at_ : Nat) :
    s.bootFail reason die at_ = s := by
  simp [State.bootFail, hreload, hrunning]

section
variable (hreload : s.boot.reload = none) (hrunning : s.boot.running = false)
include hreload hrunning

/-- A frame for a released sector is captured (R107). -/
theorem State.tileFrame_of_released (hgsr : s.gsrActive d sec = false) :
    s.tileFrame d sec t f x = s.capture (Pg.sctl d sec) 0x8 .config 0 := by
  have hidle (reason die at_ : Nat) : (s.capture (Pg.sctl d sec) 0x8 .config 0).bootFail reason die at_ =
      s.capture (Pg.sctl d sec) 0x8 .config 0 := State.bootFail_of_idle (by simp [hreload]) (by simp [hrunning]) _ _ _
  simp [State.tileFrame, State.writeTileFrame, hgsr, hidle]

/-- A frame that gives a wire two drivers is rejected (R84, R430). -/
theorem State.tileFrame_of_contention (ht : t < 128) (hgsr : s.gsrActive d sec = true)
    (hbad : frameContention f x.toNat = true ∨ s.trackContention d sec t f x.toNat = true) : s.tileFrame d sec t f x = s := by
  have hidle := State.bootFail_of_idle hreload hrunning
  by_cases htrack : s.trackContention d sec t f x.toNat = true
  · simp [State.tileFrame, hgsr, htrack, hidle]
  · have hframe : frameContention f x.toNat = true := hbad.resolve_right htrack
    simp [State.tileFrame, State.writeTileFrame, hgsr, htrack, ht, hframe, hidle]

end

/-- Any other frame is written. -/
theorem State.tileFrame_of_good (hgsr : s.gsrActive d sec = true) (hframe : frameContention f x.toNat = false)
    (htrack : s.trackContention d sec t f x.toNat = false) :
    s.tileFrame d sec t f x = (s.putFrame d sec t f x).auditRestart d sec := by
  simp [State.tileFrame, State.writeTileFrame, hgsr, hframe, htrack]

end Sys2Proof.Machine

namespace Sys2Proof

open Machine

/-- Settles O15: a released sector captures, two drivers are rejected, any other frame is written at its key alone. -/
theorem tileFramesAreWrittenWholeOrNotAtAll : Obligations.TileFramesAreWrittenWholeOrNotAtAll := by
  unfold Obligations.TileFramesAreWrittenWholeOrNotAtAll
  intro s d sec t f x hsec ht hf hreload hrunning
  refine completes_of_onPart rfl (by simp [hsec, ht, hf]) ⟨fun hgsr hbad => ?_, fun hgsr hframe htrack => ?_, fun hgsr => ?_⟩
  · rw [State.tileFrame_of_contention hreload hrunning ht hgsr hbad]
  · rw [State.tileFrame_of_good hgsr hframe htrack]
    exact ⟨SMap.read_write_same _ _ _ _, fun k hk => SMap.read_write_other _ _ _ _ hk⟩
  · rw [State.tileFrame_of_released hreload hrunning hgsr]
    exact ⟨s.capture_fabric _ _ _ _, s.capture_captures _ 0x8 _ (by decide) (by decide)⟩

end Sys2Proof
end
section
/-! SUPPORT. Which registers an operation can change, as a set of bit addresses: the books that every event, warning and ledger entry is
entered in (R527, R561, R565) are the registers of three pages, so that no register of a port is one of theirs. -/

namespace Sys2Proof.Machine

open Reg

/-! ## Keys of fields -/

/-- A field lies in one word of its page, and its elements in words of their own. -/
def RegField.inWords (f : RegField) : Bool := f.off % 4 = 0 && f.stride % 4 = 0 && 4 ≤ f.stride && f.lo < 32

/-- No element of one field has the place of an element of the other: another bit, other words, or other words of the same records. -/
def RegField.apart (f g : RegField) : Bool :=
  f.inWords && g.inWords && (f.lo ≠ g.lo || f.off + f.count * f.stride ≤ g.off || g.off + g.count * g.stride ≤ f.off ||
    (f.stride = g.stride && f.off % f.stride ≠ g.off % g.stride))

theorem fieldKey_mod {p i : Nat} {f : RegField} (hf : f.inWords = true) : fieldKey p f i % 32 = f.lo := by
  simp only [RegField.inWords, Bool.and_eq_true, decide_eq_true_eq] at hf
  obtain ⟨⟨⟨hoff, hstride⟩, -⟩, hlo⟩ := hf
  obtain ⟨a, ha⟩ := Nat.dvd_of_mod_eq_zero hoff
  obtain ⟨b, hb⟩ := Nat.dvd_of_mod_eq_zero hstride
  unfold fieldKey
  rw [ha, hb, show i * (4 * b) = 4 * (i * b) by ring]
  omega

/-- Fields at other bits of a word have other keys, whatever their pages and elements. -/
theorem fieldKey_ne_of_bit {p q i j : Nat} {f g : RegField} (hf : f.inWords = true) (hg : g.inWords = true) (h : f.lo ≠ g.lo) :
    fieldKey p f i ≠ fieldKey q g j := fun he => h (by rw [← fieldKey_mod (p := p) (i := i) hf, he, fieldKey_mod hg])

theorem fieldKey_ne_of_words {p i j : Nat} {f g : RegField} (hf : f.inWords = true) (hi : i < f.count)
    (h : f.off + f.count * f.stride ≤ g.off) : fieldKey p f i ≠ fieldKey p g j := by
  simp only [RegField.inWords, Bool.and_eq_true, decide_eq_true_eq] at hf
  have hend : (i + 1) * f.stride ≤ f.count * f.stride := Nat.mul_le_mul_right _ hi
  rw [Nat.add_mul, one_mul] at hend
  refine fieldKey_ne ?_
  have hplace := Nat.zero_le (j * g.stride)
  omega

theorem fieldKey_ne_of_apart {p i j : Nat} {f g : RegField} (h : f.apart g = true) (hi : i < f.count) (hj : j < g.count) :
    fieldKey p f i ≠ fieldKey p g j := by
  simp only [RegField.apart, Bool.and_eq_true, Bool.or_eq_true, decide_eq_true_eq, or_assoc] at h
  obtain ⟨⟨hf, hg⟩, hlo | hbefore | hafter | ⟨hstride, hoff⟩⟩ := h
  · exact fieldKey_ne_of_bit hf hg hlo
  · exact fieldKey_ne_of_words hf hi hbefore
  · exact (fieldKey_ne_of_words hg hj hafter).symm
  · by_cases hlo : f.lo = g.lo
    · refine fieldKey_ne fun he => hoff ?_
      have hplace : f.off + i * f.stride = g.off + j * g.stride := by omega
      rw [← Nat.add_mul_mod_self_right f.off i, hplace, hstride, Nat.add_mul_mod_self_right]
    · exact fieldKey_ne_of_bit hf hg hlo

/-- A field as every page table has it: all its elements lie in the page. -/
def RegField.inPage (f : RegField) : Bool := f.inWords && f.off + f.count * f.stride ≤ 4096

theorem RegField.inPage_lt {f : RegField} {i : Nat} (h : f.inPage = true) (hi : i < f.count) :
    (f.off + i * f.stride) * 8 + f.lo < 32768 := by
  simp only [RegField.inPage, RegField.inWords, Bool.and_eq_true, decide_eq_true_eq] at h
  have hend : (i + 1) * f.stride ≤ f.count * f.stride := Nat.mul_le_mul_right _ hi
  rw [Nat.add_mul, one_mul] at hend
  omega

theorem fieldKey_page {p i : Nat} {f : RegField} (h : f.inPage = true) (hi : i < f.count) : fieldKey p f i / 32768 = p := by
  have := RegField.inPage_lt h hi
  unfold fieldKey
  omega

theorem fieldKey_ne_of_pages {p q i j : Nat} {f g : RegField} (hf : f.inPage = true) (hi : i < f.count) (hg : g.inPage = true) (hj : j < g.count)
    (h : p ≠ q) : fieldKey p f i ≠ fieldKey q g j := fun he => h (by
  rw [← fieldKey_page (p := p) hf hi, he, fieldKey_page hg hj])

theorem le_fieldKey_page (p : Nat) (f : RegField) (i : Nat) : p ≤ fieldKey p f i / 32768 := by
  unfold fieldKey
  generalize i * f.stride = a
  omega

/-! ## Changes within a set of keys -/

/-- From `s` to `t` no register outside a set of bit addresses changes. -/
def ChangesIn (a : Nat → Prop) (s t : State) : Prop := ∀ p f i, ¬a (fieldKey p f i) → t.get p f i = s.get p f i

namespace ChangesIn

variable {a b : Nat → Prop} {s t u : State}

theorem refl (a : Nat → Prop) (s : State) : ChangesIn a s s := fun _ _ _ _ => rfl

theorem of_regs (a : Nat → Prop) (h : t.regs = s.regs) : ChangesIn a s t := fun p f i _ => State.get_of_regs h p f i

theorem trans (h : ChangesIn a s t) (h' : ChangesIn a t u) : ChangesIn a s u :=
  fun p f i hk => (h' p f i hk).trans (h p f i hk)

theorem mono (h : ChangesIn a s t) (hab : ∀ k, a k → b k) : ChangesIn b s t := fun p f i hk => h p f i (fun ha => hk (hab _ ha))

theorem set {p : Nat} {f : RegField} {i : Nat} (s : State) (v : Nat) (h : a (fieldKey p f i)) : ChangesIn a s (s.set p f v i) := by
  intro q g j hk
  refine State.get_set_other s v (fun he => hk ?_)
  rwa [he]

theorem ite {c : Prop} [Decidable c] (h : c → ChangesIn a s t) (h' : ¬c → ChangesIn a s u) : ChangesIn a s (if c then t else u) := by
  split
  case isTrue hc => exact h hc
  case isFalse hc => exact h' hc

theorem forEach {α : Type} {xs : List α} {f : α → State → State} (h : ∀ x ∈ xs, ∀ u, ChangesIn a u (f x u)) (s : State) :
    ChangesIn a s (forEach xs f s) := by
  induction xs generalizing s with
  | nil => exact refl a s
  | cons x xs ih => exact (h x (by simp) s).trans (ih (fun y hy => h y (by simp [hy])) _)

end ChangesIn

/-! ## The books -/

/-- The registers that an event's record may change: the recorder and Ply pages. -/
def InRecords (k : Nat) : Prop := k / 32768 = Pg.recorder ∨ k / 32768 = Pg.ply

/-- The registers that an event, a warning or a ledger entry may change: those of records and the safety page. -/
def InBooks (k : Nat) : Prop := k / 32768 = Pg.safety ∨ InRecords k

theorem inRecords_of {p : Nat} {f : RegField} (hf : f.inPage = true) (hi : 0 < f.count) (hp : p = Pg.recorder ∨ p = Pg.ply) :
    InRecords (fieldKey p f 0) := by
  rwa [InRecords, fieldKey_page hf hi]

theorem inBooks_of {p : Nat} {f : RegField} (hf : f.inPage = true) (hi : 0 < f.count) (hp : p = Pg.safety ∨ p = Pg.recorder ∨ p = Pg.ply) :
    InBooks (fieldKey p f 0) := by
  rwa [InBooks, InRecords, fieldKey_page hf hi]

theorem not_inBooks {p : Nat} (f : RegField) (i : Nat) (hp : Pg.ply < p) : ¬InBooks (fieldKey p f i) := by
  have := le_fieldKey_page p f i
  simp only [InBooks, InRecords, Pg.safety, Pg.recorder, Pg.ply] at *
  omega

section
variable (s : State)

theorem State.plyPumped_records (p : Nat) (x : PlyPort) : ChangesIn InRecords s (s.plyPumped p x) :=
  ChangesIn.ite (fun _ => (ChangesIn.of_regs (t := { s with ply := _ }) _ rfl).trans
    (ChangesIn.set _ _ (inRecords_of (by decide) (by decide) (by decide)))) (fun _ => ChangesIn.of_regs _ rfl)

theorem State.plySend_records (p : Nat) (f : PlyFrame) : ChangesIn InRecords s (s.plySend p f) := by
  unfold State.plySend
  split
  · exact s.plyPumped_records _ _
  · exact ChangesIn.refl _ s

theorem State.plyReport_records (r : EvRec) : ChangesIn InRecords s (s.plyReport r) :=
  ChangesIn.ite (fun _ => s.plySend_records _ _) (fun _ => ChangesIn.refl _ s)

theorem State.stageRec_records (c v n p : Nat) (w : Bool) (b : List Byte) : ChangesIn InRecords s (s.stageRec c v n p w b) := by
  refine ChangesIn.ite (fun _ => ?_) (fun _ => ?_)
  · exact ((ChangesIn.set s _ (inRecords_of (by decide) (by decide) (by decide))).trans (State.plyReport_records _ _)).trans
      (ChangesIn.of_regs _ rfl)
  · exact ((ChangesIn.set s _ (inRecords_of (by decide) (by decide) (by decide))).trans
      (ChangesIn.set _ _ (inRecords_of (by decide) (by decide) (by decide)))).trans (ChangesIn.of_regs _ rfl)

theorem State.storeRec_records (c v n p : Nat) (w : Bool) (b : List Byte) : ChangesIn InRecords s (s.storeRec c v n p w b) :=
  ChangesIn.ite (fun _ => (s.stageRec_records c v n p w b).trans (State.stageRec_records _ _ _ _ _ _ _))
    (fun _ => s.stageRec_records c v n p w b)

theorem State.event_records (c v p d : Nat) : ChangesIn InRecords s (s.event c v p d) :=
  ChangesIn.ite (fun _ => (s.storeRec_records _ _ _ _ _ _).trans (ChangesIn.of_regs _ rfl))
    (fun _ => ChangesIn.ite (fun _ => ChangesIn.of_regs _ rfl) (fun _ => (s.storeRec_records _ _ _ _ _ _).trans (ChangesIn.of_regs _ rfl)))

theorem State.event_books (c v p d : Nat) : ChangesIn InBooks s (s.event c v p d) := (s.event_records c v p d).mono fun _ => Or.inr

theorem State.warn_books {f : RegField} (hf : f.inPage = true) (hi : 0 < f.count) : ChangesIn InBooks s (s.warn f) :=
  ChangesIn.ite (fun _ => ChangesIn.refl _ s) (fun _ => (ChangesIn.set s 1 (inBooks_of hf hi (by decide))).trans
    (ChangesIn.set _ _ (inBooks_of (by decide) (by decide) (by decide))))

theorem State.history_books (kind page location what : Nat) : ChangesIn InBooks s (s.history kind page location what) := by
  have hset {f : RegField} (u : State) (v : Nat) (hf : f.inPage = true) (hi : 0 < f.count) : ChangesIn InBooks u (u.set Pg.safety f v) :=
    ChangesIn.set u v (inBooks_of hf hi (by decide))
  refine (ChangesIn.of_regs _ s.ledgerUpdate_regs).trans (ChangesIn.ite (fun _ => hset _ _ (by decide) (by decide)) (fun _ => ?_))
  refine ChangesIn.trans (ChangesIn.of_regs _ (by rfl)) ((hset _ _ (by decide) (by decide)).trans (ChangesIn.ite (fun _ => ?_)
    (fun _ => ChangesIn.refl _ _)))
  exact ((hset _ _ (by decide) (by decide)).trans (hset _ _ (by decide) (by decide))).trans
    ((State.warn_books _ (by decide) (by decide)).trans (State.event_books _ _ _ _ _))

theorem State.historyOnce_books (kind page location what : Nat) : ChangesIn InBooks s (s.historyOnce kind page location what) :=
  ChangesIn.ite (fun _ => ChangesIn.refl _ s) (fun _ => s.history_books _ _ _ _)

end

/-! ## Interrupts that stay raised -/

section
variable {s t : State} {p b : Nat}

theorem Raised.of_changesIn {a : Nat → Prop} (h : Raised s p b) (hst : ChangesIn a s t) (ha : ¬a (fieldKey p Hdr.INT_STATUS_BLOCK 0)) :
    Raised t p b := by
  rwa [Raised, hst _ _ _ ha]

theorem Raised.set {q : Nat} {f : RegField} {v i : Nat} (h : Raised s p b) (hne : fieldKey p Hdr.INT_STATUS_BLOCK 0 ≠ fieldKey q f i) :
    Raised (s.set q f v i) p b := by
  rwa [Raised, State.get_set_other s v hne]

/-- A further event of a page clears no bit. -/
theorem Raised.setInt (h : Raised s p b) (q c : Nat) (hb : b < 32) : Raised (s.setInt q c) p b := by
  by_cases hq : fieldKey p Hdr.INT_STATUS_BLOCK 0 = fieldKey q Hdr.INT_STATUS_BLOCK 0
  · have hpq : p = q := by
      simp only [fieldKey, Hdr.INT_STATUS_BLOCK] at hq
      omega
    subst hpq
    have hw : Hdr.INT_STATUS_BLOCK.width = 16 := rfl
    rw [Raised, bit] at h ⊢
    simp only [State.setInt, State.get_setBits_same, hw, Nat.testBit_mod_two_pow, Nat.testBit_or, h, Bool.true_or, Bool.and_true,
      decide_eq_true_eq]
    omega
  · exact Raised.set h hq

end

end Sys2Proof.Machine
end
section
/-! SUPPORT. What the work on the modules of a port leaves alone (R123, R127 to R130): the port's own state, its split and its attempts, the
hub's hold of the die (R121), and every interrupt that is raised already. -/

namespace Sys2Proof.Machine

open Reg

/-! ## Events of a port -/

/-- The registers that an event of a port may change. -/
def InEvents (d k : Nat) : Prop := InBooks k ∨ k = fieldKey (Pg.port d) Hdr.INT_STATUS_BLOCK 0

theorem not_inEvents {d i : Nat} {f : RegField} (hf : f.apart Hdr.INT_STATUS_BLOCK = true) (hi : i < f.count) :
    ¬InEvents d (fieldKey (Pg.port d) f i) := by
  rintro (h | h)
  · exact not_inBooks f i (by simp only [Pg.ply, Pg.port]; omega) h
  · exact fieldKey_ne_of_apart hf hi (by decide) h

theorem inEvents_of_inBooks {d : Nat} (k : Nat) (h : InBooks k) : InEvents d k := .inl h

section
variable (s : State) (d code sev p wire : Nat) (int : Option Nat) (warns : Bool)

/-- The interrupt of the event, where it has one. -/
def State.portInt : State := match int with
  | some b => s.setInt (Pg.port d) b
  | none => s

theorem State.portEvent_eq : s.portEvent d code sev p wire int warns =
    if warns then ((s.portInt d int).event code sev (Pg.port d) (p * 256 + wire)).warn Safety.SAF_WARN_LOMUM
    else (s.portInt d int).event code sev (Pg.port d) (p * 256 + wire) := rfl

theorem State.portInt_changes : ChangesIn (InEvents d) s (s.portInt d int) := by
  cases int with
  | none => exact ChangesIn.refl _ s
  | some b => exact ChangesIn.set s _ (.inr rfl)

/-- The entries of the event in the books. -/
theorem State.portEvent_books : ChangesIn InBooks (s.portInt d int) (s.portEvent d code sev p wire int warns) := by
  rw [State.portEvent_eq]
  exact ChangesIn.ite (fun _ => (State.event_books _ _ _ _ _).trans (State.warn_books _ (by decide) (by decide)))
    (fun _ => State.event_books _ _ _ _ _)

theorem State.portEvent_changes : ChangesIn (InEvents d) s (s.portEvent d code sev p wire int warns) :=
  (s.portInt_changes d int).trans ((s.portEvent_books d code sev p wire int warns).mono inEvents_of_inBooks)

@[simp] theorem State.portEvent_link : (s.portEvent d code sev p wire int warns).link = s.link := by
  rw [State.portEvent_eq]
  cases int <;> cases warns <;> simp [State.portInt, State.event]

@[simp] theorem State.portEvent_span : (s.portEvent d code sev p wire int warns).span = s.span := by
  rw [State.portEvent_eq]
  cases int <;> cases warns <;> simp [State.portInt, State.event]

theorem not_inBooks_portInt : ¬InBooks (fieldKey (Pg.port d) Hdr.INT_STATUS_BLOCK 0) :=
  not_inBooks _ _ (by simp only [Pg.ply, Pg.port]; omega)

theorem State.portEvent_raises {b : Nat} (h16 : 16 ≤ b) (h32 : b < 32) :
    Raised (s.portEvent d code sev p wire (some b) warns) (Pg.port d) b :=
  Raised.of_changesIn (State.setInt_sets s _ b h16 h32) (s.portEvent_books d code sev p wire (some b) warns) (not_inBooks_portInt d)

end

theorem Raised.portEvent {s : State} {d b : Nat} (h : Raised s (Pg.port d) b) (hb : b < 32) (code sev p wire : Nat) (int : Option Nat)
    (warns : Bool) : Raised (s.portEvent d code sev p wire int warns) (Pg.port d) b := by
  refine Raised.of_changesIn ?_ (s.portEvent_books d code sev p wire int warns) (not_inBooks_portInt d)
  cases int with
  | none => exact h
  | some c => exact Raised.setInt h _ _ hb

/-! ## Work on the modules of a port -/

/-- The registers that the work on the modules of a port writes: the gates of SPAN_CLK (R455), two bits of `STATUS`, and from the words of the
modules upwards every other page. -/
def InWork (d k : Nat) : Prop :=
  k / 32768 = Pg.clock ∨ k = fieldKey (Pg.port d) Port.STATUS_RESERVE_IN_USE 0 ∨ k = fieldKey (Pg.port d) Port.STATUS_DEGRADED 0 ∨
    (Pg.port d * 4096 + 0x100) * 8 ≤ k

/-- From `s` to `t` the modules of a port have been worked on. -/
structure Works (d : Nat) (s t : State) : Prop where
  regs : ChangesIn (fun k => InEvents d k ∨ InWork d k) s t
  raised : ∀ b < 32, Raised s (Pg.port d) b → Raised t (Pg.port d) b

/-- A field of the module words. -/
theorem inWork_module {d : Nat} (f : RegField) (i : Nat) (h : 0x100 ≤ f.off) : InWork d (fieldKey (Pg.port d) f i) := by
  unfold InWork fieldKey
  generalize i * f.stride = a
  omega

namespace Works

variable {d : Nat} {s t u : State}

theorem refl (d : Nat) (s : State) : Works d s s := ⟨ChangesIn.refl _ s, fun _ _ h => h⟩

theorem trans (h : Works d s t) (h' : Works d t u) : Works d s u :=
  ⟨h.regs.trans h'.regs, fun b hb hr => h'.raised b hb (h.raised b hb hr)⟩

theorem of_regs (h : t.regs = s.regs) : Works d s t := ⟨ChangesIn.of_regs _ h, fun _ _ hr => by rwa [Raised, State.get_of_regs h]⟩

theorem of_books (h : ChangesIn InBooks s t) : Works d s t :=
  ⟨h.mono fun _ hk => .inl (.inl hk), fun _ _ hr => Raised.of_changesIn hr h (not_inBooks_portInt d)⟩

theorem portEvent (code sev p wire : Nat) (int : Option Nat) (warns : Bool) (s : State) :
    Works d s (s.portEvent d code sev p wire int warns) :=
  ⟨(s.portEvent_changes d code sev p wire int warns).mono fun _ hk => .inl hk, fun _ hb hr => Raised.portEvent hr hb _ _ _ _ _ _⟩

theorem setInt (b : Nat) (s : State) : Works d s (s.setInt (Pg.port d) b) :=
  ⟨ChangesIn.set s _ (.inl (.inr rfl)), fun _ hc hr => Raised.setInt hr _ _ hc⟩

theorem set {p : Nat} {f : RegField} {i : Nat} (v : Nat) (h : InWork d (fieldKey p f i)) (s : State) : Works d s (s.set p f v i) := by
  refine ⟨ChangesIn.set s v (.inr h), fun _ _ hr => Raised.set hr fun he => ?_⟩
  rw [← he] at h
  simp only [InWork, fieldKey, Pg.port, Pg.clock, Port.STATUS_RESERVE_IN_USE, Port.STATUS_DEGRADED, Hdr.INT_STATUS_BLOCK] at h
  omega

/-- A field of the module words is written. -/
theorem setModule (f : RegField) (v i : Nat) (s : State) (h : 0x100 ≤ f.off := by decide) : Works d s (s.set (Pg.port d) f v i) :=
  Works.set v (inWork_module f i h) s

/-- A register of a die is written. -/
theorem setDie {p : Nat} {f : RegField} {i : Nat} (v : Nat) (hp : 0x1000 ≤ p) (hd : d ≤ 6) (s : State) : Works d s (s.set p f v i) := by
  refine Works.set v ?_ s
  have := le_fieldKey_page p f i
  unfold InWork Pg.port
  omega

theorem ite {c : Prop} [Decidable c] (h : c → Works d s t) (h' : ¬c → Works d s u) : Works d s (if c then t else u) := by
  split
  case isTrue hc => exact h hc
  case isFalse hc => exact h' hc

theorem forEach {α : Type} {xs : List α} {f : α → State → State} (h : ∀ x ∈ xs, ∀ u, Works d u (f x u)) (s : State) :
    Works d s (forEach xs f s) := by
  induction xs generalizing s with
  | nil => exact refl d s
  | cons x xs ih => exact (h x (by simp) s).trans (ih (fun y hy => h y (by simp [hy])) _)

end Works

/-- The words of a port that the work on its modules leaves alone. -/
theorem Works.get {d : Nat} {s t : State} (h : Works d s t) {f : RegField}
    (hf : f ∈ [Port.CTL_SPLIT, Port.STATUS_STATE, Port.STATUS_ATTEMPTS, Port.STATUS_SB_FAULT]) : t.get (Pg.port d) f = s.get (Pg.port d) f := by
  have hplace : ∀ f ∈ [Port.CTL_SPLIT, Port.STATUS_STATE, Port.STATUS_ATTEMPTS, Port.STATUS_SB_FAULT], f.apart Hdr.INT_STATUS_BLOCK = true ∧ 0 < f.count ∧
      f.apart Port.STATUS_RESERVE_IN_USE = true ∧ f.apart Port.STATUS_DEGRADED = true ∧ f.off * 8 + f.lo < 0x800 := by decide
  obtain ⟨hint, hcount, hreserve, hdegraded, hlo⟩ := hplace f hf
  refine h.regs _ _ _ ?_
  rintro (hk | hk | hk | hk | hk)
  · exact not_inEvents hint hcount hk
  · simp only [fieldKey, Pg.port, Pg.clock] at hk
    omega
  · exact fieldKey_ne_of_apart hreserve hcount (by decide) hk
  · exact fieldKey_ne_of_apart hdegraded hcount (by decide) hk
  · simp only [fieldKey] at hk
    omega

/-- The hub holds the dies that it held. -/
theorem Works.held {d : Nat} {s t : State} (h : Works d s t) : t.get Pg.reset Reset.RST_DIE_STAT_HELD = s.get Pg.reset Reset.RST_DIE_STAT_HELD := by
  refine h.regs _ _ _ fun hk => ?_
  simp only [InEvents, InBooks, InRecords, InWork, fieldKey, Pg.port, Pg.clock, Pg.reset, Pg.safety, Pg.recorder, Pg.ply, Port.STATUS_RESERVE_IN_USE,
    Port.STATUS_DEGRADED, Hdr.INT_STATUS_BLOCK, Reset.RST_DIE_STAT_HELD] at hk
  omega

end Sys2Proof.Machine
end
section
/-! SUPPORT. The work on the modules of a port, operation by operation (R122, R123, R127 to R130): each of them leaves the port's own state alone. -/

namespace Sys2Proof.Machine

open Reg

variable (s : State)

/-! ## Maps -/

theorem State.putMap_works (d p dir mask assign : Nat) : Works d s (s.putMap (Pg.port d) p dir mask assign) :=
  (((Works.setModule _ _ _ _).trans (Works.setModule _ _ _ _)).trans (Works.setModule _ _ _ _)).trans (Works.setModule _ _ _ _)

theorem State.storeMap_works (d p dir mask assign : Nat) : Works d s (s.storeMap d p dir mask assign) :=
  (s.putMap_works d p dir mask assign).trans (Works.ite (fun _ => Works.setModule _ _ _ _) (fun _ => Works.setModule _ _ _ _))

theorem State.retireWire_works (d p dir w : Nat) : Works d s (s.retireWire d p dir w) :=
  (s.storeMap_works _ _ _ _ _).trans (Works.of_books (State.history_books _ _ _ _ _))

theorem State.abandonSwaps_works (d : Nat) : Works d s (s.abandonSwaps d) := by
  unfold State.abandonSwaps
  refine Works.trans (Works.of_regs (by rfl)) (Works.forEach (fun p _ t => ?_) _)
  exact Works.trans (Works.of_regs (by rfl)) (Works.forEach (fun w _ u => Works.ite (fun _ => u.retireWire_works d p w.1 w.2)
    (fun _ => Works.refl d u)) _)

/-! ## Roles and states of modules -/

theorem State.setModState_works (d p v : Nat) : Works d s (s.setModState d p v) := Works.setModule _ _ _ _

theorem State.setRoles_works (d : Nat) : Works d s (s.setRoles d) :=
  Works.forEach (fun _ _ _ => Works.ite (fun _ => Works.setModule _ _ _ _) (fun _ => Works.setModule _ _ _ _)) _

theorem inWork_reserve (d : Nat) : InWork d (fieldKey (Pg.port d) Port.STATUS_RESERVE_IN_USE 0) := Or.inr (Or.inl rfl)

theorem inWork_degraded (d : Nat) : InWork d (fieldKey (Pg.port d) Port.STATUS_DEGRADED 0) := Or.inr (Or.inr (Or.inl rfl))

/-- The registers of the modules as a move to the reserve leaves them (R128). -/
def State.moduleMoved (d p : Nat) : State :=
  ((((s.set (Pg.port d) Port.LMH_MOD_LOGICAL (s.modLogical d p) (reserveOf d)).setModState d (reserveOf d) 2).set (Pg.port d)
    Port.LMH_MOD_ROLE 3 p).setModState d p 0).set (Pg.port d) Port.STATUS_RESERVE_IN_USE 1

/-- What the hub holds of the modules after the move: the copy has ended. -/
def State.linkMoved (d p : Nat) : LinkState :=
  { (s.setLinkMod d p {}).link with
    move := SMap.write none s.link.move d none, background := SMap.write 0 s.link.background d 0 }

theorem State.moveTo_eq (d p : Nat) : s.moveTo d p = (State.history { s.moduleMoved d p with link := s.linkMoved d p } 3 (Pg.port d)
    (s.modLogical d p) (reserveOf d)).portEvent d 0x1004 3 p 0xFF (some Port.INT_RESERVE_USED) true := rfl

theorem State.moveTo_changes (d p : Nat) : ChangesIn (InEvents d) (s.moduleMoved d p) (s.moveTo d p) := by
  rw [State.moveTo_eq]
  exact (ChangesIn.trans (ChangesIn.of_regs _ (by rfl)) ((State.history_books _ _ _ _ _).mono inEvents_of_inBooks)).trans
    (State.portEvent_changes _ _ _ _ _ _ _ _)

theorem State.moduleMoved_works (d p : Nat) : Works d s (s.moduleMoved d p) :=
  ((((Works.setModule _ _ _ _).trans (State.setModState_works _ _ _ _)).trans (Works.setModule _ _ _ _)).trans
    (State.setModState_works _ _ _ _)).trans (Works.set _ (inWork_reserve d) _)

theorem State.moveTo_works (d p : Nat) : Works d s (s.moveTo d p) := by
  rw [State.moveTo_eq]
  exact ((s.moduleMoved_works d p).trans (Works.of_regs (by rfl))).trans
    ((Works.of_books (State.history_books _ _ _ _ _)).trans (Works.portEvent _ _ _ _ _ _ _))

theorem State.reserveLost_works (d : Nat) : Works d s (s.reserveLost d) := by
  unfold State.reserveLost
  exact Works.trans (Works.of_regs (by rfl)) (((State.setModState_works _ _ _ _).trans (Works.setInt _ _)).trans (Works.portEvent _ _ _ _ _ _ _))

/-! ## Loss of crossing service (R130) -/

/-- The registers that a forced HOLD and the gates it closes change: those of the clock page and of the dies. -/
def OnGates (k : Nat) : Prop := k / 32768 = Pg.clock ∨ 0x1000 ≤ k / 32768

/-- The registers of the clock page. -/
def OnClock (k : Nat) : Prop := k / 32768 = Pg.clock

theorem onClock_of {f : RegField} {i : Nat} (hf : f.inPage = true) (hi : i < f.count) : OnClock (fieldKey Pg.clock f i) :=
  fieldKey_page hf hi

theorem onGates_die {p : Nat} (f : RegField) (i : Nat) (hp : 0x1000 ≤ p) : OnGates (fieldKey p f i) :=
  Or.inr (hp.trans (le_fieldKey_page p f i))

theorem Works.of_gates {s t : State} {d : Nat} (hd : d ≤ 6) (h : ChangesIn OnGates s t) : Works d s t := by
  refine ⟨h.mono fun k hk => Or.inr ?_, fun _ _ hr => Raised.of_changesIn hr h fun hk => ?_⟩
  · simp only [OnGates, InWork, Pg.port] at hk ⊢
    omega
  · simp only [OnGates, fieldKey, Pg.port, Pg.clock, Hdr.INT_STATUS_BLOCK] at hk
    omega

theorem le_xport {d : Nat} (h : 1 ≤ d) : 0x1000 ≤ Pg.xport d := by
  unfold Pg.xport Pg.dieBase
  split_ifs <;> omega

theorem spanStoppedField_inPage (d : Nat) : (State.spanStoppedField d).inPage = true ∧ (State.spanStoppedField d).count = 3 := by
  unfold State.spanStoppedField
  split_ifs <;> decide

theorem State.closeGate_changes (d : Nat) {r : Nat} (hr : r < 96) : ChangesIn OnClock s (s.closeGate d r) := by
  obtain ⟨hpage, hcount⟩ := spanStoppedField_inPage d
  refine ChangesIn.trans (ChangesIn.ite (fun _ => ?_) fun _ => ?_) (ChangesIn.set _ _ (onClock_of (by decide) (by decide)))
  · exact ChangesIn.set s _ (onClock_of hpage (by omega))
  · exact ChangesIn.set s _ (onClock_of (by decide) (by decide))

/-- HOLD is forced before the gates close. -/
def State.holdForced (d m : Nat) : State :=
  (s.setBit (Pg.xport d) Xport.STATUS_FORCED_HOLD m true).setInt (Pg.xport d) Xport.INT_FORCED_HOLD

/-- The gates that a forced HOLD closes are on the clock page. -/
theorem State.forceHold_gates (d m : Nat) : ChangesIn OnClock (s.holdForced d m) (s.forceHold d m) := by
  refine ChangesIn.forEach (fun r hr u => u.closeGate_changes d ?_) _
  have hlt := List.mem_range.1 (List.mem_filter.1 hr).1
  split at hlt <;> omega

theorem State.forceHold_changes {d : Nat} (hd : 1 ≤ d) (m : Nat) : ChangesIn OnGates s (s.forceHold d m) :=
  ((ChangesIn.set s _ (onGates_die _ _ (le_xport hd))).trans (ChangesIn.set _ _ (onGates_die _ _ (le_xport hd)))).trans
    ((s.forceHold_gates d m).mono fun _ => Or.inl)

theorem State.fedBy_die {d m dir : Nat} {em : Nat × Nat} (hd : 1 ≤ d) (h : em ∈ s.fedBy d m dir) : 1 ≤ em.1 := by
  unfold State.fedBy at h
  split at h
  · simp_all
  · simp only [List.mem_flatMap, List.mem_map] at h
    obtain ⟨e, he, n, -, rfl⟩ := h
    revert he
    simp
    omega

/-- The destinations of a module direction held, before the loss is entered in the books. -/
def State.destinationsHeld (d m dir : Nat) : State :=
  forEach (s.fedBy d m dir) (fun em u => u.forceHold em.1 em.2)
    { s with link := { s.link with lost := SMap.write false s.link.lost (spanDirKey d m dir) true } }

theorem State.destinationsHeld_changes {d : Nat} (hd : 1 ≤ d) (m dir : Nat) : ChangesIn OnGates s (s.destinationsHeld d m dir) :=
  (ChangesIn.of_regs (t := { s with link := _ }) _ rfl).trans
    (ChangesIn.forEach (fun _ hem u => u.forceHold_changes (s.fedBy_die hd hem) _) _)

theorem State.fatal_books {f : RegField} (hf : f.inPage = true) (hi : 0 < f.count) (code page : Nat) :
    ChangesIn InBooks s (s.fatal f code page) := by
  have hset {g : RegField} (u : State) (v : Nat) (hg : g.inPage = true) (hj : 0 < g.count) : ChangesIn InBooks u (u.set Pg.safety g v) :=
    ChangesIn.set u v (inBooks_of hg hj (by decide))
  exact (ChangesIn.ite (fun _ => (hset s _ (by decide) (by decide)).trans (hset _ _ (by decide) (by decide)))
    (fun _ => ChangesIn.refl _ s)).trans ((hset _ 1 hf hi).trans (hset _ _ (by decide) (by decide)))

/-- A loss that is new holds the destinations, then is fatal and an event of the port. -/
theorem State.crossLost_of_new {d m dir : Nat} (p : Nat) (h : SMap.read false s.link.lost (spanDirKey d m dir) = false) :
    s.crossLost d p m dir = ((s.destinationsHeld d m dir).fatal Safety.SAF_FATAL_CROSS_LOST 0x1005 (Pg.port d)).portEvent d 0x1005 4 p 0xFF
      (some Port.INT_CROSS_LOST) false := by
  unfold State.crossLost
  rw [if_neg (by simp [h])]
  rfl

theorem State.crossLost_cases (d p m dir : Nat) : s.crossLost d p m dir = s ∨
    SMap.read false s.link.lost (spanDirKey d m dir) = false := by
  cases h : SMap.read false s.link.lost (spanDirKey d m dir) with
  | true => exact Or.inl (by simp [State.crossLost, h])
  | false => exact Or.inr rfl

theorem State.crossLost_changes {d : Nat} (hd : 1 ≤ d) (p m dir : Nat) :
    ChangesIn (fun k => InEvents d k ∨ OnGates k) s (s.crossLost d p m dir) := by
  rcases s.crossLost_cases d p m dir with h | h
  · rw [h]
    exact ChangesIn.refl _ s
  · rw [s.crossLost_of_new p h]
    exact (((s.destinationsHeld_changes hd m dir).mono fun _ => Or.inr).trans
      ((State.fatal_books _ (by decide) (by decide) _ _).mono fun k hk => Or.inl (inEvents_of_inBooks k hk))).trans
      ((State.portEvent_changes _ _ _ _ _ _ _ _).mono fun _ => Or.inl)

theorem State.crossLost_works {d : Nat} (hd : isPort d = true) (p m dir : Nat) : Works d s (s.crossLost d p m dir) := by
  obtain ⟨h1, h6⟩ : 1 ≤ d ∧ d ≤ 6 := by simpa [isPort] using hd
  rcases s.crossLost_cases d p m dir with h | h
  · rw [h]
    exact Works.refl d s
  · rw [s.crossLost_of_new p h]
    exact ((Works.of_gates h6 (s.destinationsHeld_changes h1 m dir)).trans
      (Works.of_books (State.fatal_books _ (by decide) (by decide) _ _))).trans (Works.portEvent _ _ _ _ _ _ _)

theorem State.crossingFails_works {d : Nat} (hd : isPort d = true) (p dir : Nat) (planned : Bool) :
    Works d s (s.crossingFails d p dir planned) :=
  Works.ite (fun _ => Works.refl d s) fun _ => Works.ite
    (fun _ => Works.ite (fun _ => (s.setModState_works d p 4).trans (Works.of_regs rfl)) fun _ => s.moveTo_works d p)
    fun _ => s.crossLost_works hd _ _ _

/-! ## Skein modules (R129, R134) -/

theorem State.linkSend_regs (d m dir : Nat) (f : Flit) : (s.linkSend d m dir f).regs = s.regs := rfl

theorem State.moveFlits_regs (d m dir : Nat) : (s.moveFlits d m dir).regs = s.regs := by
  unfold State.moveFlits
  split
  · rfl
  · exact (forEach_keeps State.regs _ (fun f u => u.linkSend_regs d _ dir f) _).trans rfl

theorem State.linkResume_regs (d m dir : Nat) : (s.linkResume d m dir).regs = s.regs := rfl

theorem State.skeinFails_works (d p : Nat) : Works d s (s.skeinFails d p) :=
  (s.setModState_works d p 0).trans (Works.portEvent _ _ _ _ _ _ _)

/-- The flits of modules that are DOWN have gone to another (R134). -/
def State.flitsMoved (d : Nat) (ps : List Nat) : State :=
  forEach ps (fun p u => (u.moveFlits d (u.modLogical d p) 0).moveFlits d (u.modLogical d p) 1) s

theorem State.flitsMoved_regs (d : Nat) (ps : List Nat) : (s.flitsMoved d ps).regs = s.regs :=
  forEach_keeps State.regs ps (fun _ u => ((u.moveFlits d _ 0).moveFlits_regs d _ 1).trans (u.moveFlits_regs d _ 0)) s

theorem State.skeinLast_works (d : Nat) (ps : List Nat) : Works d s (s.skeinLast d ps) := by
  have hmoved : Works d s (s.flitsMoved d ps) := Works.of_regs (s.flitsMoved_regs d ps)
  unfold State.skeinLast
  dsimp only
  split
  · exact hmoved
  · refine Works.ite (fun _ => hmoved) fun _ => hmoved.trans ?_
    exact Works.trans (Works.trans (Works.of_regs (by rfl)) (Works.set _ (inWork_degraded d) _)) (Works.portEvent _ _ _ _ _ _ _)

theorem State.skeinHalf_works (d p : Nat) (dirs : Bool × Bool) : Works d s (s.skeinHalf d p dirs) := by
  unfold State.skeinHalf
  refine Works.trans ?_ (Works.portEvent _ _ _ _ _ _ _)
  refine Works.trans (Works.trans ((s.setModState_works d p 3).trans (Works.of_regs ?_)) (Works.ite (fun _ => ?_) fun _ => Works.refl d _))
    (Works.ite (fun _ => ?_) fun _ => Works.refl d _)
  · rfl
  all_goals exact Works.of_books (State.historyOnce_books _ _ _ _ _)

theorem State.skeinWidth_works (d p : Nat) : Works d s (s.skeinWidth d p) :=
  Works.ite (fun _ => s.setModState_works d p 2) fun _ => Works.ite
    (fun _ => Works.ite (fun _ => Works.refl d s) fun _ => s.skeinHalf_works d p _) fun _ => s.skeinFails_works d p

/-! ## The entry to ACTIVE (R129, R138) -/

theorem State.moduleOutcome_works {d : Nat} (hd : isPort d = true) (p : Nat) : Works d s (s.moduleOutcome d p) :=
  Works.ite (fun _ => Works.ite (fun _ => s.crossingFails_works hd p 0 false) fun _ => Works.ite
    (fun _ => s.crossingFails_works hd p 1 false) fun _ => s.setModState_works d p 2)
    fun _ => Works.ite (fun _ => s.skeinWidth_works d p) fun _ => Works.refl d s

theorem State.reserveOutcome_works {d : Nat} (hd : isPort d = true) : Works d s (s.reserveOutcome d) :=
  Works.ite (fun _ => Works.refl d s) fun _ => Works.ite
    (fun _ => (Works.set _ (inWork_reserve d) s).trans (Works.ite (fun _ => State.setModState_works _ _ _ _)
      fun _ => State.crossingFails_works _ hd _ _ _))
    fun _ => Works.ite (fun _ => s.setModState_works d _ 0) fun _ => Works.ite
      (fun _ => (s.setModState_works d _ 1).trans (Works.of_regs rfl)) fun _ => s.reserveLost_works d

end Sys2Proof.Machine
end
section
/-! SUPPORT. Attempts of a port (R119, R121): how one begins, how it fails, and how the port goes DOWN. -/

namespace Sys2Proof.Machine

open Reg

variable (s : State) (d : Nat)

/-- The words of a port that hold its own state, and the word of the dies' holds, are not each other's. -/
theorem fieldKey_held_ne (f : RegField) (i j : Nat) : fieldKey (Pg.port d) f i ≠ fieldKey Pg.reset Reset.RST_DIE_STAT_HELD 0 ∧
    fieldKey (Pg.port d) f j ≠ fieldKey Pg.reset Reset.RST_DIE_STAT_IN_RESET 0 ∧
    fieldKey (Pg.port d) f i ≠ fieldKey Pg.reset Hdr.INT_STATUS_BLOCK 0 := by
  unfold fieldKey Pg.port Pg.reset Reset.RST_DIE_STAT_HELD Reset.RST_DIE_STAT_IN_RESET Hdr.INT_STATUS_BLOCK
  generalize i * f.stride = a
  generalize j * f.stride = b
  dsimp only
  omega

theorem State.framesLost_regs : (s.framesLost d).regs = s.regs := by
  unfold State.framesLost
  exact forEach_keeps State.regs _ (fun _ _ => by rfl) _

/-! ## The beginning of an attempt -/

/-- An attempt is counted, and the port is in SB_SYNC. -/
def State.attemptCounted : State := ((s.framesLost d).count (Pg.port d) Port.STATUS_ATTEMPTS).set (Pg.port d) Port.STATUS_STATE 1

theorem State.beginAttempt_works : Works d (s.attemptCounted d) (s.beginAttempt d) := by
  unfold State.beginAttempt
  refine Works.trans ((s.attemptCounted d).setRoles_works d) (Works.trans (Works.of_regs ?_) (Works.forEach (fun p _ u => ?_) _))
  · rfl
  · exact Works.trans (u.setModState_works d p 1) (Works.of_regs (by rfl))

theorem State.beginAttempt_state : (s.beginAttempt d).portState d = 1 :=
  ((s.beginAttempt_works d).get (by simp)).trans (State.get_set_same _ _ _ _ _)

theorem State.get_attemptCounted {f : RegField} (h : f.apart Port.STATUS_STATE = true) (h' : f.apart Port.STATUS_ATTEMPTS = true)
    (hi : 0 < f.count) : (s.attemptCounted d).get (Pg.port d) f = s.get (Pg.port d) f := by
  rw [State.attemptCounted, State.get_set_other _ _ (fieldKey_ne_of_apart h hi (by decide)),
    State.get_count_other _ _ (fieldKey_ne_of_apart h' hi (by decide)), State.get_of_regs (s.framesLost_regs d)]

theorem State.beginAttempt_attempts : (s.beginAttempt d).get (Pg.port d) Port.STATUS_ATTEMPTS =
    min (s.get (Pg.port d) Port.STATUS_ATTEMPTS + 1) 7 := by
  rw [(s.beginAttempt_works d).get (by simp), State.attemptCounted,
    State.get_set_other _ _ (fieldKey_ne_of_apart (by decide) (by decide) (by decide)), State.get_count_same,
    State.get_of_regs (s.framesLost_regs d)]
  simp only [satAdd, Port.STATUS_ATTEMPTS, RegField.width]
  omega

theorem State.beginAttempt_split : (s.beginAttempt d).get (Pg.port d) Port.CTL_SPLIT = s.get (Pg.port d) Port.CTL_SPLIT :=
  ((s.beginAttempt_works d).get (by simp)).trans (s.get_attemptCounted d (by decide) (by decide) (by decide))

theorem State.beginAttempt_held : (s.beginAttempt d).get Pg.reset Reset.RST_DIE_STAT_HELD = s.get Pg.reset Reset.RST_DIE_STAT_HELD := by
  rw [(s.beginAttempt_works d).held, State.attemptCounted, State.get_set_other _ _ (fieldKey_held_ne d _ 0 0).1.symm,
    State.get_count_other _ _ (fieldKey_held_ne d _ 0 0).1.symm, State.get_of_regs (s.framesLost_regs d)]

variable {s d} in
theorem State.beginAttempt_raised {b : Nat} (hb : b < 32) (h : Raised s (Pg.port d) b) : Raised (s.beginAttempt d) (Pg.port d) b := by
  refine (s.beginAttempt_works d).raised b hb ?_
  rwa [Raised, s.get_attemptCounted d (by decide) (by decide) (by decide)]

/-! ## A port that goes DOWN -/

/-- The port shows DOWN. -/
def State.downShown : State := (((s.abandonSwaps d).dropFlits d).framesLost d).set (Pg.port d) Port.STATUS_STATE 0

theorem State.portDown_works : Works d (s.downShown d) (s.portDown d) := by
  unfold State.portDown
  refine Works.trans (Works.of_regs ?_) (Works.forEach (fun p _ u => u.setModState_works d p 0) _)
  rfl

theorem State.portDown_state : (s.portDown d).portState d = 0 :=
  ((s.portDown_works d).get (by simp)).trans (State.get_set_same _ _ _ _ _)

variable {s d} in
theorem State.portDown_raised {b : Nat} (hb : b < 32) (h : Raised s (Pg.port d) b) : Raised (s.portDown d) (Pg.port d) b := by
  refine (s.portDown_works d).raised b hb (Raised.set ?_ (fieldKey_ne_of_apart (by decide) (by decide) (by decide)))
  have hswaps := (s.abandonSwaps_works d).raised b hb h
  rwa [Raised, State.get_of_regs (State.framesLost_regs _ d)]

/-- The hub holds the die of a port that has failed four times, before the event is recorded. -/
def State.dieStopped : State :=
  ((((s.portDown d).set (Pg.port d) Port.STATUS_DEGRADED 1).setBit Pg.reset Reset.RST_DIE_STAT_HELD d true).setBit Pg.reset
    Reset.RST_DIE_STAT_IN_RESET d true).setInt Pg.reset Reset.INT_DIE_HELD

theorem State.linkDown_eq : s.linkDown d = (s.dieStopped d).portEvent d 0x1001 3 0 0xFF none true := rfl

theorem State.linkDown_state : (s.linkDown d).portState d = 0 := by
  obtain ⟨hheld, hreset, hint⟩ := fieldKey_held_ne d Port.STATUS_STATE 0 0
  change (s.linkDown d).get (Pg.port d) Port.STATUS_STATE = 0
  rw [State.linkDown_eq, State.portEvent_changes _ _ _ _ _ _ _ _ _ _ _ (not_inEvents (by decide) (by decide)), State.dieStopped,
    State.get_setInt_other _ hint, State.get_setBit_other _ _ _ hreset, State.get_setBit_other _ _ _ hheld,
    State.get_set_other _ _ (fieldKey_ne_of_apart (by decide) (by decide) (by decide))]
  exact s.portDown_state d

variable {s d} in
theorem State.linkDown_held (hd : d < 7) : bit ((s.linkDown d).get Pg.reset Reset.RST_DIE_STAT_HELD) d = true := by
  have hevents : ¬InEvents d (fieldKey Pg.reset Reset.RST_DIE_STAT_HELD 0) := by
    rintro (h | h)
    · rw [InBooks, InRecords, fieldKey_page (by decide) (by decide)] at h
      revert h
      decide
    · exact (fieldKey_held_ne d _ 0 0).1 h.symm
  rw [State.linkDown_eq, State.portEvent_changes _ _ _ _ _ _ _ _ _ _ _ hevents, State.dieStopped,
    State.get_setInt_other _ (fieldKey_ne_of_apart (by decide) (by decide) (by decide)),
    State.get_setBit_other _ _ _ (fieldKey_ne_of_apart (by decide) (by decide) (by decide)), State.bit_get_setBit _ _ _ _ _ _ hd, if_pos rfl]

variable {s d} in
theorem State.linkDown_raised {b : Nat} (hb : b < 32) (h : Raised s (Pg.port d) b) : Raised (s.linkDown d) (Pg.port d) b := by
  obtain ⟨hheld, hreset, -⟩ := fieldKey_held_ne d Hdr.INT_STATUS_BLOCK 0 0
  rw [State.linkDown_eq]
  refine Raised.portEvent (Raised.setInt ?_ _ _ hb) hb _ _ _ _ _ _
  exact Raised.set (Raised.set (Raised.set (State.portDown_raised hb h) (fieldKey_ne_of_apart (by decide) (by decide) (by decide))) hheld) hreset

/-! ## An attempt that fails -/

theorem State.attemptFail_attempts : (s.setInt (Pg.port d) Port.INT_ATTEMPT_FAIL).get (Pg.port d) Port.STATUS_ATTEMPTS =
    s.get (Pg.port d) Port.STATUS_ATTEMPTS := State.get_setInt_other _ (fieldKey_ne_of_apart (by decide) (by decide) (by decide))

variable {s d}

/-- Fewer than four attempts were made: the next begins. -/
theorem State.attemptFail_of_lt (h : s.get (Pg.port d) Port.STATUS_ATTEMPTS < 4) :
    s.attemptFail d = (s.setInt (Pg.port d) Port.INT_ATTEMPT_FAIL).beginAttempt d :=
  if_neg (by rw [State.attemptFail_attempts]; omega)

theorem State.attemptFail_of_le (h : 4 ≤ s.get (Pg.port d) Port.STATUS_ATTEMPTS) :
    s.attemptFail d = (s.setInt (Pg.port d) Port.INT_ATTEMPT_FAIL).linkDown d :=
  if_pos (by rw [State.attemptFail_attempts]; omega)

theorem State.attemptFail_raises : Raised (s.attemptFail d) (Pg.port d) Port.INT_ATTEMPT_FAIL := by
  have hint := s.setInt_sets (Pg.port d) Port.INT_ATTEMPT_FAIL (by decide) (by decide)
  rcases Nat.lt_or_ge (s.get (Pg.port d) Port.STATUS_ATTEMPTS) 4 with h | h
  · rw [State.attemptFail_of_lt h]
    exact State.beginAttempt_raised (by decide) hint
  · rw [State.attemptFail_of_le h]
    exact State.linkDown_raised (by decide) hint

theorem State.attemptFail_held_of_lt (h : s.get (Pg.port d) Port.STATUS_ATTEMPTS < 4) :
    (s.attemptFail d).get Pg.reset Reset.RST_DIE_STAT_HELD = s.get Pg.reset Reset.RST_DIE_STAT_HELD := by
  rw [State.attemptFail_of_lt h, State.beginAttempt_held]
  exact State.get_setInt_other _ (fieldKey_held_ne d _ 0 0).1.symm

/-- No die comes to be held: nothing more happens. -/
theorem State.newlyHeld_of_same {s t : State} (h : t.get Pg.reset Reset.RST_DIE_STAT_HELD = s.get Pg.reset Reset.RST_DIE_STAT_HELD) :
    State.newlyHeld s t = t := by
  unfold State.newlyHeld
  rw [h]
  refine forEach_keeps id _ (fun e u => ?_) t
  cases bit (s.get Pg.reset Reset.RST_DIE_STAT_HELD) e <;> rfl

/-- The failure of an attempt that is not the last holds no die. -/
theorem State.newlyHeld_attemptFail (h : s.get (Pg.port d) Port.STATUS_ATTEMPTS < 4) :
    State.newlyHeld s (s.attemptFail d) = s.attemptFail d := State.newlyHeld_of_same (State.attemptFail_held_of_lt h)

theorem State.newlyHeld_self : State.newlyHeld s s = s := State.newlyHeld_of_same rfl

end Sys2Proof.Machine
end
section
/-! SUPPORT. The records and the stored maps of the modules (R122, R138): what a read returns after each write. -/

namespace Sys2Proof.Machine

open Reg

/-! ## Pairs of directions, and records -/

@[simp] theorem ofDir_putDir {α : Type} (dir : Nat) (v : α) (x : α × α) : ofDir dir (putDir dir v x) = v := by
  unfold ofDir putDir
  split_ifs <;> rfl

theorem isModuleDir_parts {d p dir : Nat} (h : isModuleDir d p dir = true) : isPort d = true ∧ p < portModules d ∧ dir < 2 := by
  simpa [isModuleDir] using h

theorem isPort_range {d : Nat} (h : isPort d = true) : 1 ≤ d ∧ d ≤ 6 := by simpa [isPort] using h

theorem portModules_le (d : Nat) : portModules d ≤ 17 := by
  unfold portModules
  split_ifs <;> omega

theorem isModuleDir_lt {d p dir : Nat} (h : isModuleDir d p dir = true) : p < 17 ∧ 2 * p + dir < 34 := by
  obtain ⟨-, hp, hdir⟩ := isModuleDir_parts h
  have := portModules_le d
  omega

section
variable (s : State)

@[simp] theorem State.linkMod_setLinkMod (d p : Nat) (m : LinkModule) : (s.setLinkMod d p m).linkMod d p = m :=
  SMap.read_write_same _ _ _ _

theorem State.linkMod_setLinkMod_other (d : Nat) {p q : Nat} (m : LinkModule) (h : q ≠ p) :
    (s.setLinkMod d p m).linkMod d q = s.linkMod d q := SMap.read_write_other _ _ _ _ (by omega)

theorem State.linkMod_of_link {s t : State} (h : t.link = s.link) (d p : Nat) : t.linkMod d p = s.linkMod d p := by
  rw [State.linkMod, h, State.linkMod]

@[simp] theorem State.linkDir_setLinkDir (d m dir : Nat) (l : LinkDir) : (s.setLinkDir d m dir l).linkDir d m dir = l :=
  SMap.read_write_same _ _ _ _

theorem State.linkDir_setLinkDir_other (d m : Nat) {e dir : Nat} (l : LinkDir) (h : e ≠ dir) :
    (s.setLinkDir d m dir l).linkDir d m e = s.linkDir d m e := SMap.read_write_other _ _ _ _ (by omega)

/-! ## The stored map -/

theorem State.wireMask_of_regs {s t : State} (h : t.regs = s.regs) (page p dir : Nat) : t.wireMask page p dir = s.wireMask page p dir := by
  simp only [State.wireMask, State.get_of_regs h]

@[simp] theorem State.storeMap_link (d p dir mask assign : Nat) : (s.storeMap d p dir mask assign).link = s.link := by
  unfold State.storeMap
  split_ifs <;> rfl

@[simp] theorem State.retireWire_link (d p dir w : Nat) : (s.retireWire d p dir w).link = s.link := by simp [State.retireWire]

/-- A map is read back as it was put, to the width of the fields. -/
theorem State.wireMask_putMap {page p dir : Nat} (mask assign : Nat) (h : 2 * p + dir < 34) :
    (s.putMap page p dir mask assign).wireMask page p dir = mask % 2 ^ 68 := by
  have hne {f g : RegField} (h' : f.apart g = true) (hf : f.count = 34) (hg : g.count = 34) :
      fieldKey page f (2 * p + dir) ≠ fieldKey page g (2 * p + dir) := fieldKey_ne_of_apart h' (by omega) (by omega)
  rw [State.wireMask, State.putMap, State.get_set_other _ _ (hne (by decide) rfl rfl), State.get_set_other _ _ (hne (by decide) rfl rfl),
    State.get_set_other _ _ (hne (by decide) rfl rfl), State.get_set_same, State.get_set_other _ _ (hne (by decide) rfl rfl),
    State.get_set_other _ _ (hne (by decide) rfl rfl), State.get_set_same, State.get_set_other _ _ (hne (by decide) rfl rfl), State.get_set_same]
  simp only [RegField.width, Port.LMH_MAP_MASK_LO_MASK_LO, Port.LMH_MAP_MASK_HI_MASK_HI, Port.LMH_MAP_MASK_SP_MASK_SP,
    Nat.shiftRight_eq_div_pow]
  omega

theorem State.wireAssign_putMap (page p dir mask assign : Nat) :
    (s.putMap page p dir mask assign).wireAssign page p dir = assign % 2 ^ 28 := by
  rw [State.wireAssign, State.putMap, State.get_set_same]
  rfl

theorem State.storeMap_eq (d p dir mask assign : Nat) : ∃ f v, (f = Port.LMH_MOD_SPARES_FREE_OUT ∨ f = Port.LMH_MOD_SPARES_FREE_IN) ∧
    s.storeMap d p dir mask assign = (s.putMap (Pg.port d) p dir mask assign).set (Pg.port d) f v p := by
  unfold State.storeMap
  split_ifs
  · exact ⟨_, _, Or.inl rfl, rfl⟩
  · exact ⟨_, _, Or.inr rfl, rfl⟩

/-- The words of the maps are not those of the counts of free spares. -/
theorem get_map_set_spares {d p i v : Nat} {f g : RegField} (hp : p < 17) (hi : i < 34)
    (hf : f = Port.LMH_MOD_SPARES_FREE_OUT ∨ f = Port.LMH_MOD_SPARES_FREE_IN)
    (hg : g ∈ [Port.LMH_MAP_MASK_LO_MASK_LO, Port.LMH_MAP_MASK_HI_MASK_HI, Port.LMH_MAP_MASK_SP_MASK_SP, Port.LMH_MAP_ASSIGN_SPARE_ASSIGN]) :
    (s.set (Pg.port d) f v p).get (Pg.port d) g i = s.get (Pg.port d) g i := by
  have happart : ∀ g ∈ [Port.LMH_MAP_MASK_LO_MASK_LO, Port.LMH_MAP_MASK_HI_MASK_HI, Port.LMH_MAP_MASK_SP_MASK_SP,
      Port.LMH_MAP_ASSIGN_SPARE_ASSIGN], g.count = 34 ∧ g.apart Port.LMH_MOD_SPARES_FREE_OUT = true ∧
      g.apart Port.LMH_MOD_SPARES_FREE_IN = true := by decide
  obtain ⟨hcount, hout, hin⟩ := happart g hg
  rcases hf with rfl | rfl
  · exact State.get_set_other _ _ (fieldKey_ne_of_apart hout (by omega) hp)
  · exact State.get_set_other _ _ (fieldKey_ne_of_apart hin (by omega) hp)

theorem State.wireMask_storeMap {d p dir : Nat} (mask assign : Nat) (hp : p < 17) (hi : 2 * p + dir < 34) :
    (s.storeMap d p dir mask assign).wireMask (Pg.port d) p dir = mask % 2 ^ 68 := by
  obtain ⟨f, v, hf, he⟩ := s.storeMap_eq d p dir mask assign
  rw [he, State.wireMask, get_map_set_spares _ hp hi hf (by simp), get_map_set_spares _ hp hi hf (by simp),
    get_map_set_spares _ hp hi hf (by simp)]
  exact s.wireMask_putMap mask assign hi

theorem State.wireAssign_storeMap {d p dir : Nat} (mask assign : Nat) (hp : p < 17) (hi : 2 * p + dir < 34) :
    (s.storeMap d p dir mask assign).wireAssign (Pg.port d) p dir = assign % 2 ^ 28 := by
  obtain ⟨f, v, hf, he⟩ := s.storeMap_eq d p dir mask assign
  rw [he, State.wireAssign, get_map_set_spares _ hp hi hf (by simp)]
  exact s.wireAssign_putMap _ p dir mask assign

/-! ## Events keep the maps -/

theorem not_inEvents_map {d i : Nat} {f : RegField} (hi : i < 34)
    (hf : f ∈ [Port.LMH_MAP_MASK_LO_MASK_LO, Port.LMH_MAP_MASK_HI_MASK_HI, Port.LMH_MAP_MASK_SP_MASK_SP, Port.LMH_MAP_ASSIGN_SPARE_ASSIGN]) :
    ¬InEvents d (fieldKey (Pg.port d) f i) := by
  have happart : ∀ g ∈ [Port.LMH_MAP_MASK_LO_MASK_LO, Port.LMH_MAP_MASK_HI_MASK_HI, Port.LMH_MAP_MASK_SP_MASK_SP,
      Port.LMH_MAP_ASSIGN_SPARE_ASSIGN], g.count = 34 ∧ g.apart Hdr.INT_STATUS_BLOCK = true := by decide
  obtain ⟨hcount, h⟩ := happart f hf
  exact not_inEvents h (by omega)

end

section
variable {s t : State} {d p dir : Nat} (h : ChangesIn (InEvents d) s t) (hi : 2 * p + dir < 34)
include h hi

theorem ChangesIn.wireMask_eq : t.wireMask (Pg.port d) p dir = s.wireMask (Pg.port d) p dir := by
  rw [State.wireMask, h _ _ _ (not_inEvents_map hi (by simp)), h _ _ _ (not_inEvents_map hi (by simp)),
    h _ _ _ (not_inEvents_map hi (by simp)), State.wireMask]

theorem ChangesIn.wireAssign_eq : t.wireAssign (Pg.port d) p dir = s.wireAssign (Pg.port d) p dir :=
  h _ _ _ (not_inEvents_map hi (by simp))

end

section
variable (s : State) {d p dir : Nat} (hp : p < 17) (hi : 2 * p + dir < 34)
include hp hi

theorem State.wireMask_retireWire (w : Nat) :
    (s.retireWire d p dir w).wireMask (Pg.port d) p dir = withBit (s.wireMask (Pg.port d) p dir) w false % 2 ^ 68 := by
  unfold State.retireWire
  rw [ChangesIn.wireMask_eq ((State.history_books _ _ _ _ _).mono inEvents_of_inBooks) hi]
  exact s.wireMask_storeMap _ _ hp hi

/-- The retirement of a lane wire leaves the spares as they serve. -/
theorem State.wireAssign_retireWire {w : Nat} (hw : w < 64) :
    (s.retireWire d p dir w).wireAssign (Pg.port d) p dir = s.wireAssign (Pg.port d) p dir % 2 ^ 28 := by
  unfold State.retireWire
  rw [ChangesIn.wireAssign_eq ((State.history_books _ _ _ _ _).mono inEvents_of_inBooks) hi, if_neg (by omega)]
  exact s.wireAssign_storeMap _ _ hp hi

end

end Sys2Proof.Machine
end
section
/-! SUPPORT. Wires in service (R125 to R127): the audit, suspects, retries and the swap. -/

namespace Sys2Proof.Machine

open Reg

variable (s : State) (d p dir w : Nat)

/-! ## The audit and the suspects -/

theorem State.auditStep_regs : (s.auditStep d p dir).regs = s.regs := by
  unfold State.auditStep
  split_ifs <;> rfl

theorem State.auditStep_auditPos : ofDir dir ((s.auditStep d p dir).linkMod d p).auditPos =
    if s.inService d p then (ofDir dir (s.linkMod d p).auditPos + 1) % 16 else ofDir dir (s.linkMod d p).auditPos := by
  unfold State.auditStep
  split_ifs <;> simp

theorem State.wireSuspected_regs (compare : Bool) : (s.wireSuspected d p dir w compare).regs = s.regs := by
  unfold State.wireSuspected
  dsimp only
  split_ifs <;> rfl

variable {s d p dir w}

theorem State.mem_suspects_wireSuspected {compare : Bool} (hin : s.inService d p = true) (hw : bit (s.wireMask (Pg.port d) p dir) w = true)
    (ha : compare = true → s.audited d p dir w = true) : (dir, w) ∈ ((s.wireSuspected d p dir w compare).linkMod d p).suspects := by
  unfold State.wireSuspected
  dsimp only
  split
  case isTrue => simp
  case isFalse h =>
    by_contra hn
    exact h ⟨hin, hw, by simpa using hn, ha⟩

theorem State.wireSuspected_of_not {compare : Bool} (h : s.inService d p = false ∨ bit (s.wireMask (Pg.port d) p dir) w = false ∨
    (compare = true ∧ s.audited d p dir w = false)) : s.wireSuspected d p dir w compare = s := by
  refine if_neg ?_
  rintro ⟨hin, hw, -, ha⟩
  rcases h with h | h | ⟨hc, h⟩ <;> simp_all

/-! ## The retry -/

/-- The wire is off the suspects. -/
def State.retryEnded (s : State) (d p dir w : Nat) : State :=
  s.setLinkMod d p { s.linkMod d p with suspects := (s.linkMod d p).suspects.filter (fun x => x ≠ (dir, w)) }

theorem State.wireRetried_of_suspect (h : (s.linkMod d p).suspects.elem (dir, w) = true) (clean : Bool) : s.wireRetried d p dir w clean =
    if clean then (s.retryEnded d p dir w).count (Pg.port d) Port.LMH_ERRS_TRANSIENT 1 p
    else (s.retryEnded d p dir w).lastingWire d p dir w := if_pos h

theorem State.wireRetried_of_not (h : (s.linkMod d p).suspects.elem (dir, w) = false) (clean : Bool) :
    s.wireRetried d p dir w clean = s := if_neg (by rw [h]; decide)

theorem State.get_count_transient (s : State) (d p : Nat) : (s.count (Pg.port d) Port.LMH_ERRS_TRANSIENT 1 p).get (Pg.port d)
    Port.LMH_ERRS_TRANSIENT p = min (s.get (Pg.port d) Port.LMH_ERRS_TRANSIENT p + 1) 0xFFFF := by
  rw [State.get_count_same]
  simp only [satAdd, RegField.width, Port.LMH_ERRS_TRANSIENT]
  omega

theorem State.not_mem_suspects_retryEnded (s : State) (d p dir w : Nat) : (dir, w) ∉ ((s.retryEnded d p dir w).linkMod d p).suspects := by
  simp [State.retryEnded]

/-- A lasting lane wire of a full-width module begins to be swapped, where no spare serves it and no swap runs. -/
theorem State.lastingWire_starts {k : Nat} (hw : w < 64) (hmask : bit (s.wireMask (Pg.port d) p dir) w = true)
    (hserved : served (s.wireAssign (Pg.port d) p dir) w = false) (hswap : (s.linkMod d p).swap = none) (hmode : s.modState d p ≠ 3)
    (hk : freeSpare (s.wireMask (Pg.port d) p dir) (s.wireAssign (Pg.port d) p dir) = some k) :
    s.lastingWire d p dir w = s.startSwap d p dir w w k := by
  unfold State.lastingWire
  simp [hw, hmask, hserved, hswap, hmode, hk, Nat.not_le.2 hw]

/-! ## The swap -/

variable (s d p)

/-- The frame with SWAP_NEXT goes out, and the swap has ended. -/
def State.swapEnded (x : WireSwap) : State :=
  (s.markLast d (s.modLogical d p) x.dir 1).setLinkMod d p { s.linkMod d p with swap := none, waiting := [] }

/-- The spare serves the position and the old wire is retired, in a state whose swap has ended. -/
def State.swapStored (t : State) (x : WireSwap) : State :=
  (t.storeMap d p x.dir (t.wireMask (Pg.port d) p x.dir) (setSpare (t.wireAssign (Pg.port d) p x.dir) x.spare x.pos)).retireWire d p x.dir x.old

/-- Both uses are entered in the ledger and recorded. -/
def State.swapRecorded (t : State) (x : WireSwap) : State :=
  (t.history 1 (Pg.port d) (p * 256 + x.dir * 128 + x.pos) (64 + x.spare)).portEvent d 0x1003 3 p (64 + x.spare)
    (some Port.INT_SPARE_USED) false

theorem State.markLast_regs (m dir code : Nat) : (s.markLast d m dir code).regs = s.regs := by
  unfold State.markLast
  dsimp only
  split <;> rfl

variable {s d p} in
theorem State.swapDone_eq {x : WireSwap} (h : (s.linkMod d p).swap = some x) : s.swapDone d p =
    forEach (s.linkMod d p).waiting (fun y u => u.lastingWire d p y.1 y.2)
      (State.swapRecorded d p (State.swapStored d p (s.swapEnded d p x) x) x) := by
  unfold State.swapDone
  simp only [h]
  rfl

variable {s d p} in
theorem State.swapDone_of_none (h : (s.linkMod d p).swap = none) : s.swapDone d p = s := by
  unfold State.swapDone
  simp only [h]

theorem State.swapEnded_regs (x : WireSwap) : (s.swapEnded d p x).regs = s.regs := State.markLast_regs s d _ _ _

theorem State.swapRecorded_changes (t : State) (x : WireSwap) : ChangesIn (InEvents d) t (State.swapRecorded d p t x) :=
  ((State.history_books _ _ _ _ _).mono inEvents_of_inBooks).trans (State.portEvent_changes _ _ _ _ _ _ _ _)

theorem State.swapRecorded_link (t : State) (x : WireSwap) : (State.swapRecorded d p t x).link = t.link := by simp [State.swapRecorded]

theorem State.swapStored_link (t : State) (x : WireSwap) : (State.swapStored d p t x).link = t.link := by simp [State.swapStored]

section
variable {p} (t : State) {x : WireSwap} (hp : p < 17) (hi : 2 * p + x.dir < 34)
include hp hi

theorem State.wireAssign_swapStored (hold : x.old < 64) : (State.swapStored d p t x).wireAssign (Pg.port d) p x.dir =
    setSpare (t.wireAssign (Pg.port d) p x.dir) x.spare x.pos % 2 ^ 28 := by
  rw [State.swapStored, State.wireAssign_retireWire _ hp hi hold, State.wireAssign_storeMap _ _ _ hp hi, Nat.mod_mod]

/-- The old wire leaves the mask, and no other wire does. -/
theorem State.wireMask_swapStored {v : Nat} (hv : v < 68) : bit ((State.swapStored d p t x).wireMask (Pg.port d) p x.dir) v =
    if v = x.old then false else bit (t.wireMask (Pg.port d) p x.dir) v := by
  rw [State.swapStored, State.wireMask_retireWire _ hp hi, State.wireMask_storeMap _ _ _ hp hi]
  have hmod (y : Nat) : bit (y % 2 ^ 68) v = bit y v := by
    rw [bit, Nat.testBit_mod_two_pow, bit]
    simp [hv]
  rw [hmod, bit_withBit, hmod]

end

section
variable {s d p} {x : WireSwap} (h : (s.linkMod d p).swap = some x) (hwait : (s.linkMod d p).waiting = []) (hp : p < 17) (hdir : x.dir < 2)
include h hwait

/-- With nothing waiting, the records of the swap are all that follows. -/
theorem State.swapDone_changes : ChangesIn (InEvents d) (State.swapStored d p (s.swapEnded d p x) x) (s.swapDone d p) ∧
    (s.swapDone d p).link = (s.swapEnded d p x).link ∧ Raised (s.swapDone d p) (Pg.port d) Port.INT_SPARE_USED := by
  rw [State.swapDone_eq h, hwait, forEach, List.foldl_nil]
  exact ⟨State.swapRecorded_changes d p _ x, (State.swapRecorded_link d p _ x).trans (State.swapStored_link d p _ x),
    State.portEvent_raises _ _ _ _ _ _ _ (by decide) (by decide)⟩

theorem State.swap_swapDone : ((s.swapDone d p).linkMod d p).swap = none := by
  rw [State.linkMod_of_link (State.swapDone_changes h hwait).2.1, State.swapEnded, State.linkMod_setLinkMod]

include hp hdir

/-- The spare serves the position. -/
theorem State.wireAssign_swapDone (hold : x.old < 64) : (s.swapDone d p).wireAssign (Pg.port d) p x.dir =
    setSpare (s.wireAssign (Pg.port d) p x.dir) x.spare x.pos % 2 ^ 28 := by
  obtain ⟨hchanges, -, -⟩ := State.swapDone_changes h hwait
  rw [hchanges.wireAssign_eq (by omega), State.wireAssign_swapStored d _ hp (by omega) hold, State.wireAssign, State.wireAssign,
    State.get_of_regs (s.swapEnded_regs d p x)]

/-- The old wire leaves the mask, and no other wire does. -/
theorem State.wireMask_swapDone {v : Nat} (hv : v < 68) : bit ((s.swapDone d p).wireMask (Pg.port d) p x.dir) v =
    if v = x.old then false else bit (s.wireMask (Pg.port d) p x.dir) v := by
  obtain ⟨hchanges, -, -⟩ := State.swapDone_changes h hwait
  rw [hchanges.wireMask_eq (by omega), State.wireMask_swapStored d _ hp (by omega) hv, State.wireMask_of_regs (s.swapEnded_regs d p x)]

end

variable {s d p}

theorem State.wireRetried_starts {k : Nat} (h : (s.linkMod d p).suspects.elem (dir, w) = true) (hw : w < 64)
    (hmask : bit (s.wireMask (Pg.port d) p dir) w = true) (hserved : served (s.wireAssign (Pg.port d) p dir) w = false)
    (hswap : (s.linkMod d p).swap = none) (hmode : s.modState d p ≠ 3)
    (hk : freeSpare (s.wireMask (Pg.port d) p dir) (s.wireAssign (Pg.port d) p dir) = some k) :
    s.wireRetried d p dir w false = (s.retryEnded d p dir w).startSwap d p dir w w k := by
  rw [State.wireRetried_of_suspect h, if_neg (by decide)]
  exact State.lastingWire_starts hw hmask hserved (by simp [State.retryEnded, hswap]) hmode hk

theorem State.swap_startSwap (s : State) (d p dir pos old k : Nat) : ((s.startSwap d p dir pos old k).linkMod d p).swap =
    some { dir := dir, pos := pos, old := old, spare := k } := by simp [State.startSwap]

end Sys2Proof.Machine
end
section
namespace Sys2Proof

open Machine

/-- Settles O19, operation by operation: the audit's position and the suspects are records of the module alone; the end of a swap is the stored
map with its spare, followed by entries in the books only. -/
theorem wiresAreAuditedSuspectedAndSwapped : Obligations.WiresAreAuditedSuspectedAndSwapped := by
  unfold Obligations.WiresAreAuditedSuspectedAndSwapped
  intro s d p dir w hd hw
  obtain ⟨hport, hmod, -⟩ := isModuleDir_parts hd
  obtain ⟨hp, -⟩ := isModuleDir_lt hd
  have hok : (isModuleDir d p dir && decide (w < 68)) = true := by simp [hd, hw]
  have hd0 : isModuleDir d p 0 = true := by simp [isModuleDir, hport, hmod]
  dsimp only
  refine ⟨completes_of_onPart rfl hd ⟨s.auditStep_regs d p dir, s.auditStep_auditPos d p dir⟩,
    fun compare => completes_of_onPart rfl hok ⟨s.wireSuspected_regs d p dir w compare, State.mem_suspects_wireSuspected, fun h => ?_⟩,
    completes_of_onPart rfl hok ⟨fun h => ?_, fun h => ?_⟩, completes_of_onPart rfl hok ⟨fun h h64 hmask hserved hswap hmode k hk => ?_, fun h => ?_⟩,
    completes_of_onPart rfl hd0 ⟨fun x hx hwait hdir hold _ => ?_, fun h => ?_⟩⟩
  · rw [State.wireSuspected_of_not h]
  · rw [State.wireRetried_of_suspect h]
    exact ⟨State.get_count_transient _ d p, s.not_mem_suspects_retryEnded d p dir w, RegsSameBut.set _ _ _ _ _⟩
  · rw [State.wireRetried_of_not h]
  · rw [State.wireRetried_starts h h64 hmask hserved hswap hmode hk]
    exact ⟨State.swap_startSwap _ d p dir w w k, rfl⟩
  · rw [State.wireRetried_of_not h]
  · obtain ⟨-, -, hraised⟩ := State.swapDone_changes hx hwait
    have hswap := State.swap_swapDone hx hwait
    have hassign := State.wireAssign_swapDone hx hwait hp hdir hold
    have hmask {v : Nat} (hv : v < 68) := State.wireMask_swapDone hx hwait hp hdir hv
    generalize s.swapDone d p = t at *
    exact ⟨hswap, hraised, hassign, (hmask (by omega)).trans (if_pos rfl), fun v hv hne => (hmask hv).trans (if_neg hne)⟩
  · rw [State.swapDone_of_none h]

end Sys2Proof
end
section
/-! SUPPORT. Moves to the reserve, and the loss of crossing service (R128 to R130): what the port's registers and the hub's records hold after each. -/

namespace Sys2Proof.Machine

open Reg

/-! ## The move to the reserve -/

/-- The reserve has taken a module over (R128): `t` after, `s` before. -/
def ReserveTook (s t : State) (d p : Nat) : Prop :=
  t.modLogical d (State.reserveOf d) = s.modLogical d p % 16 ∧ t.modState d (State.reserveOf d) = 2 ∧ t.modRole d p = 3 ∧ t.modState d p = 0 ∧
    t.get (Pg.port d) Port.STATUS_RESERVE_IN_USE = 1 ∧ Raised t (Pg.port d) Port.INT_RESERVE_USED

theorem reserveOf_lt (d : Nat) : State.reserveOf d < 17 := by
  unfold State.reserveOf
  have := portModules_le d
  omega

theorem ne_reserveOf {d p : Nat} (hp : p + 1 ≠ portModules d) : State.reserveOf d ≠ p := by
  unfold State.reserveOf portModules at *
  split_ifs at * <;> omega

/-- Fields of the module words, and the bit of the reserve, lie apart from one another. -/
theorem fieldKey_modules_ne (d : Nat) {p q : Nat} {f g : RegField} (hp : p < 17) (hq : q < 17) (h : f ≠ g)
    (hf : f ∈ [Port.LMH_MOD_LOGICAL, Port.LMH_MOD_ROLE, Port.LMH_MOD_MSTATE])
    (hg : g ∈ [Port.LMH_MOD_LOGICAL, Port.LMH_MOD_ROLE, Port.LMH_MOD_MSTATE]) :
    fieldKey (Pg.port d) f p ≠ fieldKey (Pg.port d) g q := by
  have happart : ∀ f ∈ [Port.LMH_MOD_LOGICAL, Port.LMH_MOD_ROLE, Port.LMH_MOD_MSTATE], f.count = 17 ∧
      ∀ g ∈ [Port.LMH_MOD_LOGICAL, Port.LMH_MOD_ROLE, Port.LMH_MOD_MSTATE], f ≠ g → f.apart g = true := by decide
  obtain ⟨hcount, hothers⟩ := happart f hf
  exact fieldKey_ne_of_apart (hothers g hg h) (by omega) (by have := (happart g hg).1; omega)

/-- Words of different modules. -/
theorem fieldKey_module_ne (d : Nat) {p q : Nat} {f : RegField} (h : p ≠ q) (hs : 0 < f.stride) :
    fieldKey (Pg.port d) f p ≠ fieldKey (Pg.port d) f q := by
  refine fieldKey_ne fun he => h ?_
  have hmul : p * f.stride = q * f.stride := by omega
  exact Nat.eq_of_mul_eq_mul_right hs hmul

theorem not_inEvents_module (d : Nat) {p : Nat} {f : RegField} (hp : p < 17)
    (hf : f ∈ [Port.LMH_MOD_LOGICAL, Port.LMH_MOD_ROLE, Port.LMH_MOD_MSTATE]) : ¬InEvents d (fieldKey (Pg.port d) f p) := by
  have happart : ∀ f ∈ [Port.LMH_MOD_LOGICAL, Port.LMH_MOD_ROLE, Port.LMH_MOD_MSTATE], f.count = 17 ∧
      f.apart Hdr.INT_STATUS_BLOCK = true := by decide
  obtain ⟨hcount, h⟩ := happart f hf
  exact not_inEvents h (by omega)

section
variable (s : State) {d p : Nat} (hp : p < 17) (hne : p + 1 ≠ portModules d)
include hp hne

theorem State.moduleMoved_took : (s.moduleMoved d p).modLogical d (reserveOf d) = s.modLogical d p % 16 ∧
    (s.moduleMoved d p).modState d (reserveOf d) = 2 ∧ (s.moduleMoved d p).modRole d p = 3 ∧ (s.moduleMoved d p).modState d p = 0 := by
  have hr := reserveOf_lt d
  have hrp := ne_reserveOf hne
  have hbit {f : RegField} {q : Nat} (hq : q < 17) (hf : f ∈ [Port.LMH_MOD_LOGICAL, Port.LMH_MOD_ROLE, Port.LMH_MOD_MSTATE]) :
      fieldKey (Pg.port d) f q ≠ fieldKey (Pg.port d) Port.STATUS_RESERVE_IN_USE 0 := by
    have happart : ∀ f ∈ [Port.LMH_MOD_LOGICAL, Port.LMH_MOD_ROLE, Port.LMH_MOD_MSTATE], f.count = 17 ∧
        f.apart Port.STATUS_RESERVE_IN_USE = true := by decide
    obtain ⟨hcount, h⟩ := happart f hf
    exact fieldKey_ne_of_apart h (by omega) (by decide)
  unfold State.moduleMoved State.modLogical State.modState State.modRole State.setModState
  refine ⟨?_, ?_, ?_, ?_⟩
  · rw [State.get_set_other _ _ (hbit hr (by decide)), State.get_set_other _ _ (fieldKey_modules_ne d hr hp (by decide) (by decide) (by decide)),
      State.get_set_other _ _ (fieldKey_modules_ne d hr hp (by decide) (by decide) (by decide)),
      State.get_set_other _ _ (fieldKey_modules_ne d hr hr (by decide) (by decide) (by decide)), State.get_set_same]
    rfl
  · rw [State.get_set_other _ _ (hbit hr (by decide)), State.get_set_other _ _ (fieldKey_module_ne d hrp (by decide)),
      State.get_set_other _ _ (fieldKey_modules_ne d hr hp (by decide) (by decide) (by decide)), State.get_set_same]
    rfl
  · rw [State.get_set_other _ _ (hbit hp (by decide)), State.get_set_other _ _ (fieldKey_modules_ne d hp hp (by decide) (by decide) (by decide)),
      State.get_set_same]
    rfl
  · rw [State.get_set_other _ _ (hbit hp (by decide)), State.get_set_same]
    rfl

theorem State.moveTo_took : ReserveTook s (s.moveTo d p) d p := by
  have hchanges := s.moveTo_changes d p
  have hr := reserveOf_lt d
  obtain ⟨hlogical, hmstate, hrole, hdown⟩ := s.moduleMoved_took hp hne
  refine ⟨?_, ?_, ?_, ?_, ?_, ?_⟩
  · exact (hchanges _ _ _ (not_inEvents_module d hr (by decide))).trans hlogical
  · exact (hchanges _ _ _ (not_inEvents_module d hr (by decide))).trans hmstate
  · exact (hchanges _ _ _ (not_inEvents_module d hp (by decide))).trans hrole
  · exact (hchanges _ _ _ (not_inEvents_module d hp (by decide))).trans hdown
  · exact (hchanges _ _ _ (not_inEvents (by decide) (by decide))).trans (State.get_set_same _ _ _ _ _)
  · rw [State.moveTo_eq]
    exact State.portEvent_raises _ _ _ _ _ _ _ (by decide) (by decide)

theorem ReserveTook.of_regs {t : State} (h : t.regs = s.regs) : ReserveTook s (t.moveTo d p) d p := by
  have hlogical : t.modLogical d p = s.modLogical d p := State.get_of_regs h _ _ _
  have htook := t.moveTo_took hp hne
  rwa [ReserveTook, hlogical] at htook

end

theorem State.moveTo_move (s : State) (d p : Nat) : SMap.read none (s.moveTo d p).link.move d = none := by
  simp [State.moveTo_eq, State.linkMoved]

section
variable {s : State} {d p dir : Nat}

theorem State.moveDone_of_none (h : SMap.read none s.link.move d = none) : s.moveDone d = s := by
  unfold State.moveDone
  simp only [h]

/-- MOVE_NEXT of a copy in progress is the move, after a mark in the frames under way. -/
theorem State.moveDone_eq (h : SMap.read none s.link.move d = some (p, dir)) : ∃ t : State, t.regs = s.regs ∧ s.moveDone d = t.moveTo d p := by
  unfold State.moveDone
  simp only [h]
  exact ⟨_, (State.markLast_regs _ _ _ _ _).trans (State.markLast_regs _ _ _ _ _), rfl⟩

theorem State.reserveFree_parts (h : s.reserveFree d = true) : SMap.read none s.link.move d = none ∧
    SMap.read false s.link.reserveBad d = false := by
  simp only [State.reserveFree, Bool.and_eq_true, Bool.not_eq_true', Option.isNone_iff_eq_none] at h
  exact ⟨h.2, h.1.2⟩

theorem State.reserveFree_congr {t : State} (hregs : t.regs = s.regs) (hbad : t.link.reserveBad = s.link.reserveBad)
    (hmove : SMap.read none t.link.move d = SMap.read none s.link.move d) : t.reserveFree d = s.reserveFree d := by
  unfold State.reserveFree State.modRole State.modLogical
  rw [State.get_of_regs hregs, State.get_of_regs hregs, hbad, hmove]

/-- A sudden failure of a crossing module whose reserve is free moves it now. -/
theorem State.suddenFailure_eq (hactive : s.portActive d = true) (hrole : s.modRole d p = 0) (hfree : s.reserveFree d = true)
    (hne : p + 1 ≠ portModules d) : ∃ t : State, t.regs = s.regs ∧ s.suddenFailure d p dir = t.moveTo d p := by
  obtain ⟨hmove, -⟩ := State.reserveFree_parts hfree
  obtain ⟨t, ht⟩ : ∃ t, t = ((s.loseWindow d (s.modLogical d p) 0).loseWindow d (s.modLogical d p) 1).moveDiscarded d := ⟨_, rfl⟩
  have hregs : t.regs = s.regs := by rw [ht]; rfl
  have hfree' : t.reserveFree d = true :=
    (State.reserveFree_congr hregs (by rw [ht]; rfl) (by rw [ht, hmove]; simp [State.moveDiscarded])).trans hfree
  refine ⟨t, hregs, ?_⟩
  unfold State.suddenFailure
  rw [if_neg (by simp [hactive, hrole]), if_neg (fun h => ne_reserveOf hne h.1.symm)]
  simp only [hmove, ← ht, State.crossingFails, Bool.false_and, Bool.false_eq_true, if_false, hfree', if_true]

end

/-! ## The loss of crossing service -/

section
variable (s : State) (d p m dir : Nat)

theorem State.closeGate_link (r : Nat) : (s.closeGate d r).link = s.link := by
  unfold State.closeGate
  dsimp only
  split_ifs <;> rfl

theorem State.forceHold_link : (s.forceHold d m).link = s.link := by
  unfold State.forceHold
  exact (forEach_keeps State.link _ (fun r u => u.closeGate_link d r) _).trans rfl

theorem State.forceHolds_link (ems : List (Nat × Nat)) : (forEach ems (fun em u => u.forceHold em.1 em.2) s).link = s.link :=
  forEach_keeps State.link ems (fun em u => State.forceHold_link u em.1 em.2) s

theorem State.destinationsHeld_link : (s.destinationsHeld d m dir).link =
    { s.link with lost := SMap.write false s.link.lost (spanDirKey d m dir) true } := by
  rw [State.destinationsHeld, State.forceHolds_link]

variable {s d m dir} in
theorem State.crossLost_link (h : SMap.read false s.link.lost (spanDirKey d m dir) = false) : (s.crossLost d p m dir).link =
    { s.link with lost := SMap.write false s.link.lost (spanDirKey d m dir) true } := by
  rw [s.crossLost_of_new p h, State.portEvent_link, State.fatal_link, State.destinationsHeld_link]

variable {s d m dir} in
theorem State.crossLost_lost (h : SMap.read false s.link.lost (spanDirKey d m dir) = false) :
    SMap.read false (s.crossLost d p m dir).link.lost (spanDirKey d m dir) = true := by
  rw [State.crossLost_link p h]
  exact SMap.read_write_same false s.link.lost _ true

theorem State.crossLost_reserveBad : (s.crossLost d p m dir).link.reserveBad = s.link.reserveBad := by
  rcases s.crossLost_cases d p m dir with h | h
  · rw [h]
  · rw [State.crossLost_link p h]

/-- An event that warns nobody leaves the safety page alone. -/
theorem State.get_safety_portEvent (code sev wire : Nat) (int : Option Nat) {f : RegField} (hf : f.inPage = true) (hi : 0 < f.count) :
    (s.portEvent d code sev p wire int false).get Pg.safety f = s.get Pg.safety f := by
  rw [State.portEvent_eq, if_neg (by decide), State.event_records _ _ _ _ _ _ _ _ (by
    rw [InRecords, fieldKey_page hf hi]
    decide)]
  cases int with
  | none => rfl
  | some b => exact State.get_setInt_other _ (fieldKey_ne_of_pages hf hi (by decide) (by decide) (by simp only [Pg.port, Pg.safety]; omega))

theorem State.get_fatal (code page : Nat) : (s.fatal Safety.SAF_FATAL_CROSS_LOST code page).get Pg.safety Safety.SAF_FATAL_CROSS_LOST = 1 := by
  unfold State.fatal
  rw [State.get_setInt_other _ (fieldKey_ne_of_apart (by decide) (by decide) (by decide)), State.get_set_same]
  rfl

theorem State.errN_of_crossLost (h : s.get Pg.safety Safety.SAF_FATAL_CROSS_LOST = 1) : s.errN = true := by
  simp only [State.errN, State.fatalBits, h, decide_eq_true_eq]
  omega

/-- Service that is lost now is fatal, and an event of the port (R129). -/
theorem State.crossLost_fatal (h : SMap.read false s.link.lost (spanDirKey d m dir) = false) :
    (s.crossLost d p m dir).get Pg.safety Safety.SAF_FATAL_CROSS_LOST = 1 ∧ Raised (s.crossLost d p m dir) (Pg.port d) Port.INT_CROSS_LOST := by
  rw [s.crossLost_of_new p h]
  exact ⟨(State.get_safety_portEvent _ d p _ _ _ _ (by decide) (by decide)).trans (State.get_fatal _ _ _),
    State.portEvent_raises _ _ _ _ _ _ _ (by decide) (by decide)⟩

theorem State.fedBy_toward_die : s.fedBy d m 0 = [(d, m)] := if_pos rfl

theorem xport_not_clock {d : Nat} (f : RegField) (i : Nat) (hd : 1 ≤ d) : ¬OnClock (fieldKey (Pg.xport d) f i) := by
  have := (le_xport hd).trans (le_fieldKey_page (Pg.xport d) f i)
  simp only [OnClock, Pg.clock]
  omega

/-- HOLD is forced on the destination toward the die (R130). -/
theorem State.forceHold_forced (hd : 1 ≤ d) (hm : m < 12) :
    bit ((s.forceHold d m).get (Pg.xport d) Xport.STATUS_FORCED_HOLD) m = true := by
  rw [s.forceHold_gates d m _ _ _ (xport_not_clock _ _ hd), State.holdForced,
    State.get_setInt_other _ (fieldKey_ne_of_apart (by decide) (by decide) (by decide)), State.bit_get_setBit _ _ _ _ _ _ hm, if_pos rfl]

theorem State.crossLost_forced (hd : 1 ≤ d) (hd6 : d ≤ 6) (hm : m < 12) (h : SMap.read false s.link.lost (spanDirKey d m 0) = false) :
    bit ((s.crossLost d p m 0).get (Pg.xport d) Xport.STATUS_FORCED_HOLD) m = true := by
  have hport : Pg.xport d ≠ Pg.port d := by
    have := le_xport hd
    simp only [Pg.port]
    omega
  have hbooks : ¬InBooks (fieldKey (Pg.xport d) Xport.STATUS_FORCED_HOLD 0) := not_inBooks _ _ (lt_of_lt_of_le (by decide) (le_xport hd))
  have hevents : ¬InEvents d (fieldKey (Pg.xport d) Xport.STATUS_FORCED_HOLD 0) := by
    rintro (hk | hk)
    · exact hbooks hk
    · exact fieldKey_ne_of_pages (by decide) (by decide) (by decide) (by decide) hport hk
  rw [s.crossLost_of_new p h, State.portEvent_changes _ _ _ _ _ _ _ _ _ _ _ hevents, State.fatal_books _ (by decide) (by decide) _ _ _ _ _ hbooks,
    State.destinationsHeld, State.fedBy_toward_die]
  exact State.forceHold_forced _ d m hd hm

/-! ## The reserve fails -/

variable {s d}

theorem State.reserveLost_outcome : (s.reserveLost d).modState d (reserveOf d) = 0 ∧
    SMap.read false (s.reserveLost d).link.reserveBad d = true ∧ Raised (s.reserveLost d) (Pg.port d) Port.INT_MODULE_DOWN := by
  have hr := reserveOf_lt d
  unfold State.reserveLost
  refine ⟨?_, by simp [State.setModState], Raised.portEvent (State.setInt_sets _ _ _ (by decide) (by decide)) (by decide) _ _ _ _ _ _⟩
  rw [State.modState, State.portEvent_changes _ _ _ _ _ _ _ _ _ _ _ (not_inEvents_module d hr (by decide)),
    State.get_setInt_other _ (fieldKey_ne_of_apart (by decide) hr (by decide)), State.setModState, State.get_set_same]
  rfl

/-- The loss of service of another module changes nothing of it. -/
theorem State.reserveFails_outcome (hd : isPort d = true) (hactive : s.portActive d = true) (hrole : s.modRole d (reserveOf d) = 2)
    (hunused : s.modLogical d (reserveOf d) = 0xF) (hbad : SMap.read false s.link.reserveBad d = false) :
    (s.reserveFails d).modState d (reserveOf d) = 0 ∧ SMap.read false (s.reserveFails d).link.reserveBad d = true ∧
      Raised (s.reserveFails d) (Pg.port d) Port.INT_MODULE_DOWN := by
  obtain ⟨h1, h6⟩ := isPort_range hd
  have hlost := State.reserveLost_outcome (s := s.moveDiscarded d) (d := d)
  unfold State.reserveFails
  rw [if_pos ⟨hactive, hrole, hunused, hbad⟩]
  dsimp only
  split
  case h_2 => exact hlost
  case h_1 q dir _ =>
    obtain ⟨hdown, hnot, hraised⟩ := hlost
    generalize (s.moveDiscarded d).reserveLost d = t at *
    refine ⟨(t.crossLost_changes h1 q _ dir _ _ _ ?_).trans hdown, by rwa [State.crossLost_reserveBad],
      (t.crossLost_works hd q _ dir).raised _ (by decide) hraised⟩
    rintro (hk | hk)
    · exact not_inEvents_module d (reserveOf_lt d) (by decide) hk
    · rw [OnGates, fieldKey_page (by decide) (reserveOf_lt d)] at hk
      simp only [Pg.port, Pg.clock] at hk
      omega

theorem State.serviceLost_eq {p dir : Nat} (hactive : s.portActive d = true) (hrole : s.modRole d p = 0) (hfree : s.reserveFree d = false) :
    s.serviceLost d p dir = s.crossLost d p (s.modLogical d p) dir := if_pos ⟨hactive, by simp [hrole], hfree⟩

end

end Sys2Proof.Machine
end
section
namespace Sys2Proof

open Machine Machine.Reg

/-- Settles O20: each command is the move, the loss of the reserve or the loss of service, and no entry in the books changes what those leave. -/
theorem theReserveTakesAFailedModule : Obligations.TheReserveTakesAFailedModule := by
  unfold Obligations.TheReserveTakesAFailedModule
  intro s d p dir hd hne
  obtain ⟨hport, -, -⟩ := isModuleDir_parts hd
  obtain ⟨hp, -⟩ := isModuleDir_lt hd
  obtain ⟨h1, h6⟩ := isPort_range hport
  dsimp only
  refine ⟨completes_of_onPart rfl hport ⟨fun hmove => ?_, fun hmove => ?_⟩, fun hactive hrole hfree => completes_of_onPart rfl hd ?_,
    completes_of_onPart rfl hport fun hactive hrole hunused hbad => ?_, fun hactive hrole hfree hnew => completes_of_onPart rfl hd ?_⟩
  · obtain ⟨t, hregs, ht⟩ := State.moveDone_eq hmove
    have htook := ReserveTook.of_regs s hp hne hregs
    have hgone := t.moveTo_move d p
    rw [ht]
    generalize t.moveTo d p = u at *
    exact ⟨htook, hgone⟩
  · rw [State.moveDone_of_none hmove]
  · obtain ⟨t, hregs, ht⟩ := State.suddenFailure_eq (dir := dir) hactive hrole hfree hne
    have htook := ReserveTook.of_regs s hp hne hregs
    rw [ht]
    generalize t.moveTo d p = u at *
    exact htook
  · have houtcome := State.reserveFails_outcome hport hactive hrole hunused hbad
    generalize s.reserveFails d = u at *
    exact houtcome
  · obtain ⟨hfatal, hraised⟩ := State.crossLost_fatal s d p _ dir hnew
    have hlost := State.crossLost_lost p hnew
    have hforced : dir = 0 → s.modLogical d p < 12 →
        bit ((s.crossLost d p (s.modLogical d p) dir).get (Pg.xport d) Xport.STATUS_FORCED_HOLD) (s.modLogical d p) = true := by
      rintro rfl hm
      exact State.crossLost_forced s d p _ h1 h6 hm hnew
    have herr := State.errN_of_crossLost _ hfatal
    rw [State.serviceLost_eq hactive hrole hfree]
    generalize s.crossLost d p (s.modLogical d p) dir = t at *
    exact ⟨hfatal, herr, hraised, hlost, hforced⟩

end Sys2Proof
end
section
/-! SUPPORT. The agreement on a map in MAP_AGREE (R122): what the hub sends, what the die applies, and how TRAIN_DONE ends it. -/

namespace Sys2Proof.Machine

open Reg

section
variable (s : State) (d p dir die hub : Nat)

/-- The map of R122 steps 2 and 3. -/
def State.agreedMask : Nat := die &&& hub &&& s.wireMask (Pg.port d) p dir

def State.agreedAssign : Nat := assignSpares (s.agreedMask d p dir die hub) (s.wireAssign (Pg.port d) p dir)

/-- Beyond the stored map an agreement is entries in the books. -/
theorem State.agreeMap_changes : ChangesIn (InEvents d) (s.storeMap d p dir (s.agreedMask d p dir die hub) (s.agreedAssign d p dir die hub))
    (s.agreeMap d p dir die hub) :=
  (ChangesIn.forEach (fun _ _ _ => (State.history_books _ _ _ _ _).mono inEvents_of_inBooks) _).trans
    (ChangesIn.forEach (fun _ _ _ => ((State.history_books _ _ _ _ _).mono inEvents_of_inBooks).trans
      (State.portEvent_changes _ _ _ _ _ _ _ _)) _)

@[simp] theorem State.agreeMap_link : (s.agreeMap d p dir die hub).link = s.link := by
  unfold State.agreeMap
  refine (forEach_keeps State.link _ (fun jk u => ?_) _).trans ((forEach_keeps State.link _ (fun w u => ?_) _).trans (s.storeMap_link _ _ _ _ _))
  · rw [State.portEvent_link, State.history_link]
  · exact u.history_link _ _ _ _

variable {d p dir} in
theorem State.mapOf_agreeMap (hp : p < 17) (hi : 2 * p + dir < 34) : (s.agreeMap d p dir die hub).mapOf d p dir =
    { mask := BitVec.ofNat 68 (s.agreedMask d p dir die hub), assign := BitVec.ofNat 28 (s.agreedAssign d p dir die hub) } := by
  have hchanges := s.agreeMap_changes d p dir die hub
  rw [State.mapOf, hchanges.wireMask_eq hi, hchanges.wireAssign_eq hi, State.wireMask_storeMap _ _ _ hp hi, State.wireAssign_storeMap _ _ _ hp hi]
  congr 1 <;> exact BitVec.eq_of_toNat_eq (by simp)

end

section
variable {s : State} {d p dir : Nat}

theorem State.maskReported_of_not {mask : Nat} (h : s.portState d ≠ 4) : s.maskReported d p dir mask = s := if_neg fun hc => h hc.1

/-- The die's mask as the hub counts it: none where the forwarded clock failed (R120). -/
def State.dieMask (s : State) (d p dir mask : Nat) : Nat := if ofDir dir (s.linkMod d p).clkFail then 0 else mask

/-- MASK_REPORT sends the agreed map. -/
theorem State.sent_maskReported {mask : Nat} (h : s.portState d = 4) (hrole : s.modRole d p ≠ 3) (hp : p < 17) (hi : 2 * p + dir < 34) :
    ofDir dir ((s.maskReported d p dir mask).linkMod d p).sent = some {
      mask := BitVec.ofNat 68 (s.agreedMask d p dir (s.dieMask d p dir mask) (s.hubMask d p dir)),
      assign := BitVec.ofNat 28 (s.agreedAssign d p dir (s.dieMask d p dir mask) (s.hubMask d p dir)) } := by
  unfold State.maskReported
  rw [if_pos ⟨h, hrole⟩]
  simp only [State.linkMod_setLinkMod, ofDir_putDir]
  rw [State.mapOf_agreeMap s _ _ hp hi]
  rfl

theorem State.mapAssigned_regs (w : WireMap) : (s.mapAssigned d p dir w).regs = s.regs := by
  unfold State.mapAssigned
  split_ifs <;> rfl

theorem State.mapAssigned_of_not {w : WireMap} (h : s.portState d ≠ 4) : s.mapAssigned d p dir w = s := if_neg fun hc => h hc.1

theorem State.applied_mapAssigned {w : WireMap} (h : s.portState d = 4) (hsent : (ofDir dir (s.linkMod d p).sent).isSome = true) :
    ofDir dir ((s.mapAssigned d p dir w).linkMod d p).applied = some w := by
  unfold State.mapAssigned
  rw [if_pos ⟨h, hsent⟩]
  simp

/-! ## TRAIN_DONE -/

/-- The direction is agreed, and the die-side page reads the map. -/
def State.directionAgreed (s : State) (d p dir : Nat) (w : WireMap) : State :=
  (s.setLinkMod d p { s.linkMod d p with agreed := putDir dir true (s.linkMod d p).agreed }).putMap (Pg.dieSide d) p dir w.mask.toNat w.assign.toNat

theorem State.trainDoneReceived_of_not {w : WireMap} (h : s.portState d ≠ 4) : s.trainDoneReceived d p dir w = s := if_neg fun hc => h hc.1

theorem State.trainDoneReceived_of_other {w w' : WireMap} (h : s.portState d = 4) (hsent : ofDir dir (s.linkMod d p).sent = some w')
    (hw : w' ≠ w) : s.trainDoneReceived d p dir w = s.attemptFail d := by
  unfold State.trainDoneReceived
  rw [if_pos ⟨h, by rw [hsent]; rfl⟩, if_neg (by rw [hsent]; simpa using hw)]

theorem State.trainDoneReceived_of_same {w : WireMap} (h : s.portState d = 4) (hsent : ofDir dir (s.linkMod d p).sent = some w) :
    s.trainDoneReceived d p dir w = if (s.directionAgreed d p dir w).allAgreed d = true then
      (s.directionAgreed d p dir w).set (Pg.port d) Port.STATUS_STATE 5 else s.directionAgreed d p dir w := by
  unfold State.trainDoneReceived
  rw [if_pos ⟨h, by rw [hsent]; rfl⟩, if_pos hsent]
  rfl

theorem le_dieSide {d : Nat} (h : 1 ≤ d) : 0x1000 ≤ Pg.dieSide d := by
  unfold Pg.dieSide Pg.dieBase
  split_ifs <;> omega

/-- What the die-side page reads does not touch the pages below the dies'. -/
theorem State.putMap_below {page i q : Nat} {f : RegField} (mask assign : Nat) (hq : q < page) (hf : f.inPage = true) (hi : i < f.count) :
    (s.putMap page p dir mask assign).get q f i = s.get q f i := by
  have hne (g : RegField) : fieldKey q f i ≠ fieldKey page g (2 * p + dir) := by
    have hlow := fieldKey_page (p := q) hf hi
    have hhigh := le_fieldKey_page page g (2 * p + dir)
    intro he
    rw [he] at hlow
    omega
  unfold State.putMap
  rw [State.get_set_other _ _ (hne _), State.get_set_other _ _ (hne _), State.get_set_other _ _ (hne _), State.get_set_other _ _ (hne _)]

theorem State.portState_directionAgreed (w : WireMap) (hd : isPort d = true) : (s.directionAgreed d p dir w).portState d = s.portState d := by
  obtain ⟨h1, h6⟩ := isPort_range hd
  exact State.putMap_below _ _ (lt_of_lt_of_le (by simp only [Pg.port]; omega) (le_dieSide h1)) (by decide) (by decide)

theorem State.held_directionAgreed (w : WireMap) (hd : isPort d = true) :
    (s.directionAgreed d p dir w).get Pg.reset Reset.RST_DIE_STAT_HELD = s.get Pg.reset Reset.RST_DIE_STAT_HELD :=
  State.putMap_below _ _ (lt_of_lt_of_le (by decide) (le_dieSide (isPort_range hd).1)) (by decide) (by decide)

/-- The state of a port is no word of a die-side page. -/
theorem State.get_dieSide_setState (f : RegField) (i v : Nat) (hd : isPort d = true) :
    (s.set (Pg.port d) Port.STATUS_STATE v).get (Pg.dieSide d) f i = s.get (Pg.dieSide d) f i := by
  obtain ⟨h1, h6⟩ := isPort_range hd
  refine State.get_set_other _ _ fun he => ?_
  have hhigh := (le_dieSide h1).trans (le_fieldKey_page (Pg.dieSide d) f i)
  rw [he, fieldKey_page (by decide) (by decide)] at hhigh
  simp only [Pg.port] at hhigh
  omega

/-- The outcome of TRAIN_DONE with equal maps. -/
theorem State.trainDoneReceived_agrees {w : WireMap} (hd : isModuleDir d p dir = true) (h : s.portState d = 4)
    (hsent : ofDir dir (s.linkMod d p).sent = some w) :
    let t := s.trainDoneReceived d p dir w
    ofDir dir (t.linkMod d p).agreed = true ∧ t.wireMask (Pg.dieSide d) p dir = w.mask.toNat ∧
      t.wireAssign (Pg.dieSide d) p dir = w.assign.toNat ∧ (t.portState d = 4 ∨ t.portState d = 5) ∧
      t.get Pg.reset Reset.RST_DIE_STAT_HELD = s.get Pg.reset Reset.RST_DIE_STAT_HELD := by
  obtain ⟨hport, -, -⟩ := isModuleDir_parts hd
  obtain ⟨-, hi⟩ := isModuleDir_lt hd
  have hagreed : ofDir dir ((s.directionAgreed d p dir w).linkMod d p).agreed = true := by
    change ofDir dir ((s.setLinkMod d p _).linkMod d p).agreed = true
    simp
  have hmask : (s.directionAgreed d p dir w).wireMask (Pg.dieSide d) p dir = w.mask.toNat :=
    (State.wireMask_putMap _ _ _ hi).trans (Nat.mod_eq_of_lt w.mask.isLt)
  have hassign : (s.directionAgreed d p dir w).wireAssign (Pg.dieSide d) p dir = w.assign.toNat :=
    (State.wireAssign_putMap _ _ _ _ _ _).trans (Nat.mod_eq_of_lt w.assign.isLt)
  have hstate := (State.portState_directionAgreed (s := s) (p := p) (dir := dir) w hport).trans h
  have hheld := State.held_directionAgreed (s := s) (p := p) (dir := dir) w hport
  dsimp only
  rw [State.trainDoneReceived_of_same h hsent]
  generalize s.directionAgreed d p dir w = u at *
  split
  case isFalse => exact ⟨hagreed, hmask, hassign, Or.inl hstate, hheld⟩
  case isTrue =>
    refine ⟨hagreed, ?_, ?_, Or.inr ?_, ?_⟩
    · rw [State.wireMask, State.get_dieSide_setState _ _ _ hport, State.get_dieSide_setState _ _ _ hport,
        State.get_dieSide_setState _ _ _ hport]
      exact hmask
    · exact (State.get_dieSide_setState _ _ _ hport).trans hassign
    · exact State.get_set_same _ _ _ _ _
    · exact (State.get_set_other _ _ (fieldKey_held_ne d _ 0 0).1.symm).trans hheld

end

end Sys2Proof.Machine
end
section
namespace Sys2Proof

open Machine Machine.Reg

/-- Settles O18, command by command: the map that is sent is the stored one after the agreement; equal maps are put at the die-side page; a
difference is the failure of the attempt, and no die comes to be held. -/
theorem hubAndDieAgreeOnTheMap : Obligations.HubAndDieAgreeOnTheMap := by
  unfold Obligations.HubAndDieAgreeOnTheMap
  intro s d p dir hd
  obtain ⟨hp, hi⟩ := isModuleDir_lt hd
  dsimp only
  refine ⟨fun mask => completes_of_onPart rfl hd ⟨fun h hrole => State.sent_maskReported h hrole hp hi, fun h => ?_⟩,
    fun w => completes_of_onPart rfl hd ⟨State.mapAssigned_regs w, State.applied_mapAssigned, fun h => ?_⟩,
    fun w => completes_of_onPart rfl hd ⟨fun h hsent => ?_, fun h hother hattempts => ?_, fun h => ?_⟩⟩
  · rw [State.maskReported_of_not h]
  · rw [State.mapAssigned_of_not h]
  · obtain ⟨hagreed, hmask, hassign, hstate, hheld⟩ := State.trainDoneReceived_agrees hd h hsent
    rw [State.newlyHeld_of_same hheld]
    generalize s.trainDoneReceived d p dir w = t at *
    exact ⟨hagreed, hmask, hassign, hstate⟩
  · obtain ⟨w', hsent, hw⟩ := hother
    have hraised := State.attemptFail_raises (s := s) (d := d)
    have hstate := State.beginAttempt_state (s.setInt (Pg.port d) Port.INT_ATTEMPT_FAIL) d
    rw [State.trainDoneReceived_of_other h hsent hw, State.newlyHeld_attemptFail hattempts]
    rw [← State.attemptFail_of_lt hattempts] at hstate
    generalize s.attemptFail d = t at *
    exact ⟨hstate, hraised⟩
  · rw [State.trainDoneReceived_of_not h, State.newlyHeld_self]

end Sys2Proof
end
section
/-! SUPPORT. Slots of a Skein module (R131 to R133): what a slot, a control block and a replay leave in the records of a direction. -/

namespace Sys2Proof.Machine

open Reg

/-! ## One slot -/

/-- What the receiver has made of a slot `x`, `l` before and `n` after. -/
structure SlotOutcome (l n : LinkDir) (x : Nat) (good : Bool) : Prop where
  accepted : good = true → slotValid x = true → slotSeq x = l.expected →
    n.rx = l.rx ++ [slotFlit x] ∧ n.expected = (l.expected + 1) % 1024 ∧ n.nak = false
  failed : good = false → n.rx = l.rx ∧ n.expected = l.expected ∧ n.nak = true
  other : good = true → slotValid x = true → slotSeq x ≠ l.expected → n.rx = l.rx ∧ n.expected = l.expected
  empty : good = true → slotValid x = false → n.rx = l.rx ∧ n.expected = l.expected ∧ n.nak = l.nak
  second : n.second = l.second

section
variable (s : State) (d m dir p x : Nat) (sent : Option Nat) (framed : Bool)

theorem State.slotArrives_outcome :
    SlotOutcome (s.linkDir d m dir) ((s.slotArrives d m dir p x sent framed).linkDir d m dir) x (framed && slotGood x) := by
  unfold State.slotArrives
  cases hgood : framed && slotGood x with
  | false =>
    rw [if_pos rfl, State.linkDir_setLinkDir]
    constructor <;> simp
  | true =>
    rw [if_neg (by decide)]
    cases hvalid : slotValid x with
    | false =>
      rw [if_pos rfl]
      constructor <;> simp [hvalid]
    | true =>
      rw [if_neg (by decide)]
      split
      case isTrue h =>
        rw [State.linkDir_setLinkDir]
        constructor <;> simp [hvalid, h]
      case isFalse h =>
        rw [State.linkDir_setLinkDir]
        constructor <;> simp [hvalid, h]

theorem State.slotArrives_span : (s.slotArrives d m dir p x sent framed).span = s.span := by
  unfold State.slotArrives
  dsimp only
  split_ifs <;> rfl

theorem State.slotArrives_other {e : Nat} (h : e ≠ dir) : (s.slotArrives d m dir p x sent framed).linkDir d m e = s.linkDir d m e := by
  unfold State.slotArrives
  dsimp only
  split_ifs
  · exact State.linkDir_setLinkDir_other _ _ _ _ h
  · rfl
  · exact State.linkDir_setLinkDir_other _ _ _ _ h
  · exact State.linkDir_setLinkDir_other _ _ _ _ h
  · exact State.linkDir_setLinkDir_other _ _ _ _ h

/-- A slot that is not good is counted. -/
theorem State.slotArrives_counted (h : (framed && slotGood x) = false) :
    (s.slotArrives d m dir p x sent framed).get (Pg.port d) Port.LMH_ERRS_FAILED_FRAMES p =
      min (s.get (Pg.port d) Port.LMH_ERRS_FAILED_FRAMES p + 1) 0xFFFF := by
  unfold State.slotArrives
  rw [if_pos h]
  refine (State.get_count_same s _ _ _ _).trans ?_
  simp only [satAdd, RegField.width, Port.LMH_ERRS_FAILED_FRAMES]
  omega

end

/-! ## The link control block -/

section
variable (s : State) (d m : Nat) {dir : Nat} (x : Nat) (hdir : dir < 2)

theorem State.linkAck_buffer (e ack : Nat) : ((s.linkAck d m e ack).linkDir d m e).buffer =
    if (s.linkDir d m e).buffer.any (fun b => b.1 = ack) then ((s.linkDir d m e).buffer.dropWhile (fun b => b.1 ≠ ack)).drop 1
    else (s.linkDir d m e).buffer := by
  unfold State.linkAck
  dsimp only
  split_ifs
  · simp
  · rfl

theorem State.linkAck_other {e dir : Nat} (ack : Nat) (h : dir ≠ e) : (s.linkAck d m e ack).linkDir d m dir = s.linkDir d m dir := by
  unfold State.linkAck
  dsimp only
  split_ifs
  · exact State.linkDir_setLinkDir_other _ _ _ _ h
  · rfl

theorem State.linkAck_regs_span (e ack : Nat) : (s.linkAck d m e ack).regs = s.regs ∧ (s.linkAck d m e ack).span = s.span := by
  unfold State.linkAck
  dsimp only
  split_ifs <;> exact ⟨rfl, rfl⟩

/-- The control block's ACK has been taken. -/
def State.ackTaken (dir : Nat) : State := if bit x 10 then s.linkAck d m (1 - dir) (bits x 9 0) else s

theorem State.controlReceived_eq (dir : Nat) : s.controlReceived d m dir x = if bit x 21 then (s.ackTaken d m x dir).setLinkDir d m (1 - dir)
    { (s.ackTaken d m x dir).linkDir d m (1 - dir) with nakIn := some (bits x 20 11) } else s.ackTaken d m x dir := rfl

theorem State.ackTaken_regs_span (dir : Nat) : (s.ackTaken d m x dir).regs = s.regs ∧ (s.ackTaken d m x dir).span = s.span := by
  unfold State.ackTaken
  split
  · exact s.linkAck_regs_span d m _ _
  · exact ⟨rfl, rfl⟩

theorem State.controlReceived_regs_span (dir : Nat) : (s.controlReceived d m dir x).regs = s.regs ∧ (s.controlReceived d m dir x).span = s.span := by
  rw [State.controlReceived_eq]
  split <;> exact s.ackTaken_regs_span d m x dir

include hdir in
theorem State.controlReceived_same : (s.controlReceived d m dir x).linkDir d m dir = s.linkDir d m dir := by
  have hne : dir ≠ 1 - dir := by omega
  have hack : (s.ackTaken d m x dir).linkDir d m dir = s.linkDir d m dir := by
    unfold State.ackTaken
    split
    · exact s.linkAck_other d m _ hne
    · rfl
  rw [State.controlReceived_eq]
  split
  · exact (State.linkDir_setLinkDir_other _ _ _ _ hne).trans hack
  · exact hack

/-- An ACK takes what it covers off the replay buffer (R131). -/
theorem State.controlReceived_ack (dir : Nat) (h : bit x 10 = true)
    (hany : (s.linkDir d m (1 - dir)).buffer.any (fun e => e.1 = bits x 9 0) = true) :
    ((s.controlReceived d m dir x).linkDir d m (1 - dir)).buffer =
      ((s.linkDir d m (1 - dir)).buffer.dropWhile (fun e => e.1 ≠ bits x 9 0)).drop 1 := by
  have hack := s.linkAck_buffer d m (1 - dir) (bits x 9 0)
  rw [if_pos hany] at hack
  rw [State.controlReceived_eq, State.ackTaken, if_pos h]
  split
  · rw [State.linkDir_setLinkDir]
    exact hack
  · exact hack

/-- A NAK is held for the replay (R132). -/
theorem State.controlReceived_nak (dir : Nat) (h : bit x 21 = true) :
    ((s.controlReceived d m dir x).linkDir d m (1 - dir)).nakIn = some (bits x 20 11) := by
  rw [State.controlReceived_eq, if_pos h, State.linkDir_setLinkDir]

end

/-! ## The next slot of a direction -/

section
variable (s : State) (d m dir p : Nat) (err : BitVec 1700)

/-- What a transmitter has sent changes where it goes on, and nothing that its receiver looks at. -/
theorem nextSlot_receiver (l : LinkDir) : ∃ n, (State.nextSlot l).2 = { l with sendSeq := n } := by
  unfold State.nextSlot
  split
  · exact ⟨_, rfl⟩
  · exact ⟨l.sendSeq, rfl⟩

theorem State.skeinFrame_receiver (half : Bool) : ∃ n, (s.skeinFrame d m dir half).2.2.2 = { s.linkDir d m dir with sendSeq := n } := by
  obtain ⟨n, hn⟩ := nextSlot_receiver (s.linkDir d m dir)
  obtain ⟨k, hk⟩ := nextSlot_receiver (State.nextSlot (s.linkDir d m dir)).2
  cases half with
  | true => exact ⟨n, hn⟩
  | false => exact ⟨k, hk.trans (by rw [hn])⟩

/-- What the other end sends next, as it comes off the wires. -/
def State.slotWires (half : Bool) : Nat × Nat :=
  let w := frameWires half (s.wireMask (Pg.port d) p dir) (s.wireAssign (Pg.port d) p dir)
  offWires w (onWires w (s.skeinFrame d m dir half).1 (frameHead (SMap.read 0 s.span.txSeq (spanDirKey d m dir)) 0) ^^^ err.toNat)

/-- A frame has begun to arrive: both ends count it, and its second slot waits. -/
def State.slotBegun (half : Bool) (second : Option (BitVec 640 × Option Nat × Bool)) : State :=
  let k := spanDirKey d m dir
  ({ s with span := { s.span with
    txSeq := SMap.write 0 s.span.txSeq k ((SMap.read 0 s.span.txSeq k + 1) % 16)
    seq4 := SMap.write 0 s.span.seq4 k ((SMap.read 0 s.span.seq4 k + 1) % 16) } }).setLinkDir d m dir
    { (s.skeinFrame d m dir half).2.2.2 with second := second }

/-- Its control block, if there is a good one, has been taken. -/
def State.controlTaken (t : State) (c : Option Nat) : State := match c with
  | some x => t.controlReceived d m dir x
  | none => t

theorem State.slotReceived_of_second {y : BitVec 640 × Option Nat × Bool} (h : (s.linkDir d m dir).second = some y) :
    s.slotReceived d m dir p err =
      (s.setLinkDir d m dir { s.linkDir d m dir with second := none }).slotArrives d m dir p y.1.toNat y.2.1 y.2.2 := by
  unfold State.slotReceived
  simp only [h]

theorem State.slotReceived_of_none (h : (s.linkDir d m dir).second = none) :
    let half := ofDir dir (s.linkMod d p).half
    let r := s.slotWires d m dir p err half
    let framed := headGood r.2 (SMap.read 0 s.span.seq4 (spanDirKey d m dir))
    let f := s.skeinFrame d m dir half
    s.slotReceived d m dir p err = (State.controlTaken d m dir (s.slotBegun d m dir half
      (if half then none else some (BitVec.ofNat 640 (r.1 >>> 640), f.2.2.1, framed))) (if framed then controlOf half r.1 else none)).slotArrives
        d m dir p (r.1 % 2 ^ 640) f.2.1 framed := by
  unfold State.slotReceived
  simp only [h]
  rfl

end

end Sys2Proof.Machine
end
section
/-! SUPPORT. The receipt of a slot, replays and retrains of Skein modules as wholes (R131 to R134). -/

namespace Sys2Proof.Machine

open Reg

/-! ## The receipt of a slot -/

section
variable (s : State) (d m : Nat) {dir : Nat} (hdir : dir < 2)

theorem State.slotBegun_same (dir : Nat) (half : Bool) (second : Option (BitVec 640 × Option Nat × Bool)) :
    ∃ n, (s.slotBegun d m dir half second).linkDir d m dir = { s.linkDir d m dir with sendSeq := n, second := second } := by
  obtain ⟨n, hn⟩ := s.skeinFrame_receiver d m dir half
  refine ⟨n, (State.linkDir_setLinkDir _ _ _ _ _).trans ?_⟩
  rw [hn]

theorem State.slotBegun_seq4 (dir : Nat) (half : Bool) (second : Option (BitVec 640 × Option Nat × Bool)) :
    SMap.read 0 (s.slotBegun d m dir half second).span.seq4 (spanDirKey d m dir) = (SMap.read 0 s.span.seq4 (spanDirKey d m dir) + 1) % 16 :=
  SMap.read_write_same 0 s.span.seq4 _ _

include hdir in
theorem State.slotBegun_back (half : Bool) (second : Option (BitVec 640 × Option Nat × Bool)) :
    (s.slotBegun d m dir half second).linkDir d m (1 - dir) = s.linkDir d m (1 - dir) :=
  State.linkDir_setLinkDir_other _ _ _ _ (by omega)

theorem State.controlTaken_regs_span (dir : Nat) (c : Option Nat) :
    (State.controlTaken d m dir s c).regs = s.regs ∧ (State.controlTaken d m dir s c).span = s.span := by
  cases c with
  | none => exact ⟨rfl, rfl⟩
  | some x => exact s.controlReceived_regs_span d m x dir

include hdir in
theorem State.controlTaken_same (c : Option Nat) : (State.controlTaken d m dir s c).linkDir d m dir = s.linkDir d m dir := by
  cases c with
  | none => rfl
  | some x => exact s.controlReceived_same d m x hdir

end

section
variable {s : State} {d m dir p : Nat} {err : BitVec 1700} (hdir : dir < 2)
include hdir

/-- The second slot of a frame: the receiver's judgement is all that happens. -/
theorem State.slotReceived_second {y : BitVec 640 × Option Nat × Bool} (h : (s.linkDir d m dir).second = some y) :
    let t := s.slotReceived d m dir p err
    SlotOutcome { s.linkDir d m dir with second := none } (t.linkDir d m dir) y.1.toNat (y.2.2 && slotGood y.1.toNat) ∧
      ((y.2.2 && slotGood y.1.toNat) = false → t.get (Pg.port d) Port.LMH_ERRS_FAILED_FRAMES p =
        min (s.get (Pg.port d) Port.LMH_ERRS_FAILED_FRAMES p + 1) 0xFFFF) ∧
      t.linkDir d m (1 - dir) = s.linkDir d m (1 - dir) := by
  have hback : 1 - dir ≠ dir := by omega
  have houtcome := (s.setLinkDir d m dir { s.linkDir d m dir with second := none }).slotArrives_outcome d m dir p y.1.toNat y.2.1 y.2.2
  rw [State.linkDir_setLinkDir] at houtcome
  dsimp only
  rw [State.slotReceived_of_second _ _ _ _ _ _ h]
  exact ⟨houtcome, State.slotArrives_counted _ _ _ _ _ _ _ _,
    (State.slotArrives_other _ _ _ _ _ _ _ _ hback).trans (State.linkDir_setLinkDir_other _ _ _ _ hback)⟩

/-- The first slot of a frame: the frame begins, its control block is taken, and the slot is judged. -/
theorem State.slotReceived_first (h : (s.linkDir d m dir).second = none) :
    let half := ofDir dir (s.linkMod d p).half
    let r := s.slotWires d m dir p err half
    let framed := headGood r.2 (SMap.read 0 s.span.seq4 (spanDirKey d m dir))
    let x := r.1 % 2 ^ 640
    let t := s.slotReceived d m dir p err
    let back := s.linkDir d m (1 - dir)
    (∃ n second, SlotOutcome { s.linkDir d m dir with sendSeq := n, second := second } (t.linkDir d m dir) x (framed && slotGood x) ∧
      second.isSome = !half) ∧
    ((framed && slotGood x) = false → t.get (Pg.port d) Port.LMH_ERRS_FAILED_FRAMES p =
      min (s.get (Pg.port d) Port.LMH_ERRS_FAILED_FRAMES p + 1) 0xFFFF) ∧
    SMap.read 0 t.span.seq4 (spanDirKey d m dir) = (SMap.read 0 s.span.seq4 (spanDirKey d m dir) + 1) % 16 ∧
    ∀ c, framed = true → controlOf half r.1 = some c →
      (bit c 10 = true → back.buffer.any (fun e => e.1 = bits c 9 0) = true →
        (t.linkDir d m (1 - dir)).buffer = (back.buffer.dropWhile (fun e => e.1 ≠ bits c 9 0)).drop 1) ∧
      (bit c 21 = true → (t.linkDir d m (1 - dir)).nakIn = some (bits c 20 11)) := by
  have hback : 1 - dir ≠ dir := by omega
  intro half r framed x t back
  obtain ⟨second, hsecond, ht⟩ : ∃ second, second = (if half then none else some (BitVec.ofNat 640 (r.1 >>> 640), (s.skeinFrame d m dir half).2.2.1, framed)) ∧
      t = (State.controlTaken d m dir (s.slotBegun d m dir half second) (if framed then controlOf half r.1 else none)).slotArrives
        d m dir p x (s.skeinFrame d m dir half).2.1 framed := ⟨_, rfl, State.slotReceived_of_none s d m dir p err h⟩
  obtain ⟨n, hbegun⟩ := s.slotBegun_same d m dir half second
  obtain ⟨hregs, hspan⟩ := (s.slotBegun d m dir half second).controlTaken_regs_span d m dir (if framed then controlOf half r.1 else none)
  have hsame := (s.slotBegun d m dir half second).controlTaken_same d m hdir (if framed then controlOf half r.1 else none)
  rw [ht]
  refine ⟨⟨n, second, ?_, ?_⟩, fun hbad => ?_, ?_, fun c hframed hc => ?_⟩
  · rw [← hbegun, ← hsame]
    exact State.slotArrives_outcome _ _ _ _ _ _ _ _
  · rw [hsecond]
    cases half <;> rfl
  · rw [State.slotArrives_counted _ _ _ _ _ _ _ _ hbad, State.get_of_regs hregs]
    rfl
  · rw [State.slotArrives_span, hspan, State.slotBegun_seq4]
  · have hback' := s.slotBegun_back d m hdir half second
    rw [State.slotArrives_other _ _ _ _ _ _ _ _ hback, if_pos hframed, hc]
    rw [show back = (s.slotBegun d m dir half second).linkDir d m (1 - dir) from hback'.symm]
    exact ⟨State.controlReceived_ack _ _ _ _ _, State.controlReceived_nak _ _ _ _ _⟩

end

/-! ## Replay -/

section
variable {s : State} {d m dir : Nat}

/-- REPLAY of an ACTIVE port (R132). -/
def State.replayed (s : State) (d m dir : Nat) : State := if s.portActive d then s.linkReplay d m dir else s

theorem State.replayed_of_not (h : s.portActive d = false ∨ (s.linkDir d m dir).nakIn = none) : s.replayed d m dir = s := by
  unfold State.replayed State.linkReplay
  rcases h with h | h
  · rw [if_neg (by simp [h])]
  · simp only [h, ite_self]

theorem State.replayed_regs_buffer : (s.replayed d m dir).regs = s.regs ∧
    ((s.replayed d m dir).linkDir d m dir).buffer = (s.linkDir d m dir).buffer := by
  unfold State.replayed State.linkReplay
  split
  case isFalse => exact ⟨rfl, rfl⟩
  case isTrue =>
    dsimp only
    split
    · exact ⟨rfl, by rw [State.linkDir_setLinkDir]⟩
    · exact ⟨rfl, rfl⟩

theorem State.replayed_nak {nak : Nat} (hactive : s.portActive d = true) (h : (s.linkDir d m dir).nakIn = some nak) :
    ((s.replayed d m dir).linkDir d m dir).nakIn = none ∧ ((s.replayed d m dir).linkDir d m dir).sendSeq =
      if (s.linkDir d m dir).buffer.any (fun e => e.1 = nak) = true then nak else (s.linkDir d m dir).sendSeq := by
  unfold State.replayed State.linkReplay
  rw [if_pos hactive]
  simp only [h, State.linkDir_setLinkDir, and_self]

end

/-! ## Retrains -/

section
variable {s : State} {d m dir p : Nat}

theorem State.moduleRetrain_starts (hp : s.physOf d m = some p) (hdir : dir < 2) (hstate : s.modState d p = 2 ∨ s.modState d p = 3)
    (hrole : s.modRole d p = 1) (h : (s.linkDir d m dir).failedTwice = true) : (s.moduleRetrain d m).modState d p = 1 := by
  have heither : (s.linkDir d m 0).failedTwice = true ∨ (s.linkDir d m 1).failedTwice = true := by
    obtain rfl | rfl : dir = 0 ∨ dir = 1 := by omega
    · exact Or.inl h
    · exact Or.inr h
  unfold State.moduleRetrain
  simp only [hp]
  rw [if_pos ⟨hstate, hrole, heither⟩]
  exact State.get_set_same _ _ _ _ _

theorem State.moduleRetrain_of_not (h0 : (s.linkDir d m 0).failedTwice = false) (h1 : (s.linkDir d m 1).failedTwice = false) :
    s.moduleRetrain d m = s := by
  unfold State.moduleRetrain
  split
  · exact if_neg (by simp [h0, h1])
  · rfl

/-- Neither a second failure nor a NAK is pending at a receiver. -/
def NothingPending (t : State) (key : Nat) : Prop :=
  (SMap.read {} t.link.dirs key).failedTwice = false ∧ (SMap.read {} t.link.dirs key).nak = false

theorem NothingPending.of_dirs {t : State} {key : Nat} (h : NothingPending s key) (hdirs : t.link.dirs = s.link.dirs) : NothingPending t key := by
  rwa [NothingPending, hdirs]

/-- A record replaced by one with nothing pending. -/
theorem NothingPending.setLinkDir {key e k : Nat} {l : LinkDir} (h : NothingPending s key)
    (hl : (d * 16 + k) * 2 + e = key → l.failedTwice = false ∧ l.nak = false) : NothingPending (s.setLinkDir d k e l) key := by
  by_cases hkey : key = (d * 16 + k) * 2 + e
  · subst hkey
    have hread : SMap.read {} (s.setLinkDir d k e l).link.dirs ((d * 16 + k) * 2 + e) = l := SMap.read_write_same _ _ _ _
    rw [NothingPending, hread]
    exact hl rfl
  · have hread : SMap.read {} (s.setLinkDir d k e l).link.dirs key = SMap.read {} s.link.dirs key := SMap.read_write_other _ _ _ _ hkey
    rwa [NothingPending, hread]

theorem NothingPending.moveFlits {key k e : Nat} (h : NothingPending s key) : NothingPending (s.moveFlits d k e) key := by
  unfold State.moveFlits
  split
  · exact h
  · dsimp only
    have hstart := h.setLinkDir (d := d) (e := e) (k := k) (l := { s.linkDir d k e with buffer := [] }) (by rintro rfl; exact h)
    generalize s.setLinkDir d k e _ = u at hstart
    induction (List.filter _ (s.linkDir d k e).buffer).map Prod.snd generalizing u with
    | nil => exact hstart
    | cons f fs ih => exact ih _ (hstart.setLinkDir (by rintro rfl; exact hstart))

theorem NothingPending.portEvent {key : Nat} (h : NothingPending s key) (code sev q wire : Nat) (int : Option Nat) (warns : Bool) :
    NothingPending (s.portEvent d code sev q wire int warns) key := h.of_dirs (by rw [State.portEvent_link])

theorem NothingPending.historyOnce {key : Nat} (h : NothingPending s key) (kind page location what : Nat) :
    NothingPending (s.historyOnce kind page location what) key := by
  unfold State.historyOnce
  split
  · exact h
  · exact h.of_dirs (by rw [State.history_link])

theorem NothingPending.skeinLast {key : Nat} (h : NothingPending s key) (ps : List Nat) : NothingPending (s.skeinLast d ps) key := by
  have hmoved : NothingPending (s.flitsMoved d ps) key := by
    unfold State.flitsMoved
    induction ps generalizing s with
    | nil => exact h
    | cons q ps ih => exact ih h.moveFlits.moveFlits
  unfold State.skeinLast
  dsimp only
  split
  · exact hmoved
  · split
    · exact hmoved
    · refine NothingPending.portEvent ?_ _ _ _ _ _ _
      change NothingPending (s.flitsMoved d ps) key
      exact hmoved

theorem NothingPending.skeinFails {key : Nat} (h : NothingPending s key) (q : Nat) : NothingPending (s.skeinFails d q) key := by
  unfold State.skeinFails
  exact NothingPending.portEvent (s := s.setModState d q 0) h _ _ _ _ _ _

theorem NothingPending.skeinHalf {key : Nat} (h : NothingPending s key) (q : Nat) (dirs : Bool × Bool) :
    NothingPending (s.skeinHalf d q dirs) key := by
  have hset : NothingPending ((s.setModState d q 3).setLinkMod d q { s.linkMod d q with
      half := ((s.linkMod d q).half.1 || dirs.1, (s.linkMod d q).half.2 || dirs.2) }) key := h.of_dirs rfl
  unfold State.skeinHalf
  refine NothingPending.portEvent ?_ _ _ _ _ _ _
  dsimp only
  split_ifs
  · exact (hset.historyOnce _ _ _ _).historyOnce _ _ _ _
  · exact hset.historyOnce _ _ _ _
  · exact hset.historyOnce _ _ _ _
  · exact hset

theorem NothingPending.skeinOutcome {key : Nat} (h : NothingPending s key) (q : Nat) : NothingPending (s.skeinOutcome d q) key := by
  have hwidth : NothingPending (s.skeinWidth d q) key := by
    unfold State.skeinWidth
    split_ifs
    · exact h.of_dirs rfl
    · exact h
    · exact h.skeinHalf q _
    · exact h.skeinFails q
  unfold State.skeinOutcome
  dsimp only
  split
  · exact hwidth.skeinLast _
  · exact hwidth

theorem NothingPending.linkResume_self (s : State) (d k e : Nat) : NothingPending (s.linkResume d k e) ((d * 16 + k) * 2 + e) := by
  have hread : SMap.read {} (s.linkResume d k e).link.dirs ((d * 16 + k) * 2 + e) = _ := SMap.read_write_same _ _ _ _
  rw [NothingPending, hread]
  exact ⟨rfl, rfl⟩

theorem NothingPending.linkResume {key : Nat} (h : NothingPending s key) (k e : Nat) : NothingPending (s.linkResume d k e) key :=
  NothingPending.setLinkDir (s := { s with span := _ }) h fun _ => ⟨rfl, rfl⟩

end

/-! ## What a Skein module becomes (R129) -/

section
variable (s : State) {d p : Nat} (hp : p < 17)

theorem State.modState_of_changes {s t : State} {a : Nat → Prop} (h : ChangesIn a s t) (ha : ¬a (fieldKey (Pg.port d) Port.LMH_MOD_MSTATE p)) :
    t.modState d p = s.modState d p := h _ _ _ ha

theorem State.modState_setModState (d p : Nat) (v : Nat) : (s.setModState d p v).modState d p = v % 8 := State.get_set_same s _ _ _ _

theorem State.skeinHalf_changes (d p : Nat) (dirs : Bool × Bool) : ChangesIn (InEvents d) (s.setModState d p 3) (s.skeinHalf d p dirs) := by
  unfold State.skeinHalf
  refine ChangesIn.trans ?_ (State.portEvent_changes _ _ _ _ _ _ _ _)
  have honce (u : State) (kind page location what : Nat) : ChangesIn (InEvents d) u (u.historyOnce kind page location what) :=
    (State.historyOnce_books _ _ _ _ _).mono inEvents_of_inBooks
  exact ChangesIn.trans (ChangesIn.trans (ChangesIn.of_regs _ (by rfl)) (ChangesIn.ite (fun _ => honce _ _ _ _ _) fun _ => ChangesIn.refl _ _))
    (ChangesIn.ite (fun _ => honce _ _ _ _ _) fun _ => ChangesIn.refl _ _)

theorem State.skeinLast_changes (d : Nat) (ps : List Nat) :
    ChangesIn (fun k => InEvents d k ∨ k = fieldKey (Pg.port d) Port.STATUS_DEGRADED 0) s (s.skeinLast d ps) := by
  have hmoved : ChangesIn (fun k => InEvents d k ∨ k = fieldKey (Pg.port d) Port.STATUS_DEGRADED 0) s (s.flitsMoved d ps) :=
    ChangesIn.of_regs _ (s.flitsMoved_regs d ps)
  unfold State.skeinLast
  dsimp only
  split
  · exact hmoved
  · refine ChangesIn.ite (fun _ => hmoved) fun _ => hmoved.trans ?_
    refine ChangesIn.trans (ChangesIn.trans (ChangesIn.of_regs _ (by rfl)) (ChangesIn.set _ _ (Or.inr rfl)))
      ((State.portEvent_changes _ _ _ _ _ _ _ _).mono fun _ => Or.inl)

include hp

theorem State.skeinHalf_modState (dirs : Bool × Bool) : (s.skeinHalf d p dirs).modState d p = 3 :=
  (State.modState_of_changes (s.skeinHalf_changes d p dirs) (not_inEvents_module d hp (by decide))).trans (s.modState_setModState d p 3)

theorem State.skeinFails_modState : (s.skeinFails d p).modState d p = 0 :=
  (State.modState_of_changes (State.portEvent_changes _ _ _ _ _ _ _ _) (not_inEvents_module d hp (by decide))).trans
    (s.modState_setModState d p 0)

theorem State.skeinLast_modState (ps : List Nat) : (s.skeinLast d ps).modState d p = s.modState d p := by
  refine State.modState_of_changes (s.skeinLast_changes d ps) ?_
  rintro (h | h)
  · exact not_inEvents_module d hp (by decide) h
  · exact fieldKey_ne_of_apart (by decide) hp (by decide) h

theorem State.skeinDown_modState : (s.skeinDown d p).modState d p = 0 := (State.skeinLast_modState _ hp _).trans (s.skeinFails_modState hp)

theorem State.skeinWidth_modState :
    (s.skeinWidth d p).modState d p = 2 ∨ (s.skeinWidth d p).modState d p = 3 ∨ (s.skeinWidth d p).modState d p = 0 := by
  unfold State.skeinWidth
  split_ifs with _ _ hhalf
  · exact Or.inl (s.modState_setModState d p 2)
  · exact Or.inr (Or.inl hhalf)
  · exact Or.inr (Or.inl (s.skeinHalf_modState hp _))
  · exact Or.inr (Or.inr (s.skeinFails_modState hp))

theorem State.skeinOutcome_modState :
    (s.skeinOutcome d p).modState d p = 2 ∨ (s.skeinOutcome d p).modState d p = 3 ∨ (s.skeinOutcome d p).modState d p = 0 := by
  have hwidth := s.skeinWidth_modState (d := d) hp
  unfold State.skeinOutcome
  dsimp only
  split
  · rwa [State.skeinLast_modState _ hp]
  · exact hwidth

end

/-! ## The end of a retrain -/

section
variable {s : State} {d m p : Nat}

/-- The maps of a retrain agreed anew. -/
def State.retrainMaps (s : State) (d p die0 hub0 die1 hub1 : Nat) : State := (s.agreeMap d p 0 die0 hub0).agreeMap d p 1 die1 hub1

/-- A retrain ends with the receivers afresh, and the module becomes what maps that both sides confirmed make of it, or goes DOWN (R129, R133). -/
theorem State.moduleRetrained_cases {die0 hub0 die1 hub1 : Nat} {w0 w1 : WireMap} {locked : Bool} (hp : s.physOf d m = some p)
    (hactive : s.portActive d = true) (hrole : s.modRole d p = 1) (hstate : s.modState d p = 1) :
    let t := s.moduleRetrained d m die0 hub0 die1 hub1 w0 w1 locked
    let u := s.retrainMaps d p die0 hub0 die1 hub1
    let agreed := w0 = u.mapOf d p 0 ∧ w1 = u.mapOf d p 1
    ∃ r, (∀ e < 2, NothingPending r ((d * 16 + m) * 2 + e)) ∧
      (t = r.skeinOutcome d p ∧ agreed ∧ locked = true ∨ t = r.skeinHalf d p (true, true) ∧ agreed ∨ t = r.skeinDown d p) := by
  unfold State.moduleRetrained
  simp only [hp]
  rw [if_pos ⟨hactive, hrole, hstate⟩]
  dsimp only [State.retrainMaps]
  generalize hr : (State.linkResume _ d m 0).linkResume d m 1 = r
  have hpending : ∀ e < 2, NothingPending r ((d * 16 + m) * 2 + e) := by
    rintro e he
    rw [← hr]
    obtain rfl | rfl : e = 0 ∨ e = 1 := by omega
    · exact (NothingPending.linkResume_self _ d m 0).linkResume m 1
    · exact NothingPending.linkResume_self _ d m 1
  refine ⟨r, hpending, ?_⟩
  split_ifs with hlocked hwires
  · exact Or.inl ⟨rfl, hlocked⟩
  · exact Or.inr (Or.inl ⟨rfl, hwires.1⟩)
  · exact Or.inr (Or.inr rfl)

end

end Sys2Proof.Machine
end
section
/-! SUPPORT. Slots on the modules that a command names, and the outcome of a retrain (R131 to R133). -/

namespace Sys2Proof.Machine

open Reg

section
variable {s : State} {d m dir p : Nat}

theorem isLogicalDir_parts (h : isLogicalDir d m dir = true) : isPort d = true ∧ m < logicalModules d ∧ dir < 2 := by
  simpa [isLogicalDir, and_assoc] using h

theorem isLogicalDir_zero (h : isLogicalDir d m dir = true) : isLogicalDir d m 0 = true := by
  obtain ⟨hport, hm, -⟩ := isLogicalDir_parts h
  simp [isLogicalDir, hport, hm]

theorem State.physOf_lt (h : s.physOf d m = some p) : p < 17 := by
  have hmem := List.mem_range.1 (List.mem_of_find?_eq_some h)
  have := portModules_le d
  omega

theorem State.skeinReceived_eq (h : s.physOf d m = some p) (hopen : s.skeinOpen d m = true) (err : BitVec 1700) :
    s.skeinReceived d m dir err = s.slotReceived d m dir p err := by
  unfold State.skeinReceived
  simp only [h, hopen, if_true]

/-- A module that retrains is FULL only with a frame lock, and DOWN where the maps were not confirmed. -/
theorem State.moduleRetrained_outcome {die0 hub0 die1 hub1 : Nat} {w0 w1 : WireMap} {locked : Bool} (hp : s.physOf d m = some p)
    (hactive : s.portActive d = true) (hrole : s.modRole d p = 1) (hstate : s.modState d p = 1) (hdir : dir < 2) :
    let t := s.moduleRetrained d m die0 hub0 die1 hub1 w0 w1 locked
    let u := s.retrainMaps d p die0 hub0 die1 hub1
    (t.modState d p = 2 ∨ t.modState d p = 3 ∨ t.modState d p = 0) ∧ (locked = false → t.modState d p ≠ 2) ∧
      (w0 ≠ u.mapOf d p 0 ∨ w1 ≠ u.mapOf d p 1 → t.modState d p = 0) ∧
      (t.linkDir d m dir).failedTwice = false ∧ (t.linkDir d m dir).nak = false := by
  have hlt := State.physOf_lt hp
  obtain ⟨r, hpending, hcases⟩ := State.moduleRetrained_cases (die0 := die0) (hub0 := hub0) (die1 := die1) (hub1 := hub1) (w0 := w0) (w1 := w1)
    (locked := locked) hp hactive hrole hstate
  dsimp only at hcases ⊢
  generalize s.moduleRetrained d m die0 hub0 die1 hub1 w0 w1 locked = t at *
  rcases hcases with ⟨rfl, hagreed, hlocked⟩ | ⟨rfl, hagreed⟩ | rfl
  · exact ⟨r.skeinOutcome_modState hlt, fun h => by simp [hlocked] at h, fun h => absurd hagreed (by tauto), (hpending dir hdir).skeinOutcome p⟩
  · have hhalf := r.skeinHalf_modState hlt (d := d) (true, true)
    exact ⟨Or.inr (Or.inl hhalf), fun _ => by omega, fun h => absurd hagreed (by tauto), (hpending dir hdir).skeinHalf p _⟩
  · have hdown := r.skeinDown_modState hlt (d := d)
    exact ⟨Or.inr (Or.inr hdown), fun _ => by omega, fun _ => hdown, ((hpending dir hdir).skeinFails p).skeinLast [p]⟩

end

end Sys2Proof.Machine
end
section
namespace Sys2Proof

open Machine Machine.Reg

/-- Settles O21: a slot is judged by its framing, its `SCRC`, `VALID` and `LSEQ`, whether it is the first of its frame or the second; a replay and
a retrain are read off the records of the direction and the word of the module. -/
theorem skeinModulesAcceptFlitsInOrder : Obligations.SkeinModulesAcceptFlitsInOrder := by
  unfold Obligations.SkeinModulesAcceptFlitsInOrder
  intro s d m dir hd p hp
  obtain ⟨-, -, hdir⟩ := isLogicalDir_parts hd
  have hd0 := isLogicalDir_zero hd
  refine ⟨fun _ hopen err => completes_of_onPart rfl hd ?_, completes_of_onPart rfl hd ?_, completes_of_onPart rfl hd0 ⟨fun hstate hrole hfailed => ?_, fun h0 h1 => ?_⟩,
    fun d0 h0 d1 h1 w0 w1 locked hactive hrole hstate => completes_of_onPart rfl hd0 ?_⟩
  · rw [State.skeinReceived_eq hp hopen]
    cases hsecond : (s.linkDir d m dir).second with
    | some y =>
      have hslot := State.slotReceived_second (p := p) (err := err) hdir hsecond
      generalize s.slotReceived d m dir p err = t at *
      obtain ⟨⟨haccepted, hfailed, hother, hempty, hnone⟩, hcount, hback⟩ := hslot
      dsimp only
      refine ⟨haccepted, fun h => ⟨(hfailed h).1, (hfailed h).2.1, (hfailed h).2.2, hcount h⟩, hother, hempty, by simp, fun _ _ => ⟨hnone, hback⟩, by simp⟩
    | none =>
      have hslot := State.slotReceived_first (p := p) (err := err) hdir hsecond
      generalize s.slotReceived d m dir p err = t at *
      obtain ⟨⟨n, second, ⟨haccepted, hfailed, hother, hempty, hsame⟩, hsome⟩, hcount, hseq, hcontrol⟩ := hslot
      dsimp only
      refine ⟨haccepted, fun h => ⟨(hfailed h).1, (hfailed h).2.1, (hfailed h).2.2, hcount h⟩, hother, hempty, fun _ => ⟨?_, hseq⟩, by simp, fun c _ => hcontrol c⟩
      exact (congrArg Option.isSome hsame).trans hsome
  · obtain ⟨hregs, hbuffer⟩ := State.replayed_regs_buffer (s := s) (d := d) (m := m) (dir := dir)
    refine ⟨hbuffer, hregs, fun nak hactive hnak => State.replayed_nak hactive hnak, fun h => ?_⟩
    exact congrArg (fun t : State => { t with pending := s.pending }) (State.replayed_of_not h)
  · exact State.moduleRetrain_starts hp hdir hstate hrole hfailed
  · rw [State.moduleRetrain_of_not h0 h1]
  · exact State.moduleRetrained_outcome hp hactive hrole hstate hdir

end Sys2Proof
end
section
/-! SUPPORT. Writes of `CTL.SPLIT` and of crossbar entries (R136 to R139). -/

namespace Sys2Proof.Machine

open Reg

/-! ## The split -/

theorem fieldsAt_portCtl : ∀ d < 7, 1 ≤ d → fieldsAt (Pg.port d) 0x010 = [(Port.CTL_SPLIT, 0), (Port.CTL_TRAIN, 0)] := by decide

section
variable {s : State} {d : Nat} (hd : isPort d = true)
include hd

theorem State.storeField_train (o : Origin) (off w : Nat) : State.storeField (Pg.port d) o off w (Port.CTL_TRAIN, 0) s = s := by
  obtain ⟨h1, h6⟩ := isPort_range hd
  have hother : ¬Port.CTL_TRAIN = Port.CTL_SPLIT := by decide
  have hres (v : Nat) : State.reservedIn (Pg.port d) Port.CTL_TRAIN v = false := by
    simp [State.reservedIn, hother, RegField.reserved, show Port.CTL_TRAIN.bad = [] from rfl]
  have hty : Port.CTL_TRAIN.ty = .wo := rfl
  have hforce (f : RegField) (hf : f ∈ [Hdr.INT_FORCE_BLOCK, Hdr.INT_FORCE_ERR_LOST, Hdr.INT_FORCE_ERR_CAPTURED]) : ¬Port.CTL_TRAIN = f := by
    revert f
    decide
  simp [State.storeField, hty, hres, State.forceField, hforce]

theorem State.storeField_split (o : Origin) (off w : Nat) : State.storeField (Pg.port d) o off w (Port.CTL_SPLIT, 0) s =
    if State.reservedIn (Pg.port d) Port.CTL_SPLIT (bits w 5 4) then s.capture (Pg.port d) Err.reservedEncoding o off
    else s.set (Pg.port d) Port.CTL_SPLIT (bits w 5 4) := by
  obtain ⟨h1, h6⟩ := isPort_range hd
  have hty : Port.CTL_SPLIT.ty = .rw := rfl
  have hbits : bits w Port.CTL_SPLIT.hi Port.CTL_SPLIT.lo = bits w 5 4 := rfl
  simp [State.storeField, hty, hbits, State.unstored, State.reservedPair, (pageKind_port d (by omega) h1).1]

/-- What a word of `CTL` stores: its split, where that is not reserved (R16, R139). -/
def State.splitStored (s : State) (d : Nat) (o : Origin) (w : Nat) : State :=
  if State.reservedIn (Pg.port d) Port.CTL_SPLIT (bits w 5 4) then s.capture (Pg.port d) Err.reservedEncoding o 0x010
  else s.set (Pg.port d) Port.CTL_SPLIT (bits w 5 4)

/-- An accepted word of `CTL` is the split and what the port does with it. -/
theorem State.writeReg_portCtl {o : Origin} {w : Word} (h : Accepts s o (Pg.port d) 0x010 w = true) :
    s.writeReg o (Pg.port d) 0x010 w = (s.splitStored d o w.toNat).portWritten s (Pg.port d) 0x010 w.toNat := by
  obtain ⟨h1, h6⟩ := isPort_range hd
  have hkind := (pageKind_port d (by omega) h1).1
  have hbefore : s.beforeWrite (Pg.port d) 0x010 = s := by simp [State.beforeWrite, hkind]
  have hstored : s.storedFields (Pg.port d) 0x010 = [(Port.CTL_SPLIT, 0), (Port.CTL_TRAIN, 0)] := by
    simp [State.storedFields, hkind, fieldsAt_portCtl d (by omega) h1]
  rw [writeReg_accepted h (by decide) (by decide), hbefore, hstored]
  simp only [forEach, List.foldl_cons, List.foldl_nil, State.storeField_train hd, State.storeField_split hd, State.pageWritten, hkind,
    State.splitStored]

end

/-! ## The roles of a split -/

/-- One step of `setRoles`. -/
def State.roleSet (s : State) (d q : Nat) : State :=
  if q + 1 = portModules d then s.set (Pg.port d) Port.LMH_MOD_ROLE 2 q
  else s.set (Pg.port d) Port.LMH_MOD_ROLE (if s.modLogical d q < s.crossModules d then 0 else 1) q

section
variable (s : State) (d : Nat) {p q : Nat}

theorem State.roleSet_eq : ∃ v, s.roleSet d q = s.set (Pg.port d) Port.LMH_MOD_ROLE v q := by
  unfold State.roleSet
  split_ifs <;> exact ⟨_, rfl⟩

theorem State.roleSet_crossModules : (s.roleSet d q).crossModules d = s.crossModules d := by
  obtain ⟨v, hv⟩ := s.roleSet_eq d (q := q)
  have hne : fieldKey (Pg.port d) Port.CTL_SPLIT 0 ≠ fieldKey (Pg.port d) Port.LMH_MOD_ROLE q :=
    fieldKey_ne_of_bit (by decide) (by decide) (by decide)
  rw [hv, State.crossModules, State.get_set_other _ _ hne, State.crossModules]

theorem State.roleSet_modLogical : (s.roleSet d q).modLogical d p = s.modLogical d p := by
  obtain ⟨v, hv⟩ := s.roleSet_eq d (q := q)
  rw [hv]
  exact State.get_set_other _ _ (fieldKey_ne_of_bit (by decide) (by decide) (by decide))

theorem State.roleSet_other (h : p ≠ q) : (s.roleSet d q).modRole d p = s.modRole d p := by
  obtain ⟨v, hv⟩ := s.roleSet_eq d (q := q)
  rw [hv]
  exact State.get_set_other _ _ (fieldKey_module_ne d h (by decide))

theorem State.roleSet_same (h : p + 1 ≠ portModules d) :
    (s.roleSet d p).modRole d p = if s.modLogical d p < s.crossModules d then 0 else 1 := by
  rw [State.roleSet, if_neg h]
  refine (State.get_set_same _ _ _ _ _).trans (Nat.mod_eq_of_lt ?_)
  split <;> decide

/-- Once a module has had its turn it holds its role, whatever turns follow. -/
theorem State.rolesSet_modRole (qs : List Nat) (h : p + 1 ≠ portModules d)
    (hp : p ∈ qs ∨ s.modRole d p = if s.modLogical d p < s.crossModules d then 0 else 1) :
    (forEach qs (fun q u => u.roleSet d q) s).modRole d p = if s.modLogical d p < s.crossModules d then 0 else 1 := by
  induction qs generalizing s with
  | nil => exact hp.resolve_left (by simp)
  | cons q qs ih =>
    have hstep := ih (s.roleSet d q)
    rw [State.roleSet_modLogical, State.roleSet_crossModules] at hstep
    refine hstep ?_
    by_cases hq : p = q
    · subst hq
      exact Or.inr (s.roleSet_same d h)
    · rw [State.roleSet_other s d hq]
      exact hp.imp_left fun hm => (List.mem_cons.1 hm).resolve_left hq

/-- The split gives every module that is neither retired nor the reserve its role (R112, R138). -/
theorem State.setRoles_modRole (hp : p + 1 < portModules d) (hlive : s.modRole d p ≠ 3) :
    (s.setRoles d).modRole d p = if s.modLogical d p < s.crossModules d then 0 else 1 :=
  s.rolesSet_modRole d (s.liveModules d) (by omega) (Or.inl (List.mem_filter.2 ⟨List.mem_range.2 (by omega), by simpa using hlive⟩))

end

/-- A split that is written without `TRAIN`, and is not reserved. -/
theorem State.splitWritten {s : State} {d : Nat} (hd : isPort d = true) {o : Origin} {v : Word} (h : Accepts s o (Pg.port d) 0x010 v = true)
    (hres : State.reservedIn (Pg.port d) Port.CTL_SPLIT (bits v.toNat 5 4) = false) (htrain : bit v.toNat 0 = false) :
    let t := s.writeReg o (Pg.port d) 0x010 v
    t.get (Pg.port d) Port.CTL_SPLIT = bits v.toNat 5 4 ∧
      (s.get (Pg.port d) Port.CTL_SPLIT ≠ bits v.toNat 5 4 → ∀ p, p + 1 < portModules d → s.modRole d p ≠ 3 →
        t.modRole d p = if s.modLogical d p < crossCount d (bits v.toNat 5 4) then 0 else 1) := by
  obtain ⟨h1, h6⟩ := isPort_range hd
  have hstored : s.splitStored d o v.toNat = s.set (Pg.port d) Port.CTL_SPLIT (bits v.toNat 5 4) := by
    rw [State.splitStored, hres, if_neg (by decide)]
  have hsplit : (s.set (Pg.port d) Port.CTL_SPLIT (bits v.toNat 5 4)).get (Pg.port d) Port.CTL_SPLIT = bits v.toNat 5 4 :=
    (State.get_set_same _ _ _ _ _).trans (Nat.mod_eq_of_lt (bits_lt _ 5 4))
  have hkeep (f : RegField) (hf : f.inWords = true) (hlo : f.lo ≠ 4) (i : Nat) :
      (s.set (Pg.port d) Port.CTL_SPLIT (bits v.toNat 5 4)).get (Pg.port d) f i = s.get (Pg.port d) f i :=
    State.get_set_other _ _ (fieldKey_ne_of_bit hf (by decide) hlo)
  dsimp only
  rw [State.writeReg_portCtl hd h, hstored, State.portWritten, if_neg (by decide), (pageKind_port d (by omega) h1).2, htrain]
  simp only [Bool.false_eq_true, if_false, hsplit]
  split
  case isFalse hsame =>
    have hsame : s.get (Pg.port d) Port.CTL_SPLIT = bits v.toNat 5 4 := by omega
    exact ⟨hsplit, fun hne => absurd hsame hne⟩
  case isTrue =>
    refine ⟨((State.setRoles_works _ d).get (by simp)).trans hsplit, fun _ p hp hlive => ?_⟩
    rw [State.setRoles_modRole _ d hp ((hkeep _ (by decide) (by decide) p).trans_ne hlive), State.crossModules, hsplit, State.modLogical,
      hkeep _ (by decide) (by decide), State.modLogical]

/-! ## Entries of the crossbar -/

theorem Pg.xbar_of {d m : Nat} (h : isLogicalDir d m 0 = true) : pageKind (Pg.xbar d m) = some .xbar ∧ (Pg.xbar d m - 0x820) / 16 + 1 = d := by
  obtain ⟨hport, hm, -⟩ := isLogicalDir_parts h
  obtain ⟨h1, h6⟩ := isPort_range hport
  have hm16 : m < (if d ≤ 4 then 16 else 8) := by
    unfold logicalModules portModules at hm
    split_ifs at * <;> omega
  have hlt : m < 16 := by split_ifs at hm16 <;> omega
  refine ⟨pageKind_xbar d (by omega) h1 m hm16, ?_⟩
  unfold Pg.xbar
  omega

theorem RegField.indexAt_after {f : RegField} {off : Nat} (hs : 0 < f.stride) (h : f.off + f.count * f.stride ≤ off) : f.indexAt off = none := by
  refine if_neg fun hc => ?_
  have hcount : f.count ≤ (off - f.off) / f.stride := (Nat.le_div_iff_mul_le hs).2 (by omega)
  omega

theorem RegField.indexAt_element {f : RegField} {i : Nat} (hs : 0 < f.stride) (hi : i < f.count) : f.indexAt (f.off + f.stride * i) = some i := by
  have hsub : f.off + f.stride * i - f.off = f.stride * i := by omega
  rw [RegField.indexAt, hsub, Nat.mul_div_cancel_left i hs, if_pos ⟨by omega, Nat.mul_mod_right _ _, hi⟩]

section
variable {page : Nat} (hk : pageKind page = some .xbar)
include hk

theorem fieldsAt_xbarEntry {g : Nat} (hg : g < 192) : fieldsAt page (0x100 + 4 * g) =
    [(Xbar.XBAR_ENTRY_EN, g), (Xbar.XBAR_ENTRY_SRC_DIE, g), (Xbar.XBAR_ENTRY_SRC_MOD, g), (Xbar.XBAR_ENTRY_SRC_GROUP, g)] := by
  have hheader : ∀ f ∈ Hdr.fields, 0 < f.stride ∧ f.off + f.count * f.stride ≤ 0x100 := by decide
  have hentry (f : RegField) (hf : f ∈ Xbar.fields) : f.indexAt (0x100 + 4 * g) = some g := by
    have hplace : ∀ f ∈ Xbar.fields, f.off = 0x100 ∧ f.stride = 4 ∧ f.count = 192 := by decide
    obtain ⟨hoff, hstride, hcount⟩ := hplace f hf
    rw [← hoff, ← hstride]
    exact RegField.indexAt_element (by omega) (by omega)
  rw [fieldsAt_of_kind _ hk, List.filterMap_append, List.filterMap_eq_nil_iff.2, List.nil_append]
  · rw [List.filterMap_congr (g := fun f => some (f, g)) fun f hf => by rw [hentry f hf]; rfl]
    rfl
  · intro f hf
    obtain ⟨hs, hend⟩ := hheader f hf
    rw [RegField.indexAt_after hs (by omega)]

/-- A field of an entry stores what is no reserved encoding. -/
theorem State.storeField_xbar (s : State) (o : Origin) (off w : Nat) {f : RegField} (i : Nat) (hty : f.ty = .rw)
    (hres : f.reserved (bits w f.hi f.lo) = false) : State.storeField page o off w (f, i) s = s.set page f (bits w f.hi f.lo) i := by
  simp [State.storeField, hty, State.unstored, hk, State.reservedPair, State.reservedIn, hres]

/-- The four fields of an entry, stored. -/
def State.entryStored (s : State) (page g w : Nat) : State :=
  (((s.set page Xbar.XBAR_ENTRY_EN (bits w 31 31) g).set page Xbar.XBAR_ENTRY_SRC_DIE (bits w 26 24) g).set page Xbar.XBAR_ENTRY_SRC_MOD
    (bits w 23 20) g).set page Xbar.XBAR_ENTRY_SRC_GROUP (bits w 7 0) g

theorem State.writeReg_xbarEntry {s : State} {o : Origin} {g : Nat} {w : Word} (hg : g < 192) (h : Accepts s o page (0x100 + 4 * g) w = true)
    (hlo : 1 ≤ bits w.toNat 26 24) (hhi : bits w.toNat 26 24 ≤ 6) (hgroup : bits w.toNat 7 0 < 192) :
    s.writeReg o page (0x100 + 4 * g) w = (s.entryStored page g w.toNat).xbarWritten page (0x100 + 4 * g) := by
  have hbefore : s.beforeWrite page (0x100 + 4 * g) = s := by simp [State.beforeWrite, hk]
  have hstored : s.storedFields page (0x100 + 4 * g) = fieldsAt page (0x100 + 4 * g) := by simp [State.storedFields, hk]
  have hplain {f : RegField} (hbad : f.bad = []) (v : Nat) : f.reserved v = false := by simp [RegField.reserved, hbad]
  have hdie : Xbar.XBAR_ENTRY_SRC_DIE.reserved (bits w.toNat 26 24) = false := by
    simp [RegField.reserved, Xbar.XBAR_ENTRY_SRC_DIE]
    omega
  have hsource : Xbar.XBAR_ENTRY_SRC_GROUP.reserved (bits w.toNat 7 0) = false := by
    simp [RegField.reserved, Xbar.XBAR_ENTRY_SRC_GROUP]
    omega
  rw [writeReg_accepted h (by omega) (by omega), hbefore, hstored, fieldsAt_xbarEntry hk hg]
  simp only [forEach, List.foldl_cons, List.foldl_nil, State.pageWritten, hk]
  rw [State.storeField_xbar hk _ _ _ _ _ rfl hsource, State.storeField_xbar hk _ _ _ _ _ rfl (hplain rfl _),
    State.storeField_xbar hk _ _ _ _ _ rfl hdie, State.storeField_xbar hk _ _ _ _ _ rfl (hplain rfl _)]
  rfl

end

section
variable (s : State) (page g w : Nat)

theorem State.entryStored_en : (s.entryStored page g w).get page Xbar.XBAR_ENTRY_EN g = bits w 31 31 := by
  rw [State.entryStored, State.get_set_of_lo _ _ (by rfl) (by rfl) (by decide), State.get_set_of_lo _ _ (by rfl) (by rfl) (by decide),
    State.get_set_of_lo _ _ (by rfl) (by rfl) (by decide), State.get_set_same]
  exact Nat.mod_eq_of_lt (bits_lt w 31 31)

theorem State.entryStored_die : (s.entryStored page g w).get page Xbar.XBAR_ENTRY_SRC_DIE g = bits w 26 24 := by
  rw [State.entryStored, State.get_set_of_lo _ _ (by rfl) (by rfl) (by decide), State.get_set_of_lo _ _ (by rfl) (by rfl) (by decide),
    State.get_set_same]
  exact Nat.mod_eq_of_lt (bits_lt w 26 24)

theorem State.entryStored_mod : (s.entryStored page g w).get page Xbar.XBAR_ENTRY_SRC_MOD g = bits w 23 20 := by
  rw [State.entryStored, State.get_set_of_lo _ _ (by rfl) (by rfl) (by decide), State.get_set_same]
  exact Nat.mod_eq_of_lt (bits_lt w 23 20)

theorem State.entryStored_group : (s.entryStored page g w).get page Xbar.XBAR_ENTRY_SRC_GROUP g = bits w 7 0 := by
  rw [State.entryStored, State.get_set_same]
  exact Nat.mod_eq_of_lt (bits_lt w 7 0)

/-- The bit addresses of an entry. -/
def entryKeys (page g : Nat) : List Nat := [fieldKey page Xbar.XBAR_ENTRY_EN g, fieldKey page Xbar.XBAR_ENTRY_SRC_DIE g,
  fieldKey page Xbar.XBAR_ENTRY_SRC_MOD g, fieldKey page Xbar.XBAR_ENTRY_SRC_GROUP g]

theorem State.entryStored_same : RegsSameBut s (s.entryStored page g w) (entryKeys page g) :=
  RegsSameBut.set_of_mem (RegsSameBut.set_of_mem (RegsSameBut.set_of_mem (RegsSameBut.set_of_mem (RegsSameBut.refl s _) _ _ _ _ (by simp [entryKeys]))
    _ _ _ _ (by simp [entryKeys])) _ _ _ _ (by simp [entryKeys])) _ _ _ _ (by simp [entryKeys])

variable {page g} in
theorem entryKeys_page (hg : g < 192) : ∀ k ∈ entryKeys page g, k / 32768 = page := by
  intro k hk
  simp only [entryKeys, List.mem_cons, List.not_mem_nil, or_false] at hk
  rcases hk with rfl | rfl | rfl | rfl
  · exact fieldKey_page (by decide) hg
  · exact fieldKey_page (by decide) hg
  · exact fieldKey_page (by decide) hg
  · exact fieldKey_page (by decide) hg

/-- No entry of a crossbar is the split of a port. -/
theorem State.entryStored_crossModules {d m e : Nat} (hg : g < 192) (he : e ≤ 6) :
    (s.entryStored (Pg.xbar d m) g w).crossModules e = s.crossModules e := by
  rw [State.crossModules, State.entryStored_same s _ g w _ _ _ fun hmem => ?_, State.crossModules]
  have hpage := entryKeys_page hg _ hmem
  rw [fieldKey_page (by decide) (by decide)] at hpage
  unfold Pg.port Pg.xbar at hpage
  omega

end

/-- A write of an entry whose source is a die and a group. -/
theorem State.xbarEntryWritten {s : State} {o : Origin} {d m g : Nat} {v : Word} (hd : isLogicalDir d m 0 = true) (hg : g < 192)
    (h : Accepts s o (Pg.xbar d m) (0x100 + 4 * g) v = true) (hlo : 1 ≤ bits v.toNat 26 24) (hhi : bits v.toNat 26 24 ≤ 6)
    (hgroup : bits v.toNat 7 0 < 192) :
    let bad := bits v.toNat 31 31 = 1 ∧ s.crossModules (bits v.toNat 26 24) ≤ bits v.toNat 23 20
    let u := s.entryStored (Pg.xbar d m) g v.toNat
    s.writeReg o (Pg.xbar d m) (0x100 + 4 * g) v = if bad then u.set (Pg.port d) Port.STATUS_XBAR_BAD 1 else u := by
  obtain ⟨hkind, hport⟩ := Pg.xbar_of hd
  have hentry : (0x100 + 4 * g - 0x100) / 4 = g := by omega
  have hdie : isPort (bits v.toNat 26 24) = true := by simp [isPort, hlo, hhi]
  have hen : bits v.toNat 31 31 = 0 ∨ bits v.toNat 31 31 = 1 := by
    have := bits_lt v.toNat 31 31
    omega
  dsimp only
  rw [State.writeReg_xbarEntry hkind hg h hlo hhi hgroup, State.xbarWritten]
  simp only [hentry, hport, State.flag, State.entryStored_en, State.entryStored_die, State.entryStored_mod,
    State.entryStored_crossModules s g v.toNat hg hhi, hdie]
  refine if_congr ?_ rfl rfl
  simp
  omega

/-- The entry as written, and no other register but the bit of the port. -/
theorem State.xbarEntryWritten_outcome {s : State} {o : Origin} {d m g : Nat} {v : Word} (hd : isLogicalDir d m 0 = true) (hg : g < 192)
    (h : Accepts s o (Pg.xbar d m) (0x100 + 4 * g) v = true) (hlo : 1 ≤ bits v.toNat 26 24) (hhi : bits v.toNat 26 24 ≤ 6)
    (hgroup : bits v.toNat 7 0 < 192) :
    let bad := bits v.toNat 31 31 = 1 ∧ s.crossModules (bits v.toNat 26 24) ≤ bits v.toNat 23 20
    let x := Pg.xbar d m
    let t := s.writeReg o x (0x100 + 4 * g) v
    t.get x Xbar.XBAR_ENTRY_EN g = bits v.toNat 31 31 ∧ t.get x Xbar.XBAR_ENTRY_SRC_DIE g = bits v.toNat 26 24 ∧
      t.get x Xbar.XBAR_ENTRY_SRC_MOD g = bits v.toNat 23 20 ∧ t.get x Xbar.XBAR_ENTRY_SRC_GROUP g = bits v.toNat 7 0 ∧
      (bad → t.flag (Pg.port d) Port.STATUS_XBAR_BAD = true) ∧
      RegsSameBut s t (if bad then entryKeys x g ++ [fieldKey (Pg.port d) Port.STATUS_XBAR_BAD 0] else entryKeys x g) := by
  obtain ⟨hport, -, -⟩ := isLogicalDir_parts hd
  obtain ⟨-, h6⟩ := isPort_range hport
  have hsame := s.entryStored_same (Pg.xbar d m) g v.toNat
  have hkeep (w : Nat) {f : RegField} (hf : f.inPage = true) (hi : f.count = 192) :
      ((s.entryStored (Pg.xbar d m) g v.toNat).set (Pg.port d) Port.STATUS_XBAR_BAD w).get (Pg.xbar d m) f g =
        (s.entryStored (Pg.xbar d m) g v.toNat).get (Pg.xbar d m) f g :=
    State.get_set_other _ _ (fieldKey_ne_of_pages hf (by omega) (by decide) (by decide) (by unfold Pg.port Pg.xbar; omega))
  dsimp only
  rw [State.xbarEntryWritten hd hg h hlo hhi hgroup]
  split
  case isFalse hgood =>
    exact ⟨State.entryStored_en _ _ _ _, State.entryStored_die _ _ _ _, State.entryStored_mod _ _ _ _, State.entryStored_group _ _ _ _,
      fun hbad => absurd hbad hgood, hsame⟩
  case isTrue =>
    refine ⟨?_, ?_, ?_, ?_, fun _ => ?_, RegsSameBut.trans hsame (RegsSameBut.set _ _ _ _ _)⟩
    · rw [hkeep _ (by decide) rfl, State.entryStored_en]
    · rw [hkeep _ (by decide) rfl, State.entryStored_die]
    · rw [hkeep _ (by decide) rfl, State.entryStored_mod]
    · rw [hkeep _ (by decide) rfl, State.entryStored_group]
    · rw [State.flag, State.get_set_same]
      rfl

end Sys2Proof.Machine
end
section
namespace Sys2Proof

open Machine Machine.Reg

/-- Settles O22: an accepted word is stored field by field; a changed split sets the roles one module after another, and an entry beyond its
source's crossing modules sets one bit of the port. -/
theorem splitAndCrossbarEntriesAreStored : Obligations.SplitAndCrossbarEntriesAreStored := by
  unfold Obligations.SplitAndCrossbarEntriesAreStored
  intro s o d m g v hd hg
  obtain ⟨hport, -, -⟩ := isLogicalDir_parts hd
  refine ⟨fun h hres htrain => completes_of_onPart rfl hport ?_, ?_⟩
  · have hsplit := State.splitWritten hport h hres htrain
    generalize s.writeReg o (Pg.port d) 0x010 v = t at *
    exact hsplit
  · dsimp only
    intro h hlo hhi hgroup
    refine completes_of_onPart rfl (by simp [hd, hg]) ?_
    have houtcome := State.xbarEntryWritten_outcome hd hg h hlo hhi hgroup
    dsimp only at houtcome
    generalize s.writeReg o (Pg.xbar d m) (0x100 + 4 * g) v = t at *
    exact houtcome

end Sys2Proof
end
section
/-! SUPPORT. What holding a die leaves alone (R464, R468): the hub's reset page and its pages of the Lomum ports. -/

namespace Sys2Proof.Machine

open Reg

/-! ## Registers of the reset page and the ports -/

/-- The hub's reset page, or the hub's page of a port. -/
def IsLinkPage (p : Nat) : Prop := p = Pg.reset ∨ (0x811 ≤ p ∧ p ≤ 0x816)

/-- From `s` to `t` no register of those pages changes. -/
def KeepsLinks (s t : State) : Prop := ∀ p f i, IsLinkPage p → f.inPage = true → i < f.count → t.get p f i = s.get p f i

namespace KeepsLinks

variable {s t u : State}

theorem refl (s : State) : KeepsLinks s s := fun _ _ _ _ _ _ => rfl

theorem trans (h : KeepsLinks s t) (h' : KeepsLinks t u) : KeepsLinks s u :=
  fun p f i hp hf hi => (h' p f i hp hf hi).trans (h p f i hp hf hi)

theorem of_regs (h : t.regs = s.regs) : KeepsLinks s t := fun p f i _ _ _ => State.get_of_regs h p f i

theorem of_books (h : ChangesIn InBooks s t) : KeepsLinks s t := by
  refine fun p f i hp hf hi => h p f i fun hk => ?_
  rw [InBooks, InRecords, fieldKey_page hf hi] at hk
  simp only [IsLinkPage, Pg.reset, Pg.safety, Pg.recorder, Pg.ply] at hp hk
  omega

theorem event (h : KeepsLinks s t) (c v p d : Nat) : KeepsLinks s (t.event c v p d) := h.trans (of_books (State.event_books _ _ _ _ _))

/-- A register of a die is written. -/
theorem set (h : KeepsLinks s t) {q : Nat} {g : RegField} {v j : Nat} (hq : 0x1000 ≤ q) : KeepsLinks s (t.set q g v j) := by
  refine h.trans fun p f i hp hf hi => State.get_set_other t v fun he => ?_
  have hpage := fieldKey_page (p := p) hf hi
  have hhigh := le_fieldKey_page q g j
  rw [he] at hpage
  simp only [IsLinkPage, Pg.reset] at hp
  omega

theorem setInt (h : KeepsLinks s t) {q b : Nat} (hq : 0x1000 ≤ q) : KeepsLinks s (t.setInt q b) := h.set hq

theorem count (h : KeepsLinks s t) {q n j : Nat} {g : RegField} (hq : 0x1000 ≤ q) : KeepsLinks s (t.count q g n j) := h.set hq

theorem setDdrUnit (h : KeepsLinks s t) (c : Nat) (x : DdrUnit) : KeepsLinks s (t.setDdrUnit c x) := h.trans (of_regs rfl)

theorem setCryptoUnit (h : KeepsLinks s t) (c : Nat) (x : CryptoUnit) : KeepsLinks s (t.setCryptoUnit c x) := h.trans (of_regs rfl)

theorem of_page {q : Nat} (h : PageOnly s t q) (hq : 0x1000 ≤ q) : KeepsLinks s t := by
  refine fun p f i hp hf hi => h p f i (RegField.inPage_lt hf hi) ?_
  simp only [IsLinkPage, Pg.reset] at hp
  omega

theorem withDbg (h : KeepsLinks s t) (x : DebugState) : KeepsLinks s { t with dbg := x } := h.trans (of_regs rfl)

theorem withLanes (h : KeepsLinks s t) (x : LanesState) : KeepsLinks s { t with lanes := x } := h.trans (of_regs rfl)

theorem ite {c : Prop} [Decidable c] (h : c → KeepsLinks s t) (h' : ¬c → KeepsLinks s u) : KeepsLinks s (if c then t else u) := by
  split
  case isTrue hc => exact h hc
  case isFalse hc => exact h' hc

theorem forEach {α : Type} {xs : List α} {f : α → State → State} (h : KeepsLinks s t) (hstep : ∀ x ∈ xs, ∀ u, KeepsLinks u (f x u)) :
    KeepsLinks s (forEach xs f t) := by
  induction xs generalizing t with
  | nil => exact h
  | cons x xs ih => exact ih (h.trans (hstep x (by simp) t)) fun y hy => hstep y (by simp [hy])

end KeepsLinks

/-! ## Pages of the dies -/

theorem le_dieBase {d : Nat} (h : 1 ≤ d) : 0x1000 ≤ Pg.dieBase d := by
  unfold Pg.dieBase
  split_ifs <;> omega

theorem le_ddr (c : Nat) : 0x1000 ≤ Pg.ddr c := (le_dieBase (d := c / 2 + 1) (by omega)).trans (by unfold Pg.ddr; omega)
theorem le_crypto (c : Nat) : 0x1000 ≤ Pg.crypto c := (le_dieBase (d := c / 2 + 1) (by omega)).trans (by unfold Pg.crypto; omega)
theorem le_eng (e k : Nat) : 0x1000 ≤ Pg.eng e k := (le_dieBase (d := e / 16 + 1) (by omega)).trans (by unfold Pg.eng; omega)
theorem le_mi {d : Nat} (sec : Nat) (h : 1 ≤ d) : 0x1000 ≤ Pg.mi d sec := (le_dieBase h).trans (by unfold Pg.mi; omega)

theorem le_opll {p : Nat} (o : Nat) (h : 0x1000 ≤ p) : 0x1000 ≤ Pg.opll (laneDie p) o := by
  refine (le_dieBase (d := laneDie p) ?_).trans (by unfold Pg.opll; omega)
  unfold laneDie pageDie
  split_ifs <;> omega

section
variable (s : State)

/-! ## DDR channels -/

section
variable (c : Nat)

theorem ddrCell_links (a : Nat) : KeepsLinks s (s.ddrCell c a).2 := by
  unfold State.ddrCell
  split
  · exact .refl s
  · split
    · exact .refl s
    · exact .of_regs rfl

theorem ddrAnswer_links (id code : Nat) (d : BitVec 512) : KeepsLinks s (s.ddrAnswer c id code d) := .of_regs rfl

theorem ddrStore_links (a : Nat) (d : BitVec 512) : KeepsLinks s (s.ddrStore c a d) := by
  unfold State.ddrStore
  exact .ite (fun _ => .set (.of_regs rfl) (le_ddr c)) fun _ => .of_regs rfl

theorem ddrErrInfo_links (a kind : Nat) (x : BitVec 640) : KeepsLinks s (s.ddrErrInfo c a kind x) := by
  unfold State.ddrErrInfo
  exact .ite (fun _ => .refl s) fun _ => .set (.set (.set (.set (.set (.set (.refl s) (le_ddr c)) (le_ddr c)) (le_ddr c)) (le_ddr c))
    (le_ddr c)) (le_ddr c)

theorem ddrTransient_links (a : Nat) (x : BitVec 640) : KeepsLinks s (s.ddrTransient c a x) := by
  unfold State.ddrTransient
  exact (ddrErrInfo_links s c a _ x).count (le_ddr c)

theorem warnDdr_links : KeepsLinks s (s.warn Safety.SAF_WARN_DDR) := .of_books (State.warn_books _ (by decide) (by decide))

theorem ddrLasting_links (a : Nat) (x : BitVec 640) : KeepsLinks s (s.ddrLasting c a x) := by
  unfold State.ddrLasting
  exact ((((ddrErrInfo_links s c a _ x).count (le_ddr c)).setInt (le_ddr c)).trans (warnDdr_links _)).event _ _ _ _

theorem ddrUncorrectable_links (a : Nat) (x : BitVec 640) : KeepsLinks s (s.ddrUncorrectable c a x) := by
  unfold State.ddrUncorrectable
  exact ((((ddrErrInfo_links s c a _ x).count (le_ddr c)).setInt (le_ddr c)).trans (warnDdr_links _)).event _ _ _ _

theorem ddrRetryRead_links (a : Nat) (x err : BitVec 640) : KeepsLinks s (s.ddrRetryRead c a x err).2.2 := by
  unfold State.ddrRetryRead
  dsimp only
  split
  · have hput : KeepsLinks s (s.putDdrCell c a (ddrCorrect x (s.ddrX8 c))) := .of_regs rfl
    split
    · exact hput.trans (ddrTransient_links _ c a x)
    · exact hput.trans (ddrLasting_links _ c a x)
    · exact hput.trans (ddrUncorrectable_links _ c a x)
  · split
    · exact (ddrCell_links s c a).trans (ddrUncorrectable_links _ c a x)
    · exact (ddrCell_links s c a).trans (ddrTransient_links _ c a x)

theorem ddrLevels_links : KeepsLinks s (s.ddrLevels c) := by
  unfold State.ddrLevels
  exact (((KeepsLinks.refl s).setDdrUnit c _).set (le_ddr c)).set (le_ddr c)

theorem ddrDropHeld_links (code : Nat) : KeepsLinks s (s.ddrDropHeld c code) := by
  unfold State.ddrDropHeld
  exact (((KeepsLinks.refl s).setDdrUnit c _).forEach fun (r : DdrReq) _ u => ddrAnswer_links u c r.id code 0).trans (ddrLevels_links _ c)

theorem ddrFlushLine_links (a : Nat) : KeepsLinks s (s.ddrFlushLine c a) := by
  unfold State.ddrFlushLine
  exact .ite (fun _ => .refl s) fun _ => (((KeepsLinks.refl s).setDdrUnit c _).forEach fun (w : DdrReq) _ u =>
    (ddrStore_links u c a w.data).trans (ddrAnswer_links _ c w.id 0 0)).trans (ddrLevels_links _ c)

theorem ddrRead_links (a : Nat) : KeepsLinks s (s.ddrRead c a).2.2 := by
  unfold State.ddrRead
  split
  · exact .refl s
  · split
    · exact .refl s
    · split
      · exact .refl s
      · dsimp only
        split
        · exact ddrCell_links s c a
        · refine KeepsLinks.trans ?_ (ddrRetryRead_links _ c a _ 0)
          split
          · exact (ddrCell_links s c a).setInt (le_ddr c)
          · exact ddrCell_links s c a

theorem ddrWrite_links (a : Nat) (d : BitVec 512) : KeepsLinks s (s.ddrWrite c a d).2 := by
  unfold State.ddrWrite
  split
  · exact .refl s
  · split
    · exact .refl s
    · exact (ddrFlushLine_links s c a).trans (ddrStore_links _ c a d)

theorem ddrComplete_links : KeepsLinks s (s.ddrComplete c) := by
  unfold State.ddrComplete
  refine (((KeepsLinks.refl s).setDdrUnit c _).forEach fun r _ u => ?_).trans (ddrLevels_links _ c)
  exact .ite (fun _ => (ddrStore_links u c r.line r.data).trans (ddrAnswer_links _ c r.id 0 0))
    fun _ => (ddrRead_links u c r.line).trans (ddrAnswer_links _ c r.id _ _)

theorem ddrClose_links (b : Nat) : KeepsLinks s (s.ddrClose c b) := by
  unfold State.ddrClose
  exact .ite (fun _ => .of_regs rfl) fun _ => .refl s

theorem ddrSelfRefresh_links : KeepsLinks s (s.ddrSelfRefresh c) := by
  unfold State.ddrSelfRefresh State.ddrTo
  refine .ite (fun _ => ?_) fun _ => .ite (fun _ => ((KeepsLinks.refl s).set (le_ddr c)).setInt (le_ddr c)) fun _ => .ite (fun _ => ?_)
    fun _ => .refl s
  · exact (((ddrComplete_links s c).forEach fun b _ u => ddrClose_links u c b).set (le_ddr c)).setInt (le_ddr c)
  · exact .set (.setDdrUnit (.of_regs rfl) c _) (le_ddr c)

theorem ddrOff_links : KeepsLinks s (s.ddrOff c) := by
  have hforget (u : State) : KeepsLinks u (u.ddrForget c) := .of_regs rfl
  unfold State.ddrOff State.ddrTo
  exact (((ddrDropHeld_links s c 1).trans (hforget _)).set (le_ddr c)).setDdrUnit c _

/-! ## Their crypto engines -/

theorem setCounter_links (r k j i v : Nat) : KeepsLinks s (s.setCounter c r k j i v) := by
  unfold State.setCounter
  split
  · exact .of_regs rfl
  · split
    · exact .of_regs rfl
    · exact .refl s

theorem putMeta_links (line : Nat) (m : MetaLine) : KeepsLinks s (s.putMeta c line m) := .of_regs rfl

theorem putTag_links (r k j tag : Nat) : KeepsLinks s (s.putTag c r k j tag) := by
  unfold State.putTag
  dsimp only
  split
  · exact putMeta_links s c _ _
  · exact (ddrRead_links s c _).trans (ddrWrite_links _ c _ _)

theorem metaBack_links (line : Nat) : KeepsLinks s (s.metaBack c line) := by
  unfold State.metaBack
  split
  · exact .refl s
  · split
    · exact .refl s
    · split
      · exact (putMeta_links s c _ _).trans (ddrWrite_links _ c _ _)
      · exact (((setCounter_links s c _ _ _ _ _).trans (putTag_links _ c _ _ _ _)).trans (putMeta_links _ c _ _)).trans (ddrWrite_links _ c _ _)

theorem cryptoSettles_links : KeepsLinks s (s.cryptoSettles c) := by
  have hback : KeepsLinks s (s.metaBackAll c (fun _ => true)) := by
    unfold State.metaBackAll
    exact (KeepsLinks.refl s).forEach fun k _ t => (KeepsLinks.refl t).forEach fun line _ u => metaBack_links u c line
  unfold State.cryptoSettles
  exact (hback.setCryptoUnit c _).set (le_crypto c)

theorem setHighWater_links (r v : Nat) : KeepsLinks s (s.setHighWater c r v) := by
  unfold State.setHighWater
  exact ((KeepsLinks.refl s).set (le_crypto c)).set (le_crypto c)

theorem cryptoZeroize_links : KeepsLinks s (s.cryptoZeroize c) := by
  unfold State.cryptoZeroize
  refine KeepsLinks.forEach (.set (.set (.set (.set (.set (.setCryptoUnit (.refl s) c _) (le_crypto c)) (le_crypto c)) (le_crypto c)) (le_crypto c))
    (le_crypto c)) fun r _ u => ?_
  exact ((KeepsLinks.refl u).set (le_crypto c)).trans (setHighWater_links _ c r 0)

theorem channelSettles_links : KeepsLinks s (s.channelSettles c) := by
  unfold State.channelSettles
  exact .ite (fun _ => (cryptoSettles_links s c).trans (ddrSelfRefresh_links _ c)) fun _ => .ite (fun _ => .refl s) fun _ => ddrOff_links s c

end

theorem zeroizeUnkept_links (cs : List Nat) : KeepsLinks s (s.zeroizeUnkept cs) := by
  unfold State.zeroizeUnkept
  exact (KeepsLinks.refl s).forEach fun c _ u => .ite (fun _ => .refl u) fun _ => cryptoZeroize_links u c

/-! ## Engines and sectors -/

theorem resetField_links (e k : Nat) (f : RegField) : KeepsLinks s (s.resetField (Pg.eng e k) f) := by
  unfold State.resetField
  exact (KeepsLinks.refl s).forEach fun i _ v => (KeepsLinks.refl v).set (le_eng e k)

theorem fenceI_links (e : Nat) : KeepsLinks s (s.fenceI e) := by
  refine .of_regs ?_
  unfold State.fenceI State.both
  split <;> rfl

theorem engClear_links (e : Nat) : KeepsLinks s (s.engClear e) := by
  have hset (u : State) (x : Engine) : KeepsLinks u (u.setEngine e x) := .of_regs rfl
  unfold State.engClear
  exact (((KeepsLinks.refl s).forEach fun (pf : Nat × RegField) _ u => resetField_links u e pf.1 pf.2).trans (hset _ _)).trans (fenceI_links _ e)

theorem enginesReset_links (d : Nat) : KeepsLinks s (s.enginesReset d) := by
  unfold State.enginesReset State.setEngState
  exact (KeepsLinks.refl s).forEach fun i _ u => ((KeepsLinks.refl u).set (le_eng _ 0)).trans (engClear_links _ _)

theorem gsrDie_links {d : Nat} (h1 : 1 ≤ d) (h4 : d ≤ 4) : KeepsLinks s (s.gsrDie d) := by
  unfold State.gsrDie
  refine (KeepsLinks.refl s).forEach fun sec hsec u => ?_
  have hsector : isSector d sec = true := isSector_iff.2 ⟨h1, h4, List.mem_range.1 hsec⟩
  have hassert : KeepsLinks u (u.assertGsr d sec) := .of_regs rfl
  exact hassert.trans (.of_page (changesPage_gsrSector hsector u).regs (le_mi sec h1))

/-! ## Lanes -/

section
variable {p : Nat} (hp : 0x1000 ≤ p)
include hp

theorem laneTo_links (v : Nat) : KeepsLinks s (s.laneTo p v) := by
  unfold State.laneTo State.rclkUpdate
  have hlost (w b : Nat) : KeepsLinks s ((s.set p Lane.STATUS_STATE v).set (Pg.opll (laneDie p) (laneOctet p)) Opll.OPLL_STATUS_RCLK_LOST b) :=
    ((KeepsLinks.refl s).set hp).set (le_opll _ hp)
  dsimp only
  split
  · exact (hlost 0 _).setInt (le_opll _ hp)
  · exact hlost 0 _

theorem laneStart_links : KeepsLinks s (s.laneStart p) := .ite (fun _ => laneTo_links s hp 1) fun _ => .refl s

theorem laneStop_links : KeepsLinks s (s.laneStop p) := by
  have hset (u : State) (x : LaneUnit) : KeepsLinks u (u.setLaneUnit p x) := .of_regs rfl
  have hunlock : KeepsLinks s (s.laneUnlock p) := by
    unfold State.laneUnlock
    exact ((((KeepsLinks.refl s).set hp).set hp).set hp).trans (hset _ _)
  unfold State.laneStop
  exact (hunlock.set hp).trans (laneTo_links _ hp 0)

end

/-! ## Domains -/

theorem domainPages : ∀ x ∈ domains, x < 105 ∧ (1 ≤ x / 16 → (∀ e ∈ domEnds x, 0x1000 ≤ epPage e) ∧ ∀ o ∈ domOctet x, 1 ≤ o.1) := by decide

theorem setPorts_links {x : Nat} (hx : x ∈ domains) (hdie : 1 ≤ x / 16) (v : Nat) : KeepsLinks s (s.setPorts x v) := by
  unfold State.setPorts
  refine (KeepsLinks.refl s).forEach fun e he u => ?_
  unfold State.setPort
  exact .set (.of_regs (by split <;> rfl)) (((domainPages x hx).2 hdie).1 e he)

theorem setDom_links {x : Nat} (hx : x ∈ domains) (v : Nat) : KeepsLinks s (s.setDom x v) := by
  refine fun p f i hp hf hi => State.get_set_other s _ (fieldKey_ne_of_pages hf hi (by decide) (domainPages x hx).1 ?_)
  simp only [IsLinkPage, Pg.reset, Pg.powerDom] at hp ⊢
  omega

theorem drainEnds_links {x : Nat} (hx : x ∈ domains) (hdie : 1 ≤ x / 16) : KeepsLinks s (s.drainEnds x) := by
  have hports := (setDom_links s hx 2).trans (setPorts_links _ hx hdie 0)
  have hoctet := ((domainPages x hx).2 hdie).2
  unfold State.drainEnds
  dsimp only
  split
  case h_2 => exact hports
  case h_1 die o ho =>
    refine hports.forEach fun p hp u => .ite (fun _ => laneStart_links u ?_) fun _ => .refl u
    obtain ⟨i, -, rfl⟩ := List.mem_map.1 hp
    have hbase := le_dieBase (d := die) (hoctet (die, o) ho)
    unfold octetLane
    omega

/-! ## Registers that are lost -/

theorem SMap.find_keep {α : Type} (p : Nat → Bool) (m : SMap α) {k : Nat} (h : p k = true) : SMap.find (SMap.keep p m) k = SMap.find m k := by
  induction m with
  | nil => rfl
  | cons e m ih =>
    obtain ⟨j, v⟩ := e
    by_cases hj : j = k
    · subst hj
      simp [SMap.keep, SMap.find, h]
    · by_cases hpj : p j = true
      · simpa [SMap.keep, SMap.find, hpj, hj] using ih
      · simpa [SMap.keep, SMap.find, hpj, hj] using ih

/-- What is lost of the outer dies is nothing of the hub's pages. -/
theorem loseRegs_links {lost : Nat → RegField → Bool} (h : ∀ p f, IsLinkPage p → lost p f = false) : KeepsLinks s (s.loseRegs lost) := by
  intro p f i hp hf hi
  have hpage : fieldKey p f i / 32768 = p := fieldKey_page hf hi
  unfold State.get State.loseRegs SMap.read
  rw [SMap.find_keep]
  split
  · simp [hpage, h p _ hp]
  · rfl

theorem loseDieStatus_links (d : Nat) : KeepsLinks s (s.loseDieStatus (· = d)) := by
  have hdie (p : Nat) (hp : IsLinkPage p) : pageDie p = 0 := by
    unfold pageDie
    simp only [IsLinkPage, Pg.reset] at hp
    rw [if_pos (by omega)]
  unfold State.loseDieStatus
  have hlost := loseRegs_links s (lost := fun p f => pageDie p = d && pageDie p ≠ 0 && !f.kept && !(s.ddrKept p f) &&
    !(s.keepsKeys p && rootField f) && !(State.crossKept p f)) fun p f hp => by simp [hdie p hp]
  exact hlost.trans (.of_regs rfl)

theorem sleepPorts_links {d : Nat} (hd : 1 ≤ d) : KeepsLinks s (s.sleepPorts (· = d)) := by
  unfold State.sleepPorts
  refine (KeepsLinks.refl s).forEach fun x hx u => ?_
  obtain ⟨hdomain, hmine⟩ := List.mem_filter.1 hx
  simp only [Bool.and_eq_true, decide_eq_true_eq] at hmine
  exact setPorts_links u hdomain (by omega) 2

/-! ## A die that is held -/

theorem dieHeld_links {d : Nat} (h1 : 1 ≤ d) (h6 : d ≤ 6) : KeepsLinks s (s.dieHeld d) := by
  have hdrains : KeepsLinks s (forEach ((State.dieDomains d).filter (fun x => s.domState x = 3)) (fun x u => u.drainEnds x) s) := by
    refine (KeepsLinks.refl s).forEach fun x hx u => ?_
    obtain ⟨hdomain, hdie⟩ := List.mem_filter.1 (List.mem_filter.1 hx).1
    simp only [decide_eq_true_eq] at hdie
    exact drainEnds_links u hdomain (by omega)
  have hnet (u : State) : KeepsLinks u (u.dropNet d) := .of_regs rfl
  have hchannels (h4 : d ≤ 4) (u : State) : KeepsLinks u ((forEach [2 * (d - 1), 2 * (d - 1) + 1] (fun c v => v.channelSettles c)
      ((u.gsrDie d).enginesReset d)).zeroizeUnkept [2 * (d - 1), 2 * (d - 1) + 1]) :=
    (((gsrDie_links u h1 h4).trans (enginesReset_links _ d)).forEach fun c _ v => channelSettles_links v c).trans (zeroizeUnkept_links _ _)
  have hlanes (u : State) : KeepsLinks u (forEach (List.range 64) (fun i v => v.laneStop (Pg.dieBase d + 0x40 + i)) u) :=
    (KeepsLinks.refl u).forEach fun i _ v => laneStop_links v (by have := le_dieBase h1; omega)
  unfold State.dieHeld
  refine KeepsLinks.trans (KeepsLinks.trans (KeepsLinks.trans (hdrains.trans (.ite (fun h4 => ?_) fun _ => ?_)) (hnet _)) (loseDieStatus_links _ d))
    (sleepPorts_links _ h1)
  · exact (hchannels h4 _).withDbg _
  · exact (hlanes _).withLanes _

/-- The dies that come to be held take nothing of the hub's pages with them. -/
theorem newlyHeld_links (old : State) : KeepsLinks s (State.newlyHeld old s) := by
  unfold State.newlyHeld
  refine (KeepsLinks.refl s).forEach fun d hd u => .ite (fun _ => dieHeld_links u ?_ ?_) fun _ => .refl u
  · fin_cases hd <;> decide
  · fin_cases hd <;> decide

end

end Sys2Proof.Machine
end
section
/-! SUPPORT. The training of a port, state by state (R119 to R124, R128). -/

namespace Sys2Proof.Machine

open Reg

variable {s : State} {d : Nat}

/-! ## TRAIN -/

theorem State.startTraining_outcome (s : State) (d : Nat) : (s.startTraining d).portState d = 1 ∧
    (s.startTraining d).get (Pg.port d) Port.STATUS_ATTEMPTS = 1 ∧
    (s.startTraining d).get (Pg.port d) Port.CTL_SPLIT = s.get (Pg.port d) Port.CTL_SPLIT ∧
    (s.startTraining d).get Pg.reset Reset.RST_DIE_STAT_HELD = s.get Pg.reset Reset.RST_DIE_STAT_HELD := by
  have hswaps := s.abandonSwaps_works d
  unfold State.startTraining
  refine ⟨State.beginAttempt_state _ d, ?_, ?_, ?_⟩
  · rw [State.beginAttempt_attempts, State.get_set_same]
    rfl
  · rw [State.beginAttempt_split, State.get_set_other _ _ (fieldKey_ne_of_apart (by decide) (by decide) (by decide)), hswaps.get (by simp)]
  · rw [State.beginAttempt_held, State.get_set_other _ _ (fieldKey_held_ne d _ 0 0).1.symm, hswaps.held]

/-- A split as it stands, written again, stays. -/
theorem State.splitStored_same {o : Origin} {w : Nat} (h : bits w 5 4 = s.get (Pg.port d) Port.CTL_SPLIT) :
    (s.splitStored d o w).get (Pg.port d) Port.CTL_SPLIT = s.get (Pg.port d) Port.CTL_SPLIT := by
  unfold State.splitStored
  split
  · exact State.capture_get _ (by decide) (by decide) (by decide) (Or.inr (by decide))
  · rw [State.get_set_same, h]
    exact Nat.mod_eq_of_lt (h ▸ bits_lt w 5 4)

theorem State.trainWritten (hd : isPort d = true) {o : Origin} {w : Word} (h : Accepts s o (Pg.port d) 0x010 w = true)
    (hsplit : bits w.toNat 5 4 = s.get (Pg.port d) Port.CTL_SPLIT) (htrain : bit w.toNat 0 = true) :
    s.writeReg o (Pg.port d) 0x010 w = (s.splitStored d o w.toNat).startTraining d := by
  obtain ⟨h1, h6⟩ := isPort_range hd
  rw [State.writeReg_portCtl hd h, State.portWritten, if_neg (by decide), (pageKind_port d (by omega) h1).2, htrain, if_pos rfl,
    State.splitStored_same hsplit, if_neg (by simp)]
  exact State.newlyHeld_of_same (State.startTraining_outcome _ d).2.2.2

/-- The word of LOMUM_TRAIN has the bit of `TRAIN`. -/
theorem bit_train (x : Nat) : bit (BitVec.ofNat 32 (x ||| 1)).toNat 0 = true := by
  rw [BitVec.toNat_ofNat, bit, Nat.testBit_mod_two_pow]
  simp

/-! ## SB_SYNC, CLK_LOCK and WIRE_TEST -/

theorem State.portState_set (s : State) (d : Nat) {v : Nat} (hv : v < 16) : (s.set (Pg.port d) Port.STATUS_STATE v).portState d = v :=
  (State.get_set_same _ _ _ _ _).trans (Nat.mod_eq_of_lt hv)

theorem State.helloDone_outcome (s : State) (d : Nat) : (s.helloDone d).portState d = (if s.portState d = 1 then 2 else s.portState d) ∧
    RegsSameBut s (s.helloDone d) [fieldKey (Pg.port d) Port.STATUS_STATE 0] ∧ (s.helloDone d).link = s.link := by
  unfold State.helloDone
  split
  · exact ⟨s.portState_set d (by decide), RegsSameBut.set _ _ _ _ _, rfl⟩
  · exact ⟨rfl, RegsSameBut.refl _ _, rfl⟩

/-- The clocks that failed to lock, recorded. -/
def State.clockFailed (d : Nat) (f : Nat × Nat) (t : State) : State :=
  t.setLinkMod d f.1 { t.linkMod d f.1 with clkFail := putDir f.2 true (t.linkMod d f.1).clkFail }

theorem ofDir_putDir_true (e dir : Nat) (x : Bool × Bool) (h : ofDir e x = true) : ofDir e (putDir dir true x) = true := by
  by_cases he : e = 0 <;> by_cases hdir : dir = 0 <;> simp_all [ofDir, putDir]

theorem State.clockFailed_keeps (f : Nat × Nat) {t : State} {e dir : Nat} (h : ofDir dir (t.linkMod d e).clkFail = true) :
    ofDir dir ((State.clockFailed d f t).linkMod d e).clkFail = true := by
  by_cases he : e = f.1
  · subst he
    rw [State.clockFailed, State.linkMod_setLinkMod]
    exact ofDir_putDir_true _ _ _ h
  · rwa [State.clockFailed, State.linkMod_setLinkMod_other _ _ _ he]

theorem State.clocksFailed (fails : List (Nat × Nat)) (t : State) {f : Nat × Nat}
    (h : f ∈ fails ∨ ofDir f.2 (t.linkMod d f.1).clkFail = true) :
    ofDir f.2 ((forEach fails (State.clockFailed d) t).linkMod d f.1).clkFail = true := by
  induction fails generalizing t with
  | nil => exact h.resolve_left (by simp)
  | cons g fails ih =>
    refine ih _ ?_
    rcases h with h | h
    · rcases List.mem_cons.1 h with rfl | h
      · exact Or.inr (by simp [State.clockFailed])
      · exact Or.inl h
    · exact Or.inr (State.clockFailed_keeps g h)

theorem State.clkLocked_of {fails : List (Nat × Nat)} (h : s.portState d = 2) :
    s.clkLocked d fails = forEach fails (State.clockFailed d) (s.set (Pg.port d) Port.STATUS_STATE 3) := if_pos h

theorem State.clkLocked_of_not {fails : List (Nat × Nat)} (h : s.portState d ≠ 2) : s.clkLocked d fails = s := if_neg h

theorem State.clocksFailed_regs (fails : List (Nat × Nat)) (t : State) : (forEach fails (State.clockFailed d) t).regs = t.regs :=
  forEach_keeps State.regs fails (fun f u => u.setLinkMod_regs d f.1 _) t

/-- CLK_LOCK ends with the clocks that failed recorded. -/
theorem State.clkLocked_outcome (s : State) (d : Nat) (fails : List (Nat × Nat)) : let t := s.clkLocked d fails
    t.portState d = (if s.portState d = 2 then 3 else s.portState d) ∧ RegsSameBut s t [fieldKey (Pg.port d) Port.STATUS_STATE 0] ∧
      (s.portState d = 2 → ∀ f ∈ fails, ofDir f.2 (t.linkMod d f.1).clkFail = true) ∧ (s.portState d ≠ 2 → t = s) := by
  dsimp only
  by_cases h : s.portState d = 2
  · have hregs := State.clocksFailed_regs (d := d) fails (s.set (Pg.port d) Port.STATUS_STATE 3)
    rw [State.clkLocked_of h, if_pos h]
    exact ⟨(State.get_of_regs hregs _ _ _).trans (s.portState_set d (by decide)), RegsSameBut.of_regs (RegsSameBut.set _ _ _ _ _) hregs,
      fun _ f hf => State.clocksFailed fails _ (Or.inl hf), fun h' => absurd h h'⟩
  · rw [State.clkLocked_of_not h, if_neg h]
    exact ⟨rfl, RegsSameBut.refl _ _, fun h' => absurd h' h, fun _ => rfl⟩

/-- A wire found not good, recorded. -/
def State.wireFailed (d : Nat) (b : Nat × Nat × Nat) (t : State) : State :=
  t.setLinkMod d b.1 { t.linkMod d b.1 with
    hubBad := putDir b.2.1 (withBit (ofDir b.2.1 (t.linkMod d b.1).hubBad) b.2.2 true) (t.linkMod d b.1).hubBad }

theorem bit_ofDir_putDir (e dir v w : Nat) (x : Nat × Nat) (h : bit (ofDir e x) w = true) :
    bit (ofDir e (putDir dir (withBit (ofDir dir x) v true) x)) w = true := by
  by_cases he : e = 0 <;> by_cases hdir : dir = 0 <;> simp_all [ofDir, putDir, bit_withBit]

theorem State.wireFailed_keeps (b : Nat × Nat × Nat) {t : State} {e dir w : Nat} (h : bit (ofDir dir (t.linkMod d e).hubBad) w = true) :
    bit (ofDir dir ((State.wireFailed d b t).linkMod d e).hubBad) w = true := by
  by_cases he : e = b.1
  · subst he
    rw [State.wireFailed, State.linkMod_setLinkMod]
    exact bit_ofDir_putDir _ _ _ _ _ h
  · rwa [State.wireFailed, State.linkMod_setLinkMod_other _ _ _ he]

theorem State.wiresFailed (bad : List (Nat × Nat × Nat)) (t : State) {b : Nat × Nat × Nat}
    (h : b ∈ bad ∨ bit (ofDir b.2.1 (t.linkMod d b.1).hubBad) b.2.2 = true) :
    bit (ofDir b.2.1 ((forEach bad (State.wireFailed d) t).linkMod d b.1).hubBad) b.2.2 = true := by
  induction bad generalizing t with
  | nil => exact h.resolve_left (by simp)
  | cons g bad ih =>
    refine ih _ ?_
    rcases h with h | h
    · rcases List.mem_cons.1 h with rfl | h
      · exact Or.inr (by simp [State.wireFailed, bit_withBit])
      · exact Or.inl h
    · exact Or.inr (State.wireFailed_keeps g h)

theorem State.wiresFailed_regs (bad : List (Nat × Nat × Nat)) (t : State) : (forEach bad (State.wireFailed d) t).regs = t.regs :=
  forEach_keeps State.regs bad (fun b u => u.setLinkMod_regs d b.1 _) t

theorem State.wiresTested_of {bad : List (Nat × Nat × Nat)} (h : s.portState d = 3) :
    s.wiresTested d bad = forEach bad (State.wireFailed d) (s.set (Pg.port d) Port.STATUS_STATE 4) := if_pos h

theorem State.wiresTested_of_not {bad : List (Nat × Nat × Nat)} (h : s.portState d ≠ 3) : s.wiresTested d bad = s := if_neg h

theorem State.portActive_iff {t : State} : t.portActive d = true ↔ t.portState d = 6 := by simp [State.portActive]

theorem State.reserveTested_of_not {t : State} {bad : List (Nat × Nat × Nat)}
    (h : ¬(t.portActive d = true ∧ SMap.read 0 t.link.background d = 1)) : t.reserveTested d bad = t := if_neg h

/-- Whether a wire that the reserve's map uses was found not good. -/
def State.reserveUses (s : State) (d : Nat) (bad : List (Nat × Nat × Nat)) : Bool :=
  bad.any (fun b => b.1 = reserveOf d &&
    (frameWires false (s.wireMask (Pg.port d) (reserveOf d) b.2.1) (s.wireAssign (Pg.port d) (reserveOf d) b.2.1)).elem (some b.2.2))

theorem State.reserveTested_of {bad : List (Nat × Nat × Nat)} (h : s.portActive d = true ∧ SMap.read 0 s.link.background d = 1) :
    s.reserveTested d bad = if s.reserveUses d bad then s.reserveLost d
      else { s with link := { s.link with background := SMap.write 0 s.link.background d 2 } } := if_pos h

/-- WIRE_TEST_DONE, whether it ends the test of the port or of the reserve in the background. -/
theorem State.wireTestDone_outcome (s : State) (d : Nat) (bad : List (Nat × Nat × Nat)) :
    let t := (s.wiresTested d bad).reserveTested d bad
    let training := s.portActive d = true ∧ SMap.read 0 s.link.background d = 1
    t.portState d = (if s.portState d = 3 then 4 else s.portState d) ∧
      (s.portState d = 3 → RegsSameBut s t [fieldKey (Pg.port d) Port.STATUS_STATE 0] ∧
        ∀ b ∈ bad, bit (ofDir b.2.1 (t.linkMod d b.1).hubBad) b.2.2 = true) ∧
      (training → s.reserveUses d bad = false → SMap.read 0 t.link.background d = 2 ∧ t.regs = s.regs) ∧
      (training → s.reserveUses d bad = true →
        SMap.read false t.link.reserveBad d = true ∧ Raised t (Pg.port d) Port.INT_MODULE_DOWN ∧ t.modState d (State.reserveOf d) = 0) ∧
      (s.portState d ≠ 3 → ¬training → t = s) := by
  dsimp only
  by_cases h3 : s.portState d = 3
  · have hidle : ¬(s.portActive d = true ∧ SMap.read 0 s.link.background d = 1) := by
      rw [State.portActive_iff]
      omega
    have hregs := State.wiresFailed_regs (d := d) bad (s.set (Pg.port d) Port.STATUS_STATE 4)
    have hstate : (s.wiresTested d bad).portState d = 4 := by
      rw [State.wiresTested_of h3]
      exact (State.get_of_regs hregs _ _ _).trans (s.portState_set d (by decide))
    have hbad : ∀ b ∈ bad, bit (ofDir b.2.1 ((s.wiresTested d bad).linkMod d b.1).hubBad) b.2.2 = true := by
      rw [State.wiresTested_of h3]
      exact fun b hb => State.wiresFailed bad _ (Or.inl hb)
    have hsame : RegsSameBut s (s.wiresTested d bad) [fieldKey (Pg.port d) Port.STATUS_STATE 0] := by
      rw [State.wiresTested_of h3]
      exact RegsSameBut.of_regs (RegsSameBut.set _ _ _ _ _) hregs
    rw [State.reserveTested_of_not (by rw [State.portActive_iff]; omega), if_pos h3]
    exact ⟨hstate, fun _ => ⟨hsame, hbad⟩, fun h => absurd h hidle, fun h => absurd h hidle, fun h => absurd h3 h⟩
  · rw [State.wiresTested_of_not h3, if_neg h3]
    by_cases htraining : s.portActive d = true ∧ SMap.read 0 s.link.background d = 1
    · rw [State.reserveTested_of htraining]
      cases hused : s.reserveUses d bad with
      | true =>
        obtain ⟨hdown, hnot, hraised⟩ := State.reserveLost_outcome (s := s) (d := d)
        rw [if_pos rfl]
        exact ⟨(s.reserveLost_works d).get (by simp), fun h => absurd h h3, fun _ h => by simp at h, fun _ _ => ⟨hnot, hraised, hdown⟩,
          fun _ h => absurd htraining h⟩
      | false =>
        rw [if_neg (by decide)]
        exact ⟨rfl, fun h => absurd h h3, fun _ _ => ⟨SMap.read_write_same 0 s.link.background d 2, rfl⟩, fun _ h => by simp at h, fun _ h => absurd htraining h⟩
    · rw [State.reserveTested_of_not htraining]
      exact ⟨rfl, fun h => absurd h h3, fun h => absurd h htraining, fun h => absurd h htraining, fun _ _ => rfl⟩

/-! ## FRAME_LOCK -/

/-- The port shows ACTIVE. -/
def State.activeShown (s : State) (d : Nat) : State := (s.set (Pg.port d) Port.STATUS_STATE 6).setInt (Pg.port d) Port.INT_ACTIVE

/-- What the modules become as the port enters ACTIVE is work on its modules. -/
theorem State.frameLocked_works (hd : isPort d = true) (h : s.portState d = 5) : Works d (s.activeShown d) (s.frameLocked d) := by
  unfold State.frameLocked
  rw [if_pos h]
  refine Works.trans ?_ (State.skeinLast_works _ d _)
  refine Works.trans (Works.trans (State.reserveOutcome_works _ hd) (Works.forEach (fun p _ u => u.moduleOutcome_works hd p) _))
    (Works.forEach (fun p _ u => ?_) _)
  exact Works.of_regs ((State.linkResume_regs _ _ _ _).trans (State.linkResume_regs _ _ _ _))

theorem State.frameLocked_of_not (h5 : s.portState d ≠ 5) (h : ¬(s.portActive d = true ∧ SMap.read 0 s.link.background d = 2)) :
    s.frameLocked d = s := by
  unfold State.frameLocked
  rw [if_neg h5, if_neg h]

theorem State.frameLocked_background (h : s.portActive d = true) (hb : SMap.read 0 s.link.background d = 2) : s.frameLocked d =
    { s.setModState d (reserveOf d) 2 with link := { s.link with background := SMap.write 0 s.link.background d 0 } } := by
  unfold State.frameLocked
  rw [if_neg (by rw [State.portActive_iff] at h; omega), if_pos ⟨h, hb⟩]

theorem State.frameLocked_outcome (s : State) (hd : isPort d = true) : let t := s.frameLocked d
    t.portState d = (if s.portState d = 5 then 6 else s.portState d) ∧ (s.portState d = 5 → Raised t (Pg.port d) Port.INT_ACTIVE) ∧
      (s.portActive d = true → SMap.read 0 s.link.background d = 2 → t.modState d (State.reserveOf d) = 2 ∧
        SMap.read 0 t.link.background d = 0) ∧
      (s.portState d ≠ 5 → ¬(s.portActive d = true ∧ SMap.read 0 s.link.background d = 2) → t = s) := by
  dsimp only
  by_cases h5 : s.portState d = 5
  · have hworks := State.frameLocked_works hd h5
    have hactive : ¬s.portActive d = true := by
      rw [State.portActive_iff]
      omega
    have hshown : (s.activeShown d).portState d = 6 :=
      (State.get_setInt_other _ (fieldKey_ne_of_apart (by decide) (by decide) (by decide))).trans (s.portState_set d (by decide))
    rw [if_pos h5]
    exact ⟨(hworks.get (by simp)).trans hshown, fun _ => hworks.raised _ (by decide) (State.setInt_sets _ _ _ (by decide) (by decide)),
      fun h => absurd h hactive, fun h => absurd h5 h⟩
  · rw [if_neg h5]
    by_cases h : s.portActive d = true ∧ SMap.read 0 s.link.background d = 2
    · have hfull : (s.setModState d (State.reserveOf d) 2).modState d (State.reserveOf d) = 2 := s.modState_setModState d _ 2
      rw [State.frameLocked_background h.1 h.2]
      have hstate : (s.setModState d (State.reserveOf d) 2).portState d = s.portState d :=
        State.get_set_other _ _ (fieldKey_ne_of_apart (by decide) (by decide) (reserveOf_lt d))
      exact ⟨hstate, fun h' => absurd h' h5, fun _ _ => ⟨hfull, SMap.read_write_same 0 s.link.background d 0⟩,
        fun _ h' => absurd h h'⟩
    · rw [State.frameLocked_of_not h5 h]
      exact ⟨rfl, fun h' => absurd h' h5, fun ha hb => absurd ⟨ha, hb⟩ h, fun _ _ => rfl⟩

/-! ## Failures -/

/-- An attempt that fails, and the die that the hub comes to hold with the fourth. -/
theorem State.attemptFails_outcome (s : State) (hd : isPort d = true) : let t := State.newlyHeld s (s.attemptFail d)
    Raised t (Pg.port d) Port.INT_ATTEMPT_FAIL ∧
      (s.get (Pg.port d) Port.STATUS_ATTEMPTS < 4 →
        t.portState d = 1 ∧ t.get (Pg.port d) Port.STATUS_ATTEMPTS = s.get (Pg.port d) Port.STATUS_ATTEMPTS + 1) ∧
      (4 ≤ s.get (Pg.port d) Port.STATUS_ATTEMPTS → t.portState d = 0 ∧ bit (t.get Pg.reset Reset.RST_DIE_STAT_HELD) d = true) := by
  obtain ⟨h1, h6⟩ := isPort_range hd
  have hlinks := newlyHeld_links (s.attemptFail d) s
  have hport : IsLinkPage (Pg.port d) := Or.inr (by simp only [Pg.port]; omega)
  have hraised := State.attemptFail_raises (s := s) (d := d)
  dsimp only
  refine ⟨?_, fun h => ?_, fun h => ?_⟩
  · rwa [Raised, hlinks _ _ _ hport (by decide) (by decide)]
  · rw [State.newlyHeld_attemptFail h, State.attemptFail_of_lt h, State.beginAttempt_attempts, State.attemptFail_attempts]
    exact ⟨State.beginAttempt_state _ d, by omega⟩
  · rw [State.portState, hlinks _ _ _ hport (by decide) (by decide), hlinks _ _ _ (Or.inl rfl) (by decide) (by decide), State.attemptFail_of_le h]
    exact ⟨State.linkDown_state _ d, State.linkDown_held (by omega)⟩

theorem State.sidebandFails_of_not {first second : List Byte} (h : s.portState d = 0 ∨ sidebandGood first = true ∨ sidebandGood second = true) :
    s.sidebandFails d first second = s := if_pos h

theorem State.sidebandFails_training {first second : List Byte} (h0 : s.portState d ≠ 0) (h6 : s.portState d ≠ 6)
    (hfirst : sidebandGood first = false) (hsecond : sidebandGood second = false) : s.sidebandFails d first second = s.attemptFail d := by
  unfold State.sidebandFails
  rw [if_neg (by simp [h0, hfirst, hsecond]), if_neg (by rwa [State.portActive_iff])]

/-- While the port is ACTIVE a sideband failure is a fault of the sideband alone (R129). -/
theorem State.sidebandFails_active {first second : List Byte} (h : s.portActive d = true)
    (hfirst : sidebandGood first = false) (hsecond : sidebandGood second = false) : s.sidebandFails d first second =
      (s.set (Pg.port d) Port.STATUS_SB_FAULT 1).portEvent d 0x1002 3 0 0xFF none true := by
  have h6 := State.portActive_iff.1 h
  unfold State.sidebandFails
  rw [if_neg (by simp [h6, hfirst, hsecond]), if_pos h]

theorem State.sidebandFault (h : s.portActive d = true) :
    let t := (s.set (Pg.port d) Port.STATUS_SB_FAULT 1).portEvent d 0x1002 3 0 0xFF none true
    t.get (Pg.port d) Port.STATUS_SB_FAULT = 1 ∧ t.portActive d = true ∧
      t.get Pg.reset Reset.RST_DIE_STAT_HELD = s.get Pg.reset Reset.RST_DIE_STAT_HELD := by
  have hworks := Works.portEvent (d := d) 0x1002 3 0 0xFF none true (s.set (Pg.port d) Port.STATUS_SB_FAULT 1)
  dsimp only
  rw [State.portActive_iff, State.portState, hworks.get (by simp), hworks.get (by simp), hworks.held, State.get_set_same,
    State.get_set_other _ _ (fieldKey_ne_of_apart (by decide) (by decide) (by decide)), State.get_set_other _ _ (fieldKey_held_ne d _ 0 0).1.symm]
  exact ⟨rfl, State.portActive_iff.1 h, rfl⟩

theorem State.trainingTimesOut_of (h1 : 1 ≤ s.portState d) (h5 : s.portState d ≤ 5) :
    s.trainingTimesOut d = State.newlyHeld s (s.attemptFail d) := if_pos ⟨h1, h5⟩

theorem State.trainingTimesOut_of_not (h : s.portState d = 0 ∨ s.portState d = 6) : s.trainingTimesOut d = s := if_neg (by omega)

end Sys2Proof.Machine
end
section
namespace Sys2Proof

open Machine Machine.Reg

/-- Settles O17, state by state: the port's own registers are written by each step alone, and the work on the modules, the events and the die
that comes to be held leave them. -/
theorem trainingPassesFromStateToState : Obligations.TrainingPassesFromStateToState := by
  unfold Obligations.TrainingPassesFromStateToState
  intro s o d hd
  dsimp only
  have hidle : State.portActive s d = true → s.portState d = 6 := State.portActive_iff.1
  refine ⟨fun h hsplit => completes_of_onPart rfl hd ?_, completes_of_onPart rfl hd (s.helloDone_outcome d),
    fun fails hfails => completes_of_onPart rfl (by simp [hd, hfails]) ?_, fun bad hbad => completes_of_onPart rfl (by simp [hd, hbad]) ?_,
    completes_of_onPart rfl hd ?_, fun first second hfirst hsecond => ⟨?_, fun hactive => ⟨completes_of_onPart rfl hd ?_, completes_of_onPart rfl hd ?_⟩⟩,
    fun first second hgood => completes_of_onPart rfl hd ?_⟩
  · obtain ⟨hstate, hattempts, hkept, -⟩ := State.startTraining_outcome (s.splitStored d o
      (BitVec.ofNat 32 (s.storedWord (Pg.port d) 0x010 ||| 1)).toNat) d
    rw [State.splitStored_same hsplit] at hkept
    rw [State.trainWritten hd h hsplit (bit_train _)]
    generalize State.startTraining _ d = t at *
    exact ⟨hstate, hattempts, hkept⟩
  · obtain ⟨hstate, hregs, hclocks, hsame⟩ := s.clkLocked_outcome d fails
    generalize s.clkLocked d fails = t at *
    exact ⟨hstate, hregs, hclocks, fun h => by rw [hsame h]⟩
  · obtain ⟨hstate, htest, hgood, hused, hsame⟩ := s.wireTestDone_outcome d bad
    generalize (s.wiresTested d bad).reserveTested d bad = t at *
    exact ⟨hstate, htest, hgood, hused, fun h h' => by rw [hsame h h']⟩
  · obtain ⟨hstate, hraised, hbackground, hsame⟩ := s.frameLocked_outcome hd
    generalize s.frameLocked d = t at *
    exact ⟨hstate, hraised, hbackground, fun h h' => by rw [hsame h h']⟩
  · have hfails := s.attemptFails_outcome hd
    dsimp only at hfails
    rintro i (rfl | rfl)
    · refine completes_of_onPart rfl hd ⟨fun h1 h5 => ?_, fun h0 => ?_⟩
      · rw [State.trainingTimesOut_of h1 h5]
        generalize State.newlyHeld s (s.attemptFail d) = t at *
        exact hfails
      · rw [State.trainingTimesOut_of_not (Or.inl h0)]
    · refine completes_of_onPart rfl hd ⟨fun h1 h5 => ?_, fun h0 => ?_⟩
      · rw [State.sidebandFails_training (by omega) (by omega) hfirst hsecond]
        generalize State.newlyHeld s (s.attemptFail d) = t at *
        exact hfails
      · rw [State.sidebandFails_of_not (Or.inl h0), State.newlyHeld_self]
  · obtain ⟨hfault, hstill, hheld⟩ := State.sidebandFault hactive
    rw [State.sidebandFails_active hactive hfirst hsecond, State.newlyHeld_of_same hheld]
    generalize State.portEvent _ d 0x1002 3 0 0xFF none true = t at *
    exact ⟨hfault, hstill⟩
  · rw [State.trainingTimesOut_of_not (Or.inr (hidle hactive))]
  · rw [State.sidebandFails_of_not (Or.inr hgood), State.newlyHeld_self]

end Sys2Proof
end
section
/-! SUPPORT. A crossing frame at its receiver (R117, R155, R157): the check, which takes it off the wires and counts it, and the landing of a data
frame. -/

namespace Sys2Proof.Machine

open Reg

/-- A count that saturates stays within its width. -/
theorem satAdd_mod (w x n : Nat) : satAdd w x n % 2 ^ w = satAdd w x n :=
  Nat.mod_eq_of_lt (lt_of_le_of_lt (Nat.min_le_right _ _) (Nat.sub_lt (Nat.two_pow_pos w) Nat.one_pos))

/-- The payload and the framing word that a receiver reads of a frame whose wires have errors. -/
def TxFrame.readOff (tx : TxFrame) (err : BitVec 1700) : Nat × Nat :=
  let w := frameWires false tx.map.mask.toNat tx.map.assign.toNat
  offWires w (onWires w tx.payload.toNat tx.framing.toNat ^^^ err.toNat)

/-- The hub's poison reaches a receiver on the die side only (R155). -/
def TxFrame.hubPoison (tx : TxFrame) (dir : Nat) : Bool := dir = 0 && tx.poisoned

/-- Whether a receiver that expects a `SEQ4` fails a frame. -/
def TxFrame.fails (tx : TxFrame) (want dir : Nat) (err : BitVec 1700) : Bool :=
  !(frameGood want (tx.readOff err).1 (tx.readOff err).2 && !tx.lost) || tx.hubPoison dir

/-- The frame as its receiver holds it. -/
def TxFrame.received (tx : TxFrame) (want dir : Nat) (err : BitVec 1700) : CrossFrame :=
  { payload := BitVec.ofNat 1536 (tx.readOff err).1, failed := tx.fails want dir err, poisoned := tx.hubPoison dir, srcDie := tx.srcDie
    srcMod := tx.srcMod, cycle := tx.cycle }

section
variable (tx : TxFrame) (want dir : Nat) (err : BitVec 1700)

theorem TxFrame.received_parts : (tx.received want dir err).payload = BitVec.ofNat 1536 (tx.readOff err).1 ∧
    (tx.received want dir err).failed = tx.fails want dir err ∧ (tx.received want dir err).poisoned = tx.hubPoison dir ∧
    (tx.received want dir err).cycle = tx.cycle := by
  simp only [TxFrame.received, and_self]

theorem TxFrame.received_failed : (tx.received want dir err).failed = tx.fails want dir err := (tx.received_parts want dir err).2.1

end

namespace State

/-- A frame has been taken off the wires. -/
def frameTaken (s : State) (d m dir : Nat) (rest : List TxFrame) : State :=
  let k := spanDirKey d m dir
  { s with span := { s.span with
    flight := SMap.write [] s.span.flight k rest, seq4 := SMap.write 0 s.span.seq4 k ((SMap.read 0 s.span.seq4 k + 1) % 16) } }

/-- A failed frame counts (R117). -/
def frameCounted (s : State) (d p : Nat) (failed : Bool) : State := if failed then s.count (Pg.port d) Port.LMH_ERRS_FAILED_FRAMES 1 p else s

/-- A frame has been checked, counted and classified. -/
def frameChecked (s : State) (d m p dir : Nat) (tx : TxFrame) (rest : List TxFrame) (failed : Bool) : State :=
  let t := (s.frameTaken d m dir rest).frameCounted d p failed
  if tx.hubPoison dir then t else t.classify d m p dir failed

/-- A data frame lands at the hub or at its slice. -/
def frameLanded (s : State) (d m dir : Nat) (data : Bool) (f : CrossFrame) : State :=
  if data = false then s
  else if dir = 1 then { s with span := { s.span with hubRx := SMap.write none s.span.hubRx (spanKey d m) (some f) } }
  else s.setSlice d m { s.slice d m with landing := (s.slice d m).landing ++ [f] }

variable {s : State} {d m p dir : Nat} {tx : TxFrame} {rest : List TxFrame}

theorem frameArrives_eq (err : BitVec 1700) (h : SMap.read [] s.span.flight (spanDirKey d m dir) = tx :: rest) :
    s.frameArrives d m p dir err =
      (s.frameChecked d m p dir tx rest (tx.fails (SMap.read 0 s.span.seq4 (spanDirKey d m dir)) dir err)).frameLanded d m dir tx.data
        (tx.received (SMap.read 0 s.span.seq4 (spanDirKey d m dir)) dir err) := by
  unfold frameArrives
  simp only [h]
  rfl

/-- Without a frame in flight nothing arrives. -/
theorem frameArrives_of_nil (err : BitVec 1700) (h : SMap.read [] s.span.flight (spanDirKey d m dir) = []) : s.frameArrives d m p dir err = s := by
  unfold frameArrives
  simp only [h]

theorem crossingReceived_eq (err : BitVec 1700) (hp : s.physOf d m = some p) (hactive : s.portActive d = true) (hm : m < s.crossModules d) :
    s.crossingReceived d m dir err = s.frameArrives d m p dir err := by
  unfold crossingReceived
  simp only [hp]
  exact if_pos ⟨hactive, hm⟩

theorem crossingReceived_of_not (err : BitVec 1700) (hp : s.physOf d m = some p) (h : s.portActive d = false ∨ s.crossModules d ≤ m ∨
    SMap.read [] s.span.flight (spanDirKey d m dir) = []) : s.crossingReceived d m dir err = s := by
  unfold crossingReceived
  simp only [hp]
  rcases h with h | h | h
  · exact if_neg (by simp [h])
  · exact if_neg (by omega)
  · rw [frameArrives_of_nil err h, ite_self]

/-! ## The check -/

section
variable (s d m p dir)

/-- A classification is entered among the receivers and laps, and frames and slices stay. -/
theorem classify_span (failed : Bool) :
    ∃ awaiting laps, (s.classify d m p dir failed).span = { s.span with awaiting := awaiting, laps := laps } := by
  unfold classify
  dsimp only
  split_ifs <;> exact ⟨_, _, rfl⟩

theorem classify_failed_frames (failed : Bool) (i : Nat) :
    (s.classify d m p dir failed).get (Pg.port d) Port.LMH_ERRS_FAILED_FRAMES i = s.get (Pg.port d) Port.LMH_ERRS_FAILED_FRAMES i := by
  unfold classify
  dsimp only
  split_ifs
  case pos => rfl
  case pos => rfl
  case pos => exact get_count_other _ _ (fieldKey_ne_of_bit (by decide) (by decide) (by decide))
  case neg => rfl

theorem frameChecked_span (tx : TxFrame) (rest : List TxFrame) (failed : Bool) :
    ∃ awaiting laps, (s.frameChecked d m p dir tx rest failed).span =
      { (s.frameTaken d m dir rest).span with awaiting := awaiting, laps := laps } := by
  have hcounted (t : State) : (t.frameCounted d p failed).span = t.span := by
    cases failed <;> rfl
  unfold frameChecked
  cases tx.hubPoison dir with
  | true => exact ⟨_, _, hcounted _⟩
  | false =>
    obtain ⟨a, l, h⟩ := classify_span ((s.frameTaken d m dir rest).frameCounted d p failed) d m p dir failed
    refine ⟨a, l, h.trans ?_⟩
    rw [hcounted]

theorem frameChecked_count (tx : TxFrame) (rest : List TxFrame) (failed : Bool) :
    (s.frameChecked d m p dir tx rest failed).get (Pg.port d) Port.LMH_ERRS_FAILED_FRAMES p =
      if failed then min (s.get (Pg.port d) Port.LMH_ERRS_FAILED_FRAMES p + 1) 0xFFFF
      else s.get (Pg.port d) Port.LMH_ERRS_FAILED_FRAMES p := by
  have hcounted : ((s.frameTaken d m dir rest).frameCounted d p failed).get (Pg.port d) Port.LMH_ERRS_FAILED_FRAMES p =
      if failed then min (s.get (Pg.port d) Port.LMH_ERRS_FAILED_FRAMES p + 1) 0xFFFF
      else s.get (Pg.port d) Port.LMH_ERRS_FAILED_FRAMES p := by
    cases failed with
    | false => rfl
    | true => exact (get_count_same _ _ _ _ _).trans (satAdd_mod _ _ _)
  unfold frameChecked
  cases tx.hubPoison dir with
  | true => exact hcounted
  | false => exact (classify_failed_frames _ d m p dir failed p).trans hcounted

end

/-! ## The landing -/

theorem frameLanded_span (data : Bool) (f : CrossFrame) : ∃ hubRx slices, (s.frameLanded d m dir data f).span =
    { s.span with hubRx := hubRx, slices := slices } := by
  unfold frameLanded
  split_ifs <;> exact ⟨_, _, rfl⟩

theorem frameLanded_regs (data : Bool) (f : CrossFrame) : (s.frameLanded d m dir data f).regs = s.regs := by
  unfold frameLanded
  split_ifs <;> rfl

@[simp] theorem slice_setSlice (x : Slice) : (s.setSlice d m x).slice d m = x := SMap.read_write_same _ _ _ _

theorem frameLanded_hub (f : CrossFrame) : SMap.read none (s.frameLanded d m 1 true f).span.hubRx (spanKey d m) = some f :=
  SMap.read_write_same none s.span.hubRx (spanKey d m) (some f)

theorem frameLanded_slice (f : CrossFrame) : ((s.frameLanded d m 0 true f).slice d m).landing = (s.slice d m).landing ++ [f] :=
  congrArg Slice.landing (slice_setSlice _)

theorem slice_of_slices {t : State} (h : t.span.slices = s.span.slices) (d m : Nat) : t.slice d m = s.slice d m := by
  rw [slice, h, slice]

/-- What the arrival of a frame leaves behind (R117). -/
structure FrameArrived (s t : State) (d m p dir : Nat) (rest : List TxFrame) (data : Bool) (f : CrossFrame) : Prop where
  seq4 : SMap.read 0 t.span.seq4 (spanDirKey d m dir) = (SMap.read 0 s.span.seq4 (spanDirKey d m dir) + 1) % 16
  flight : SMap.read [] t.span.flight (spanDirKey d m dir) = rest
  counted : t.get (Pg.port d) Port.LMH_ERRS_FAILED_FRAMES p =
    if f.failed then min (s.get (Pg.port d) Port.LMH_ERRS_FAILED_FRAMES p + 1) 0xFFFF else s.get (Pg.port d) Port.LMH_ERRS_FAILED_FRAMES p
  hub : dir = 1 → data = true → SMap.read none t.span.hubRx (spanKey d m) = some f
  slice : dir = 0 → data = true → (t.slice d m).landing = (s.slice d m).landing ++ [f]
  idle : data = false → t.span.hubRx = s.span.hubRx ∧ t.slice d m = s.slice d m

theorem frameArrived_of_checked (s : State) (d m p dir : Nat) (tx : TxFrame) (rest : List TxFrame) (data : Bool) (f : CrossFrame) :
    FrameArrived s ((s.frameChecked d m p dir tx rest f.failed).frameLanded d m dir data f) d m p dir rest data f := by
  obtain ⟨awaiting, laps, hspan⟩ := frameChecked_span s d m p dir tx rest f.failed
  have hcount := frameChecked_count s d m p dir tx rest f.failed
  generalize s.frameChecked d m p dir tx rest f.failed = t at *
  obtain ⟨hubRx, slices, hlanded⟩ := frameLanded_span (s := t) (d := d) (m := m) (dir := dir) data f
  have hslice : t.slice d m = s.slice d m := slice_of_slices (by rw [hspan]; rfl) d m
  refine ⟨?_, ?_, (get_of_regs (frameLanded_regs data f) _ _ _).trans hcount, ?_, ?_, ?_⟩
  · rw [hlanded, hspan]
    exact SMap.read_write_same 0 s.span.seq4 _ _
  · rw [hlanded, hspan]
    exact SMap.read_write_same [] s.span.flight _ _
  · rintro rfl rfl
    exact frameLanded_hub f
  · rintro rfl rfl
    rw [frameLanded_slice, hslice]
  · rintro rfl
    exact ⟨by rw [show t.frameLanded d m dir false f = t from rfl, hspan]; rfl, hslice⟩

theorem frameArrives_outcome (err : BitVec 1700) (h : SMap.read [] s.span.flight (spanDirKey d m dir) = tx :: rest) :
    FrameArrived s (s.frameArrives d m p dir err) d m p dir rest tx.data
      (tx.received (SMap.read 0 s.span.seq4 (spanDirKey d m dir)) dir err) := by
  rw [frameArrives_eq err h, ← TxFrame.received_failed]
  exact frameArrived_of_checked s d m p dir tx rest tx.data _

end State
end Sys2Proof.Machine
end
section
/-! SUPPORT. A wire that is lasting is swapped, retired, or costs its module the service (R127, R129): the frames, the slices and the audit laps stay as
they are. -/

namespace Sys2Proof.Machine

open Reg

namespace State

variable (s : State) (d : Nat)

@[simp] theorem storeMap_span (p dir mask assign : Nat) : (s.storeMap d p dir mask assign).span = s.span := by
  unfold storeMap
  split_ifs <;> rfl

@[simp] theorem retireWire_span (p dir w : Nat) : (s.retireWire d p dir w).span = s.span := by simp [retireWire]

@[simp] theorem historyOnce_span (kind page location what : Nat) : (s.historyOnce kind page location what).span = s.span := by
  unfold historyOnce
  split_ifs
  · rfl
  · exact history_span ..

@[simp] theorem setModState_span (p v : Nat) : (s.setModState d p v).span = s.span := rfl

/-! ## Crossing modules -/

@[simp] theorem moveTo_span (p : Nat) : (s.moveTo d p).span = s.span := by
  rw [moveTo_eq, portEvent_span, history_span]
  rfl

@[simp] theorem reserveLost_span : (s.reserveLost d).span = s.span := by simp [reserveLost]

@[simp] theorem closeGate_span (r : Nat) : (s.closeGate d r).span = s.span := by
  unfold closeGate
  dsimp only
  split_ifs <;> rfl

@[simp] theorem forceHold_span (m : Nat) : (s.forceHold d m).span = s.span := by
  unfold forceHold
  exact (forEach_keeps State.span _ (fun r u => u.closeGate_span d r) _).trans rfl

@[simp] theorem destinationsHeld_span (m dir : Nat) : (s.destinationsHeld d m dir).span = s.span := by
  exact forEach_keeps State.span (s.fedBy d m dir) (fun em u => State.forceHold_span u em.1 em.2) _

@[simp] theorem crossLost_span (p m dir : Nat) : (s.crossLost d p m dir).span = s.span := by
  rcases s.crossLost_cases d p m dir with h | h
  · rw [h]
  · rw [s.crossLost_of_new p h, portEvent_span, fatal_span, destinationsHeld_span]

@[simp] theorem crossingFails_span (p dir : Nat) (planned : Bool) : (s.crossingFails d p dir planned).span = s.span := by
  unfold crossingFails
  split_ifs
  · rfl
  · rfl
  · exact s.moveTo_span d p
  · exact s.crossLost_span d p _ dir

/-! ## Skein modules -/

theorem linkSend_span (m dir : Nat) (f : Flit) : (s.linkSend d m dir f).span = s.span := rfl

@[simp] theorem moveFlits_span (m dir : Nat) : (s.moveFlits d m dir).span = s.span := by
  unfold moveFlits
  split
  · rfl
  · exact (forEach_keeps State.span _ (fun f u => u.linkSend_span d _ dir f) _).trans rfl

@[simp] theorem flitsMoved_span (ps : List Nat) : (s.flitsMoved d ps).span = s.span :=
  forEach_keeps State.span ps (fun _ _ => by simp) s

@[simp] theorem skeinLast_span (ps : List Nat) : (s.skeinLast d ps).span = s.span := by
  have hmoved := s.flitsMoved_span d ps
  unfold skeinLast
  dsimp only
  split
  · exact hmoved
  · split_ifs
    · exact hmoved
    · rw [portEvent_span, set_span]
      exact hmoved

@[simp] theorem skeinHalf_span (p : Nat) (dirs : Bool × Bool) : (s.skeinHalf d p dirs).span = s.span := by
  unfold skeinHalf
  dsimp only
  split_ifs <;> simp

@[simp] theorem skeinWidth_span (p : Nat) : (s.skeinWidth d p).span = s.span := by
  unfold skeinWidth skeinFails
  split_ifs <;> simp

@[simp] theorem skeinOutcome_span (p : Nat) : (s.skeinOutcome d p).span = s.span := by
  unfold skeinOutcome
  dsimp only
  split_ifs <;> simp

/-! ## The wire -/

@[simp] theorem spareless_span (p dir w : Nat) : (s.spareless d p dir w).span = s.span := by
  unfold spareless
  split_ifs <;> simp

@[simp] theorem lastingWire_span (p dir w : Nat) : (s.lastingWire d p dir w).span = s.span := by
  unfold lastingWire
  dsimp only
  generalize (if w < 64 then w else spareOf (s.wireAssign (Pg.port d) p dir) (w - 64)) = pos
  split_ifs
  case neg =>
    split
    · rfl
    · exact s.spareless_span d p dir w
  all_goals simp

/-! ## The audit lap (R157) -/

variable {s d} {m dir : Nat}

/-- The lap is entered as ended before its wires are handled. -/
def lapEnded (s : State) (d m dir : Nat) : State :=
  { s with span := { s.span with laps := SMap.write none s.span.laps (spanDirKey d m dir) none } }

theorem auditLapDone_span {p : Nat} {hub : Bool} (bad : List Nat) (hp : s.physOf d m = some p)
    (h : SMap.read none s.span.laps (spanDirKey d m dir) = some hub) : (s.auditLapDone d m dir bad).span = (s.lapEnded d m dir).span := by
  unfold auditLapDone
  simp only [h, hp]
  cases bad with
  | nil =>
    dsimp only
    split_ifs
    all_goals exact event_span ..
  | cons w ws => exact forEach_keeps State.span (w :: ws) (fun x u => u.lastingWire_span d p dir x) (s.lapEnded d m dir)

theorem auditLapDone_of_none (bad : List Nat) (h : SMap.read none s.span.laps (spanDirKey d m dir) = none) : s.auditLapDone d m dir bad = s := by
  unfold auditLapDone
  simp only [h]

theorem auditLapDone_ends {p : Nat} (bad : List Nat) (hp : s.physOf d m = some p) :
    SMap.read none (s.auditLapDone d m dir bad).span.laps (spanDirKey d m dir) = none := by
  cases h : SMap.read none s.span.laps (spanDirKey d m dir) with
  | none => rw [auditLapDone_of_none bad h, h]
  | some hub =>
    rw [auditLapDone_span bad hp h]
    exact SMap.read_write_same none s.span.laps (spanDirKey d m dir) none

end State
end Sys2Proof.Machine
end
section
/-! SUPPORT. What reaches the lanes of a die, and what leaves for them (R330 to R340), asks the environment nothing: the queue of requests stays as
it is. -/

namespace Sys2Proof.Machine

open Reg

namespace State

variable (s : State) (p : Nat)

/-! ## The receive side -/

@[simp] theorem decodeUnit_pending (bits : List Bool) : (s.decodeUnit p bits).pending = s.pending := by
  unfold decodeUnit
  dsimp only
  split
  · split_ifs <;> simp
  · split_ifs <;> simp
  · rfl

@[simp] theorem decodeAll_pending (fuel : Nat) : (s.decodeAll p fuel).pending = s.pending := by
  induction fuel generalizing s with
  | zero => rfl
  | succ fuel ih =>
    unfold decodeAll
    dsimp only
    split_ifs
    · rfl
    · rw [ih, decodeUnit_pending, setLaneUnit_pending]

@[simp] theorem laneSymbols_pending (ys : List (BitVec 2)) : (s.laneSymbols p ys).pending = s.pending := by
  unfold laneSymbols
  dsimp only
  rw [decodeAll_pending, setLaneUnit_pending]

@[simp] theorem laneReceives_pending (l : LaneLine) : (s.laneReceives p l).pending = s.pending := by
  unfold laneReceives
  split_ifs <;> simp

@[simp] theorem laneWord_pending (n : Nat) : (s.laneWord p n).pending = s.pending := by
  unfold laneWord
  dsimp only
  split_ifs <;> rfl

@[simp] theorem laneWords_pending (d n : Nat) : (s.laneWords d n).pending = s.pending :=
  forEach_keeps State.pending _ (fun q t => t.laneWord_pending q n) s

/-! ## The transmit side -/

@[simp] theorem stamp_pending (tx : Bool) (time : DWord) : (s.stamp p tx time).pending = s.pending := by
  unfold stamp
  dsimp only
  split_ifs <;> simp

@[simp] theorem sendBlock_pending (b : Nat) : (s.sendBlock p b).pending = s.pending := by
  unfold sendBlock
  dsimp only
  split
  · rfl
  · split_ifs
    · rfl
    · split
      · split_ifs <;> simp
      · rfl

@[simp] theorem sendUnit_pending (n x : Nat) : (s.sendUnit p n x).pending = s.pending := by
  unfold sendUnit
  dsimp only
  split_ifs <;> simp

@[simp] theorem drainTx_pending (k : Nat) : (s.drainTx p k).pending = s.pending := by
  induction k generalizing s with
  | zero => rfl
  | succ k ih =>
    unfold drainTx
    dsimp only
    split_ifs
    · rfl
    all_goals simp [ih]

@[simp] theorem txDrop_pending (n : Nat) : (s.txDrop p n).pending = s.pending := by
  unfold txDrop
  split_ifs <;> simp

@[simp] theorem thinTx_pending : (s.thinTx p).pending = s.pending := by
  unfold thinTx
  dsimp only
  split_ifs <;> rfl

@[simp] theorem pushTx_pending (n word : Nat) (first : Bool) : (s.pushTx p n word first).pending = s.pending := by
  unfold pushTx
  dsimp only
  split_ifs <;> simp [sendsAnew]

@[simp] theorem lanesTake_pending (d m n : Nat) : (s.lanesTake d m n).pending = s.pending := by
  refine forEach_keeps State.pending _ (fun q t => ?_) s
  dsimp only
  split_ifs <;> simp

end State
end Sys2Proof.Machine
end
section
/-! SUPPORT. A crossing module's transmitter (R114 to R117, R145): the data frame of a span cycle, and the IDLE frame that follows it at the lower
span rates, go out behind what is in flight on their own module direction. -/

namespace Sys2Proof.Machine

open Reg

theorem spanDirKey_ne {d m dir e n r : Nat} (hm : m < 16) (hdir : dir < 2) (hn : n < 16) (hr : r < 2) (h : ¬(d = e ∧ m = n ∧ dir = r)) :
    spanDirKey d m dir ≠ spanDirKey e n r := by
  unfold spanDirKey
  omega

namespace State

/-- A frame with its framing word, on the map as it stands. -/
def framed (s : State) (d m p dir code : Nat) (f : TxFrame) : TxFrame :=
  { f with
    framing := BitVec.ofNat 64 (crossFraming f.payload.toNat (SMap.read 0 s.span.txSeq (spanDirKey d m dir)) code f.poisoned)
    map := s.mapOf d p dir }

variable {s : State} {d m p dir : Nat}

theorem transmit_eq (hp : s.physOf d m = some p) (code : Nat) (f : TxFrame) : s.transmit d m dir code f =
    let k := spanDirKey d m dir
    { s with span := { s.span with
      txSeq := SMap.write 0 s.span.txSeq k ((SMap.read 0 s.span.txSeq k + 1) % 16)
      flight := SMap.write [] s.span.flight k (SMap.read [] s.span.flight k ++ [s.framed d m p dir code f]) } } := by
  unfold transmit
  simp only [hp]
  rfl

theorem transmit_cases (s : State) (d m dir code : Nat) (f : TxFrame) : (∃ p, s.physOf d m = some p) ∨ s.transmit d m dir code f = s := by
  cases hp : s.physOf d m with
  | some p => exact .inl ⟨p, rfl⟩
  | none =>
    right
    unfold transmit
    simp only [hp]

/-! ## What sending leaves alone -/

/-- From `s` to `t` frames of one module direction have been sent. -/
structure Sends (d m dir : Nat) (s t : State) : Prop where
  regs : t.regs = s.regs
  pending : t.pending = s.pending
  slices : t.span.slices = s.span.slices
  hubRx : t.span.hubRx = s.span.hubRx
  other : ∀ k ≠ spanDirKey d m dir, SMap.read [] t.span.flight k = SMap.read [] s.span.flight k ∧
    SMap.read 0 t.span.txSeq k = SMap.read 0 s.span.txSeq k

theorem Sends.refl (d m dir : Nat) (s : State) : Sends d m dir s s := ⟨rfl, rfl, rfl, rfl, fun _ _ => ⟨rfl, rfl⟩⟩

theorem Sends.trans {t u : State} (h : Sends d m dir s t) (h' : Sends d m dir t u) : Sends d m dir s u :=
  ⟨h'.regs.trans h.regs, h'.pending.trans h.pending, h'.slices.trans h.slices, h'.hubRx.trans h.hubRx,
    fun k hk => ⟨(h'.other k hk).1.trans (h.other k hk).1, (h'.other k hk).2.trans (h.other k hk).2⟩⟩

theorem transmit_sends (s : State) (d m dir code : Nat) (f : TxFrame) : Sends d m dir s (s.transmit d m dir code f) := by
  rcases s.transmit_cases d m dir code f with ⟨p, hp⟩ | h
  · rw [transmit_eq hp]
    exact ⟨rfl, rfl, rfl, rfl, fun k hk => ⟨SMap.read_write_other _ _ _ _ hk, SMap.read_write_other _ _ _ _ hk⟩⟩
  · rw [h]
    exact Sends.refl d m dir s

theorem sendCycle_sends (s : State) (d m dir : Nat) (f : TxFrame) : Sends d m dir s (s.sendCycle d m dir f) := by
  have hdata := s.transmit_sends d m dir 0 f
  unfold sendCycle
  dsimp only
  split_ifs
  · exact hdata.trans (transmit_sends _ d m dir 2 _)
  · exact hdata

/-! ## What is in flight after it -/

theorem transmit_flight (hp : s.physOf d m = some p) (code : Nat) (f : TxFrame) :
    SMap.read [] (s.transmit d m dir code f).span.flight (spanDirKey d m dir) =
      SMap.read [] s.span.flight (spanDirKey d m dir) ++ [s.framed d m p dir code f] := by
  rw [transmit_eq hp]
  exact SMap.read_write_same [] s.span.flight _ _

theorem physOf_congr {t : State} (h : ∀ q < 17, t.modRole d q = s.modRole d q ∧ t.modLogical d q = s.modLogical d q) (m : Nat) :
    t.physOf d m = s.physOf d m := by
  unfold physOf
  refine List.find?_congr fun q hq => ?_
  obtain ⟨hrole, hlogical⟩ := h q (lt_of_lt_of_le (List.mem_range.1 hq) (portModules_le d))
  rw [hrole, hlogical]

theorem physOf_of_regs {t : State} (h : t.regs = s.regs) (d m : Nat) : t.physOf d m = s.physOf d m :=
  physOf_congr (fun q _ => ⟨get_of_regs h _ _ q, get_of_regs h _ _ q⟩) m

/-- The data frame of a span cycle goes out, and the IDLE frame where one follows (R145). -/
theorem sendCycle_flight (hp : s.physOf d m = some p) (f : TxFrame) : ∃ i : TxFrame, i.data = false ∧
    SMap.read [] (s.sendCycle d m dir f).span.flight (spanDirKey d m dir) =
      SMap.read [] s.span.flight (spanDirKey d m dir) ++ s.framed d m p dir 0 f :: (if s.idleFollows f.cycle then [i] else []) := by
  have hdata := transmit_flight (dir := dir) hp 0 f
  have hp' := (physOf_of_regs (s.transmit_sends d m dir 0 f).regs d m).trans hp
  unfold sendCycle
  generalize s.transmit d m dir 0 f = t at *
  dsimp only
  split_ifs
  · exact ⟨_, rfl, by rw [transmit_flight hp', hdata, List.append_assoc, List.singleton_append]⟩
  · exact ⟨{ payload := 0, data := false }, rfl, hdata⟩

end State
end Sys2Proof.Machine
end
section
/-! SUPPORT. The hub crossbar (R135, R137, R155): the groups of a payload, what the switching of one destination module leaves alone, and the frame
that each module sends in a span cycle. -/

namespace Sys2Proof.Machine

open Reg

/-! ## Groups of a payload -/

theorem foldr_groups_digit (f : Nat → Nat) : ∀ (l : List Nat) (i : Nat) (h : i < l.length),
    l.foldr (fun g acc => f g % 256 + 256 * acc) 0 / 256 ^ i % 256 = f l[i] % 256
  | g :: l, 0, _ => by
    simp only [List.foldr_cons, pow_zero, Nat.div_one, List.getElem_cons_zero]
    omega
  | g :: l, i + 1, h => by
    rw [List.foldr_cons, pow_succ', ← Nat.div_div_eq_div_mul, Nat.add_mul_div_left _ _ (by decide),
      Nat.div_eq_of_lt (Nat.mod_lt _ (by decide)), Nat.zero_add, foldr_groups_digit f l i (Nat.lt_of_succ_lt_succ h), List.getElem_cons_succ]

theorem byte_of_mod (x w g : Nat) (h : 8 * g + 8 ≤ w) : x % 2 ^ w / 2 ^ (8 * g) % 256 = x / 2 ^ (8 * g) % 256 := by
  have hw : 2 ^ w = 2 ^ (8 * g) * 2 ^ (w - 8 * g) := by rw [← Nat.pow_add, Nat.add_sub_of_le (by omega)]
  have hdvd : 256 ∣ 2 ^ (w - 8 * g) := Nat.pow_dvd_pow (m := 8) 2 (by omega)
  rw [hw, Nat.mod_mul_right_div_self, Nat.mod_mod_of_dvd _ hdvd]

theorem group_ofNat (x : Nat) {g : Nat} (h : g < 192) : group (BitVec.ofNat 1536 x) g = x / 256 ^ g % 256 := by
  rw [group, BitVec.toNat_ushiftRight, BitVec.toNat_ofNat, Nat.shiftRight_eq_div_pow, byte_of_mod x 1536 g (by omega), Nat.pow_mul]

/-- A group of a payload is the byte it was formed of. -/
theorem group_ofGroups (f : Nat → Nat) {g : Nat} (h : g < 192) : group (ofGroups f) g = f g % 256 := by
  rw [ofGroups, group_ofNat _ h, foldr_groups_digit f _ g (by simpa using h), List.getElem_range]

/-! ## One element of a list of steps -/

section
variable {α σ : Type} {f : α → σ → σ} {B : σ → σ → Prop} (hrefl : ∀ s, B s s) (htrans : ∀ s t u, B s t → B t u → B s u)
include hrefl htrans

theorem forEach_related {xs : List α} (h : ∀ x ∈ xs, ∀ u, B u (f x u)) (s : σ) : B s (forEach xs f s) := by
  induction xs generalizing s with
  | nil => exact hrefl s
  | cons x xs ih => exact htrans _ _ _ (h x (by simp) s) (ih (fun y hy => h y (by simp [hy])) _)

/-- Of the steps of a list, one is taken in the midst of others. -/
theorem forEach_once {a : α} {xs : List α} (hnodup : xs.Nodup) (ha : a ∈ xs) (h : ∀ x ∈ xs, x ≠ a → ∀ u, B u (f x u)) (s : σ) :
    ∃ u, B s u ∧ B (f a u) (forEach xs f s) := by
  obtain ⟨before, after, rfl⟩ := List.append_of_mem ha
  have hsplit : forEach (before ++ a :: after) f s = forEach after f (f a (forEach before f s)) := List.foldl_append ..
  rw [List.nodup_append, List.nodup_cons] at hnodup
  obtain ⟨-, ⟨hafter, -⟩, hbefore⟩ := hnodup
  refine ⟨forEach before f s, forEach_related hrefl htrans (fun x hx => h x (by simp [hx]) (hbefore x hx a (by simp))) s, ?_⟩
  rw [hsplit]
  exact forEach_related hrefl htrans (fun x hx => h x (by simp [hx]) fun he => hafter (he ▸ hx)) _

end

end Sys2Proof.Machine
end
section
/-! SUPPORT. The hub switches a span cycle (R137, R144, R155, R163): each destination module once, and none of them changes what another reads. -/

namespace Sys2Proof.Machine

open Reg

/-- The registers that the switching of a module writes: `XBAR_BAD` of its port and the crossing port pages of the dies. -/
def OnSwitch (k : Nat) : Prop := k % 32 = 3 ∨ 0x1000 ≤ k / 32768

theorem not_onSwitch {p i : Nat} {f : RegField} (hf : f.inPage = true) (hi : i < f.count) (hlo : f.lo ≠ 3) (hp : p < 0x1000) :
    ¬OnSwitch (fieldKey p f i) := by
  have hwords : f.inWords = true := by
    simp only [RegField.inPage, Bool.and_eq_true] at hf
    exact hf.1
  rw [OnSwitch, fieldKey_mod hwords, fieldKey_page hf hi]
  omega

theorem port_lt {d : Nat} (hd : isPort d = true) : Pg.port d < 0x1000 := by
  have := isPort_range hd
  simp only [Pg.port]
  omega

theorem xbar_lt {d m : Nat} (hd : isPort d = true) (hm : m < 16) : Pg.xbar d m < 0x1000 := by
  have := isPort_range hd
  simp only [Pg.xbar]
  omega

theorem crossCount_lt (d split : Nat) : crossCount d split ≤ 12 := by
  unfold crossCount
  split_ifs <;> omega

namespace State

theorem crossModules_lt (s : State) (d : Nat) : s.crossModules d ≤ 12 := crossCount_lt d _

section
variable {s t : State}

/-! ## What the crossbar reads -/

theorem portActive_of_switch (h : ChangesIn OnSwitch s t) {d : Nat} (hd : isPort d = true) : t.portActive d = s.portActive d := by
  unfold portActive portState
  rw [h _ _ _ (not_onSwitch (by decide) (by decide) (by decide) (port_lt hd))]

theorem crossModules_of_switch (h : ChangesIn OnSwitch s t) {d : Nat} (hd : isPort d = true) : t.crossModules d = s.crossModules d := by
  unfold crossModules
  rw [h _ _ _ (not_onSwitch (by decide) (by decide) (by decide) (port_lt hd))]

theorem physOf_of_switch (h : ChangesIn OnSwitch s t) {d : Nat} (hd : isPort d = true) (m : Nat) : t.physOf d m = s.physOf d m :=
  physOf_congr (fun _ hq => ⟨h _ _ _ (not_onSwitch (by decide) hq (by decide) (port_lt hd)), h _ _ _ (not_onSwitch (by decide) hq (by decide) (port_lt hd))⟩) m

theorem idleFollows_of_switch (h : ChangesIn OnSwitch s t) (n : Nat) : t.idleFollows n = s.idleFollows n := by
  unfold idleFollows
  rw [h _ _ _ (not_onSwitch (by decide) (by decide) (by decide) (by decide))]

/-- What becomes of a group depends on its entry, the state of its source port and the frames the hub holds. -/
theorem switchGroup_congr (h : ChangesIn OnSwitch s t) (hrx : t.span.hubRx = s.span.hubRx) {d m g : Nat} (n : Nat) (hd : isPort d = true) (hm : m < 16)
    (hg : g < 192) : t.switchGroup d m n g = s.switchGroup d m n g := by
  have hentry {f : RegField} (hf : f ∈ [Xbar.XBAR_ENTRY_EN, Xbar.XBAR_ENTRY_SRC_DIE, Xbar.XBAR_ENTRY_SRC_MOD, Xbar.XBAR_ENTRY_SRC_GROUP]) :
      t.get (Pg.xbar d m) f g = s.get (Pg.xbar d m) f g := by
    have hplace : ∀ f ∈ [Xbar.XBAR_ENTRY_EN, Xbar.XBAR_ENTRY_SRC_DIE, Xbar.XBAR_ENTRY_SRC_MOD, Xbar.XBAR_ENTRY_SRC_GROUP],
        f.inPage = true ∧ f.count = 192 ∧ f.lo ≠ 3 := by decide
    obtain ⟨hpage, hcount, hlo⟩ := hplace f hf
    exact h _ _ _ (not_onSwitch hpage (by omega) hlo (xbar_lt hd hm))
  unfold switchGroup
  simp only [flag, hentry (List.mem_cons_self ..), hentry (f := Xbar.XBAR_ENTRY_SRC_DIE) (by simp), hentry (f := Xbar.XBAR_ENTRY_SRC_MOD) (by simp),
    hentry (f := Xbar.XBAR_ENTRY_SRC_GROUP) (by simp), hrx]
  generalize s.get (Pg.xbar d m) Xbar.XBAR_ENTRY_SRC_DIE g = e
  cases he : isPort e with
  | false => simp
  | true =>
    rw [crossModules_of_switch h he, portActive_of_switch h he]
    rfl

end

/-! ## One module -/

/-- The groups of a destination module as the crossbar gives them. -/
def groupsOut (s : State) (d m n : Nat) : List GroupOut := (List.range 192).map (s.switchGroup d m n)

/-- The frame that carries them. -/
def hubFrame (s : State) (d m n : Nat) : TxFrame :=
  let gs := s.groupsOut d m n
  let first := gs.find? (·.poison)
  { payload := ofGroups (fun g => (gs[g]?.map (·.byte)).getD 0), poisoned := first.isSome, srcDie := (first.map (·.die)).getD 0
    srcMod := (first.map (·.mod)).getD 0, cycle := n }

/-- The state of the sources has been shown (R144, R163). -/
def sourcesShown (s : State) (d m : Nat) (bad down : Bool) : State :=
  let t := if bad then s.set (Pg.port d) Port.STATUS_XBAR_BAD 1 else s
  let t := if down && !(bit (t.get (Pg.xport d) Xport.STATUS_SRC_DOWN) m) then t.setInt (Pg.xport d) Xport.INT_SRC_DOWN else t
  t.setBit (Pg.xport d) Xport.STATUS_SRC_DOWN m down

theorem switchModule_eq (s : State) (d m n : Nat) : s.switchModule d m n =
    let t := s.sourcesShown d m ((s.groupsOut d m n).any (·.bad)) ((s.groupsOut d m n).any (·.down))
    if t.portActive d then t.sendCycle d m 0 (s.hubFrame d m n) else t := rfl

section
variable (s : State) (d m : Nat)

theorem sourcesShown_changes (hd : isPort d = true) (bad down : Bool) : ChangesIn OnSwitch s (s.sourcesShown d m bad down) := by
  have hdie (f : RegField) (i : Nat) : OnSwitch (fieldKey (Pg.xport d) f i) :=
    .inr ((le_xport (isPort_range hd).1).trans (le_fieldKey_page _ f i))
  have hbad : OnSwitch (fieldKey (Pg.port d) Port.STATUS_XBAR_BAD 0) := .inl (fieldKey_mod (by decide))
  exact ((ChangesIn.ite (fun _ => ChangesIn.set s 1 hbad) fun _ => ChangesIn.refl _ s).trans
    (ChangesIn.ite (fun _ => ChangesIn.set _ _ (hdie _ _)) fun _ => ChangesIn.refl _ _)).trans (ChangesIn.set _ _ (hdie _ _))

theorem sourcesShown_span (bad down : Bool) : (s.sourcesShown d m bad down).span = s.span := by
  unfold sourcesShown
  dsimp only
  split_ifs <;> rfl

end

/-- From `s` to `t` other modules than `m` of port `d` have been switched. -/
structure Bystander (d m : Nat) (s t : State) : Prop where
  regs : ChangesIn OnSwitch s t
  hubRx : t.span.hubRx = s.span.hubRx
  flight : SMap.read [] t.span.flight (spanDirKey d m 0) = SMap.read [] s.span.flight (spanDirKey d m 0)
  txSeq : SMap.read 0 t.span.txSeq (spanDirKey d m 0) = SMap.read 0 s.span.txSeq (spanDirKey d m 0)

theorem Bystander.refl (d m : Nat) (s : State) : Bystander d m s s := ⟨ChangesIn.refl _ s, rfl, rfl, rfl⟩

theorem Bystander.trans {d m : Nat} {s t u : State} (h : Bystander d m s t) (h' : Bystander d m t u) : Bystander d m s u :=
  ⟨h.regs.trans h'.regs, h'.hubRx.trans h.hubRx, h'.flight.trans h.flight, h'.txSeq.trans h.txSeq⟩

theorem switchModule_bystander (s : State) {d m e r : Nat} (n : Nat) (he : isPort e = true) (hm : m < 16) (hr : r < 16) (hne : ¬(d = e ∧ m = r)) :
    Bystander d m s (s.switchModule e r n) := by
  have hkey : spanDirKey d m 0 ≠ spanDirKey e r 0 := spanDirKey_ne hm (by decide) hr (by decide) (fun h => hne ⟨h.1, h.2.1⟩)
  rw [switchModule_eq]
  generalize (s.groupsOut e r n).any (·.bad) = bad
  generalize (s.groupsOut e r n).any (·.down) = down
  have hshown := s.sourcesShown_changes e r he bad down
  have hspan := s.sourcesShown_span e r bad down
  generalize s.sourcesShown e r bad down = t at *
  have hby : Bystander d m s t := ⟨hshown, by rw [hspan], by rw [hspan], by rw [hspan]⟩
  dsimp only
  split_ifs
  · have hsends := t.sendCycle_sends e r 0 (s.hubFrame e r n)
    exact hby.trans ⟨ChangesIn.of_regs _ hsends.regs, hsends.hubRx, (hsends.other _ hkey).1, (hsends.other _ hkey).2⟩
  · exact hby

theorem switchModule_flight {s : State} {d m p : Nat} (n : Nat) (hd : isPort d = true) (hp : s.physOf d m = some p) (hactive : s.portActive d = true) :
    ∃ f i : TxFrame, SMap.read [] (s.switchModule d m n).span.flight (spanDirKey d m 0) =
        SMap.read [] s.span.flight (spanDirKey d m 0) ++ f :: (if s.idleFollows n then [i] else []) ∧ i.data = false ∧
      f.data = true ∧ f.cycle = n ∧ f.poisoned = (s.hubFrame d m n).poisoned ∧ f.payload = (s.hubFrame d m n).payload ∧
      f.framing = BitVec.ofNat 64 (crossFraming f.payload.toNat (SMap.read 0 s.span.txSeq (spanDirKey d m 0)) 0 f.poisoned) := by
  rw [switchModule_eq]
  generalize (s.groupsOut d m n).any (·.bad) = bad
  generalize (s.groupsOut d m n).any (·.down) = down
  have hshown := s.sourcesShown_changes d m hd bad down
  have hspan := s.sourcesShown_span d m bad down
  generalize s.sourcesShown d m bad down = t at *
  dsimp only
  rw [if_pos ((portActive_of_switch hshown hd).trans hactive)]
  obtain ⟨i, hi, hflight⟩ := sendCycle_flight (dir := 0) ((physOf_of_switch hshown hd m).trans hp) (s.hubFrame d m n)
  refine ⟨t.framed d m p 0 0 (s.hubFrame d m n), i, hflight.trans ?_, hi, ?_⟩
  · rw [hspan, idleFollows_of_switch hshown]
    rfl
  · rw [← hspan]
    exact ⟨rfl, rfl, rfl, rfl, rfl⟩

/-- The frame is poisoned exactly if a group of it is (R155). -/
theorem hubFrame_poisoned (s : State) (d m n : Nat) :
    (s.hubFrame d m n).poisoned = (List.range 192).any (fun g => (s.switchGroup d m n g).poison) := by
  change ((s.groupsOut d m n).find? (·.poison)).isSome = _
  rw [Bool.eq_iff_iff, List.find?_isSome, List.any_eq_true]
  simp [groupsOut]

theorem hubFrame_group (s : State) (d m n : Nat) {g : Nat} (hg : g < 192) :
    group (s.hubFrame d m n).payload g = (s.switchGroup d m n g).byte % 256 := by
  change group (ofGroups fun g => ((s.groupsOut d m n)[g]?.map (·.byte)).getD 0) g = _
  rw [group_ofGroups _ hg]
  simp [groupsOut, hg]

/-! ## The span cycle -/

/-- The modules of one port are switched. -/
def portSwitched (s : State) (d c n : Nat) : State := forEach (List.range c) (fun m v => v.switchModule d m n) s

theorem switchCycle_eq (s : State) (n : Nat) : s.switchCycle n =
    let t := forEach [1, 2, 3, 4, 5, 6] (fun d u => u.portSwitched d (s.crossModules d) n) s
    { t with span := { t.span with hubRx := [] } } := rfl

theorem portSwitched_bystander (s : State) {d m e c : Nat} (n : Nat) (he : isPort e = true) (hm : m < 16) (hc : c ≤ 12) (hne : e ≠ d) :
    Bystander d m s (s.portSwitched e c n) := by
  refine forEach_related (Bystander.refl d m) (fun _ _ _ h h' => h.trans h') (fun r hr v => ?_) s
  have hr' := List.mem_range.1 hr
  exact switchModule_bystander v n he hm (by omega) (fun h => hne h.1.symm)

/-- In a span cycle a destination module is switched once, in the midst of others. -/
theorem switchCycle_once (s : State) {d m : Nat} (n : Nat) (hd : isPort d = true) (hm : m < s.crossModules d) :
    ∃ u t, Bystander d m s u ∧ Bystander d m (u.switchModule d m n) t ∧ s.switchCycle n = { t with span := { t.span with hubRx := [] } } := by
  have hm12 := s.crossModules_lt d
  have hports : ∀ {e : Nat}, e ∈ [1, 2, 3, 4, 5, 6] ↔ isPort e = true := by
    intro e
    simp [isPort]
    omega
  obtain ⟨u, hu, hafter⟩ := forEach_once (f := fun e (v : State) => v.portSwitched e (s.crossModules e) n) (Bystander.refl d m)
    (fun _ _ _ h h' => h.trans h') (by decide) (hports.2 hd)
    (fun e he hne v => v.portSwitched_bystander n (hports.1 he) (by omega) (s.crossModules_lt e) hne) s
  obtain ⟨v, hv, hrest⟩ := forEach_once (f := fun r (w : State) => w.switchModule d r n) (Bystander.refl d m)
    (fun _ _ _ h h' => h.trans h') List.nodup_range (List.mem_range.2 hm)
    (fun r hr hne w => switchModule_bystander w n hd (by omega) (by have := List.mem_range.1 hr; omega) (fun h => hne h.2.symm)) u
  exact ⟨v, _, hu.trans hv, hrest.trans hafter, switchCycle_eq s n⟩

/-- The hub sends an ACTIVE port's crossing module one data frame of the groups that the crossbar gives. -/
theorem switchCycle_flight {s : State} {d m p : Nat} (n : Nat) (hd : isPort d = true) (hp : s.physOf d m = some p) (hactive : s.portActive d = true)
    (hm : m < s.crossModules d) : ∃ f i : TxFrame,
      SMap.read [] (s.switchCycle n).span.flight (spanDirKey d m 0) =
        SMap.read [] s.span.flight (spanDirKey d m 0) ++ f :: (if s.idleFollows n then [i] else []) ∧
      f.data = true ∧ i.data = false ∧ f.cycle = n ∧ f.poisoned = (List.range 192).any (fun g => (s.switchGroup d m n g).poison) ∧
      f.framing = BitVec.ofNat 64 (crossFraming f.payload.toNat (SMap.read 0 s.span.txSeq (spanDirKey d m 0)) 0 f.poisoned) ∧
      ∀ g < 192, group f.payload g = (s.switchGroup d m n g).byte % 256 := by
  have hm12 := s.crossModules_lt d
  obtain ⟨u, t, hu, ht, heq⟩ := s.switchCycle_once n hd hm
  have hgroup : ∀ g < 192, u.switchGroup d m n g = s.switchGroup d m n g := fun g hg =>
    switchGroup_congr hu.regs hu.hubRx n hd (by omega) hg
  obtain ⟨f, i, hflight, hi, hdata, hcycle, hpoisoned, hpayload, hframing⟩ := switchModule_flight (s := u) n hd
    ((physOf_of_switch hu.regs hd m).trans hp) ((portActive_of_switch hu.regs hd).trans hactive)
  refine ⟨f, i, ?_, hdata, hi, hcycle, ?_, hu.txSeq ▸ hframing, fun g hg => ?_⟩
  · rw [heq, ← idleFollows_of_switch hu.regs, ← hu.flight, ← hflight]
    exact ht.flight
  · rw [hpoisoned, hubFrame_poisoned, Bool.eq_iff_iff, List.any_eq_true, List.any_eq_true]
    exact exists_congr fun g => and_congr_right fun hg => by rw [hgroup g (List.mem_range.1 hg)]
  · rw [hpayload, hubFrame_group u d m n hg, hgroup g hg]

end State
end Sys2Proof.Machine
end
section
/-! SUPPORT. A slice at an edge of SPAN_CLK (R143, R146, R152, R156): what the presenting of a frame and the span channels it carries write, and what
they leave alone. -/

namespace Sys2Proof.Machine

open Reg

/-! ## Registers -/

/-- The registers that a delivery writes at a crossing port page from an offset upwards, with those of the records, the interrupts, and the words
`SFIFO_STATUS` of whatever peer. -/
def OnDelivery (d from_ k : Nat) : Prop :=
  InRecords k ∨ k % 32 = 30 ∨ k % 32 = 31 ∨ (∃ q, k = fieldKey q Hdr.INT_STATUS_BLOCK 0) ∨
    ((Pg.xport d * 4096 + from_) * 8 ≤ k ∧ k < (Pg.xport d * 4096 + 0x800) * 8)

theorem OnDelivery.mono {d a b k : Nat} (h : OnDelivery d a k) (hab : b ≤ a) : OnDelivery d b k := by
  obtain hk | hk | hk | hk | ⟨hlo, hhi⟩ := h
  · exact .inl hk
  · exact .inr (.inl hk)
  · exact .inr (.inr (.inl hk))
  · exact .inr (.inr (.inr (.inl hk)))
  · exact .inr (.inr (.inr (.inr ⟨by omega, hhi⟩)))

/-- A field that no delivery writes: neither at the bits of the channels' words nor at the interrupts', and of another page or outside the words
of the crossing port page. -/
theorem not_onDelivery {d a p i : Nat} {f : RegField} (hf : f.inPage = true) (hi : i < f.count) (hbits : f.lo < 30)
    (hint : f.apart Hdr.INT_STATUS_BLOCK = true) (hp : p ≠ Pg.recorder ∧ p ≠ Pg.ply)
    (hplace : p ≠ Pg.xport d ∨ 0x800 ≤ f.off ∨ f.off + f.count * f.stride ≤ a) : ¬OnDelivery d a (fieldKey p f i) := by
  have hwords : f.inWords = true := by
    simp only [RegField.inPage, Bool.and_eq_true] at hf
    exact hf.1
  have hpage := fieldKey_page (p := p) hf hi
  have hmod := fieldKey_mod (p := p) (i := i) hwords
  rintro (h | h | h | ⟨q, h⟩ | ⟨hlo, hhi⟩)
  · rw [InRecords, hpage] at h
    exact h.elim hp.1 hp.2
  · omega
  · omega
  · have hq : p = q := by
      rw [← hpage, h]
      exact fieldKey_page (by decide) (by decide)
    rw [← hq] at h
    exact fieldKey_ne_of_apart hint hi (by decide) h
  · have hend : (i + 1) * f.stride ≤ f.count * f.stride := Nat.mul_le_mul_right _ hi
    rw [Nat.add_mul, one_mul] at hend
    have hlo32 : f.lo < 32 := by omega
    unfold fieldKey at hpage hlo hhi
    generalize i * f.stride = e at *
    generalize f.count * f.stride = l at *
    have hstride : 4 ≤ f.stride := by
      simp only [RegField.inWords, Bool.and_eq_true, decide_eq_true_eq] at hwords
      exact hwords.1.2
    omega

theorem onDelivery_int (d a q : Nat) : OnDelivery d a (fieldKey q Hdr.INT_STATUS_BLOCK 0) := .inr (.inr (.inr (.inl ⟨q, rfl⟩)))

/-! ## The span channels of a module -/

/-- From `s` to `t` the channels of a crossing port have acted: frames, slices and raised interrupts stay. -/
structure ChannelsAct (d : Nat) (s t : State) : Prop where
  regs : ChangesIn (OnDelivery d 0x180) s t
  raised : ∀ b < 32, Raised s (Pg.xport d) b → Raised t (Pg.xport d) b
  slices : t.span.slices = s.span.slices
  flight : t.span.flight = s.span.flight

namespace ChannelsAct

variable {d : Nat} {s t u : State}

theorem refl (d : Nat) (s : State) : ChannelsAct d s s := ⟨ChangesIn.refl _ s, fun _ _ h => h, rfl, rfl⟩

theorem trans (h : ChannelsAct d s t) (h' : ChannelsAct d t u) : ChannelsAct d s u :=
  ⟨h.regs.trans h'.regs, fun b hb hr => h'.raised b hb (h.raised b hb hr), h'.slices.trans h.slices, h'.flight.trans h.flight⟩

theorem set {p i : Nat} {f : RegField} (s : State) (v : Nat) (h : OnDelivery d 0x180 (fieldKey p f i))
    (hint : fieldKey (Pg.xport d) Hdr.INT_STATUS_BLOCK 0 ≠ fieldKey p f i) : ChannelsAct d s (s.set p f v i) :=
  ⟨ChangesIn.set s v h, fun _ _ hr => Raised.set hr hint, rfl, rfl⟩

/-- A word of the crossing port page. -/
theorem setHere {i : Nat} {f : RegField} (s : State) (v : Nat) (hlo : 0x180 ≤ f.off) (hhi : (f.off + i * f.stride) * 8 + f.lo < 0x4000) :
    ChannelsAct d s (s.set (Pg.xport d) f v i) := by
  refine set s v (.inr (.inr (.inr (.inr ?_)))) ?_
  · unfold fieldKey
    generalize i * f.stride = e at *
    omega
  · simp only [fieldKey, Hdr.INT_STATUS_BLOCK]
    generalize i * f.stride = e at *
    omega

theorem setInt (s : State) (q b : Nat) : ChannelsAct d s (s.setInt q b) :=
  ⟨ChangesIn.set s _ (onDelivery_int d _ q), fun _ hb hr => Raised.setInt hr q b hb, rfl, rfl⟩

theorem event (hd : 1 ≤ d) (s : State) (code sev page detail : Nat) : ChannelsAct d s (s.event code sev page detail) := by
  have hrecords := s.event_records code sev page detail
  refine ⟨hrecords.mono fun _ => .inl, fun b _ hr => Raised.of_changesIn hr hrecords fun h => ?_, by rw [State.event_span], by rw [State.event_span]⟩
  exact not_inBooks _ _ (lt_of_lt_of_le (by decide) (le_xport hd)) (.inr h)

end ChannelsAct

namespace State

variable (s : State) {d m : Nat}

theorem sideError_acts (e g : Nat) : ChannelsAct d s (s.sideError e g) := by
  have hbit {f : RegField} (hf : f.inWords = true) (hlo : f.lo = 30 ∨ f.lo = 31) (u : State) (v : Nat) :
      ChannelsAct d u (u.set (Pg.xport e) f v g) := by
    refine ChannelsAct.set u v ?_ (fieldKey_ne_of_bit (by decide) hf (by rcases hlo with h | h <;> rw [h] <;> decide))
    rw [OnDelivery, fieldKey_mod hf]
    omega
  exact ((hbit (by decide) (.inr rfl) s 1).trans (hbit (by decide) (.inl rfl) _ 0)).trans (ChannelsAct.setInt _ _ _)

theorem channelFails_acts (hd : 1 ≤ d) (f : Nat) : ChannelsAct d s (s.channelFails d f) := by
  unfold channelFails
  split_ifs
  · exact ((s.sideError_acts d f).trans (sideError_acts _ _ _)).trans (ChannelsAct.event hd _ _ _ _ _)
  · exact ChannelsAct.refl d s

theorem setSide_acts (f : Nat) (x : SpanSide) : ChannelsAct d s (s.setSide d f x) :=
  ⟨ChangesIn.of_regs _ rfl, fun _ _ h => h, rfl, rfl⟩

theorem landChannel_acts {f : Nat} (hf : f < 32) (payload : BitVec 1536) : ChannelsAct d s (s.landChannel d f payload) := by
  have hcredit (u : State) (v : Nat) : ChannelsAct d u (u.set (Pg.xport d) Xport.SFIFO_STATUS_CREDITS v f) :=
    ChannelsAct.setHere u v (by decide) (by simp only [Xport.SFIFO_STATUS_CREDITS]; omega)
  unfold landChannel
  dsimp only
  split_ifs
  · exact (s.setSide_acts f _).trans (hcredit _ _)
  · exact hcredit _ _
  · exact s.setSide_acts f _
  · exact ChannelsAct.refl d s
  · exact ChannelsAct.refl d s

/-- `XP_LAST_FAIL` holds a failed frame (R157, R163). -/
def lastFailSet (s : State) (d m : Nat) (f : CrossFrame) : State :=
  ((((s.set (Pg.xport d) Xport.XP_LAST_FAIL_VALID 1).set (Pg.xport d) Xport.XP_LAST_FAIL_HUB_POISON (b2n f.poisoned)).set (Pg.xport d)
    Xport.XP_LAST_FAIL_SRC_DIE f.srcDie).set (Pg.xport d) Xport.XP_LAST_FAIL_SRC_MOD f.srcMod).set (Pg.xport d) Xport.XP_LAST_FAIL_MODULE m

theorem lastFailSet_acts (d m : Nat) (f : CrossFrame) : ChannelsAct d s (s.lastFailSet d m f) :=
  ((((ChannelsAct.setHere s _ (by decide) (by decide)).trans (ChannelsAct.setHere _ _ (by decide) (by decide))).trans
    (ChannelsAct.setHere _ _ (by decide) (by decide))).trans (ChannelsAct.setHere _ _ (by decide) (by decide))).trans
    (ChannelsAct.setHere _ _ (by decide) (by decide))

/-! ## Presenting a frame -/

/-- A failed frame is presented and counted. -/
def failedShown (s : State) (d m : Nat) (f : CrossFrame) : State :=
  ((((s.setSlice d m { s.slice d m with
    arrival := s.arrivalOf d m (s.failedPayload d m f.payload), crossErr := true }).count (Pg.xport d) Xport.XP_FAIL_FRAMES 1 m).count (Pg.xport d)
    Xport.XP_FAIL_RUN 1 m).setInt (Pg.xport d) Xport.INT_CROSS_FAIL)

theorem deliverFailed_acts (h1 : 1 ≤ d) (h4 : d ≤ 4) (m : Nat) (f : CrossFrame) : ChannelsAct d (s.failedShown d m f) (s.deliverFailed d m f) := by
  have hlast : ChannelsAct d (s.failedShown d m f) (if (s.failedShown d m f).flag (Pg.xport d) Xport.XP_LAST_FAIL_VALID then s.failedShown d m f
      else (s.failedShown d m f).lastFailSet d m f) := by
    split_ifs
    · exact ChannelsAct.refl d _
    · exact lastFailSet_acts _ d m f
  unfold deliverFailed
  dsimp only
  rw [if_pos h4]
  exact hlast.trans ((channelFails_acts _ h1 (2 * m)).trans (channelFails_acts _ h1 (2 * m + 1)))

/-- A good frame is presented, and its module's run of failures ends. -/
def goodShown (s : State) (d m : Nat) (f : CrossFrame) : State :=
  (s.setSlice d m { s.slice d m with arrival := s.arrivalOf d m f.payload, crossErr := false, lastGood := f.payload }).set (Pg.xport d)
    Xport.XP_FAIL_RUN 0 m

theorem deliverGood_acts (h4 : d ≤ 4) (hm : m < 12) (f : CrossFrame) : ChannelsAct d (s.goodShown d m f) (s.deliverGood d m f) := by
  unfold deliverGood
  dsimp only
  rw [if_pos h4]
  exact (landChannel_acts _ (by omega) f.payload).trans (landChannel_acts _ (by omega) f.payload)

end State
end Sys2Proof.Machine
end
section
/-! SUPPORT. What a slice presents at an edge of SPAN_CLK, case by case (R143, R146, R156). -/

namespace Sys2Proof.Machine

open Reg

namespace State

/-- From `s` to `t` a slice of a fabric die has presented: no register outside the delivery's changes, and no frame in flight. -/
structure Presents (d : Nat) (s t : State) : Prop where
  regs : ChangesIn (OnDelivery d 0x140) s t
  flight : t.span.flight = s.span.flight

variable {s : State} {d m : Nat}

theorem presents_of_acts {t : State} (h : ChannelsAct d s t) : Presents d s t :=
  ⟨h.regs.mono fun _ hk => hk.mono (by decide), h.flight⟩

theorem Presents.trans {t u : State} (h : Presents d s t) (h' : Presents d t u) : Presents d s u :=
  ⟨h.regs.trans h'.regs, h'.flight.trans h.flight⟩

theorem setSlice_presents (s : State) (d m : Nat) (x : Slice) : Presents d s (s.setSlice d m x) := ⟨ChangesIn.of_regs _ rfl, rfl⟩

/-- The counts of a module's failed frames. -/
theorem setFail_presents (s : State) {f : RegField} (hf : f = Xport.XP_FAIL_FRAMES ∨ f = Xport.XP_FAIL_RUN) (v : Nat) (hm : m < 12) :
    Presents d s (s.set (Pg.xport d) f v m) := by
  refine ⟨ChangesIn.set s v (.inr (.inr (.inr (.inr ?_)))), rfl⟩
  rcases hf with rfl | rfl
  · simp only [fieldKey, Xport.XP_FAIL_FRAMES]
    omega
  · simp only [fieldKey, Xport.XP_FAIL_RUN]
    omega

theorem setInt_presents (s : State) (d q b : Nat) : Presents d s (s.setInt q b) := presents_of_acts (ChannelsAct.setInt s q b)

/-! ## A failed frame and a good one -/

section
variable (f : CrossFrame)

theorem arrivalOf_fabric (h4 : d ≤ 4) (x : BitVec 1536) : s.arrivalOf d m x = x := if_pos (.inl h4)

theorem failedShown_presents (hm : m < 12) : Presents d s (s.failedShown d m f) :=
  (((s.setSlice_presents d m _).trans (setFail_presents _ (.inl rfl) _ hm)).trans (setFail_presents _ (.inr rfl) _ hm)).trans
    (setInt_presents _ d _ _)

theorem goodShown_presents (hm : m < 12) : Presents d s (s.goodShown d m f) :=
  (s.setSlice_presents d m _).trans (setFail_presents _ (.inr rfl) _ hm)

theorem failedShown_slice (h4 : d ≤ 4) : (s.failedShown d m f).slice d m =
    { s.slice d m with arrival := s.failedPayload d m f.payload, crossErr := true } :=
  (slice_setSlice _).trans (by rw [arrivalOf_fabric h4])

theorem goodShown_slice (h4 : d ≤ 4) : (s.goodShown d m f).slice d m =
    { s.slice d m with arrival := f.payload, crossErr := false, lastGood := f.payload } :=
  (slice_setSlice _).trans (by rw [arrivalOf_fabric h4])

theorem failedShown_frames (hm : m < 12) : (s.failedShown d m f).get (Pg.xport d) Xport.XP_FAIL_FRAMES m =
    min (s.get (Pg.xport d) Xport.XP_FAIL_FRAMES m + 1) 0xFFFF := by
  rw [failedShown, get_setInt_other _ (fieldKey_ne_of_apart (by decide) hm (by decide)),
    get_count_other _ _ (fieldKey_ne_of_apart (by decide) hm hm), get_count_same, satAdd_mod]
  rfl

theorem goodShown_run : (s.goodShown d m f).get (Pg.xport d) Xport.XP_FAIL_RUN m = 0 := get_set_same _ _ _ _ _

theorem not_onDelivery_fail (h1 : 1 ≤ d) (hm : m < 12) {g : RegField} (hg : g = Xport.XP_FAIL_FRAMES ∨ g = Xport.XP_FAIL_RUN) :
    ¬OnDelivery d 0x180 (fieldKey (Pg.xport d) g m) := by
  have := le_xport h1
  have hpages : Pg.xport d ≠ Pg.recorder ∧ Pg.xport d ≠ Pg.ply := by
    simp only [Pg.recorder, Pg.ply]
    omega
  rcases hg with rfl | rfl
  · exact not_onDelivery (by decide) hm (by decide) (by decide) hpages (.inr (.inr (by decide)))
  · exact not_onDelivery (by decide) hm (by decide) (by decide) hpages (.inr (.inr (by decide)))

/-- What a failed frame leaves at its slice and in its counts. -/
structure Failed (s t : State) (d m : Nat) (x : Slice) (payload : BitVec 1536) : Prop where
  slice : t.slice d m = { x with arrival := s.failedPayload d m payload, crossErr := true }
  raised : Raised t (Pg.xport d) Xport.INT_CROSS_FAIL
  frames : t.get (Pg.xport d) Xport.XP_FAIL_FRAMES m = min (s.get (Pg.xport d) Xport.XP_FAIL_FRAMES m + 1) 0xFFFF

theorem deliverFailed_outcome (h1 : 1 ≤ d) (h4 : d ≤ 4) (hm : m < 12) :
    Presents d s (s.deliverFailed d m f) ∧ Failed s (s.deliverFailed d m f) d m (s.slice d m) f.payload := by
  have hacts := deliverFailed_acts s h1 h4 m f
  have hraised : Raised (s.failedShown d m f) (Pg.xport d) Xport.INT_CROSS_FAIL := setInt_sets _ _ _ (by decide) (by decide)
  exact ⟨(failedShown_presents f hm).trans (presents_of_acts hacts), (slice_of_slices hacts.slices d m).trans (failedShown_slice f h4),
    hacts.raised _ (by decide) hraised, (hacts.regs _ _ _ (not_onDelivery_fail h1 hm (.inl rfl))).trans (failedShown_frames f hm)⟩

theorem deliverGood_outcome (h1 : 1 ≤ d) (h4 : d ≤ 4) (hm : m < 12) : Presents d s (s.deliverGood d m f) ∧
    (s.deliverGood d m f).slice d m = { s.slice d m with arrival := f.payload, crossErr := false, lastGood := f.payload } ∧
    (s.deliverGood d m f).get (Pg.xport d) Xport.XP_FAIL_RUN m = 0 := by
  have hacts := deliverGood_acts s h4 hm f
  exact ⟨(goodShown_presents f hm).trans (presents_of_acts hacts), (slice_of_slices hacts.slices d m).trans (goodShown_slice f h4),
    (hacts.regs _ _ _ (not_onDelivery_fail h1 hm (.inr rfl))).trans (goodShown_run f)⟩

end

/-! ## The cases of a delivery -/

section
variable {n : Nat}

/-- The frames of later span cycles. -/
def landingAfter (s : State) (d m n : Nat) : List CrossFrame := (s.slice d m).landing.filter (fun f => n < f.cycle + 9)

/-- Their slice keeps them alone. -/
def landed (s : State) (d m n : Nat) : State := s.setSlice d m { s.slice d m with landing := s.landingAfter d m n }

theorem deliver_held (h : s.sliceHeld d m = true) : s.deliver d m n =
    s.setSlice d m { s.slice d m with arrival := 0, crossErr := false, lastGood := 0, landing := s.landingAfter d m n } := if_pos h

theorem deliver_idle (h : s.sliceHeld d m = false) (hm : s.crossModules d ≤ m) : s.deliver d m n =
    s.setSlice d m { s.slice d m with arrival := 0, crossErr := false, landing := [] } := by
  unfold deliver
  dsimp only
  rw [if_neg (by simp [h]), if_pos hm]

variable (h : s.sliceHeld d m = false) (hm : m < s.crossModules d)
include h hm

theorem deliver_gated (h4 : d ≤ 4) (hgated : s.spanGated d m = true) : s.deliver d m n = s.landed d m n := by
  unfold deliver
  dsimp only
  rw [if_neg (by simp [h]), if_neg (by omega), if_pos ⟨h4, hgated⟩]
  rfl

variable (hgated : s.spanGated d m = false)
include hgated

theorem deliver_down (hactive : s.portActive d = false) : s.deliver d m n =
    s.deliverFailed d m { payload := 0, failed := true, poisoned := false, srcDie := 0, srcMod := 0 } := by
  unfold deliver
  dsimp only
  rw [if_neg (by simp [h]), if_neg (by omega), if_neg (by simp [hgated]), if_pos hactive]

variable (hactive : s.portActive d = true)
include hactive

theorem deliver_none (hfind : (s.slice d m).landing.find? (fun f => f.cycle + 9 = n) = none) : s.deliver d m n =
    (s.landed d m n).setSlice d m { (s.landed d m n).slice d m with crossErr := false } := by
  unfold deliver
  dsimp only
  rw [if_neg (by simp [h]), if_neg (by omega), if_neg (by simp [hgated]), if_neg (by simp [hactive])]
  simp only [hfind]
  rfl

theorem deliver_some {f : CrossFrame} (hfind : (s.slice d m).landing.find? (fun f => f.cycle + 9 = n) = some f) : s.deliver d m n =
    if f.failed then (s.landed d m n).deliverFailed d m f else (s.landed d m n).deliverGood d m f := by
  unfold deliver
  dsimp only
  rw [if_neg (by simp [h]), if_neg (by omega), if_neg (by simp [hgated]), if_neg (by simp [hactive])]
  simp only [hfind]
  rfl

end

theorem landed_slice (s : State) (d m n : Nat) : (s.landed d m n).slice d m = { s.slice d m with landing := s.landingAfter d m n } :=
  slice_setSlice _

theorem landed_presents (s : State) (d m n : Nat) : Presents d s (s.landed d m n) := s.setSlice_presents d m _

/-- What a failed frame presents does not depend on what has landed. -/
theorem failedPayload_landed (s : State) (d m n : Nat) (x : BitVec 1536) : (s.landed d m n).failedPayload d m x = s.failedPayload d m x := by
  have hheld : ((s.landed d m n).slice d m).lastGood = (s.slice d m).lastGood := by rw [landed_slice]
  unfold failedPayload
  dsimp only
  rw [hheld]
  rfl

/-- Whatever a slice presents, only a delivery's registers change. -/
theorem deliver_presents (s : State) (n : Nat) (h1 : 1 ≤ d) (h4 : d ≤ 4) : Presents d s (s.deliver d m n) := by
  cases hheld : s.sliceHeld d m with
  | true =>
    rw [deliver_held hheld]
    exact s.setSlice_presents d m _
  | false =>
    rcases Nat.lt_or_ge m (s.crossModules d) with hm | hm
    case inr =>
      rw [deliver_idle hheld hm]
      exact s.setSlice_presents d m _
    have hm12 : m < 12 := lt_of_lt_of_le hm (s.crossModules_lt d)
    cases hgated : s.spanGated d m with
    | true =>
      rw [deliver_gated hheld hm h4 hgated]
      exact s.landed_presents d m n
    | false =>
      cases hactive : s.portActive d with
      | false =>
        rw [deliver_down hheld hm hgated hactive]
        exact (deliverFailed_outcome _ h1 h4 hm12).1
      | true =>
        cases hfind : (s.slice d m).landing.find? (fun f => f.cycle + 9 = n) with
        | none =>
          rw [deliver_none hheld hm hgated hactive hfind]
          exact (s.landed_presents d m n).trans (setSlice_presents _ d m _)
        | some f =>
          rw [deliver_some hheld hm hgated hactive hfind]
          split_ifs
          · exact (s.landed_presents d m n).trans (deliverFailed_outcome f h1 h4 hm12).1
          · exact (s.landed_presents d m n).trans (deliverGood_outcome f h1 h4 hm12).1

end State
end Sys2Proof.Machine
end
section
/-! SUPPORT. An edge of SPAN_CLK (R143): a slice presents, then its launch registers sample, and what they took goes out. -/

namespace Sys2Proof.Machine

open Reg

namespace State

variable {s : State} {d m n : Nat}

/-! ## What sends -/

theorem channelSent_keeps (s : State) (d f : Nat) : (s.channelSent d f).regs = s.regs ∧ (s.channelSent d f).span.slices = s.span.slices ∧
    (s.channelSent d f).span.flight = s.span.flight := by
  unfold channelSent
  dsimp only
  split_ifs
  · exact ⟨rfl, rfl, rfl⟩
  · exact ⟨rfl, rfl, rfl⟩

theorem channelsSent_keeps (s : State) (d m : Nat) : (s.channelsSent d m).regs = s.regs ∧ (s.channelsSent d m).span.slices = s.span.slices ∧
    (s.channelsSent d m).span.flight = s.span.flight := by
  unfold channelsSent
  split_ifs
  · obtain ⟨hregs, hslices, hflight⟩ := s.channelSent_keeps d (2 * m)
    obtain ⟨hregs', hslices', hflight'⟩ := (s.channelSent d (2 * m)).channelSent_keeps d (2 * m + 1)
    exact ⟨hregs'.trans hregs, hslices'.trans hslices, hflight'.trans hflight⟩
  · exact ⟨rfl, rfl, rfl⟩

/-- Whether the poison test takes a module's next frame (R164). -/
def poisonTest (s : State) (d m : Nat) : Bool :=
  s.get (Pg.xport d) Xport.XP_POISON_TEST_MOD = m && s.get (Pg.xport d) Xport.XP_POISON_TEST_COUNT ≠ 0

/-- The test counts down. -/
def testCounted (s : State) (d : Nat) (test : Bool) : State :=
  if test then s.set (Pg.xport d) Xport.XP_POISON_TEST_COUNT (s.get (Pg.xport d) Xport.XP_POISON_TEST_COUNT - 1) else s

theorem launchSent_eq (x : BitVec 1536) (hactive : s.portActive d = true) (hm : m < s.crossModules d) : s.launchSent d m n x =
    (s.testCounted d (s.poisonTest d m)).sendCycle d m 1 { payload := x, poisoned := s.poisonTest d m, cycle := n } := if_pos ⟨hactive, hm⟩

/-- The count of the poison test is the one register that a launch writes. -/
def OnTest (d k : Nat) : Prop := k = fieldKey (Pg.xport d) Xport.XP_POISON_TEST_COUNT 0

theorem testCounted_changes (s : State) (d : Nat) (test : Bool) : ChangesIn (OnTest d) s (s.testCounted d test) :=
  ChangesIn.ite (fun _ => ChangesIn.set s _ rfl) fun _ => ChangesIn.refl _ s

theorem testCounted_keeps (s : State) (d : Nat) (test : Bool) : (s.testCounted d test).span = s.span ∧ (s.testCounted d test).pending = s.pending := by
  cases test <;> exact ⟨rfl, rfl⟩

theorem launchSent_keeps (s : State) (d m n : Nat) (x : BitVec 1536) : ChangesIn (OnTest d) s (s.launchSent d m n x) ∧
    (s.launchSent d m n x).span.slices = s.span.slices ∧ (s.launchSent d m n x).pending = s.pending := by
  by_cases h : s.portActive d = true ∧ m < s.crossModules d
  · rw [launchSent_eq x h.1 h.2]
    obtain ⟨hspan, hpending⟩ := s.testCounted_keeps d (s.poisonTest d m)
    have hsends := (s.testCounted d (s.poisonTest d m)).sendCycle_sends d m 1 { payload := x, poisoned := s.poisonTest d m, cycle := n }
    exact ⟨(s.testCounted_changes d _).trans (ChangesIn.of_regs _ hsends.regs), hsends.slices.trans (by rw [hspan]), hsends.pending.trans hpending⟩
  · rw [show s.launchSent d m n x = s from if_neg h]
    exact ⟨ChangesIn.refl _ s, rfl, rfl⟩

/-- A field of another page than the crossing port's. -/
theorem testCounted_get (s : State) (d : Nat) (test : Bool) {q i : Nat} {f : RegField} (hf : f.inPage = true) (hi : i < f.count) (h : q ≠ Pg.xport d) :
    (s.testCounted d test).get q f i = s.get q f i :=
  s.testCounted_changes d test _ _ _ (fieldKey_ne_of_pages hf hi (by decide) (by decide) h)

/-- A module's data frame goes out to the hub (R143, R164). -/
theorem launchSent_flight {p : Nat} (x : BitVec 1536) (h1 : 1 ≤ d) (h6 : d ≤ 6) (hp : s.physOf d m = some p) (hactive : s.portActive d = true)
    (hm : m < s.crossModules d) : ∃ f i : TxFrame,
      SMap.read [] (s.launchSent d m n x).span.flight (spanDirKey d m 1) =
        SMap.read [] s.span.flight (spanDirKey d m 1) ++ f :: (if s.idleFollows n then [i] else []) ∧
      f.payload = x ∧ f.cycle = n ∧ f.data = true ∧ i.data = false ∧ f.poisoned = s.poisonTest d m := by
  have hport : Pg.port d ≠ Pg.xport d := by
    have := le_xport h1
    simp only [Pg.port]
    omega
  have hclock : Pg.clock ≠ Pg.xport d := by
    have := le_xport h1
    simp only [Pg.clock]
    omega
  rw [launchSent_eq x hactive hm]
  generalize s.poisonTest d m = test
  have hphys : (s.testCounted d test).physOf d m = some p := (physOf_congr (fun q hq =>
    ⟨s.testCounted_get d test (by decide) hq hport, s.testCounted_get d test (by decide) hq hport⟩) m).trans hp
  have hidle : (s.testCounted d test).idleFollows n = s.idleFollows n := by
    unfold idleFollows
    rw [s.testCounted_get d test (by decide) (by decide) hclock]
  obtain ⟨hspan, -⟩ := s.testCounted_keeps d test
  obtain ⟨i, hi, hflight⟩ := sendCycle_flight (dir := 1) hphys { payload := x, poisoned := test, cycle := n }
  refine ⟨(s.testCounted d test).framed d m p 1 0 { payload := x, poisoned := test, cycle := n }, i, hflight.trans ?_, rfl, rfl, rfl, hi, rfl⟩
  rw [hspan]
  dsimp only
  rw [hidle]

/-! ## The edge -/

/-- A SPAN_CLK edge for a past span cycle, or a second one of a span cycle. -/
theorem presented_past (line : List LaneLine) (h : n < s.clock.span ∨ n < (s.slice d m).edge) : s.presented d m n line = s := if_pos h

/-- The launch registers of a slice have sampled (R143). -/
def launched (s z : State) (d m n : Nat) (y : BitVec 1536) : State :=
  z.setSlice d m { z.slice d m with launch := y, old := (s.slice d m).arrival, oldErr := (s.slice d m).crossErr, edge := n + 1 }

theorem presented_fabric (line : List LaneLine) (hspan : s.clock.span ≤ n) (hedge : (s.slice d m).edge ≤ n) (h4 : d ≤ 4) :
    s.presented d m n line = (s.launched (((s.spanTo n).deliver d m n).channelsSent d m) d m n (s.fabricLaunch d m)).launchSent d m n
      (s.fabricLaunch d m) := by
  unfold presented
  rw [if_neg (by omega)]
  dsimp only
  rw [if_neg (by omega), if_pos h4, if_neg (by omega)]
  rfl

/-- What the lanes of a die have received reaches its lane words. -/
def wordsFormed (s : State) (d n : Nat) (line : List LaneLine) : State :=
  (forEach line (fun l u => u.laneReceives (Pg.dieBase d + 0x40 + l.lane) l) (s.spanTo n)).laneWords d n

theorem presented_lane (line : List LaneLine) (hspan : s.clock.span ≤ n) (hedge : (s.slice d m).edge ≤ n) (h5 : 5 ≤ d) :
    s.presented d m n line = ((s.launched (((s.wordsFormed d n line).deliver d m n).channelsSent d m) d m n
      ((s.wordsFormed d n line).laneLaunch d m)).lanesTake d m n).launchSent d m n ((s.wordsFormed d n line).laneLaunch d m) := by
  have h4 : ¬d ≤ 4 := by omega
  unfold presented
  rw [if_neg (by omega)]
  dsimp only
  simp only [if_pos h5, if_neg h4]
  rfl

/-! ## The requests of a lane die's edge -/

theorem wordsFormed_pending (s : State) (d n : Nat) (line : List LaneLine) : (s.wordsFormed d n line).pending = s.pending := by
  rw [wordsFormed, laneWords_pending]
  exact forEach_keeps State.pending line (fun l u => u.laneReceives_pending _ l) (s.spanTo n)

theorem deliverFailed_pending (s : State) (f : CrossFrame) (h5 : 5 ≤ d) : (s.deliverFailed d m f).pending = s.pending := by
  unfold deliverFailed
  dsimp only
  rw [if_neg (by omega)]
  split_ifs <;> simp only [set_pending, setInt_pending, count_pending, setSlice_pending]

theorem deliverGood_pending (s : State) (f : CrossFrame) (h5 : 5 ≤ d) : (s.deliverGood d m f).pending = s.pending := by
  unfold deliverGood
  dsimp only
  rw [if_neg (by omega)]
  rfl

theorem deliver_pending (s : State) (m n : Nat) (h5 : 5 ≤ d) : (s.deliver d m n).pending = s.pending := by
  unfold deliver
  dsimp only
  split_ifs
  case neg =>
    split
    · rfl
    · split_ifs
      · exact deliverFailed_pending _ _ h5
      · exact deliverGood_pending _ _ h5
  case pos => rfl
  case pos => rfl
  case pos => rfl
  case pos => exact deliverFailed_pending s _ h5

theorem channelsSent_lane (s : State) (h5 : 5 ≤ d) : s.channelsSent d m = s := if_neg (by omega)

theorem presented_lane_pending (line : List LaneLine) (hspan : s.clock.span ≤ n) (hedge : (s.slice d m).edge ≤ n) (h5 : 5 ≤ d) :
    (s.presented d m n line).pending = s.pending := by
  rw [presented_lane line hspan hedge h5, (launchSent_keeps _ d m n _).2.2, lanesTake_pending, channelsSent_lane _ h5, launched, setSlice_pending,
    deliver_pending _ m n h5, wordsFormed_pending]

end State
end Sys2Proof.Machine
end
section
/-! SUPPORT. What an edge of SPAN_CLK makes of a slice of a fabric die (R143, R146, R156). -/

namespace Sys2Proof.Machine

open Reg

namespace State

/-- A slice has presented at the edge of span cycle `n`. -/
def delivered (s : State) (d m n : Nat) : State := (s.spanTo n).deliver d m n

variable {s : State} {d m n : Nat}

/-! ## What is presented -/

theorem delivered_held (h : s.sliceHeld d m = true) : (s.delivered d m n).slice d m =
    { s.slice d m with arrival := 0, crossErr := false, lastGood := 0, landing := s.landingAfter d m n } := by
  rw [delivered, deliver_held (s := s.spanTo n) h]
  exact slice_setSlice _

theorem delivered_idle (h : s.sliceHeld d m = false) (hm : s.crossModules d ≤ m) : (s.delivered d m n).slice d m =
    { s.slice d m with arrival := 0, crossErr := false, landing := [] } := by
  rw [delivered, deliver_idle (s := s.spanTo n) h hm]
  exact slice_setSlice _

section
variable (h : s.sliceHeld d m = false) (hm : m < s.crossModules d) (h4 : d ≤ 4)
include h hm h4

theorem delivered_gated (hgated : s.spanGated d m = true) : (s.delivered d m n).slice d m =
    { s.slice d m with landing := s.landingAfter d m n } := by
  rw [delivered, deliver_gated (s := s.spanTo n) h hm h4 hgated]
  exact landed_slice _ d m n

variable (hgated : s.spanGated d m = false)
include hgated

theorem delivered_down (h1 : 1 ≤ d) (hactive : s.portActive d = false) : Failed s (s.delivered d m n) d m (s.slice d m) 0 := by
  obtain ⟨-, hslice, hraised, hframes⟩ := deliverFailed_outcome (s := s.spanTo n)
    { payload := 0, failed := true, poisoned := false, srcDie := 0, srcMod := 0 } h1 h4 (lt_of_lt_of_le hm (s.crossModules_lt d))
  rw [delivered, deliver_down (s := s.spanTo n) h hm hgated hactive]
  exact ⟨hslice, hraised, hframes⟩

variable (hactive : s.portActive d = true)
include hactive

omit h4 in
theorem delivered_none (hfind : (s.slice d m).landing.find? (fun f => f.cycle + 9 = n) = none) : (s.delivered d m n).slice d m =
    { s.slice d m with landing := s.landingAfter d m n, crossErr := false } := by
  rw [delivered, deliver_none (s := s.spanTo n) h hm hgated hactive hfind]
  exact (slice_setSlice _).trans (by rw [landed_slice]; rfl)

theorem delivered_failed (h1 : 1 ≤ d) {f : CrossFrame} (hfind : (s.slice d m).landing.find? (fun f => f.cycle + 9 = n) = some f)
    (hf : f.failed = true) : Failed s (s.delivered d m n) d m { s.slice d m with landing := s.landingAfter d m n } f.payload := by
  obtain ⟨-, hslice, hraised, hframes⟩ := deliverFailed_outcome (s := (s.spanTo n).landed d m n) f h1 h4
    (lt_of_lt_of_le hm (s.crossModules_lt d))
  rw [landed_slice, failedPayload_landed] at hslice
  rw [delivered, deliver_some (s := s.spanTo n) h hm hgated hactive hfind, if_pos hf]
  exact ⟨hslice, hraised, hframes⟩

theorem delivered_good (h1 : 1 ≤ d) {f : CrossFrame} (hfind : (s.slice d m).landing.find? (fun f => f.cycle + 9 = n) = some f)
    (hf : f.failed = false) : (s.delivered d m n).slice d m =
      { s.slice d m with landing := s.landingAfter d m n, arrival := f.payload, crossErr := false, lastGood := f.payload } ∧
    (s.delivered d m n).get (Pg.xport d) Xport.XP_FAIL_RUN m = 0 := by
  obtain ⟨-, hslice, hrun⟩ := deliverGood_outcome (s := (s.spanTo n).landed d m n) f h1 h4 (lt_of_lt_of_le hm (s.crossModules_lt d))
  rw [landed_slice] at hslice
  rw [delivered, deliver_some (s := s.spanTo n) h hm hgated hactive hfind, if_neg (by simp [hf])]
  exact ⟨hslice, hrun⟩

end

/-! ## What a delivery leaves to the launch -/

theorem delivered_presents (s : State) (n : Nat) (h1 : 1 ≤ d) (h4 : d ≤ 4) : Presents d s (s.delivered d m n) := by
  obtain ⟨hregs, hflight⟩ := deliver_presents (m := m) (s.spanTo n) n h1 h4
  exact ⟨hregs, hflight⟩

/-- The fields that a launch reads. -/
theorem Presents.get {t : State} (h : Presents d s t) (h1 : 1 ≤ d) (h4 : d ≤ 4) : t.portActive d = s.portActive d ∧
    t.crossModules d = s.crossModules d ∧ t.physOf d m = s.physOf d m ∧ t.idleFollows n = s.idleFollows n ∧
    t.poisonTest d m = s.poisonTest d m := by
  have hx := le_xport h1
  have hport {f : RegField} {i : Nat} (hf : f.inPage = true) (hi : i < f.count) (hlo : f.lo < 30) (hint : f.apart Hdr.INT_STATUS_BLOCK = true) :
      t.get (Pg.port d) f i = s.get (Pg.port d) f i :=
    h.regs _ _ _ (not_onDelivery hf hi hlo hint (by simp only [Pg.port, Pg.recorder, Pg.ply]; omega) (.inl (by simp only [Pg.port]; omega)))
  have htest {f : RegField} (hf : f.inPage = true) (hi : 0 < f.count) (hlo : f.lo < 30) (hint : f.apart Hdr.INT_STATUS_BLOCK = true)
      (hoff : 0x800 ≤ f.off) : t.get (Pg.xport d) f = s.get (Pg.xport d) f :=
    h.regs _ _ _ (not_onDelivery hf hi hlo hint (by simp only [Pg.recorder, Pg.ply]; omega) (.inr (.inl hoff)))
  have hclock : t.get Pg.clock Clock.CLK_SPAN_ACTIVE = s.get Pg.clock Clock.CLK_SPAN_ACTIVE :=
    h.regs _ _ _ (not_onDelivery (by decide) (by decide) (by decide) (by decide) (by decide) (.inl (by simp only [Pg.clock]; omega)))
  refine ⟨?_, ?_, physOf_congr (fun q hq => ⟨hport (by decide) hq (by decide) (by decide), hport (by decide) hq (by decide) (by decide)⟩) m, ?_, ?_⟩
  · rw [portActive, portState, hport (by decide) (by decide) (by decide) (by decide)]
    rfl
  · rw [crossModules, hport (by decide) (by decide) (by decide) (by decide)]
    rfl
  · unfold idleFollows
    rw [hclock]
  · rw [poisonTest, htest (by decide) (by decide) (by decide) (by decide) (by decide), htest (by decide) (by decide) (by decide) (by decide) (by decide)]
    rfl

/-! ## The edge as a whole -/

/-- The edge of a slice of a fabric die: what was delivered, with the launch registers sampled, and the frame of the launch in flight. -/
structure FabricEdge (s t : State) (d m n : Nat) : Prop where
  slice : t.slice d m = { (s.delivered d m n).slice d m with
    launch := s.fabricLaunch d m, old := (s.slice d m).arrival, oldErr := (s.slice d m).crossErr, edge := n + 1 }
  regs : ChangesIn (OnTest d) (s.delivered d m n) t
  flight : s.portActive d = true → m < s.crossModules d → ∀ p, s.physOf d m = some p → ∃ f i : TxFrame,
    SMap.read [] t.span.flight (spanDirKey d m 1) =
      SMap.read [] s.span.flight (spanDirKey d m 1) ++ f :: (if s.idleFollows n then [i] else []) ∧
    f.payload = s.fabricLaunch d m ∧ f.cycle = n ∧ f.data = true ∧ i.data = false ∧ f.poisoned = s.poisonTest d m

theorem presented_fabricEdge (line : List LaneLine) (hspan : s.clock.span ≤ n) (hedge : (s.slice d m).edge ≤ n) (h1 : 1 ≤ d) (h4 : d ≤ 4) :
    FabricEdge s (s.presented d m n line) d m n := by
  obtain ⟨hregs, hslices, hflights⟩ := (s.delivered d m n).channelsSent_keeps d m
  have hpresents := delivered_presents (m := m) s n h1 h4
  rw [presented_fabric line hspan hedge h4]
  change FabricEdge s ((s.launched ((s.delivered d m n).channelsSent d m) d m n (s.fabricLaunch d m)).launchSent d m n (s.fabricLaunch d m)) d m n
  generalize (s.delivered d m n).channelsSent d m = z at *
  have hlaunched : (s.launched z d m n (s.fabricLaunch d m)).slice d m = { (s.delivered d m n).slice d m with
      launch := s.fabricLaunch d m, old := (s.slice d m).arrival, oldErr := (s.slice d m).crossErr, edge := n + 1 } :=
    (slice_setSlice _).trans (by rw [slice_of_slices hslices])
  have hpresented : Presents d s (s.launched z d m n (s.fabricLaunch d m)) :=
    ⟨hpresents.regs.trans (ChangesIn.of_regs _ hregs), hflights.trans hpresents.flight⟩
  have hchanged : ChangesIn (OnTest d) (s.delivered d m n) (s.launched z d m n (s.fabricLaunch d m)) := ChangesIn.of_regs _ hregs
  generalize s.launched z d m n (s.fabricLaunch d m) = w at *
  obtain ⟨hchanges, hkept, -⟩ := w.launchSent_keeps d m n (s.fabricLaunch d m)
  obtain ⟨hactive, hmodules, hphys, hidle, htest⟩ := Presents.get (m := m) (n := n) hpresented h1 h4
  refine ⟨(slice_of_slices hkept d m).trans hlaunched, hchanged.trans hchanges, fun hactive' hm p hp => ?_⟩
  have hflight := launchSent_flight (s := w) (n := n) (s.fabricLaunch d m) h1 (by omega) (hphys.trans hp) (hactive.trans hactive') (hmodules ▸ hm)
  rwa [hidle, htest, hpresented.flight] at hflight

theorem FabricEdge.raised {t : State} {b : Nat} (h : FabricEdge s t d m n) (hr : Raised (s.delivered d m n) (Pg.xport d) b) :
    Raised t (Pg.xport d) b := Raised.of_changesIn hr h.regs (fieldKey_ne_of_bit (by decide) (by decide) (by decide))

theorem FabricEdge.failCount {t : State} {g : RegField} (h : FabricEdge s t d m n) (hm : m < 12)
    (hg : g = Xport.XP_FAIL_FRAMES ∨ g = Xport.XP_FAIL_RUN) : t.get (Pg.xport d) g m = (s.delivered d m n).get (Pg.xport d) g m := by
  rcases hg with rfl | rfl
  · exact h.regs _ _ _ (fieldKey_ne_of_apart (by decide) hm (by decide))
  · exact h.regs _ _ _ (fieldKey_ne_of_apart (by decide) hm (by decide))

/-! ## The cases of an edge -/

section
variable {t : State} (hedge : FabricEdge s t d m n)
include hedge

theorem FabricEdge.of_held (h : s.sliceHeld d m = true) :
    (t.slice d m).arrival = 0 ∧ (t.slice d m).crossErr = false ∧ (t.slice d m).lastGood = 0 := by
  rw [hedge.slice, delivered_held h]
  exact ⟨rfl, rfl, rfl⟩

theorem FabricEdge.of_idle (h : s.sliceHeld d m = false) (hm : s.crossModules d ≤ m) :
    (t.slice d m).arrival = 0 ∧ (t.slice d m).crossErr = false := by
  rw [hedge.slice, delivered_idle h hm]
  exact ⟨rfl, rfl⟩

section
variable (h : s.sliceHeld d m = false) (hm : m < s.crossModules d) (h4 : d ≤ 4)
include h hm h4

theorem FabricEdge.of_gated (hgated : s.spanGated d m = true) :
    (t.slice d m).arrival = (s.slice d m).arrival ∧ (t.slice d m).crossErr = (s.slice d m).crossErr := by
  rw [hedge.slice, delivered_gated h hm h4 hgated]
  exact ⟨rfl, rfl⟩

variable (h1 : 1 ≤ d) (hgated : s.spanGated d m = false)
include h1 hgated

theorem FabricEdge.of_down (hactive : s.portActive d = false) : (t.slice d m).arrival = s.failedPayload d m 0 ∧ (t.slice d m).crossErr = true ∧
    Raised t (Pg.xport d) Xport.INT_CROSS_FAIL := by
  obtain ⟨hshown, hraised, -⟩ := delivered_down (n := n) h hm h4 hgated h1 hactive
  rw [hedge.slice, hshown]
  exact ⟨rfl, rfl, hedge.raised hraised⟩

variable (hactive : s.portActive d = true)
include hactive

omit h4 h1 in
theorem FabricEdge.of_none (hfind : (s.slice d m).landing.find? (fun f => f.cycle + 9 = n) = none) :
    (t.slice d m).arrival = (s.slice d m).arrival ∧ (t.slice d m).crossErr = false := by
  rw [hedge.slice, delivered_none h hm hgated hactive hfind]
  exact ⟨rfl, rfl⟩

/-- What a frame that has landed makes of its slice: the frame as its check left it, the counts and the interrupt (R156). -/
theorem FabricEdge.of_some {f : CrossFrame} (hfind : (s.slice d m).landing.find? (fun f => f.cycle + 9 = n) = some f) :
    (t.slice d m).landing = s.landingAfter d m n ∧ (t.slice d m).crossErr = f.failed ∧
    (t.slice d m).arrival = (if f.failed then s.failedPayload d m f.payload else f.payload) ∧
    (t.slice d m).lastGood = (if f.failed then (s.slice d m).lastGood else f.payload) ∧
    (f.failed = true → Raised t (Pg.xport d) Xport.INT_CROSS_FAIL ∧
      t.get (Pg.xport d) Xport.XP_FAIL_FRAMES m = min (s.get (Pg.xport d) Xport.XP_FAIL_FRAMES m + 1) 0xFFFF) ∧
    (f.failed = false → t.get (Pg.xport d) Xport.XP_FAIL_RUN m = 0) := by
  have hm12 := lt_of_lt_of_le hm (s.crossModules_lt d)
  rw [hedge.slice]
  cases hf : f.failed with
  | true =>
    obtain ⟨hshown, hraised, hframes⟩ := delivered_failed h hm h4 hgated hactive h1 hfind hf
    rw [hshown]
    exact ⟨rfl, rfl, rfl, rfl, fun _ => ⟨hedge.raised hraised, (hedge.failCount hm12 (.inl rfl)).trans hframes⟩, nofun⟩
  | false =>
    obtain ⟨hshown, hrun⟩ := delivered_good h hm h4 hgated hactive h1 hfind hf
    rw [hshown]
    exact ⟨rfl, rfl, rfl, rfl, nofun, fun _ => (hedge.failCount hm12 (.inr rfl)).trans hrun⟩

end
end

end State
end Sys2Proof.Machine
end
section
namespace Sys2Proof

open Machine Machine.Reg

/-- Settles O23: a frame is checked and lands, the hub switches each module once, a slice presents and launches, and a lap ends. -/
theorem crossingFramesAreCheckedSwitchedAndPresented : Obligations.CrossingFramesAreCheckedSwitchedAndPresented := by
  unfold Obligations.CrossingFramesAreCheckedSwitchedAndPresented
  intro s d m dir p hd hp
  obtain ⟨hport, -, -⟩ := isLogicalDir_parts hd
  have hd0 := isLogicalDir_zero hd
  obtain ⟨h1, -⟩ := isPort_range hport
  dsimp only
  refine ⟨fun tx rest err hactive hcross hflight => completes_of_onPart rfl hd ?_, fun err h => completes_of_onPart rfl hd ?_,
    fun n => ⟨_, rfl, rfl, fun hactive hcross => ?_⟩, fun n line hline => ⟨fun hpast => completes_of_onPart rfl (by simp [hd0, hline]) ?_,
    fun hspan hedge => ?_⟩, fun bad hbad => completes_of_onPart rfl (by simp [hd, hbad]) ⟨?_, fun h => ?_⟩⟩
  · have harrived := State.frameArrives_outcome (p := p) err hflight
    rw [State.crossingReceived_eq err hp hactive hcross]
    generalize s.frameArrives d m p dir err = t at *
    obtain ⟨hseq, hrest, hcount, hhub, hslice, hidle⟩ := harrived
    obtain ⟨hpayload, hfailed, hpoisoned, hcycle⟩ := tx.received_parts (SMap.read 0 s.span.seq4 (spanDirKey d m dir)) dir err
    rw [hfailed] at hcount
    generalize tx.received (SMap.read 0 s.span.seq4 (spanDirKey d m dir)) dir err = f at *
    exact ⟨hseq, hrest, hcount, fun hdir1 hdata => ⟨f, hhub hdir1 hdata, hpayload, hfailed, hcycle⟩,
      fun hdir0 hdata => ⟨f, hslice hdir0 hdata, hpayload, hfailed, hpoisoned, hcycle⟩, hidle⟩
  · rw [State.crossingReceived_of_not err hp h]
  · exact State.switchCycle_flight n.toNat hport hp hactive hcross
  · rw [State.presented_past line hpast]
  · rcases Nat.lt_or_ge d 5 with hlt | h5
    · have hmoment := State.presented_fabricEdge line hspan hedge h1 (by omega)
      refine completes_of_onPart rfl (by simp [hd0, hline]) ⟨fun h5 => absurd h5 (by omega), fun h4 => ?_⟩
      generalize s.presented d m n.toNat line = t at *
      exact ⟨congrArg Slice.launch hmoment.slice, congrArg Slice.old hmoment.slice, congrArg Slice.oldErr hmoment.slice,
        congrArg Slice.edge hmoment.slice, hmoment.of_held, hmoment.of_idle, fun hheld hcross => hmoment.of_gated hheld hcross h4,
        fun hheld hcross hgated => ⟨hmoment.of_down hheld hcross h4 h1 hgated, hmoment.of_none hheld hcross hgated,
          fun hactive _ => hmoment.of_some hheld hcross h4 h1 hgated hactive⟩,
        fun hactive hcross => hmoment.flight hactive hcross p hp⟩
    · exact completes_of_kept rfl (by simp [hd0, hline]) (State.presented_lane_pending line hspan hedge h5)
        ⟨fun _ => State.presented_lane line hspan hedge h5, fun h4 => absurd h4 (by omega)⟩
  · exact State.auditLapDone_ends bad hp
  · rw [State.auditLapDone_of_none bad h]

end Sys2Proof
end
section
/-! SUPPORT. Span channels (R149 to R152, R164): what a channel port holds after each of its operations, and what its two sides' words show after an
error, a `RESYNC` and a restart. -/

namespace Sys2Proof.Machine

open Reg

/-! ## Keys of two pages -/

/-- A field whose value after POR is the same everywhere reads, at the key that was written, what was written. -/
theorem State.get_set_of_key (s : State) {p q i j : Nat} {f : RegField} (v : Nat) (hreset : f.reset q j = f.reset p i)
    (h : fieldKey q f j = fieldKey p f i) : (s.set p f v i).get q f j = v % 2 ^ f.width := by
  simp [State.get, State.set, h, hreset]

/-- A field that is written the value it holds already, whatever element is written. -/
theorem State.get_set_of_holds (s : State) {p q i j v : Nat} {f : RegField} (hreset : f.reset q j = f.reset p i) (hv : v < 2 ^ f.width)
    (h : s.get q f j = v) : (s.set p f v i).get q f j = v := by
  by_cases hkey : fieldKey q f j = fieldKey p f i
  · rw [s.get_set_of_key v hreset hkey, Nat.mod_eq_of_lt hv]
  · rw [s.get_set_other v hkey, h]

/-- A field is no other bit of any word. -/
theorem State.get_set_of_bit (s : State) {p q i j : Nat} {f g : RegField} (v : Nat) (hf : f.inWords = true) (hg : g.inWords = true)
    (h : g.lo ≠ f.lo) : (s.set p f v i).get q g j = s.get q g j :=
  s.get_set_other v (fieldKey_ne_of_bit hg hf h)

/-! ## An event leaves the upper bits of words alone -/

/-- The bits at which the records' fields begin. -/
def AtRecordBit (k : Nat) : Prop := k % 32 = 0 ∨ k % 32 = 16

theorem atRecordBit_of {p i : Nat} {f : RegField} (hf : f.inWords = true) (h : f.lo = 0 ∨ f.lo = 16) : AtRecordBit (fieldKey p f i) := by
  rwa [AtRecordBit, fieldKey_mod hf]

section
variable (s : State)

theorem State.plyPumped_bits (p : Nat) (x : PlyPort) : ChangesIn AtRecordBit s (s.plyPumped p x) :=
  ChangesIn.ite (fun _ => (ChangesIn.of_regs (t := { s with ply := _ }) _ rfl).trans
    (ChangesIn.set _ _ (atRecordBit_of (by decide) (by decide)))) (fun _ => ChangesIn.of_regs _ rfl)

theorem State.plyReport_bits (r : EvRec) : ChangesIn AtRecordBit s (s.plyReport r) := by
  refine ChangesIn.ite (fun _ => ?_) (fun _ => ChangesIn.refl _ s)
  unfold State.plySend
  split
  · exact s.plyPumped_bits _ _
  · exact ChangesIn.refl _ s

theorem State.stageRec_bits (c v n p : Nat) (w : Bool) (b : List Byte) : ChangesIn AtRecordBit s (s.stageRec c v n p w b) := by
  have hset {q i : Nat} {f : RegField} (u : State) (x : Nat) (hf : f.inWords = true) (h : f.lo = 0 ∨ f.lo = 16) :
      ChangesIn AtRecordBit u (u.set q f x i) := ChangesIn.set u x (atRecordBit_of hf h)
  refine ChangesIn.ite (fun _ => ?_) (fun _ => ?_)
  · exact ((hset s _ (by decide) (by decide)).trans (State.plyReport_bits _ _)).trans (ChangesIn.of_regs _ rfl)
  · exact ((hset s _ (by decide) (by decide)).trans (hset _ _ (by decide) (by decide))).trans (ChangesIn.of_regs _ rfl)

theorem State.storeRec_bits (c v n p : Nat) (w : Bool) (b : List Byte) : ChangesIn AtRecordBit s (s.storeRec c v n p w b) :=
  ChangesIn.ite (fun _ => (s.stageRec_bits c v n p w b).trans (State.stageRec_bits _ _ _ _ _ _ _)) (fun _ => s.stageRec_bits c v n p w b)

theorem State.event_bits (c v p d : Nat) : ChangesIn AtRecordBit s (s.event c v p d) :=
  ChangesIn.ite (fun _ => (s.storeRec_bits _ _ _ _ _ _).trans (ChangesIn.of_regs _ rfl))
    (fun _ => ChangesIn.ite (fun _ => ChangesIn.of_regs _ rfl) (fun _ => (s.storeRec_bits _ _ _ _ _ _).trans (ChangesIn.of_regs _ rfl)))

theorem State.get_event_of_bit {q j : Nat} {f : RegField} (c v p d : Nat) (hf : f.inWords = true) (h : f.lo ≠ 0 ∧ f.lo ≠ 16) :
    (s.event c v p d).get q f j = s.get q f j := by
  refine s.event_bits c v p d q f j fun hk => ?_
  rw [AtRecordBit, fieldKey_mod hf] at hk
  exact hk.elim h.1 h.2

end

namespace State

variable {s : State} {d f : Nat}

/-! ## The FIFOs of one side -/

theorem side_setSide (s : State) (d f : Nat) (x : SpanSide) : (s.setSide d f x).side d f = x := SMap.read_write_same _ _ _ _

theorem sided {t : State} {x : SpanSide} (h : t = s.setSide d f x) : t.side d f = x ∧ t.regs = s.regs := by
  rw [h]
  exact ⟨s.side_setSide d f x, rfl⟩

theorem sidedSet {t : State} {x : SpanSide} {p v i : Nat} {g : RegField} (h : t = (s.setSide d f x).set p g v i) :
    t.side d f = x ∧ t.get p g i = v % 2 ^ g.width := by
  rw [h]
  exact ⟨s.side_setSide d f x, get_set_same _ _ _ _ _⟩

theorem channelWrite_of_none (h : (s.side d f).wDue = none) : s.channelWrite d f = s := by
  simp [channelWrite, h]

/-- The entry taken joins the FIFO of an open channel that has room. -/
theorem channelWrite_of_some {x : DWord} (h : (s.side d f).wDue = some x) :
    s.channelWrite d f = s.setSide d f { s.side d f with
      wDue := none
      tx := if s.channelOn d f && !(s.channelError d f) && (s.side d f).tx.length ≠ 16 then (s.side d f).tx ++ [x] else (s.side d f).tx } := by
  have hroom : (s.channelOn d f = true ∧ s.channelFull d f = false) ↔
      (s.channelOn d f && !(s.channelError d f) && (s.side d f).tx.length ≠ 16) = true := by
    simp [channelFull, and_assoc]
  simp only [channelWrite, h, hroom]
  split_ifs <;> rfl

theorem channelSend_of_idle (h : (s.side d f).tx = [] ∨ (s.side d f).out ≠ none ∨ (s.channelOn d f && !(s.channelError d f)) = false ∨
    s.get (Pg.xport d) Xport.SFIFO_STATUS_CREDITS f = 0) : s.channelSend d f = s := by
  unfold channelSend
  dsimp only
  split
  · rfl
  · next x rest htx =>
    refine if_neg fun ⟨hon, herr, hcredit, hout⟩ => ?_
    simp [htx, hon, herr, hcredit, hout] at h

theorem channelSend_of_credit {x : DWord} {rest : List DWord} (htx : (s.side d f).tx = x :: rest) (hout : (s.side d f).out = none)
    (hopen : (s.channelOn d f && !(s.channelError d f)) = true) (hcredit : s.get (Pg.xport d) Xport.SFIFO_STATUS_CREDITS f ≠ 0) :
    s.channelSend d f = (s.setSide d f { s.side d f with tx := rest, out := some x }).set (Pg.xport d) Xport.SFIFO_STATUS_CREDITS
      (s.get (Pg.xport d) Xport.SFIFO_STATUS_CREDITS f - 1) f := by
  simp only [Bool.and_eq_true, Bool.not_eq_true'] at hopen
  obtain ⟨hon, herr⟩ := hopen
  simp only [channelSend, htx]
  exact if_pos ⟨hon, herr, hcredit, hout⟩

theorem channelRead_of_not_due (h : (s.side d f).rDue = false) : s.channelRead d f = s := by
  simp [channelRead, h]

theorem channelRead_of_empty (hdue : (s.side d f).rDue = true) (hrx : (s.side d f).rx = []) :
    s.channelRead d f = s.setSide d f { s.side d f with rDue := false } := by
  simp [channelRead, hdue, hrx]

theorem channelRead_of_entry {x : DWord} {rest : List DWord} (hdue : (s.side d f).rDue = true) (hrx : (s.side d f).rx = x :: rest) :
    s.channelRead d f = s.setSide d f { s.side d f with
      rDue := false, rx := rest, rdata := x
      owed := if s.channelOn d f && !(s.channelError d f) then (s.side d f).owed + 1 else (s.side d f).owed } := by
  simp [channelRead, hdue, hrx]

/-! ## A side goes to ERROR, and back -/

/-- What `SFIFO_STATUS` and `INT_STATUS` of a side in ERROR show. -/
structure InError (s : State) (d f : Nat) : Prop where
  error : s.get (Pg.xport d) Xport.SFIFO_STATUS_ERROR f = 1
  ready : s.get (Pg.xport d) Xport.SFIFO_STATUS_READY f = 0
  raised : Raised s (Pg.xport d) Xport.INT_SFIFO_ERR

theorem channelError_of_get (h : s.get (Pg.xport d) Xport.SFIFO_STATUS_ERROR f = 1) : s.channelError d f = true := by
  simp [channelError, flag, h]

theorem sideError_inError (s : State) (d f : Nat) : InError (s.sideError d f) d f where
  error := by
    simp only [sideError, setInt, setBits]
    rw [get_set_of_bit _ _ (by decide) (by decide) (by decide), get_set_of_bit _ _ (by decide) (by decide) (by decide), get_set_same]
    rfl
  ready := by
    simp only [sideError, setInt, setBits]
    rw [get_set_of_bit _ _ (by decide) (by decide) (by decide), get_set_same]
    rfl
  raised := setInt_sets _ _ _ (by decide) (by decide)

/-- A side in ERROR shows it still when another, or itself once more, goes to ERROR. -/
theorem InError.sideError (h : InError s d f) (e g : Nat) : InError (s.sideError e g) d f where
  error := by
    simp only [State.sideError, setInt, setBits]
    rw [get_set_of_bit _ _ (by decide) (by decide) (by decide), get_set_of_bit _ _ (by decide) (by decide) (by decide)]
    exact get_set_of_holds s rfl (by decide) h.error
  ready := by
    simp only [State.sideError, setInt, setBits]
    rw [get_set_of_bit _ _ (by decide) (by decide) (by decide)]
    refine get_set_of_holds _ rfl (by decide) ?_
    rw [get_set_of_bit _ _ (by decide) (by decide) (by decide), h.ready]
  raised := Raised.setInt (Raised.set (Raised.set h.raised (fieldKey_ne_of_bit (by decide) (by decide) (by decide)))
    (fieldKey_ne_of_bit (by decide) (by decide) (by decide))) _ _ (by decide)

theorem not_inRecords_xport (d : Nat) : ¬InRecords (fieldKey (Pg.xport d) Hdr.INT_STATUS_BLOCK 0) := by
  rw [InRecords, fieldKey_page (by decide) (by decide)]
  unfold Pg.xport Pg.dieBase Pg.recorder Pg.ply
  split_ifs <;> omega

theorem InError.event (h : InError s d f) (c v p w : Nat) : InError (s.event c v p w) d f where
  error := (s.get_event_of_bit c v p w (by decide) (by decide)).trans h.error
  ready := (s.get_event_of_bit c v p w (by decide) (by decide)).trans h.ready
  raised := Raised.of_changesIn h.raised (s.event_records c v p w) (not_inRecords_xport d)

/-- A failed frame of an open channel brings both sides to ERROR (R152). -/
theorem channelFails_inError (h : (s.channelOn d f && !(s.channelError d f)) = true) :
    InError (s.channelFails d f) d f ∧ InError (s.channelFails d f) (s.peerDie d f) (s.peerPort d f) := by
  have hopen : s.channelOn d f = true ∧ s.channelError d f = false := by simpa using h
  rw [channelFails, if_pos hopen]
  exact ⟨((s.sideError_inError d f).sideError _ _).event _ _ _ _, (sideError_inError _ _ _).event _ _ _ _⟩

theorem channelFails_of_not (h : (s.channelOn d f && !(s.channelError d f)) = false) : s.channelFails d f = s :=
  if_neg fun ⟨hon, herr⟩ => by simp [hon, herr] at h

/-- What `SFIFO_STATUS` of a side that has restarted shows. -/
structure Restarted (s : State) (d f : Nat) : Prop where
  error : s.get (Pg.xport d) Xport.SFIFO_STATUS_ERROR f = 0
  credits : s.get (Pg.xport d) Xport.SFIFO_STATUS_CREDITS f = 32

theorem channelError_of_restarted (h : Restarted s d f) : s.channelError d f = false := by
  simp [channelError, flag, h.error]

theorem sideRestart_restarted (s : State) (d f : Nat) : Restarted (s.sideRestart d f) d f where
  error := by
    rw [sideRestart, get_set_of_bit _ _ (by decide) (by decide) (by decide), get_set_of_bit _ _ (by decide) (by decide) (by decide),
      get_set_same]
    rfl
  credits := by
    rw [sideRestart, get_set_of_bit _ _ (by decide) (by decide) (by decide), get_set_same]
    rfl

theorem Restarted.sideRestart (h : Restarted s d f) (e g : Nat) : Restarted (s.sideRestart e g) d f where
  error := by
    rw [State.sideRestart, get_set_of_bit _ _ (by decide) (by decide) (by decide), get_set_of_bit _ _ (by decide) (by decide) (by decide)]
    exact get_set_of_holds s rfl (by decide) h.error
  credits := by
    rw [State.sideRestart, get_set_of_bit _ _ (by decide) (by decide) (by decide)]
    refine get_set_of_holds _ rfl (by decide) ?_
    rw [get_set_of_bit _ _ (by decide) (by decide) (by decide), h.credits]

/-- With both sides READY a channel in ERROR restarts on both (R164). -/
theorem channelRestarts_restarted (hon : s.channelOn d f = true) (herr : s.channelError d f = true) (hready : s.sideReady d f = true)
    (hpeer : s.sideReady (s.peerDie d f) (s.peerPort d f) = true) :
    Restarted (s.channelRestarts d f) d f ∧ Restarted (s.channelRestarts d f) (s.peerDie d f) (s.peerPort d f) := by
  have ht : s.channelRestarts d f = (s.sideRestart d f).sideRestart (s.peerDie d f) (s.peerPort d f) := if_pos ⟨hon, herr, hready, hpeer⟩
  rw [ht]
  exact ⟨(s.sideRestart_restarted d f).sideRestart _ _, sideRestart_restarted _ _ _⟩

/-! ## RESYNC -/

theorem isChannelPort_range (h : isChannelPort d f = true) : 1 ≤ d ∧ d ≤ 4 ∧ f < 16 := by
  simpa [isChannelPort, and_assoc] using h

theorem fieldsAt_sfifoCtl (hd : isChannelPort d f = true) : fieldsAt (Pg.xport d) (0x200 + 4 * f) =
    [(Xport.SFIFO_CTL_PEER_DIE, f), (Xport.SFIFO_CTL_PEER_PORT, f), (Xport.SFIFO_CTL_RESYNC, f), (Xport.SFIFO_CTL_EN, f)] := by
  obtain ⟨h1, h4, hf⟩ := isChannelPort_range hd
  obtain ⟨hkind, hdie⟩ := pageKind_xport d (by omega) h1
  have hlow : ¬5 ≤ d := by omega
  rw [fieldsAt_of_kind _ hkind]
  simp only [hasElement, hdie, hlow, if_false]
  clear hd
  revert f
  decide

/-- The fields of `SFIFO_CTL` store nothing: three are the map's, and `RESYNC` only acts. -/
theorem storeField_sfifoCtl (hd : isChannelPort d f = true) (s : State) (o : Origin) (off w : Nat) :
    forEach (fieldsAt (Pg.xport d) (0x200 + 4 * f)) (storeField (Pg.xport d) o off w) s = s := by
  have hresync (u : State) : storeField (Pg.xport d) o off w (Xport.SFIFO_CTL_RESYNC, f) u = u := by
    have hty : Xport.SFIFO_CTL_RESYNC.ty = .wo := rfl
    have hforce (v : Nat) : forceField u (Pg.xport d) Xport.SFIFO_CTL_RESYNC v = u := by
      rw [forceField, if_neg (by decide), if_neg (by decide), if_neg (by decide)]
    have hplain (v : Nat) : reservedIn (Pg.xport d) Xport.SFIFO_CTL_RESYNC v = false := by
      have hsplit : ¬Xport.SFIFO_CTL_RESYNC = Port.CTL_SPLIT := by decide
      simp [reservedIn, RegField.reserved, show Xport.SFIFO_CTL_RESYNC.bad = [] from rfl, hsplit]
    simp [storeField, hty, hplain, hforce]
  rw [fieldsAt_sfifoCtl hd]
  simp only [forEach, List.foldl_cons, List.foldl_nil]
  rw [storeField_ro _ _ _ _ _ rfl, hresync, storeField_ro _ _ _ _ _ rfl, storeField_ro _ _ _ _ _ rfl]

/-- An accepted write of `SFIFO_CTL` with `RESYNC` (R164). -/
theorem writeReg_resync (hd : isChannelPort d f = true) {o : Origin} {w : Word} (hw : bit w.toNat 1 = true)
    (h : Accepts s o (Pg.xport d) (0x200 + 4 * f) w = true) : s.writeReg o (Pg.xport d) (0x200 + 4 * f) w = s.channelResync d f := by
  obtain ⟨h1, h4, hf⟩ := isChannelPort_range hd
  obtain ⟨hkind, hdie⟩ := pageKind_xport d (by omega) h1
  have hbefore : s.beforeWrite (Pg.xport d) (0x200 + 4 * f) = s := by simp [beforeWrite, hkind]
  have hstored : s.storedFields (Pg.xport d) (0x200 + 4 * f) = fieldsAt (Pg.xport d) (0x200 + 4 * f) := by simp [storedFields, hkind]
  have hplace : (0x200 + 4 * f - 0x200) / 4 = f := by omega
  rw [writeReg_accepted h (by omega) (by omega), hbefore, hstored, storeField_sfifoCtl hd]
  simp only [pageWritten, hkind, hdie, hplace]
  exact if_pos ⟨by omega, by omega, hw⟩

/-- A side in ERROR is emptied, and shows READY. -/
theorem channelResync_of_error (h : s.channelError d f = true) : s.channelResync d f =
    (s.setSide d f { s.side d f with tx := [], rx := [], out := none, owed := 0 }).set (Pg.xport d) Xport.SFIFO_STATUS_READY 1 f := if_pos h

theorem bit_resync (x : Nat) : bit (BitVec.ofNat 32 (x ||| 2)).toNat 1 = true := by
  simp [bit, Nat.testBit_or, show Nat.testBit 2 1 = true from rfl]

end State
end Sys2Proof.Machine
end
section
namespace Sys2Proof

open Machine Machine.Reg

/-- Settles O24: a command acts on one side by its `SFIFO_STATUS` alone; an error or a restart writes the same word on both sides, and so it holds
even for a side that is its own peer. -/
theorem spanChannelsCarryEntriesAgainstCredits : Obligations.SpanChannelsCarryEntriesAgainstCredits := by
  unfold Obligations.SpanChannelsCarryEntriesAgainstCredits
  intro s o d f hd
  dsimp only
  refine ⟨fun hdue => completes_of_onPart rfl hd ?_, fun x hdue => completes_of_onPart rfl hd ?_,
    fun x rest htx hout hopen hcredit hlt => completes_of_onPart rfl hd ?_, fun hidle => completes_of_onPart rfl hd ?_,
    fun hdue x rest hrx => completes_of_onPart rfl hd ?_, fun hdue hrx => completes_of_onPart rfl hd ?_,
    fun hdue => completes_of_onPart rfl hd ?_, completes_of_onPart rfl hd ⟨fun hopen => ?_, fun hopen => ?_⟩,
    fun haccept => completes_of_onPart rfl hd fun herr => ?_, completes_of_onPart rfl hd fun hon herr hready hpeer => ?_⟩
  · rw [State.channelWrite_of_none hdue]
  · obtain ⟨hside, hregs⟩ := State.sided (State.channelWrite_of_some hdue)
    exact ⟨hregs, congrArg SpanSide.wDue hside, congrArg SpanSide.tx hside, (congrArg SpanSide.rx hside :)⟩
  · obtain ⟨hside, hcredits⟩ := State.sidedSet (State.channelSend_of_credit htx hout hopen hcredit)
    exact ⟨congrArg SpanSide.tx hside, congrArg SpanSide.out hside, hcredits.trans (Nat.mod_eq_of_lt (lt_of_le_of_lt (Nat.sub_le _ _) hlt))⟩
  · rw [State.channelSend_of_idle hidle]
  · obtain ⟨hside, hregs⟩ := State.sided (State.channelRead_of_entry hdue hrx)
    exact ⟨congrArg SpanSide.rx hside, congrArg SpanSide.rdata hside, congrArg SpanSide.rDue hside, congrArg SpanSide.owed hside, hregs⟩
  · have hside := State.sided (State.channelRead_of_empty hdue hrx)
    exact hside
  · rw [State.channelRead_of_not_due hdue]
  · obtain ⟨hhere, hthere⟩ := State.channelFails_inError hopen
    exact ⟨State.channelError_of_get hhere.error, State.channelError_of_get hthere.error, hhere.ready, hthere.ready, hhere.raised, hthere.raised⟩
  · rw [State.channelFails_of_not hopen]
  · obtain ⟨hside, hready⟩ := State.sidedSet ((State.writeReg_resync hd (State.bit_resync _) haccept).trans (State.channelResync_of_error herr))
    exact ⟨congrArg SpanSide.tx hside, congrArg SpanSide.rx hside, congrArg SpanSide.out hside, congrArg SpanSide.owed hside, hready⟩
  · obtain ⟨hhere, hthere⟩ := State.channelRestarts_restarted hon herr hready hpeer
    have herrHere := State.channelError_of_restarted hhere
    have herrThere := State.channelError_of_restarted hthere
    exact ⟨herrHere, herrThere, hhere.credits, hthere.credits⟩

end Sys2Proof
end

section
/-! SUPPORT. A die that returns to the unconfigured state (R437, R442, R447): which registers that changes, and that
the boot controller's own state stays. -/

namespace Sys2Proof.Machine

open Reg

/-! ## Changes that leave the controller alone -/

/-- From `s` to `t` the boot controller's state stays, and no register outside a set of bit addresses changes. -/
structure Leaves (a : Nat → Prop) (s t : State) : Prop where
  regs : ChangesIn a s t
  boot : t.boot = s.boot

namespace Leaves

variable {a b : Nat → Prop} {s t u : State}

theorem refl (a : Nat → Prop) (s : State) : Leaves a s s := ⟨ChangesIn.refl a s, rfl⟩

theorem trans (h : Leaves a s t) (h' : Leaves a t u) : Leaves a s u := ⟨h.regs.trans h'.regs, h'.boot.trans h.boot⟩

theorem mono (h : Leaves a s t) (hab : ∀ k, a k → b k) : Leaves b s t := ⟨h.regs.mono hab, h.boot⟩

theorem of_regs (a : Nat → Prop) (hregs : t.regs = s.regs) (hboot : t.boot = s.boot) : Leaves a s t := ⟨ChangesIn.of_regs a hregs, hboot⟩

theorem set {p i : Nat} {f : RegField} (s : State) (v : Nat) (h : a (fieldKey p f i)) : Leaves a s (s.set p f v i) := ⟨ChangesIn.set s v h, rfl⟩

theorem ite {c : Prop} [Decidable c] (h : c → Leaves a s t) (h' : ¬c → Leaves a s u) : Leaves a s (if c then t else u) := by
  split
  case isTrue hc => exact h hc
  case isFalse hc => exact h' hc

theorem forEach {α : Type} {xs : List α} {f : α → State → State} (h : ∀ x ∈ xs, ∀ u, Leaves a u (f x u)) (s : State) :
    Leaves a s (forEach xs f s) := by
  induction xs generalizing s with
  | nil => exact refl a s
  | cons x xs ih => exact (h x (by simp) s).trans (ih (fun y hy => h y (by simp [hy])) _)

/-- A raised interrupt whose word is none of those that change. -/
theorem raised {p b : Nat} (h : Leaves a s t) (ha : ¬a (fieldKey p Hdr.INT_STATUS_BLOCK 0)) (hr : Raised s p b) : Raised t p b :=
  Raised.of_changesIn hr h.regs ha

end Leaves

/-! ## Blocks of a memory page that are held -/

/-- The registers of a page. -/
def OnPage (page k : Nat) : Prop := k / 32768 = page

theorem onPage_of {p i : Nat} {f : RegField} (hf : f.inPage = true) (hi : i < f.count) : OnPage p (fieldKey p f i) := fieldKey_page hf hi

/-- A block of a bank is one that the page's records of errors list. -/
theorem blockOf_lt (page : Nat) {q : Nat} (hq : q < 50) : blockOf page q < (if isEngPage page then 2 else 15) := by
  unfold blockOf
  split_ifs <;> omega

/-- A record of a block, in either layout. -/
theorem onPage_block {page q : Nat} (hq : q < 50) {f g : RegField} (hf : f.inPage = true) (hg : g.inPage = true) (hfc : f.count = 2)
    (hgc : g.count = 15) : OnPage page (fieldKey page (if isEngPage page then f else g) (blockOf page q)) := by
  have hb := blockOf_lt page hq
  split at hb
  case isTrue he => exact onPage_of (by rwa [if_pos he]) (by rwa [if_pos he, hfc])
  case isFalse he => exact onPage_of (by rwa [if_neg he]) (by rwa [if_neg he, hgc])

section
variable {page : Nat}

theorem miInt_leaves (s : State) (b : Nat) : Leaves (OnPage page) s (s.miInt page b) :=
  .ite (fun _ => .refl _ s) fun _ => .set s _ (onPage_of (by decide) (by decide))

theorem putCoded_leaves (s : State) (q w data : Nat) (test yields : Bool) : Leaves (OnPage page) s (s.putCoded page q w data test yields) := by
  refine .ite (fun _ => .trans (t := s.putRaw page q false w _) (.of_regs _ rfl rfl) (.set _ 0 ?_)) fun _ => .of_regs _ rfl rfl
  unfold miFlipArm
  split_ifs
  · exact onPage_of (by decide) (by decide)
  · exact onPage_of (by decide) (by decide)

theorem portStore_leaves (s : State) (q w : Nat) (data : DWord) (yields : Bool) : Leaves (OnPage page) s (s.portStore page q w data yields) := by
  have hsupersede (u : State) : Leaves (OnPage page) u (u.supersede page q w) := .ite (fun _ => .of_regs _ rfl rfl) fun _ => .refl _ u
  exact ((putCoded_leaves s _ _ _ _ _).trans (hsupersede _)).trans (.of_regs _ rfl rfl)

variable {q : Nat} (hq : q < 50)
include hq

theorem lastErr_leaves (s : State) (kind syn : Nat) (par : Bool) (w : Nat) : Leaves (OnPage page) s (s.lastErr page q kind syn par w) := by
  have hset (u : State) (v : Nat) {f g : RegField} (hf : f.inPage = true ∧ f.count = 2) (hg : g.inPage = true ∧ g.count = 15) :
      Leaves (OnPage page) u (u.set page (if isEngPage page then f else g) v (blockOf page q)) :=
    .set u v (onPage_block hq hf.1 hg.1 hf.2 hg.2)
  refine .ite (fun _ => .refl _ s) fun _ => ?_
  exact (((((hset s _ (by decide) (by decide)).trans (hset _ _ (by decide) (by decide))).trans (hset _ _ (by decide) (by decide))).trans
    (hset _ _ (by decide) (by decide))).trans (hset _ _ (by decide) (by decide))).trans (hset _ _ (by decide) (by decide))

theorem found_leaves (s : State) (par : Bool) (w : Nat) (r : WordRead) : Leaves (OnPage page) s (s.found page q par w r) := by
  have hdrop (u : State) : Leaves (OnPage page) u (u.miCount page (miDrop page) (blockOf page q)) :=
    .ite (fun _ => .refl _ u) fun _ => .set u _ (onPage_block hq (by decide) (by decide) rfl rfl)
  unfold State.found
  split
  · exact .refl _ s
  · exact .refl _ s
  · refine ((miInt_leaves s _).trans (lastErr_leaves hq _ _ _ _ _)).trans (.ite (fun _ => .refl _ _) fun _ => ?_)
    exact .ite (fun _ => hdrop _) fun _ => .of_regs _ rfl rfl

end

section
variable (d sec : Nat)

theorem qAt_bank_lt (s : State) {b : Nat} (hb : b < 15) (a : Nat) : (s.qAt d sec b a).1 < 50 := by
  unfold State.qAt State.bkbAt locate
  split_ifs <;> dsimp only <;> omega

theorem queueDrain_leaves (s : State) {b : Nat} (hb : b < 15) : Leaves (OnPage (Pg.mi d sec)) s (s.queueDrain d sec b) := by
  refine (Leaves.forEach (fun x _ u => ?_) s).trans (.of_regs _ rfl rfl)
  have hread (w : Nat) (r : WordRead) := found_leaves (page := Pg.mi d sec) (qAt_bank_lt d sec u hb x.1) u false w r
  refine .ite (fun _ => portStore_leaves u _ _ _ _) fun _ => .ite (fun _ => hread _ _) fun _ => ?_
  exact (hread _ _).trans (portStore_leaves _ _ _ _ _)

theorem testsEnd_leaves (s : State) : Leaves (OnPage (Pg.mi d sec)) s (s.testsEnd (· = Pg.mi d sec)) := by
  refine Leaves.forEach (fun p _ u => .ite (fun hp => ?_) fun _ => .refl _ u) s
  rw [decide_eq_true_eq] at hp
  subst hp
  have hset (v : State) (x : Nat) {f g : RegField} (hf : f.inPage = true ∧ 0 < f.count) (hg : g.inPage = true ∧ 0 < g.count) :
      Leaves (OnPage (Pg.mi d sec)) v (v.set (Pg.mi d sec) (if isEngPage (Pg.mi d sec) then f else g) x) := by
    refine .set v x ?_
    split_ifs
    · exact onPage_of hf.1 hf.2
    · exact onPage_of hg.1 hg.2
  exact ((hset u _ (by decide) (by decide)).trans (hset _ _ (by decide) (by decide))).trans (.of_regs _ rfl rfl)

theorem holdBlocks_leaves (s : State) : Leaves (OnPage (Pg.mi d sec)) s (s.holdBlocks d sec) := by
  unfold State.holdBlocks
  dsimp only
  refine (Leaves.trans ?ends (Leaves.forEach ?ports _)).trans ((Leaves.forEach ?banked _).trans ((Leaves.forEach ?queues _).trans
    (Leaves.forEach ?walks _)))
  case ends => exact testsEnd_leaves d sec s
  case ports => exact fun _ _ _ => .of_regs _ rfl rfl
  case banked => exact fun _ _ _ => .of_regs _ rfl rfl
  case queues => exact fun b hb u => (queueDrain_leaves d sec u (List.mem_range.1 hb)).trans (.of_regs _ rfl rfl)
  case walks => exact fun _ _ _ => .of_regs _ rfl rfl

theorem holdSlices_leaves (a : Nat → Prop) (s : State) : Leaves a s (s.holdSlices d sec) := by
  unfold State.holdSlices
  exact Leaves.forEach (fun j _ u => .of_regs _ (u.setDspSlice_regs d sec j _) (u.setDspSlice_boot d sec j _)) s

theorem holdSlice_leaves (a : Nat → Prop) (s : State) : Leaves a s (s.holdSlice d sec) := by
  unfold State.holdSlice
  exact .ite (fun _ => .of_regs _ (s.setSlice_regs d sec _) (s.setSlice_boot d sec _)) fun _ => .refl _ s

end

/-! ## Sectors and engines -/

/-- The registers that a sector's return to the unreleased state changes. -/
def OnSector (d sec k : Nat) : Prop := OnPage (Pg.mi d sec) k ∨ k = fieldKey (Pg.sctl d sec) Sctl.STATUS_CONFIGURED 0

theorem sectorUnreleased_leaves (s : State) (d sec : Nat) : Leaves (OnSector d sec) s (s.sectorUnreleased d sec) := by
  refine Leaves.trans (Leaves.mono (a := OnPage (Pg.mi d sec)) ?_ fun _ => .inl) (.set _ 0 (.inr rfl))
  refine Leaves.trans (t := (s.unreleaseSector d sec).assertGsr d sec) (.of_regs _ rfl rfl) ?_
  exact ((holdBlocks_leaves d sec _).trans (holdSlices_leaves d sec _ _)).trans (holdSlice_leaves d sec _ _)

/-- The registers of an engine's pages. -/
def OnEngine (e k : Nat) : Prop := ∃ j < 4, OnPage (Pg.eng e j) k

theorem engClear_leaves (s : State) (e : Nat) : Leaves (OnEngine e) s (s.engClear e) := by
  have hfields : ∀ pf ∈ State.engResetFields, pf.1 < 4 ∧ pf.2.inPage = true := by decide
  have hfence (u : State) : Leaves (OnEngine e) u (u.fenceI e) := by
    unfold State.fenceI State.both
    split
    · exact .of_regs _ rfl rfl
    · exact .of_regs _ rfl rfl
  have hset (u : State) (x : Engine) : Leaves (OnEngine e) u (u.setEngine e x) := .of_regs _ rfl rfl
  unfold State.engClear
  refine (Leaves.trans (Leaves.forEach (fun pf hpf u => ?_) s) (hset _ _)).trans (hfence _)
  obtain ⟨hpage, hin⟩ := hfields pf hpf
  exact Leaves.forEach (fun i hi v => .set v _ ⟨pf.1, hpage, onPage_of hin (List.mem_range.1 hi)⟩) u

theorem setEngState_leaves (s : State) (e v : Nat) : Leaves (OnEngine e) s (s.setEngState e v) :=
  .set s v ⟨0, by decide, onPage_of (by decide) (by decide)⟩

/-- The registers that a die's return to the unconfigured state changes. -/
def OnUnconfigured (d k : Nat) : Prop := (∃ sec < 96, OnSector d sec k) ∨ ∃ e, OnEngine e k

theorem dieUnconfigured_leaves (s : State) (d : Nat) : Leaves (OnUnconfigured d) s (s.dieUnconfigured d) := by
  refine (Leaves.forEach (fun sec hsec u => ?_) s).trans (Leaves.forEach (fun i _ u => ?_) _)
  · exact (sectorUnreleased_leaves u d sec).mono fun k hk => .inl ⟨sec, List.mem_range.1 hsec, hk⟩
  · exact ((setEngState_leaves u _ 0).trans (engClear_leaves _ _)).mono fun k hk => .inr ⟨_, hk⟩

/-! ## Places of those registers -/

theorem dieBase_mod (d : Nat) : Pg.dieBase d % 0x400 = 0 := by
  unfold Pg.dieBase
  split_ifs <;> omega

/-- They are registers of the die. -/
theorem OnUnconfigured.page_ge {d k : Nat} (hd : 1 ≤ d) (h : OnUnconfigured d k) : 0x1000 ≤ k / 32768 := by
  have hbase := le_dieBase hd
  obtain ⟨sec, -, hpage | rfl⟩ | ⟨e, j, -, hpage⟩ := h
  · rw [hpage]
    exact le_mi sec hd
  · refine le_trans ?_ (le_fieldKey_page _ _ _)
    unfold Pg.sctl
    omega
  · rw [hpage]
    exact le_eng e j

/-- No interrupt of a sector's control page is among them, whatever the die. -/
theorem not_onUnconfigured_sctl (d e : Nat) {sec : Nat} (hsec : sec < 96) : ¬OnUnconfigured d (fieldKey (Pg.sctl e sec) Hdr.INT_STATUS_BLOCK 0) := by
  have hbase := dieBase_mod e
  have hint : fieldKey (Pg.sctl e sec) Hdr.INT_STATUS_BLOCK 0 / 32768 = Pg.sctl e sec := fieldKey_page (by decide) (by decide)
  rintro (⟨r, hr, hpage | hkey⟩ | ⟨g, j, hj, hpage⟩)
  · have hdie := dieBase_mod d
    rw [OnPage, hint] at hpage
    unfold Pg.sctl Pg.mi at hpage
    omega
  · exact fieldKey_ne_of_bit (by decide) (by decide) (by decide) hkey
  · have hdie := dieBase_mod (g / 16 + 1)
    rw [OnPage, hint] at hpage
    unfold Pg.sctl Pg.eng at hpage
    omega

end Sys2Proof.Machine
end

section
/-! SUPPORT. How a load fails (R437, R448), and the section at the head of the table (R424, R441): a body that is no section's, the end of a body, and
the verdict on it. -/

namespace Sys2Proof.Machine

open Reg

/-! ## A load that fails -/

/-- A start-up attempt has failed for a reason. -/
def LoadFailed (t : State) (reason : Nat) : Prop :=
  t.bootPhase = 7 ∧ t.boot.running = false ∧ t.boot.sections = [] ∧ t.get Pg.hubGlobal HubGlobal.HUB_BOOT_FAIL_REASON = reason ∧
    Raised t Pg.config Cfg.INT_LOAD_FAIL

/-- The registers that a failure changes. -/
def OnFailure (k : Nat) : Prop := OnPage Pg.hubGlobal k ∨ OnPage Pg.config k ∨ InRecords k ∨ ∃ d, OnUnconfigured d k

namespace State

variable (s : State)

/-- What a failed attempt shows (R437). -/
def failShown (reason die at_ : Nat) : State :=
  (((((((s.set Pg.hubGlobal HubGlobal.HUB_BOOT_FAIL_REASON reason).set Pg.hubGlobal HubGlobal.HUB_BOOT_FAIL_DIE die).set Pg.hubGlobal
    HubGlobal.HUB_BOOT_FAIL_SOURCE s.bootSource).set Pg.hubGlobal HubGlobal.HUB_BOOT_FAIL_ATTEMPT s.boot.attempt).set Pg.hubGlobal
    HubGlobal.HUB_BOOT_WHERE_WHERE at_).set Pg.hubGlobal HubGlobal.HUB_BOOT_STATUS_LAST_REASON reason).setBootPhase 7).setInt Pg.config
    Cfg.INT_LOAD_FAIL

/-- The dies that the attempt has written return to the unconfigured state. -/
def diesUnconfigured (touched : Nat) : State := forEach [1, 2, 3, 4] (fun d u => if bit touched d then u.dieUnconfigured d else u) s

/-- A source that is no image in flash is no longer shown. -/
def sourceForgotten (source : Nat) : State := if source = 1 ∨ source = 4 then s.setBootSource 0 else s

theorem bootFail_of_running {s : State} (hreload : s.boot.reload = none) (hrunning : s.boot.running = true) (reason die at_ : Nat) :
    s.bootFail reason die at_ =
      let t := (((s.failShown reason die at_).plyReports.diesUnconfigured s.boot.touched).sourceForgotten s.bootSource).clearLoad.event 0x7001 1
        Pg.config at_
      { t with boot := { t.boot with running := false } } := by
  unfold bootFail
  simp only [hreload, hrunning]
  rfl

/-- A failed reload leaves its die unconfigured, and shows so (R448). -/
theorem bootFail_of_reload {s : State} {r : Reload} (hreload : s.boot.reload = some r) (reason die at_ : Nat) :
    s.bootFail reason die at_ =
      (((State.set { s.clearLoad.dieUnconfigured r.die with boot := { s.clearLoad.boot with reload := none } } Pg.config
        Cfg.CFG_RELOAD_STAT_FAILED 1).set Pg.config Cfg.CFG_RELOAD_STAT_REASON reason).set Pg.config Cfg.CFG_RELOAD_STAT_DONE 1).setInt Pg.config
        Cfg.INT_RELOAD_DONE := by
  unfold bootFail
  simp only [hreload]

theorem plyReports_leaves : Leaves InRecords s s.plyReports :=
  .ite (fun _ => ⟨s.plySend_records _ _, s.plySend_boot _ _⟩) fun _ => .refl _ s

/-- What follows the showing of a failure changes neither the reason nor the phase. -/
def OnAftermath (k : Nat) : Prop :=
  InRecords k ∨ (∃ d, 1 ≤ d ∧ OnUnconfigured d k) ∨ k = fieldKey Pg.hubGlobal HubGlobal.HUB_BOOT_STATUS_SOURCE 0

theorem aftermath_leaves (touched source : Nat) :
    Leaves OnAftermath s ((s.plyReports.diesUnconfigured touched).sourceForgotten source) := by
  have hdies (u : State) : Leaves OnAftermath u (u.diesUnconfigured touched) := by
    refine Leaves.forEach (fun d hd v =>
      .ite (fun _ => (dieUnconfigured_leaves v d).mono fun k hk => .inr (.inl ⟨d, ?_, hk⟩)) fun _ => .refl _ v) u
    fin_cases hd <;> decide
  have hsource (u : State) : Leaves OnAftermath u (u.sourceForgotten source) := .ite (fun _ => .set u 0 (.inr (.inr rfl))) fun _ => .refl _ u
  exact ((s.plyReports_leaves.mono fun _ => .inl).trans (hdies _)).trans (hsource _)

theorem bootFail_aftermath {s : State} (hreload : s.boot.reload = none) (hrunning : s.boot.running = true) (reason die at_ : Nat) :
    ChangesIn OnAftermath (s.failShown reason die at_) (s.bootFail reason die at_) := by
  rw [bootFail_of_running hreload hrunning]
  refine (aftermath_leaves _ s.boot.touched s.bootSource).regs.trans ?_
  exact (ChangesIn.of_regs _ (clearLoad_regs _)).trans (((State.event_records _ _ _ _ _).mono fun _ => .inl).trans (ChangesIn.of_regs _ rfl))

/-- No field of the hub's global page but the source, nor any of the configuration page. -/
theorem not_onAftermath {p : Nat} {f : RegField} (hp : p = Pg.hubGlobal ∨ p = Pg.config) (hf : f.inPage = true) (hi : 0 < f.count)
    (hlo : f.lo ≠ HubGlobal.HUB_BOOT_STATUS_SOURCE.lo) : ¬OnAftermath (fieldKey p f 0) := by
  have hpage : fieldKey p f 0 / 32768 = p := fieldKey_page hf hi
  have hwords : f.inWords = true := by
    simp only [RegField.inPage, Bool.and_eq_true] at hf
    exact hf.1
  rintro (h | ⟨d, hd, h⟩ | h)
  · rw [InRecords, hpage] at h
    simp only [Pg.hubGlobal, Pg.config, Pg.recorder, Pg.ply] at hp h
    omega
  · have hge := h.page_ge hd
    rw [hpage] at hge
    simp only [Pg.hubGlobal, Pg.config] at hp
    omega
  · exact fieldKey_ne_of_bit hwords (by decide) hlo h

theorem failShown_phase (reason die at_ : Nat) : (s.failShown reason die at_).bootPhase = 7 := by
  simp only [failShown, bootPhase, setInt, setBits, setBootPhase]
  rw [get_set_other _ _ (by decide), get_set_same]
  rfl

theorem failShown_reason {reason : Nat} (hreason : reason < 256) (die at_ : Nat) :
    (s.failShown reason die at_).get Pg.hubGlobal HubGlobal.HUB_BOOT_FAIL_REASON = reason := by
  simp only [failShown, setInt, setBits, setBootPhase]
  iterate 7 rw [get_set_other _ _ (by decide)]
  rw [get_set_same]
  exact Nat.mod_eq_of_lt hreason

theorem failShown_die (reason at_ : Nat) {die : Nat} (hdie : die < 8) :
    (s.failShown reason die at_).get Pg.hubGlobal HubGlobal.HUB_BOOT_FAIL_DIE = die := by
  simp only [failShown, setInt, setBits, setBootPhase]
  iterate 6 rw [get_set_other _ _ (by decide)]
  rw [get_set_same]
  exact Nat.mod_eq_of_lt hdie

/-- The running attempt fails (R437). -/
theorem bootFail_failed {s : State} (hreload : s.boot.reload = none) (hrunning : s.boot.running = true) {reason : Nat} (hreason : reason < 256)
    (die at_ : Nat) : LoadFailed (s.bootFail reason die at_) reason := by
  have hafter := bootFail_aftermath hreload hrunning reason die at_
  refine ⟨?_, ?_, ?_, ?_, ?_⟩
  · exact (hafter _ _ _ (not_onAftermath (.inl rfl) (by decide) (by decide) (by decide))).trans (s.failShown_phase _ _ _)
  · rw [bootFail_of_running hreload hrunning]
  · rw [bootFail_of_running hreload hrunning]
    exact congrArg BootState.sections (State.event_boot _ _ _ _ _)
  · exact (hafter _ _ _ (not_onAftermath (.inl rfl) (by decide) (by decide) (by decide))).trans (s.failShown_reason hreason _ _)
  · exact Raised.of_changesIn (setInt_sets _ _ _ (by decide) (by decide)) hafter
      (not_onAftermath (.inr rfl) (by decide) (by decide) (by decide))

theorem bootFail_die {s : State} (hreload : s.boot.reload = none) (hrunning : s.boot.running = true) (reason at_ : Nat) {die : Nat} (hdie : die < 8) :
    (s.bootFail reason die at_).get Pg.hubGlobal HubGlobal.HUB_BOOT_FAIL_DIE = die :=
  (bootFail_aftermath hreload hrunning reason die at_ _ _ _ (not_onAftermath (.inl rfl) (by decide) (by decide) (by decide))).trans
    (s.failShown_die _ _ hdie)

/-- Whatever fails, the registers that change are the same. -/
theorem bootFail_changes (reason die at_ : Nat) : ChangesIn OnFailure s (s.bootFail reason die at_) := by
  have hpage {p : Nat} {f : RegField} (u : State) (v : Nat) (hp : p = Pg.hubGlobal ∨ p = Pg.config) (hf : f.inPage = true) (hi : 0 < f.count) :
      ChangesIn OnFailure u (u.set p f v) := ChangesIn.set u v (by
    rcases hp with rfl | rfl
    · exact .inl (onPage_of hf hi)
    · exact .inr (.inl (onPage_of hf hi)))
  cases hreload : s.boot.reload with
  | some r =>
    rw [bootFail_of_reload hreload]
    refine ChangesIn.trans ?_ ((((hpage _ _ (.inr rfl) (by decide) (by decide)).trans (hpage _ _ (.inr rfl) (by decide) (by decide))).trans
      (hpage _ _ (.inr rfl) (by decide) (by decide))).trans (hpage _ _ (.inr rfl) (by decide) (by decide)))
    exact (ChangesIn.of_regs _ s.clearLoad_regs).trans
      (((dieUnconfigured_leaves _ r.die).regs.mono fun k hk => .inr (.inr (.inr ⟨r.die, hk⟩))).trans (ChangesIn.of_regs _ rfl))
  | none =>
    cases hrunning : s.boot.running with
    | false =>
      unfold bootFail
      simp only [hreload, hrunning, if_true]
      exact ChangesIn.refl _ s
    | true =>
      have hshown : ChangesIn OnFailure s (s.failShown reason die at_) := by
        have hset {f : RegField} (u : State) (v : Nat) (hf : f.inPage = true) (hi : 0 < f.count) := hpage (p := Pg.hubGlobal) u v (.inl rfl) hf hi
        exact (((((((hset s _ (by decide) (by decide)).trans (hset _ _ (by decide) (by decide))).trans (hset _ _ (by decide) (by decide))).trans
          (hset _ _ (by decide) (by decide))).trans (hset _ _ (by decide) (by decide))).trans (hset _ _ (by decide) (by decide))).trans
          (hset _ _ (by decide) (by decide))).trans (hpage _ _ (.inr rfl) (by decide) (by decide))
      refine hshown.trans ((bootFail_aftermath hreload hrunning reason die at_).mono ?_)
      rintro k (hk | ⟨d, -, hk⟩ | rfl)
      · exact .inr (.inr (.inl hk))
      · exact .inr (.inr (.inr ⟨d, hk⟩))
      · exact .inl (onPage_of (by decide) (by decide))

/-- The audit's references outlast a failure (R446). -/
theorem bootFail_references (reason die at_ : Nat) : (s.bootFail reason die at_).boot.references = s.boot.references := by
  cases hreload : s.boot.reload with
  | some r =>
    rw [bootFail_of_reload hreload]
    rfl
  | none =>
    cases hrunning : s.boot.running with
    | false =>
      unfold bootFail
      simp only [hreload, hrunning, if_true]
    | true =>
      rw [bootFail_of_running hreload hrunning]
      refine (congrArg BootState.references (State.event_boot _ _ _ _ _)).trans ?_
      have hboot := (aftermath_leaves (s.failShown reason die at_) s.boot.touched s.bootSource).boot
      exact (congrArg BootState.references hboot :)

/-! ## The section at the head of the table -/

section
variable {s : State} {x : BootSection} {rest : List BootSection} {type : Nat} {f : State → State}

theorem running_of_loading (hloading : s.loading = true) (hreload : s.boot.reload = none) : s.boot.running = true := by
  simp only [loading, loadBusy, hreload, Bool.and_eq_true, Option.isSome_none, Bool.false_or] at hloading
  exact hloading.2.1

/-- With no load under way, no section left, or a section of another type at the head, a body changes nothing. -/
theorem atSection_of_none
    (h : s.loading = false ∨ s.boot.sections = [] ∨ ∃ x rest, s.boot.sections = x :: rest ∧ x.type ≠ type) : s.atSection type f = s := by
  obtain h | h | ⟨x, rest, h, htype⟩ := h
  · exact if_pos h
  · simp [atSection, h]
  · simp [atSection, h, htype]

section
variable (hloading : s.loading = true) (hsections : s.boot.sections = x :: rest) (htype : x.type = type)
include hloading hsections htype

/-- A section of a die whose port is not up (R441). -/
theorem atSection_of_down (hdie : x.die ≠ 0) (hport : s.portActive x.die = false) : s.atSection type f = s.failHere 8 0 := by
  simp [atSection, hloading, hsections, htype, hdie, hport]

theorem atSection_of_head (hport : x.die = 0 ∨ s.portActive x.die = true) : s.atSection type f = f s := by
  have hup : ¬(x.die ≠ 0 ∧ s.portActive x.die = false) := by
    rintro ⟨hdie, hdown⟩
    obtain hport | hport := hport
    · exact hdie hport
    · simp [hport] at hdown
  simp only [atSection, hloading, hsections, htype, hup, Bool.true_eq_false, ne_eq, not_true_eq_false, if_false]

end

theorem sectionDie_of_head (hsections : s.boot.sections = x :: rest) : s.sectionDie = x.die := by simp [sectionDie, hsections]

/-! ## The end of a body -/

/-- How a body fails that has these bytes still to come (R424). -/
def bodyVerdict (s : State) (x : BootSection) (rest : List BootSection) (bs : List Byte) : Option Nat :=
  if (s.boot.body ++ bs).length < x.len ∨ s.pastStream (x.offset + x.len) = true then some 1
  else if bodyTagged s.boot.ik x (s.boot.body ++ bs) = false then some 4
  else if bit s.boot.short x.die = true ∧ rest.any (fun y => y.die = x.die) = false then some 1
  else none

/-- A body has ended by its verdict: its load has failed, or its section is done. -/
def BodyEnded (t : State) (rest : List BootSection) : Option Nat → Prop
  | some r => LoadFailed t r
  | none => t.boot.sections = rest ∧ t.boot.opened = false ∧ t.boot.running = true

/-- The state `u` is still at the section of `s`, and has taken these bytes of its body. -/
structure TakesBody (s u : State) (bs : List Byte) : Prop where
  sections : u.boot.sections = s.boot.sections
  reload : u.boot.reload = s.boot.reload
  running : u.boot.running = s.boot.running
  streamLen : u.boot.streamLen = s.boot.streamLen
  ik : u.boot.ik = s.boot.ik
  short : u.boot.short = s.boot.short
  body : u.boot.body = s.boot.body ++ bs

theorem TakesBody.keepBody (s : State) (bs : List Byte) : TakesBody s (s.keepBody bs) bs := ⟨rfl, rfl, rfl, rfl, rfl, rfl, rfl⟩

theorem TakesBody.none (s : State) : TakesBody s s [] := ⟨rfl, rfl, rfl, rfl, rfl, rfl, (List.append_nil _).symm⟩

/-- What leaves the controller alone leaves the body as it was taken. -/
theorem TakesBody.of_boot {u v : State} {bs : List Byte} (h : TakesBody s u bs) (hboot : v.boot = u.boot) : TakesBody s v bs := by
  obtain ⟨hsections, hreload, hrunning, hlen, hik, hshort, hbody⟩ := h
  constructor <;> rwa [hboot]

/-- A start-up attempt is at a section. -/
structure AtSection (s : State) (x : BootSection) (rest : List BootSection) : Prop where
  reload : s.boot.reload = none
  running : s.boot.running = true
  sections : s.boot.sections = x :: rest

section
variable (hat : AtSection s x rest) {u : State} {bs : List Byte} (hbody : TakesBody s u bs)
include hat hbody

theorem TakesBody.atSection : AtSection u x rest :=
  ⟨hbody.reload.trans hat.reload, hbody.running.trans hat.running, hbody.sections.trans hat.sections⟩

omit hbody in
theorem failHere_failed {reason : Nat} (hreason : reason < 256) (k : Nat) : LoadFailed (s.failHere reason k) reason :=
  bootFail_failed hat.reload hat.running hreason _ _

/-- The end of a body, outside a reload, as a case analysis by its verdict. -/
theorem bodyEnds_eq : u.bodyEnds = match s.bodyVerdict x rest bs with
    | some r => u.failHere r 0
    | none => u.sectionDone := by
  have hu := hbody.atSection hat
  have hwarm : u.warmHolds = (true, u) := by simp [warmHolds, hu.reload]
  have hpast : u.pastStream (x.offset + x.len) = s.pastStream (x.offset + x.len) := by simp only [pastStream, hbody.streamLen]
  simp only [bodyEnds, hu.sections, bodyVerdict, hwarm, hpast, hbody.body, hbody.ik, hbody.short, ite_self, Bool.true_and]
  split_ifs <;> rfl

theorem bodyEnds_of_none (h : s.bodyVerdict x rest bs = none) : u.bodyEnds = u.sectionDone := by
  rw [bodyEnds_eq hat hbody, h]

theorem bodyEnds_ended : BodyEnded u.bodyEnds rest (s.bodyVerdict x rest bs) := by
  have hu := hbody.atSection hat
  have hreasons : ∀ r, s.bodyVerdict x rest bs = some r → r < 256 := by
    unfold bodyVerdict
    intro r
    split_ifs <;> simp <;> omega
  rw [bodyEnds_eq hat hbody]
  cases hv : s.bodyVerdict x rest bs with
  | some r => exact failHere_failed hu (hreasons r hv) 0
  | none => exact ⟨by simp [sectionDone, hu.sections], rfl, hu.running⟩

end

end

end State
end Sys2Proof.Machine
end

section
/-! SUPPORT. The frames of an image (R426, R427, R430): a record of one tile frame, what rejects it, and what a good one writes. -/

namespace Sys2Proof.Machine

open Reg

/-! ## Parts of the sparse store -/

/-- What is not kept reads as unlisted. -/
theorem SMap.read_keep_of_not {α : Type} (e : α) {p : Nat → Bool} (m : SMap α) {k : Nat} (h : p k = false) :
    SMap.read e (SMap.keep p m) k = e := by
  have hfind : SMap.find (SMap.keep p m) k = none := by
    induction m with
    | nil => rfl
    | cons x m ih =>
      obtain ⟨j, v⟩ := x
      by_cases hp : p j = true
      · have hjk : j ≠ k := by
          rintro rfl
          simp [h] at hp
        simpa [SMap.keep, SMap.find, hp, hjk] using ih
      · simpa [SMap.keep, hp] using ih
  simp [SMap.read, hfind]

/-! ## Places of frames -/

/-- Frames of tiles and of block frames are other keys. -/
theorem frameKey_ne {d sec t f sec' t' f' : Nat} (ht : t < 129) (ht' : t' < 129) (hf : f < if t < 128 then 48 else 208)
    (hf' : f' < if t' < 128 then 48 else 208) (h : ¬(sec = sec' ∧ t = t' ∧ f = f')) : frameKey d sec t f ≠ frameKey d sec' t' f' := by
  unfold frameKey sectorKey
  split_ifs at hf hf' <;> omega

namespace State

variable {s : State}

theorem frame_of_fabric {t : State} (h : t.fabric = s.fabric) (d sec u f : Nat) : t.frame d sec u f = s.frame d sec u f := by
  simp only [frame, h]

theorem trackContention_of_fabric {t : State} (h : t.fabric = s.fabric) (d sec u f x : Nat) :
    t.trackContention d sec u f x = s.trackContention d sec u f x := by
  simp only [trackContention, overridden, frame_of_fabric h]

theorem frame_putFrame_same (d sec u f : Nat) (x : BitVec 1024) : (s.putFrame d sec u f x).frame d sec u f = x.toNat := by
  simp [frame, putFrame]

theorem frame_putFrame_other {d sec u f d' sec' u' f' : Nat} (x : BitVec 1024) (h : frameKey d sec u f ≠ frameKey d' sec' u' f') :
    (s.putFrame d' sec' u' f' x).frame d sec u f = s.frame d sec u f := by
  simp [frame, putFrame, SMap.read_write_other _ _ _ _ h]

/-- The contents of a die that start from zeros (R195). -/
theorem raw_clearContents {d p q v : Nat} (hk : pageKind p = some .mi) (hd : pageDie p = d) (hq : isMiBank p q = true) (hv : v < 1024) :
    (s.clearContents d).raw p q false v = 0 := by
  have hq50 : q < 50 := by
    simp only [isMiBank, Bool.and_eq_true, decide_eq_true_eq, bankCount, isMram_mi hk, isEngPage_mi hk, Bool.false_eq_true, if_false] at hq
    exact hq.2
  have hmine {r : Nat} (h : r = p) : (!(pageKind r = some .mi && pageDie r = d)) = false := by simp [h, hk, hd]
  unfold raw
  split
  case h_1 i hi =>
    have hi4 : i < 4 := by
      simp only [remapOf, isMram_mi hk, Bool.false_eq_true, if_false] at hi
      exact List.mem_range.1 (List.mem_of_find?_eq_some hi)
    have hpage : spareKey p q i / 256 = p := by
      unfold spareKey bankKey
      omega
    exact SMap.read_keep_of_not (p := fun k => !(pageKind (k / 256) = some .mi && pageDie (k / 256) = d)) _ _ (hmine hpage)
  case h_2 =>
    simp only [cellsOf, isMram_mi hk, Bool.false_eq_true, if_false]
    have hpage : wordKey p q v / 65536 = p := by
      unfold wordKey bankKey
      omega
    exact SMap.read_keep_of_not (p := fun k => !(pageKind (k / 65536) = some .mi && pageDie (k / 65536) = d)) _ _ (hmine hpage)

/-! ## One tile frame of an image -/

/-- The image's frame is noted as written. -/
def frameNoted (s : State) (a : FrameAddr) : State :=
  let t := s.dieTouched a.die
  { t with boot := { t.boot with written := SMap.write false t.boot.written a.word true, count := t.boot.count + b2n (a.kind < 2) } }

theorem dieTouched_fabric (d : Nat) : (s.dieTouched d).fabric = s.fabric := by
  unfold dieTouched
  split_ifs <;> rfl

theorem frameNoted_fabric (a : FrameAddr) : (s.frameNoted a).fabric = s.fabric := s.dieTouched_fabric a.die

/-- The controller as a first frame of a die leaves it. -/
theorem dieTouched_boot (d : Nat) : (s.dieTouched d).boot =
    { s.boot with touched := if s.boot.written = [] then withBit s.boot.touched d true else s.boot.touched } := by
  unfold dieTouched
  split_ifs <;> rfl

/-- The unit at which a frame's cells stand: a tile, or 128 for the block frames (R101). -/
def frameUnit (a : FrameAddr) : Nat := if a.kind = 0 then a.unit else 128

section
variable {a : FrameAddr} {x : BitVec 1024} (hok : a.ok = true)
include hok

theorem imageFrame_of_released (h : s.gsrActive a.die a.sector = false) :
    s.imageFrame a x = (s.capture (Pg.sctl a.die a.sector) 0x8 .config 0, some 5) := by
  simp [imageFrame, hok, h]

theorem imageFrame_of_written (hgsr : s.gsrActive a.die a.sector = true) (h : SMap.read false s.boot.written a.word = true) :
    s.imageFrame a x = (s, some 5) := by
  simp [imageFrame, hok, hgsr, h]

variable (hkind : a.kind = 0) (hgsr : s.gsrActive a.die a.sector = true) (hnew : SMap.read false s.boot.written a.word = false)
include hkind hgsr hnew

/-- A new tile frame of a held sector is noted, and rejected for two drivers of one wire or written (R84, R430). -/
theorem imageFrame_of_new : s.imageFrame a x =
    if frameContention a.index x.toNat = true ∨ s.trackContention a.die a.sector a.unit a.index x.toNat = true then (s.frameNoted a, some 6)
    else (((s.frameNoted a).putFrame a.die a.sector a.unit a.index x).auditRestart a.die a.sector, none) := by
  have hunit : frameUnit a = a.unit := if_pos hkind
  have htrack := trackContention_of_fabric (s.frameNoted_fabric a) a.die a.sector a.unit a.index x.toNat
  have hclash : ((a.kind = 0 ∧ frameContention a.index x.toNat = true) ∨ (a.kind = 1 ∧ attachContention a.index x.toNat = true) ∨
      (s.frameNoted a).trackContention a.die a.sector (frameUnit a) a.index x.toNat = true) ↔
      (frameContention a.index x.toNat = true ∨ s.trackContention a.die a.sector a.unit a.index x.toNat = true) := by
    simp [hkind, hunit, htrack]
  have hopen : s.imageFrame a x =
      if (a.kind = 0 ∧ frameContention a.index x.toNat = true) ∨ (a.kind = 1 ∧ attachContention a.index x.toNat = true) ∨
        (s.frameNoted a).trackContention a.die a.sector (frameUnit a) a.index x.toNat = true then (s.frameNoted a, some 6)
      else if a.kind = 1 ∧ 5 ≤ a.index ∧ a.index < 21 then _
      else (((s.frameNoted a).putFrame a.die a.sector (frameUnit a) a.index x).auditRestart a.die a.sector, none) :=
    (if_neg (by simp [hok])).trans ((if_neg (by simp [hgsr])).trans ((if_neg (by simp [hnew])).trans ((if_neg (by simp [hkind])).trans
      (if_neg (by simp [hkind])))))
  have hcoef : ¬(a.kind = 1 ∧ 5 ≤ a.index ∧ a.index < 21) := by simp [hkind]
  rw [hopen, if_neg hcoef, if_congr hclash rfl rfl, hunit]

end

/-! ## A record of one frame -/

/-- The data words of a record. -/
def recordBody (data : Option (BitVec 1024)) : List Byte := (data.map (fun y => leBytes 128 y.toNat)).getD []

/-- A record has been taken into the body, and its data word perhaps kept (R426). -/
def recordTaken (s : State) (body : List Byte) (last : Option (BitVec 1024)) : State :=
  { s with boot := { s.boot with body := body, lastLiteral := last } }

/-- The body with a record's bytes at its end. -/
def bodyRecorded (s : State) (addr second check : Word) (data : Option (BitVec 1024)) : List Byte :=
  s.boot.body ++ (leBytes 4 addr.toNat ++ leBytes 4 second.toNat ++ recordBody data ++ leBytes 4 check.toNat)

/-- What a good tile frame leaves (R195, R427, R437): its bits, its mark, the count, the die's first with its memories zeroed, and no other
frame of the die changed. -/
def TileFrameWritten (s t : State) (die : Nat) (a : FrameAddr) (y : BitVec 1024) : Prop :=
  t.frame a.die a.sector a.unit a.index = y.toNat ∧ t.boot.count = s.boot.count + 1 ∧
  SMap.read false t.boot.written a.word = true ∧ t.boot.sections = s.boot.sections ∧
  (s.boot.written = [] → bit t.boot.touched die = true ∧
    ∀ p q v, pageKind p = some .mi → pageDie p = die → isMiBank p q = true → v < 1024 → t.raw p q false v = 0) ∧
  ∀ sec u f, sec < 96 → u < 129 → f < (if u < 128 then 48 else 208) → ¬(sec = a.sector ∧ u = a.unit ∧ f = a.index) →
    t.frame a.die sec u f = s.frame a.die sec u f

section
variable {x : BootSection} {rest : List BootSection} (hat : AtSection s x rest) (hloading : s.loading = true) (htype : x.type = 2)
  (hport : x.die = 0 ∨ s.portActive x.die = true) (hopened : s.boot.opened = true) {op : Nat} {addr second check : Word}
  {data : Option (BitVec 1024)}
include hat hloading htype hport hopened

/-- An operation that is no record's fails the load (R426). -/
theorem frameRecord_of_unnamed (hop : 1 ≤ op ∧ op ≤ 3) (h : bits second.toNat 31 28 = 0 ∨ 3 < bits second.toNat 31 28) :
    LoadFailed (s.frameRecord op addr second check data) 5 := by
  have hne : bits second.toNat 31 28 ≠ op := by omega
  have hopen : ¬(s.boot.opened = false ∨ bits second.toNat 31 28 ≠ op ∧ 1 ≤ bits second.toNat 31 28 ∧ bits second.toNat 31 28 ≤ 3) := by
    simp only [hopened, Bool.true_eq_false, false_or]
    omega
  have hrecord : s.frameRecord op addr second check data = s.bootFail 5 s.sectionDie addr.toNat := by
    refine (atSection_of_head hloading hat.sections htype hport).trans ((if_neg hopen).trans ?_)
    exact (ite_congr rfl (fun _ => rfl) fun _ => if_pos (.inr (.inl hne))).trans (ite_self _)
  rw [hrecord]
  exact bootFail_failed hat.reload hat.running (by decide) _ _

variable (hop : bits second.toNat 31 28 = op)
include hop

omit hat hloading htype hport in
/-- A record of the operation it says is judged. -/
theorem frameRecord_opens :
    ¬(s.boot.opened = false ∨ bits second.toNat 31 28 ≠ op ∧ 1 ≤ bits second.toNat 31 28 ∧ bits second.toNat 31 28 ≤ 3) := by
  simp [hopened, hop]

/-- A record with a wrong check value, reserved bits, no frame's address or another die's fails the load. -/
theorem frameRecord_of_bad
    (h : check.toNat ≠ crc32 (leBytes 4 addr.toNat ++ leBytes 4 second.toNat ++ recordBody data) ∨ bits second.toNat 15 0 ≠ 0 ∨
      (FrameAddr.ofWord addr.toNat).ok = false ∨ (FrameAddr.ofWord addr.toNat).die ≠ x.die) :
    LoadFailed (s.frameRecord op addr second check data) 5 := by
  have hopens := frameRecord_opens hopened hop
  have hdie := sectionDie_of_head hat.sections
  have hrecord : s.frameRecord op addr second check data = s.bootFail 5 s.sectionDie addr.toNat := by
    refine (atSection_of_head hloading hat.sections htype hport).trans ((if_neg hopens).trans ?_)
    by_cases hcrc : check.toNat ≠ crc32 (leBytes 4 addr.toNat ++ leBytes 4 second.toNat ++ recordBody data)
    · cases data with
      | none => exact if_pos hcrc
      | some y => exact if_pos hcrc
    · have hform : bits second.toNat 15 0 ≠ 0 ∨ bits second.toNat 31 28 ≠ op ∨ (FrameAddr.ofWord addr.toNat).ok = false ∨
          (FrameAddr.ofWord addr.toNat).die ≠ s.sectionDie := by
        rw [hdie]
        exact (h.resolve_left hcrc).imp_right .inr
      cases data with
      | none => exact (if_neg hcrc).trans (if_pos hform)
      | some y => exact (if_neg hcrc).trans (if_pos hform)
  rw [hrecord]
  exact bootFail_failed hat.reload hat.running (by decide) _ _

/-- A good record of one frame is taken, and its frame follows. -/
theorem frameRecord_of_good
    (hgood : check.toNat = crc32 (leBytes 4 addr.toNat ++ leBytes 4 second.toNat ++ recordBody data)) (hzero : bits second.toNat 15 0 = 0)
    (hok : (FrameAddr.ofWord addr.toNat).ok = true) (hdie : (FrameAddr.ofWord addr.toNat).die = x.die) {y : BitVec 1024}
    (hy : (op = 1 ∧ data = some y) ∨ (op = 2 ∧ data = none ∧ y = 0 ∧ bits second.toNat 27 16 = 0) ∨
      (op = 3 ∧ data = none ∧ s.boot.lastLiteral = some y ∧ bits second.toNat 27 16 = 0)) :
    ∃ body last, s.frameRecord op addr second check data = (s.recordTaken body last).imageRun y [FrameAddr.ofWord addr.toNat] := by
  have hopens := frameRecord_opens hopened hop
  have hform : ¬(bits second.toNat 15 0 ≠ 0 ∨ bits second.toNat 31 28 ≠ op ∨ (FrameAddr.ofWord addr.toNat).ok = false ∨
      (FrameAddr.ofWord addr.toNat).die ≠ s.sectionDie) := by
    rw [sectionDie_of_head hat.sections]
    simp [hzero, hop, hok, hdie]
  have hsector : ¬(FrameAddr.run 1 (FrameAddr.ofWord addr.toNat)).any (fun b => 96 ≤ b.sector) = true := by
    simp only [FrameAddr.ok, isSector, Bool.and_eq_true, decide_eq_true_eq] at hok
    simp [FrameAddr.run]
    omega
  have hjudged : s.frameRecord op addr second check data = _ :=
    (atSection_of_head hloading hat.sections htype hport).trans (if_neg hopens)
  obtain ⟨rfl, rfl⟩ | ⟨rfl, rfl, rfl, hone⟩ | ⟨rfl, rfl, hlast, hone⟩ := hy
  · refine ⟨s.bodyRecorded addr second check (some y), some y,
      hjudged.trans ((if_neg (not_not.2 hgood)).trans ((if_neg hform).trans ((if_neg hsector).trans rfl)))⟩
  · refine ⟨s.bodyRecorded addr second check none, s.boot.lastLiteral,
      hjudged.trans ((if_neg (not_not.2 hgood)).trans ((if_neg hform).trans ?_))⟩
    rw [hone]
    exact (if_neg hsector).trans rfl
  · refine ⟨s.bodyRecorded addr second check none, s.boot.lastLiteral,
      hjudged.trans ((if_neg (not_not.2 hgood)).trans ((if_neg hform).trans ?_))⟩
    rw [hone]
    refine (if_neg hsector).trans ?_
    simp only [keepBody, hlast]
    rfl
end

/-! ## One frame, judged and written -/

section
variable {x : BootSection} {rest : List BootSection} (hat : AtSection s x rest) {a : FrameAddr} {y : BitVec 1024}

theorem imageRun_of_wrong {t : State} {r : Nat} (h : s.imageFrame a y = (t, some r)) : s.imageRun y [a] = t.bootFail r t.sectionDie a.word := by
  simp only [imageRun, h]

theorem imageRun_of_right {t : State} (h : s.imageFrame a y = (t, none)) : s.imageRun y [a] = t := by simp only [imageRun, h]

include hat

/-- Nothing that keeps the attempt's course leaves the section. -/
theorem AtSection.of_boot {t : State} (h : t.boot = s.boot) : AtSection t x rest := by
  obtain ⟨hreload, hrunning, hsections⟩ := hat
  constructor <;> rwa [h]

theorem frameNoted_atSection (a : FrameAddr) : AtSection (s.frameNoted a) x rest := by
  constructor <;> simp [frameNoted, dieTouched_boot, hat.reload, hat.running, hat.sections]

variable (hok : a.ok = true)
include hok

/-- A frame of a released sector, or one written before, fails the load (R107, R427). -/
theorem imageRun_rejected (h : s.gsrActive a.die a.sector = false ∨ SMap.read false s.boot.written a.word = true) :
    LoadFailed (s.imageRun y [a]) 5 := by
  cases hgsr : s.gsrActive a.die a.sector with
  | false =>
    have hcaptured := hat.of_boot (s.capture_boot (Pg.sctl a.die a.sector) 0x8 .config 0)
    rw [imageRun_of_wrong (imageFrame_of_released hok hgsr)]
    exact bootFail_failed hcaptured.reload hcaptured.running (by decide) _ _
  | true =>
    rw [imageRun_of_wrong (imageFrame_of_written hok hgsr (h.resolve_left (by simp [hgsr])))]
    exact bootFail_failed hat.reload hat.running (by decide) _ _

variable (hkind : a.kind = 0) (hgsr : s.gsrActive a.die a.sector = true) (hnew : SMap.read false s.boot.written a.word = false)
include hkind hgsr hnew

/-- A tile frame that would drive a wire twice fails the load (R84, R430). -/
theorem imageRun_clashing
    (h : frameContention a.index y.toNat = true ∨ s.trackContention a.die a.sector a.unit a.index y.toNat = true) :
    LoadFailed (s.imageRun y [a]) 6 := by
  have hnoted := frameNoted_atSection hat a
  rw [imageRun_of_wrong ((imageFrame_of_new hok hkind hgsr hnew).trans (if_pos h))]
  exact bootFail_failed hnoted.reload hnoted.running (by decide) _ _

omit hat in
/-- A good tile frame is written (R195, R427, R437). -/
theorem imageRun_written (hdie : a.die = x.die)
    (h : ¬(frameContention a.index y.toNat = true ∨ s.trackContention a.die a.sector a.unit a.index y.toNat = true)) :
    TileFrameWritten s (s.imageRun y [a]) x.die a y := by
  rw [imageRun_of_right ((imageFrame_of_new hok hkind hgsr hnew).trans (if_neg h))]
  simp only [FrameAddr.ok, FrameAddr.units, FrameAddr.frames, hkind, Bool.and_eq_true, decide_eq_true_eq, if_true] at hok
  obtain ⟨⟨-, hunit⟩, hindex⟩ := hok
  have hfabric := s.frameNoted_fabric a
  refine ⟨?frame, ?count, ?written, ?sections, fun hfirst => ⟨?touched, fun p q v hp hd hq hv => ?zeros⟩,
    fun sec u f hsec' hu hf hne => ?others⟩
  case frame => exact (s.frameNoted a).frame_putFrame_same _ _ _ _ y
  case count => simp [auditRestart, frameNoted, dieTouched_boot, hkind, b2n]
  case written => exact SMap.read_write_same false (s.dieTouched a.die).boot.written a.word true
  case sections => simp [auditRestart, frameNoted, dieTouched_boot]
  case touched =>
    have hbit : (s.frameNoted a).boot.touched = withBit s.boot.touched a.die true := by simp [frameNoted, dieTouched_boot, hfirst]
    rw [← hdie]
    exact (congrArg (bit · a.die) hbit).trans (by rw [bit_withBit, if_pos rfl])
  case zeros =>
    have hmem : (s.dieTouched a.die).raw p q false v = (s.clearContents a.die).raw p q false v := by
      rw [dieTouched, if_pos hfirst]
      rfl
    exact hmem.trans (raw_clearContents hp (hd.trans hdie.symm) hq hv)
  case others =>
    have hkey := frameKey_ne (d := a.die) hu (by omega : a.unit < 129) hf (by rw [if_pos hunit]; exact hindex) hne
    exact (frame_putFrame_other (s := s.frameNoted a) y hkey).trans (frame_of_fabric hfabric _ _ _ _)
end

end State
end Sys2Proof.Machine
end

section
/-! SUPPORT. The STAGE1, FRAMES, ENGINES and SECTOR_CRC bodies of an image (R424, R427, R431, R433). -/

namespace Sys2Proof.Machine.State

open Reg

variable {s : State}

/-! ## Engine records -/

theorem engLoad_boot (s : State) (e b : Nat) (bs : List Byte) : (s.engLoad e b bs).boot = s.boot := by
  unfold engLoad
  exact forEach_keeps State.boot _ (fun i u => (rfl : (u.parityStore _ _ _ _ false).boot = u.boot)) _

theorem fenceI_boot (s : State) (e : Nat) : (s.fenceI e).boot = s.boot := by
  unfold fenceI both
  split <;> rfl

theorem engineRecord_boot (s : State) (r : EngineImage) : (s.engineRecord r).boot = s.boot := by
  have hloads := (((s.engLoad r.engine 0 r.imem).engLoad r.engine 1 r.spad).fenceI_boot r.engine).trans
    ((engLoad_boot _ _ _ _).trans (engLoad_boot _ _ _ _))
  exact hloads

theorem engineRecord_autorun (s : State) (r : EngineImage) : (s.engineRecord r).get (Pg.eng r.engine 0) Eng0.CTL_AUTORUN = b2n r.autorun := by
  unfold engineRecord
  dsimp only
  rw [get_set_other _ _ (fieldKey_ne (by decide)), get_set_same]
  cases r.autorun <;> rfl

theorem engineRecord_bootPc (s : State) (r : EngineImage) :
    (s.engineRecord r).get (Pg.eng r.engine 0) Eng0.ENG_BOOT_PC_PC = r.bootPc.toNat / 2 := by
  have hwidth : Eng0.ENG_BOOT_PC_PC.width = 31 := rfl
  have hpc := r.bootPc.isLt
  unfold engineRecord
  rw [get_set_same, hwidth]
  omega

/-! ## The bodies -/

section
variable {x : BootSection} {rest : List BootSection} (hat : AtSection s x rest) (hloading : s.loading = true)
  (hport : x.die = 0 ∨ s.portActive x.die = true)
include hat hloading hport

/-- A STAGE1 body ends its section, or fails (R424). -/
theorem stage1Read_ended (htype : x.type = 1) (bs : List Byte) : BodyEnded (s.stage1Read bs) rest (s.bodyVerdict x rest bs) := by
  rw [stage1Read, atSection_of_head hloading hat.sections htype hport]
  exact bodyEnds_ended hat (.keepBody s bs)

/-- A FRAMES body begins: nothing of it has been written. -/
theorem framesBegin_opened (htype : x.type = 2) (hclosed : s.boot.opened = false) :
    s.framesBegin = { s with boot := { s.boot with opened := true, entry := 0, lastLiteral := none, written := [], count := 0, body := [] } } := by
  rw [framesBegin, atSection_of_head hloading hat.sections htype hport]
  exact if_neg (by simp [hclosed])

section
variable (htype : x.type = 2) (hopened : s.boot.opened = true)
include htype hopened

theorem framesEnd_ended (hcount : s.boot.count = 609792) : BodyEnded s.framesEnd rest (s.bodyVerdict x rest []) := by
  rw [framesEnd, atSection_of_head hloading hat.sections htype hport, if_neg (by simp [hopened]), if_neg (not_not.2 hcount)]
  exact bodyEnds_ended hat (.none s)

theorem framesEnd_short (hcount : s.boot.count ≠ 609792) : LoadFailed s.framesEnd 1 := by
  rw [framesEnd, atSection_of_head hloading hat.sections htype hport, if_neg (by simp [hopened]), if_pos hcount]
  exact bootFail_failed hat.reload hat.running (by decide) _ _

end

section
variable (htype : x.type = 3) {r : EngineImage}
include htype

/-- An ENGINES body of a rejected record fails the load (R431). -/
theorem enginesRead_bad (hbad : engineRecordBad x.die r = true) : LoadFailed (s.enginesRead [r]) 5 := by
  have hdie : ((s.keepBody ([r].flatMap engineBytes)).touchDie s.sectionDie).sectionDie = x.die := sectionDie_of_head (s := s) hat.sections
  have htouched : AtSection ((s.keepBody ([r].flatMap engineBytes)).touchDie s.sectionDie) x rest := ⟨hat.reload, hat.running, hat.sections⟩
  rw [enginesRead, atSection_of_head hloading hat.sections htype hport]
  simp only [engineRecords, hdie, hbad, if_true]
  exact failHere_failed htouched (by decide) 0

/-- The state of one engine record applied. -/
def engineRecorded (s : State) (x : BootSection) (r : EngineImage) : State := ((s.keepBody (engineBytes r)).touchDie x.die).engineRecord r

theorem enginesRead_good (hbad : engineRecordBad x.die r = false) : s.enginesRead [r] = (s.engineRecorded x r).bodyEnds := by
  have hdie : ((s.keepBody ([r].flatMap engineBytes)).touchDie s.sectionDie).sectionDie = x.die := sectionDie_of_head (s := s) hat.sections
  rw [enginesRead, atSection_of_head hloading hat.sections htype hport]
  simp only [engineRecords, hdie, hbad, Bool.false_eq_true, if_false]
  simp only [List.flatMap_cons, List.flatMap_nil, List.append_nil, sectionDie_of_head hat.sections, engineRecorded]

omit hat hloading hport htype in
theorem engineRecorded_takes (s : State) (x : BootSection) (r : EngineImage) : TakesBody s (s.engineRecorded x r) (engineBytes r) := by
  have hboot := engineRecord_boot ((s.keepBody (engineBytes r)).touchDie x.die) r
  exact TakesBody.of_boot (u := (s.keepBody (engineBytes r)).touchDie x.die) ⟨rfl, rfl, rfl, rfl, rfl, rfl, rfl⟩ hboot

/-- A good ENGINES body of one record loads its engine's start (R431) and ends. -/
theorem enginesRead_loaded (hbad : engineRecordBad x.die r = false) :
    BodyEnded (s.enginesRead [r]) rest (s.bodyVerdict x rest (engineBytes r)) ∧
    (s.bodyVerdict x rest (engineBytes r) = none →
      (s.enginesRead [r]).get (Pg.eng r.engine 0) Eng0.CTL_AUTORUN = b2n r.autorun ∧
      (s.enginesRead [r]).get (Pg.eng r.engine 0) Eng0.ENG_BOOT_PC_PC = r.bootPc.toNat / 2) := by
  have htakes := s.engineRecorded_takes x r
  rw [enginesRead_good hat hloading hport htype hbad]
  refine ⟨bodyEnds_ended hat htakes, fun hnone => ?_⟩
  rw [bodyEnds_of_none hat htakes hnone]
  exact ⟨engineRecord_autorun _ r, engineRecord_bootPc _ r⟩

end

/-! ## Values of sectors -/

/-- The image's values of a die's sectors (R433). -/
def crcsNoted (m : SMap (Option Word)) (d : Nat) (vs : List Word) : SMap (Option Word) :=
  forEach (List.range 96) (fun sec m => SMap.write none m (sectorKey d sec) vs[sec]?) m

omit hat hloading hport in
theorem read_crcsNoted (m : SMap (Option Word)) (d : Nat) (vs : List Word) {sec : Nat} (hsec : sec < 96) :
    SMap.read none (crcsNoted m d vs) (sectorKey d sec) = vs[sec]? := by
  obtain ⟨u, -, hu⟩ := forEach_once (f := fun r (v : SMap (Option Word)) => SMap.write none v (sectorKey d r) vs[r]?)
    (B := fun v w => SMap.read none w (sectorKey d sec) = SMap.read none v (sectorKey d sec)) (fun _ => rfl)
    (fun _ _ _ h h' => h'.trans h) List.nodup_range (List.mem_range.2 hsec)
    (fun r _ hne v => SMap.read_write_other _ _ _ _ (by unfold sectorKey; omega)) m
  exact hu.trans (SMap.read_write_same _ _ _ _)

section
variable (htype : x.type = 6) {vs : List Word}
include htype

theorem sectorCrcRead_short (hlen : vs.length < 96) : LoadFailed (s.sectorCrcRead vs) 1 := by
  rw [sectorCrcRead, atSection_of_head hloading hat.sections htype hport, if_pos hlen]
  exact failHere_failed hat (by decide) _

theorem sectorCrcRead_noted (hlen : 96 ≤ vs.length) :
    BodyEnded (s.sectorCrcRead vs) rest (s.bodyVerdict x rest (vs.flatMap (fun v => leBytes 4 v.toNat))) ∧
    (s.bodyVerdict x rest (vs.flatMap (fun v => leBytes 4 v.toNat)) = none →
      ∀ sec < 96, SMap.read none (s.sectorCrcRead vs).boot.sectorCrcs (sectorKey x.die sec) = vs[sec]?) := by
  have hread : s.sectorCrcRead vs = bodyEnds { s with boot := { s.boot with
      body := s.boot.body ++ vs.flatMap (fun v => leBytes 4 v.toNat), sectorCrcs := crcsNoted s.boot.sectorCrcs s.sectionDie vs } } := by
    rw [sectorCrcRead, atSection_of_head hloading hat.sections htype hport, if_neg (Nat.not_lt.2 hlen)]
    rfl
  have htakes : TakesBody s { s with boot := { s.boot with
      body := s.boot.body ++ vs.flatMap (fun v => leBytes 4 v.toNat), sectorCrcs := crcsNoted s.boot.sectorCrcs s.sectionDie vs } }
      (vs.flatMap (fun v => leBytes 4 v.toNat)) := ⟨rfl, rfl, rfl, rfl, rfl, rfl, rfl⟩
  rw [hread]
  refine ⟨bodyEnds_ended hat htakes, fun hnone sec hsec => ?_⟩
  rw [bodyEnds_of_none hat htakes hnone, ← sectionDie_of_head hat.sections]
  exact read_crcsNoted _ _ vs hsec

end

end

end Sys2Proof.Machine.State
end

section
/-! SUPPORT. The configuration audit (R445 to R447): a mismatch whose retry matches, a lasting one, and laps. -/

namespace Sys2Proof.Machine.State

open Reg

variable {s : State} {d sec : Nat}

/-! ## A sector that is stopped -/

theorem sectorUnreleased_fabric (hsec : isSector d sec = true) (s : State) :
    (s.sectorUnreleased d sec).fabric = ((s.unreleaseSector d sec).assertGsr d sec).fabric := by
  have hslices (u : State) : (u.holdSlices d sec).fabric = u.fabric := by
    unfold holdSlices
    exact forEach_keeps State.fabric _ (fun j v => v.setDspSlice_fabric d sec j _) u
  have hslice (u : State) : (u.holdSlice d sec).fabric = u.fabric := by
    unfold holdSlice
    split
    · exact u.setSlice_fabric d sec _
    · rfl
  exact (hslice _).trans ((hslices _).trans (changesPage_holdBlocks hsec _).fabric)

/-- A sector that no start-up has released is held (R98). -/
theorem gsrActive_of_unreleased (h : SMap.read false s.fabric.released (sectorKey d sec) = false) : s.gsrActive d sec = true := by
  simp [gsrActive, h]

theorem sectorUnreleased_gsrActive (hsec : isSector d sec = true) {t : State} (h : t.fabric = (s.sectorUnreleased d sec).fabric) :
    t.gsrActive d sec = true := by
  refine gsrActive_of_unreleased ?_
  rw [h, sectorUnreleased_fabric hsec]
  exact SMap.read_write_same false s.fabric.released (sectorKey d sec) false

/-! ## Registers of an audit -/

theorem satAdd_mod (w x n : Nat) : satAdd w x n % 2 ^ w = satAdd w x n := by
  have := Nat.two_pow_pos w
  unfold satAdd
  exact Nat.mod_eq_of_lt (by omega)

/-- A control page of a sector is a die's. -/
theorem le_sctl {d sec : Nat} (hsec : isSector d sec = true) : 0x1000 ≤ Pg.sctl d sec := by
  have hbase := le_dieBase (isSector_iff.1 hsec).1
  unfold Pg.sctl
  omega

theorem not_inRecords_sctl (hsec : isSector d sec = true) (f : RegField) (i : Nat) : ¬InRecords (fieldKey (Pg.sctl d sec) f i) :=
  fun h => not_inBooks f i (lt_of_lt_of_le (by decide) (le_sctl hsec)) (.inr h)

theorem get_event_sctl (hsec : isSector d sec = true) (c v p x : Nat) (f : RegField) (i : Nat) :
    (s.event c v p x).get (Pg.sctl d sec) f i = s.get (Pg.sctl d sec) f i :=
  s.event_records c v p x _ _ _ (not_inRecords_sctl hsec f i)

/-- The fields that note the first mismatch. -/
def noteFields : List RegField := [Sctl.SCTL_AUDIT_ERR_VALID, Sctl.SCTL_AUDIT_ERR_KIND, Sctl.SCTL_AUDIT_ERR_TILE]

theorem get_auditNote (p kind tile : Nat) {f : RegField} (h : ∀ g ∈ noteFields, f.apart g = true) (hf : 0 < f.count) :
    (s.auditNote p kind tile).get p f = s.get p f := by
  have hset (u : State) (v : Nat) {g : RegField} (hg : g ∈ noteFields) (hgc : 0 < g.count) : (u.set p g v).get p f = u.get p f :=
    get_set_other u v (fieldKey_ne_of_apart (h g hg) hf hgc)
  refine (apply_ite (fun t : State => t.get p f) _ _ _).trans ((ite_congr rfl (fun _ => rfl) fun _ => ?_).trans (ite_self _))
  exact (hset _ _ (by simp [noteFields]) (by decide)).trans
    ((hset _ _ (by simp [noteFields]) (by decide)).trans (hset _ _ (by simp [noteFields]) (by decide)))

theorem auditNote_boot (p kind tile : Nat) : (s.auditNote p kind tile).boot = s.boot := by
  unfold auditNote
  split <;> rfl

/-! ## A mismatch whose retry matches (R447) -/

/-- A transient mismatch is counted and raised. -/
def AuditTransient (s t : State) (p : Nat) : Prop :=
  Raised t p Sctl.INT_AUDIT_TRANSIENT ∧
  t.get p Sctl.SCTL_AUDIT_CNT_TRANSIENT = satAdd Sctl.SCTL_AUDIT_CNT_TRANSIENT.width (s.get p Sctl.SCTL_AUDIT_CNT_TRANSIENT) 1

section
variable (hsec : isSector d sec = true)
include hsec

theorem auditTransient_counts (tile : Nat) : AuditTransient s (s.auditTransient d sec tile) (Pg.sctl d sec) := by
  refine ⟨?_, ?_⟩
  · exact Raised.of_changesIn (setInt_sets _ (Pg.sctl d sec) Sctl.INT_AUDIT_TRANSIENT (by decide) (by decide)) (event_records _ _ _ _ _)
      (not_inRecords_sctl hsec _ _)
  · refine (get_event_sctl hsec _ _ _ _ _ _).trans ((get_set_other _ _ (fieldKey_ne (by decide))).trans ?_)
    rw [get_auditNote _ _ _ (by decide) (by decide), get_count_same]
    exact satAdd_mod _ _ _

/-- No other field of the page changes. -/
theorem get_auditTransient (tile : Nat) {f : RegField}
    (h : ∀ g ∈ Sctl.SCTL_AUDIT_CNT_TRANSIENT :: Hdr.INT_STATUS_BLOCK :: noteFields, f.apart g = true) (hf : 0 < f.count) :
    (s.auditTransient d sec tile).get (Pg.sctl d sec) f = s.get (Pg.sctl d sec) f := by
  refine (get_event_sctl hsec _ _ _ _ _ _).trans ((get_set_other _ _ (fieldKey_ne_of_apart (h _ (by simp)) hf (by decide))).trans ?_)
  exact (get_auditNote _ _ _ (fun g hg => h g (by simp [hg])) hf).trans
    (get_count_other _ _ (fieldKey_ne_of_apart (h Sctl.SCTL_AUDIT_CNT_TRANSIENT (by simp)) hf (by decide)))

omit hsec in
theorem auditTransient_boot (d sec tile : Nat) : (s.auditTransient d sec tile).boot = s.boot :=
  (event_boot _ _ _ _ _).trans (auditNote_boot (s := s.count (Pg.sctl d sec) Sctl.SCTL_AUDIT_CNT_TRANSIENT) _ _ _)

end

/-! ## A lasting mismatch (R447) -/

/-- A lasting mismatch: in a start-up attempt it fails, after that the sector is stopped with a fatal error. -/
def AuditLasting (s t : State) (d sec : Nat) : Prop :=
  Raised t (Pg.sctl d sec) Sctl.INT_AUDIT_LASTING ∧
  (s.boot.running = true → s.boot.reload = none → t.bootPhase = 7 ∧ t.boot.running = false ∧
    t.get Pg.hubGlobal HubGlobal.HUB_BOOT_FAIL_REASON = 0xA ∧ t.get Pg.hubGlobal HubGlobal.HUB_BOOT_FAIL_DIE = d) ∧
  (s.boot.running = false → s.boot.reload = none → t.get Pg.safety Safety.SAF_FATAL_AUDIT = 1 ∧ t.gsrActive d sec = true ∧
    t.get (Pg.sctl d sec) Sctl.STATUS_CONFIGURED = 0)

theorem AuditLasting.of_course {u t : State} (h : AuditLasting u t d sec) (hrunning : u.boot.running = s.boot.running)
    (hreload : u.boot.reload = s.boot.reload) : AuditLasting s t d sec := by
  rwa [AuditLasting, hrunning, hreload] at h

/-- The mismatch noted and its interrupt raised. -/
def auditRaised (s : State) (p kind tile : Nat) : State := (s.auditNote p kind tile).setInt p Sctl.INT_AUDIT_LASTING

/-- The sector is stopped, and the fatal error is shown. -/
def auditStopped (s : State) (d sec : Nat) : State :=
  let u := (s.sectorUnreleased d sec).fatal Safety.SAF_FATAL_AUDIT 0x7004 (Pg.sctl d sec)
  u.event 0x7004 4 (Pg.sctl d sec) (u.auditErr (Pg.sctl d sec))

theorem auditLasting_eq (kind tile : Nat) : s.auditLasting d sec kind tile =
    if s.boot.running = true ∨ s.boot.reload.isSome = true then (s.auditRaised (Pg.sctl d sec) kind tile).bootFail 0x0A d 0
    else (s.auditRaised (Pg.sctl d sec) kind tile).auditStopped d sec := rfl

theorem auditRaised_boot (p kind tile : Nat) : (s.auditRaised p kind tile).boot = s.boot := auditNote_boot _ _ _

theorem auditRaised_raises (p kind tile : Nat) : Raised (s.auditRaised p kind tile) p Sctl.INT_AUDIT_LASTING :=
  setInt_sets _ _ _ (by decide) (by decide)

section
variable (hsec : isSector d sec = true)
include hsec

theorem auditStopped_stops : (s.auditStopped d sec).get Pg.safety Safety.SAF_FATAL_AUDIT = 1 ∧ (s.auditStopped d sec).gsrActive d sec = true ∧
    (s.auditStopped d sec).get (Pg.sctl d sec) Sctl.STATUS_CONFIGURED = 0 := by
  refine ⟨?fatal, ?held, ?configured⟩
  case fatal =>
    have hpage : ¬InRecords (fieldKey Pg.safety Safety.SAF_FATAL_AUDIT 0) := by
      rw [InRecords, fieldKey_page (by decide) (by decide)]
      decide
    exact (event_records _ _ _ _ _ _ _ _ hpage).trans ((get_set_other _ _ (fieldKey_ne (by decide))).trans (get_set_same _ _ _ _ _))
  case held => exact sectorUnreleased_gsrActive hsec ((event_fabric _ _ _ _ _).trans (fatal_fabric _ _ _ _))
  case configured =>
    have hpage := not_inBooks Sctl.STATUS_CONFIGURED 0 (lt_of_lt_of_le (by decide : Pg.ply < 0x1000) (le_sctl hsec))
    refine (get_event_sctl hsec _ _ _ _ _ _).trans ((fatal_books _ (by decide) (by decide) _ _ _ _ _ hpage).trans ?_)
    exact get_set_same _ _ _ _ _

theorem auditStopped_raised {b : Nat} (h : Raised s (Pg.sctl d sec) b) : Raised (s.auditStopped d sec) (Pg.sctl d sec) b := by
  have hlt := (isSector_iff.1 hsec).2.2
  have hbooks := not_inBooks Hdr.INT_STATUS_BLOCK 0 (lt_of_lt_of_le (by decide : Pg.ply < 0x1000) (le_sctl hsec))
  have hheld := (sectorUnreleased_leaves s d sec).raised (fun hk => not_onUnconfigured_sctl d d hlt (.inl ⟨sec, hlt, hk⟩)) h
  exact Raised.of_changesIn (Raised.of_changesIn hheld (fatal_books _ (by decide) (by decide) _ _) hbooks) (event_books _ _ _ _ _) hbooks

omit hsec in
theorem auditStopped_boot : (s.auditStopped d sec).boot = s.boot :=
  (event_boot _ _ _ _ _).trans ((fatal_boot _ _ _ _).trans (sectorUnreleased_leaves s d sec).boot)

/-- No interrupt of a sector is among what a failure changes. -/
theorem not_onFailure_sctl : ¬OnFailure (fieldKey (Pg.sctl d sec) Hdr.INT_STATUS_BLOCK 0) := by
  have hle := le_sctl hsec
  have hpage : fieldKey (Pg.sctl d sec) Hdr.INT_STATUS_BLOCK 0 / 32768 = Pg.sctl d sec := fieldKey_page (by decide) (by decide)
  rintro (hhub | hconfig | hrecords | ⟨e, he⟩)
  · rw [OnPage, hpage, Pg.hubGlobal] at hhub
    omega
  · rw [OnPage, hpage, Pg.config] at hconfig
    omega
  · exact not_inRecords_sctl hsec _ _ hrecords
  · exact not_onUnconfigured_sctl e d (isSector_iff.1 hsec).2.2 he

theorem auditLasting_lasts (kind tile : Nat) : AuditLasting s (s.auditLasting d sec kind tile) d sec := by
  have hraises := s.auditRaised_raises (Pg.sctl d sec) kind tile
  have hboot := s.auditRaised_boot (Pg.sctl d sec) kind tile
  have hd : d < 8 := by
    have := isSector_iff.1 hsec
    omega
  rw [auditLasting_eq]
  by_cases hfails : s.boot.running = true ∨ s.boot.reload.isSome = true
  · rw [if_pos hfails]
    refine ⟨Raised.of_changesIn hraises (bootFail_changes _ _ _ _) (not_onFailure_sctl hsec),
      fun hrunning hreload => ?_, fun hrunning hreload => ?_⟩
    · rw [← hboot] at hrunning hreload
      obtain ⟨hphase, hstopped, -, hreason, -⟩ := bootFail_failed hreload hrunning (by decide : 0x0A < 256) d 0
      exact ⟨hphase, hstopped, hreason, bootFail_die hreload hrunning _ _ hd⟩
    · simp [hrunning, hreload] at hfails
  · rw [if_neg hfails]
    exact ⟨auditStopped_raised hsec hraises, fun hrunning _ => absurd (.inl hrunning) hfails, fun _ _ => auditStopped_stops hsec⟩

omit hsec in
theorem auditLasting_references (kind tile : Nat) : (s.auditLasting d sec kind tile).boot.references = s.boot.references := by
  have hboot := congrArg BootState.references (s.auditRaised_boot (Pg.sctl d sec) kind tile)
  rw [auditLasting_eq]
  split
  · exact (bootFail_references _ _ _ _).trans hboot
  · exact (congrArg BootState.references auditStopped_boot).trans hboot

end

/-! ## Laps and mismatches (R445, R446) -/

theorem auditLap_of_idle (h : s.auditRuns d sec = false) (us : Nat) : s.auditLap d sec us = s := if_pos h

/-- Lap 0 stores the references and shows the sector's CRC. -/
def lapZero (s : State) (d sec us : Nat) : State :=
  let p := Pg.sctl d sec
  ((State.set { s with boot := { s.boot with
    references := SMap.write [] s.boot.references (sectorKey d sec) ((List.range 129).map (s.auditCrc d sec)) } } p
    Sctl.SCTL_AUDIT_SIG_SIG (s.sectorCrc d sec).toNat).set p Sctl.SCTL_AUDIT_CNT_LAPS 0).set p Sctl.SCTL_AUDIT_LAP_LAP_LAST us

section
variable (hruns : s.auditRuns d sec = true) (us : Nat)
include hruns

section
variable (hrefs : s.references d sec = [])
include hrefs

theorem auditLap_of_agree (hwant : SMap.read none s.boot.sectorCrcs (sectorKey d sec) = none ∨
    SMap.read none s.boot.sectorCrcs (sectorKey d sec) = some (s.sectorCrc d sec)) : s.auditLap d sec us = s.lapZero d sec us := by
  unfold auditLap
  rw [if_neg (by simp [hruns]), if_pos hrefs]
  obtain hnone | hsame := hwant
  · rw [hnone]
    rfl
  · rw [hsame]
    exact if_pos rfl

theorem auditLap_of_differ {x : Word} (hwant : SMap.read none s.boot.sectorCrcs (sectorKey d sec) = some x) (hne : x ≠ s.sectorCrc d sec) :
    s.auditLap d sec us = (s.lapZero d sec us).auditLasting d sec 3 0 := by
  unfold auditLap
  rw [if_neg (by simp [hruns]), if_pos hrefs, hwant]
  exact if_neg hne

end

omit hruns in
theorem lapZero_boot : (s.lapZero d sec us).boot =
    { s.boot with references := SMap.write [] s.boot.references (sectorKey d sec) ((List.range 129).map (s.auditCrc d sec)) } := by
  unfold lapZero
  dsimp only
  rw [set_boot, set_boot, set_boot]

omit hruns in
theorem lapZero_references : (s.lapZero d sec us).references d sec = (List.range 129).map (s.auditCrc d sec) :=
  SMap.read_write_same [] s.boot.references (sectorKey d sec) ((List.range 129).map (s.auditCrc d sec))

omit hruns in
theorem lapZero_signature : (s.lapZero d sec us).get (Pg.sctl d sec) Sctl.SCTL_AUDIT_SIG_SIG = (s.sectorCrc d sec).toNat := by
  unfold lapZero
  dsimp only
  rw [get_set_other _ _ (fieldKey_ne (by decide)), get_set_other _ _ (fieldKey_ne (by decide)), get_set_same]
  exact Nat.mod_eq_of_lt (s.sectorCrc d sec).isLt

/-- A later lap, counted. -/
def lapCounted (s : State) (d sec us : Nat) : State :=
  (s.count (Pg.sctl d sec) Sctl.SCTL_AUDIT_CNT_LAPS).set (Pg.sctl d sec) Sctl.SCTL_AUDIT_LAP_LAP_LAST us

omit hruns in
theorem lapCounted_laps : (s.lapCounted d sec us).get (Pg.sctl d sec) Sctl.SCTL_AUDIT_CNT_LAPS =
    satAdd Sctl.SCTL_AUDIT_CNT_LAPS.width (s.get (Pg.sctl d sec) Sctl.SCTL_AUDIT_CNT_LAPS) 1 := by
  unfold lapCounted
  rw [get_set_other _ _ (fieldKey_ne (by decide)), get_count_same]
  exact satAdd_mod _ _ _

theorem auditLap_later (hrefs : s.references d sec ≠ []) : s.auditLap d sec us =
    if s.flag (Pg.sctl d sec) Sctl.SCTL_AUDIT_TEST_FLIP_ONCE = true then
      ((s.lapCounted d sec us).set (Pg.sctl d sec) Sctl.SCTL_AUDIT_TEST_FLIP_ONCE 0).auditTransient d sec
        (s.get (Pg.sctl d sec) Sctl.SCTL_AUDIT_TEST_TILE)
    else s.lapCounted d sec us :=
  (if_neg (by simp [hruns])).trans (if_neg hrefs)

omit hruns in
theorem references_of_boot {t : State} (h : t.boot.references = s.boot.references) : t.references d sec = s.references d sec := by
  rw [references, references, h]

/-- Lap 0 stores the references, shows the sector's CRC, and finds a lasting mismatch with the image's value. -/
theorem auditLap_stores (hsec : isSector d sec = true) (hrefs : s.references d sec = []) :
    (s.auditLap d sec us).references d sec = (List.range 129).map (s.auditCrc d sec) ∧
    (SMap.read none s.boot.sectorCrcs (sectorKey d sec) = none ∨
      SMap.read none s.boot.sectorCrcs (sectorKey d sec) = some (s.sectorCrc d sec) →
      (s.auditLap d sec us).get (Pg.sctl d sec) Sctl.SCTL_AUDIT_SIG_SIG = (s.sectorCrc d sec).toNat) ∧
    ∀ x, SMap.read none s.boot.sectorCrcs (sectorKey d sec) = some x → x ≠ s.sectorCrc d sec →
      AuditLasting s (s.auditLap d sec us) d sec := by
  refine ⟨?_, fun hwant => ?_, fun x hx hne => ?_⟩
  · by_cases hwant : SMap.read none s.boot.sectorCrcs (sectorKey d sec) = none ∨
        SMap.read none s.boot.sectorCrcs (sectorKey d sec) = some (s.sectorCrc d sec)
    · rw [auditLap_of_agree hruns us hrefs hwant]
      exact lapZero_references us
    · rw [not_or, ← ne_eq, Option.ne_none_iff_exists'] at hwant
      obtain ⟨⟨x, hx⟩, hne⟩ := hwant
      rw [auditLap_of_differ hruns us hrefs hx fun he => hne (he ▸ hx)]
      exact (references_of_boot (auditLasting_references 3 0)).trans (lapZero_references us)
  · rw [auditLap_of_agree hruns us hrefs hwant]
    exact lapZero_signature us
  · rw [auditLap_of_differ hruns us hrefs hx hne]
    have hlasts := auditLasting_lasts (s := s.lapZero d sec us) hsec 3 0
    exact hlasts.of_course (by rw [lapZero_boot]) (by rw [lapZero_boot])

/-- A later lap keeps the references and counts; an armed `FLIP_ONCE` shows as one transient mismatch and is spent. -/
theorem auditLap_counts (hsec : isSector d sec = true) (hrefs : s.references d sec ≠ []) :
    (s.auditLap d sec us).references d sec = s.references d sec ∧
    (s.auditLap d sec us).get (Pg.sctl d sec) Sctl.SCTL_AUDIT_CNT_LAPS =
      satAdd Sctl.SCTL_AUDIT_CNT_LAPS.width (s.get (Pg.sctl d sec) Sctl.SCTL_AUDIT_CNT_LAPS) 1 ∧
    (s.flag (Pg.sctl d sec) Sctl.SCTL_AUDIT_TEST_FLIP_ONCE = true → AuditTransient s (s.auditLap d sec us) (Pg.sctl d sec) ∧
      (s.auditLap d sec us).get (Pg.sctl d sec) Sctl.SCTL_AUDIT_TEST_FLIP_ONCE = 0) := by
  rw [auditLap_later hruns us hrefs]
  cases hflip : s.flag (Pg.sctl d sec) Sctl.SCTL_AUDIT_TEST_FLIP_ONCE with
  | false => exact ⟨rfl, lapCounted_laps us, nofun⟩
  | true =>
    rw [if_pos rfl]
    obtain ⟨hraised, hcount⟩ := auditTransient_counts (s := (s.lapCounted d sec us).set (Pg.sctl d sec) Sctl.SCTL_AUDIT_TEST_FLIP_ONCE 0) hsec
      (s.get (Pg.sctl d sec) Sctl.SCTL_AUDIT_TEST_TILE)
    refine ⟨?references, ?laps, fun _ => ⟨⟨hraised, hcount.trans ?transient⟩, ?spent⟩⟩
    case references =>
      have hboot := auditTransient_boot (s := (s.lapCounted d sec us).set (Pg.sctl d sec) Sctl.SCTL_AUDIT_TEST_FLIP_ONCE 0) d sec
        (s.get (Pg.sctl d sec) Sctl.SCTL_AUDIT_TEST_TILE)
      exact references_of_boot (congrArg BootState.references hboot)
    case laps =>
      rw [get_auditTransient hsec _ (by decide) (by decide), get_set_other _ _ (fieldKey_ne (by decide))]
      exact lapCounted_laps us
    case transient =>
      unfold lapCounted
      rw [get_set_other _ _ (fieldKey_ne (by decide)), get_set_other _ _ (fieldKey_ne (by decide)), get_count_other _ _ (fieldKey_ne (by decide))]
    case spent =>
      rw [get_auditTransient hsec _ (by decide) (by decide)]
      exact get_set_same _ _ _ _ _

end

/-- A tile whose CRC differs from its reference (R447). -/
theorem auditDiffers_eq (tile : Nat) (clean : Bool) : s.auditDiffers d sec tile clean =
    if s.auditRuns d sec = false ∨ s.references d sec = [] then s
    else if clean then s.auditTransient d sec tile else s.auditLasting d sec 2 tile := rfl

end Sys2Proof.Machine.State
end

section
/-! SUPPORT. The crossing map's parts that leave the controller alone (R129, R160): the splits of the ports, and the outcomes of modules that change
their role. -/

namespace Sys2Proof.Machine

open Reg

/-! ## Steps over a list -/

section
variable {α σ : Type} {f : α → σ → σ} {inv P : σ → Prop}

/-- What one step of a list sets and no step undoes holds after the list. -/
theorem forEach_reaches {a : α} {xs : List α} (ha : a ∈ xs) (hinv : ∀ x ∈ xs, ∀ u, inv u → inv (f x u))
    (hset : ∀ u, inv u → P (f a u))
    (hkeep : ∀ x ∈ xs, ∀ u, inv u → P u → P (f x u)) {s : σ} (hs : inv s) : P (forEach xs f s) := by
  have hkept : ∀ ys : List α, (∀ x ∈ ys, x ∈ xs) → ∀ u, inv u → P u → P (forEach ys f u) := by
    intro ys
    induction ys with
    | nil => exact fun _ _ _ hu => hu
    | cons y ys ih =>
      intro hys u hu hp
      have hy := hys y (by simp)
      exact ih (fun x hx => hys x (by simp [hx])) _ (hinv y hy u hu) (hkeep y hy u hu hp)
  have hreached : ∀ ys : List α, (∀ x ∈ ys, x ∈ xs) → a ∈ ys → ∀ u, inv u → P (forEach ys f u) := by
    intro ys
    induction ys with
    | nil => simp
    | cons y ys ih =>
      intro hys hmem u hu
      have hrest : ∀ x ∈ ys, x ∈ xs := fun x hx => hys x (by simp [hx])
      obtain rfl | hmem := List.mem_cons.1 hmem
      · exact hkept ys hrest _ (hinv a ha u hu) (hset u hu)
      · exact ih hrest hmem _ (hinv y (hys y (by simp)) u hu)
  exact hreached xs (fun _ h => h) ha s hs

theorem forEach_invariant {xs : List α} (h : ∀ x ∈ xs, ∀ u, inv u → inv (f x u)) {s : σ} (hs : inv s) : inv (forEach xs f s) := by
  induction xs generalizing s with
  | nil => exact hs
  | cons x xs ih => exact ih (fun y hy => h y (by simp [hy])) (h x (by simp) s hs)

end

namespace State

variable (s : State)

/-! ## The controller's state stays -/

theorem portEvent_boot (d code sev p wire : Nat) (int : Option Nat) (warns : Bool) : (s.portEvent d code sev p wire int warns).boot = s.boot := by
  unfold portEvent
  cases int <;> cases warns <;> simp

theorem historyOnce_boot (kind page location what : Nat) : (s.historyOnce kind page location what).boot = s.boot := by
  unfold historyOnce
  split <;> simp

theorem moveTo_boot (d p : Nat) : (s.moveTo d p).boot = s.boot := by
  rw [moveTo_eq]
  exact (portEvent_boot _ _ _ _ _ _ _ _).trans (history_boot _ _ _ _ _)

theorem closeGate_boot (d r : Nat) : (s.closeGate d r).boot = s.boot := by
  unfold closeGate
  split <;> rfl

theorem forceHold_boot (d m : Nat) : (s.forceHold d m).boot = s.boot := by
  unfold forceHold
  exact forEach_keeps State.boot _ (fun r u => u.closeGate_boot d r) _

theorem crossLost_boot (d p m dir : Nat) : (s.crossLost d p m dir).boot = s.boot := by
  rcases s.crossLost_cases d p m dir with h | h
  · rw [h]
  · rw [s.crossLost_of_new p h]
    have hheld : (s.destinationsHeld d m dir).boot = s.boot := by
      unfold destinationsHeld
      exact (forEach_keeps State.boot (s.fedBy d m dir) (f := fun em u => u.forceHold em.1 em.2) (fun em u => u.forceHold_boot em.1 em.2) _)
    rw [portEvent_boot, fatal_boot, hheld]

theorem crossingFails_boot (d p dir : Nat) (planned : Bool) : (s.crossingFails d p dir planned).boot = s.boot := by
  unfold crossingFails
  split_ifs
  · rfl
  · rfl
  · exact s.moveTo_boot d p
  · exact s.crossLost_boot d p _ dir

theorem skeinHalf_boot (d p : Nat) (dirs : Bool × Bool) : (s.skeinHalf d p dirs).boot = s.boot := by
  unfold skeinHalf
  refine (portEvent_boot _ _ _ _ _ _ _ _).trans ?_
  dsimp only
  split_ifs
  · exact (historyOnce_boot _ _ _ _ _).trans (historyOnce_boot _ _ _ _ _)
  · exact historyOnce_boot _ _ _ _ _
  · exact historyOnce_boot _ _ _ _ _
  · rfl

theorem skeinWidth_boot (d p : Nat) : (s.skeinWidth d p).boot = s.boot := by
  unfold skeinWidth
  split_ifs
  · rfl
  · rfl
  · exact s.skeinHalf_boot d p _
  · exact portEvent_boot _ _ _ _ _ _ _ _

theorem moduleOutcome_boot (d p : Nat) : (s.moduleOutcome d p).boot = s.boot := by
  unfold moduleOutcome
  split_ifs
  · exact s.crossingFails_boot d p 0 false
  · exact s.crossingFails_boot d p 1 false
  · rfl
  · exact s.skeinWidth_boot d p
  · rfl

theorem setRoles_boot (d : Nat) : (s.setRoles d).boot = s.boot := by
  unfold setRoles
  refine forEach_keeps State.boot _ (fun p u => ?_) s
  split <;> rfl

theorem framesLost_boot (d : Nat) : (s.framesLost d).boot = s.boot := by
  unfold framesLost
  exact forEach_keeps State.boot _ (fun m u => u.setSlice_boot d m _) _

/-! ## The splits of a map (R138, R160) -/

/-- The port shows the split, and its modules have their roles. -/
def splitShown (s : State) (d v : Nat) : State := (s.set (Pg.port d) Port.CTL_SPLIT v).setRoles d

/-- The modules whose role a split changes. -/
def splitMoved (s : State) (d v : Nat) : List Nat := (s.liveModules d).filter (fun p => s.modRole d p ≠ (s.splitShown d v).modRole d p)

/-- The links of those modules are new. -/
def splitLinked (s : State) (d v : Nat) : State :=
  forEach (s.splitMoved d v) (fun p u => (u.setLinkDir d (u.modLogical d p) 0 {}).setLinkDir d (u.modLogical d p) 1 {})
    ((s.splitShown d v).framesLost d)

variable {s} {d v : Nat}

theorem mapSplits_of_same (h : s.get (Pg.port d) Port.CTL_SPLIT = v) : s.mapSplits d v = s := if_pos h

theorem mapSplits_of_other (h : s.get (Pg.port d) Port.CTL_SPLIT ≠ v) : s.mapSplits d v =
    if (s.splitLinked d v).portActive d then forEach (s.splitMoved d v) (fun p u => u.moduleOutcome d p) (s.splitLinked d v)
    else s.splitLinked d v := if_neg h

/-- New links change neither a register nor the controller. -/
theorem linksNew (u : State) (p : Nat) :
    let t := (u.setLinkDir d (u.modLogical d p) 0 {}).setLinkDir d (u.modLogical d p) 1 {}
    t.boot = u.boot ∧ t.regs = u.regs := ⟨rfl, rfl⟩

theorem splitLinked_boot : (s.splitLinked d v).boot = s.boot := by
  unfold splitLinked
  rw [forEach_keeps State.boot _ fun p u => (linksNew u p).1]
  exact (framesLost_boot _ d).trans (setRoles_boot _ d)

theorem splitLinked_regs : (s.splitLinked d v).regs = (s.splitShown d v).regs := by
  unfold splitLinked
  rw [forEach_keeps State.regs _ fun p u => (linksNew u p).2]
  exact framesLost_regs _ d

theorem mapSplits_boot (s : State) (d v : Nat) : (s.mapSplits d v).boot = s.boot := by
  by_cases h : s.get (Pg.port d) Port.CTL_SPLIT = v
  · rw [mapSplits_of_same h]
  · rw [mapSplits_of_other h]
    split
    · exact (forEach_keeps State.boot _ (fun p u => u.moduleOutcome_boot d p) _).trans splitLinked_boot
    · exact splitLinked_boot

/-- A split that is not the port's is work on its modules once it stands. -/
theorem mapSplits_works (hd : isPort d = true) (h : s.get (Pg.port d) Port.CTL_SPLIT ≠ v) :
    Works d (s.set (Pg.port d) Port.CTL_SPLIT v) (s.mapSplits d v) := by
  have hlinked : Works d (s.set (Pg.port d) Port.CTL_SPLIT v) (s.splitLinked d v) :=
    (setRoles_works _ d).trans (Works.of_regs splitLinked_regs)
  rw [mapSplits_of_other h]
  exact Works.ite (fun _ => hlinked.trans (Works.forEach (fun p _ u => u.moduleOutcome_works hd p) _)) fun _ => hlinked

theorem mapSplits_split (hd : isPort d = true) (hv : v < 4) (s : State) : (s.mapSplits d v).get (Pg.port d) Port.CTL_SPLIT = v := by
  by_cases h : s.get (Pg.port d) Port.CTL_SPLIT = v
  · rw [mapSplits_of_same h, h]
  · rw [(mapSplits_works hd h).get (by decide), get_set_same]
    exact Nat.mod_eq_of_lt hv

/-- The splits of the ports below stay. -/
theorem mapSplits_below (hd : isPort d = true) {e : Nat} (he : 1 ≤ e ∧ e < d) (s : State) :
    (s.mapSplits d v).get (Pg.port e) Port.CTL_SPLIT = s.get (Pg.port e) Port.CTL_SPLIT := by
  have hd6 := isPort_range hd
  have hpage : fieldKey (Pg.port e) Port.CTL_SPLIT 0 / 32768 = Pg.port e := fieldKey_page (by decide) (by decide)
  by_cases h : s.get (Pg.port d) Port.CTL_SPLIT = v
  · rw [mapSplits_of_same h]
  · refine ((mapSplits_works hd h).regs _ _ _ ?_).trans (get_set_other _ _ ?_)
    · simp only [InEvents, InBooks, InRecords, InWork, hpage]
      simp only [fieldKey, Pg.port, Pg.clock, Pg.safety, Pg.recorder, Pg.ply, Port.CTL_SPLIT, Port.STATUS_RESERVE_IN_USE, Port.STATUS_DEGRADED,
        Hdr.INT_STATUS_BLOCK]
      omega
    · simp only [fieldKey, Pg.port, Port.CTL_SPLIT]
      omega

end State
end Sys2Proof.Machine
end

section
/-! SUPPORT. The crossing map (R137, R149, R160 to R162): what rejects it, the entries of its crossbars, its span channel ports, and its body. -/

namespace Sys2Proof.Machine

open Reg

/-! ## What an accepted map names (R162) -/

/-- A route names a crossing module and a group. -/
def MapRoute.Ok (r : MapRoute) : Prop := isPort r.die = true ∧ r.mod < 16 ∧ r.group < 192

/-- What a route asks of its entry: EN, SRC_DIE, SRC_MOD and SRC_GROUP. -/
def MapRoute.shows (r : MapRoute) : List Nat := [bits r.entry 31 31, bits r.entry 26 24, bits r.entry 23 20, bits r.entry 7 0]

theorem mapCrossing_ok {bs : List Byte} {d m : Nat} (h : mapCrossing bs d m = true) : isPort d = true ∧ m < 16 := by
  simp only [mapCrossing, Bool.and_eq_true, decide_eq_true_eq] at h
  obtain ⟨⟨h1, h6⟩, hm⟩ := h
  refine ⟨by simp [isPort, h1, h6], lt_of_lt_of_le hm ?_⟩
  unfold crossCount
  split_ifs <;> decide

section
variable {bs : List Byte} {rate : Nat} (h : mapFault bs rate = none)
include h

/-- The splits of an accepted map, its routes and its channels are good one by one. -/
theorem mapFault_none : (∀ d ∈ [1, 2, 3, 4, 5, 6], mapSplit bs d ≤ if d ≤ 4 then 1 else 2) ∧
    (∀ i < (mapCounts bs).1, routeBad bs i = false) ∧ ∀ i < (mapCounts bs).2.2, channelBad bs i = false := by
  unfold mapFault at h
  dsimp only at h
  split at h
  case isTrue => cases h
  case isFalse hheader =>
    split at h
    case h_1 => cases h
    case h_2 hroutes =>
      split at h
      case h_1 => cases h
      case h_2 =>
        rw [Option.map_eq_none_iff] at h
        simp only [List.find?_eq_none, List.mem_range, Bool.or_eq_true, not_or] at hroutes h
        simp only [not_or, List.any_eq_true, not_exists, not_and, decide_eq_true_eq, Nat.not_lt] at hheader
        obtain ⟨-, -, -, -, -, -, -, hsplits⟩ := hheader
        exact ⟨hsplits, fun i hi => by simpa using (hroutes i hi).1, fun i hi => by simpa using (h i hi).1.1⟩

/-- An accepted map gives every port a split that its field holds. -/
theorem mapSplit_lt {d : Nat} (hd : isPort d = true) : mapSplit bs d < 4 := by
  have hd6 := isPort_range hd
  have hle := (mapFault_none h).1 d (by simp; omega)
  split at hle <;> omega

theorem mapRoutes_ok : ∀ r ∈ mapRoutes bs, r.Ok := by
  obtain ⟨-, hroutes, hchannels⟩ := mapFault_none h
  intro r hr
  simp only [mapRoutes, List.mem_append, List.mem_map, List.mem_flatMap, List.mem_range] at hr
  obtain ⟨i, hi, rfl⟩ | ⟨i, hi, hr⟩ := hr
  · have hgood := hroutes i hi
    simp only [routeBad, Bool.or_eq_false_iff, decide_eq_false_iff_not, Bool.not_eq_false'] at hgood
    obtain ⟨⟨⟨⟨⟨⟨⟨-, -⟩, hgroup⟩, hcross⟩, -⟩, -⟩, -⟩, -⟩ := hgood
    obtain ⟨hport, hmod⟩ := mapCrossing_ok hcross
    exact ⟨hport, hmod, by omega⟩
  · have hgood := hchannels i hi
    simp only [channelBad, channelPorts, Bool.or_eq_false_iff, decide_eq_false_iff_not, Bool.not_eq_false'] at hgood
    obtain ⟨⟨-, hcrossA⟩, hcrossB⟩ := hgood
    obtain ⟨hportA, hmodA⟩ := mapCrossing_ok hcrossA
    obtain ⟨hportB, hmodB⟩ := mapCrossing_ok hcrossB
    simp only [channelRoutes, List.mem_append, List.mem_map, List.mem_range, routeOf] at hr
    obtain ⟨k, hk, rfl⟩ | ⟨k, hk, rfl⟩ := hr
    · exact ⟨hportB, hmodB, by dsimp only; omega⟩
    · exact ⟨hportA, hmodA, by dsimp only; omega⟩

end

/-! ## Registers of the crossbars -/

/-- The registers of the crossbar pages. -/
def OnXbars (k : Nat) : Prop := 0x820 ≤ k / 32768 ∧ k / 32768 < 0x880

theorem onXbars_of {d m i : Nat} {f : RegField} (hd : isPort d = true) (hm : m < 16) (hf : f.inPage = true) (hi : i < f.count) :
    OnXbars (fieldKey (Pg.xbar d m) f i) := by
  have hd6 := isPort_range hd
  rw [OnXbars, fieldKey_page hf hi, Pg.xbar]
  omega

theorem not_onXbars {p i : Nat} {f : RegField} (hf : f.inPage = true) (hi : i < f.count) (hp : p < 0x820 ∨ 0x880 ≤ p) :
    ¬OnXbars (fieldKey p f i) := by
  rw [OnXbars, fieldKey_page hf hi]
  omega

/-- The error registers of a page are on it. -/
theorem errKeys_page {p k : Nat} (h : k ∈ errKeys p) : k / 32768 = p := by
  simp only [errKeys, List.mem_cons, List.not_mem_nil, or_false] at h
  obtain rfl | rfl | rfl | rfl | rfl | rfl | rfl | rfl := h <;> exact fieldKey_page (by decide) (by decide)

namespace State

variable {s t : State} {d : Nat}

/-- What changes crossbars alone leaves what locks them. -/
theorem xbarLocked_of (hd : isPort d = true) {m : Nat} (hm : m < 16) (h : ChangesIn OnXbars s t) (hfabric : t.fabric = s.fabric) :
    t.xbarLocked (Pg.xbar d m) = s.xbarLocked (Pg.xbar d m) := by
  have hd6 := isPort_range hd
  have hdie : (Pg.xbar d m - 0x820) / 16 + 1 = d := by
    unfold Pg.xbar
    omega
  have hstate : t.portState d = s.portState d := h _ _ _ (not_onXbars (by decide) (by decide) (by unfold Pg.port; omega))
  have hdom (k : Nat) (hk : k < 105) : t.domOn k = s.domOn k := by
    have hstate : t.domState k = s.domState k := h _ _ _ (not_onXbars (by decide) hk (by decide))
    rw [domOn, domOn, hstate]
  have hreset : t.get Pg.reset Reset.RST_DIE_STAT_IN_RESET = s.get Pg.reset Reset.RST_DIE_STAT_IN_RESET :=
    h _ _ _ (not_onXbars (by decide) (by decide) (by decide))
  have hgsr (sec : Nat) : t.gsrActive d sec = s.gsrActive d sec := by
    have hforce : t.get (Pg.sctl d sec) Sctl.CTL_GSR_FORCE = s.get (Pg.sctl d sec) Sctl.CTL_GSR_FORCE := by
      have hbase := le_dieBase hd6.1
      refine h _ _ _ (not_onXbars (by decide) (by decide) ?_)
      unfold Pg.sctl
      omega
    simp only [gsrActive, flag, hforce, hreset, hfabric, hdom _ (by omega : 16 * d + 1 < 105)]
  simp only [xbarLocked, hdie, hstate, adaptersReleased, hreset, hfabric, hdom _ (by omega : 16 * d < 105), funext hgsr]

/-- The pages of one port are locked together. -/
theorem xbarLocked_page (s : State) (d : Nat) {m : Nat} (hm : m < 16) : s.xbarLocked (Pg.xbar d m) = s.xbarLocked (Pg.xbar d 0) := by
  have hdie : (Pg.xbar d m - 0x820) / 16 + 1 = (Pg.xbar d 0 - 0x820) / 16 + 1 := by
    unfold Pg.xbar
    omega
  simp only [xbarLocked, hdie]

/-! ## Entries cleared (R137, R161) -/

/-- What a port's entries change when they go off. -/
structure XbarWork (s t : State) : Prop where
  leaves : Leaves OnXbars s t
  fabric : t.fabric = s.fabric

theorem XbarWork.refl (s : State) : XbarWork s s := ⟨.refl _ s, rfl⟩

theorem XbarWork.trans {u : State} (h : XbarWork s t) (h' : XbarWork t u) : XbarWork s u := ⟨h.leaves.trans h'.leaves, h'.fabric.trans h.fabric⟩

theorem XbarWork.locked (h : XbarWork s t) (hd : isPort d = true) {m : Nat} (hm : m < 16) :
    t.xbarLocked (Pg.xbar d m) = s.xbarLocked (Pg.xbar d m) := xbarLocked_of hd hm h.leaves.regs h.fabric

theorem clearXbar_locked (h : s.xbarLocked (Pg.xbar d 0) = true) : (s.clearXbar d).regs = s.regs := by
  simp [clearXbar, h]

/-- Registers that no page of the port holds stay. -/
theorem clearXbar_get {p i : Nat} {f : RegField} (h : ∀ m < 16, fieldKey p f i / 32768 ≠ Pg.xbar d m) :
    (s.clearXbar d).get p f i = s.get p f i := by
  cases hlocked : s.xbarLocked (Pg.xbar d 0) with
  | true => exact get_of_regs (clearXbar_locked hlocked) _ _ _
  | false =>
    have hkept : (!((List.range (logicalModules d)).any (fun m => fieldKey p f i / 32768 = Pg.xbar d m && 0x100 ≤ fieldKey p f i / 8 % 4096)))
        = true := by
      simp only [Bool.not_eq_true', List.any_eq_false, List.mem_range, Bool.and_eq_true, decide_eq_true_eq, not_and]
      intro m hm hpage
      refine absurd hpage (h m ?_)
      unfold logicalModules portModules at hm
      split at hm <;> omega
    have hfind := SMap.find_keep (fun k => !((List.range (logicalModules d)).any (fun m => k / 32768 = Pg.xbar d m && 0x100 ≤ k / 8 % 4096)))
      s.regs hkept
    simp only [get, clearXbar, hlocked, Bool.false_eq_true, if_false, SMap.read]
    rw [hfind]

theorem clearXbar_work (hd : isPort d = true) (s : State) : XbarWork s (s.clearXbar d) := by
  have hd6 := isPort_range hd
  refine ⟨⟨fun p f i hk => clearXbar_get fun m hm hpage => hk ?_, ?_⟩, ?_⟩
  · rw [OnXbars, hpage, Pg.xbar]
    omega
  · unfold clearXbar
    split <;> rfl
  · unfold clearXbar
    split <;> rfl

/-! ## Entries written -/

/-- The fields of a crossbar entry. -/
def entryFields : List RegField := [Xbar.XBAR_ENTRY_EN, Xbar.XBAR_ENTRY_SRC_DIE, Xbar.XBAR_ENTRY_SRC_MOD, Xbar.XBAR_ENTRY_SRC_GROUP]

theorem entryFields_places : ∀ f ∈ entryFields, f.inPage = true ∧ f.count = 192 ∧ f.off = 0x100 ∧ f.stride = 4 := by decide

/-- What an entry shows: EN, SRC_DIE, SRC_MOD and SRC_GROUP. -/
def entryOf (s : State) (p g : Nat) : List Nat := entryFields.map (fun f => s.get p f g)

theorem entryOf_of_same {p g : Nat} (h : ∀ f ∈ entryFields, t.get p f g = s.get p f g) : t.entryOf p g = s.entryOf p g :=
  List.map_congr_left h

theorem putXbar_of_locked {r : MapRoute} (h : s.xbarLocked (Pg.xbar r.die r.mod) = true) :
    s.putXbar r = s.capture (Pg.xbar r.die r.mod) 0x8 .config (0x100 + 4 * r.group) := if_pos h

theorem putXbar_of_open {r : MapRoute} (h : s.xbarLocked (Pg.xbar r.die r.mod) = false) : s.putXbar r =
    (((s.set (Pg.xbar r.die r.mod) Xbar.XBAR_ENTRY_EN (bits r.entry 31 31) r.group).set (Pg.xbar r.die r.mod) Xbar.XBAR_ENTRY_SRC_DIE
      (bits r.entry 26 24) r.group).set (Pg.xbar r.die r.mod) Xbar.XBAR_ENTRY_SRC_MOD (bits r.entry 23 20) r.group).set
      (Pg.xbar r.die r.mod) Xbar.XBAR_ENTRY_SRC_GROUP (bits r.entry 7 0) r.group := if_neg (by simp [h])

section
variable {r : MapRoute} (hr : r.Ok)
include hr

theorem putXbar_work (s : State) : XbarWork s (s.putXbar r) := by
  obtain ⟨hport, hmod, hgroup⟩ := hr
  cases h : s.xbarLocked (Pg.xbar r.die r.mod) with
  | true =>
    rw [putXbar_of_locked h]
    refine ⟨⟨fun p f i hk => ?_, capture_boot _ _ _ _ _⟩, capture_fabric _ _ _ _ _⟩
    refine capture_regs _ _ _ _ (by decide) (by omega) p f i fun hmem => hk ?_
    have hd6 := isPort_range hport
    rw [OnXbars, errKeys_page hmem, Pg.xbar]
    omega
  | false =>
    have hset (u : State) (v : Nat) {f : RegField} (hf : f.inPage = true) (hc : f.count = 192) :
        Leaves OnXbars u (u.set (Pg.xbar r.die r.mod) f v r.group) := .set u v (onXbars_of hport hmod hf (hc ▸ hgroup))
    rw [putXbar_of_open h]
    exact ⟨(((hset _ _ (by decide) rfl).trans (hset _ _ (by decide) rfl)).trans (hset _ _ (by decide) rfl)).trans (hset _ _ (by decide) rfl), rfl⟩

omit hr in
/-- An open entry shows its route. -/
theorem putXbar_entry (h : s.xbarLocked (Pg.xbar r.die r.mod) = false) : (s.putXbar r).entryOf (Pg.xbar r.die r.mod) r.group = r.shows := by
  have hlo {f g : RegField} (hf : f ∈ entryFields) (hg : g ∈ entryFields) (hne : f.lo ≠ g.lo) (i : Nat) (p : Nat) :
      fieldKey p f i ≠ fieldKey p g i := by
    obtain ⟨-, -, hoff, hstride⟩ := entryFields_places f hf
    obtain ⟨-, -, hoff', hstride'⟩ := entryFields_places g hg
    exact fieldKey_ne_of_lo (hoff.trans hoff'.symm) (hstride.trans hstride'.symm) hne
  have hfit (v w : Nat) (h : v < 2 ^ w) : v % 2 ^ w = v := Nat.mod_eq_of_lt h
  rw [putXbar_of_open h]
  simp only [entryOf, entryFields, List.map_cons, List.map_nil, MapRoute.shows, List.cons.injEq, and_true]
  refine ⟨?en, ?die, ?mod, ?group⟩
  case en =>
    rw [get_set_other _ _ (hlo (by decide) (by decide) (by decide) _ _), get_set_other _ _ (hlo (by decide) (by decide) (by decide) _ _),
      get_set_other _ _ (hlo (by decide) (by decide) (by decide) _ _), get_set_same]
    exact hfit _ _ (bits_lt _ _ _)
  case die =>
    rw [get_set_other _ _ (hlo (by decide) (by decide) (by decide) _ _), get_set_other _ _ (hlo (by decide) (by decide) (by decide) _ _),
      get_set_same]
    exact hfit _ _ (bits_lt _ _ _)
  case mod =>
    rw [get_set_other _ _ (hlo (by decide) (by decide) (by decide) _ _), get_set_same]
    exact hfit _ _ (bits_lt _ _ _)
  case group =>
    rw [get_set_same]
    exact hfit _ _ (bits_lt _ _ _)

/-- Another entry stays, and every entry of a locked page. -/
theorem putXbar_other {d m g : Nat} (hd : isPort d = true) (hm : m < 16) (hg : g < 192)
    (h : ¬(r.die = d ∧ r.mod = m ∧ r.group = g) ∨ s.xbarLocked (Pg.xbar d m) = true) :
    (s.putXbar r).entryOf (Pg.xbar d m) g = s.entryOf (Pg.xbar d m) g := by
  obtain ⟨hport, hmod, hgroup⟩ := hr
  have hd6 := isPort_range hd
  have hr6 := isPort_range hport
  refine entryOf_of_same fun f hf => ?_
  obtain ⟨hpage, hcount, hoff, hstride⟩ := entryFields_places f hf
  have hflo : f.lo < 32 := by
    simp only [RegField.inPage, RegField.inWords, Bool.and_eq_true, decide_eq_true_eq] at hpage
    omega
  cases hlocked : s.xbarLocked (Pg.xbar r.die r.mod) with
  | true =>
    rw [putXbar_of_locked hlocked]
    exact capture_get _ (by decide) (by omega) (by rw [hoff, hstride]; omega) (.inr (.inr (by rw [hoff, hstride]; omega)))
  | false =>
    have hplace : ¬(r.die = d ∧ r.mod = m ∧ r.group = g) := by
      obtain h | h := h
      · exact h
      · rintro ⟨rfl, rfl, -⟩
        simp [hlocked] at h
    have hkey {e : RegField} (he : e ∈ entryFields) : fieldKey (Pg.xbar d m) f g ≠ fieldKey (Pg.xbar r.die r.mod) e r.group := by
      obtain ⟨hepage, -, heoff, hestride⟩ := entryFields_places e he
      have helo : e.lo < 32 := by
        simp only [RegField.inPage, RegField.inWords, Bool.and_eq_true, decide_eq_true_eq] at hepage
        omega
      unfold fieldKey Pg.xbar
      rw [hoff, hstride, heoff, hestride]
      omega
    rw [putXbar_of_open hlocked, get_set_other _ _ (hkey (by decide)), get_set_other _ _ (hkey (by decide)), get_set_other _ _ (hkey (by decide)),
      get_set_other _ _ (hkey (by decide))]

end

/-! ## The map's parts, one after another -/

/-- Every port's entries are off and its split stands. -/
def mapOpened (s : State) (bs : List Byte) : State :=
  forEach [1, 2, 3, 4, 5, 6] (fun d v => (v.clearXbar d).mapSplits d (mapSplit bs d)) s

/-- The entries of the map. -/
def mapRouted (s : State) (bs : List Byte) : State := forEach (mapRoutes bs) (fun r v => v.putXbar r) s

/-- A module's receivers: port, module, mask. -/
def receiverPut (s : State) (r : Nat × Nat × Nat) : State :=
  { s with span := { s.span with receivers := SMap.write 0 s.span.receivers (spanKey r.1 r.2.1) r.2.2 } }

/-- The receivers of the map. -/
def mapReceived (s : State) (bs : List Byte) : State :=
  forEach ((List.range (mapCounts bs).2.1).map (mapReceiver bs)) (fun r v => v.receiverPut r) s

/-- The span channel ports of a die. -/
def dieSided (s : State) (bs : List Byte) (d : Nat) : State := forEach (List.range 16) (fun f w => w.mapSide d f (mapPeer bs d f)) s

/-- The span channel ports of the map. -/
def mapSided (s : State) (bs : List Byte) : State := forEach [1, 2, 3, 4] (fun d v => v.dieSided bs d) s

/-- An accepted map, applied. -/
def mapApplied (s : State) (bs : List Byte) : State := (((s.mapOpened bs).mapRouted bs).mapReceived bs).mapSided bs

theorem mem_ports {d : Nat} (h : d ∈ [1, 2, 3, 4, 5, 6]) : isPort d = true := by
  fin_cases h <;> decide

/-! ### Splits -/

section
variable {bs : List Byte}

theorem mapOpened_boot (s : State) (bs : List Byte) : (s.mapOpened bs).boot = s.boot := by
  refine forEach_invariant (inv := fun u : State => u.boot = s.boot) (fun d hd u hu => ?_) rfl
  exact (mapSplits_boot _ d _).trans ((clearXbar_work (mem_ports hd) u).leaves.boot.trans hu)

/-- A split is none of the crossbars' registers. -/
theorem not_onXbars_split {d : Nat} (hd : isPort d = true) : ¬OnXbars (fieldKey (Pg.port d) Port.CTL_SPLIT 0) := by
  have hd6 := isPort_range hd
  exact not_onXbars (by decide) (by decide) (by unfold Pg.port; omega)

theorem clearXbar_split {d e : Nat} (hd : isPort d = true) (he : isPort e = true) (s : State) :
    (s.clearXbar d).get (Pg.port e) Port.CTL_SPLIT = s.get (Pg.port e) Port.CTL_SPLIT :=
  (clearXbar_work hd s).leaves.regs _ _ _ (not_onXbars_split he)

theorem mapOpened_split {rate : Nat} (h : mapFault bs rate = none) {d : Nat} (hd : isPort d = true) (s : State) :
    (s.mapOpened bs).get (Pg.port d) Port.CTL_SPLIT = mapSplit bs d := by
  have hd6 := isPort_range hd
  obtain ⟨before, after, hports, hafter⟩ :
      ∃ before after, [1, 2, 3, 4, 5, 6] = before ++ d :: after ∧ ∀ e ∈ after, isPort e = true ∧ d < e := by
    obtain ⟨h1, h6⟩ := hd6
    interval_cases d
    · exact ⟨[], [2, 3, 4, 5, 6], rfl, by decide⟩
    · exact ⟨[1], [3, 4, 5, 6], rfl, by decide⟩
    · exact ⟨[1, 2], [4, 5, 6], rfl, by decide⟩
    · exact ⟨[1, 2, 3], [5, 6], rfl, by decide⟩
    · exact ⟨[1, 2, 3, 4], [6], rfl, by decide⟩
    · exact ⟨[1, 2, 3, 4, 5], [], rfl, by decide⟩
  unfold mapOpened
  rw [hports, forEach, List.foldl_append, List.foldl_cons]
  refine forEach_invariant (xs := after) (inv := fun u : State => u.get (Pg.port d) Port.CTL_SPLIT = mapSplit bs d) (fun e he u hu => ?_)
    (mapSplits_split hd (mapSplit_lt h hd) _)
  obtain ⟨heport, hlt⟩ := hafter e he
  exact (mapSplits_below heport ⟨hd6.1, hlt⟩ _).trans ((clearXbar_split heport hd u).trans hu)

/-- A map of the splits that stand only clears entries; those of a locked page stay. -/
theorem mapOpened_of_same (hsame : ∀ d, isPort d = true → s.get (Pg.port d) Port.CTL_SPLIT = mapSplit bs d) {d m g : Nat} (hd : isPort d = true)
    (hm : m < 16) (hg : g < 192) : XbarWork s (s.mapOpened bs) ∧
    (s.xbarLocked (Pg.xbar d m) = true → (s.mapOpened bs).entryOf (Pg.xbar d m) g = s.entryOf (Pg.xbar d m) g) := by
  refine forEach_invariant (inv := fun u : State => XbarWork s u ∧
    (s.xbarLocked (Pg.xbar d m) = true → u.entryOf (Pg.xbar d m) g = s.entryOf (Pg.xbar d m) g)) (fun e he u hu => ?_) ⟨.refl s, fun _ => rfl⟩
  obtain ⟨hwork, hentry⟩ := hu
  have heport := mem_ports he
  have hcleared := clearXbar_work heport u
  have hsplit : (u.clearXbar e).get (Pg.port e) Port.CTL_SPLIT = mapSplit bs e :=
    ((hwork.trans hcleared).leaves.regs _ _ _ (not_onXbars_split heport)).trans (hsame e heport)
  rw [mapSplits_of_same hsplit]
  refine ⟨hwork.trans hcleared, fun hlocked => Eq.trans (entryOf_of_same fun f hf => ?_) (hentry hlocked)⟩
  by_cases hde : e = d
  · subst hde
    have hlocked0 : u.xbarLocked (Pg.xbar e 0) = true := by rw [hwork.locked hd (by decide), ← s.xbarLocked_page e hm, hlocked]
    exact get_of_regs (clearXbar_locked hlocked0) _ _ _
  · obtain ⟨hpage, hcount, -, -⟩ := entryFields_places f hf
    have hd6 := isPort_range hd
    have he6 := isPort_range heport
    refine clearXbar_get fun m' hm' => ?_
    rw [fieldKey_page hpage (by omega)]
    unfold Pg.xbar
    omega

/-! ### Entries -/

section
variable {rate : Nat} (h : mapFault bs rate = none)
include h

theorem mapRouted_work (s : State) : XbarWork s (s.mapRouted bs) :=
  forEach_invariant (inv := XbarWork s) (fun r hr u hu => hu.trans (putXbar_work (mapRoutes_ok h r hr) u)) (.refl s)

theorem mapRouted_locked {d m g : Nat} (hd : isPort d = true) (hm : m < 16) (hg : g < 192) (hlocked : s.xbarLocked (Pg.xbar d m) = true) :
    (s.mapRouted bs).entryOf (Pg.xbar d m) g = s.entryOf (Pg.xbar d m) g := by
  have hinv := forEach_invariant (inv := fun u : State => XbarWork s u ∧ u.entryOf (Pg.xbar d m) g = s.entryOf (Pg.xbar d m) g)
    (f := fun r v => v.putXbar r) (xs := mapRoutes bs) (fun r hr u hu => ?_) ⟨.refl s, rfl⟩
  · exact hinv.2
  · obtain ⟨hwork, hentry⟩ := hu
    have hok := mapRoutes_ok h r hr
    exact ⟨hwork.trans (putXbar_work hok u), (putXbar_other hok hd hm hg (.inr ((hwork.locked hd hm).trans hlocked))).trans hentry⟩

/-- An entry that one route alone names shows it. -/
theorem mapRouted_entry {r : MapRoute} (hr : r ∈ mapRoutes bs)
    (honce : ∀ q ∈ mapRoutes bs, q.die = r.die → q.mod = r.mod → q.group = r.group → q = r)
    (hopen : s.xbarLocked (Pg.xbar r.die r.mod) = false) : (s.mapRouted bs).entryOf (Pg.xbar r.die r.mod) r.group = r.shows := by
  have hok := mapRoutes_ok h
  obtain ⟨hport, hmod, hgroup⟩ := hok r hr
  refine forEach_reaches (inv := XbarWork s) (P := fun u : State => u.entryOf (Pg.xbar r.die r.mod) r.group = r.shows) hr
    (fun q hq u hu => hu.trans (putXbar_work (hok q hq) u)) (fun u hu => putXbar_entry ((hu.locked hport hmod).trans hopen))
    (fun q hq u hu hshown => ?_) (.refl s)
  by_cases hsame : q.die = r.die ∧ q.mod = r.mod ∧ q.group = r.group
  · obtain ⟨hdie, hm, hg⟩ := hsame
    obtain rfl := honce q hq hdie hm hg
    exact putXbar_entry ((hu.locked hport hmod).trans hopen)
  · exact (putXbar_other (hok q hq) hport hmod hgroup (.inl hsame)).trans hshown

end

/-! ### Span channel ports (R149) -/

/-- The fields of a span channel port that a map writes. -/
def sideFields : List RegField := [Xport.SFIFO_CTL_EN, Xport.SFIFO_CTL_PEER_DIE, Xport.SFIFO_CTL_PEER_PORT, Xport.SFIFO_STATUS_ERROR,
  Xport.SFIFO_STATUS_READY, Xport.SFIFO_STATUS_CREDITS]

/-- The registers of one span channel port. -/
def OnSide (d f k : Nat) : Prop := ∃ g ∈ sideFields, k = fieldKey (Pg.xport d) g f

theorem mapSide_leaves (d f : Nat) (peer : Option (Nat × Nat)) (s : State) : Leaves (OnSide d f) s (s.mapSide d f peer) := by
  have hset (u : State) (v : Nat) {g : RegField} (hg : g ∈ sideFields) : Leaves (OnSide d f) u (u.set (Pg.xport d) g v f) :=
    .set u v ⟨g, hg, rfl⟩
  have hside (u : State) (x : SpanSide) : Leaves (OnSide d f) u (u.setSide d f x) := .of_regs _ rfl rfl
  have hchannel (u : State) (a b c : Nat) : Leaves (OnSide d f) u (((u.set (Pg.xport d) Xport.SFIFO_CTL_EN a f).set (Pg.xport d)
      Xport.SFIFO_CTL_PEER_DIE b f).set (Pg.xport d) Xport.SFIFO_CTL_PEER_PORT c f) :=
    ((hset u _ (by decide)).trans (hset _ _ (by decide))).trans (hset _ _ (by decide))
  have hrestart (u : State) : Leaves (OnSide d f) u (u.sideRestart d f) :=
    ((hset u _ (by decide)).trans (hset _ _ (by decide))).trans (hset _ _ (by decide))
  cases peer with
  | some e => exact .ite (fun _ => hchannel s _ _ _) fun _ => ((hchannel s _ _ _).trans (hside _ _)).trans (hrestart _)
  | none =>
    refine .ite (fun _ => ?_) fun _ => .refl _ s
    exact (((hchannel s _ _ _).trans (hset _ _ (by decide))).trans (hset _ _ (by decide))).trans (hside _ _)

theorem mapSide_en (d f : Nat) (peer : Option (Nat × Nat)) (s : State) :
    (s.mapSide d f peer).flag (Pg.xport d) Xport.SFIFO_CTL_EN f = peer.isSome := by
  have hplaces : ∀ g ∈ sideFields, g ≠ Xport.SFIFO_CTL_EN → g.inWords = true ∧ Xport.SFIFO_CTL_EN.lo ≠ g.lo := by decide
  have hother {g : RegField} (u : State) (v : Nat) (hg : g ∈ sideFields) (hne : g ≠ Xport.SFIFO_CTL_EN) :
      (u.set (Pg.xport d) g v f).get (Pg.xport d) Xport.SFIFO_CTL_EN f = u.get (Pg.xport d) Xport.SFIFO_CTL_EN f :=
    u.get_set_of_bit v (hplaces g hg hne).1 (by decide) (hplaces g hg hne).2
  have hchannel (u : State) (a b c : Nat) : (((u.set (Pg.xport d) Xport.SFIFO_CTL_EN a f).set (Pg.xport d) Xport.SFIFO_CTL_PEER_DIE b f).set
      (Pg.xport d) Xport.SFIFO_CTL_PEER_PORT c f).get (Pg.xport d) Xport.SFIFO_CTL_EN f = a % 2 := by
    rw [hother _ _ (by decide) (by decide), hother _ _ (by decide) (by decide), get_set_same]
    rfl
  have hrestart (u : State) : (u.sideRestart d f).get (Pg.xport d) Xport.SFIFO_CTL_EN f = u.get (Pg.xport d) Xport.SFIFO_CTL_EN f := by
    unfold sideRestart
    rw [hother _ _ (by decide) (by decide), hother _ _ (by decide) (by decide), hother _ _ (by decide) (by decide)]
  unfold mapSide flag
  cases peer with
  | some e =>
    dsimp only
    split
    · rw [hchannel]
      rfl
    · rw [hrestart, setSide_get, hchannel]
      rfl
  | none =>
    dsimp only
    split
    · rw [setSide_get, hother _ _ (by decide) (by decide), hother _ _ (by decide) (by decide), hchannel]
      rfl
    case isFalse h => simpa using h

theorem not_onSide_en {d f d' f' : Nat} (h : ¬(d = d' ∧ f = f')) (hd : d ≤ 4) (hd' : d' ≤ 4) (hf : f < 16) (hf' : f' < 16) :
    ¬OnSide d f (fieldKey (Pg.xport d') Xport.SFIFO_CTL_EN f') := by
  rintro ⟨g, hg, hkey⟩
  have hplaces : ∀ g ∈ sideFields,
      g.inPage = true ∧ g.count = 16 ∧ (g = Xport.SFIFO_CTL_EN ∨ g.inWords = true ∧ Xport.SFIFO_CTL_EN.lo ≠ g.lo) := by
    decide
  obtain ⟨hpage, hcount, rfl | ⟨hwords, hlo⟩⟩ := hplaces g hg
  · have hdie : Pg.xport d' = Pg.xport d := by
      rw [← fieldKey_page (p := Pg.xport d') hpage (hcount ▸ hf'), hkey, fieldKey_page hpage (hcount ▸ hf)]
    simp only [fieldKey, hdie, Xport.SFIFO_CTL_EN] at hkey
    unfold Pg.xport Pg.dieBase at hdie
    split_ifs at hdie <;> omega
  · exact fieldKey_ne_of_bit (by decide) hwords hlo hkey

theorem mapSided_leaves (s : State) (bs : List Byte) : Leaves (fun k => 0x1000 ≤ k / 32768) s (s.mapSided bs) := by
  refine .forEach (fun d hd u => .forEach (fun f _ v => (mapSide_leaves d f _ v).mono ?_) u) s
  rintro k ⟨g, -, rfl⟩
  have hd1 : 1 ≤ d := by fin_cases hd <;> decide
  exact (le_xport hd1).trans (le_fieldKey_page _ _ _)

theorem mapSided_en (s : State) (bs : List Byte) {d f : Nat} (hd : 1 ≤ d ∧ d ≤ 4) (hf : f < 16) :
    (s.mapSided bs).flag (Pg.xport d) Xport.SFIFO_CTL_EN f = (mapPeer bs d f).isSome := by
  have hmem : d ∈ [1, 2, 3, 4] := by
    simp
    omega
  have hle : ∀ e ∈ [1, 2, 3, 4], e ≤ 4 := by decide
  have hkeep {e g : Nat} (he : e ≤ 4) (hg : g < 16) (u : State)
      (hu : u.flag (Pg.xport d) Xport.SFIFO_CTL_EN f = (mapPeer bs d f).isSome) :
      (u.mapSide e g (mapPeer bs e g)).flag (Pg.xport d) Xport.SFIFO_CTL_EN f = (mapPeer bs d f).isSome := by
    by_cases hsame : e = d ∧ g = f
    · obtain ⟨rfl, rfl⟩ := hsame
      exact mapSide_en _ _ _ _
    · rw [flag, (mapSide_leaves e g _ u).regs _ _ _ (not_onSide_en hsame he hd.2 hg hf)]
      exact hu
  refine forEach_reaches (inv := fun _ : State => True) (P := fun u : State => u.flag (Pg.xport d) Xport.SFIFO_CTL_EN f = (mapPeer bs d f).isSome)
    hmem (fun _ _ _ _ => trivial) (fun u _ => ?_) (fun e he u _ hu => ?_) trivial
  · exact forEach_reaches (inv := fun _ : State => True) (List.mem_range.2 hf) (fun _ _ _ _ => trivial) (fun v _ => mapSide_en d f _ v)
      (fun g hg v _ hv => hkeep hd.2 (List.mem_range.1 hg) v hv) trivial
  · exact forEach_invariant (inv := fun v : State => v.flag (Pg.xport d) Xport.SFIFO_CTL_EN f = (mapPeer bs d f).isSome)
      (fun g hg v hv => hkeep (hle e he) (List.mem_range.1 hg) v hv) hu

/-! ## The map as a whole -/

theorem mapReceived_leaves (a : Nat → Prop) (s : State) (bs : List Byte) : Leaves a s (s.mapReceived bs) := by
  unfold mapReceived
  exact .forEach (fun r _ u => (.of_regs a rfl rfl : Leaves a u (u.receiverPut r))) s

/-- What follows the crossbars' entries changes registers of the dies alone. -/
theorem mapApplied_leaves (s : State) (bs : List Byte) :
    Leaves (fun k => 0x1000 ≤ k / 32768) ((s.mapOpened bs).mapRouted bs) (s.mapApplied bs) :=
  (mapReceived_leaves _ _ bs).trans (mapSided_leaves _ bs)

theorem mapApplied_get {p i : Nat} {f : RegField} (hf : f.inPage = true) (hi : i < f.count) (hp : p < 0x1000) :
    (s.mapApplied bs).get p f i = ((s.mapOpened bs).mapRouted bs).get p f i := by
  refine (mapApplied_leaves s bs).regs _ _ _ ?_
  rw [fieldKey_page hf hi]
  omega

theorem mapApplied_en (s : State) (bs : List Byte) {d f : Nat} (hd : 1 ≤ d ∧ d ≤ 4) (hf : f < 16) :
    (s.mapApplied bs).flag (Pg.xport d) Xport.SFIFO_CTL_EN f = (mapPeer bs d f).isSome := mapSided_en _ bs hd hf

section
variable {rate : Nat} (h : mapFault bs rate = none)
include h

theorem mapApplied_boot (s : State) : (s.mapApplied bs).boot = s.boot :=
  (mapApplied_leaves s bs).boot.trans ((mapRouted_work h _).leaves.boot.trans (s.mapOpened_boot bs))

theorem mapApplied_takes (s : State) : TakesBody s ((s.mapApplied bs).keepBody bs) bs :=
  (TakesBody.keepBody s bs).of_boot (by simp only [keepBody, mapApplied_boot h])

theorem mapApplied_split {d : Nat} (hd : isPort d = true) (s : State) : (s.mapApplied bs).get (Pg.port d) Port.CTL_SPLIT = mapSplit bs d := by
  have hd6 := isPort_range hd
  rw [mapApplied_get (by decide) (by decide) (by unfold Pg.port; omega),
    (mapRouted_work h _).leaves.regs _ _ _ (not_onXbars_split hd), mapOpened_split h hd]

/-- A map of the splits that stand gives every entry that one route names what the route asks, unless its page is locked. -/
theorem mapApplied_entry (hsame : ∀ d, isPort d = true → s.get (Pg.port d) Port.CTL_SPLIT = mapSplit bs d) {r : MapRoute}
    (hr : r ∈ mapRoutes bs) (honce : ∀ q ∈ mapRoutes bs, q.die = r.die → q.mod = r.mod → q.group = r.group → q = r) :
    (s.mapApplied bs).entryOf (Pg.xbar r.die r.mod) r.group =
      if s.xbarLocked (Pg.xbar r.die r.mod) then s.entryOf (Pg.xbar r.die r.mod) r.group else r.shows := by
  obtain ⟨hport, hmod, hgroup⟩ := mapRoutes_ok h r hr
  have hd6 := isPort_range hport
  have happlied : (s.mapApplied bs).entryOf (Pg.xbar r.die r.mod) r.group =
      ((s.mapOpened bs).mapRouted bs).entryOf (Pg.xbar r.die r.mod) r.group := by
    refine entryOf_of_same fun f hf => ?_
    obtain ⟨hpage, hcount, -, -⟩ := entryFields_places f hf
    exact mapApplied_get hpage (hcount ▸ hgroup) (by unfold Pg.xbar; omega)
  obtain ⟨hwork, hkept⟩ := mapOpened_of_same hsame hport hmod hgroup
  have hlocked := hwork.locked hport hmod
  rw [happlied]
  split
  case isTrue hl => rw [mapRouted_locked h hport hmod hgroup (hlocked.trans hl), hkept hl]
  case isFalse hl => exact mapRouted_entry h hr honce (hlocked.trans (by simpa using hl))

end

theorem sectionDone_regs (s : State) : s.sectionDone.regs = s.regs := rfl

section
variable {x : BootSection} {rest : List BootSection} (hat : AtSection s x rest) (hloading : s.loading = true) (htype : x.type = 4)
  (hport : x.die = 0 ∨ s.portActive x.die = true)
include hat hloading htype hport

/-- A rejected map fails the load (R162). -/
theorem xmapRead_rejected {k : Nat} (h : mapFault bs (s.get Pg.clock Clock.CLK_SPAN_ACTIVE) = some k) : LoadFailed (s.xmapRead bs) 5 := by
  rw [xmapRead, atSection_of_head hloading hat.sections htype hport, h]
  exact failHere_failed hat (by decide) k

theorem xmapRead_accepted (h : mapFault bs (s.get Pg.clock Clock.CLK_SPAN_ACTIVE) = none) :
    s.xmapRead bs = ((s.mapApplied bs).keepBody bs).bodyEnds := by
  rw [xmapRead, atSection_of_head hloading hat.sections htype hport, h]
  simp only [hat.reload, List.filter_true]
  rfl

/-- An accepted map ends its section or fails it; ended, it gives each port its split, its span channels and the entries it names once. -/
theorem xmapRead_ended (h : mapFault bs (s.get Pg.clock Clock.CLK_SPAN_ACTIVE) = none) :
    BodyEnded (s.xmapRead bs) rest (s.bodyVerdict x rest bs) ∧
    (s.bodyVerdict x rest bs = none → (∀ p f i, (s.xmapRead bs).get p f i = (s.mapApplied bs).get p f i)) := by
  have htakes := mapApplied_takes h s
  rw [xmapRead_accepted hat hloading htype hport h]
  refine ⟨bodyEnds_ended hat htakes, fun hnone p f i => ?_⟩
  rw [bodyEnds_of_none hat htakes hnone]
  exact get_of_regs ((sectionDone_regs _).trans (keepBody_regs _ _)) _ _ _

end

end

end State
end Sys2Proof.Machine
end

section
/-! SUPPORT. Writes of registers leave the queue of commands alone (R41, R42): each operation that a write may come to, in the order of the model. -/

namespace Sys2Proof.Machine.State

open Reg

variable (s : State)

/-! ## Branches and lists of steps -/

@[simp] theorem pending_ite (c : Prop) [Decidable c] (a b : State) : (if c then a else b).pending = if c then a.pending else b.pending :=
  apply_ite State.pending c a b

@[simp] theorem pending_forEach {α : Type} (xs : List α) (f : α → State → State) (s : State) (h : ∀ x u, (f x u).pending = u.pending) :
    (forEach xs f s).pending = s.pending := forEach_keeps State.pending xs h s

/-! ## Ply ring -/

@[simp] theorem setPort_pending (e v : Nat) : (s.setPort e v).pending = s.pending := by simp [setPort]

/-! ## Fabric -/

@[simp] theorem trackWritten_pending (old : State) (page n : Nat) : (s.trackWritten old page n).pending = s.pending := by simp [trackWritten]

/-! ## Banks -/

@[simp] theorem testStart_pending (page : Nat) (write : Bool) : (s.testStart page write).pending = s.pending := by simp [testStart]

@[simp] theorem testsEnd_pending (mine : Nat → Bool) : (s.testsEnd mine).pending = s.pending := by simp [testsEnd]

/-! ## Blocks -/

@[simp] theorem holdBlocks_pending (d sec : Nat) : (s.holdBlocks d sec).pending = s.pending := by
  have hwalks (u : State) : (forEach (List.range 50) (fun q v =>
      { v with mem := { v.mem with
        walk := SMap.write 0 v.mem.walk (bankKey (Pg.mi d sec) q) 0
        slowed := SMap.write false v.mem.slowed (bankKey (Pg.mi d sec) q) false } }) u).pending = u.pending := pending_forEach _ _ _ fun _ _ => rfl
  unfold holdBlocks
  dsimp only at hwalks ⊢
  rw [hwalks, pending_forEach _ _ _ fun b u => ((u.queueDrain d sec b).setQueue_pending d sec b _).trans (u.queueDrain_pending d sec b),
    pending_forEach _ _ _ fun j u => u.setBkbPort_pending d sec _ _ _, pending_forEach _ _ _ fun j u => u.setDpbPort_pending d sec _ _ _,
    testsEnd_pending]

/-! ## DSP slices -/

@[simp] theorem holdSlices_pending (d sec : Nat) : (s.holdSlices d sec).pending = s.pending := by
  unfold holdSlices
  exact pending_forEach _ _ _ fun j u => u.setDspSlice_pending d sec j _

/-! ## Lomum ports -/

@[simp] theorem putMap_pending (page p dir mask assign : Nat) : (s.putMap page p dir mask assign).pending = s.pending := by simp [putMap]

@[simp] theorem storeMap_pending (d p dir mask assign : Nat) : (s.storeMap d p dir mask assign).pending = s.pending := by simp [storeMap]

@[simp] theorem setModState_pending (d p v : Nat) : (s.setModState d p v).pending = s.pending := by simp [setModState]

@[simp] theorem setRoles_pending (d : Nat) : (s.setRoles d).pending = s.pending := by simp [setRoles]

@[simp] theorem retireWire_pending (d p dir w : Nat) : (s.retireWire d p dir w).pending = s.pending := by simp [retireWire]

@[simp] theorem framesLost_pending (d : Nat) : (s.framesLost d).pending = s.pending := by
  unfold framesLost
  exact pending_forEach _ _ _ fun m u => u.setSlice_pending d m _

@[simp] theorem beginAttempt_pending (d : Nat) : (s.beginAttempt d).pending = s.pending := by
  unfold beginAttempt
  dsimp only
  rw [pending_forEach _ _ _ fun p u => ((u.setModState d p 1).setLinkMod_pending d p _).trans (u.setModState_pending d p 1)]
  dsimp only
  rw [setRoles_pending, set_pending, count_pending, framesLost_pending]

@[simp] theorem abandonSwaps_pending (d : Nat) : (s.abandonSwaps d).pending = s.pending := by simp [abandonSwaps]

@[simp] theorem portDown_pending (d : Nat) : (s.portDown d).pending = s.pending := by
  unfold portDown
  dsimp only
  rw [pending_forEach _ _ _ fun p u => u.setModState_pending d p 0]
  dsimp only
  rw [set_pending, framesLost_pending, dropFlits_pending, abandonSwaps_pending]

@[simp] theorem startTraining_pending (d : Nat) : (s.startTraining d).pending = s.pending := by simp [startTraining]

/-! ## Span channels -/

@[simp] theorem holdSlice_pending (d m : Nat) : (s.holdSlice d m).pending = s.pending := by simp [holdSlice]

@[simp] theorem channelResync_pending (d f : Nat) : (s.channelResync d f).pending = s.pending := by simp [channelResync]

/-! ## Engines -/

@[simp] theorem setCore_pending (e : Nat) (c : EngCore) : (s.setCore e c).pending = s.pending := by simp [setCore]

@[simp] theorem setEngState_pending (e v : Nat) : (s.setEngState e v).pending = s.pending := by simp [setEngState]

@[simp] theorem engEvent_pending (e code sev : Nat) : (s.engEvent e code sev).pending = s.pending := by simp [engEvent]

theorem both_pending (e : Nat) (f : Nat → State → State) (h : ∀ x u, (f x u).pending = u.pending) : (s.both e f).pending = s.pending := by
  unfold both
  split
  · rw [h, h]
  · exact h e s

@[simp] theorem fenceI_pending (e : Nat) : (s.fenceI e).pending = s.pending := s.both_pending e _ fun x t => t.fetchNew_pending x

@[simp] theorem haltRequest_pending (e cause : Nat) : (s.haltRequest e cause).pending = s.pending := by simp [haltRequest]

@[simp] theorem timerSettle_pending (e t : Nat) : (s.timerSettle e t).pending = s.pending := by simp [timerSettle]

@[simp] theorem wdtSettle_pending (e : Nat) : (s.wdtSettle e).pending = s.pending := by simp [wdtSettle]

@[simp] theorem engSettle_pending (e : Nat) : (s.engSettle e).pending = s.pending := by simp [engSettle]

@[simp] theorem halted_pending (e pc cause : Nat) : (s.halted e pc cause).pending = s.pending := by simp [halted]

@[simp] theorem resetField_pending (page : Nat) (f : RegField) : (s.resetField page f).pending = s.pending := pending_forEach _ _ _ fun _ _ => rfl

@[simp] theorem engProceed_pending (e : Nat) : (s.engProceed e).pending = s.pending := by simp [engProceed]

@[simp] theorem engClear_pending (e : Nat) : (s.engClear e).pending = s.pending := by
  unfold engClear
  dsimp only
  rw [fenceI_pending, setEngine_pending]
  exact pending_forEach _ _ _ fun pf u => u.resetField_pending _ pf.2

@[simp] theorem engReset_pending (e : Nat) : (s.engReset e).pending = s.pending := by simp [engReset]

@[simp] theorem coreReset_pending (e : Nat) : (s.coreReset e).pending = s.pending := by simp [coreReset]

@[simp] theorem wdtReload_pending (e : Nat) : (s.wdtReload e).pending = s.pending := by simp [wdtReload]

@[simp] theorem wdtAction_pending (e : Nat) : (s.wdtAction e).pending = s.pending := by simp [wdtAction]

@[simp] theorem wdtExpiry_pending (e : Nat) : (s.wdtExpiry e).pending = s.pending := by simp [wdtExpiry]

@[simp] theorem wdtKick_pending (e value : Nat) : (s.wdtKick e value).pending = s.pending := by simp [wdtKick]

@[simp] theorem resumes_pending (e : Nat) : (s.resumes e).pending = s.pending := by simp [resumes]

@[simp] theorem pairResumes_pending (e : Nat) : (s.pairResumes e).pending = s.pending := by
  unfold pairResumes
  split <;> simp

@[simp] theorem engRun_pending (e : Nat) : (s.engRun e).pending = s.pending := by simp [engRun]

@[simp] theorem vtPut_pending (e : Nat) (b : Byte) : (s.vtPut e b).pending = s.pending := by simp [vtPut]

@[simp] theorem vtAck_pending (e n : Nat) : (s.vtAck e n).pending = s.pending := by simp [vtAck]

@[simp] theorem vtInput_pending (e : Nat) (b : Byte) : (s.vtInput e b).pending = s.pending := by simp [vtInput]

@[simp] theorem unpaired_pending (e : Nat) : (s.unpaired e).pending = s.pending := by simp [unpaired]

@[simp] theorem lockstepEnd_pending (e : Nat) : (s.lockstepEnd e).pending = s.pending := by
  unfold lockstepEnd
  split
  · dsimp only
    rw [unpaired_pending, set_pending, setEngState_pending, set_pending, setEngine_pending,
      pending_forEach _ _ _ fun pf u => pending_forEach _ _ _ fun i v => v.set_pending _ _ _ _]
  · rfl

@[simp] theorem engLost_pending (e : Nat) : (s.engLost e).pending = s.pending := by simp [engLost]

@[simp] theorem noSpare_pending (e : Nat) (o : Origin) (lasting : Bool) : (s.noSpare e o lasting).pending = s.pending := by simp [noSpare]

@[simp] theorem substitute_pending (e : Nat) (o : Origin) (lasting pair : Bool) : (s.substitute e o lasting pair).pending = s.pending := by
  simp [substitute]

/-! ## CSRs of engines -/

@[simp] theorem icomplete_pending (e : Nat) : (s.icomplete e).pending = s.pending := by
  unfold icomplete
  dsimp only
  split <;> simp

@[simp] theorem csrPut_pending (e n : Nat) (v : Word) : (s.csrPut e n v).pending = s.pending := by simp [csrPut]

@[simp] theorem putDbgReg_pending (e : Nat) (csr : Bool) (num : Nat) (v : Word) : (s.putDbgReg e csr num v).pending = s.pending := by simp [putDbgReg]

/-! ## Skein -/

@[simp] theorem reconfStart_pending (page : Nat) : (s.reconfStart page).pending = s.pending := by simp [reconfStart]

/-! ## DDR channels -/

@[simp] theorem ddrTo_pending (c v : Nat) : (s.ddrTo c v).pending = s.pending := by simp [ddrTo]

@[simp] theorem ddrCell_pending (c a : Nat) : (s.ddrCell c a).2.pending = s.pending := by
  unfold ddrCell
  split
  · rfl
  · split
    · rfl
    · simp

@[simp] theorem ddrForget_pending (c : Nat) : (s.ddrForget c).pending = s.pending := by simp [ddrForget]

@[simp] theorem ddrStore_pending (c a : Nat) (d : BitVec 512) : (s.ddrStore c a d).pending = s.pending := by simp [ddrStore]

@[simp] theorem ddrErrInfo_pending (c a kind : Nat) (x : BitVec 640) : (s.ddrErrInfo c a kind x).pending = s.pending := by simp [ddrErrInfo]

@[simp] theorem ddrTransient_pending (c a : Nat) (x : BitVec 640) : (s.ddrTransient c a x).pending = s.pending := by simp [ddrTransient]

@[simp] theorem ddrLasting_pending (c a : Nat) (x : BitVec 640) : (s.ddrLasting c a x).pending = s.pending := by simp [ddrLasting]

@[simp] theorem ddrUncorrectable_pending (c a : Nat) (x : BitVec 640) : (s.ddrUncorrectable c a x).pending = s.pending := by simp [ddrUncorrectable]

@[simp] theorem ddrRetryRead_pending (c a : Nat) (x err : BitVec 640) : (s.ddrRetryRead c a x err).2.2.pending = s.pending := by
  unfold ddrRetryRead
  dsimp only
  split_ifs
  · split <;> simp
  · simp
  · simp

@[simp] theorem ddrAnswer_pending (c id code : Nat) (d : BitVec 512) : (s.ddrAnswer c id code d).pending = s.pending := by simp [ddrAnswer]

@[simp] theorem ddrLevels_pending (c : Nat) : (s.ddrLevels c).pending = s.pending := by simp [ddrLevels]

@[simp] theorem ddrDropHeld_pending (c code : Nat) : (s.ddrDropHeld c code).pending = s.pending := by simp [ddrDropHeld]

@[simp] theorem ddrFlushLine_pending (c a : Nat) : (s.ddrFlushLine c a).pending = s.pending := by simp [ddrFlushLine]

@[simp] theorem ddrRead_pending (c a : Nat) : (s.ddrRead c a).2.2.pending = s.pending := by
  unfold ddrRead
  split
  · rfl
  · split_ifs
    · rfl
    · split
      · rfl
      · dsimp only
        split_ifs <;> simp

@[simp] theorem ddrWrite_pending (c a : Nat) (d : BitVec 512) : (s.ddrWrite c a d).2.pending = s.pending := by
  unfold ddrWrite
  split
  · rfl
  · split <;> simp

@[simp] theorem setDdrBank_pending (c b : Nat) (x : DdrBank) : (s.setDdrBank c b x).pending = s.pending := by simp [setDdrBank]

@[simp] theorem ddrIssued_pending (c b : Nat) (row : Option Nat) : (s.ddrIssued c b row).pending = s.pending := by simp [ddrIssued]

@[simp] theorem ddrClose_pending (c b : Nat) : (s.ddrClose c b).pending = s.pending := by simp [ddrClose]

@[simp] theorem ddrAttempt_pending (c : Nat) (retry : Bool) : (s.ddrAttempt c retry).pending = s.pending := by simp [ddrAttempt]

@[simp] theorem ddrReady_pending (c : Nat) : (s.ddrReady c).pending = s.pending := by simp [ddrReady]

@[simp] theorem ddrRetrains_pending (c : Nat) : (s.ddrRetrains c).pending = s.pending := by simp [ddrRetrains]

@[simp] theorem ddrComplete_pending (c : Nat) : (s.ddrComplete c).pending = s.pending := by simp [ddrComplete]

@[simp] theorem ddrSelfRefresh_pending (c : Nat) : (s.ddrSelfRefresh c).pending = s.pending := by simp [ddrSelfRefresh]

@[simp] theorem ddrWake_pending (c : Nat) : (s.ddrWake c).pending = s.pending := by simp [ddrWake]

@[simp] theorem ddrOff_pending (c : Nat) : (s.ddrOff c).pending = s.pending := by simp [ddrOff]

@[simp] theorem ddrWritten_pending (c off w : Nat) : (s.ddrWritten c off w).pending = s.pending := by simp [ddrWritten]

@[simp] theorem ddrResumes_pending (c : Nat) : (s.ddrResumes c).pending = s.pending := by simp [ddrResumes]

/-! ## Line crypto -/

@[simp] theorem setRegionRoot_pending (c r : Nat) (x : RegionRoot) : (s.setRegionRoot c r x).pending = s.pending := by simp [setRegionRoot]

@[simp] theorem putMeta_pending (c line : Nat) (m : MetaLine) : (s.putMeta c line m).pending = s.pending := by simp [putMeta]

@[simp] theorem dropMeta_pending (c line : Nat) : (s.dropMeta c line).pending = s.pending := by simp [dropMeta]

@[simp] theorem setCounter_pending (c r k j i v : Nat) : (s.setCounter c r k j i v).pending = s.pending := by
  unfold setCounter
  split
  · simp
  · split <;> simp

@[simp] theorem putTag_pending (c r k j tag : Nat) : (s.putTag c r k j tag).pending = s.pending := by
  unfold putTag
  dsimp only
  split <;> simp

@[simp] theorem metaBack_pending (c line : Nat) : (s.metaBack c line).pending = s.pending := by
  unfold metaBack
  split <;> simp

@[simp] theorem metaBackAll_pending (c : Nat) (p : MetaLine → Bool) : (s.metaBackAll c p).pending = s.pending := by simp [metaBackAll]

@[simp] theorem evict_pending (c r k j : Nat) : (s.evict c r k j).pending = s.pending := by simp [evict]

@[simp] theorem fill_pending (c line k j : Nat) (m : MetaLine) : (s.fill c line k j m).pending = s.pending := by simp [fill]

@[simp] theorem tagData_pending (c r k j : Nat) : (s.tagData c r k j).2.pending = s.pending := by
  unfold tagData
  dsimp only
  split <;> simp

@[simp] theorem tagTransient_pending (c : Nat) : (s.tagTransient c).pending = s.pending := by simp [tagTransient]

@[simp] theorem verifyData_pending (c r line v : Nat) (upset : Bool) : (s.verifyData c r line v upset).2.pending = s.pending := by
  unfold verifyData
  dsimp only
  split_ifs <;> simp

@[simp] theorem cryErrInfo_pending (c line kind level region : Nat) (cls : Option Nat) :
    (s.cryErrInfo c line kind level region cls).pending = s.pending := by
  simp [cryErrInfo]

@[simp] theorem cryEvent_pending (c code sev : Nat) : (s.cryEvent c code sev).pending = s.pending := by simp [cryEvent]

@[simp] theorem writeFails_pending (c r line level : Nat) (cls : Option Nat) : (s.writeFails c r line level cls).pending = s.pending := by
  simp [writeFails]

@[simp] theorem setHighWater_pending (c r v : Nat) : (s.setHighWater c r v).pending = s.pending := by simp [setHighWater]

@[simp] theorem storeLine_pending (c r line v : Nat) (keys : KeySlot) (x : BitVec 512) : (s.storeLine c r line v keys x).pending = s.pending := by
  simp [storeLine]

@[simp] theorem initStarts_pending (c r : Nat) : (s.initStarts c r).pending = s.pending := by simp [initStarts]

@[simp] theorem keyCmdStarts_pending (c op k : Nat) : (s.keyCmdStarts c op k).pending = s.pending := by simp [keyCmdStarts]

@[simp] theorem annealStarts_pending (c r key : Nat) : (s.annealStarts c r key).pending = s.pending := by simp [annealStarts]

@[simp] theorem markPoisoned_pending (c r u : Nat) : (s.markPoisoned c r u).pending = s.pending := by simp [markPoisoned]

/-- The state in which a walk ends. -/
def Walk.after : Walk → State
  | .ok _ t => t
  | .poisoned t => t
  | .failed _ t => t

theorem walkLevel_pending (c r u k : Nat) (parent : BitVec 512) (upset : Bool) :
    (Walk.after (s.walkLevel c r u k parent upset)).pending = s.pending := by
  unfold walkLevel
  dsimp only
  split
  · rfl
  · split
    · exact s.count_pending _ _ _ _
    · split_ifs <;> simp [Walk.after]

theorem walk_pending (c r u : Nat) (upsets : List Nat) : (Walk.after (s.walk c r u upsets)).pending = s.pending := by
  have hfold (ks : List Nat) (w : Walk) : (Walk.after (ks.foldl (fun w k => match w with
      | .ok b t => t.walkLevel c r u k b (upsets.elem k)
      | other => other) w)).pending = (Walk.after w).pending := by
    induction ks generalizing w with
    | nil => rfl
    | cons k ks ih =>
      refine (ih _).trans ?_
      cases w with
      | ok b t => exact t.walkLevel_pending c r u k b _
      | poisoned t => rfl
      | failed k t => rfl
  exact hfold _ _

@[simp] theorem preset_pending (c : Nat) (o : Origin) : (s.preset c o).pending = s.pending := by
  unfold preset
  dsimp only
  generalize s.get (Pg.crypto c) Crypto.CRY_CTR_LINE_LINE = line
  split
  · rfl
  · next r _ =>
    have hwalk := s.walk_pending c r (line - s.regBase c r) []
    split
    · rfl
    · split
      case h_1 t hw =>
        rw [hw] at hwalk
        exact (t.capture_pending _ _ _ _).trans hwalk
      case h_2 k t hw =>
        rw [hw] at hwalk
        exact (t.writeFails_pending _ _ _ _ _).trans hwalk
      case h_3 b t hw =>
        rw [hw] at hwalk
        have hverified := t.verifyData_pending c r line (slot64 b ((line - s.regBase c r) % 8)) false
        split_ifs
        · exact (t.capture_pending _ _ _ _).trans hwalk
        · exact (t.markPoisoned_pending _ _ _).trans hwalk
        · split
          · next hv =>
            rw [hv] at hverified
            exact (storeLine_pending ..).trans (hverified.trans hwalk)
          · next hv =>
            rw [hv] at hverified
            exact (writeFails_pending ..).trans (hverified.trans hwalk)

@[simp] theorem cryptoSettles_pending (c : Nat) : (s.cryptoSettles c).pending = s.pending := by simp [cryptoSettles]

@[simp] theorem cryptoZeroize_pending (c : Nat) : (s.cryptoZeroize c).pending = s.pending := by simp [cryptoZeroize]

@[simp] theorem cryptoWritten_pending (old : State) (c : Nat) (o : Origin) (off w : Nat) : (s.cryptoWritten old c o off w).pending = s.pending := by
  simp [cryptoWritten]

/-! ## Lanes -/

@[simp] theorem rclkUpdate_pending (d o : Nat) : (s.rclkUpdate d o).pending = s.pending := by simp [rclkUpdate]

@[simp] theorem laneTo_pending (p v : Nat) : (s.laneTo p v).pending = s.pending := by simp [laneTo]

@[simp] theorem laneUnlock_pending (p : Nat) : (s.laneUnlock p).pending = s.pending := by simp [laneUnlock]

@[simp] theorem retryFailed_pending (p : Nat) : (s.retryFailed p).pending = s.pending := by simp [retryFailed]

@[simp] theorem laneRetrains_pending (p : Nat) (counted : Bool) : (s.laneRetrains p counted).pending = s.pending := by simp [laneRetrains]

@[simp] theorem laneStart_pending (p : Nat) : (s.laneStart p).pending = s.pending := by simp [laneStart]

@[simp] theorem laneStop_pending (p : Nat) : (s.laneStop p).pending = s.pending := by simp [laneStop]

@[simp] theorem laneRetrainWritten_pending (p : Nat) : (s.laneRetrainWritten p).pending = s.pending := by simp [laneRetrainWritten]

@[simp] theorem lanesToPllWait_pending (d o : Nat) (b : Bool) : (s.lanesToPllWait d o b).pending = s.pending := by simp [lanesToPllWait]

@[simp] theorem opllWritten_pending (old : State) (d o : Nat) : (s.opllWritten old d o).pending = s.pending := by simp [opllWritten]

@[simp] theorem prbsLoss_pending (p : Nat) : (s.prbsLoss p).pending = s.pending := by simp [prbsLoss]

@[simp] theorem slipWord_pending (p : Nat) : (s.slipWord p).pending = s.pending := by simp [slipWord]

@[simp] theorem setRfxActive_pending (a e : Nat) (x : RfxEntry) : (s.setRfxActive a e x).pending = s.pending := by simp [setRfxActive]

@[simp] theorem rfxCommitted_pending (a m : Nat) : (s.rfxCommitted a m).pending = s.pending := by simp [rfxCommitted]

@[simp] theorem adapterStatus_pending (a : Nat) : (s.adapterStatus a).pending = s.pending := by simp [adapterStatus]

@[simp] theorem rfxFire_pending (a e : Nat) (l : Bool) (n : Nat) (frame : List Byte) (held : Bool) :
    (s.rfxFire a e l n frame held).pending = s.pending := by
  simp [rfxFire]

@[simp] theorem adTestFire_pending (a : Nat) : (s.adTestFire a).pending = s.pending := by simp [adTestFire]

@[simp] theorem octetOff_pending (d o : Nat) : (s.octetOff d o).pending = s.pending := by simp [octetOff]

@[simp] theorem laneWritten_pending (old : State) (p off w : Nat) : (s.laneWritten old p off w).pending = s.pending := by simp [laneWritten]

@[simp] theorem opllPageWritten_pending (old : State) (pg off : Nat) : (s.opllPageWritten old pg off).pending = s.pending := by simp [opllPageWritten]

@[simp] theorem adapterWritten_pending (a off w : Nat) : (s.adapterWritten a off w).pending = s.pending := by simp [adapterWritten]

/-! ## Boot -/

@[simp] theorem setBootCount_pending (v : Nat) : (s.setBootCount v).pending = s.pending := by simp [setBootCount]

@[simp] theorem plyStarts_pending : s.plyStarts.pending = s.pending := by simp [plyStarts]

@[simp] theorem confirmWritten_pending (w : Nat) : (s.confirmWritten w).pending = s.pending := by simp [confirmWritten]

/-! ## What a loss of power keeps -/

@[simp] theorem loseRegs_pending (lost : Nat → RegField → Bool) : (s.loseRegs lost).pending = s.pending := by simp [loseRegs]

@[simp] theorem gsrSector_pending (d sec : Nat) : (s.gsrSector d sec).pending = s.pending := by simp [gsrSector]

@[simp] theorem gsrDie_pending (d : Nat) : (s.gsrDie d).pending = s.pending := by simp [gsrDie]

@[simp] theorem logicHeld_pending (d : Nat) : (s.logicHeld d).pending = s.pending := by simp [logicHeld]

@[simp] theorem loseLogic_pending (d : Nat) : (s.loseLogic d).pending = s.pending := by simp [loseLogic]

@[simp] theorem loseEngines_pending (d : Nat) : (s.loseEngines d).pending = s.pending := by simp [loseEngines]

@[simp] theorem loseTarget_pending : s.loseTarget.pending = s.pending := by simp [loseTarget]

@[simp] theorem loseDomainRegs_pending (dom : Nat) : (s.loseDomainRegs dom).pending = s.pending := by simp [loseDomainRegs]

@[simp] theorem domainLoss_pending (dom : Nat) : (s.domainLoss dom).pending = s.pending := by
  unfold domainLoss
  dsimp only
  split_ifs
  · simp
  · simp
  · simp
  · simp
  · simp
  · simp
  · simp only [loseDomainRegs_pending, portsAsReset_pending, dropNet_pending, portDown_pending]
  · simp

/-! ## Capture and debug -/

@[simp] theorem dbgStat_pending (e why index : Nat) (session : Bool) : (s.dbgStat e why index session).pending = s.pending := by simp [dbgStat]

@[simp] theorem dbgHalt_pending (e why index : Nat) (session : Bool) : (s.dbgHalt e why index session).pending = s.pending := by simp [dbgHalt]

@[simp] theorem dbgRun_pending (e : Nat) : (s.dbgRun e).pending = s.pending := by simp [dbgRun]

@[simp] theorem dbgStep_pending (e : Nat) (o : Origin) : (s.dbgStep e o).pending = s.pending := by simp [dbgStep]

@[simp] theorem engDbgWritten_pending (e : Nat) (o : Origin) (w : Nat) : (s.engDbgWritten e o w).pending = s.pending := by simp [engDbgWritten]

@[simp] theorem regDataWrite_pending (e : Nat) (o : Origin) (v : Word) : (s.regDataWrite e o v).pending = s.pending := by simp [regDataWrite]

@[simp] theorem captureResume_pending (page : Nat) : (s.captureResume page).pending = s.pending := by simp [captureResume]

@[simp] theorem capWritten_pending (page : Nat) (o : Origin) (w : Nat) : (s.capWritten page o w).pending = s.pending := by simp [capWritten]

/-! ## Sessions -/

@[simp] theorem relock_pending : s.relock.pending = s.pending := by
  unfold relock
  exact pending_forEach _ _ _ fun _ _ => rfl

@[simp] theorem releaseStopped_pending : s.releaseStopped.pending = s.pending := by simp [releaseStopped]

@[simp] theorem dmForget_pending : s.dmForget.pending = s.pending := by simp [dmForget]

@[simp] theorem sessionEnd_pending (keep : Bool) : (s.sessionEnd keep).pending = s.pending := by
  have hcleared (u : State) : (forEach [Monitor.DBG_SESSION_OPEN, Monitor.DBG_SESSION_LEVEL, Monitor.DBG_SESSION_ORIGIN,
      Monitor.DBG_SESSION_PASSWORD, Monitor.DBG_SESSION_IDLE_S] (fun f v => v.set Pg.monitor f 0) u).pending = u.pending :=
    pending_forEach _ _ _ fun _ _ => rfl
  simp [sessionEnd, hcleared]

@[simp] theorem sessionDropped_pending (dom : Nat) : (s.sessionDropped dom).pending = s.pending := by simp [sessionDropped]

/-! ## Event recorder -/

@[simp] theorem swRecord_pending (o : Origin) (w : Nat) : (s.swRecord o w).pending = s.pending := by simp [swRecord]

@[simp] theorem checkpoint_pending : s.checkpoint.pending = s.pending := by simp [checkpoint]

/-! ## Power -/

@[simp] theorem setDom_pending (d v : Nat) : (s.setDom d v).pending = s.pending := by simp [setDom]

@[simp] theorem setPorts_pending (d v : Nat) : (s.setPorts d v).pending = s.pending := by simp [setPorts]

@[simp] theorem refuser_pending (d kind id : Nat) : (s.refuser d kind id).pending = s.pending := by simp [refuser]

@[simp] theorem domEvent_pending (d code sev : Nat) : (s.domEvent d code sev).pending = s.pending := by simp [domEvent]

@[simp] theorem domainRaise_pending (d : Nat) : (s.domainRaise d).pending = s.pending := by simp [domainRaise]

@[simp] theorem raiseUp_pending (d : Nat) : (s.raiseUp d).pending = s.pending := by simp [raiseUp]

@[simp] theorem raiseAll_pending : s.raiseAll.pending = s.pending := by simp [raiseAll]

@[simp] theorem domainDrop_pending (d : Nat) : (s.domainDrop d).pending = s.pending := by
  unfold domainDrop
  split
  · dsimp only
    split <;> simp
  · rfl

@[simp] theorem drainEnds_pending (d : Nat) : (s.drainEnds d).pending = s.pending := by
  unfold drainEnds
  split <;> simp

@[simp] theorem castVote_pending (d client : Nat) : (s.castVote d client).pending = s.pending := by simp [castVote]

@[simp] theorem entryRefused_pending (d : Nat) : (s.entryRefused d).pending = s.pending := by
  unfold entryRefused
  split <;> simp

@[simp] theorem withdrawVote_pending (d client : Nat) : (s.withdrawVote d client).pending = s.pending := by simp [withdrawVote]

@[simp] theorem voteWritten_pending (w : Nat) : (s.voteWritten w).pending = s.pending := by simp [voteWritten]

@[simp] theorem dropWritten_pending (w : Nat) : (s.dropWritten w).pending = s.pending := by simp [dropWritten]

@[simp] theorem domainStarts_pending (d : Nat) : (s.domainStarts d).pending = s.pending := by
  unfold domainStarts
  dsimp only
  split_ifs
  · simp
  · simp
  · split <;> simp

@[simp] theorem forceDrop_pending (d : Nat) : (s.forceDrop d).pending = s.pending := by simp [forceDrop]

@[simp] theorem shed_pending (d : Nat) : (s.shed d).pending = s.pending := by simp [shed]

@[simp] theorem shedAll_pending : s.shedAll.pending = s.pending := by simp [shedAll]

@[simp] theorem warnEvent_pending (code sev : Nat) : (s.warnEvent code sev).pending = s.pending := by simp [warnEvent]

@[simp] theorem warningBegins_pending (vaon : Bool) (mask : Nat) : (s.warningBegins vaon mask).pending = s.pending := by simp [warningBegins]

@[simp] theorem shedWritten_pending (d : Nat) : (s.shedWritten d).pending = s.pending := by simp [shedWritten]

@[simp] theorem thermCtlWritten_pending : s.thermCtlWritten.pending = s.pending := by simp [thermCtlWritten]

@[simp] theorem forceAll_pending : s.forceAll.pending = s.pending := by simp [forceAll]

@[simp] theorem hibernate_pending : s.hibernate.pending = s.pending := by simp [hibernate]

@[simp] theorem hibWritten_pending (w : Nat) : (s.hibWritten w).pending = s.pending := by simp [hibWritten]

@[simp] theorem wakeCause_pending (k : Nat) : (s.wakeCause k).pending = s.pending := by simp [wakeCause]

@[simp] theorem alarm_pending : s.alarm.pending = s.pending := by simp [alarm]

/-! ## Resets -/

@[simp] theorem loseDieStatus_pending (mine : Nat → Bool) : (s.loseDieStatus mine).pending = s.pending := by simp [loseDieStatus]

@[simp] theorem sleepPorts_pending (mine : Nat → Bool) : (s.sleepPorts mine).pending = s.pending := by simp [sleepPorts]

@[simp] theorem zeroizeUnkept_pending (cs : List Nat) : (s.zeroizeUnkept cs).pending = s.pending := by simp [zeroizeUnkept]

@[simp] theorem channelSettles_pending (c : Nat) : (s.channelSettles c).pending = s.pending := by simp [channelSettles]

@[simp] theorem enginesReset_pending (d : Nat) : (s.enginesReset d).pending = s.pending := by simp [enginesReset]

@[simp] theorem deviceLoss_pending (sr : Bool) : (s.deviceLoss sr).pending = s.pending := by simp [deviceLoss]

@[simp] theorem deviceResets_pending (cause : Nat) : (s.deviceResets cause).pending = s.pending := by simp [deviceResets]

@[simp] theorem deviceResetStarts_pending (cause : Nat) : (s.deviceResetStarts cause).pending = s.pending := by simp [deviceResetStarts]

/-- What a warm reset empties at once (R467). -/
def warmEmptied (s : State) : State :=
  { s with
    fabric := {}, dsp := {}, eng := {}
    span := { s.span with slices := SMap.keep (fun k => 5 ≤ k / 16) s.span.slices }
    boot := { s.boot with references := [], heldEn := [], loaded := 0 }
    dbg := { failedAt := s.dbg.failedAt, ptr := s.dbg.ptr, origin := s.dbg.origin, forwarded := s.dbg.forwarded } }

theorem warmEmptied_pending : s.warmEmptied.pending = s.pending := rfl

/-- A warm reset is under way. -/
def warmShown (s : State) : State := { s with resets := { s.resets with warm := true } }

theorem warmShown_pending : s.warmShown.pending = s.pending := rfl

/-- A warm reset step by step. -/
theorem warmResets_eq (cause : Nat) : s.warmResets cause = if s.power.tripped then s else
    warmShown ((((((forEach fabricDies (fun d u => (u.dropNet d).portsAsReset d)
      (((forEach (List.range 8) (fun c u => u.channelSettles c) (forEach fabricDies (fun d u => (u.logicHeld d).enginesReset d)
        (s.sessionEnd false))).zeroizeUnkept (List.range 8)).loseMem
          (fun p => (1 ≤ pageDie p && pageDie p ≤ 4) && (pageKind p = some .mi || pageKind p = some .eng3))).warmEmptied).loseRegs
      (fun p f => (1 ≤ pageDie p && pageDie p ≤ 4) && f.kept && pageKind p ≠ some .ddr && pageKind p ≠ some .crypto)).loseDieStatus
      (fun d => d ≤ 4)).sleepPorts (fun d => d ≤ 4)).set Pg.reset Reset.RST_CAUSE_CAUSE cause).count Pg.reset Reset.RST_COUNT_WARM) := by
  unfold warmResets warmShown warmEmptied
  dsimp only

@[simp] theorem warmResets_pending (cause : Nat) : (s.warmResets cause).pending = s.pending := by
  rw [warmResets_eq]
  split
  · rfl
  · rw [warmShown_pending, count_pending, set_pending, sleepPorts_pending, loseDieStatus_pending, loseRegs_pending,
      pending_forEach _ _ _ fun d u => ((u.dropNet d).portsAsReset_pending d).trans (u.dropNet_pending d), warmEmptied_pending, loseMem_pending,
      zeroizeUnkept_pending, pending_forEach _ _ _ fun c u => u.channelSettles_pending c,
      pending_forEach _ _ _ fun d u => ((u.logicHeld d).enginesReset_pending d).trans (u.logicHeld_pending d), sessionEnd_pending]

@[simp] theorem dieHeld_pending (d : Nat) : (s.dieHeld d).pending = s.pending := by simp [dieHeld]

@[simp] theorem dieResets_pending (d : Nat) : (s.dieResets d).pending = s.pending := by
  have hdown : (((s.setBit Pg.reset Reset.RST_DIE_STAT_IN_RESET d true).dieHeld d).portDown d).pending = s.pending := by
    simp only [portDown_pending, dieHeld_pending, setBit_pending]
  exact hdown

@[simp] theorem newlyHeld_pending (old : State) : (newlyHeld old s).pending = s.pending := by simp [newlyHeld]

@[simp] theorem domainResets_pending (d : Nat) : (s.domainResets d).pending = s.pending := by
  unfold domainResets
  split <;> simp

@[simp] theorem resetWritten_pending (w : Nat) : (s.resetWritten w).pending = s.pending := by simp [resetWritten]

/-! ## Ring membership -/

@[simp] theorem setPlyRing_pending (v : Nat) : (s.setPlyRing v).pending = s.pending := by simp [setPlyRing]

@[simp] theorem setPlyLink_pending (p v : Nat) : (s.setPlyLink p v).pending = s.pending := by simp [setPlyLink]

@[simp] theorem plyFrom_pending (type dst : Nat) (payload : List Byte) : (s.plyFrom type dst payload).pending = s.pending := by simp [plyFrom]

@[simp] theorem plyRestarts_pending : s.plyRestarts.pending = s.pending := by simp [plyRestarts]

@[simp] theorem mgmtSends_pending (retry : Bool) : (s.mgmtSends retry).pending = s.pending := by simp [mgmtSends]

@[simp] theorem mgmtStarts_pending : s.mgmtStarts.pending = s.pending := by simp [mgmtStarts]

@[simp] theorem wakeMember_pending (n : Nat) : (s.wakeMember n).pending = s.pending := by simp [wakeMember]

@[simp] theorem plyWritten_pending (off w : Nat) : (s.plyWritten off w).pending = s.pending := by simp [plyWritten]

/-! ## Fields a command names -/

@[simp] theorem setExpert_pending (page v : Nat) (o : Option Origin) : (s.setExpert page v o).pending = s.pending := by simp [setExpert]

@[simp] theorem keyWritten_pending (page : Nat) (o : Origin) (w : Nat) : (s.keyWritten page o w).pending = s.pending := by simp [keyWritten]

/-! ## The bus -/

@[simp] theorem clearField_pending (page : Nat) (f : RegField) (i v : Nat) : (s.clearField page f i v).pending = s.pending := by simp [clearField]

@[simp] theorem forceField_pending (page : Nat) (f : RegField) (v : Nat) : (s.forceField page f v).pending = s.pending := by simp [forceField]

@[simp] theorem storeField_pending (page : Nat) (o : Origin) (off w : Nat) (fi : RegField × Nat) :
    (storeField page o off w fi s).pending = s.pending := by
  unfold storeField
  dsimp only
  split <;> simp

@[simp] theorem engCtlWritten_pending (old : State) (e : Nat) (o : Origin) (w : Nat) : (s.engCtlWritten old e o w).pending = s.pending := by
  simp [engCtlWritten]

@[simp] theorem eng0Written_pending (old : State) (e : Nat) (o : Origin) (off w : Nat) : (s.eng0Written old e o off w).pending = s.pending := by
  simp [eng0Written]

@[simp] theorem eng1Written_pending (e off w : Nat) : (s.eng1Written e off w).pending = s.pending := by simp [eng1Written]

@[simp] theorem eng2Written_pending (e off w : Nat) : (s.eng2Written e off w).pending = s.pending := by simp [eng2Written]

@[simp] theorem eng3Written_pending (page e off w : Nat) : (s.eng3Written page e off w).pending = s.pending := by simp [eng3Written]

@[simp] theorem sctlWritten_pending (old : State) (page : Nat) (o : Origin) (off w : Nat) : (s.sctlWritten old page o off w).pending = s.pending := by
  simp [sctlWritten]

@[simp] theorem portWritten_pending (old : State) (page off w : Nat) : (s.portWritten old page off w).pending = s.pending := by
  unfold portWritten
  dsimp only
  split_ifs <;> simp

@[simp] theorem xbarWritten_pending (page off : Nat) : (s.xbarWritten page off).pending = s.pending := by simp [xbarWritten]

@[simp] theorem powerCtlWritten_pending (off w : Nat) : (s.powerCtlWritten off w).pending = s.pending := by simp [powerCtlWritten]

theorem pageWritten_pending (old : State) {page : Nat} (o : Origin) (off w : Nat) (hconfig : pageKind page ≠ some .config)
    (hmonitor : pageKind page ≠ some .monitor) : (s.pageWritten old page o off w).pending = s.pending := by
  unfold pageWritten
  split
  case h_9 h => exact absurd h hconfig
  case h_10 h => exact absurd h hmonitor
  all_goals simp

@[simp] theorem beforeWrite_pending (page off : Nat) : (s.beforeWrite page off).pending = s.pending := by simp [beforeWrite]

/-! ## A word on the bus -/

section
variable {page : Nat} (hconfig : pageKind page ≠ some .config) (hmonitor : pageKind page ≠ some .monitor)
include hconfig hmonitor

theorem wordWritten_pending (o : Origin) (off w : Nat) : (s.wordWritten page o off w).st.pending = s.pending := by
  unfold wordWritten
  split
  · exact s.capture_pending _ _ _ _
  · dsimp only
    rw [pageWritten_pending _ _ _ _ _ hconfig hmonitor, pending_forEach _ _ _ fun fi u => storeField_pending u page o off w fi, beforeWrite_pending]

theorem pageWrite_pending (o : Origin) (off w : Nat) (be : BitVec 4) : (s.pageWrite page o off w be).st.pending = s.pending := by
  have hlocked (c : Prop) [Decidable c] (f : State → BusOut) (hf : ∀ u, (f u).st.pending = u.pending) :
      (f (if c then (s.setExpert page 0 none).capture page Err.unlockSequence o off else s)).st.pending = s.pending := by
    rw [hf]
    split
    · exact (capture_pending _ _ _ _ _).trans (s.setExpert_pending _ _ _)
    · rfl
  refine hlocked _ (fun u => if be ≠ 0xF then { st := u.capture page Err.width o off }
    else if u.observes o then { st := u.capture page Err.level o off, denied := true }
    else if u.checkerDrops page off w then { st := u.capture page 0x8 o off }
    else if off = 0x0F0 then { st := u.keyWritten page o w }
    else if assigned page off = false then { st := u.capture page Err.unmapped o off }
    else if 0x800 ≤ off ∧ u.expertOpen page o = false then { st := u.capture page Err.expertLocked o off, denied := true }
    else u.wordWritten page o off w) fun u => ?_
  split_ifs
  · exact u.capture_pending _ _ _ _
  · exact u.capture_pending _ _ _ _
  · exact u.capture_pending _ _ _ _
  · exact u.keyWritten_pending _ _ _
  · exact u.capture_pending _ _ _ _
  · exact u.capture_pending _ _ _ _
  · exact u.wordWritten_pending hconfig hmonitor o off w

end

/-- A write of one word outside the configuration and monitor pages leaves the queue alone. -/
theorem busWrite_pending {addr : Nat} (hconfig : pageKind (pageAt addr) ≠ some .config) (hmonitor : pageKind (pageAt addr) ≠ some .monitor)
    (o : Origin) (w : Word) : (s.busWrite o addr w).st.pending = s.pending := by
  unfold busWrite
  dsimp only
  split
  · split
    · exact s.capture_pending _ _ _ _
    · exact s.accessFault_pending _ _ _ _
  · split_ifs
    · exact s.accessFault_pending _ _ _ _
    · exact s.accessFault_pending _ _ _ _
    · exact s.pageWrite_pending hconfig hmonitor o _ _ _

end Sys2Proof.Machine.State
end

section
/-! SUPPORT. A REGWRITE body (R432): what its pairs may name, a body without pairs, a pair that fails, and one that is written. -/

namespace Sys2Proof.Machine

open Reg

/-! ## The pages of the hub that a pair never names -/

theorem fabricPageKind_ne (q : Nat) : fabricPageKind q ≠ some .config ∧ fabricPageKind q ≠ some .monitor := by
  unfold fabricPageKind
  split_ifs <;> decide

theorem lanePageKind_ne (q : Nat) : lanePageKind q ≠ some .config ∧ lanePageKind q ≠ some .monitor := by
  unfold lanePageKind
  split_ifs <;> decide

theorem hubPageKind_ne {p : Nat} (hconfig : p ≠ 0x400) (hmonitor : p ≠ 0x500) :
    hubPageKind p ≠ some .config ∧ hubPageKind p ≠ some .monitor := by
  unfold hubPageKind
  rw [if_neg hconfig, if_neg hmonitor]
  constructor
  · repeat' apply ite_ne_of
    all_goals exact nofun
  · repeat' apply ite_ne_of
    all_goals exact nofun

/-- The configuration controller's page and the monitor's are the hub's pages 400 and 500. -/
theorem pageKind_ne {p : Nat} (hconfig : p ≠ 0x400) (hmonitor : p ≠ 0x500) : pageKind p ≠ some .config ∧ pageKind p ≠ some .monitor := by
  unfold pageKind
  split_ifs
  · exact hubPageKind_ne hconfig hmonitor
  · exact fabricPageKind_ne _
  · exact lanePageKind_ne _
  · decide

namespace State

/-- A pair reaches neither of them (R432). -/
theorem pageKind_of_reaches {die addr : Nat} (h : regwriteReaches die addr = true) :
    pageKind (pageAt addr) ≠ some .config ∧ pageKind (pageAt addr) ≠ some .monitor := by
  simp only [regwriteReaches, Bool.and_eq_true, Bool.or_eq_true, decide_eq_true_eq, Bool.not_eq_true', Bool.and_eq_false_iff,
    decide_eq_false_iff_not] at h
  have hpage : pageAt addr = addr / 4096 := rfl
  obtain ⟨-, ⟨hdie, hmatch⟩ | ⟨-, hout⟩⟩ := h
  · have hfar : ¬pageAt addr < 0x1000 := fun hnear => by
      rw [pageDie, if_pos hnear] at hmatch
      omega
    exact pageKind_ne (by omega) (by omega)
  · exact pageKind_ne (by omega) (by omega)

/-! ## A body's pairs -/

/-- The bytes of a body's pairs. -/
def pairBytes (ps : List (Word × Word)) : List Byte := ps.flatMap (fun p => leBytes 4 p.1.toNat ++ leBytes 4 p.2.toNat)

/-- The state in which the first pair of a body is performed: a fabric die's section marks its die as written. -/
def pairsTaken (s : State) (x : BootSection) (bs : List Byte) : State :=
  if 1 ≤ x.die ∧ x.die ≤ 4 then (s.keepBody bs).touchDie x.die else s.keepBody bs

/-- What a pair stores now: an enable is held. -/
def pairValue (s : State) (a w : Word) : Word := if holdsEnable a.toNat w then s.heldValue (pageAt a.toNat) w else w

/-- The state after a pair's write, before its enable is noted. -/
def pairWritten (s : State) (a w : Word) : State := (s.busWrite .config a.toNat (s.pairValue a w)).st

/-- The state with these enables held. -/
def withHeldEn (s : State) (held : List Nat) : State := { s with boot := { s.boot with heldEn := held } }

variable {s : State} {x : BootSection} {rest : List BootSection}

theorem pairsTaken_takes (s : State) (x : BootSection) (bs : List Byte) : TakesBody s (s.pairsTaken x bs) bs := by
  unfold pairsTaken
  split
  · exact ⟨rfl, rfl, rfl, rfl, rfl, rfl, rfl⟩
  · exact .keepBody s bs

theorem pairsTaken_pending (s : State) (x : BootSection) (bs : List Byte) : (s.pairsTaken x bs).pending = s.pending := by
  unfold pairsTaken
  split <;> rfl

theorem regwritePair_unreached {a : Nat} (h : regwriteReaches s.sectionDie a = false) (w : Word) : s.regwritePair a w = (s, true) := if_pos h

theorem regwritePair_failed {a w : Word} (hreach : regwriteReaches s.sectionDie a.toNat = true)
    (hfails : s.wordWriteFails .config a.toNat (s.pairValue a w) = true) : s.regwritePair a.toNat w = (s.pairWritten a w, true) :=
  (if_neg (by simp [hreach])).trans (if_pos hfails)

/-- A pair that is written leaves its write, with an enable among those held. -/
theorem regwritePair_written {a w : Word} (hreach : regwriteReaches s.sectionDie a.toNat = true)
    (hwritten : s.wordWriteFails .config a.toNat (s.pairValue a w) = false) :
    ∃ held, s.regwritePair a.toNat w = ((s.pairWritten a w).withHeldEn held, false) ∧
      (holdsEnable a.toNat w = true → pageAt a.toNat ∈ held) := by
  have hpair : s.regwritePair a.toNat w =
      (if (offAt a.toNat = 0x010 && (pageKind (pageAt a.toNat) = some .lane || pageKind (pageAt a.toNat) = some .ddr) : Bool) then
        (s.pairWritten a w).withHeldEn ((s.pairWritten a w).boot.heldEn.filter (· ≠ pageAt a.toNat) ++
          (if holdsEnable a.toNat w then [pageAt a.toNat] else [])) else s.pairWritten a w, false) :=
    (if_neg (by simp [hreach])).trans (if_neg (by simpa [pairValue] using hwritten))
  rw [hpair]
  split
  case isTrue =>
    refine ⟨_, rfl, fun hholds => ?_⟩
    rw [if_pos hholds]
    exact List.mem_append_right _ (List.mem_singleton_self _)
  case isFalse hnot =>
    refine ⟨_, rfl, fun hholds => absurd ?_ hnot⟩
    unfold holdsEnable at hholds
    exact ((Bool.and_eq_true _ _).mp hholds).1

/-! ## The body -/

section
variable (hat : AtSection s x rest) (hloading : s.loading = true) (htype : x.type = 5) (hport : x.die = 0 ∨ s.portActive x.die = true)
include hat hloading htype hport

theorem regwriteRead_eq (ps : List (Word × Word)) :
    s.regwriteRead ps = match (s.pairsTaken x (pairBytes ps)).regwritePairs 0 ps with
      | (u, some k) => u.failHere 0x05 k
      | (u, none) => u.bodyEnds := by
  have hdie : (s.keepBody (pairBytes ps)).sectionDie = x.die := sectionDie_of_head (s := s) hat.sections
  rw [regwriteRead, atSection_of_head hloading hat.sections htype hport, sectionDie_of_head hat.sections]
  rfl

/-- A body without pairs ends. -/
theorem regwriteRead_ended_nil : BodyEnded (s.regwriteRead []) rest (s.bodyVerdict x rest []) := by
  rw [regwriteRead_eq hat hloading htype hport]
  exact bodyEnds_ended hat (s.pairsTaken_takes x _)

/-- A first pair that the section may not name fails the load. -/
theorem regwriteRead_unreached {a : Word} (hunreached : regwriteReaches x.die a.toNat = false) (w : Word) (more : List (Word × Word)) :
    LoadFailed (s.regwriteRead ((a, w) :: more)) 5 := by
  have hu := (s.pairsTaken_takes x (pairBytes ((a, w) :: more))).atSection hat
  rw [← sectionDie_of_head hu.sections] at hunreached
  rw [regwriteRead_eq hat hloading htype hport]
  simp only [regwritePairs, regwritePair_unreached hunreached]
  exact failHere_failed hu (by decide) 0

section
variable {a w : Word} (hreach : regwriteReaches x.die a.toNat = true)
  (hboot : ((s.pairsTaken x (pairBytes [(a, w)])).pairWritten a w).boot = (s.pairsTaken x (pairBytes [(a, w)])).boot)
include hreach hboot

/-- A pair whose write a page drops or captures fails the load. -/
theorem regwriteRead_dropped
    (hfails : (s.pairsTaken x (pairBytes [(a, w)])).wordWriteFails .config a.toNat ((s.pairsTaken x (pairBytes [(a, w)])).pairValue a w) = true) :
    LoadFailed (s.regwriteRead [(a, w)]) 5 := by
  have htakes := s.pairsTaken_takes x (pairBytes [(a, w)])
  have hwritten := (htakes.of_boot hboot).atSection hat
  rw [← sectionDie_of_head (htakes.atSection hat).sections] at hreach
  rw [regwriteRead_eq hat hloading htype hport]
  simp only [regwritePairs, regwritePair_failed hreach hfails]
  exact failHere_failed hwritten (by decide) 0

/-- A pair that is written ends the body; it leaves its write, an enable being held until the release (R432). -/
theorem regwriteRead_written
    (hwritten : (s.pairsTaken x (pairBytes [(a, w)])).wordWriteFails .config a.toNat ((s.pairsTaken x (pairBytes [(a, w)])).pairValue a w) = false) :
    BodyEnded (s.regwriteRead [(a, w)]) rest (s.bodyVerdict x rest (pairBytes [(a, w)])) ∧
    (s.bodyVerdict x rest (pairBytes [(a, w)]) = none →
      (holdsEnable a.toNat w = true → pageAt a.toNat ∈ (s.regwriteRead [(a, w)]).boot.heldEn) ∧
      s.regwriteRead [(a, w)] =
        { (s.pairsTaken x (pairBytes [(a, w)])).pairWritten a w with boot := (s.regwriteRead [(a, w)]).boot }) := by
  have htakes := s.pairsTaken_takes x (pairBytes [(a, w)])
  rw [← sectionDie_of_head (htakes.atSection hat).sections] at hreach
  obtain ⟨held, hpair, hheld⟩ := regwritePair_written hreach hwritten
  have hread : s.regwriteRead [(a, w)] = (((s.pairsTaken x (pairBytes [(a, w)])).pairWritten a w).withHeldEn held).bodyEnds := by
    rw [regwriteRead_eq hat hloading htype hport]
    simp only [regwritePairs, hpair]
  have hbody : TakesBody s (((s.pairsTaken x (pairBytes [(a, w)])).pairWritten a w).withHeldEn held) (pairBytes [(a, w)]) := by
    obtain ⟨hsections, hreload, hrunning, hlen, hik, hshort, hbytes⟩ := htakes.of_boot hboot
    exact ⟨hsections, hreload, hrunning, hlen, hik, hshort, hbytes⟩
  rw [hread]
  refine ⟨bodyEnds_ended hat hbody, fun hnone => ?_⟩
  rw [bodyEnds_of_none hat hbody hnone]
  exact ⟨hheld, rfl⟩

omit hat hloading htype hport hboot in
/-- The queue is left alone: the pair's write is none of a page that steps the die. -/
theorem pairWritten_pending (u : State) (w : Word) : (u.pairWritten a w).pending = u.pending :=
  busWrite_pending u (pageKind_of_reaches hreach).1 (pageKind_of_reaches hreach).2 _ _

end

end

end State
end Sys2Proof.Machine
end

section
/-! SUPPORT. Every command of a section's body is one step at the section at the head of the table (R424, R441). -/

namespace Sys2Proof.Machine

open Reg

/-- The commands that carry a body, each with the type of the sections that it is for. -/
def CarriesBody (type : Nat) (i : Instr) : Prop :=
  (type, i) ∈ [(2, Instr.frames false), (2, .frames true)] ∨ (∃ bs, (type = 1 ∧ i = .stage1 bs) ∨ (type = 4 ∧ i = .xmap bs)) ∨
    (∃ rs, type = 3 ∧ i = .engines rs) ∨ (∃ ps, type = 5 ∧ i = .regwrite ps) ∨ (∃ vs, type = 6 ∧ i = .sectorCrc vs) ∨
    (∃ a b c, type = 2 ∧ (i = .zero a b c ∨ i = .repeatFrames a b c ∨ ∃ x, i = .literal a b x c))

namespace State

variable {s : State}

theorem exec_framesBegin (s : State) : exec (.frames false) s = onPart true s s.framesBegin :=
  congrArg (done s) (if_neg Bool.false_ne_true)

theorem exec_framesEnd (s : State) : exec (.frames true) s = onPart true s s.framesEnd := congrArg (done s) (if_pos rfl)

theorem exec_carriesBody {type : Nat} {i : Instr} (h : CarriesBody type i) (s : State) :
    ∃ f, exec i s = onPart true s (s.atSection type f) := by
  obtain h | ⟨bs, ⟨rfl, rfl⟩ | ⟨rfl, rfl⟩⟩ | ⟨rs, rfl, rfl⟩ | ⟨ps, rfl, rfl⟩ | ⟨vs, rfl, rfl⟩ |
    ⟨a, b, c, rfl, rfl | rfl | ⟨x, rfl⟩⟩ := h
  · simp only [List.mem_cons, Prod.mk.injEq, List.not_mem_nil, or_false] at h
    obtain ⟨rfl, rfl⟩ | ⟨rfl, rfl⟩ := h
    · exact ⟨_, exec_framesBegin s⟩
    · exact ⟨_, exec_framesEnd s⟩
  all_goals exact ⟨_, rfl⟩

/-- With no section of its type at the head a body changes nothing. -/
theorem carriesBody_idle {type : Nat} {i : Instr} (h : CarriesBody type i) (s : State) : Completes i s (fun t =>
    s.loading = false ∨ s.boot.sections = [] ∨ (∃ x rest, s.boot.sections = x :: rest ∧ x.type ≠ type) → t = s) := by
  obtain ⟨f, hexec⟩ := exec_carriesBody h s
  refine completes_of_onPart hexec rfl fun hnone => ?_
  rw [atSection_of_none hnone]

/-- A body of a die whose port is down fails the load (R441). -/
theorem carriesBody_down {type : Nat} {i : Instr} (h : CarriesBody type i) {x : BootSection} {rest : List BootSection} (hat : AtSection s x rest)
    (hloading : s.loading = true) (htype : x.type = type) (hdie : x.die ≠ 0) (hport : s.portActive x.die = false) :
    Completes i s (fun t => LoadFailed t 8) := by
  obtain ⟨f, hexec⟩ := exec_carriesBody h s
  refine completes_of_onPart hexec rfl ?_
  rw [atSection_of_down hloading hat.sections htype hdie hport]
  have hfailed := failHere_failed hat (by decide : 8 < 256) 0
  exact hfailed

/-! ## What a record of a tile frame leaves -/

/-- The record commands: the value an OP has, the bytes it carries and the frame it writes (R426). -/
def CarriesFrame (s : State) (op : Nat) (i : Instr) (addr second check : Word) (body : List Byte) (y : BitVec 1024) : Prop :=
  (op = 1 ∧ i = Instr.literal addr second y check ∧ body = leBytes 128 y.toNat) ∨
  (op = 2 ∧ i = .zero addr second check ∧ body = [] ∧ y = 0 ∧ bits second.toNat 27 16 = 0) ∨
  (op = 3 ∧ i = .repeatFrames addr second check ∧ body = [] ∧ s.boot.lastLiteral = some y ∧ bits second.toNat 27 16 = 0)

/-- Each record command is one frame record of its operation. -/
theorem exec_carriesFrame {op : Nat} {i : Instr} {addr second check : Word} {body : List Byte} {y : BitVec 1024}
    (h : CarriesFrame s op i addr second check body y) :
    ∃ data, exec i s = onPart true s (s.frameRecord op addr second check data) ∧ recordBody data = body ∧
      ((op = 1 ∧ data = some y) ∨ (op = 2 ∧ data = none ∧ y = 0 ∧ bits second.toNat 27 16 = 0) ∨
        (op = 3 ∧ data = none ∧ s.boot.lastLiteral = some y ∧ bits second.toNat 27 16 = 0)) := by
  obtain ⟨rfl, rfl, rfl⟩ | ⟨rfl, rfl, rfl, hy, hcount⟩ | ⟨rfl, rfl, rfl, hy, hcount⟩ := h
  · exact ⟨some y, rfl, rfl, .inl ⟨rfl, rfl⟩⟩
  · exact ⟨none, rfl, rfl, .inr (.inl ⟨rfl, rfl, hy, hcount⟩)⟩
  · exact ⟨none, rfl, rfl, .inr (.inr ⟨rfl, rfl, hy, hcount⟩)⟩

/-- What a record of one frame leaves, by its operation, its check value and the state of its sector (R107, R426, R427). -/
def FrameRecorded (s t : State) (x : BootSection) (op : Nat) (addr second check : Word) (body : List Byte) (y : BitVec 1024) : Prop :=
  let said := bits second.toNat 31 28
  let a := FrameAddr.ofWord addr.toNat
  let good : Prop := check.toNat = crc32 (leBytes 4 addr.toNat ++ leBytes 4 second.toNat ++ body)
  let clash : Prop := frameContention a.index y.toNat = true ∨ s.trackContention a.die a.sector a.unit a.index y.toNat = true
  (said = 0 ∨ 3 < said → LoadFailed t 5) ∧
  (said = op → ¬good ∨ bits second.toNat 15 0 ≠ 0 ∨ a.ok = false ∨ a.die ≠ x.die → LoadFailed t 5) ∧
  (said = op → good → bits second.toNat 15 0 = 0 → a.ok = true → a.die = x.die → a.kind = 0 →
    (s.gsrActive a.die a.sector = false ∨ SMap.read false s.boot.written a.word = true → LoadFailed t 5) ∧
    (s.gsrActive a.die a.sector = true → SMap.read false s.boot.written a.word = false →
      (clash → LoadFailed t 6) ∧ (¬clash → TileFrameWritten s t x.die a y)))

section
variable {x : BootSection} {rest : List BootSection} (hat : AtSection s x rest) (hloading : s.loading = true) (htype : x.type = 2)
  (hport : x.die = 0 ∨ s.portActive x.die = true) (hopened : s.boot.opened = true)
include hat hloading htype hport hopened

theorem carriesFrame_recorded {op : Nat} {i : Instr} {addr second check : Word} {body : List Byte} {y : BitVec 1024}
    (h : CarriesFrame s op i addr second check body y) : Completes i s (fun t => FrameRecorded s t x op addr second check body y) := by
  obtain ⟨data, hexec, rfl, hy⟩ := exec_carriesFrame h
  have hop : 1 ≤ op ∧ op ≤ 3 := by omega
  refine completes_of_onPart hexec rfl ⟨fun hsaid => ?_, fun hsaid hbad => ?_, fun hsaid hgood hzero hok hdie hkind => ?_⟩
  · have hfailed := frameRecord_of_unnamed hat hloading htype hport hopened (addr := addr) (check := check) (data := data) hop hsaid
    exact hfailed
  · have hfailed := frameRecord_of_bad hat hloading htype hport hopened hsaid hbad
    exact hfailed
  · obtain ⟨bs, last, hrecord⟩ := frameRecord_of_good hat hloading htype hport hopened hsaid hgood hzero hok hdie hy
    have htaken : AtSection (s.recordTaken bs last) x rest := ⟨hat.reload, hat.running, hat.sections⟩
    rw [hrecord]
    refine ⟨fun hrejected => ?_, fun hgsr hnew => ⟨fun hclash => ?_, fun hclear => ?_⟩⟩
    · have hfailed := imageRun_rejected htaken (y := y) hok hrejected
      exact hfailed
    · have hfailed := imageRun_clashing htaken hok hkind hgsr hnew hclash
      exact hfailed
    · have hwritten := imageRun_written (s := s.recordTaken bs last) hok hkind hgsr hnew hdie hclear
      exact hwritten

end

end State
end Sys2Proof.Machine
end

section
/-! SUPPORT. The bodies of the sections as commands: each completes with what its read leaves. -/

namespace Sys2Proof.Machine

open Reg

namespace State

/-- How a body has ended does not speak of the queue. -/
theorem BodyEnded.with_pending {t : State} {rest : List BootSection} {v : Option Nat} (h : BodyEnded t rest v) (q : List Instr) :
    BodyEnded { t with pending := q } rest v := by
  cases v with
  | some r => exact h
  | none => exact h

variable {s : State}

section
variable {x : BootSection} {rest : List BootSection} (hat : AtSection s x rest) (hloading : s.loading = true)
  (hport : x.die = 0 ∨ s.portActive x.die = true)
include hat hloading hport

theorem stage1_completes (htype : x.type = 1) (bs : List Byte) :
    Completes (.stage1 bs) s (fun t => BodyEnded t rest (s.bodyVerdict x rest bs)) :=
  completes_of_onPart (ok := true) rfl rfl ((stage1Read_ended hat hloading hport htype bs).with_pending _)

theorem framesBegin_completes (htype : x.type = 2) (hclosed : s.boot.opened = false) :
    Completes (.frames false) s (fun t => t.boot.opened = true ∧ t.boot.count = 0 ∧ t.boot.written = [] ∧ t.boot.body = [] ∧
      t.mem = s.mem ∧ t.fabric = s.fabric) := by
  refine completes_of_onPart (exec_framesBegin s) rfl ?_
  rw [framesBegin_opened hat hloading hport htype hclosed]
  exact ⟨rfl, rfl, rfl, rfl, rfl, rfl⟩

theorem framesEnd_completes (htype : x.type = 2) (hopened : s.boot.opened = true) :
    Completes (.frames true) s (fun t => if s.boot.count = 609792 then BodyEnded t rest (s.bodyVerdict x rest []) else LoadFailed t 1) := by
  refine completes_of_onPart (exec_framesEnd s) rfl ?_
  split
  case isTrue hcount => exact (framesEnd_ended hat hloading hport htype hopened hcount).with_pending _
  case isFalse hcount =>
    have hfailed := framesEnd_short hat hloading hport htype hopened hcount
    exact hfailed

theorem engines_completes (htype : x.type = 3) (r : EngineImage) : Completes (.engines [r]) s (fun t =>
    if engineRecordBad x.die r then LoadFailed t 5
    else BodyEnded t rest (s.bodyVerdict x rest (engineBytes r)) ∧ (s.bodyVerdict x rest (engineBytes r) = none →
      t.get (Pg.eng r.engine 0) Eng0.CTL_AUTORUN = b2n r.autorun ∧
      t.get (Pg.eng r.engine 0) Eng0.ENG_BOOT_PC_PC = r.bootPc.toNat / 2)) := by
  refine completes_of_onPart (t := s.enginesRead [r]) (ok := true) rfl rfl ?_
  split
  case isTrue hbad =>
    have hfailed := enginesRead_bad hat hloading hport htype hbad
    exact hfailed
  case isFalse hgood =>
    obtain ⟨hended, hloaded⟩ := enginesRead_loaded hat hloading hport htype (Bool.not_eq_true _ ▸ hgood)
    exact ⟨hended.with_pending _, hloaded⟩

/-- What an accepted crossing map gives: each port its SPLIT, each die its span channels, and each entry that one route names that route, unless
its page is locked (R139, R160, R430). -/
def MapGiven (s t : State) (bs : List Byte) : Prop :=
  (∀ d, 1 ≤ d → d ≤ 6 → t.get (Pg.port d) Port.CTL_SPLIT = mapSplit bs d) ∧
  (∀ d f, 1 ≤ d → d ≤ 4 → f < 16 → t.flag (Pg.xport d) Xport.SFIFO_CTL_EN f = (mapPeer bs d f).isSome) ∧
  ((∀ d, 1 ≤ d → d ≤ 6 → s.get (Pg.port d) Port.CTL_SPLIT = mapSplit bs d) → ∀ r ∈ mapRoutes bs,
    (∀ q ∈ mapRoutes bs, q.die = r.die → q.mod = r.mod → q.group = r.group → q = r) →
    let p := Pg.xbar r.die r.mod
    if s.xbarLocked p then t.entryOf p r.group = s.entryOf p r.group else t.entryOf p r.group = r.shows)

omit hat hloading hport in
theorem mapApplied_given {bs : List Byte} {rate : Nat} (h : mapFault bs rate = none) (s : State) : MapGiven s (s.mapApplied bs) bs := by
  have hports {d : Nat} (hd1 : 1 ≤ d) (hd6 : d ≤ 6) : isPort d = true := by simp [isPort, hd1, hd6]
  refine ⟨fun d hd1 hd6 => mapApplied_split h (hports hd1 hd6) s, fun d f hd1 hd4 hf => mapApplied_en s bs ⟨hd1, hd4⟩ hf,
    fun hsame r hr honce => ?_⟩
  have hentry := mapApplied_entry h (fun d hd => hsame d (isPort_range hd).1 (isPort_range hd).2) hr honce
  dsimp only
  split
  case isTrue hlocked => rwa [if_pos hlocked] at hentry
  case isFalse hopen => rwa [if_neg hopen] at hentry

omit hat hloading hport in
/-- What a map gives is seen in the registers alone. -/
theorem MapGiven.of_gets {t u : State} {bs : List Byte} (h : MapGiven s u bs) (hget : ∀ p f i, t.get p f i = u.get p f i) : MapGiven s t bs := by
  have hflag (p : Nat) (f : RegField) (i : Nat) : t.flag p f i = u.flag p f i := by rw [flag, flag, hget]
  have hentry (p g : Nat) : t.entryOf p g = u.entryOf p g := entryOf_of_same fun f _ => hget p f g
  unfold MapGiven
  simp only [hget, hflag, hentry]
  exact h

theorem xmap_completes (htype : x.type = 4) (bs : List Byte) : Completes (.xmap bs) s (fun t =>
    (∀ k, mapFault bs (s.get Pg.clock Clock.CLK_SPAN_ACTIVE) = some k → LoadFailed t 5) ∧
    (mapFault bs (s.get Pg.clock Clock.CLK_SPAN_ACTIVE) = none → BodyEnded t rest (s.bodyVerdict x rest bs) ∧
      (s.bodyVerdict x rest bs = none → MapGiven s t bs))) := by
  refine completes_of_onPart (t := s.xmapRead bs) (ok := true) rfl rfl ⟨fun k hfault => ?_, fun hnone => ?_⟩
  · have hfailed := xmapRead_rejected hat hloading htype hport hfault
    exact hfailed
  · obtain ⟨hended, hget⟩ := xmapRead_ended hat hloading htype hport hnone
    exact ⟨hended.with_pending _, fun hv => (mapApplied_given hnone s).of_gets (hget hv)⟩

theorem regwrite_completes (htype : x.type = 5) (ps : List (Word × Word)) : Completes (.regwrite ps) s (fun t =>
    (ps = [] → BodyEnded t rest (s.bodyVerdict x rest [])) ∧
    (∀ a w more, ps = (a, w) :: more → regwriteReaches x.die a.toNat = false → LoadFailed t 5) ∧
    (∀ a w, ps = [(a, w)] → regwriteReaches x.die a.toNat = true →
      let u := s.pairsTaken x (pairBytes ps)
      (u.pairWritten a w).boot = u.boot →
      (u.wordWriteFails .config a.toNat (u.pairValue a w) = true → LoadFailed t 5) ∧
      (u.wordWriteFails .config a.toNat (u.pairValue a w) = false → BodyEnded t rest (s.bodyVerdict x rest (pairBytes ps)) ∧
        (s.bodyVerdict x rest (pairBytes ps) = none →
          (holdsEnable a.toNat w = true → pageAt a.toNat ∈ t.boot.heldEn) ∧ t = { u.pairWritten a w with boot := t.boot })))) := by
  refine completes_of_onPart (t := s.regwriteRead ps) (ok := true) rfl rfl ⟨?_, ?_, ?_⟩
  · rintro rfl
    exact (regwriteRead_ended_nil hat hloading htype hport).with_pending _
  · rintro a w more rfl hunreached
    have hfailed := regwriteRead_unreached hat hloading htype hport hunreached w more
    exact hfailed
  · rintro a w rfl hreach
    intro u hboot
    refine ⟨fun hfails => ?_, fun hwritten => ?_⟩
    · have hfailed := regwriteRead_dropped hat hloading htype hport hreach hboot hfails
      exact hfailed
    · obtain ⟨hended, hleft⟩ := regwriteRead_written hat hloading htype hport hreach hboot hwritten
      refine ⟨hended.with_pending _, fun hnone => ?_⟩
      obtain ⟨hheld, hwrite⟩ := hleft hnone
      refine ⟨hheld, ?_⟩
      have hqueue : (u.pairWritten a w).pending = s.pending := (pairWritten_pending hreach u w).trans (s.pairsTaken_pending x _)
      rw [hwrite, ← hqueue]

theorem sectorCrc_completes (htype : x.type = 6) (vs : List Word) : Completes (.sectorCrc vs) s (fun t =>
    (vs.length < 96 → LoadFailed t 1) ∧
    (96 ≤ vs.length → BodyEnded t rest (s.bodyVerdict x rest (vs.flatMap (fun v => leBytes 4 v.toNat))) ∧
      (s.bodyVerdict x rest (vs.flatMap (fun v => leBytes 4 v.toNat)) = none →
        ∀ sec < 96, SMap.read none t.boot.sectorCrcs (sectorKey x.die sec) = vs[sec]?))) := by
  refine completes_of_onPart (t := s.sectorCrcRead vs) (ok := true) rfl rfl ⟨fun hlen => ?_, fun hlen => ?_⟩
  · have hfailed := sectorCrcRead_short hat hloading hport htype hlen
    exact hfailed
  · obtain ⟨hended, hnoted⟩ := sectorCrcRead_noted hat hloading hport htype hlen
    exact ⟨hended.with_pending _, hnoted⟩

end

/-! ## The audit (R445, R447) -/

section
variable {d sec : Nat} (hsec : isSector d sec = true)
include hsec

theorem auditLapDone_idle (hidle : s.auditRuns d sec = false) (us : Nat) : Completes (.auditLapDone d sec us) s (fun t => t = s) := by
  refine completes_of_onPart rfl hsec ?_
  rw [auditLap_of_idle hidle]

theorem auditLapDone_completes (hruns : s.auditRuns d sec = true) (us : Nat) : Completes (.auditLapDone d sec us) s (fun t =>
    (s.references d sec = [] → t.references d sec = (List.range 129).map (s.auditCrc d sec) ∧
      (SMap.read none s.boot.sectorCrcs (sectorKey d sec) = none ∨
        SMap.read none s.boot.sectorCrcs (sectorKey d sec) = some (s.sectorCrc d sec) →
        t.get (Pg.sctl d sec) Sctl.SCTL_AUDIT_SIG_SIG = (s.sectorCrc d sec).toNat) ∧
      ∀ x, SMap.read none s.boot.sectorCrcs (sectorKey d sec) = some x → x ≠ s.sectorCrc d sec → AuditLasting s t d sec) ∧
    (s.references d sec ≠ [] → t.references d sec = s.references d sec ∧
      t.get (Pg.sctl d sec) Sctl.SCTL_AUDIT_CNT_LAPS =
        satAdd Sctl.SCTL_AUDIT_CNT_LAPS.width (s.get (Pg.sctl d sec) Sctl.SCTL_AUDIT_CNT_LAPS) 1 ∧
      (s.flag (Pg.sctl d sec) Sctl.SCTL_AUDIT_TEST_FLIP_ONCE = true → AuditTransient s t (Pg.sctl d sec) ∧
        t.get (Pg.sctl d sec) Sctl.SCTL_AUDIT_TEST_FLIP_ONCE = 0))) := by
  refine completes_of_onPart (t := s.auditLap d sec us) rfl hsec ⟨fun hfirst => ?_, fun hlater => ?_⟩
  · have hstores := auditLap_stores hruns us hsec hfirst
    exact hstores
  · have hcounts := auditLap_counts hruns us hsec hlater
    exact hcounts

theorem auditMismatch_completes {tile : Nat} (htile : tile ≤ 128) (clean : Bool) : Completes (.auditMismatch d sec tile clean) s (fun t =>
    if s.auditRuns d sec = false ∨ s.references d sec = [] then t = s
    else if clean then AuditTransient s t (Pg.sctl d sec) else AuditLasting s t d sec) := by
  have hpart : (isSector d sec && decide (tile ≤ 128)) = true := by simp [hsec, htile]
  refine completes_of_onPart (t := s.auditDiffers d sec tile clean) rfl hpart ?_
  rw [auditDiffers_eq]
  split_ifs
  · rfl
  · have hcounts := auditTransient_counts (s := s) hsec tile
    exact hcounts
  · have hlasts := auditLasting_lasts (s := s) hsec 2 tile
    exact hlasts

end

end State
end Sys2Proof.Machine
end

section
namespace Sys2Proof

open Machine Machine.Reg

/-- Settles O51: each body is one step at the section at the head of the table, and what it leaves is read off its end, its failure, or what it
applied. -/
theorem imageBodiesAreAppliedOrFailTheLoad : Obligations.ImageBodiesAreAppliedOrFailTheLoad := by
  unfold Obligations.ImageBodiesAreAppliedOrFailTheLoad
  refine ⟨?types, ?bodies, ?audit⟩
  case types =>
    intro s i type hbody
    refine ⟨State.carriesBody_idle hbody s, fun x rest hloading hreload hsections htype hdie hport => ?_⟩
    have hat : State.AtSection s x rest := ⟨hreload, State.running_of_loading hloading hreload, hsections⟩
    obtain ⟨t, hnext, hphase, hrunning, -, hreason, -⟩ := State.carriesBody_down hbody hat hloading htype hdie hport
    exact ⟨t, hnext, hphase, hrunning, hreason⟩
  case bodies =>
    intro s x rest hloading hreload hsections hport
    have hat : State.AtSection s x rest := ⟨hreload, State.running_of_loading hloading hreload, hsections⟩
    refine ⟨fun bs htype => ?_, fun htype hclosed => ?_, fun htype hopened => ?_, fun op i addr second check body y hframe htype hopened => ?_,
      fun r htype => ?_, fun bs htype => ?_, fun ps htype => ?_, fun vs htype => ?_⟩
    · exact State.stage1_completes hat hloading hport htype bs
    · exact State.framesBegin_completes hat hloading hport htype hclosed
    · exact State.framesEnd_completes hat hloading hport htype hopened
    · exact State.carriesFrame_recorded hat hloading htype hport hopened hframe
    · exact State.engines_completes hat hloading hport htype r
    · exact State.xmap_completes hat hloading hport htype bs
    · exact State.regwrite_completes hat hloading hport htype ps
    · exact State.sectorCrc_completes hat hloading hport htype vs
  case audit =>
    intro s d sec us tile hsec htile
    refine ⟨fun hidle => ?_, fun hruns => ?_, fun clean => ?_⟩
    · exact State.auditLapDone_idle hsec hidle us
    · exact State.auditLapDone_completes hsec hruns us
    · exact State.auditMismatch_completes hsec htile clean

end Sys2Proof
end

section
/-! SUPPORT. The stored words of a sector's banks under the accesses of its ports (R202 to R211): what leaves them alone, what a detecting
read notes, and what a port's write stores. -/

namespace Sys2Proof.Machine

open Reg

variable {s t u : State} {page q w : Nat}

/-! ## Registers of integrity pages from 0x300 on: the remap tables and the flip mask -/

/-- The bit addresses of a page below 0x300: `INT_STATUS` and the words of its blocks, in which findings are noted (R225). -/
def InFindings (page k : Nat) : Prop := k / 32768 = page ∧ k % 32768 < 0x300 * 8

/-- An element of a field that lies in its page from 0x300 on. -/
def RegField.upper (f : RegField) (i : Nat) : Prop := f.inPage = true ∧ i < f.count ∧ 0x300 ≤ f.off

theorem not_inFindings {p i : Nat} {f : RegField} (h : f.upper i) : ¬InFindings page (fieldKey p f i) := by
  obtain ⟨hf, hi, hoff⟩ := h
  have hlt := RegField.inPage_lt hf hi
  unfold InFindings fieldKey
  generalize i * f.stride = a at *
  omega

theorem not_inFindings_of_page {p i : Nat} {f : RegField} (hf : f.inPage = true) (hi : i < f.count) (hp : p ≠ page) :
    ¬InFindings page (fieldKey p f i) := fun h => hp ((fieldKey_page hf hi).symm.trans h.1)

theorem isMiBank_iff {p r : Nat} : isMiBank p r = true ↔ isMiPage p = true ∧ r < bankCount p := by
  simp [isMiBank]

theorem isMram_of_mi {p : Nat} (h : isMiPage p = true) : isMram p = false := by
  have hsafety : isMiPage Pg.safety = false := by decide
  simp only [isMram, decide_eq_false_iff_not]
  rintro rfl
  simp [hsafety] at h

theorem isMiPage_of_mi (h : pageKind page = some .mi) : isMiPage page = true := by simp [isMiPage, h]

theorem isMiBank_of_mi (hk : pageKind page = some .mi) (hq : q < 50) : isMiBank page q = true := by
  simp [isMiBank_iff, isMiPage_of_mi hk, bankCount, isMram_mi hk, isEngPage_mi hk, hq]

theorem isMiBank_lt {p r : Nat} (h : isMiBank p r = true) : r < 50 := by
  obtain ⟨hp, hr⟩ := isMiBank_iff.1 h
  rw [bankCount, isMram_of_mi hp] at hr
  simp only [Bool.false_eq_true, if_false] at hr
  split at hr <;> omega

/-! ## Steps that leave every stored word alone -/

/-- From `s` to `t` no stored word changes, nor a register of an integrity page that a remap table or a flip mask stands in. -/
structure SameWords (s t : State) : Prop where
  stores : StoresSame s t
  regs : ∀ p f i, isMiPage p = true → f.upper i → t.get p f i = s.get p f i

namespace SameWords

theorem refl (s : State) : SameWords s s := ⟨⟨rfl, rfl, rfl⟩, fun _ _ _ _ _ => rfl⟩

theorem trans (h : SameWords s t) (h' : SameWords t u) : SameWords s u := by
  obtain ⟨hcells, hparity, hspares⟩ := h.stores
  obtain ⟨hcells', hparity', hspares'⟩ := h'.stores
  exact ⟨⟨hcells'.trans hcells, hparity'.trans hparity, hspares'.trans hspares⟩,
    fun p f i hp hf => (h'.regs p f i hp hf).trans (h.regs p f i hp hf)⟩

theorem of_regs (hstores : StoresSame s t) (hregs : t.regs = s.regs) : SameWords s t :=
  ⟨hstores, fun p f i _ _ => State.get_of_regs hregs p f i⟩

/-- A change of registers in which findings are noted. -/
theorem of_findings (hstores : StoresSame s t) (hregs : ChangesIn (InFindings page) s t) : SameWords s t :=
  ⟨hstores, fun p f i _ hf => hregs p f i (not_inFindings hf)⟩

/-- A write of a field of a page that is no integrity page. -/
theorem set {p i : Nat} {f : RegField} (s : State) (v : Nat) (hp : isMiPage p = false) (hf : f.inPage = true) (hi : i < f.count) :
    SameWords s (s.set p f v i) := by
  refine ⟨⟨rfl, rfl, rfl⟩, fun r g j hr hg => State.get_set_other s v (fieldKey_ne_of_pages hg.1 hg.2.1 hf hi ?_)⟩
  rintro rfl
  simp [hp] at hr

end SameWords

/-! ## Stored words and the flip mask -/

/-- The fields of a bank's remap entries lie there. -/
theorem remapFields_upper {p r i : Nat} (hb : isMiBank p r = true) (hi : i < 4) :
    (miRemapValid p).upper (4 * r + i) ∧ (miRemapParity p).upper (4 * r + i) ∧ (miRemapWord p).upper (4 * r + i) := by
  obtain ⟨hp, hr⟩ := isMiBank_iff.1 hb
  simp only [bankCount, isMram_of_mi hp, Bool.false_eq_true, if_false] at hr
  unfold miRemapValid miRemapParity miRemapWord
  split at hr
  case isTrue heng =>
    have hcount : 4 * r + i < 160 := by omega
    simp only [heng, if_true]
    exact ⟨⟨by decide, hcount, by decide⟩, ⟨by decide, hcount, by decide⟩, ⟨by decide, hcount, by decide⟩⟩
  case isFalse heng =>
    have hcount : 4 * r + i < 200 := by omega
    simp only [heng]
    exact ⟨⟨by decide, hcount, by decide⟩, ⟨by decide, hcount, by decide⟩, ⟨by decide, hcount, by decide⟩⟩

/-- So do those of the flip mask. -/
theorem flipFields_upper (p : Nat) : (miFlipArm p).upper 0 ∧ (miFlipBlock p).upper 0 ∧ (miFlipSrc p).upper 0 := by
  unfold miFlipArm miFlipBlock miFlipSrc RegField.upper
  cases isEngPage p <;> decide

namespace SameWords

theorem remapOf (h : SameWords s t) {p r : Nat} (hb : isMiBank p r = true) (par : Bool) (v : Nat) :
    t.remapOf p r par v = s.remapOf p r par v := by
  have hp := (isMiBank_iff.1 hb).1
  simp only [State.remapOf, isMram_of_mi hp, Bool.false_eq_true, if_false]
  refine List.find?_congr fun i hi => ?_
  obtain ⟨hvalid, hparity, hword⟩ := remapFields_upper hb (List.mem_range.1 hi)
  simp only [State.flag, h.regs p _ _ hp hvalid, h.regs p _ _ hp hparity, h.regs p _ _ hp hword]

theorem raw (h : SameWords s t) {p r : Nat} (hb : isMiBank p r = true) (par : Bool) (v : Nat) : t.raw p r par v = s.raw p r par v := by
  obtain ⟨hcells, hparity, hspares⟩ := h.stores
  have hmram := isMram_of_mi (isMiBank_iff.1 hb).1
  simp [State.raw, State.cellsOf, hmram, h.remapOf hb, hcells, hparity, hspares]

theorem look (h : SameWords s t) {p r : Nat} (hb : isMiBank p r = true) (v : Nat) : t.look p r v = s.look p r v := by
  simp only [State.look, h.raw hb]

theorem flips (h : SameWords s t) {p : Nat} (hp : isMiPage p = true) (b : Nat) (test : Bool) : t.flips p b test = s.flips p b test := by
  obtain ⟨harm, hblock, hsrc⟩ := flipFields_upper p
  simp only [State.flips, State.flag, h.regs p _ _ hp harm, h.regs p _ _ hp hblock, h.regs p _ _ hp hsrc]

theorem before_wordsSameBut (h : SameWords s t) (h' : WordsSameBut t u page q w) : WordsSameBut s u page q w :=
  fun p r v hb hv hne => (h' p r v hb hv hne).trans (h.raw hb false v)

theorem after_wordsSameBut (h' : SameWords t u) (h : WordsSameBut s t page q w) : WordsSameBut s u page q w :=
  fun p r v hb hv hne => (h'.raw hb false v).trans (h p r v hb hv hne)

end SameWords

/-! ## Storing a raw word -/

theorem State.raw_putRaw_same (s : State) (page q : Nat) (par : Bool) (w : Nat) (x : BitVec 72) :
    (s.putRaw page q par w x).raw page q par w = x := by
  have hremap : (s.putRaw page q par w x).remapOf page q par w = s.remapOf page q par w := rfl
  have hcells : (s.putRaw page q par w x).cellsOf page q = s.cellsOf page q := rfl
  rw [State.raw, hremap, hcells]
  cases hentry : s.remapOf page q par w <;> cases par <;> simp [State.putRaw, hentry]

/-- A valid remap entry is one of four and names the word it serves. -/
theorem State.remapOf_some {i : Nat} {par : Bool} (h : s.remapOf page q par w = some i) :
    i < 4 ∧ s.get page (miRemapWord page) (4 * q + i) = w := by
  unfold State.remapOf at h
  split at h
  · cases h
  · have hmem := List.mem_range.1 (List.mem_of_find?_eq_some h)
    have hentry := List.find?_some h
    simp only [Bool.and_eq_true, decide_eq_true_eq] at hentry
    exact ⟨hmem, hentry.2⟩

theorem State.raw_putRaw_other (s : State) (x : BitVec 72) (hbank : isMiBank page q = true) (hw : w < 1024) :
    WordsSameBut s (s.putRaw page q false w x) page q w := by
  intro p r v hb hv hne
  have hq := isMiBank_lt hbank
  have hr := isMiBank_lt hb
  have hmram := isMram_of_mi (isMiBank_iff.1 hb).1
  have hmram' := isMram_of_mi (isMiBank_iff.1 hbank).1
  have hremap : (s.putRaw page q false w x).remapOf p r false v = s.remapOf p r false v := rfl
  rw [State.raw, State.raw, hremap]
  have hcells (u : State) : u.cellsOf p r = r ∧ u.cellsOf page q = q := by simp [State.cellsOf, hmram, hmram']
  simp only [hcells, Bool.false_eq_true, if_false]
  cases hmine : s.remapOf page q false w with
  | none =>
    cases s.remapOf p r false v with
    | none =>
      have hkey : wordKey p r v ≠ wordKey page q w := by
        unfold wordKey bankKey
        omega
      simp [State.putRaw, hmine, hcells, SMap.read_write_other _ _ _ _ hkey]
    | some j => simp [State.putRaw, hmine]
  | some i =>
    cases htheirs : s.remapOf p r false v with
    | none => simp [State.putRaw, hmine]
    | some j =>
      obtain ⟨hi, hword⟩ := State.remapOf_some hmine
      obtain ⟨hj, hword'⟩ := State.remapOf_some htheirs
      have hkey : spareKey p r j ≠ spareKey page q i := by
        unfold spareKey bankKey
        intro he
        have hentry : p = page ∧ r = q ∧ j = i := by omega
        obtain ⟨rfl, rfl, rfl⟩ := hentry
        exact hne ⟨rfl, rfl, hword'.symm.trans hword⟩
      simp [State.putRaw, hmine, SMap.read_write_other _ _ _ _ hkey]

/-- A port's write through no flip mask stores the word of the code; what else it does is no stored word. -/
theorem State.portStore_unflipped (v : DWord) (yields : Bool) (h : s.flips page (blockOf page q) false = false) :
    SameWords (s.putRaw page q false w (codeWord v.toNat)) (s.portStore page q w v yields) := by
  have hcoded : s.putCoded page q w v.toNat false yields = s.putRaw page q false w (codeWord v.toNat) := by simp [State.putCoded, h]
  rw [State.portStore, hcoded]
  generalize s.putRaw page q false w (codeWord v.toNat) = t
  refine .of_regs ?_ ?_
  · unfold State.supersede
    split <;> exact ⟨rfl, rfl, rfl⟩
  · unfold State.supersede
    split <;> rfl

theorem State.raw_portStore (v : DWord) (yields : Bool) (hbank : isMiBank page q = true) (h : s.flips page (blockOf page q) false = false) :
    (s.portStore page q w v yields).raw page q false w = codeWord v.toNat :=
  ((State.portStore_unflipped v yields h).raw hbank false w).trans (s.raw_putRaw_same ..)

theorem State.portStore_words (v : DWord) (yields : Bool) (hbank : isMiBank page q = true) (hw : w < 1024)
    (h : s.flips page (blockOf page q) false = false) : WordsSameBut s (s.portStore page q w v yields) page q w :=
  (State.portStore_unflipped v yields h).after_wordsSameBut (s.raw_putRaw_other _ hbank hw)

theorem State.portStore_stale (s : State) (page q w : Nat) (v : DWord) (yields : Bool) :
    SMap.read false (s.portStore page q w v yields).mem.stale (pageKey page q (w / 64)) = true :=
  SMap.read_write_same false _ _ true

/-! ## Steps that leave every port alone -/

/-- From `s` to `t` no port of a block, no queue and no bank in its second cycle changes, nor the fabric, which holds their configuration. -/
structure SamePorts (s t : State) : Prop where
  fabric : t.fabric = s.fabric
  dpb : t.mem.dpb = s.mem.dpb
  bkb : t.mem.bkb = s.mem.bkb
  busy : t.mem.busy = s.mem.busy
  queues : t.mem.queues = s.mem.queues

namespace SamePorts

theorem refl (s : State) : SamePorts s s := ⟨rfl, rfl, rfl, rfl, rfl⟩

theorem trans (h : SamePorts s t) (h' : SamePorts t u) : SamePorts s u :=
  ⟨h'.fabric.trans h.fabric, h'.dpb.trans h.dpb, h'.bkb.trans h.bkb, h'.busy.trans h.busy, h'.queues.trans h.queues⟩

theorem dpbPort (h : SamePorts s t) (d sec i b : Nat) : t.dpbPort d sec i b = s.dpbPort d sec i b := by simp only [State.dpbPort, h.dpb]
theorem bkbPort (h : SamePorts s t) (d sec k b : Nat) : t.bkbPort d sec k b = s.bkbPort d sec k b := by simp only [State.bkbPort, h.bkb]
theorem bankBusy (h : SamePorts s t) (page q : Nat) : t.bankBusy page q = s.bankBusy page q := by simp only [State.bankBusy, h.busy]
theorem queue (h : SamePorts s t) (d sec b : Nat) : t.queue d sec b = s.queue d sec b := by simp only [State.queue, h.queues]

theorem putRaw (s : State) (page q : Nat) (par : Bool) (w : Nat) (x : BitVec 72) : SamePorts s (s.putRaw page q par w x) := by
  unfold State.putRaw
  split
  · exact ⟨rfl, rfl, rfl, rfl, rfl⟩
  · split <;> exact ⟨rfl, rfl, rfl, rfl, rfl⟩

theorem portStore (s : State) (page q w : Nat) (v : DWord) (yields : Bool) : SamePorts s (s.portStore page q w v yields) := by
  have hraw (x : BitVec 72) := putRaw s page q false w x
  have hcoded : SamePorts s (s.putCoded page q w v.toNat false yields) := by
    unfold State.putCoded
    split
    · exact (hraw _).trans ⟨rfl, rfl, rfl, rfl, rfl⟩
    · exact hraw _
  have hsupersede (u : State) : SamePorts u (u.supersede page q w) := by
    unfold State.supersede
    split <;> exact ⟨rfl, rfl, rfl, rfl, rfl⟩
  exact (hcoded.trans (hsupersede _)).trans ⟨rfl, rfl, rfl, rfl, rfl⟩

end SamePorts

/-! ## A detecting read -/

/-- From `s` to `t` reads of a sector's words have noted what they found: in registers of its integrity page, and in repair queues (R209). -/
structure Notes (page : Nat) (s t : State) : Prop where
  regs : ChangesIn (InFindings page) s t
  stores : StoresSame s t
  ports : SamePorts s t

namespace Notes

theorem refl (page : Nat) (s : State) : Notes page s s := ⟨.refl _ s, ⟨rfl, rfl, rfl⟩, .refl s⟩

theorem words (h : Notes page s t) : SameWords s t := .of_findings h.stores h.regs

/-- A register of another page. -/
theorem get (h : Notes page s t) {p i : Nat} {f : RegField} (hf : f.inPage = true) (hi : i < f.count) (hp : p ≠ page) :
    t.get p f i = s.get p f i := h.regs p f i (not_inFindings_of_page hf hi hp)

theorem trans (h : Notes page s t) (h' : Notes page t u) : Notes page s u :=
  ⟨h.regs.trans h'.regs, (h.words.trans h'.words).stores, h.ports.trans h'.ports⟩

theorem set {f : RegField} {i : Nat} (s : State) (v : Nat) (h : InFindings page (fieldKey page f i)) : Notes page s (s.set page f v i) :=
  ⟨.set s v h, ⟨rfl, rfl, rfl⟩, ⟨rfl, rfl, rfl, rfl, rfl⟩⟩

theorem ite {c : Prop} [Decidable c] (h : c → Notes page s t) (h' : ¬c → Notes page s u) : Notes page s (if c then t else u) := by
  split
  case isTrue hc => exact h hc
  case isFalse hc => exact h' hc

section
variable (hk : pageKind page = some .mi) (hq : q < 50)
include hk

theorem miInt (s : State) (b : Nat) : Notes page s (s.miInt page b) := by
  simp only [State.miInt, isMram_mi hk, Bool.false_eq_true, if_false]
  refine .set s _ ⟨?_, ?_⟩ <;> simp only [fieldKey, Hdr.INT_STATUS_BLOCK] <;> omega

include hq

/-- A write in the words of a block that count and describe its findings. -/
theorem setBlock (s : State) {f : RegField} (v : Nat) (hf : (f.off = 0x208 ∨ f.off = 0x20C) ∧ f.stride = 0x10 ∧ f.lo < 32) :
    Notes page s (s.set page f v (blockOf page q)) := by
  have hb := blockOf_mi hk hq
  refine .set s v ⟨?_, ?_⟩ <;> rw [fieldKey, hf.2.1] <;> omega

theorem lastErr (s : State) (kind syn : Nat) (par : Bool) (w : Nat) : Notes page s (s.lastErr page q kind syn par w) := by
  have hset (u : State) {f : RegField} (v : Nat) (hf : (f.off = 0x208 ∨ f.off = 0x20C) ∧ f.stride = 0x10 ∧ f.lo < 32) :=
    setBlock hk hq u v hf
  unfold State.lastErr
  dsimp only
  refine .ite (fun _ => .refl page s) (fun _ => ?_)
  simp only [miErrValid, miErrKind, miErrBank, miErrSyn, miErrPar, miErrWord, isEngPage_mi hk, Bool.false_eq_true, if_false]
  exact (((((hset s 1 (by decide)).trans (hset _ _ (by decide))).trans (hset _ _ (by decide))).trans (hset _ _ (by decide))).trans
    (hset _ _ (by decide))).trans (hset _ _ (by decide))

theorem miDrop (s : State) : Notes page s (s.miCount page (miDrop page) (blockOf page q)) := by
  simp only [State.miCount, Machine.miDrop, isMram_mi hk, isEngPage_mi hk, Bool.false_eq_true, if_false]
  exact setBlock hk hq s _ (by decide)

theorem found (s : State) (par : Bool) (w : Nat) (r : WordRead) : Notes page s (s.found page q par w r) := by
  unfold State.found
  split
  · exact .refl page s
  · exact .refl page s
  · dsimp only
    refine .trans ((miInt hk s _).trans (lastErr hk hq _ _ _ _ _)) (.ite (fun _ => .refl page _) (fun _ => ?_))
    exact .ite (fun _ => miDrop hk hq _) (fun _ => ⟨.of_regs _ rfl, ⟨rfl, rfl, rfl⟩, ⟨rfl, rfl, rfl, rfl, rfl⟩⟩)

theorem detected (s : State) (w : Nat) (r : WordRead) : Notes page s (s.detected page q w r) := found hk hq s false w r

end

end Notes
end Sys2Proof.Machine
end

section
/-! SUPPORT. A list of ports that take their inputs one after another (R167): what happens at one of them. -/

namespace Sys2Proof.Machine

/-- If nothing but one element of a list touches what `g` reads, what it makes of it stands at the end. -/
theorem forEach_at {α β σ : Type} (g : σ → β) {xs : List α} {f : α → σ → σ} {a : α} (hnodup : xs.Nodup) (ha : a ∈ xs)
    (hother : ∀ x ∈ xs, x ≠ a → ∀ u, g (f x u) = g u) (s : σ) : ∃ u, g u = g s ∧ g (forEach xs f s) = g (f a u) := by
  obtain ⟨before, after, rfl⟩ := List.append_of_mem ha
  obtain ⟨-, hafter, hdisjoint⟩ := List.nodup_append.1 hnodup
  have hkeep (ys : List α) (hys : ∀ y ∈ ys, y ∈ before ++ a :: after ∧ y ≠ a) (u : σ) : g (forEach ys f u) = g u := by
    induction ys generalizing u with
    | nil => rfl
    | cons y ys ih =>
      obtain ⟨hy, hne⟩ := hys y (by simp)
      exact (ih (fun z hz => hys z (by simp [hz])) (f y u)).trans (hother y hy hne u)
  have hsplit : forEach (before ++ a :: after) f s = forEach after f (f a (forEach before f s)) := by simp [forEach]
  refine ⟨forEach before f s, hkeep before (fun y hy => ⟨by simp [hy], fun he => hdisjoint y hy a (by simp) he⟩) s, ?_⟩
  rw [hsplit]
  exact hkeep after (fun y hy => ⟨by simp [hy], fun he => (List.nodup_cons.1 hafter).1 (he ▸ hy)⟩) _

end Sys2Proof.Machine
end

section
/-! SUPPORT. The ports of a dual-port block (R167 to R177, R194): what a port takes at an edge, and what a command makes of it. -/

namespace Sys2Proof.Machine

open Reg

namespace State

variable {s t : State} {d sec i b : Nat}

/-! ## The pages and banks of a sector -/

theorem sctl_ne_mi (d sec : Nat) (hsec : isSector d sec = true) : Pg.sctl d sec ≠ Pg.mi d sec := by
  obtain ⟨-, -, hlt⟩ := isSector_iff.1 hsec
  unfold Pg.sctl Pg.mi
  omega

theorem isMiPage_sctl (hsec : isSector d sec = true) : isMiPage (Pg.sctl d sec) = false := by
  simp [isMiPage, pageKind_sctl_of hsec]

theorem isMiPage_sector (hsec : isSector d sec = true) : isMiPage (Pg.mi d sec) = true := isMiPage_of_mi (pageKind_mi_of hsec)

theorem isMiBank_sector {q : Nat} (hsec : isSector d sec = true) (hq : q < 50) : isMiBank (Pg.mi d sec) q = true :=
  isMiBank_of_mi (pageKind_mi_of hsec) hq

theorem blockOf_dpb (hsec : isSector d sec = true) (hi : i < 10) : blockOf (Pg.mi d sec) i = i := by
  have hk := pageKind_mi_of hsec
  simp [blockOf, isMram_mi hk, isEngPage_mi hk, hi]

theorem entryWord_lt (w a : Nat) : entryWord w a < 512 := Nat.mod_lt _ (by decide)

@[simp] theorem upset_zero (s : State) (page q : Nat) (par : Bool) (w : Nat) : s.upset page q par w 0#72 = s := if_pos rfl

/-- A port's write changes no register of another page. -/
theorem portStore_get (hsec : isSector d sec = true) (q w : Nat) (v : DWord) (yields : Bool) {p j : Nat} {f : RegField} (hf : f.inPage = true)
    (hj : j < f.count) (hp : p ≠ Pg.mi d sec) : (s.portStore (Pg.mi d sec) q w v yields).get p f j = s.get p f j :=
  (changesPage_portStore (pageKind_mi_of hsec) s q w v yields).regs p f j (RegField.inPage_lt hf hj) hp

/-! ## Ports -/

@[simp] theorem dpbPort_setDpbPort (s : State) (d sec i b : Nat) (p : DpbPort) : (s.setDpbPort d sec i b p).dpbPort d sec i b = p :=
  SMap.read_write_same ({} : DpbPort) s.mem.dpb _ p

theorem dpbPort_setDpbPort_other {j c : Nat} (s : State) (p : DpbPort) (h : dpbKey d sec j c ≠ dpbKey d sec i b) :
    (s.setDpbPort d sec i b p).dpbPort d sec j c = s.dpbPort d sec j c := SMap.read_write_other ({} : DpbPort) {} s.mem.dpb p h

theorem dpbKey_partner (d sec i : Nat) (hb : b < 2) : dpbKey d sec i (1 - b) ≠ dpbKey d sec i b := by
  unfold dpbKey
  omega

theorem sameWords_setDpbPort (s : State) (d sec i b : Nat) (p : DpbPort) : SameWords s (s.setDpbPort d sec i b p) :=
  .of_regs ⟨rfl, rfl, rfl⟩ rfl

theorem dpbRec_congr (hfabric : t.fabric = s.fabric) (hi lo : Nat) : t.dpbRec d sec i hi lo = s.dpbRec d sec i hi lo := by
  simp only [dpbRec, frame, hfabric]

theorem dpbTrack_congr (hfabric : t.fabric = s.fabric) (c : Nat) : t.dpbTrack d sec i c = s.dpbTrack d sec i c := dpbRec_congr hfabric _ _

/-- What a port meets follows from the configuration, the counts of its edges and what it did last. -/
theorem dpbMet_congr {c : Nat} (hfabric : t.fabric = s.fabric) (hport : t.dpbPort d sec i c = s.dpbPort d sec i c) (word : Nat) (far : Bool) :
    t.dpbMet d sec i c word far = s.dpbMet d sec i c word far ∧ t.dpbMetStore d sec i c word far = s.dpbMetStore d sec i c word far := by
  have htrack (e : Nat) := dpbTrack_congr (d := d) (sec := sec) (i := i) hfabric e
  have hmeets : t.dpbMeets d sec i c far = s.dpbMeets d sec i c far := by
    funext x
    rw [dpbMeets, dpbMeets, trackCount, trackCount, htrack, htrack, htrack, hfabric]
  simp only [dpbMet, dpbMetStore, hmeets, hport, and_self]

theorem dpbMet_word {c word : Nat} {far : Bool} {a : PortAccess} (h : s.dpbMet d sec i c word far = some a) : a.word = word := by
  have hfilter := (Option.filter_eq_some_iff.1 h).2
  simp only [Bool.and_eq_true, decide_eq_true_eq] at hfilter
  exact hfilter.1

/-! ## The inputs that an edge takes -/

theorem dpbTakes_due (hi : i < 10) (hb : b < 2) (s t : State) (hopen : t.dpbOpen d sec i b = true)
    (hen : s.attachIn d sec (192 * i + 96 * b) = true) :
    ((s.dpbTakes d sec (t.dpbTrack d sec i b) t).dpbPort d sec i b).due =
      some { we := s.attachIn d sec (192 * i + 96 * b + 1), addr := s.attachNum d sec (192 * i + 96 * b + 2) 15
             din := BitVec.ofNat 64 (s.attachNum d sec (192 * i + 96 * b + 17) 64) } := by
  have hdiv : (2 * i + b) / 2 = i := by omega
  have hmod : (2 * i + b) % 2 = b := by omega
  have hmem : 2 * i + b ∈ (List.range 20).filter (fun j =>
      t.dpbTrack d sec (j / 2) (j % 2) = t.dpbTrack d sec i b && t.dpbOpen d sec (j / 2) (j % 2)) := by
    simp [hdiv, hmod, hopen]
    omega
  have hother (j : Nat) (hne : j ≠ 2 * i + b) (u : State) (p : DpbPort) :
      (if s.attachIn d sec (192 * (j / 2) + 96 * (j % 2)) then u.setDpbPort d sec (j / 2) (j % 2) p else u).dpbPort d sec i b =
        u.dpbPort d sec i b := by
    have hkey : dpbKey d sec i b ≠ dpbKey d sec (j / 2) (j % 2) := by
      unfold dpbKey
      omega
    split
    · exact dpbPort_setDpbPort_other u p hkey
    · rfl
  obtain ⟨u, -, hu⟩ := forEach_at (fun u : State => u.dpbPort d sec i b) (List.nodup_range.filter _) hmem
    (fun j _ hne u => hother j hne u _) t
  refine (congrArg DpbPort.due hu).trans ?_
  simp [hdiv, hmod, hen]

/-! ## An access answered with BUSY (R176) -/

/-- From `s` to `t` the block's counter of such accesses counts one more. -/
def BusyCounted (s t : State) (d sec i : Nat) : Prop := t.get (Pg.sctl d sec) Sctl.SCTL_DPB_BUSY_COUNT i =
  satAdd Sctl.SCTL_DPB_BUSY_COUNT.width (s.get (Pg.sctl d sec) Sctl.SCTL_DPB_BUSY_COUNT i) 1

/-- It does so if it does between states that show the same count. -/
theorem BusyCounted.of_get {u v : State} (h : BusyCounted u v d sec i)
    (hbefore : u.get (Pg.sctl d sec) Sctl.SCTL_DPB_BUSY_COUNT i = s.get (Pg.sctl d sec) Sctl.SCTL_DPB_BUSY_COUNT i)
    (hafter : t.get (Pg.sctl d sec) Sctl.SCTL_DPB_BUSY_COUNT i = v.get (Pg.sctl d sec) Sctl.SCTL_DPB_BUSY_COUNT i) :
    BusyCounted s t d sec i := by
  rw [BusyCounted, hafter, ← hbefore]
  exact h

theorem dpbBusy_port (s : State) (d sec i b : Nat) : (s.dpbBusy d sec i b).dpbPort d sec i b = { s.dpbPort d sec i b with busy := true } :=
  SMap.read_write_same ({} : DpbPort) s.mem.dpb _ _

theorem dpbBusy_counted (s : State) (d sec i b : Nat) : BusyCounted s (s.dpbBusy d sec i b) d sec i := by
  rw [BusyCounted, dpbBusy, State.get_count_same, State.setDpbPort_get, Nat.mod_eq_of_lt]
  exact Nat.lt_of_le_of_lt (Nat.min_le_right _ _) (by decide)

theorem sameWords_dpbBusy (hsec : isSector d sec = true) (hi : i < 10) (s : State) (b : Nat) : SameWords s (s.dpbBusy d sec i b) :=
  (sameWords_setDpbPort s d sec i b _).trans (.set _ _ (isMiPage_sctl hsec) (by decide) hi)

/-- A write that is not performed is such an access. -/
theorem dpbLoses_busy (hsec : isSector d sec = true) (hi : i < 10) (s : State) (b : Nat) :
    ((s.dpbLoses d sec i b).dpbPort d sec i b).busy = true ∧ BusyCounted s (s.dpbLoses d sec i b) d sec i ∧
    SameWords s (s.dpbLoses d sec i b) := by
  unfold dpbLoses
  have hwords := sameWords_setDpbPort s d sec i b { s.dpbPort d sec i b with last := none }
  generalize hu : s.setDpbPort d sec i b { s.dpbPort d sec i b with last := none } = u at hwords ⊢
  refine ⟨congrArg DpbPort.busy (u.dpbBusy_port d sec i b), (u.dpbBusy_counted d sec i b).of_get ?_ rfl,
    hwords.trans (sameWords_dpbBusy hsec hi u b)⟩
  rw [← hu, State.setDpbPort_get]

/-- In native mode a colliding read is such an access, and it stores nothing in either mode (R176, R177). -/
theorem sameWords_dpbReadCollides (hsec : isSector d sec = true) (hi : i < 10) (s : State) (b a after code : Nat) :
    SameWords s (s.dpbReadCollides d sec i b a after code) := by
  unfold dpbReadCollides
  dsimp only
  split
  · exact sameWords_setDpbPort s d sec i b _
  · exact ((sameWords_setDpbPort s d sec i b _).trans (sameWords_dpbBusy hsec hi _ b)).trans (.of_regs ⟨rfl, rfl, rfl⟩ rfl)

theorem dpbReadCollides_native (hnative : s.compatOn d sec i = false) (a after code : Nat) :
    ((s.dpbReadCollides d sec i b a after code).dpbPort d sec i b).busy = true ∧
    BusyCounted s (s.dpbReadCollides d sec i b a after code) d sec i := by
  simp only [dpbReadCollides, hnative, Bool.false_eq_true, if_false]
  exact ⟨congrArg DpbPort.busy (dpbBusy_port _ d sec i b), (dpbBusy_counted _ d sec i b).of_get rfl rfl⟩

theorem dpbReadCollides_other {c : Nat} (s : State) (a after code : Nat) (h : dpbKey d sec i c ≠ dpbKey d sec i b) :
    (s.dpbReadCollides d sec i b a after code).dpbPort d sec i c = s.dpbPort d sec i c := by
  unfold dpbReadCollides
  dsimp only
  split
  · exact dpbPort_setDpbPort_other s _ h
  · exact (dpbPort_setDpbPort_other _ _ h).trans (dpbPort_setDpbPort_other s _ h)

/-! ## The store of a merge write (R173) -/

theorem mergeStore_of_unripe (h : ∀ m, (s.dpbPort d sec i b).merge = some m → m.ripe = false) (far : Bool) : s.mergeStore d sec i b far = s := by
  unfold mergeStore
  dsimp only
  split
  · rfl
  · next m hm => exact if_pos (h m hm)

theorem mergeStore_of_none (h : (s.dpbPort d sec i b).merge = none) (far : Bool) : s.mergeStore d sec i b far = s :=
  mergeStore_of_unripe (by simp [h]) far

/-- The merged word of port `b` is stored, whatever the other port did. -/
def mergeDone (s : State) (d sec i b : Nat) (m : MergeWrite) : State :=
  let r := s.dpbStore d sec i b m.word m.value
  r.2.setDpbPort d sec i b { r.2.dpbPort d sec i b with merge := none, stored := some r.1 }

section
variable {m : MergeWrite} {far : Bool}

section
variable (hmerge : (s.dpbPort d sec i b).merge = some m) (hripe : m.ripe = true)
include hmerge hripe

theorem mergeStore_alone (hmet : s.dpbMet d sec i (1 - b) m.word far = none) : s.mergeStore d sec i b far = s.mergeDone d sec i b m := by
  simp [mergeStore, hmerge, hripe, hmet, mergeDone]

theorem mergeStore_undoes {a : PortAccess} (hmet : s.dpbMet d sec i (1 - b) m.word far = some a) (hwrite : a.write = true) :
    s.mergeStore d sec i b far = (s.dpbUndo d sec i (1 - b) a).mergeDone d sec i b m := by
  simp [mergeStore, hmerge, hripe, hmet, hwrite, mergeDone]

theorem mergeStore_shows {a : PortAccess} (hmet : s.dpbMet d sec i (1 - b) m.word far = some a) (hwrite : a.write = false) :
    s.mergeStore d sec i b far = (s.mergeDone d sec i b m).dpbReadCollides d sec i (1 - b) a.addr m.value.toNat 0 := by
  simp [mergeStore, hmerge, hripe, hmet, hwrite, mergeDone]

end

theorem mergeDone_port (s : State) (d sec i b : Nat) (m : MergeWrite) : ∃ x,
    (s.mergeDone d sec i b m).dpbPort d sec i b = { s.dpbPort d sec i b with merge := none, stored := x } := by
  simp only [mergeDone, dpbStore, dpbPort_setDpbPort, (SamePorts.portStore ..).dpbPort]
  exact ⟨_, rfl⟩

theorem mergeDone_other {c : Nat} (s : State) (m : MergeWrite) (h : dpbKey d sec i c ≠ dpbKey d sec i b) :
    (s.mergeDone d sec i b m).dpbPort d sec i c = s.dpbPort d sec i c :=
  (dpbPort_setDpbPort_other _ _ h).trans ((SamePorts.portStore ..).dpbPort ..)

theorem mergeDone_compatOn (s : State) (m : MergeWrite) : (s.mergeDone d sec i b m).compatOn d sec i = s.compatOn d sec i := by
  have hfabric : (s.mergeDone d sec i b m).fabric = s.fabric := (SamePorts.portStore s (Pg.mi d sec) i m.word m.value _).fabric
  rw [compatOn, compatOn, dpbCompat, dpbCompat, dpbRec_congr hfabric, dpbTrack_congr hfabric, dpbTrack_congr hfabric]

section
variable (hsec : isSector d sec = true)
include hsec

theorem mergeDone_get (s : State) (b : Nat) (m : MergeWrite) {p j : Nat} {f : RegField} (hf : f.inPage = true) (hj : j < f.count)
    (hp : p ≠ Pg.mi d sec) : (s.mergeDone d sec i b m).get p f j = s.get p f j := portStore_get hsec _ _ _ _ hf hj hp

variable (hi : i < 10) (hflips : s.flips (Pg.mi d sec) i false = false)
include hi hflips

theorem mergeDone_raw (b : Nat) (m : MergeWrite) :
    (s.mergeDone d sec i b m).raw (Pg.mi d sec) i false m.word = codeWord m.value.toNat := by
  have hbank := isMiBank_sector hsec (show i < 50 by omega)
  refine ((sameWords_setDpbPort ..).raw hbank false m.word).trans (raw_portStore _ _ hbank ?_)
  rwa [blockOf_dpb hsec hi]

theorem mergeDone_words (b : Nat) {m : MergeWrite} (hm : m.word < 1024) :
    WordsSameBut s (s.mergeDone d sec i b m) (Pg.mi d sec) i m.word := by
  have hbank := isMiBank_sector hsec (show i < 50 by omega)
  refine (sameWords_setDpbPort ..).after_wordsSameBut (portStore_words _ _ hbank hm ?_)
  rwa [blockOf_dpb hsec hi]

end
end

/-! ## A write of the other port that is undone (R176) -/

section
variable {a : PortAccess}

theorem dpbUndo_port (s : State) (d sec i b : Nat) (a : PortAccess) :
    (s.dpbUndo d sec i b a).dpbPort d sec i b = { s.dpbPort d sec i b with merge := none, last := none, busy := true } := by
  have hport (u : State) (p : DpbPort) : ((u.setDpbPort d sec i b p).dpbBusy d sec i b).dpbPort d sec i b = { p with busy := true } := by
    rw [dpbBusy_port, dpbPort_setDpbPort]
  unfold dpbUndo
  dsimp only
  split <;> exact hport _ _

theorem dpbUndo_other {c : Nat} (s : State) (a : PortAccess) (h : dpbKey d sec i c ≠ dpbKey d sec i b) :
    (s.dpbUndo d sec i b a).dpbPort d sec i c = s.dpbPort d sec i c := by
  have hport (p p' : DpbPort) (x : BitVec 72) : (((s.putRaw (Pg.mi d sec) i false a.word x).setDpbPort d sec i b p).setDpbPort d sec i b
      p').dpbPort d sec i c = s.dpbPort d sec i c :=
    ((dpbPort_setDpbPort_other _ _ h).trans (dpbPort_setDpbPort_other _ _ h)).trans ((SamePorts.putRaw ..).dpbPort ..)
  unfold dpbUndo
  dsimp only
  split <;> exact hport _ _ _

theorem dpbUndo_counted (hsec : isSector d sec = true) (hi : i < 10) (s : State) (b : Nat) (a : PortAccess) :
    BusyCounted s (s.dpbUndo d sec i b a) d sec i := by
  have hkey : fieldKey (Pg.sctl d sec) Sctl.SCTL_DPB_BUSY_COUNT i ≠ fieldKey (Pg.mi d sec) Mi.MI_FLIP_CTL_ARM 0 :=
    fieldKey_ne_of_pages (by decide) hi (by decide) (by decide) (sctl_ne_mi d sec hsec)
  unfold dpbUndo
  dsimp only
  split
  · exact (dpbBusy_counted _ d sec i b).of_get rfl (State.get_set_other _ _ hkey)
  · exact (dpbBusy_counted _ d sec i b).of_get rfl rfl

theorem dpbUndo_width (s : State) (b c : Nat) (a : PortAccess) :
    (s.dpbUndo d sec i c a).dpbWidth d sec i b = s.dpbWidth d sec i b := by
  unfold dpbUndo
  dsimp only
  split <;> rfl

theorem dpbUndo_flips (hsec : isSector d sec = true) (hi : i < 10) (b : Nat) (hmask : a.masked = false) :
    (s.dpbUndo d sec i b a).flips (Pg.mi d sec) i false = s.flips (Pg.mi d sec) i false := by
  have hwords : SameWords (s.putRaw (Pg.mi d sec) i false a.word a.old) (s.dpbUndo d sec i b a) := by
    simp only [dpbUndo, hmask, Bool.false_eq_true, if_false]
    exact (sameWords_setDpbPort ..).trans (sameWords_dpbBusy hsec hi ..)
  exact hwords.flips (isMiPage_sector hsec) i false

end

/-! ## A read -/

section
variable {addr : Nat} {far : Bool} (hmerge : (s.dpbPort d sec i b).merge = none)
include hmerge

/-- A read that meets no write presents its entry and the class (R169, R203). -/
theorem dpbRead_free (hstored : s.dpbMetStore d sec i (1 - b) (entryWord (s.dpbWidth d sec i b) addr) far = none)
    (hmet : (s.dpbMet d sec i (1 - b) (entryWord (s.dpbWidth d sec i b) addr) far).any (·.write) = false) :
    let word := entryWord (s.dpbWidth d sec i b) addr
    let r := s.look (Pg.mi d sec) i word
    ∃ last, s.dpbRead d sec i b addr far 0 = (s.detected (Pg.mi d sec) i word r).setDpbPort d sec i b { s.dpbPort d sec i b with
      busy := false, last := last, dout := BitVec.ofNat 64 (Machine.entryOf (s.dpbWidth d sec i b) addr r.data)
      cstat := BitVec.ofNat 2 r.cls.code } := by
  simp only [dpbRead, mergeStore_of_none hmerge, BitVec.ofNat_eq_ofNat, upset_zero, hmet, hstored, Option.isSome_none, Bool.or_self,
    Bool.false_eq_true, if_false]
  exact ⟨_, rfl⟩

/-- One that meets a write collides. -/
theorem dpbRead_collides (hmet : (s.dpbMet d sec i (1 - b) (entryWord (s.dpbWidth d sec i b) addr) far).any (·.write) = true) :
    ∃ p a after code, s.dpbRead d sec i b addr far 0 = (s.setDpbPort d sec i b p).dpbReadCollides d sec i b a after code := by
  simp only [dpbRead, mergeStore_of_none hmerge, BitVec.ofNat_eq_ofNat, upset_zero, hmet, Bool.true_or, if_true]
  exact ⟨_, _, _, _, rfl⟩

/-! ## A write -/

theorem dpbWrite_alone (din : DWord) (hstored : s.dpbMetStore d sec i (1 - b) (entryWord (s.dpbWidth d sec i b) addr) far = none)
    (hmet : s.dpbMet d sec i (1 - b) (entryWord (s.dpbWidth d sec i b) addr) far = none) :
    s.dpbWrite d sec i b addr din far 0 = s.dpbPerform d sec i b addr din := by
  simp [dpbWrite, mergeStore_of_none hmerge, hstored, hmet]

section
variable {a : PortAccess} (din : DWord) (hone : s.dpbTrack d sec i 0 = s.dpbTrack d sec i 1)
  (hmet : s.dpbMet d sec i (1 - b) (entryWord (s.dpbWidth d sec i b) addr) far = some a) (hwrite : a.write = true)
include hone hmet hwrite

/-- Of two writes on one track port B's is not performed (R176). -/
theorem dpbWrite_loses (hb : b = 1) : s.dpbWrite d sec i b addr din far 0 = s.dpbLoses d sec i b := by
  simp only [dpbWrite, mergeStore_of_none hmerge, BitVec.ofNat_eq_ofNat, upset_zero, hmet, hwrite, hone, if_true, if_pos hb, ite_self]

/-- Port A's is, and undoes the other. -/
theorem dpbWrite_wins (hb : b = 0) (hstored : s.dpbMetStore d sec i (1 - b) (entryWord (s.dpbWidth d sec i b) addr) far = none) :
    s.dpbWrite d sec i b addr din far 0 = (s.dpbUndo d sec i (1 - b) a).dpbPerform d sec i b addr din := by
  have hne : ¬b = 1 := by omega
  simp only [dpbWrite, mergeStore_of_none hmerge, BitVec.ofNat_eq_ofNat, upset_zero, hstored, hmet, hwrite, hone, if_true, if_neg hne,
    Option.isSome_none, Bool.false_eq_true, if_false]

end
end

/-- The outputs of a port after a write that it performs: they follow `WMODE`, and a narrow write of a bad word presents it (R172, R173). -/
def dpbShown (s : State) (d sec i b addr : Nat) (din : DWord) : DpbPort :=
  let w := s.dpbWidth d sec i b
  let r := s.look (Pg.mi d sec) i (entryWord w addr)
  let p := { s.dpbPort d sec i b with busy := false }
  let read := { p with dout := BitVec.ofNat 64 (Machine.entryOf w addr r.data), cstat := BitVec.ofNat 2 r.cls.code }
  if w < 6 && badRead r then read
  else if s.dpbWmode d sec i b = 1 then { p with dout := BitVec.ofNat 64 (din.toNat % 2 ^ 2 ^ w), cstat := 0 }
  else if s.dpbWmode d sec i b = 2 then read
  else p

theorem dpbShown_kept (s : State) (d sec i b addr : Nat) (din : DWord) : (s.dpbShown d sec i b addr din).busy = false ∧
    (s.dpbShown d sec i b addr din).merge = (s.dpbPort d sec i b).merge ∧ (s.dpbShown d sec i b addr din).due = (s.dpbPort d sec i b).due := by
  unfold dpbShown
  dsimp only
  split_ifs <;> exact ⟨rfl, rfl, rfl⟩

theorem dpbShown_bad {addr : Nat} (din : DWord) (hw : s.dpbWidth d sec i b < 6)
    (hbad : badRead (s.look (Pg.mi d sec) i (entryWord (s.dpbWidth d sec i b) addr)) = true) :
    let r := s.look (Pg.mi d sec) i (entryWord (s.dpbWidth d sec i b) addr)
    (s.dpbShown d sec i b addr din).dout = BitVec.ofNat 64 (Machine.entryOf (s.dpbWidth d sec i b) addr r.data) ∧
    (s.dpbShown d sec i b addr din).cstat = BitVec.ofNat 2 r.cls.code := by
  simp [dpbShown, hw, hbad]

/-- A 64-bit entry is a word. -/
theorem entryOf_whole (a x : Nat) : BitVec.ofNat 64 (Machine.entryOf 6 a x) = BitVec.ofNat 64 x := by
  apply BitVec.eq_of_toNat_eq
  simp [Machine.entryOf, entryLow, bits, Nat.mod_one]

theorem dpbShown_whole {addr : Nat} (din : DWord) (hw : s.dpbWidth d sec i b = 6) : (s.dpbShown d sec i b addr din).dout =
    (match s.dpbWmode d sec i b with
      | 1 => din
      | 2 => BitVec.ofNat 64 (s.look (Pg.mi d sec) i (entryWord (s.dpbWidth d sec i b) addr)).data
      | _ => (s.dpbPort d sec i b).dout) := by
  simp only [dpbShown, hw]
  rcases s.dpbWmode d sec i b with _ | _ | _ | mode
  · simp
  · apply BitVec.eq_of_toNat_eq
    simpa using din.isLt
  · simp [entryOf_whole]
  · simp

/-- A write of a whole word. -/
theorem dpbPerform_whole (hsec : isSector d sec = true) (hi : i < 10) (addr : Nat) (din : DWord) (hw : s.dpbWidth d sec i b = 6) :
    ∃ t last yields, Notes (Pg.mi d sec) s t ∧ s.dpbPerform d sec i b addr din =
      (t.portStore (Pg.mi d sec) i (entryWord (s.dpbWidth d sec i b) addr) din yields).setDpbPort d sec i b
        { s.dpbShown d sec i b addr din with last := last } := by
  have hnotes : Notes (Pg.mi d sec) s (if s.dpbWidth d sec i b = 6 ∧ s.dpbWmode d sec i b ≠ 2 then s
      else s.detected (Pg.mi d sec) i (entryWord (s.dpbWidth d sec i b) addr)
        (s.look (Pg.mi d sec) i (entryWord (s.dpbWidth d sec i b) addr))) :=
    .ite (fun _ => .refl _ s) (fun _ => .detected (pageKind_mi_of hsec) (by omega) s _ _)
  unfold dpbPerform
  dsimp only
  generalize (if s.dpbWidth d sec i b = 6 ∧ s.dpbWmode d sec i b ≠ 2 then s else _) = t at hnotes ⊢
  rw [if_pos hw, hnotes.ports.dpbPort]
  exact ⟨t, _, _, hnotes, rfl⟩

/-- The merge write that the first edge of a narrow write holds (R173). -/
def dpbMerged (s : State) (d sec i b addr : Nat) (din : DWord) : MergeWrite :=
  let w := s.dpbWidth d sec i b
  let word := entryWord w addr
  { word := word, value := BitVec.ofNat 64 (withEntry w addr (s.look (Pg.mi d sec) i word).data din.toNat), ripe := false }

/-- A narrower write stores nothing yet: it holds the merged word, unless the word is bad. -/
theorem dpbPerform_narrow (addr : Nat) (din : DWord) (hw : s.dpbWidth d sec i b < 6) (hsec : isSector d sec = true) (hi : i < 10) :
    let r := s.look (Pg.mi d sec) i (entryWord (s.dpbWidth d sec i b) addr)
    ∃ last, s.dpbPerform d sec i b addr din = (s.detected (Pg.mi d sec) i (entryWord (s.dpbWidth d sec i b) addr) r).setDpbPort d sec i b
      (if badRead r then { s.dpbShown d sec i b addr din with last := last }
       else { s.dpbShown d sec i b addr din with last := last, merge := some (s.dpbMerged d sec i b addr din) }) := by
  have hne : ¬s.dpbWidth d sec i b = 6 := by omega
  have hreads : ¬(s.dpbWidth d sec i b = 6 ∧ s.dpbWmode d sec i b ≠ 2) := fun h => hne h.1
  have hport := (Notes.detected (pageKind_mi_of hsec) (show i < 50 by omega) s (entryWord (s.dpbWidth d sec i b) addr)
    (s.look (Pg.mi d sec) i (entryWord (s.dpbWidth d sec i b) addr))).ports.dpbPort d sec i b
  unfold dpbPerform
  dsimp only
  rw [if_neg hne, if_neg hreads, hport]
  exact ⟨_, (apply_ite (State.setDpbPort _ d sec i b) _ _ _).symm⟩

end State
end Sys2Proof.Machine
end

section
/-! SUPPORT. The commands of a dual-port block's port: each performs the access that the last edge has taken (R171 to R177). -/

namespace Sys2Proof.Machine

open Reg

namespace State

variable {s : State} {d sec i b : Nat} {far : Bool}

theorem isDpb_iff : isDpb d sec i b = true ↔ isSector d sec = true ∧ i < 10 ∧ b < 2 := by
  simp [isDpb, and_assoc]

/-! ## The access that was taken -/

theorem dpbTake_of_none (h : (s.dpbPort d sec i b).due = none) (write : Bool) (flip : BitVec 72) :
    s.dpbTake d sec i b write far flip = s := by
  simp [dpbTake, h]

/-- The state in which a port has given up the access it took. -/
def dpbGiven (s : State) (d sec i b : Nat) : State := s.setDpbPort d sec i b { s.dpbPort d sec i b with due := none }

theorem dpbGiven_port (s : State) (d sec i b : Nat) : (s.dpbGiven d sec i b).dpbPort d sec i b = { s.dpbPort d sec i b with due := none } :=
  dpbPort_setDpbPort ..

theorem dpbGiven_other (hb : b < 2) (s : State) : (s.dpbGiven d sec i b).dpbPort d sec i (1 - b) = s.dpbPort d sec i (1 - b) :=
  dpbPort_setDpbPort_other s _ (dpbKey_partner d sec i hb)

theorem dpbGiven_met (hb : b < 2) (s : State) (word : Nat) (far : Bool) :
    (s.dpbGiven d sec i b).dpbMet d sec i (1 - b) word far = s.dpbMet d sec i (1 - b) word far ∧
    (s.dpbGiven d sec i b).dpbMetStore d sec i (1 - b) word far = s.dpbMetStore d sec i (1 - b) word far :=
  dpbMet_congr (s := s) (t := s.dpbGiven d sec i b) rfl (dpbGiven_other hb s) word far

/-! It leaves the configuration, the stored words and the registers alone. -/

@[simp] theorem dpbGiven_get (s : State) (d sec i b p : Nat) (f : RegField) (j : Nat) : (s.dpbGiven d sec i b).get p f j = s.get p f j := rfl
@[simp] theorem dpbGiven_look (s : State) (d sec i b p q w : Nat) : (s.dpbGiven d sec i b).look p q w = s.look p q w := rfl
@[simp] theorem dpbGiven_flips (s : State) (d sec i b p q : Nat) (test : Bool) :
    (s.dpbGiven d sec i b).flips p q test = s.flips p q test := rfl
@[simp] theorem dpbGiven_width (s : State) (d sec i b c : Nat) : (s.dpbGiven d sec i b).dpbWidth d sec i c = s.dpbWidth d sec i c := rfl
@[simp] theorem dpbGiven_wmode (s : State) (d sec i b c : Nat) : (s.dpbGiven d sec i b).dpbWmode d sec i c = s.dpbWmode d sec i c := rfl

theorem sameWords_dpbGiven (s : State) (d sec i b : Nat) : SameWords s (s.dpbGiven d sec i b) := sameWords_setDpbPort s d sec i b _

section
variable {x : DpbIn} (hdue : (s.dpbPort d sec i b).due = some x)
include hdue

theorem dpbTake_of_other {write : Bool} (h : x.we = !write) (flip : BitVec 72) : s.dpbTake d sec i b write far flip = s := by
  simp [dpbTake, hdue, h]

theorem dpbTake_read (h : x.we = false) (flip : BitVec 72) :
    s.dpbTake d sec i b false far flip = (s.dpbGiven d sec i b).dpbRead d sec i b x.addr far flip := by
  simp [dpbTake, hdue, h, dpbGiven]

theorem dpbTake_write (h : x.we = true) (flip : BitVec 72) :
    s.dpbTake d sec i b true far flip = (s.dpbGiven d sec i b).dpbWrite d sec i b x.addr x.din far flip := by
  simp [dpbTake, hdue, h, dpbGiven]

end

/-! ## DPB_READ and DPB_WRITE -/

section
variable (hpart : isDpb d sec i b = true)
include hpart

theorem dpbRead_completes {p : State → Prop} {flip : BitVec 72} (h : p (s.dpbTake d sec i b false far flip)) :
    Completes (.dpbRead d sec i b far flip) s p := completes_of_kept rfl hpart (s.dpbTake_pending ..) h

theorem dpbWrite_completes {p : State → Prop} {flip : BitVec 72} (h : p (s.dpbTake d sec i b true far flip)) :
    Completes (.dpbWrite d sec i b far flip) s p := completes_of_kept rfl hpart (s.dpbTake_pending ..) h

theorem mergeWriteStore_completes {p : State → Prop} (h : p (s.mergeStore d sec i b far)) :
    Completes (.mergeWriteStore d sec i b far) s p := completes_of_kept rfl hpart (s.mergeStore_pending ..) h

variable {x : DpbIn} (hdue : (s.dpbPort d sec i b).due = some x) (hmerge : (s.dpbPort d sec i b).merge = none)
include hdue hmerge

theorem dpbRead_presents (hwe : x.we = false)
    (hstored : s.dpbMetStore d sec i (1 - b) (entryWord (s.dpbWidth d sec i b) x.addr) far = none)
    (hmet : (s.dpbMet d sec i (1 - b) (entryWord (s.dpbWidth d sec i b) x.addr) far).any (·.write) = false) :
    let r := s.look (Pg.mi d sec) i (entryWord (s.dpbWidth d sec i b) x.addr)
    Completes (.dpbRead d sec i b far 0) s (fun t =>
      let y := t.dpbPort d sec i b
      y.dout = BitVec.ofNat 64 (Machine.entryOf (s.dpbWidth d sec i b) x.addr r.data) ∧ y.cstat = BitVec.ofNat 2 r.cls.code ∧
      y.busy = false ∧ y.due = none ∧ t.dpbPort d sec i (1 - b) = s.dpbPort d sec i (1 - b) ∧ StoresSame s t) := by
  obtain ⟨hsec, hi, hb⟩ := isDpb_iff.1 hpart
  obtain ⟨hmet', hstored'⟩ := dpbGiven_met hb s (entryWord (s.dpbWidth d sec i b) x.addr) far
  obtain ⟨last, hread⟩ := dpbRead_free (s := s.dpbGiven d sec i b) ((congrArg DpbPort.merge (s.dpbGiven_port ..)).trans hmerge)
    (hstored'.trans hstored) ((congrArg (Option.any (·.write)) hmet').trans hmet)
  have hnotes := Notes.detected (pageKind_mi_of hsec) (show i < 50 by omega) (s.dpbGiven d sec i b)
    (entryWord (s.dpbWidth d sec i b) x.addr) (s.look (Pg.mi d sec) i (entryWord (s.dpbWidth d sec i b) x.addr))
  refine dpbRead_completes hpart ?_
  rw [dpbTake_read hdue hwe, hread]
  refine ⟨?_, ?_, ?_, ?_, ?_, (((sameWords_dpbGiven s d sec i b).trans hnotes.words).trans (sameWords_setDpbPort ..)).stores⟩
  · exact congrArg DpbPort.dout (dpbPort_setDpbPort ..)
  · exact congrArg DpbPort.cstat (dpbPort_setDpbPort ..)
  · exact congrArg DpbPort.busy (dpbPort_setDpbPort ..)
  · exact (congrArg DpbPort.due (dpbPort_setDpbPort ..)).trans (congrArg DpbPort.due (s.dpbGiven_port ..))
  · exact (dpbPort_setDpbPort_other _ _ (dpbKey_partner d sec i hb)).trans ((hnotes.ports.dpbPort ..).trans (dpbGiven_other hb s))

theorem dpbRead_busy {a : PortAccess} (hwe : x.we = false) (hnative : s.compatOn d sec i = false)
    (hmet : s.dpbMet d sec i (1 - b) (entryWord (s.dpbWidth d sec i b) x.addr) far = some a) (hwrite : a.write = true) :
    Completes (.dpbRead d sec i b far 0) s (fun t => (t.dpbPort d sec i b).busy = true ∧
      BusyCounted s t d sec i ∧ StoresSame s t) := by
  obtain ⟨hsec, hi, hb⟩ := isDpb_iff.1 hpart
  obtain ⟨hmet', -⟩ := dpbGiven_met hb s (entryWord (s.dpbWidth d sec i b) x.addr) far
  obtain ⟨p, c, after, code, hread⟩ := dpbRead_collides (s := s.dpbGiven d sec i b) (addr := x.addr) (far := far)
    ((congrArg DpbPort.merge (s.dpbGiven_port ..)).trans hmerge) (by rw [dpbGiven_width, hmet', hmet, Option.any_some, hwrite])
  obtain ⟨hbusy, hcounted⟩ := dpbReadCollides_native (s := (s.dpbGiven d sec i b).setDpbPort d sec i b p) (b := b) hnative c after code
  refine dpbRead_completes hpart ?_
  rw [dpbTake_read hdue hwe, hread]
  have hwords := ((sameWords_dpbGiven s d sec i b).trans (sameWords_setDpbPort _ d sec i b p)).trans
    (sameWords_dpbReadCollides hsec hi _ b c after code)
  exact ⟨hbusy, hcounted.of_get rfl rfl, hwords.stores⟩

theorem dpbWrite_busy {a : PortAccess} (hwe : x.we = true) (hb : b = 1) (hone : s.dpbTrack d sec i 0 = s.dpbTrack d sec i 1)
    (hmet : s.dpbMet d sec i (1 - b) (entryWord (s.dpbWidth d sec i b) x.addr) far = some a) (hwrite : a.write = true) :
    Completes (.dpbWrite d sec i b far 0) s (fun t => (t.dpbPort d sec i 1).busy = true ∧
      BusyCounted s t d sec i ∧ StoresSame s t) := by
  obtain ⟨hsec, hi, hlt⟩ := isDpb_iff.1 hpart
  obtain ⟨hmet', -⟩ := dpbGiven_met hlt s (entryWord (s.dpbWidth d sec i b) x.addr) far
  have hloses := dpbWrite_loses (s := s.dpbGiven d sec i b) ((congrArg DpbPort.merge (s.dpbGiven_port ..)).trans hmerge) x.din hone
    (hmet'.trans hmet) hwrite hb
  refine dpbWrite_completes hpart ?_
  subst hb
  obtain ⟨hbusy, hcounted, hwords⟩ := dpbLoses_busy hsec hi (s.dpbGiven d sec i 1) 1
  rw [dpbTake_write hdue hwe, hloses]
  exact ⟨hbusy, hcounted.of_get (s.dpbGiven_get ..) rfl, ((sameWords_dpbGiven s d sec i 1).trans hwords).stores⟩

/-- A whole word is stored. -/
theorem dpbWrite_stores (hwe : x.we = true)
    (hstored : s.dpbMetStore d sec i (1 - b) (entryWord (s.dpbWidth d sec i b) x.addr) far = none)
    (hmet : s.dpbMet d sec i (1 - b) (entryWord (s.dpbWidth d sec i b) x.addr) far = none)
    (hw : s.dpbWidth d sec i b = 6) (hflips : s.flips (Pg.mi d sec) i false = false) :
    let word := entryWord (s.dpbWidth d sec i b) x.addr
    Completes (.dpbWrite d sec i b far 0) s (fun t =>
      t.raw (Pg.mi d sec) i false word = codeWord x.din.toNat ∧ WordsSameBut s t (Pg.mi d sec) i word ∧
      SMap.read false t.mem.stale (pageKey (Pg.mi d sec) i (word / 64)) = true ∧
      let y := t.dpbPort d sec i b
      y.busy = false ∧ y.merge = none ∧ y.due = none ∧ y.dout = (match s.dpbWmode d sec i b with
        | 1 => x.din
        | 2 => BitVec.ofNat 64 (s.look (Pg.mi d sec) i word).data
        | _ => (s.dpbPort d sec i b).dout)) := by
  obtain ⟨hsec, hi, hb⟩ := isDpb_iff.1 hpart
  have hbank := isMiBank_sector hsec (show i < 50 by omega)
  have hlt : entryWord (s.dpbWidth d sec i b) x.addr < 1024 := by
    have := entryWord_lt (s.dpbWidth d sec i b) x.addr
    omega
  obtain ⟨hmet', hstored'⟩ := dpbGiven_met hb s (entryWord (s.dpbWidth d sec i b) x.addr) far
  have hgiven : ((s.dpbGiven d sec i b).dpbPort d sec i b).merge = none := (congrArg DpbPort.merge (s.dpbGiven_port ..)).trans hmerge
  have halone := dpbWrite_alone hgiven x.din (hstored'.trans hstored) (hmet'.trans hmet)
  obtain ⟨u, last, yields, hnotes, hperform⟩ := dpbPerform_whole (s := s.dpbGiven d sec i b) (b := b) hsec hi x.addr x.din hw
  have hwords : SameWords s u := (sameWords_dpbGiven s d sec i b).trans hnotes.words
  have hunflipped : u.flips (Pg.mi d sec) (blockOf (Pg.mi d sec) i) false = false := by
    rw [blockOf_dpb hsec hi, hwords.flips (isMiPage_sector hsec), hflips]
  obtain ⟨hbusy, hheld, hgone⟩ := (s.dpbGiven d sec i b).dpbShown_kept d sec i b x.addr x.din
  have hport (q : Nat) (v : DpbPort) := u.portStore (Pg.mi d sec) i q x.din yields |>.dpbPort_setDpbPort d sec i b v
  refine dpbWrite_completes hpart ?_
  rw [dpbTake_write hdue hwe, halone, hperform]
  refine ⟨?_, ?_, ?_, ?_, ?_, ?_, ?_⟩
  · exact ((sameWords_setDpbPort ..).raw hbank false _).trans (raw_portStore x.din yields hbank hunflipped)
  · exact (sameWords_setDpbPort ..).after_wordsSameBut (hwords.before_wordsSameBut (portStore_words x.din yields hbank hlt hunflipped))
  · exact u.portStore_stale ..
  · exact (congrArg DpbPort.busy (hport ..)).trans hbusy
  · exact (congrArg DpbPort.merge (hport ..)).trans (hheld.trans hgiven)
  · exact (congrArg DpbPort.due (hport ..)).trans (hgone.trans (congrArg DpbPort.due (s.dpbGiven_port ..)))
  · have hshown := dpbShown_whole (s := s.dpbGiven d sec i b) (b := b) (addr := x.addr) x.din hw
    rw [dpbGiven_port] at hshown
    exact (congrArg DpbPort.dout (hport ..)).trans hshown

/-- A narrower entry is merged, unless the word is bad. -/
theorem dpbWrite_merges (hwe : x.we = true)
    (hstored : s.dpbMetStore d sec i (1 - b) (entryWord (s.dpbWidth d sec i b) x.addr) far = none)
    (hmet : s.dpbMet d sec i (1 - b) (entryWord (s.dpbWidth d sec i b) x.addr) far = none) (hw : s.dpbWidth d sec i b < 6) :
    let word := entryWord (s.dpbWidth d sec i b) x.addr
    let r := s.look (Pg.mi d sec) i word
    Completes (.dpbWrite d sec i b far 0) s (fun t => StoresSame s t ∧
      let y := t.dpbPort d sec i b
      y.busy = false ∧ y.due = none ∧
      (badRead r = false → y.merge = some { word := word
                                            value := BitVec.ofNat 64 (withEntry (s.dpbWidth d sec i b) x.addr r.data x.din.toNat)
                                            ripe := false }) ∧
      (badRead r = true → y.merge = none ∧ y.dout = BitVec.ofNat 64 (Machine.entryOf (s.dpbWidth d sec i b) x.addr r.data) ∧
        y.cstat = BitVec.ofNat 2 r.cls.code)) := by
  obtain ⟨hsec, hi, hb⟩ := isDpb_iff.1 hpart
  obtain ⟨hmet', hstored'⟩ := dpbGiven_met hb s (entryWord (s.dpbWidth d sec i b) x.addr) far
  have hgiven : ((s.dpbGiven d sec i b).dpbPort d sec i b).merge = none := (congrArg DpbPort.merge (s.dpbGiven_port ..)).trans hmerge
  have halone := dpbWrite_alone hgiven x.din (hstored'.trans hstored) (hmet'.trans hmet)
  obtain ⟨last, hperform⟩ := dpbPerform_narrow (s := s.dpbGiven d sec i b) (b := b) x.addr x.din hw hsec hi
  have hnotes := Notes.detected (pageKind_mi_of hsec) (show i < 50 by omega) (s.dpbGiven d sec i b)
    (entryWord (s.dpbWidth d sec i b) x.addr) (s.look (Pg.mi d sec) i (entryWord (s.dpbWidth d sec i b) x.addr))
  obtain ⟨hbusy, hheld, hgone⟩ := (s.dpbGiven d sec i b).dpbShown_kept d sec i b x.addr x.din
  have hdone := hgone.trans (congrArg DpbPort.due (s.dpbGiven_port ..))
  refine dpbWrite_completes hpart ?_
  rw [dpbTake_write hdue hwe, halone, hperform]
  refine ⟨(((sameWords_dpbGiven s d sec i b).trans hnotes.words).trans (sameWords_setDpbPort ..)).stores, ?_⟩
  rw [dpbPort_setDpbPort, dpbGiven_width, dpbGiven_look]
  cases hbad : badRead (s.look (Pg.mi d sec) i (entryWord (s.dpbWidth d sec i b) x.addr))
  case false => exact ⟨hbusy, hdone, fun _ => rfl, nofun⟩
  case true =>
    obtain ⟨hdout, hcstat⟩ := dpbShown_bad (s := s.dpbGiven d sec i b) x.din hw hbad
    exact ⟨hbusy, hdone, nofun, fun _ => ⟨hheld.trans hgiven, hdout, hcstat⟩⟩

/-- Port A's whole word is stored over port B's write of the same edge, which shows BUSY (R176). -/
theorem dpbWrite_overrides {a : PortAccess} (hwe : x.we = true) (hb : b = 0) (hone : s.dpbTrack d sec i 0 = s.dpbTrack d sec i 1)
    (hstored : s.dpbMetStore d sec i (1 - b) (entryWord (s.dpbWidth d sec i b) x.addr) far = none)
    (hmet : s.dpbMet d sec i (1 - b) (entryWord (s.dpbWidth d sec i b) x.addr) far = some a) (hwrite : a.write = true)
    (hmask : a.masked = false) (hw : s.dpbWidth d sec i b = 6) (hflips : s.flips (Pg.mi d sec) i false = false) :
    Completes (.dpbWrite d sec i b far 0) s (fun t =>
      t.raw (Pg.mi d sec) i false (entryWord (s.dpbWidth d sec i b) x.addr) = codeWord x.din.toNat ∧ (t.dpbPort d sec i 1).busy = true ∧
      BusyCounted s t d sec i) := by
  obtain ⟨hsec, hi, hlt⟩ := isDpb_iff.1 hpart
  have hbank := isMiBank_sector hsec (show i < 50 by omega)
  obtain ⟨hmet', hstored'⟩ := dpbGiven_met hlt s (entryWord (s.dpbWidth d sec i b) x.addr) far
  have hgiven : ((s.dpbGiven d sec i b).dpbPort d sec i b).merge = none := (congrArg DpbPort.merge (s.dpbGiven_port ..)).trans hmerge
  have hwins := dpbWrite_wins hgiven x.din hone (hmet'.trans hmet) hwrite hb (hstored'.trans hstored)
  have hundone := (s.dpbGiven d sec i b).dpbUndo_width (d := d) (sec := sec) (i := i) b (1 - b) a
  rw [dpbGiven_width] at hundone
  obtain ⟨u, last, yields, hnotes, hperform⟩ := dpbPerform_whole (s := (s.dpbGiven d sec i b).dpbUndo d sec i (1 - b) a) (b := b) hsec hi
    x.addr x.din (hundone.trans hw)
  have hunflipped : u.flips (Pg.mi d sec) (blockOf (Pg.mi d sec) i) false = false := by
    rw [blockOf_dpb hsec hi, hnotes.words.flips (isMiPage_sector hsec), dpbUndo_flips hsec hi (1 - b) hmask]
    exact hflips
  refine dpbWrite_completes hpart ?_
  rw [dpbTake_write hdue hwe, hwins, hperform, hundone]
  have hkey := dpbKey_partner d sec i hlt
  refine ⟨?_, ?_, ?_⟩
  · exact ((sameWords_setDpbPort ..).raw hbank false _).trans (raw_portStore x.din yields hbank hunflipped)
  · rw [show 1 = 1 - b by omega, dpbPort_setDpbPort_other _ _ hkey, (SamePorts.portStore ..).dpbPort, hnotes.ports.dpbPort, dpbUndo_port]
  · refine (dpbUndo_counted hsec hi (s.dpbGiven d sec i b) (1 - b) a).of_get rfl ?_
    rw [State.setDpbPort_get, portStore_get hsec _ _ _ _ (by decide) hi (sctl_ne_mi d sec hsec),
      hnotes.get (by decide) hi (sctl_ne_mi d sec hsec)]

end

/-! ## MERGE_WRITE_STORE -/

theorem mergeWriteStore_stores {m : MergeWrite} (hpart : isDpb d sec i b = true) (hmerge : (s.dpbPort d sec i b).merge = some m)
    (hripe : m.ripe = true) (hword : m.word < 512) (hflips : s.flips (Pg.mi d sec) i false = false) :
    let met := s.dpbMet d sec i (1 - b) m.word far
    Completes (.mergeWriteStore d sec i b far) s (fun t =>
      (met = none → WordsSameBut s t (Pg.mi d sec) i m.word ∧ (t.dpbPort d sec i b).dout = (s.dpbPort d sec i b).dout) ∧
      (met.any (fun a => a.write && a.masked) = false →
        t.raw (Pg.mi d sec) i false m.word = codeWord m.value.toNat ∧ (t.dpbPort d sec i b).merge = none) ∧
      (∀ a, met = some a → a.write = true ∨ s.compatOn d sec i = false → (t.dpbPort d sec i (1 - b)).busy = true ∧
        BusyCounted s t d sec i)) := by
  obtain ⟨hsec, hi, hb⟩ := isDpb_iff.1 hpart
  have hpage := sctl_ne_mi d sec hsec
  have hkey := dpbKey_partner d sec i hb
  have hdone (u : State) : ((u.mergeDone d sec i b m).dpbPort d sec i b).merge = none ∧
      ((u.mergeDone d sec i b m).dpbPort d sec i b).dout = (u.dpbPort d sec i b).dout := by
    obtain ⟨stored, hport⟩ := u.mergeDone_port d sec i b m
    rw [hport]
    exact ⟨rfl, rfl⟩
  refine mergeWriteStore_completes hpart ?_
  cases hmet : s.dpbMet d sec i (1 - b) m.word far with
  | none =>
    rw [mergeStore_alone hmerge hripe hmet]
    obtain ⟨hgone, hdout⟩ := hdone s
    exact ⟨fun _ => ⟨mergeDone_words hsec hi hflips b (by omega), hdout⟩, fun _ => ⟨mergeDone_raw hsec hi hflips b m, hgone⟩, nofun⟩
  | some a =>
    refine ⟨nofun, ?_⟩
    cases hwrite : a.write
    case true =>
      rw [mergeStore_undoes hmerge hripe hmet hwrite]
      refine ⟨fun hmask => ?_, fun _ _ _ => ⟨?_, ?_⟩⟩
      · have hmask : a.masked = false := by simpa [hwrite] using hmask
        exact ⟨mergeDone_raw hsec hi ((dpbUndo_flips hsec hi (1 - b) hmask).trans hflips) b m, (hdone _).1⟩
      · rw [mergeDone_other _ m hkey, dpbUndo_port]
      · exact (dpbUndo_counted hsec hi s (1 - b) a).of_get rfl (mergeDone_get hsec _ b m (by decide) hi hpage)
    case false =>
      rw [mergeStore_shows hmerge hripe hmet hwrite]
      have hbank := isMiBank_sector hsec (show i < 50 by omega)
      refine ⟨fun _ => ⟨?_, ?_⟩, fun c hc hor => ?_⟩
      · exact ((sameWords_dpbReadCollides hsec hi ..).raw hbank false m.word).trans (mergeDone_raw hsec hi hflips b m)
      · rw [dpbReadCollides_other _ _ _ _ hkey.symm]
        exact (hdone s).1
      · obtain rfl := Option.some.inj hc
        have hnative : s.compatOn d sec i = false := hor.resolve_left (by simp [hwrite])
        obtain ⟨hbusy, hcounted⟩ := dpbReadCollides_native (b := 1 - b) ((mergeDone_compatOn s m).trans hnative) a.addr m.value.toNat 0
        exact ⟨hbusy, hcounted.of_get (mergeDone_get hsec s b m (by decide) hi hpage) rfl⟩

end State
end Sys2Proof.Machine
end

section
namespace Sys2Proof

open Machine Machine.Reg

/-- Settles O25: an edge takes the inputs of its port; each command is the access taken, which meets the other port's or does not, or the store
of a merge write. -/
theorem dualPortBlocksReadMergeAndStore : Obligations.DualPortBlocksReadMergeAndStore := by
  unfold Obligations.DualPortBlocksReadMergeAndStore
  intro s d sec i b far hpart
  obtain ⟨-, hi, hb⟩ := State.isDpb_iff.1 hpart
  refine ⟨?takes, ?idle, ?unripe, ?access, ?merge⟩
  case takes => exact fun t hopen hen => State.dpbTakes_due hi hb s t hopen hen
  case idle =>
    exact fun flip hnone => ⟨State.dpbRead_completes hpart (State.dpbTake_of_none hnone ..),
      State.dpbWrite_completes hpart (State.dpbTake_of_none hnone ..)⟩
  case unripe => exact fun hunripe => State.mergeWriteStore_completes hpart (State.mergeStore_of_unripe hunripe far)
  case access =>
    intro x hdue hmerge
    refine ⟨fun flip hwe => ?_, fun flip hwe => ?_, fun hstored hmet hwe => ?_, fun hstored hmet hwe => ⟨fun hw hflips => ?_, fun hw => ?_⟩,
      fun a hmet hwrite => ⟨fun hwe hnative => ?_, fun hwe hport hone => ?_, fun hwe hport hone hstored hmask hw hflips => ?_⟩⟩
    · exact State.dpbRead_completes hpart (State.dpbTake_of_other (write := false) hdue hwe flip)
    · exact State.dpbWrite_completes hpart (State.dpbTake_of_other (write := true) hdue hwe flip)
    · exact State.dpbRead_presents hpart hdue hmerge hwe hstored hmet
    · exact State.dpbWrite_stores hpart hdue hmerge hwe hstored hmet hw hflips
    · exact State.dpbWrite_merges hpart hdue hmerge hwe hstored hmet hw
    · exact State.dpbRead_busy hpart hdue hmerge hwe hnative hmet hwrite
    · exact State.dpbWrite_busy hpart hdue hmerge hwe hport hone hmet hwrite
    · subst hport
      exact State.dpbWrite_overrides hpart hdue hmerge hwe rfl hone hstored hmet hwrite hmask hw hflips
  case merge => exact fun m hmerge hripe hword hflips => State.mergeWriteStore_stores hpart hmerge hripe hword hflips

end Sys2Proof
end

section
/-! SUPPORT. The ports of a banked block (R178 to R184): the requests that an edge takes, and what the commands make of them. -/

namespace Sys2Proof.Machine

open Reg

namespace State

variable {s t : State} {d sec k b : Nat}

theorem isBkb_iff : isBkb d sec k b = true ↔ isSector d sec = true ∧ k < 5 ∧ b < 2 := by
  simp [isBkb, and_assoc]

/-! ## Banks and ports -/

theorem blockOf_bkb (hsec : isSector d sec = true) {q : Nat} (hq : 10 + 8 * k ≤ q ∧ q < 18 + 8 * k) : blockOf (Pg.mi d sec) q = 10 + k := by
  have hmi := pageKind_mi_of hsec
  simp only [blockOf, isMram_mi hmi, isEngPage_mi hmi, Bool.false_eq_true, if_false]
  rw [if_neg (by omega)]
  omega

/-- An address names a word of one of the block's eight banks (R178). -/
theorem bkbAt_lt (hsec : isSector d sec = true) (s : State) (k addr : Nat) :
    (10 + 8 * k ≤ (s.bkbAt d sec k addr).1 ∧ (s.bkbAt d sec k addr).1 < 18 + 8 * k) ∧ (s.bkbAt d sec k addr).2 < 1024 := by
  simp only [bkbAt, locate, isEngPage_mi (pageKind_mi_of hsec), Bool.false_eq_true, if_false]
  rw [if_neg (by omega)]
  split <;> dsimp only <;> omega

@[simp] theorem bkbPort_setBkbPort (s : State) (d sec k b : Nat) (p : BkbPort) : (s.setBkbPort d sec k b p).bkbPort d sec k b = p :=
  SMap.read_write_same ({} : BkbPort) s.mem.bkb _ p

theorem bkbPort_setBkbPort_other {j c : Nat} (s : State) (p : BkbPort) (h : bkbKey d sec j c ≠ bkbKey d sec k b) :
    (s.setBkbPort d sec k b p).bkbPort d sec j c = s.bkbPort d sec j c := SMap.read_write_other ({} : BkbPort) {} s.mem.bkb p h

@[simp] theorem bankBusy_setBankBusy (s : State) (page q : Nat) (x : Option BankStore) : (s.setBankBusy page q x).bankBusy page q = x :=
  SMap.read_write_same none s.mem.busy _ x

@[simp] theorem bkbPort_setBankBusy (s : State) (page q : Nat) (x : Option BankStore) (d sec k b : Nat) :
    (s.setBankBusy page q x).bkbPort d sec k b = s.bkbPort d sec k b := rfl

theorem sameWords_setBkbPort (s : State) (d sec k b : Nat) (p : BkbPort) : SameWords s (s.setBkbPort d sec k b p) :=
  .of_regs ⟨rfl, rfl, rfl⟩ rfl

theorem sameWords_setBankBusy (s : State) (page q : Nat) (x : Option BankStore) : SameWords s (s.setBankBusy page q x) :=
  .of_regs ⟨rfl, rfl, rfl⟩ rfl

/-! ## The requests that an edge takes (R180, R181) -/

/-- The counter of a port's stalled requests. -/
def stallField (b : Nat) : RegField := if b = 0 then Sctl.SCTL_BKB_STALL_A_STALLS else Sctl.SCTL_BKB_STALL_B_STALLS

theorem stallKey_ne {page j c : Nat} (hc : c < 2) (hb : b < 2) (h : ¬(j = k ∧ c = b)) :
    fieldKey page (stallField b) k ≠ fieldKey page (stallField c) j := by
  unfold fieldKey stallField
  split_ifs <;> simp only [Sctl.SCTL_BKB_STALL_A_STALLS, Sctl.SCTL_BKB_STALL_B_STALLS] <;> omega

/-- One port's part of an edge: it takes its request, or counts that it stalls. -/
def bkbTakesAt (s t : State) (d sec j c : Nat) (u : State) : State :=
  match t.bkbPresented d sec j c (s.attachIn d sec) with
  | none => u
  | some x =>
    if t.bkbStall d sec j c (s.attachIn d sec) then u.count (Pg.sctl d sec) (stallField c) 1 j
    else u.setBkbPort d sec j c { u.bkbPort d sec j c with due := some x }

theorem bkbTakes_eq (s t : State) (d sec n : Nat) : s.bkbTakes d sec n t =
    forEach ((List.range 10).filter (fun j => t.bkbTrack d sec (j / 2) = n)) (fun j => s.bkbTakesAt t d sec (j / 2) (j % 2)) t := by
  unfold bkbTakes bkbTakesAt
  rfl

theorem bkbTakesAt_other {j c : Nat} (hc : c < 2) (hb : b < 2) (h : ¬(j = k ∧ c = b)) (s t u : State) :
    (s.bkbTakesAt t d sec j c u).bkbPort d sec k b = u.bkbPort d sec k b ∧
    (s.bkbTakesAt t d sec j c u).get (Pg.sctl d sec) (stallField b) k = u.get (Pg.sctl d sec) (stallField b) k := by
  unfold bkbTakesAt
  split
  · exact ⟨rfl, rfl⟩
  · split
    · exact ⟨rfl, State.get_count_other u 1 (stallKey_ne hc hb h)⟩
    · have hkey : bkbKey d sec k b ≠ bkbKey d sec j c := by
        unfold bkbKey
        omega
      exact ⟨bkbPort_setBkbPort_other u _ hkey, rfl⟩

theorem bkbTakes_request (hk : k < 5) (hb : b < 2) (s t : State) {x : BkbIn} (hx : t.bkbPresented d sec k b (s.attachIn d sec) = some x) :
    let u := s.bkbTakes d sec (t.bkbTrack d sec k) t
    (t.bkbStall d sec k b (s.attachIn d sec) = true → u.bkbPort d sec k b = t.bkbPort d sec k b ∧
      u.get (Pg.sctl d sec) (stallField b) k = satAdd (stallField b).width (t.get (Pg.sctl d sec) (stallField b) k) 1) ∧
    (t.bkbStall d sec k b (s.attachIn d sec) = false → (u.bkbPort d sec k b).due = some x ∧
      u.get (Pg.sctl d sec) (stallField b) k = t.get (Pg.sctl d sec) (stallField b) k) := by
  have hdiv : (2 * k + b) / 2 = k := by omega
  have hmod : (2 * k + b) % 2 = b := by omega
  have hmem : 2 * k + b ∈ (List.range 10).filter (fun j => t.bkbTrack d sec (j / 2) = t.bkbTrack d sec k) := by
    simp [hdiv]
    omega
  have hother (j : Nat) (hne : j ≠ 2 * k + b) (v : State) :=
    bkbTakesAt_other (d := d) (sec := sec) (k := k) (j := j / 2) (c := j % 2) (by omega) hb (by omega) s t v
  obtain ⟨v, hv, hu⟩ := forEach_at (fun u : State => (u.bkbPort d sec k b, u.get (Pg.sctl d sec) (stallField b) k))
    (List.nodup_range.filter _) hmem (fun j _ hne v => Prod.ext (hother j hne v).1 (hother j hne v).2) t
  rw [← bkbTakes_eq, hdiv, hmod] at hu
  obtain ⟨hvport, hvcount⟩ := Prod.ext_iff.1 hv
  obtain ⟨huport, hucount⟩ := Prod.ext_iff.1 hu
  dsimp only at huport hucount hvport hvcount ⊢
  rw [huport, hucount, bkbTakesAt, hx]
  refine ⟨fun hstall => ?_, fun hstall => ?_⟩
  · have hcount : satAdd (stallField b).width (v.get (Pg.sctl d sec) (stallField b) k) 1 < 2 ^ (stallField b).width :=
      Nat.lt_of_le_of_lt (Nat.min_le_right _ _) (Nat.sub_lt (Nat.two_pow_pos _) Nat.one_pos)
    simp only [hstall, if_true]
    rw [State.get_count_same, Nat.mod_eq_of_lt hcount, hvcount]
    exact ⟨hvport, rfl⟩
  · simp only [hstall, Bool.false_eq_true, if_false]
    exact ⟨congrArg BkbPort.due (bkbPort_setBkbPort ..), hvcount⟩

/-! ## The request that was taken -/

/-- The state in which a port has given up the request it took. -/
def bkbGiven (s : State) (d sec k b : Nat) : State := s.setBkbPort d sec k b { s.bkbPort d sec k b with due := none }

theorem bkbGiven_port (s : State) (d sec k b : Nat) : (s.bkbGiven d sec k b).bkbPort d sec k b = { s.bkbPort d sec k b with due := none } :=
  bkbPort_setBkbPort ..

theorem bkbGiven_due (s : State) (d sec k b : Nat) : ((s.bkbGiven d sec k b).bkbPort d sec k b).due = none :=
  congrArg BkbPort.due (s.bkbGiven_port d sec k b)

@[simp] theorem bkbGiven_at (s : State) (d sec k b addr : Nat) : (s.bkbGiven d sec k b).bkbAt d sec k addr = s.bkbAt d sec k addr := rfl
@[simp] theorem bkbGiven_look (s : State) (d sec k b p q w : Nat) : (s.bkbGiven d sec k b).look p q w = s.look p q w := rfl
@[simp] theorem bkbGiven_rec (s : State) (d sec k b hi lo : Nat) : (s.bkbGiven d sec k b).bkbRec d sec k hi lo = s.bkbRec d sec k hi lo := rfl

theorem sameWords_bkbGiven (s : State) (d sec k b : Nat) : SameWords s (s.bkbGiven d sec k b) := sameWords_setBkbPort s d sec k b _

section
variable {op : Nat} {go : State → BkbIn → State}

theorem bkbTake_of_none (h : (s.bkbPort d sec k b).due = none) : s.bkbTake d sec k b op go = s := by
  simp [bkbTake, h]

variable {x : BkbIn} (hdue : (s.bkbPort d sec k b).due = some x)
include hdue

theorem bkbTake_of_other (h : x.op ≠ op) : s.bkbTake d sec k b op go = s := by
  simp [bkbTake, hdue, h]

theorem bkbTake_of_op (h : x.op = op) : s.bkbTake d sec k b op go = go (s.bkbGiven d sec k b) x := by
  simp [bkbTake, hdue, h, bkbGiven]

end

/-! ## What a port presents, and the first cycle of an operation (R180, R184) -/

/-- A port presents a read with an `AOVF`, and has no request to perform. -/
def BkbShows (t : State) (d sec k b : Nat) (r : WordRead) (aovf : Nat) : Prop :=
  (t.bkbPort d sec k b).dvalid = true ∧ (t.bkbPort d sec k b).due = none ∧ (t.bkbPort d sec k b).dout = BitVec.ofNat 64 r.data ∧
  (t.bkbPort d sec k b).cstat = BitVec.ofNat 2 r.cls.code ∧ (t.bkbPort d sec k b).aovf = BitVec.ofNat 2 aovf

theorem bkbResult_shows (h : (s.bkbPort d sec k b).due = none) (r : WordRead) (aovf : Nat) :
    BkbShows (s.bkbResult d sec k b r.data aovf r.cls) d sec k b r aovf := by
  have hport : (s.bkbResult d sec k b r.data aovf r.cls).bkbPort d sec k b = _ := bkbPort_setBkbPort ..
  rw [BkbShows, hport]
  exact ⟨rfl, h, rfl, rfl, rfl⟩

theorem sameWords_bkbResult (s : State) (d sec k b data aovf : Nat) (c : WordClass) : SameWords s (s.bkbResult d sec k b data aovf c) :=
  sameWords_setBkbPort s d sec k b _

@[simp] theorem bankBusy_bkbResult (s : State) (d sec k b data aovf : Nat) (c : WordClass) (page q : Nat) :
    (s.bkbResult d sec k b data aovf c).bankBusy page q = s.bankBusy page q := rfl

/-- A bank in its second cycle, with what that stores, after the read of the first. -/
def bankHeld (s : State) (d sec b q w : Nat) (v : Option DWord) : State :=
  (s.detected (Pg.mi d sec) q w (s.look (Pg.mi d sec) q w)).setBankBusy (Pg.mi d sec) q (some { word := w, value := v, portB := b = 1 })

section
variable {q w : Nat} {new : Nat → Nat} {shows : State → Nat → WordClass → State}

theorem bankFirst_good (h : badRead (s.look (Pg.mi d sec) q w) = false) : s.bankFirst d sec k b q w 0 new shows =
    shows (s.bankHeld d sec b q w (some (BitVec.ofNat 64 (new (s.look (Pg.mi d sec) q w).data)))) (s.look (Pg.mi d sec) q w).data
      (s.look (Pg.mi d sec) q w).cls := by
  have hgood : ¬((s.look (Pg.mi d sec) q w).cls = .uncorrectable ∨ (s.look (Pg.mi d sec) q w).cls = .poison) := by
    simpa [badRead] using h
  simp only [bankFirst, BitVec.ofNat_eq_ofNat, upset_zero, readAt, if_neg hgood, bankHeld]

theorem bankFirst_bad (h : badRead (s.look (Pg.mi d sec) q w) = true) : s.bankFirst d sec k b q w 0 new shows =
    (s.bankHeld d sec b q w none).bkbResult d sec k b (s.look (Pg.mi d sec) q w).data 0 (s.look (Pg.mi d sec) q w).cls := by
  have hbad : (s.look (Pg.mi d sec) q w).cls = .uncorrectable ∨ (s.look (Pg.mi d sec) q w).cls = .poison := by
    simpa [badRead] using h
  simp only [bankFirst, BitVec.ofNat_eq_ofNat, upset_zero, readAt, if_pos hbad, bankHeld]
  rfl

variable (hsec : isSector d sec = true) (hq : q < 50)
include hsec hq

theorem sameWords_bankHeld (s : State) (b w : Nat) (v : Option DWord) : SameWords s (s.bankHeld d sec b q w v) :=
  (Notes.detected (pageKind_mi_of hsec) hq s w _).words.trans (sameWords_setBankBusy ..)

theorem bankHeld_port (s : State) (k b c w : Nat) (v : Option DWord) : (s.bankHeld d sec b q w v).bkbPort d sec k c = s.bkbPort d sec k c :=
  (Notes.detected (pageKind_mi_of hsec) hq s w _).ports.bkbPort d sec k c

omit hsec hq in
theorem bankHeld_busy (s : State) (d sec b q w : Nat) (v : Option DWord) :
    (s.bankHeld d sec b q w v).bankBusy (Pg.mi d sec) q = some { word := w, value := v, portB := b = 1 } := bankBusy_setBankBusy ..

end

/-! ## The commands -/

section
variable (hpart : isBkb d sec k b = true)

theorem bkb_bank (hpart : isBkb d sec k b = true) (s : State) (addr : Nat) : isSector d sec = true ∧ (s.bkbAt d sec k addr).1 < 50 := by
  obtain ⟨hsec, hk, -⟩ := isBkb_iff.1 hpart
  obtain ⟨⟨-, hq⟩, -⟩ := bkbAt_lt hsec s k addr
  exact ⟨hsec, by omega⟩

include hpart

theorem bkbRead_completes {p : State → Prop} {flip : BitVec 72} (h : p (s.bkbTake d sec k b 0 (fun u x => u.bkbRead d sec k b x.addr flip))) :
    Completes (.bkbRead d sec k b flip) s p :=
  completes_of_kept rfl hpart (s.bkbTake_pending d sec k b 0 (fun u _ => u.bkbRead_pending ..)) h

theorem bkbWrite_completes {p : State → Prop} {flip : BitVec 72}
    (h : p (s.bkbTake d sec k b 1 (fun u x => u.bkbWrite d sec k b x.addr x.be x.din flip))) : Completes (.bkbWrite d sec k b flip) s p :=
  completes_of_kept rfl hpart (s.bkbTake_pending d sec k b 1 (fun u _ => u.bkbWrite_pending ..)) h

theorem bkbAdd_completes {p : State → Prop} {flip : BitVec 72}
    (h : p (s.bkbTake d sec k b 2 (fun u x => u.bkbAdd d sec k b x.addr x.din flip))) : Completes (.bkbAdd d sec k b flip) s p :=
  completes_of_kept rfl hpart (s.bkbTake_pending d sec k b 2 (fun u _ => u.bkbAdd_pending ..)) h

theorem bkbSwap_completes {p : State → Prop} {flip : BitVec 72}
    (h : p (s.bkbTake d sec k b 3 (fun u x => u.bkbSwap d sec k b x.addr x.din flip))) : Completes (.bkbSwap d sec k b flip) s p :=
  completes_of_kept rfl hpart (s.bkbTake_pending d sec k b 3 (fun u _ => u.bkbSwap_pending ..)) h

/-- A command whose operation the port has not taken changes nothing. -/
theorem bkb_idle {op : Nat} {c : Instr} (hc : (op, c) ∈ [(0, Instr.bkbRead d sec k b 0), (1, .bkbWrite d sec k b 0), (2, .bkbAdd d sec k b 0),
    (3, .bkbSwap d sec k b 0)]) (h : (s.bkbPort d sec k b).due = none ∨ ∃ x, (s.bkbPort d sec k b).due = some x ∧ x.op ≠ op) :
    Completes c s (fun t => t = s) := by
  have hidle (go : State → BkbIn → State) : s.bkbTake d sec k b op go = s := by
    rcases h with h | ⟨x, hdue, hop⟩
    · exact bkbTake_of_none h
    · exact bkbTake_of_other hdue hop
  simp only [List.mem_cons, Prod.mk.injEq, List.not_mem_nil, or_false] at hc
  rcases hc with ⟨rfl, rfl⟩ | ⟨rfl, rfl⟩ | ⟨rfl, rfl⟩ | ⟨rfl, rfl⟩
  · exact bkbRead_completes hpart (hidle _)
  · exact bkbWrite_completes hpart (hidle _)
  · exact bkbAdd_completes hpart (hidle _)
  · exact bkbSwap_completes hpart (hidle _)

section
variable {x : BkbIn} (hdue : (s.bkbPort d sec k b).due = some x)
include hdue

theorem bkbRead_presents (hop : x.op = 0) :
    Completes (.bkbRead d sec k b 0) s (fun t =>
      BkbShows t d sec k b (s.look (Pg.mi d sec) (s.bkbAt d sec k x.addr).1 (s.bkbAt d sec k x.addr).2) 0 ∧ StoresSame s t ∧
      t.mem.busy = s.mem.busy) := by
  obtain ⟨hsec, hk, -⟩ := isBkb_iff.1 hpart
  obtain ⟨⟨-, hq⟩, -⟩ := bkbAt_lt hsec s k x.addr
  refine bkbRead_completes hpart ?_
  rw [bkbTake_of_op hdue hop]
  simp only [bkbRead, BitVec.ofNat_eq_ofNat, upset_zero, readAt, bkbGiven_at, bkbGiven_look]
  have hnotes := Notes.detected (pageKind_mi_of hsec) (show (s.bkbAt d sec k x.addr).1 < 50 by omega) (s.bkbGiven d sec k b)
    (s.bkbAt d sec k x.addr).2 (s.look (Pg.mi d sec) (s.bkbAt d sec k x.addr).1 (s.bkbAt d sec k x.addr).2)
  exact ⟨bkbResult_shows ((congrArg BkbPort.due (hnotes.ports.bkbPort ..)).trans (s.bkbGiven_due ..)) _ 0,
    (((sameWords_bkbGiven s d sec k b).trans hnotes.words).trans (sameWords_bkbResult ..)).stores, hnotes.ports.busy⟩

/-- A whole word is stored in one cycle. -/
theorem bkbWrite_stores (hop : x.op = 1) (hbe : x.be = 0xFF) (hflips : s.flips (Pg.mi d sec) (10 + k) false = false) :
    let q := (s.bkbAt d sec k x.addr).1
    let w := (s.bkbAt d sec k x.addr).2
    Completes (.bkbWrite d sec k b 0) s (fun t =>
      t.raw (Pg.mi d sec) q false w = codeWord x.din.toNat ∧ WordsSameBut s t (Pg.mi d sec) q w ∧ t.mem.busy = s.mem.busy ∧
      t.bkbPort d sec k b = { s.bkbPort d sec k b with due := none }) := by
  obtain ⟨hsec, hk, -⟩ := isBkb_iff.1 hpart
  obtain ⟨hq, hw⟩ := bkbAt_lt hsec s k x.addr
  have hbank := isMiBank_sector hsec (show (s.bkbAt d sec k x.addr).1 < 50 by omega)
  have hgiven := sameWords_bkbGiven s d sec k b
  have hunflipped : (s.bkbGiven d sec k b).flips (Pg.mi d sec) (blockOf (Pg.mi d sec) (s.bkbAt d sec k x.addr).1) false = false := by
    rw [blockOf_bkb hsec hq, hgiven.flips (isMiPage_sector hsec), hflips]
  refine bkbWrite_completes hpart ?_
  rw [bkbTake_of_op hdue hop]
  simp only [bkbWrite, BitVec.ofNat_eq_ofNat, upset_zero, if_pos hbe, bkbGiven_at]
  exact ⟨raw_portStore _ _ hbank hunflipped, hgiven.before_wordsSameBut (portStore_words _ _ hbank hw hunflipped),
    (SamePorts.portStore ..).busy, ((SamePorts.portStore ..).bkbPort ..).trans (s.bkbGiven_port ..)⟩

end

omit hpart in
/-- The first cycle of an operation that reads a bad word presents it and leaves the bank with nothing to store. -/
theorem bankFirst_bad_shows {q w : Nat} (hsec : isSector d sec = true) (hq : q < 50) (h : badRead (s.look (Pg.mi d sec) q w) = true)
    {new : Nat → Nat} {shows : State → Nat → WordClass → State} {t : State}
    (ht : t = (s.bkbGiven d sec k b).bankFirst d sec k b q w 0 new shows) :
    StoresSame s t ∧ BkbShows t d sec k b (s.look (Pg.mi d sec) q w) 0 ∧
    t.bankBusy (Pg.mi d sec) q = some { word := w, value := none, portB := b = 1 } := by
  rw [bankFirst_bad (s := s.bkbGiven d sec k b) h] at ht
  subst ht
  have hport := bankHeld_port hsec hq (s.bkbGiven d sec k b) k b b w none
  exact ⟨(((sameWords_bkbGiven s d sec k b).trans (sameWords_bankHeld hsec hq ..)).trans (sameWords_bkbResult ..)).stores,
    bkbResult_shows ((congrArg BkbPort.due hport).trans (s.bkbGiven_due ..)) _ 0, bankHeld_busy ..⟩

section
variable {x : BkbIn} (hdue : (s.bkbPort d sec k b).due = some x)
include hpart hdue

theorem bkb_bad {op : Nat} {c : Instr}
    (hbad : badRead (s.look (Pg.mi d sec) (s.bkbAt d sec k x.addr).1 (s.bkbAt d sec k x.addr).2) = true)
    (hc : (op, c) ∈ [(1, Instr.bkbWrite d sec k b 0), (2, .bkbAdd d sec k b 0), (3, .bkbSwap d sec k b 0)]) (hop : x.op = op)
    (hbe : op = 1 → x.be ≠ 0xFF) :
    let q := (s.bkbAt d sec k x.addr).1
    let w := (s.bkbAt d sec k x.addr).2
    Completes c s (fun t => StoresSame s t ∧ BkbShows t d sec k b (s.look (Pg.mi d sec) q w) 0 ∧
      t.bankBusy (Pg.mi d sec) q = some { word := w, value := none, portB := b = 1 }) := by
  obtain ⟨hsec, hq⟩ := bkb_bank hpart s x.addr
  simp only [List.mem_cons, Prod.mk.injEq, List.not_mem_nil, or_false] at hc
  rcases hc with ⟨rfl, rfl⟩ | ⟨rfl, rfl⟩ | ⟨rfl, rfl⟩
  · refine bkbWrite_completes hpart ?_
    rw [bkbTake_of_op hdue hop, bkbWrite, if_neg (hbe rfl)]
    exact bankFirst_bad_shows hsec hq hbad rfl
  · refine bkbAdd_completes hpart ?_
    rw [bkbTake_of_op hdue hop, bkbAdd]
    exact bankFirst_bad_shows hsec hq hbad rfl
  · refine bkbSwap_completes hpart ?_
    rw [bkbTake_of_op hdue hop, bkbSwap]
    exact bankFirst_bad_shows hsec hq hbad rfl

section
variable (hgood : badRead (s.look (Pg.mi d sec) (s.bkbAt d sec k x.addr).1 (s.bkbAt d sec k x.addr).2) = false)
include hgood

theorem bkbWrite_merges (hop : x.op = 1) (hbe : x.be ≠ 0xFF) :
    let q := (s.bkbAt d sec k x.addr).1
    let w := (s.bkbAt d sec k x.addr).2
    Completes (.bkbWrite d sec k b 0) s (fun t => (StoresSame s t ∧ t.bankBusy (Pg.mi d sec) q = some
        { word := w, value := some (BitVec.ofNat 64 (Machine.mergeBytes x.be (s.look (Pg.mi d sec) q w).data x.din.toNat)), portB := b = 1 }) ∧
      t.bkbPort d sec k b = { s.bkbPort d sec k b with due := none }) := by
  obtain ⟨hsec, hq⟩ := bkb_bank hpart s x.addr
  refine bkbWrite_completes hpart ?_
  rw [bkbTake_of_op hdue hop, bkbWrite, if_neg hbe, bkbGiven_at, bankFirst_good (s := s.bkbGiven d sec k b) hgood]
  exact ⟨⟨((sameWords_bkbGiven s d sec k b).trans (sameWords_bankHeld hsec hq ..)).stores, bankHeld_busy ..⟩,
    (bankHeld_port hsec hq ..).trans (s.bkbGiven_port ..)⟩

omit hpart hdue hgood in
/-- A bank in its second cycle whose port presents the old word (R182, R183). -/
theorem bankHeld_shows {q : Nat} (hsec : isSector d sec = true) (hq : q < 50) (s : State) (w : Nat) (v : DWord) (r : WordRead) (aovf : Nat)
    {t : State} (ht : t = ((s.bkbGiven d sec k b).bankHeld d sec b q w (some v)).bkbResult d sec k b r.data aovf r.cls) :
    (StoresSame s t ∧ t.bankBusy (Pg.mi d sec) q = some { word := w, value := some v, portB := b = 1 }) ∧ BkbShows t d sec k b r aovf := by
  subst ht
  have hport := bankHeld_port hsec hq (s.bkbGiven d sec k b) k b b w (some v)
  exact ⟨⟨(((sameWords_bkbGiven s d sec k b).trans (sameWords_bankHeld hsec hq ..)).trans (sameWords_bkbResult ..)).stores,
    bankHeld_busy ..⟩, bkbResult_shows ((congrArg BkbPort.due hport).trans (s.bkbGiven_due ..)) r aovf⟩

theorem bkbAdd_holds_sum (hop : x.op = 2) :
    let q := (s.bkbAt d sec k x.addr).1
    let w := (s.bkbAt d sec k x.addr).2
    let r := s.look (Pg.mi d sec) q w
    let sum := bankAdd (s.bkbRec d sec k 4 3) r.data x.din.toNat
    Completes (.bkbAdd d sec k b 0) s (fun t => (StoresSame s t ∧ t.bankBusy (Pg.mi d sec) q =
      some { word := w, value := some (BitVec.ofNat 64 sum.1), portB := b = 1 }) ∧ BkbShows t d sec k b r sum.2) := by
  obtain ⟨hsec, hq⟩ := bkb_bank hpart s x.addr
  refine bkbAdd_completes hpart (bankHeld_shows hsec hq s _ _ _ _ ?_)
  rw [bkbTake_of_op hdue hop, bkbAdd, bkbGiven_at, bankFirst_good (s := s.bkbGiven d sec k b) hgood]
  rfl

theorem bkbSwap_holds_input (hop : x.op = 3) :
    let q := (s.bkbAt d sec k x.addr).1
    let w := (s.bkbAt d sec k x.addr).2
    let r := s.look (Pg.mi d sec) q w
    Completes (.bkbSwap d sec k b 0) s (fun t => (StoresSame s t ∧ t.bankBusy (Pg.mi d sec) q =
      some { word := w, value := some x.din, portB := b = 1 }) ∧ BkbShows t d sec k b r 0) := by
  obtain ⟨hsec, hq⟩ := bkb_bank hpart s x.addr
  refine bkbSwap_completes hpart (bankHeld_shows hsec hq s _ _ _ _ ?_)
  rw [bkbTake_of_op hdue hop, bkbSwap, bkbGiven_at, bankFirst_good (s := s.bkbGiven d sec k b) hgood, BitVec.ofNat_toNat, BitVec.setWidth_eq]
  rfl

end
end
end

/-! ## The second cycle (R184) -/

section
variable {n : Nat}

theorem bankStore_completes {p : State → Prop} (hpart : isBkb d sec k b = true) (hn : n < 8)
    (h : ∀ yields, p (s.bankStores (Pg.mi d sec) (10 + 8 * k + n) yields)) : Completes (.bankStore d sec k n) s p := by
  obtain ⟨hsec, hk, -⟩ := isBkb_iff.1 hpart
  have hbank : (isBkb d sec k 0 && decide (n < 8)) = true := by simp [isBkb, hsec, hk, hn]
  exact completes_of_kept rfl hbank (s.bankStores_pending _ _ _) (h _)

section
variable {page q : Nat} (yields : Bool)

theorem bankStores_of_unripe (h : ∀ x, s.bankBusy page q = some x → x.ripe = false) : s.bankStores page q yields = s := by
  unfold bankStores
  split
  case h_1 => rfl
  case h_2 x hx => rw [if_pos (h x hx)]

variable {x : BankStore} (hx : s.bankBusy page q = some x) (hripe : x.ripe = true)
include hx hripe

theorem bankStores_of_value {v : DWord} (hv : x.value = some v) :
    s.bankStores page q yields = (s.setBankBusy page q none).portStore page q x.word v yields := by
  simp [bankStores, hx, hripe, hv]

theorem bankStores_of_bad (hv : x.value = none) : s.bankStores page q yields = s.setBankBusy page q none := by
  simp [bankStores, hx, hripe, hv]

end

theorem bankStore_idle (hpart : isBkb d sec k b = true) (hn : n < 8)
    (h : ∀ x, s.bankBusy (Pg.mi d sec) (10 + 8 * k + n) = some x → x.ripe = false) : Completes (.bankStore d sec k n) s (fun t => t = s) :=
  bankStore_completes hpart hn fun yields => bankStores_of_unripe yields h

section
variable (hpart : isBkb d sec k b = true) (hn : n < 8) {x : BankStore} (hx : s.bankBusy (Pg.mi d sec) (10 + 8 * k + n) = some x)
  (hripe : x.ripe = true)
include hpart hn hx hripe

theorem bankStore_stores {v : DWord} (hv : x.value = some v) (hw : x.word < 1024) (hflips : s.flips (Pg.mi d sec) (10 + k) false = false) :
    Completes (.bankStore d sec k n) s (fun t => t.bankBusy (Pg.mi d sec) (10 + 8 * k + n) = none ∧
      (t.raw (Pg.mi d sec) (10 + 8 * k + n) false x.word = codeWord v.toNat ∧
        WordsSameBut s t (Pg.mi d sec) (10 + 8 * k + n) x.word)) := by
  obtain ⟨hsec, hk, -⟩ := isBkb_iff.1 hpart
  have hbank := isMiBank_sector hsec (show 10 + 8 * k + n < 50 by omega)
  have hfreed := sameWords_setBankBusy s (Pg.mi d sec) (10 + 8 * k + n) none
  have hunflipped : (s.setBankBusy (Pg.mi d sec) (10 + 8 * k + n) none).flips (Pg.mi d sec)
      (blockOf (Pg.mi d sec) (10 + 8 * k + n)) false = false := by
    rw [blockOf_bkb (k := k) hsec (by omega), hfreed.flips (isMiPage_sector hsec), hflips]
  refine bankStore_completes hpart hn fun yields => ?_
  rw [bankStores_of_value yields hx hripe hv]
  exact ⟨((SamePorts.portStore ..).bankBusy ..).trans (bankBusy_setBankBusy ..), raw_portStore v yields hbank hunflipped,
    hfreed.before_wordsSameBut (portStore_words v yields hbank hw hunflipped)⟩

theorem bankStore_stores_nothing (hv : x.value = none) :
    Completes (.bankStore d sec k n) s (fun t => t.bankBusy (Pg.mi d sec) (10 + 8 * k + n) = none ∧ StoresSame s t) := by
  refine bankStore_completes hpart hn fun yields => ?_
  rw [bankStores_of_bad yields hx hripe hv]
  exact ⟨bankBusy_setBankBusy .., (sameWords_setBankBusy ..).stores⟩

end
end

end State
end Sys2Proof.Machine
end

section
namespace Sys2Proof

open Machine

/-- Settles O26: of the ports that an edge serves only the one itself takes its request or counts its stall; a command is then its first
cycle, split by whether the word it read is good, and the second cycle stores what the first left in the bank. -/
theorem bankedBlocksReadWriteAddAndSwap : Obligations.BankedBlocksReadWriteAddAndSwap := by
  intro s d sec k b hpart page p mode f
  obtain ⟨-, hk, hb⟩ := State.isBkb_iff.1 hpart
  refine ⟨fun t x hx => State.bkbTakes_request hk hb s t hx, fun op c hc => State.bkb_idle hpart hc, fun x hdue => ⟨?read, ?write, ?good, ?bad⟩,
    fun n hn => ⟨State.bankStore_idle hpart hn, fun x hx hripe hw hflips => ?store⟩⟩
  case read => exact State.bkbRead_presents hpart hdue
  case write => exact State.bkbWrite_stores hpart hdue
  case good =>
    intro hgood
    exact ⟨State.bkbWrite_merges hpart hdue hgood, State.bkbAdd_holds_sum hpart hdue hgood, State.bkbSwap_holds_input hpart hdue hgood⟩
  case bad => exact fun hbad op c hc hop hbe => State.bkb_bad hpart hdue hbad hc hop hbe
  case store =>
    cases hv : x.value with
    | some v => exact State.bankStore_stores hpart hn hx hripe hv hw hflips
    | none => exact State.bankStore_stores_nothing hpart hn hx hripe hv

end Sys2Proof
end

section
/-! SUPPORT. The queue of a block (R186 to R192): what the edge of a track decides about it, and what the other blocks leave alone. -/

namespace Sys2Proof.Machine

open Reg

namespace State

variable {s t u : State} {d sec b c n : Nat}

theorem isBlock_iff : isBlock d sec b = true ↔ isSector d sec = true ∧ b < 15 := by
  simp [isBlock]

@[simp] theorem queue_setQueue (s : State) (d sec b : Nat) (q : Queue) : (s.setQueue d sec b q).queue d sec b = q :=
  SMap.read_write_same ({} : Queue) s.mem.queues _ q

theorem queue_setQueue_other (s : State) (q : Queue) (h : c ≠ b) : (s.setQueue d sec c q).queue d sec b = s.queue d sec b := by
  refine SMap.read_write_other ({} : Queue) {} s.mem.queues q ?_
  unfold queueKey
  omega

theorem sameWords_setQueue (s : State) (d sec b : Nat) (q : Queue) : SameWords s (s.setQueue d sec b q) :=
  .of_regs ⟨rfl, rfl, rfl⟩ rfl

/-! ## What an edge decides about a queue -/

/-- What an edge's part in a queue depends on and changes: the queue, the configuration, whether GSR and Fk_LOGIC hold its sides, and its
bits of `SCTL_QSTAT`. -/
structure QueueView where
  queue : Queue
  fabric : FabricState
  gsr : Bool
  on : Bool
  ovf : Nat
  udf : Nat

def queueView (s : State) (d sec b : Nat) : QueueView where
  queue := s.queue d sec b
  fabric := s.fabric
  gsr := s.gsrActive d sec
  on := s.domOn (16 * d + 1)
  ovf := s.get (Pg.sctl d sec) Sctl.SCTL_QSTAT_OVF b
  udf := s.get (Pg.sctl d sec) Sctl.SCTL_QSTAT_UDF b

theorem queueView_eq (h : t.queueView d sec b = s.queueView d sec b) : t.queue d sec b = s.queue d sec b ∧ t.fabric = s.fabric ∧
    t.gsrActive d sec = s.gsrActive d sec ∧ t.domOn (16 * d + 1) = s.domOn (16 * d + 1) :=
  ⟨congrArg QueueView.queue h, congrArg QueueView.fabric h, congrArg QueueView.gsr h, congrArg QueueView.on h⟩

theorem queueRec_congr (h : t.fabric = s.fabric) (hi lo : Nat) : t.queueRec d sec b hi lo = s.queueRec d sec b hi lo := by
  simp only [queueRec, frame, h]

theorem qMode_congr (h : t.fabric = s.fabric) : t.qMode d sec b = s.qMode d sec b := queueRec_congr h _ _

theorem isQueue_congr (h : t.fabric = s.fabric) : t.isQueue d sec b = s.isQueue d sec b := by
  rw [isQueue, isQueue, qMode_congr h]

theorem qTracks_congr (h : t.fabric = s.fabric) :
    t.qReadTrack d sec b = s.qReadTrack d sec b ∧ t.qWriteTrack d sec b = s.qWriteTrack d sec b := by
  have hread : t.qReadTrack d sec b = s.qReadTrack d sec b := by
    rw [qReadTrack, qReadTrack, dpbTrack_congr h, bkbTrack, bkbTrack, bkbRec, bkbRec, frame, frame, h]
  exact ⟨hread, by rw [qWriteTrack, qWriteTrack, hread, qMode_congr h, queueRec_congr h]⟩

/-- Whether a side is free and open follows from the view of its queue, and of the queue only from its reset. -/
theorem qOpen_congr (hfabric : t.fabric = s.fabric) (hgsr : t.gsrActive d sec = s.gsrActive d sec)
    (hon : t.domOn (16 * d + 1) = s.domOn (16 * d + 1)) : t.qFree d sec b n = s.qFree d sec b n ∧
    ((t.queue d sec b).qrst = (s.queue d sec b).qrst → (t.queue d sec b).wWait = (s.queue d sec b).wWait →
      t.qWriteOpen d sec b = s.qWriteOpen d sec b) ∧
    ((t.queue d sec b).qrst = (s.queue d sec b).qrst → (t.queue d sec b).rWait = (s.queue d sec b).rWait →
      t.qReadOpen d sec b = s.qReadOpen d sec b) := by
  have hfree (m : Nat) : t.qFree d sec b m = s.qFree d sec b m := by
    simp only [qFree, isQueue_congr hfabric, trackFree, hgsr, hon, hfabric]
  refine ⟨hfree n, fun hrst hwait => ?_, fun hrst hwait => ?_⟩
  · simp only [qWriteOpen, hfree, qTracks_congr hfabric, hrst, hwait]
  · simp only [qReadOpen, hfree, qTracks_congr hfabric, hrst, hwait]

/-! ## Steps that leave the view alone -/

section
variable (hsec : isSector d sec = true)
include hsec

theorem gates_congr (hfabric : t.fabric = s.fabric)
    (hforce : t.get (Pg.sctl d sec) Sctl.CTL_GSR_FORCE = s.get (Pg.sctl d sec) Sctl.CTL_GSR_FORCE)
    (hlow : ∀ p f i, (f.off + i * f.stride) * 8 + f.lo < 32768 → p < 0x1100 → t.get p f i = s.get p f i) :
    t.gsrActive d sec = s.gsrActive d sec ∧ t.domOn (16 * d + 1) = s.domOn (16 * d + 1) := by
  obtain ⟨-, h4, -⟩ := isSector_iff.1 hsec
  have hreset := hlow Pg.reset Reset.RST_DIE_STAT_IN_RESET 0 (by decide) (by decide)
  have hdom : t.domState (16 * d + 1) = s.domState (16 * d + 1) := by
    refine hlow _ _ _ ?_ (by decide)
    simp only [PowerDom.DOM_STATE_STATE]
    omega
  simp only [gsrActive, flag, domOn, hfabric, hforce, hreset, hdom, and_self]

theorem sector_page_high : 0x1100 ≤ Pg.sctl d sec ∧ 0x1100 ≤ Pg.mi d sec := by
  obtain ⟨h1, -, -⟩ := isSector_iff.1 hsec
  unfold Pg.sctl Pg.mi Pg.dieBase
  split_ifs <;> omega

/-- A step that changes only the sector's integrity page and no register of the queue. -/
theorem queueView_of_changes (hb : b < 15) (h : ChangesPage (Pg.mi d sec) s t) (hqueue : t.queue d sec b = s.queue d sec b) :
    t.queueView d sec b = s.queueView d sec b := by
  have hsctl := sctl_ne_mi d sec hsec
  obtain ⟨hgsr, hon⟩ := gates_congr hsec h.fabric (h.regs _ Sctl.CTL_GSR_FORCE 0 (by decide) hsctl)
    (fun p f i hf hp => h.regs p f i hf (by have := (sector_page_high hsec).2; omega))
  have hovf := h.regs _ Sctl.SCTL_QSTAT_OVF b (RegField.inPage_lt (by decide) hb) hsctl
  have hudf := h.regs _ Sctl.SCTL_QSTAT_UDF b (RegField.inPage_lt (by decide) hb) hsctl
  simp only [queueView, hqueue, h.fabric, hgsr, hon, hovf, hudf]

/-- A write of a bit of `SCTL_QSTAT` is none of what holds a side. -/
theorem gates_setQstat (hc : c < 15) {f : RegField} (hf : f.inPage = true ∧ f.off = 0x500 ∧ f.count = 15) (s : State) (v : Nat) :
    (s.set (Pg.sctl d sec) f v c).gsrActive d sec = s.gsrActive d sec ∧
    (s.set (Pg.sctl d sec) f v c).domOn (16 * d + 1) = s.domOn (16 * d + 1) := by
  obtain ⟨hpage, hoff, hcount⟩ := hf
  have hlt := RegField.inPage_lt hpage (hcount ▸ hc)
  refine gates_congr hsec rfl (get_set_other s v (fieldKey_ne ?_)) fun p g i hg hp => get_set_other s v (fieldKey_ne_of_page hlt hg ?_)
  · simp only [Sctl.CTL_GSR_FORCE, hoff]
    generalize c * f.stride = a
    omega
  · have := (sector_page_high hsec).1
    omega

theorem queueView_refused (hb : b < 15) (s : State) (q : Queue) :
    ((s.setQueue d sec b q).set (Pg.sctl d sec) Sctl.SCTL_QSTAT_OVF 1 b).queueView d sec b = { s.queueView d sec b with queue := q, ovf := 1 } ∧
    ((s.setQueue d sec b q).set (Pg.sctl d sec) Sctl.SCTL_QSTAT_UDF 1 b).queueView d sec b = { s.queueView d sec b with queue := q, udf := 1 } := by
  have hqueue : (s.setQueue d sec b q).queue d sec b = q := queue_setQueue s d sec b q
  have hovf := gates_setQstat hsec hb (f := Sctl.SCTL_QSTAT_OVF) (by decide) (s.setQueue d sec b q) 1
  have hudf := gates_setQstat hsec hb (f := Sctl.SCTL_QSTAT_UDF) (by decide) (s.setQueue d sec b q) 1
  have hkey : fieldKey (Pg.sctl d sec) Sctl.SCTL_QSTAT_UDF b ≠ fieldKey (Pg.sctl d sec) Sctl.SCTL_QSTAT_OVF b :=
    fieldKey_ne_of_lo rfl rfl (by decide)
  simp only [queueView, hovf, hudf, get_set_same, get_set_other _ 1 hkey, get_set_other _ 1 hkey.symm]
  exact ⟨congrArg (fun p => QueueView.mk p _ _ _ _ _) hqueue, congrArg (fun p => QueueView.mk p _ _ _ _ _) hqueue⟩

omit hsec in
theorem queueView_setQueue (s : State) (d sec b : Nat) (q : Queue) :
    (s.setQueue d sec b q).queueView d sec b = { s.queueView d sec b with queue := q } :=
  congrArg (fun p => QueueView.mk p _ _ _ _ _) (queue_setQueue s d sec b q)

omit hsec in
theorem queueView_setQueue_other (s : State) (q : Queue) (h : c ≠ b) : (s.setQueue d sec c q).queueView d sec b = s.queueView d sec b :=
  congrArg (fun p => QueueView.mk p _ _ _ _ _) (queue_setQueue_other s q h)

/-- The bits of another queue. -/
theorem queueView_setQstat_other (hc : c < 15) (h : c ≠ b) (s : State) {f : RegField}
    (hf : f = Sctl.SCTL_QSTAT_OVF ∨ f = Sctl.SCTL_QSTAT_UDF) :
    (s.set (Pg.sctl d sec) f 1 c).queueView d sec b = s.queueView d sec b := by
  have hbits : f.inPage = true ∧ f.off = 0x500 ∧ f.count = 15 ∧ f.stride = 4 ∧ (f.lo = 29 ∨ f.lo = 28) := by
    rcases hf with rfl | rfl <;> decide
  obtain ⟨hpage, hoff, hcount, hstride, hlo⟩ := hbits
  have hgates := gates_setQstat hsec hc ⟨hpage, hoff, hcount⟩ s 1
  have hovf : fieldKey (Pg.sctl d sec) Sctl.SCTL_QSTAT_OVF b ≠ fieldKey (Pg.sctl d sec) f c := by
    refine fieldKey_ne ?_
    simp only [Sctl.SCTL_QSTAT_OVF, hoff, hstride]
    omega
  have hudf : fieldKey (Pg.sctl d sec) Sctl.SCTL_QSTAT_UDF b ≠ fieldKey (Pg.sctl d sec) f c := by
    refine fieldKey_ne ?_
    simp only [Sctl.SCTL_QSTAT_UDF, hoff, hstride]
    omega
  simp only [queueView, hgates, get_set_other s 1 hovf, get_set_other s 1 hudf]
  rfl

/-! ## Stores of a queue -/

/-- A store of a queue's entry leaves every queue and port alone. -/
theorem queueStore_ports (hc : c < 15) (s : State) (a : Nat) (data : DWord) : SamePorts s (s.queueStore d sec c a data) := by
  have hk := pageKind_mi_of hsec
  have hread := (Notes.detected hk (qAt_lt s hc a hk) s (s.qAt d sec c a).2 (s.look (Pg.mi d sec) (s.qAt d sec c a).1 (s.qAt d sec c a).2)).ports
  unfold queueStore
  dsimp only
  split
  · exact .portStore ..
  · split
    · exact hread
    · exact hread.trans (.portStore ..)

theorem queueView_queueStore (hb : b < 15) (hc : c < 15) (s : State) (a : Nat) (data : DWord) :
    (s.queueStore d sec c a data).queueView d sec b = s.queueView d sec b :=
  queueView_of_changes hsec hb (changesPage_queueStore hsec s hc a data) ((queueStore_ports hsec hc s a data).queue d sec b)

section
variable (hb : b < 15) (hc : c < 15) (hne : c ≠ b)
include hb hc hne

theorem queueView_queueDrain (s : State) : (s.queueDrain d sec c).queueView d sec b = s.queueView d sec b := by
  rw [queueDrain, queueView_setQueue_other _ _ hne]
  refine forEach_keeps (fun u : State => u.queueView d sec b) _ (fun x u => ?_) s
  exact queueView_queueStore hsec hb hc u x.1 x.2

theorem queueView_queueWrite (s : State) : (s.queueWrite d sec c 0).queueView d sec b = s.queueView d sec b := by
  unfold queueWrite
  dsimp only
  split
  · rfl
  · refine (queueView_setQueue_other _ _ hne).trans ?_
    simp only [BitVec.ofNat_eq_ofNat, upset_zero]
    split
    · refine (queueView_setQueue_other _ _ hne).trans ?_
      split
      · exact queueView_queueDrain hsec hb hc hne s
      · rfl
    · exact queueView_queueStore hsec hb hc s _ _

theorem queueView_queueReset (s : State) (on : Bool) : (s.queueReset d sec c on).queueView d sec b = s.queueView d sec b := by
  unfold queueReset
  split
  · rfl
  · split
    · exact (queueView_setQueue_other _ _ hne).trans
        ((queueView_queueDrain hsec hb hc hne _).trans (queueView_queueWrite hsec hb hc hne s))
    · split
      · exact queueView_setQueue_other _ _ hne
      · rfl

end
end

/-! ## The sides of a queue at an edge (R191, R192)

`s` is the state before the edge, `u` the one in which the edge has come and the blocks before this one have taken their inputs. -/

/-- `QRST` as the attach input stands. -/
def queueResets (s : State) (d sec c : Nat) (u : State) : State :=
  if s.attachIn d sec (blockBase c + 97) ≠ (u.queue d sec c).qrst then u.queueReset d sec c (s.attachIn d sec (blockBase c + 97)) else u

/-- The write that a queue takes or refuses. -/
def queueTakesWrite (s : State) (d sec n c : Nat) (u : State) : State :=
  if u.qFree d sec c n && u.qWriteTrack d sec c = n && s.attachIn d sec (blockBase c) then
    if !(u.qWriteOpen d sec c) || (s.queue d sec c).wLevel = s.qCapacity d sec c then
      (u.setQueue d sec c { u.queue d sec c with ovf := true }).set (Pg.sctl d sec) Sctl.SCTL_QSTAT_OVF 1 c
    else u.setQueue d sec c { u.queue d sec c with
      wDue := some (BitVec.ofNat 64 (s.attachNum d sec (blockBase c + (if c < 10 then 17 else 24)) 64)) }
  else u

/-- The read that a queue takes or refuses. -/
def queueTakesRead (s : State) (d sec n c : Nat) (u : State) : State :=
  if u.qFree d sec c n && u.qReadTrack d sec c = n && s.attachIn d sec (blockBase c + 96) then
    if !(u.qReadOpen d sec c) || (s.queue d sec c).rLevel = 0 then
      (u.setQueue d sec c { u.queue d sec c with udf := true }).set (Pg.sctl d sec) Sctl.SCTL_QSTAT_UDF 1 c
    else u.setQueue d sec c { u.queue d sec c with rDue := true }
  else u

theorem queueTakes_eq (s t : State) (d sec n : Nat) : s.queueTakes d sec n t = forEach ((List.range 15).filter (t.isQueue d sec))
    (fun c u => s.queueTakesRead d sec n c (s.queueTakesWrite d sec n c (s.queueResets d sec c u))) t := rfl

/-- The part of another queue. -/
theorem queueTakes_other (hsec : isSector d sec = true) (hb : b < 15) (hc : c < 15) (hne : c ≠ b) (s u : State) :
    (s.queueTakesRead d sec n c (s.queueTakesWrite d sec n c (s.queueResets d sec c u))).queueView d sec b = u.queueView d sec b := by
  have hreset : (s.queueResets d sec c u).queueView d sec b = u.queueView d sec b := by
    unfold queueResets
    split
    · exact queueView_queueReset hsec hb hc hne u _
    · rfl
  have hwrite (v : State) : (s.queueTakesWrite d sec n c v).queueView d sec b = v.queueView d sec b := by
    unfold queueTakesWrite
    split
    · split
      · exact (queueView_setQstat_other hsec hc hne _ (.inl rfl)).trans (queueView_setQueue_other v _ hne)
      · exact queueView_setQueue_other v _ hne
    · rfl
  have hread (v : State) : (s.queueTakesRead d sec n c v).queueView d sec b = v.queueView d sec b := by
    unfold queueTakesRead
    split
    · split
      · exact (queueView_setQstat_other hsec hc hne _ (.inr rfl)).trans (queueView_setQueue_other v _ hne)
      · exact queueView_setQueue_other v _ hne
    · rfl
  exact (hread _).trans ((hwrite _).trans hreset)

/-- While `QRST` stands as the queue has seen it, a queue's own part is its write and its read. -/
theorem queueTakes_view (hsec : isSector d sec = true) (hb : b < 15) (n : Nat) (hqueue : t.isQueue d sec b = true)
    (hrst : s.attachIn d sec (blockBase b + 97) = (t.queue d sec b).qrst) : ∃ u, u.queueView d sec b = t.queueView d sec b ∧
    (s.queueTakes d sec n t).queueView d sec b = (s.queueTakesRead d sec n b (s.queueTakesWrite d sec n b u)).queueView d sec b := by
  have hmem : b ∈ (List.range 15).filter (t.isQueue d sec) := List.mem_filter.2 ⟨List.mem_range.2 hb, hqueue⟩
  have hother : ∀ c ∈ (List.range 15).filter (t.isQueue d sec), c ≠ b → ∀ u,
      (s.queueTakesRead d sec n c (s.queueTakesWrite d sec n c (s.queueResets d sec c u))).queueView d sec b = u.queueView d sec b :=
    fun c hc hne u => queueTakes_other hsec hb (List.mem_range.1 (List.mem_filter.1 hc).1) hne s u
  obtain ⟨u, hu, htakes⟩ := forEach_at (fun u : State => u.queueView d sec b) (List.nodup_range.filter _) hmem hother t
  refine ⟨u, hu, ?_⟩
  have hsame : (u.queue d sec b).qrst = (t.queue d sec b).qrst := congrArg (fun v : QueueView => v.queue.qrst) hu
  have hstands : s.queueResets d sec b u = u := by rw [queueResets, hsame, if_neg (not_not.2 hrst)]
  rw [queueTakes_eq, htakes, hstands]

section
variable (hsec : isSector d sec = true) (hb : b < 15)
include hsec hb

/-- A write that an edge takes or refuses leaves the read side alone. -/
theorem queueTakesWrite_view (s u : State) (n : Nat) : ∃ ovf wDue x, (s.queueTakesWrite d sec n b u).queueView d sec b =
    { u.queueView d sec b with queue := { u.queue d sec b with ovf := ovf, wDue := wDue }, ovf := x } := by
  unfold queueTakesWrite
  split
  · split
    · exact ⟨true, _, 1, (queueView_refused hsec hb u _).1⟩
    · exact ⟨_, _, _, queueView_setQueue u d sec b _⟩
  · exact ⟨_, _, _, rfl⟩

/-- A read that an edge takes or refuses leaves the write side alone. -/
theorem queueTakesRead_view (s u : State) (n : Nat) : ∃ udf rDue x, (s.queueTakesRead d sec n b u).queueView d sec b =
    { u.queueView d sec b with queue := { u.queue d sec b with udf := udf, rDue := rDue }, udf := x } := by
  unfold queueTakesRead
  split
  · split
    · exact ⟨true, _, 1, (queueView_refused hsec hb u _).2⟩
    · exact ⟨_, _, _, queueView_setQueue u d sec b _⟩
  · exact ⟨_, _, _, rfl⟩

variable (hqueue : t.isQueue d sec b = true) (hrst : s.attachIn d sec (blockBase b + 97) = (t.queue d sec b).qrst)
  (hfree : t.qFree d sec b n = true)
include hqueue hrst hfree

/-- When a queue's write comes its write side stands as the edge left it, and the write decides what that side becomes. -/
theorem queueTakes_at_write : ∃ u, (u.qFree d sec b n = true ∧ u.qWriteTrack d sec b = t.qWriteTrack d sec b ∧
      u.qWriteOpen d sec b = t.qWriteOpen d sec b ∧ u.queue d sec b = t.queue d sec b) ∧
    ∃ udf rDue x, (s.queueTakes d sec n t).queueView d sec b = { (s.queueTakesWrite d sec n b u).queueView d sec b with
      queue := { (s.queueTakesWrite d sec n b u).queue d sec b with udf := udf, rDue := rDue }, udf := x } := by
  obtain ⟨u, hu, htakes⟩ := queueTakes_view hsec hb n hqueue hrst
  obtain ⟨hq, hfabric, hgsr, hon⟩ := queueView_eq hu
  obtain ⟨hufree, huopen, -⟩ := qOpen_congr (n := n) (b := b) hfabric hgsr hon
  obtain ⟨udf, rDue, x, hread⟩ := queueTakesRead_view hsec hb s (s.queueTakesWrite d sec n b u) n
  exact ⟨u, ⟨hufree.trans hfree, (qTracks_congr hfabric).2, huopen (congrArg Queue.qrst hq) (congrArg Queue.wWait hq), hq⟩,
    udf, rDue, x, htakes.trans hread⟩

/-- When its read comes its read side stands as the edge left it. -/
theorem queueTakes_at_read : ∃ v, (v.qFree d sec b n = true ∧ v.qReadTrack d sec b = t.qReadTrack d sec b ∧
      v.qReadOpen d sec b = t.qReadOpen d sec b ∧ (v.queue d sec b).rDue = (t.queue d sec b).rDue) ∧
    (s.queueTakes d sec n t).queueView d sec b = (s.queueTakesRead d sec n b v).queueView d sec b := by
  obtain ⟨u, hu, htakes⟩ := queueTakes_view hsec hb n hqueue hrst
  obtain ⟨hq, hfabric, hgsr, hon⟩ := queueView_eq hu
  obtain ⟨ovf, wDue, x, hwrite⟩ := queueTakesWrite_view hsec hb s u n
  have hvfabric := (congrArg QueueView.fabric hwrite).trans hfabric
  obtain ⟨hvfree, -, hvopen⟩ := qOpen_congr (n := n) (b := b) hvfabric ((congrArg QueueView.gsr hwrite).trans hgsr)
    ((congrArg QueueView.on hwrite).trans hon)
  have hkept {α : Type} (g : Queue → α) (hg : ∀ q : Queue, g { q with ovf := ovf, wDue := wDue } = g q) :
      g ((s.queueTakesWrite d sec n b u).queue d sec b) = g (t.queue d sec b) :=
    (congrArg (fun v => g v.queue) hwrite).trans ((hg _).trans (congrArg g hq))
  exact ⟨s.queueTakesWrite d sec n b u, ⟨hvfree.trans hfree, (qTracks_congr hvfabric).1,
    hvopen (hkept Queue.qrst fun _ => rfl) (hkept Queue.rWait fun _ => rfl), hkept Queue.rDue fun _ => rfl⟩, htakes⟩

section
variable (htrack : t.qWriteTrack d sec b = n) (hen : s.attachIn d sec (blockBase b) = true)
include htrack hen

theorem queueTakes_refuses_write (hrefuse : t.qWriteOpen d sec b = false ∨ (s.queue d sec b).wLevel = s.qCapacity d sec b) :
    ((s.queueTakes d sec n t).queue d sec b).ovf = true ∧ (s.queueTakes d sec n t).get (Pg.sctl d sec) Sctl.SCTL_QSTAT_OVF b = 1 ∧
    ((s.queueTakes d sec n t).queue d sec b).wDue = (t.queue d sec b).wDue := by
  obtain ⟨u, ⟨hufree, hutrack, huopen, hq⟩, udf, rDue, x, htakes⟩ := queueTakes_at_write hsec hb hqueue hrst hfree
  have hview := (queueView_refused hsec hb u { u.queue d sec b with ovf := true }).1
  have hwrite : s.queueTakesWrite d sec n b u =
      (u.setQueue d sec b { u.queue d sec b with ovf := true }).set (Pg.sctl d sec) Sctl.SCTL_QSTAT_OVF 1 b := by
    rw [queueTakesWrite, if_pos (by simp [hufree, hutrack, htrack, hen]), if_pos (by simpa [huopen] using hrefuse)]
  rw [← hwrite] at hview
  exact ⟨(congrArg (fun v => v.queue.ovf) htakes).trans (congrArg (fun v => v.queue.ovf) hview),
    (congrArg QueueView.ovf htakes).trans (congrArg QueueView.ovf hview),
    (congrArg (fun v => v.queue.wDue) htakes).trans ((congrArg (fun v => v.queue.wDue) hview).trans (congrArg Queue.wDue hq))⟩

theorem queueTakes_takes_write (hopen : t.qWriteOpen d sec b = true) (hroom : (s.queue d sec b).wLevel ≠ s.qCapacity d sec b) :
    ((s.queueTakes d sec n t).queue d sec b).wDue =
      some (BitVec.ofNat 64 (s.attachNum d sec (blockBase b + (if b < 10 then 17 else 24)) 64)) := by
  obtain ⟨u, ⟨hufree, hutrack, huopen, -⟩, udf, rDue, x, htakes⟩ := queueTakes_at_write hsec hb hqueue hrst hfree
  have hwrite : s.queueTakesWrite d sec n b u = u.setQueue d sec b { u.queue d sec b with
      wDue := some (BitVec.ofNat 64 (s.attachNum d sec (blockBase b + (if b < 10 then 17 else 24)) 64)) } := by
    rw [queueTakesWrite, if_pos (by simp [hufree, hutrack, htrack, hen]), if_neg (by simp [huopen, hopen, hroom])]
  refine (congrArg (fun v => v.queue.wDue) htakes).trans ?_
  rw [hwrite, queue_setQueue]

end

section
variable (htrack : t.qReadTrack d sec b = n) (hen : s.attachIn d sec (blockBase b + 96) = true)
include htrack hen

theorem queueTakes_refuses_read (hrefuse : t.qReadOpen d sec b = false ∨ (s.queue d sec b).rLevel = 0) :
    ((s.queueTakes d sec n t).queue d sec b).udf = true ∧ (s.queueTakes d sec n t).get (Pg.sctl d sec) Sctl.SCTL_QSTAT_UDF b = 1 ∧
    ((s.queueTakes d sec n t).queue d sec b).rDue = (t.queue d sec b).rDue := by
  obtain ⟨v, ⟨hvfree, hvtrack, hvopen, hdue⟩, htakes⟩ := queueTakes_at_read hsec hb hqueue hrst hfree
  rw [queueTakesRead, if_pos (by simp [hvfree, hvtrack, htrack, hen]), if_pos (by simpa [hvopen] using hrefuse)] at htakes
  have hview := htakes.trans (queueView_refused hsec hb v _).2
  exact ⟨congrArg (fun v => v.queue.udf) hview, congrArg QueueView.udf hview, (congrArg (fun v => v.queue.rDue) hview).trans hdue⟩

theorem queueTakes_takes_read (hopen : t.qReadOpen d sec b = true) (hroom : (s.queue d sec b).rLevel ≠ 0) :
    ((s.queueTakes d sec n t).queue d sec b).rDue = true := by
  obtain ⟨v, ⟨hvfree, hvtrack, hvopen, -⟩, htakes⟩ := queueTakes_at_read hsec hb hqueue hrst hfree
  rw [queueTakesRead, if_pos (by simp [hvfree, hvtrack, htrack, hen]), if_neg (by simp [hvopen, hopen, hroom])] at htakes
  exact congrArg (fun v => v.queue.rDue) (htakes.trans (queueView_setQueue v d sec b _))

end
end
end State
end Sys2Proof.Machine
end

section
/-! SUPPORT. The commands of a queue (R188 to R192): what a write stores, what a read presents, and how the levels follow. -/

namespace Sys2Proof.Machine

open Reg

namespace State

variable {s t : State} {d sec b : Nat}

/-! ## Where an entry stands -/

theorem qAt_bank (hsec : isSector d sec = true) (hb : b < 15) (s : State) (a : Nat) : isMiBank (Pg.mi d sec) (s.qAt d sec b a).1 = true ∧
    (s.qAt d sec b a).2 < 1024 ∧ blockOf (Pg.mi d sec) (s.qAt d sec b a).1 = b := by
  refine ⟨isMiBank_sector hsec (qAt_lt s hb a (pageKind_mi_of hsec)), ?_⟩
  unfold qAt
  split
  case isTrue hdpb => exact ⟨Nat.lt_trans (entryWord_lt _ a) (by decide), blockOf_dpb hsec hdpb⟩
  case isFalse hbkb =>
    obtain ⟨hq, hw⟩ := bkbAt_lt hsec s (b - 10) a
    refine ⟨hw, (blockOf_bkb hsec hq).trans ?_⟩
    omega

/-! ## The store of an entry -/

section
variable (hsec : isSector d sec = true) (hb : b < 15) {a : Nat}
include hsec hb

theorem queueStore_stores (data : DWord) (hflips : s.flips (Pg.mi d sec) b false = false)
    (hgood : s.qWidth d sec b = 6 ∨ badRead (s.look (Pg.mi d sec) (s.qAt d sec b a).1 (s.qAt d sec b a).2) = false) :
    WordsSameBut s (s.queueStore d sec b a data) (Pg.mi d sec) (s.qAt d sec b a).1 (s.qAt d sec b a).2 ∧
    (s.queueStore d sec b a data).raw (Pg.mi d sec) (s.qAt d sec b a).1 false (s.qAt d sec b a).2 =
      codeWord (if s.qWidth d sec b = 6 then data.toNat
        else Machine.withEntry (s.qWidth d sec b) a (s.look (Pg.mi d sec) (s.qAt d sec b a).1 (s.qAt d sec b a).2).data data.toNat % 2 ^ 64) := by
  obtain ⟨hbank, hw, hblock⟩ := qAt_bank hsec hb s a
  by_cases hwhole : s.qWidth d sec b = 6
  · have hunflipped : s.flips (Pg.mi d sec) (blockOf (Pg.mi d sec) (s.qAt d sec b a).1) false = false := by rw [hblock, hflips]
    have hstore : s.queueStore d sec b a data = s.portStore (Pg.mi d sec) (s.qAt d sec b a).1 (s.qAt d sec b a).2 data := if_pos hwhole
    rw [hstore, if_pos hwhole]
    exact ⟨portStore_words _ _ hbank hw hunflipped, raw_portStore _ _ hbank hunflipped⟩
  · have hread := (Notes.detected (pageKind_mi_of hsec) (qAt_lt s hb a (pageKind_mi_of hsec)) s (s.qAt d sec b a).2
      (s.look (Pg.mi d sec) (s.qAt d sec b a).1 (s.qAt d sec b a).2)).words
    have hunflipped := (hread.flips (isMiPage_sector hsec) (blockOf (Pg.mi d sec) (s.qAt d sec b a).1) false).trans (hblock ▸ hflips)
    have hclass : ¬((s.look (Pg.mi d sec) (s.qAt d sec b a).1 (s.qAt d sec b a).2).cls = .uncorrectable ∨
        (s.look (Pg.mi d sec) (s.qAt d sec b a).1 (s.qAt d sec b a).2).cls = .poison) := by
      simpa [badRead] using hgood.resolve_left hwhole
    have hstore : s.queueStore d sec b a data = _ := (if_neg hwhole).trans (if_neg hclass)
    rw [hstore, if_neg hwhole]
    exact ⟨hread.before_wordsSameBut (portStore_words _ _ hbank hw hunflipped),
      (raw_portStore _ _ hbank hunflipped).trans (congrArg codeWord (BitVec.toNat_ofNat _ _))⟩

end

/-! ## QUEUE_WRITE -/

/-- The queue after a write: the entry counts on its own side, and waits to count on the other. -/
def queueWritten (s : State) (d sec b : Nat) (q : Queue) : Queue :=
  { q with wDue := none, wptr := (q.wptr + 1) % s.qCapacity d sec b, wLevel := q.wLevel + 1, wPend := q.wPend ++ [0] }

theorem queueWrite_of_none (h : (s.queue d sec b).wDue = none) (flip : BitVec 72) : s.queueWrite d sec b flip = s := by
  simp [queueWrite, h]

section
variable {data : DWord} (hdue : (s.queue d sec b).wDue = some data)
include hdue

theorem queueWrite_plain (h : ¬(s.qMode d sec b = 2 ∧ 10 ≤ b)) : s.queueWrite d sec b 0 =
    (s.queueStore d sec b (s.queue d sec b).wptr data).setQueue d sec b
      (s.queueWritten d sec b ((s.queueStore d sec b (s.queue d sec b).wptr data).queue d sec b)) := by
  simp only [queueWrite, hdue, BitVec.ofNat_eq_ofNat, upset_zero, if_neg h, queueWritten, qCapacity]

/-- The staging buffer with one entry more (R190). -/
def queueStaged (q : Queue) (data : DWord) : Queue := { q with stage := q.stage ++ [(q.wptr, data)] }

theorem queueWrite_staged (hmode : s.qMode d sec b = 2) (hb : 10 ≤ b) (hroom : (s.queue d sec b).stage.length < 16) :
    s.queueWrite d sec b 0 = (s.setQueue d sec b (queueStaged (s.queue d sec b) data)).setQueue d sec b
      (s.queueWritten d sec b (queueStaged (s.queue d sec b) data)) := by
  have hfits : ¬16 ≤ (s.queue d sec b).stage.length := by omega
  simp only [queueWrite, hdue, BitVec.ofNat_eq_ofNat, upset_zero, if_pos (And.intro hmode hb), if_neg hfits, queue_setQueue,
    queueWritten, queueStaged]

end

section
variable (hpart : isBlock d sec b = true)
include hpart

theorem queueWrite_completes {p : State → Prop} {flip : BitVec 72} (h : p (s.queueWrite d sec b flip)) :
    Completes (.queueWrite d sec b flip) s p :=
  completes_of_kept rfl hpart (s.queueWrite_pending ..) h

theorem queueWrite_stores {data : DWord} (hdue : (s.queue d sec b).wDue = some data) (hmode : s.qMode d sec b ≠ 2 ∨ b < 10)
    (hflips : s.flips (Pg.mi d sec) b false = false)
    (hgood : s.qWidth d sec b = 6 ∨
      badRead (s.look (Pg.mi d sec) (s.qAt d sec b (s.queue d sec b).wptr).1 (s.qAt d sec b (s.queue d sec b).wptr).2) = false) :
    let q := s.queue d sec b
    let wa := s.qAt d sec b q.wptr
    Completes (.queueWrite d sec b 0) s (fun t => t.queue d sec b = s.queueWritten d sec b q ∧ WordsSameBut s t (Pg.mi d sec) wa.1 wa.2 ∧
      t.raw (Pg.mi d sec) wa.1 false wa.2 = codeWord (if s.qWidth d sec b = 6 then data.toNat
        else Machine.withEntry (s.qWidth d sec b) q.wptr (s.look (Pg.mi d sec) wa.1 wa.2).data data.toNat % 2 ^ 64)) := by
  obtain ⟨hsec, hb⟩ := isBlock_iff.1 hpart
  obtain ⟨hwords, hraw⟩ := queueStore_stores hsec hb data hflips hgood
  obtain ⟨hbank, -, -⟩ := qAt_bank hsec hb s (s.queue d sec b).wptr
  have hset := sameWords_setQueue (s.queueStore d sec b (s.queue d sec b).wptr data) d sec b (s.queueWritten d sec b (s.queue d sec b))
  have hplain : ¬(s.qMode d sec b = 2 ∧ 10 ≤ b) := fun h => hmode.elim (· h.1) (by omega)
  refine queueWrite_completes hpart ?_
  rw [queueWrite_plain hdue hplain, (queueStore_ports hsec hb s _ data).queue]
  exact ⟨queue_setQueue .., hset.after_wordsSameBut hwords, (hset.raw hbank false _).trans hraw⟩

theorem queueWrite_stages {data : DWord} (hdue : (s.queue d sec b).wDue = some data) (hmode : s.qMode d sec b = 2) (hb : 10 ≤ b)
    (hroom : (s.queue d sec b).stage.length < 16) : Completes (.queueWrite d sec b 0) s (fun t =>
      t.queue d sec b = s.queueWritten d sec b (queueStaged (s.queue d sec b) data) ∧ StoresSame s t) := by
  refine queueWrite_completes hpart ?_
  rw [queueWrite_staged hdue hmode hb hroom]
  exact ⟨queue_setQueue .., ((sameWords_setQueue ..).trans (sameWords_setQueue ..)).stores⟩

/-! ## QUEUE_READ -/

theorem queueRead_completes {p : State → Prop} {flip : BitVec 72} (h : p (s.queueRead d sec b flip)) :
    Completes (.queueRead d sec b flip) s p :=
  completes_of_kept rfl hpart (s.queueRead_pending ..) h

omit hpart in
theorem queueRead_of_none (h : (s.queue d sec b).rDue = false) (flip : BitVec 72) : s.queueRead d sec b flip = s := if_pos h

/-- The queue after a read. -/
def queueReadDone (s : State) (d sec b : Nat) (q : Queue) : Queue :=
  { q with rDue := false, rptr := (q.rptr + 1) % s.qCapacity d sec b, rLevel := q.rLevel - 1, rPend := q.rPend ++ [0] }

/-- A read presents its entry at port B of the block. -/
def queuePresents (s : State) (d sec b a w : Nat) (r : WordRead) : State :=
  if b < 10 then s.setDpbPort d sec b 1 { s.dpbPort d sec b 1 with
    dout := BitVec.ofNat 64 (Machine.entryOf w a r.data), cstat := BitVec.ofNat 2 r.cls.code }
  else s.bkbResult d sec (b - 10) 1 r.data 0 r.cls

end

theorem queuePresents_kept (s : State) (d sec b a w : Nat) (r : WordRead) :
    SameWords s (s.queuePresents d sec b a w r) ∧ (s.queuePresents d sec b a w r).queue d sec b = s.queue d sec b := by
  unfold queuePresents
  split
  · exact ⟨sameWords_setDpbPort .., rfl⟩
  · exact ⟨sameWords_bkbResult .., rfl⟩

theorem queuePresents_dpb (hb : b < 10) (s : State) (a w : Nat) (r : WordRead) :
    ((s.queuePresents d sec b a w r).dpbPort d sec b 1).dout = BitVec.ofNat 64 (Machine.entryOf w a r.data) ∧
    ((s.queuePresents d sec b a w r).dpbPort d sec b 1).cstat = BitVec.ofNat 2 r.cls.code := by
  rw [queuePresents, if_pos hb, dpbPort_setDpbPort]
  exact ⟨rfl, rfl⟩

theorem queuePresents_bkb (hb : 10 ≤ b) (s : State) (a w : Nat) (r : WordRead) :
    ((s.queuePresents d sec b a w r).bkbPort d sec (b - 10) 1).dout = BitVec.ofNat 64 r.data ∧
    ((s.queuePresents d sec b a w r).bkbPort d sec (b - 10) 1).dvalid = true := by
  rw [queuePresents, if_neg (by omega), bkbResult, bkbPort_setBkbPort]
  exact ⟨rfl, rfl⟩

/-- The state in which a queue's read has looked at its entry. -/
def queueLooked (s : State) (d sec b : Nat) : State :=
  let at_ := s.qAt d sec b (s.queue d sec b).rptr
  s.detected (Pg.mi d sec) at_.1 at_.2 (s.look (Pg.mi d sec) at_.1 at_.2)

/-- The state in which the read also presents what it found. -/
def queueShown (s : State) (d sec b : Nat) : State :=
  let at_ := s.qAt d sec b (s.queue d sec b).rptr
  (s.queueLooked d sec b).queuePresents d sec b (s.queue d sec b).rptr (s.qWidth d sec b) (s.look (Pg.mi d sec) at_.1 at_.2)

theorem queueShown_kept (hsec : isSector d sec = true) (hb : b < 15) (s : State) :
    SameWords s (s.queueShown d sec b) ∧ (s.queueShown d sec b).queue d sec b = s.queue d sec b := by
  have hk := pageKind_mi_of hsec
  have hlooked := Notes.detected hk (qAt_lt s hb (s.queue d sec b).rptr hk) s (s.qAt d sec b (s.queue d sec b).rptr).2
    (s.look (Pg.mi d sec) (s.qAt d sec b (s.queue d sec b).rptr).1 (s.qAt d sec b (s.queue d sec b).rptr).2)
  obtain ⟨hwords, hqueue⟩ := queuePresents_kept (d := d) (sec := sec) (b := b) (s.queueLooked d sec b) (s.queue d sec b).rptr
    (s.qWidth d sec b) (s.look (Pg.mi d sec) (s.qAt d sec b (s.queue d sec b).rptr).1 (s.qAt d sec b (s.queue d sec b).rptr).2)
  exact ⟨hlooked.words.trans hwords, hqueue.trans (hlooked.ports.queue d sec b)⟩

theorem queueRead_eq (hsec : isSector d sec = true) (hb : b < 15) (hdue : (s.queue d sec b).rDue = true) :
    s.queueRead d sec b 0 = (s.queueShown d sec b).setQueue d sec b (s.queueReadDone d sec b (s.queue d sec b)) := by
  have hread : s.queueRead d sec b 0 = (s.queueShown d sec b).setQueue d sec b { (s.queueShown d sec b).queue d sec b with
      rDue := false, rptr := ((s.queue d sec b).rptr + 1) % s.qCapacity d sec b, rLevel := (s.queue d sec b).rLevel - 1
      rPend := (s.queue d sec b).rPend ++ [0] } := by
    rw [queueRead, if_neg (by simp [hdue])]
    simp only [BitVec.ofNat_eq_ofNat, upset_zero]
    rfl
  rw [hread, (queueShown_kept hsec hb s).2]
  rfl

theorem queueRead_presents (hpart : isBlock d sec b = true) (hdue : (s.queue d sec b).rDue = true) :
    let q := s.queue d sec b
    let ra := s.qAt d sec b q.rptr
    let r := s.look (Pg.mi d sec) ra.1 ra.2
    Completes (.queueRead d sec b 0) s (fun t => t.queue d sec b = s.queueReadDone d sec b q ∧ StoresSame s t ∧
      (b < 10 → (t.dpbPort d sec b 1).dout = BitVec.ofNat 64 (Machine.entryOf (s.qWidth d sec b) q.rptr r.data) ∧
        (t.dpbPort d sec b 1).cstat = BitVec.ofNat 2 r.cls.code) ∧
      (10 ≤ b → (t.bkbPort d sec (b - 10) 1).dout = BitVec.ofNat 64 r.data ∧ (t.bkbPort d sec (b - 10) 1).dvalid = true)) := by
  obtain ⟨hsec, hb⟩ := isBlock_iff.1 hpart
  refine queueRead_completes hpart ?_
  rw [queueRead_eq hsec hb hdue]
  exact ⟨queue_setQueue .., ((queueShown_kept hsec hb s).1.trans (sameWords_setQueue ..)).stores,
    fun hdpb => queuePresents_dpb hdpb _ _ _ _, fun hbkb => queuePresents_bkb hbkb _ _ _ _⟩

/-! ## QUEUE_LEVEL_SYNC (R189, R190) -/

theorem levelSync_counts_write (hpart : isBlock d sec b = true) : Completes (.queueLevelSync d sec b true) s (fun t =>
    (∀ a rest, (s.queue d sec b).wPend = a :: rest → s.syncFrom d sec b ≤ a →
      t.queue d sec b = { s.queue d sec b with wPend := rest, rLevel := (s.queue d sec b).rLevel + 1 }) ∧
    ((s.queue d sec b).wPend = [] ∨ (∃ a ∈ (s.queue d sec b).wPend.head?, a < s.syncFrom d sec b) → t = s)) := by
  refine completes_of_kept rfl hpart (s.levelSync_pending ..) ?_
  cases hpend : (s.queue d sec b).wPend with
  | nil => simp [levelSync, hpend]
  | cons a rest =>
    by_cases hage : s.syncFrom d sec b ≤ a
    · simp [levelSync, hpend, hage, Nat.not_lt.2 hage]
    · simp [levelSync, hpend, hage]

theorem levelSync_counts_read (hpart : isBlock d sec b = true) : Completes (.queueLevelSync d sec b false) s (fun t =>
    (∀ a rest, (s.queue d sec b).rPend = a :: rest → s.syncFrom d sec b ≤ a →
      t.queue d sec b = { s.queue d sec b with rPend := rest, wLevel := (s.queue d sec b).wLevel - 1 }) ∧
    ((s.queue d sec b).rPend = [] ∨ (∃ a ∈ (s.queue d sec b).rPend.head?, a < s.syncFrom d sec b) → t = s)) := by
  refine completes_of_kept rfl hpart (s.levelSync_pending ..) ?_
  cases hpend : (s.queue d sec b).rPend with
  | nil => simp [levelSync, hpend]
  | cons a rest =>
    by_cases hage : s.syncFrom d sec b ≤ a
    · simp [levelSync, hpend, hage, Nat.not_lt.2 hage]
    · simp [levelSync, hpend, hage]

/-! ## QRST (R192) -/

theorem qrst_completes {p : State → Prop} (hpart : isBlock d sec b = true)
    (h : p (if s.gsrActive d sec then s else s.queueReset d sec b (s.attachIn d sec (blockBase b + 97)))) :
    Completes (.qrst d sec b) s p := by
  refine completes_of_kept rfl hpart ?_ h
  split
  · rfl
  · exact s.queueReset_pending ..

/-- A queue that `QRST` holds shows itself full and empty. -/
theorem qFlags_of_qrst (h : (t.queue d sec b).qrst = true) : t.qFull d sec b = true ∧ t.qEmpty d sec b = true ∧
    t.qAFull d sec b = true ∧ t.qAEmpty d sec b = true := by
  simp [qFull, qEmpty, qAFull, qAEmpty, qWriteOpen, qReadOpen, h]

theorem queueReset_on (hqueue : s.isQueue d sec b = true) : s.queueReset d sec b true =
    ((s.queueWrite d sec b 0).queueDrain d sec b).setQueue d sec b { qrst := true } := by
  simp [queueReset, hqueue]

theorem queueReset_off (hqueue : s.isQueue d sec b = true) (hrst : (s.queue d sec b).qrst = true) :
    s.queueReset d sec b false = s.setQueue d sec b { wWait := 3, rWait := 3 } := by
  simp [queueReset, hqueue, hrst]

theorem queueReset_same (h : s.isQueue d sec b = false ∨ (s.queue d sec b).qrst = false) : s.queueReset d sec b false = s := by
  rcases h with h | h <;> simp [queueReset, h]

/-- With nothing under way and nothing staged the rising `QRST` stores nothing. -/
theorem queueDrained_words (hdue : (s.queue d sec b).wDue = none) (hstage : (s.queue d sec b).stage = []) :
    SameWords s ((s.queueWrite d sec b 0).queueDrain d sec b) := by
  rw [queueWrite_of_none hdue, queueDrain, hstage]
  exact sameWords_setQueue ..

theorem qrst_holds (hpart : isBlock d sec b = true) :
    let q := s.queue d sec b
    let rst := s.attachIn d sec (blockBase b + 97)
    Completes (.qrst d sec b) s (fun t =>
      (s.gsrActive d sec = true ∨ s.isQueue d sec b = false ∨ (rst = false ∧ q.qrst = false) → t = s) ∧
      (s.gsrActive d sec = false → s.isQueue d sec b = true → rst = true → t.queue d sec b = { qrst := true } ∧
        (q.wDue = none → q.stage = [] → StoresSame s t) ∧
        t.qFull d sec b = true ∧ t.qEmpty d sec b = true ∧ t.qAFull d sec b = true ∧ t.qAEmpty d sec b = true) ∧
      (s.gsrActive d sec = false → s.isQueue d sec b = true → rst = false → q.qrst = true →
        t.queue d sec b = { wWait := 3, rWait := 3 } ∧ StoresSame s t)) := by
  refine qrst_completes hpart ⟨fun hsame => ?same, fun hgsr hqueue hrst => ?rises, fun hgsr hqueue hrst hheld => ?falls⟩
  case same =>
    rcases hsame with hgsr | hqueue | ⟨hrst, hheld⟩
    · rw [if_pos hgsr]
    · simp [queueReset, hqueue]
    · simp [hrst, queueReset_same (.inr hheld)]
  case rises =>
    rw [hgsr, if_neg Bool.false_ne_true, hrst, queueReset_on hqueue]
    have hq : ((((s.queueWrite d sec b 0).queueDrain d sec b).setQueue d sec b { qrst := true }).queue d sec b) = { qrst := true } :=
      queue_setQueue ..
    exact ⟨hq, fun hdue hstage => ((queueDrained_words hdue hstage).trans (sameWords_setQueue ..)).stores, qFlags_of_qrst (by rw [hq])⟩
  case falls =>
    rw [hgsr, if_neg Bool.false_ne_true, hrst, queueReset_off hqueue hheld]
    exact ⟨queue_setQueue .., (sameWords_setQueue ..).stores⟩

end State
end Sys2Proof.Machine
end

section
namespace Sys2Proof

open Machine

/-- Settles O27: of the blocks that an edge serves only the queue's own part touches what its sides depend on, and its write and its read
decide one side each; a command stores, presents or counts what was taken. -/
theorem queueControllersKeepTheirTwoLevels : Obligations.QueueControllersKeepTheirTwoLevels := by
  intro s d sec b hpart page sctl q cap wa ra old r base rst
  obtain ⟨hsec, hb⟩ := State.isBlock_iff.1 hpart
  refine ⟨fun t n hqueue hrst hfree => ⟨?refusesWrite, ?takesWrite, ?refusesRead, ?takesRead⟩, fun flip hnone => ?noWrite,
    fun flip hnone => ?noRead, fun data hdue => ⟨?stores, ?stages⟩, State.queueRead_presents hpart, State.levelSync_counts_write hpart,
    State.levelSync_counts_read hpart, State.qrst_holds hpart⟩
  case refusesWrite => exact State.queueTakes_refuses_write hsec hb hqueue hrst hfree
  case takesWrite => exact State.queueTakes_takes_write hsec hb hqueue hrst hfree
  case refusesRead => exact State.queueTakes_refuses_read hsec hb hqueue hrst hfree
  case takesRead => exact State.queueTakes_takes_read hsec hb hqueue hrst hfree
  case noWrite => exact State.queueWrite_completes hpart (State.queueWrite_of_none hnone flip)
  case noRead => exact State.queueRead_completes hpart (State.queueRead_of_none hnone flip)
  case stores => exact State.queueWrite_stores hpart hdue
  case stages => exact State.queueWrite_stages hpart hdue

end Sys2Proof
end
